-- ==== Sys2Proof/Word.lean ====
section
/-! DEFINITION. The word types of the unit: 32-bit registers (R9), bytes, and byte strings. -/

namespace Sys2Proof

/-- A register, 32 bits wide (R9). -/
abbrev Word := BitVec 32

/-- One byte of a memory window or a wire format. -/
abbrev Byte := BitVec 8

/-- A byte string, first byte first; multi-byte fields in it are big-endian (R7). -/
abbrev Bytes := List (BitVec 8)

end Sys2Proof
end

