-- ==== Sys2Proof/Machine/Aes.lean ====
section
/-! DEFINITION. Byte-order helpers, the check codes of R8, and the block cipher of FIPS 197 (Table 0-2, R345).
The cipher itself is PRESUMED from the standard the spec names; the log entry on the crypto standards says so. -/

namespace Sys2Proof.Machine

/-- The number a big-endian byte string spells (R7). -/
def beNat : Bytes → Nat := List.foldl (fun a b => a * 256 + b.toNat) 0

/-- The number a little-endian byte string spells (windows, R9). -/
def leNat : Bytes → Nat := List.foldr (fun b a => a * 256 + b.toNat) 0

/-- `n` bytes, big-endian (R7). -/
def be : (n : Nat) → Nat → Bytes
  | 0, _ => []
  | n + 1, v => be n (v / 256) ++ [BitVec.ofNat 8 v]

/-- `n` bytes, little-endian (R9). -/
def le : (n : Nat) → Nat → Bytes
  | 0, _ => []
  | n + 1, v => BitVec.ofNat 8 v :: le n (v / 256)

/-- `n` zero bytes. -/
def zeros (n : Nat) : Bytes := List.replicate n 0

/-- The string cut or filled with zero bytes to `n` bytes. -/
def fit (n : Nat) (b : Bytes) : Bytes := (b ++ zeros n).take n

/-- The ASCII bytes of a label. -/
def ascii (s : String) : Bytes := s.toList.map (fun c => BitVec.ofNat 8 c.toNat)

/-- Bytes `[i, i + n)` of a string; bytes past its end read 0. -/
def sub (b : Bytes) (i n : Nat) : Bytes := fit n (b.drop i)

/-- The big-endian field of `n` bytes at `i`. -/
def fieldBe (b : Bytes) (i n : Nat) : Nat := beNat (sub b i n)

/-- The value of a two's complement field of `w` bits. -/
def toInt (w v : Nat) : Int := if 2 ^ (w - 1) ≤ v then (v : Int) - 2 ^ w else v

/-- The two's complement field of `w` bits that holds `i` (wrapping). -/
def ofInt (w : Nat) (i : Int) : Nat := (i % (2 ^ w : Int)).toNat

/-- An integer kept within `lo` and `hi`. -/
def clampInt (lo hi i : Int) : Int := max lo (min hi i)

/-- Exclusive-or of two byte strings, as long as the shorter. -/
def xorBytes (a b : Bytes) : Bytes := List.zipWith (· ^^^ ·) a b

/-- A byte string in blocks of `n` bytes; the fuel is its length. -/
def chunksAux (n : Nat) : Nat → Bytes → List Bytes
  | 0, _ => []
  | f + 1, b => if b = [] then [] else b.take n :: chunksAux n f (b.drop n)

/-- A byte string in blocks of `n` bytes, the last one perhaps shorter. -/
def chunks (n : Nat) (b : Bytes) : List Bytes := chunksAux n b.length b

/-- Eight bits of a CRC shifted left (not reflected). -/
def crcLeft (w poly : Nat) : Nat → Nat → Nat
  | 0, c => c
  | k + 1, c =>
    let d := c * 2
    crcLeft w poly k (if 2 ^ w ≤ d then (d % 2 ^ w) ^^^ poly else d)

/-- CRC-8 of R8: polynomial 0x07, initial value 0, not reflected. -/
def crc8 (b : Bytes) : Nat := b.foldl (fun c x => crcLeft 8 0x07 8 (c ^^^ x.toNat)) 0

/-- CRC-16 of R8: polynomial 0x1021, initial value 0xFFFF, not reflected. -/
def crc16 (b : Bytes) : Nat := b.foldl (fun c x => crcLeft 16 0x1021 8 (c ^^^ (x.toNat * 256))) 0xFFFF

/-- Bits of a reflected CRC shifted right. -/
def crcRight (poly : Nat) : Nat → Nat → Nat
  | 0, c => c
  | k + 1, c => crcRight poly k (if c % 2 = 1 then (c / 2) ^^^ poly else c / 2)

/-- CRC-32C of R8: polynomial 0x1EDC_6F41 reflected, initial value and final exclusive-or 0xFFFF_FFFF. -/
def crc32c (b : Bytes) : Nat :=
  (b.foldl (fun c x => crcRight 0x82F63B78 8 (c ^^^ x.toNat)) 0xFFFFFFFF) ^^^ 0xFFFFFFFF

/-- The substitution box of FIPS 197, entry `x` in byte `x`. -/
def aesSboxTable : Nat := 0x16bb54b00f2d99416842e6bf0d89a18cdf2855cee9871e9b948ed9691198f8e19e1dc186b95735610ef6034866b53e708a8bbd4b1f74dde8c6b4a61c2e2578ba08ae7a65eaf4566ca94ed58d6d37c8e779e4959162acd3c25c2406490a3a32e0db0b5ede14b8ee4688902a22dc4f816073195d643d7ea7c41744975fec130ccdd2f3ff1021dab6bcf5389d928f40a351a89f3c507f02f94585334d43fbaaefd0cf584c4a39becb6a5bb1fc20ed00d153842fe329b3d63b52a05a6e1b1a2c830975b227ebe28012079a059618c323c7041531d871f1e5a534ccf73f362693fdb7c072a49cafa2d4adf04759fa7dc982ca76abd7fe2b670130c56f6bf27b777c63

/-- The inverse substitution box, entry `x` in byte `x`. -/
def aesInvSboxTable : Nat := 0x7d0c2155631469e126d677ba7e042b17619953833cbbebc8b0f52aae4d3be0a0ef9cc9939f7ae52d0d4ab519a97f51605fec8027591012b131c7078833a8dd1ff45acd78fec0db9a2079d2c64b3e56fc1bbe18aa0e62b76f89c5291d711af1476edf751ce837f9e28535ade72274ac9673e6b4f0cecff297eadc674f4111913a6b8a130103bdafc1020f3fca8f1e2cd00645b3b80558e4f70ad3bc8c00abd890849d8da75746155edab9edfd5048706c92b6655dcc5ca4d41698688664f6f87225d18b6d49a25b76b224d92866a12e084ec3fa420b954cee3d23c2a632947b54cbe9dec444438e3487ff2f9b8239e37cfbd7f3819ea340bf38a53630d56a0952

def aesSbox (x : Nat) : Nat := (aesSboxTable >>> (8 * x)) % 256

def aesInvSbox (x : Nat) : Nat := (aesInvSboxTable >>> (8 * x)) % 256

/-- Multiplication by x in GF(2^8). -/
def xtime (b : Nat) : Nat := if 128 ≤ b then (2 * b) ^^^ 0x11B else 2 * b

/-- Multiplication in GF(2^8) by a constant of at most four bits. -/
def gmul (k b : Nat) : Nat :=
  let b2 := xtime b
  let b4 := xtime b2
  let b8 := xtime b4
  (if k % 2 = 1 then b else 0) ^^^ (if k / 2 % 2 = 1 then b2 else 0) ^^^
    (if k / 4 % 2 = 1 then b4 else 0) ^^^ (if k / 8 % 2 = 1 then b8 else 0)

/-- Substitution of each byte of a 32-bit word. -/
def aesSubWord (w : Nat) : Nat :=
  aesSbox (w / 0x1000000 % 256) * 0x1000000 + aesSbox (w / 0x10000 % 256) * 0x10000 +
    aesSbox (w / 0x100 % 256) * 0x100 + aesSbox (w % 256)

/-- Rotation of a 32-bit word by one byte. -/
def aesRotWord (w : Nat) : Nat := w * 256 % 0x100000000 + w / 0x1000000

/-- Round constants 1 to 10. -/
def aesRcon (i : Nat) : Nat := [0, 1, 2, 4, 8, 16, 32, 64, 128, 0x1B, 0x36].getD i 0 * 0x1000000

/-- `f` more words of the key schedule, newest word first. -/
def aesExpandAux (nk : Nat) : Nat → Nat → List Nat → List Nat
  | 0, _, ws => ws
  | f + 1, i, ws =>
    let t := ws.headD 0
    let t := if i % nk = 0 then aesSubWord (aesRotWord t) ^^^ aesRcon (i / nk)
      else if 6 < nk ∧ i % nk = 4 then aesSubWord t else t
    aesExpandAux nk f (i + 1) ((ws.getD (nk - 1) 0 ^^^ t) :: ws)

/-- The words of a key, 16 or 32 bytes. -/
def wordsOf (b : Bytes) : List Nat := (chunks 4 b).map beNat

/-- Round keys as byte lists, first round first. -/
def aesSchedule (key : Bytes) : List (List Nat) :=
  let nk := if 16 < key.length then 8 else 4
  let ws := (aesExpandAux nk (4 * (nk + 7) - nk) nk (wordsOf (fit (4 * nk) key)).reverse).reverse
  let bytes := ws.flatMap (fun w => [w / 0x1000000 % 256, w / 0x10000 % 256, w / 0x100 % 256, w % 256])
  (List.range (nk + 7)).map (fun r => (bytes.drop (16 * r)).take 16)

def xorNats (a b : List Nat) : List Nat := List.zipWith (· ^^^ ·) a b

/-- ShiftRows: byte 4c + r comes from column c + r. -/
def aesShiftRows (s : List Nat) : List Nat :=
  [0, 5, 10, 15, 4, 9, 14, 3, 8, 13, 2, 7, 12, 1, 6, 11].map (fun i => s.getD i 0)

def aesInvShiftRows (s : List Nat) : List Nat :=
  [0, 13, 10, 7, 4, 1, 14, 11, 8, 5, 2, 15, 12, 9, 6, 3].map (fun i => s.getD i 0)

/-- One column times the circulant matrix of the four factors. -/
def aesMixCol (k0 k1 k2 k3 : Nat) : List Nat → List Nat
  | a :: b :: c :: d :: rest =>
    (gmul k0 a ^^^ gmul k1 b ^^^ gmul k2 c ^^^ gmul k3 d) ::
    (gmul k3 a ^^^ gmul k0 b ^^^ gmul k1 c ^^^ gmul k2 d) ::
    (gmul k2 a ^^^ gmul k3 b ^^^ gmul k0 c ^^^ gmul k1 d) ::
    (gmul k1 a ^^^ gmul k2 b ^^^ gmul k3 c ^^^ gmul k0 d) :: aesMixCol k0 k1 k2 k3 rest
  | _ => []

/-- The rounds after the first key addition. -/
def aesRounds : List (List Nat) → List Nat → List Nat
  | [], s => s
  | [k], s => xorNats (aesShiftRows (s.map aesSbox)) k
  | k :: ks, s => aesRounds ks (xorNats (aesMixCol 2 3 1 1 (aesShiftRows (s.map aesSbox))) k)

def aesInvRounds : List (List Nat) → List Nat → List Nat
  | [], s => s
  | [k], s => xorNats ((aesInvShiftRows s).map aesInvSbox) k
  | k :: ks, s => aesInvRounds ks (aesMixCol 14 11 13 9 (xorNats ((aesInvShiftRows s).map aesInvSbox) k))

/-- One block enciphered under a schedule. -/
def aesWith (sched : List (List Nat)) (block : Bytes) : Bytes :=
  ((aesRounds sched.tail (xorNats (block.map BitVec.toNat) (sched.headD []))).map (BitVec.ofNat 8))

/-- One block enciphered (FIPS 197), AES-128 or AES-256 by the key's length. -/
def aesEnc (key block : Bytes) : Bytes := aesWith (aesSchedule key) (fit 16 block)

/-- One block deciphered (FIPS 197). -/
def aesDec (key block : Bytes) : Bytes :=
  let sched := (aesSchedule key).reverse
  ((aesInvRounds sched.tail (xorNats ((fit 16 block).map BitVec.toNat) (sched.headD []))).map (BitVec.ofNat 8))

end Sys2Proof.Machine
end

