-- ==== Sys2Proof/Machine/Sha.lean ====
section
/-! DEFINITION. SHA-256 and HMAC-SHA-256 (FIPS 180-4, FIPS 198-1; Table 0-2, R345), PRESUMED from the standards the spec names. -/

namespace Sys2Proof.Machine

/-- Rotation of a 32-bit word to the right. -/
def rotr (n x : Nat) : Nat := (x >>> n) ||| ((x <<< (32 - n)) % 0x100000000)

def shaK : List Nat :=
  [0x428A2F98, 0x71374491, 0xB5C0FBCF, 0xE9B5DBA5, 0x3956C25B, 0x59F111F1, 0x923F82A4, 0xAB1C5ED5] ++
  [0xD807AA98, 0x12835B01, 0x243185BE, 0x550C7DC3, 0x72BE5D74, 0x80DEB1FE, 0x9BDC06A7, 0xC19BF174] ++
  [0xE49B69C1, 0xEFBE4786, 0x0FC19DC6, 0x240CA1CC, 0x2DE92C6F, 0x4A7484AA, 0x5CB0A9DC, 0x76F988DA] ++
  [0x983E5152, 0xA831C66D, 0xB00327C8, 0xBF597FC7, 0xC6E00BF3, 0xD5A79147, 0x06CA6351, 0x14292967] ++
  [0x27B70A85, 0x2E1B2138, 0x4D2C6DFC, 0x53380D13, 0x650A7354, 0x766A0ABB, 0x81C2C92E, 0x92722C85] ++
  [0xA2BFE8A1, 0xA81A664B, 0xC24B8B70, 0xC76C51A3, 0xD192E819, 0xD6990624, 0xF40E3585, 0x106AA070] ++
  [0x19A4C116, 0x1E376C08, 0x2748774C, 0x34B0BCB5, 0x391C0CB3, 0x4ED8AA4A, 0x5B9CCA4F, 0x682E6FF3] ++
  [0x748F82EE, 0x78A5636F, 0x84C87814, 0x8CC70208, 0x90BEFFFA, 0xA4506CEB, 0xBEF9A3F7, 0xC67178F2]

def shaInit : List Nat := [0x6A09E667, 0xBB67AE85, 0x3C6EF372, 0xA54FF53A, 0x510E527F, 0x9B05688C, 0x1F83D9AB, 0x5BE0CD19]

/-- `f` more words of the message schedule, newest first. -/
def shaExpand : Nat → List Nat → List Nat
  | 0, ws => ws
  | f + 1, ws =>
    let w15 := ws.getD 14 0
    let w2 := ws.getD 1 0
    let s0 := rotr 7 w15 ^^^ rotr 18 w15 ^^^ (w15 >>> 3)
    let s1 := rotr 17 w2 ^^^ rotr 19 w2 ^^^ (w2 >>> 10)
    shaExpand f (((ws.getD 15 0 + s0 + ws.getD 6 0 + s1) % 0x100000000) :: ws)

/-- The eight working variables. -/
structure ShaVars where
  a : Nat
  b : Nat
  c : Nat
  d : Nat
  e : Nat
  f : Nat
  g : Nat
  h : Nat
  deriving DecidableEq, Repr

def shaRounds : List Nat → List Nat → ShaVars → ShaVars
  | k :: ks, w :: ws, v =>
    let s1 := rotr 6 v.e ^^^ rotr 11 v.e ^^^ rotr 25 v.e
    let ch := (v.e &&& v.f) ^^^ ((0xFFFFFFFF ^^^ v.e) &&& v.g)
    let t1 := v.h + s1 + ch + k + w
    let s0 := rotr 2 v.a ^^^ rotr 13 v.a ^^^ rotr 22 v.a
    let mj := (v.a &&& v.b) ^^^ (v.a &&& v.c) ^^^ (v.b &&& v.c)
    shaRounds ks ws
      ⟨(t1 + s0 + mj) % 0x100000000, v.a, v.b, v.c, (v.d + t1) % 0x100000000, v.e, v.f, v.g⟩
  | _, _, v => v

/-- One 64-byte block taken into the hash value. -/
def shaBlock (h : List Nat) (blk : Bytes) : List Nat :=
  let ws := (shaExpand 48 (wordsOf blk).reverse).reverse
  let v := shaRounds shaK ws ⟨h.getD 0 0, h.getD 1 0, h.getD 2 0, h.getD 3 0, h.getD 4 0, h.getD 5 0, h.getD 6 0, h.getD 7 0⟩
  List.zipWith (fun x y => (x + y) % 0x100000000) h [v.a, v.b, v.c, v.d, v.e, v.f, v.g, v.h]

/-- Padding of FIPS 180-4. -/
def shaPad (m : Bytes) : Bytes :=
  m ++ [0x80] ++ zeros ((119 - m.length % 64) % 64) ++ be 8 (8 * m.length)

/-- SHA-256. -/
def sha256 (m : Bytes) : Bytes := ((chunks 64 (shaPad m)).foldl shaBlock shaInit).flatMap (be 4)

/-- HMAC-SHA-256; a key longer than a block is hashed first. -/
def hmac (key m : Bytes) : Bytes :=
  let k := fit 64 (if 64 < key.length then sha256 key else key)
  sha256 (k.map (· ^^^ 0x5C) ++ sha256 (k.map (· ^^^ 0x36) ++ m))

end Sys2Proof.Machine
end

