-- ==== Sys2Proof/Machine/P256.lean ====
section
/-! DEFINITION. The curve P-256: key pairs, ECDSA and ECDH (FIPS 186-5, SP 800-56A; Table 0-2, R345), PRESUMED from the
standards the spec names. Numbers are field elements or scalars; a point is kept in Jacobian form while it is worked on. -/

namespace Sys2Proof.Machine

/-- The field's prime. -/
def p256p : Nat := 0xffffffff00000001000000000000000000000000ffffffffffffffffffffffff
/-- The group's order n. -/
def p256n : Nat := 0xffffffff00000000ffffffffffffffffbce6faada7179e84f3b9cac2fc632551
def p256b : Nat := 0x5ac635d8aa3a93e7b3ebbd55769886bc651d06b0cc53b0f63bce3c3e27d2604b
def p256gx : Nat := 0x6b17d1f2e12c4247f8bce6e563a440f277037d812deb33a0f4a13945d898c296
def p256gy : Nat := 0x4fe342e2fe1a7f9b8ee7eb4a7c0f9e162bce33576b315ececbb6406837bf51f5

/-- `b ^ e mod m` by squaring, over the low `f` bits of `e`. -/
def powModAux (m : Nat) : Nat → Nat → Nat → Nat → Nat
  | 0, _, _, acc => acc
  | f + 1, b, e, acc => powModAux m f (b * b % m) (e / 2) (if e % 2 = 1 then acc * b % m else acc)

def powMod (m b e : Nat) : Nat := powModAux m 256 (b % m) e 1

/-- Inverse modulo a prime. -/
def invMod (m a : Nat) : Nat := powMod m a (m - 2)

def subP (a b : Nat) : Nat := (a + p256p - b % p256p) % p256p

/-- A point in Jacobian coordinates; `z = 0` is the point at infinity. -/
structure JPoint where
  x : Nat
  y : Nat
  z : Nat
  deriving DecidableEq, Repr

def JPoint.dbl (q : JPoint) : JPoint :=
  let zz := q.z * q.z % p256p
  let yy := q.y * q.y % p256p
  let beta := q.x * yy % p256p
  let alpha := 3 * (subP q.x zz) * ((q.x + zz) % p256p) % p256p
  let x3 := subP (alpha * alpha) (8 * beta)
  let z3 := subP (subP ((q.y + q.z) * (q.y + q.z)) yy) zz
  let y3 := subP (alpha * subP (4 * beta) x3) (8 * (yy * yy))
  ⟨x3, y3, z3⟩

def JPoint.add (a b : JPoint) : JPoint :=
  if a.z = 0 then b else if b.z = 0 then a else
  let z1z1 := a.z * a.z % p256p
  let z2z2 := b.z * b.z % p256p
  let u1 := a.x * z2z2 % p256p
  let u2 := b.x * z1z1 % p256p
  let s1 := a.y * b.z % p256p * z2z2 % p256p
  let s2 := b.y * a.z % p256p * z1z1 % p256p
  if u1 = u2 then
    if s1 = s2 then a.dbl else ⟨1, 1, 0⟩
  else
    let h := subP u2 u1
    let r := subP s2 s1
    let hh := h * h % p256p
    let hhh := h * hh % p256p
    let v := u1 * hh % p256p
    let x3 := subP (subP (r * r) hhh) (2 * v)
    let y3 := subP (r * subP v x3) (s1 * hhh)
    ⟨x3, y3, a.z * b.z % p256p * h % p256p⟩

/-- The low `f` bits of `k` times a point, by doubling and adding from the lowest bit. -/
def JPoint.mulAux : Nat → Nat → JPoint → JPoint → JPoint
  | 0, _, _, acc => acc
  | f + 1, k, q, acc => JPoint.mulAux f (k / 2) q.dbl (if k % 2 = 1 then acc.add q else acc)

def JPoint.mul (k : Nat) (q : JPoint) : JPoint := JPoint.mulAux 256 k q ⟨1, 1, 0⟩

/-- The affine coordinates, none for the point at infinity. -/
def JPoint.affine (q : JPoint) : Option (Nat × Nat) :=
  if q.z = 0 then none else
  let zi := invMod p256p q.z
  let zi2 := zi * zi % p256p
  some (q.x * zi2 % p256p, q.y * zi2 % p256p * zi % p256p)

def p256G : JPoint := ⟨p256gx, p256gy, 1⟩

/-- Whether an affine point lies on the curve (R345, ECDH: peer point checked on the curve). -/
def p256On (x y : Nat) : Bool :=
  x < p256p && y < p256p && (y * y % p256p == (x * x % p256p * x + 3 * p256p - 3 * x + p256b) % p256p)

/-- y of a point from its x and the parity of y (R324). -/
def p256Y (x parity : Nat) : Option Nat :=
  let rhs := (x * x % p256p * x + 3 * p256p - 3 * (x % p256p) + p256b) % p256p
  let y := powMod p256p rhs ((p256p + 1) / 4)
  if y * y % p256p = rhs then some (if y % 2 = parity then y else p256p - y) else none

/-- The public point of a private key, x ‖ y. -/
def p256Public (d : Nat) : Bytes :=
  match (p256G.mul d).affine with
  | some (x, y) => be 32 x ++ be 32 y
  | none => zeros 64

/-- ECDSA with a digest and a nonce k: r ‖ s, none where the nonce must be drawn again. -/
def ecdsaSign (d : Nat) (digest : Bytes) (k : Nat) : Option Bytes :=
  if k = 0 ∨ p256n ≤ k then none else
  match (p256G.mul k).affine with
  | none => none
  | some (x, _) =>
    let r := x % p256n
    let s := invMod p256n k * ((beNat digest + r * d) % p256n) % p256n
    if r = 0 ∨ s = 0 then none else some (be 32 r ++ be 32 s)

/-- ECDSA verification of r ‖ s over a digest with the public point x ‖ y. -/
def ecdsaVerify (pub digest sig : Bytes) : Bool :=
  let x := fieldBe pub 0 32
  let y := fieldBe pub 32 32
  let r := fieldBe sig 0 32
  let s := fieldBe sig 32 32
  if r = 0 ∨ p256n ≤ r ∨ s = 0 ∨ p256n ≤ s ∨ p256On x y = false then false else
  let w := invMod p256n s
  let u1 := beNat digest * w % p256n
  let u2 := r * w % p256n
  match ((p256G.mul u1).add (JPoint.mul u2 ⟨x, y, 1⟩)).affine with
  | none => false
  | some (vx, _) => vx % p256n == r

/-- ECDH: the x-coordinate of d times the peer point, none where the point is off the curve or the product is infinite. -/
def ecdh (d : Nat) (pub : Bytes) : Option Bytes :=
  let x := fieldBe pub 0 32
  let y := fieldBe pub 32 32
  if p256On x y = false then none else
  match (JPoint.mul d ⟨x, y, 1⟩).affine with
  | none => none
  | some (z, _) => some (be 32 z)

end Sys2Proof.Machine
end

