-- ==== Sys2Proof/Machine/Modes.lean ====
section
/-! DEFINITION. The modes of R345 (CBC, CTR, CCM, GCM, CMAC), the SP 800-108 derivation in counter mode, and CTR_DRBG with
the derivation function (R352), PRESUMED from the standards the spec names (Table 0-2) where the spec gives no formula. -/

namespace Sys2Proof.Machine

/-- Whole 16-byte blocks, the last filled with zero bytes. -/
def blocks16 (b : Bytes) : List Bytes := (chunks 16 b).map (fit 16)

def cbcEncAux (sched : List (List Nat)) : Bytes → List Bytes → Bytes
  | _, [] => []
  | iv, b :: bs =>
    let c := aesWith sched (xorBytes iv b)
    c ++ cbcEncAux sched c bs

/-- CBC encryption of whole blocks. -/
def cbcEnc (key iv data : Bytes) : Bytes := cbcEncAux (aesSchedule key) (fit 16 iv) (blocks16 data)

def cbcDecAux (key : Bytes) : Bytes → List Bytes → Bytes
  | _, [] => []
  | iv, b :: bs => xorBytes iv (aesDec key b) ++ cbcDecAux key b bs

/-- CBC decryption of whole blocks. -/
def cbcDec (key iv data : Bytes) : Bytes := cbcDecAux key (fit 16 iv) (blocks16 data)

/-- The counter block whose last four bytes are advanced by `i` modulo 2^32 (R345). -/
def ctrBlock (cb : Bytes) (i : Nat) : Bytes := cb.take 12 ++ be 4 ((fieldBe cb 12 4 + i) % 0x100000000)

def ctrAux (sched : List (List Nat)) (cb : Bytes) : Nat → List Bytes → Bytes
  | _, [] => []
  | i, b :: bs => xorBytes b (aesWith sched (ctrBlock cb i)) ++ ctrAux sched cb (i + 1) bs

/-- CTR with the initial counter block; encryption and decryption are the same. -/
def ctrCrypt (key cb data : Bytes) : Bytes := ctrAux (aesSchedule key) (fit 16 cb) 0 (chunks 16 data)

/-- CBC-MAC of whole blocks under a zero initial block. -/
def cbcMac (sched : List (List Nat)) (bs : List Bytes) : Bytes :=
  bs.foldl (fun acc b => aesWith sched (xorBytes acc b)) (zeros 16)

/-- CCM's formatted blocks: B0, the length-prefixed additional data, the payload (SP 800-38C, L = 2 or by the nonce). -/
def ccmBlocks (tagLen : Nat) (nonce aad data : Bytes) : List Bytes :=
  let q := 15 - nonce.length
  let flags := (if aad = [] then 0 else 64) + (tagLen - 2) / 2 * 8 + (q - 1)
  let a := if aad = [] then [] else blocks16 (be 2 aad.length ++ aad)
  ([BitVec.ofNat 8 flags] ++ nonce ++ be q data.length) :: a ++ blocks16 data

def ccmCtr (nonce : Bytes) (i : Nat) : Bytes :=
  let q := 15 - nonce.length
  [BitVec.ofNat 8 (q - 1)] ++ nonce ++ be q i

/-- CCM: ciphertext and tag of `tagLen` bytes. -/
def ccmEnc (key nonce aad data : Bytes) (tagLen : Nat) : Bytes × Bytes :=
  let sched := aesSchedule key
  let t := cbcMac sched (ccmBlocks tagLen nonce aad data)
  (ctrAux sched (ccmCtr nonce 1) 0 (chunks 16 data), (xorBytes t (aesWith sched (ccmCtr nonce 0))).take tagLen)

/-- CCM decryption: the plaintext, none where the tag fails. -/
def ccmDec (key nonce aad data tag : Bytes) : Option Bytes :=
  let plain := ctrAux (aesSchedule key) (ccmCtr nonce 1) 0 (chunks 16 data)
  if (ccmEnc key nonce aad plain tag.length).2 = tag then some plain else none

/-- One bit at a time of the GCM field product. -/
def gfMulAux : Nat → Nat → Nat → Nat → Nat
  | 0, _, _, z => z
  | f + 1, x, v, z =>
    gfMulAux f x (if v % 2 = 1 then (v / 2) ^^^ (0xE1 * 2 ^ 120) else v / 2)
      (if x / 2 ^ f % 2 = 1 then z ^^^ v else z)

/-- The product in GF(2^128) of SP 800-38D. -/
def gfMul (x y : Nat) : Nat := gfMulAux 128 x y 0

/-- GHASH of whole blocks. -/
def ghash (h : Nat) (bs : List Bytes) : Nat := bs.foldl (fun y b => gfMul (y ^^^ beNat b) h) 0

/-- GCM with a 12-byte IV: ciphertext and tag. -/
def gcmTag (key iv aad cipher : Bytes) (tagLen : Nat) : Bytes :=
  let sched := aesSchedule key
  let h := beNat (aesWith sched (zeros 16))
  let s := ghash h (blocks16 aad ++ blocks16 cipher ++ [be 8 (8 * aad.length) ++ be 8 (8 * cipher.length)])
  (xorBytes (be 16 s) (aesWith sched (fit 12 iv ++ be 4 1))).take tagLen

def gcmEnc (key iv aad data : Bytes) (tagLen : Nat) : Bytes × Bytes :=
  let c := ctrAux (aesSchedule key) (fit 12 iv ++ be 4 2) 0 (chunks 16 data)
  (c, gcmTag key iv aad c tagLen)

def gcmDec (key iv aad data tag : Bytes) : Option Bytes :=
  if gcmTag key iv aad data tag.length = tag
  then some (ctrAux (aesSchedule key) (fit 12 iv ++ be 4 2) 0 (chunks 16 data)) else none

/-- Doubling in the field of CMAC (SP 800-38B). -/
def cmacDbl (x : Nat) : Nat :=
  let d := 2 * x
  if 2 ^ 128 ≤ d then (d % 2 ^ 128) ^^^ 0x87 else d

/-- CMAC, 16 bytes. -/
def cmac (key m : Bytes) : Bytes :=
  let sched := aesSchedule key
  let k1 := cmacDbl (beNat (aesWith sched (zeros 16)))
  let bs := chunks 16 m
  let last := bs.getLast?.getD []
  let last' := if last.length = 16 then xorBytes last (be 16 k1)
    else xorBytes (fit 16 (last ++ [0x80])) (be 16 (cmacDbl k1))
  cbcMac sched (bs.dropLast ++ [last'])

def kdfAux (key fixed : Bytes) : Nat → Nat → Bytes
  | 0, _ => []
  | f + 1, i => hmac key (be 4 i ++ fixed) ++ kdfAux key fixed f (i + 1)

/-- SP 800-108 in counter mode with HMAC-SHA-256 and the PRF input of R224: counter u32 from 1, label, 0x00, context,
length in bits u32. -/
def kdf (key label context : Bytes) (bits : Nat) : Bytes :=
  (kdfAux key (label ++ [0] ++ context ++ be 4 bits) ((bits + 255) / 256) 1).take (bits / 8)

/-- CTR_DRBG's working state (SP 800-90A, AES-256): key, V, and requests since the last (re)seed. -/
structure Drbg where
  key : Bytes
  v : Bytes
  reqs : Nat
  deriving DecidableEq, Repr

/-- V advanced by `i` modulo 2^128. -/
def drbgV (v : Bytes) (i : Nat) : Bytes := be 16 ((beNat v + i) % 2 ^ 128)

/-- The update function with 48 bytes of provided data. -/
def drbgUpdate (key v data : Bytes) : Bytes × Bytes :=
  let sched := aesSchedule key
  let t := xorBytes (aesWith sched (drbgV v 1) ++ aesWith sched (drbgV v 2) ++ aesWith sched (drbgV v 3)) (fit 48 data)
  (t.take 32, t.drop 32)

/-- The derivation function of SP 800-90A for 48 bytes of output. -/
def drbgDf (input : Bytes) : Bytes :=
  let s := be 4 input.length ++ be 4 48 ++ input ++ [0x80]
  let bs := blocks16 s
  let k0 := aesSchedule ((List.range 32).map (BitVec.ofNat 8))
  let bcc := fun (i : Nat) => cbcMac k0 ((be 4 i ++ zeros 12) :: bs)
  let t := bcc 0 ++ bcc 1 ++ bcc 2
  let sched := aesSchedule (t.take 32)
  let x1 := aesWith sched (t.drop 32)
  let x2 := aesWith sched x1
  x1 ++ x2 ++ aesWith sched x2

/-- Instantiation from entropy input, nonce and personalisation string (R352). -/
def drbgInit (entropy nonce perso : Bytes) : Drbg :=
  let kv := drbgUpdate (zeros 32) (zeros 16) (drbgDf (entropy ++ nonce ++ perso))
  ⟨kv.1, kv.2, 0⟩

/-- Reseed from entropy input, with no additional input (R353). -/
def drbgReseed (d : Drbg) (entropy : Bytes) : Drbg :=
  let kv := drbgUpdate d.key d.v (drbgDf entropy)
  ⟨kv.1, kv.2, 0⟩

/-- One request of `n` bytes, 1 to 64, with no additional input (R352). -/
def drbgGen (d : Drbg) (n : Nat) : Bytes × Drbg :=
  let sched := aesSchedule d.key
  let k := (n + 15) / 16
  let out := ((List.range k).flatMap (fun i => aesWith sched (drbgV d.v (i + 1)))).take n
  let kv := drbgUpdate d.key (drbgV d.v k) (zeros 48)
  (out, ⟨kv.1, kv.2, d.reqs + 1⟩)

end Sys2Proof.Machine
end

