-- ==== Sys2Proof/Machine/Types.lean ====
section
/-! DEFINITION. The names, frames, records and table entries that the commands carry and the state holds. -/

namespace Sys2Proof.Machine

/-! ### Masters, classes, answers (01) -/

/-- Priority classes of Table 1-4. -/
inductive Cls where
  | p0 | p1 | p2 | p3
  deriving DecidableEq, Repr

/-- Fabric masters of Table 1-3. -/
inductive Master where
  | session | ledger | can | sett | host | tag | debug
  deriving DecidableEq, Repr

/-- Fabric response status of Table 1-6; `silent` stands for no answer at all, which a dropped request gets (R33). -/
inductive FabStatus where
  | ok | busy | fault | off | denied | unmapped | escort | entropyWait | entropyFail | width | preempted | silent
  deriving DecidableEq, Repr

/-- Width of an access in bytes (R9). -/
inductive Width where
  | b8 | b16 | b32
  deriving DecidableEq, Repr

/-- Blocks of Table 20-4, and the blocks of the two regions that are never isolated (R439). -/
inductive Block where
  | lfCommon | bankA | bankB | ct | lane0 | lane1 | fox | den | crypto | entropy | ledger | memPort | rmc | can | sett
  | hpt | tag | session | zones | waymarks | fabric | aon | sup
  deriving DecidableEq, Repr

/-- Power domains of Table 19-3, in the bit order of PWR_DOM. -/
inductive Dom where
  | aon | sup | seq | lfa | lfb | ar0 | ar1 | fox | vlt | ldg | lnk | tag
  deriving DecidableEq, Repr

/-- Power states of Table 19-6; `reset` is the time between a reset and the next START_UP. -/
inductive PowState where
  | reset | on | doze | standby | sleep | hibernate
  deriving DecidableEq, Repr

/-- Reset sources of Table 3-1, in the order of their codes. -/
inductive Cause where
  | aonpor | supply | hiber | hedge | ecurst | extrst | debug
  deriving DecidableEq, Repr

/-- Actions of Table 20-1, in the order of their codes. -/
inductive Action where
  | log | isolate | reduce | shed | restart | halt
  deriving DecidableEq, Repr

/-- Where a datum came from, with its recomputation (Table 1-7): of a Sett frame its source and counter, of an air frame its lane. -/
inductive Source where
  | stored | measured
  | sett (src ctr : Nat)
  | air (lane : Nat)
  | can | host | tag | computed
  deriving DecidableEq, Repr

/-- The points where a datum enters the unit and receives its escorts (R26). -/
inductive Entry where
  | air | can | sett | host | tag | nor | nand | retained | sample | slot
  deriving DecidableEq, Repr

/-- A datum with its escorts, one CRC-32C for each 64 bytes (R26). -/
structure Datum where
  bytes : Bytes
  escorts : List Nat
  deriving DecidableEq, Repr

/-- A stored word of a cell with its parity bit (R15). -/
structure CellWord where
  word : Word
  parity : Bool
  deriving DecidableEq, Repr

/-- A cell whose ownership a P0 request may take: a bridge channel (R98), the receive path of a lane, a key slot (R16). -/
inductive Cell where
  | channel (n : Nat)
  | lane (n : Nat)
  | slot (n : Nat)
  deriving DecidableEq, Repr

/-- A register field: the register's address, the lowest bit, the width. -/
structure Fld where
  reg : Nat
  lo : Nat
  width : Nat
  deriving DecidableEq, Repr

/-- One row of the register tables: base address, how many and how far apart, and the write behaviour of its bits (R10). -/
structure RegRow where
  addr : Nat
  count : Nat
  stride : Nat
  rw : Nat
  w1c : Nat
  w1s : Nat
  wo : Nat
  deriving DecidableEq, Repr

/-! ### Records and frames -/

/-- A ledger record without NUM, MAC and CRC (Table 12-2). -/
structure Rec where
  typ : Nat
  src : Nat
  flags : Nat
  tsub : Nat
  secs : Nat
  body : Bytes
  deriving DecidableEq, Repr

/-- A Sett frame as it is on the wire (Table 4-1); `hdr` is the header word of Table 4-2. -/
structure SettFrame where
  hdr : Nat
  hcrc : Nat
  ctr : Nat
  payload : Bytes
  pcrc : Nat
  mac : Bytes
  deriving DecidableEq, Repr

/-- A CAN frame (R381): identifier, whether it has 29 bits, FD format, bit rate switch, remote frame, data bytes. -/
structure CanFrame where
  id : Nat
  ext : Bool
  fd : Bool
  brs : Bool
  remote : Bool
  data : Bytes
  deriving DecidableEq, Repr

/-- What the bus does with the frame that the controller offers, if it has one (R382, R383, ISO 11898-1): it is sent, it meets an error, or
another node's frame wins the bus and is received well or with an error. -/
inductive BusTurn where
  | sent | error | heard | heardError
  deriving DecidableEq, Repr

/-- A message of CANIDS waiting for the bus: message code and data (R382). -/
structure CanMsg where
  code : Nat
  data : Bytes
  deriving DecidableEq, Repr

/-! ### The image (02) -/

/-- UNITS entry. -/
structure UnitE where
  unit : Nat
  place : Nat
  coils : Nat
  aerials : Nat
  overhear : Nat
  deriving DecidableEq, Repr

/-- One profile of PROFILES. -/
structure ProfE where
  grade : Nat
  pl : Nat
  budget : Nat
  deriving DecidableEq, Repr

/-- PROFILES. -/
structure Profiles where
  vRoad : Nat
  tStop : Nat
  tWelcome : Nat
  vFrugal : Nat
  tConfirm : Nat
  entries : List ProfE
  deriving DecidableEq, Repr

/-- COILS entry. -/
structure CoilE where
  unit : Nat
  channel : Nat
  role : Nat
  current : Nat
  x : Int
  y : Int
  z : Int
  ax : Int
  ay : Int
  az : Int
  res : Nat
  deriving DecidableEq, Repr

/-- AERIALS entry. -/
structure AerialE where
  unit : Nat
  lane : Nat
  aerial : Nat
  x : Int
  y : Int
  z : Int
  delay : Int
  phase : Int
  deriving DecidableEq, Repr

/-- RF section. -/
structure RfSec where
  power : List Nat
  shaping : Nat
  bar : Nat
  fir : List Int
  mask : Bytes
  deriving DecidableEq, Repr

/-- CRYSTAL entry. -/
structure CrystalE where
  unit : Nat
  t0 : Int
  k : Int
  offset : Int
  deriving DecidableEq, Repr

/-- ZONES entry. -/
structure ZoneE where
  zone : Nat
  kind : Nat
  zmin : Int
  zmax : Int
  verts : List (Int × Int)
  deriving DecidableEq, Repr

/-- POLLS entry. -/
structure PollE where
  schedule : Nat
  profile : Nat
  period : Nat
  unit : Nat
  command : Nat
  tones : Nat
  vector : Nat
  mask : Nat
  vchans : List Nat
  deriving DecidableEq, Repr

/-- CANIDS entry. -/
structure CanidE where
  message : Nat
  flags : Nat
  ident : Nat
  period : Nat
  deriving DecidableEq, Repr

/-- CANIDS section. -/
structure CanidsSec where
  arb : Nat
  data : Nat
  j1939 : Nat
  name : Bytes
  entries : List CanidE
  deriving DecidableEq, Repr

/-- RING section. -/
structure RingSec where
  awakeMax : Nat
  own : Nat
  nodes : List Nat
  deriving DecidableEq, Repr

/-- WAYMARKS entry. -/
structure WaymarkE where
  waymark : Nat
  trigger : Nat
  action : Nat
  flags : Nat
  param : Nat
  param2 : Nat
  argument : Nat
  deriving DecidableEq, Repr

/-- MOTION section. -/
structure MotionSec where
  k : Int
  mode : Nat
  minPulse : Nat
  deriving DecidableEq, Repr

/-- FOBPOL section. -/
structure FobpolSec where
  coupled : Nat
  notice : Nat
  stale : Nat
  welcome : Nat
  enrol : Nat
  deriving DecidableEq, Repr

/-- SYSTEM section. -/
structure SystemSec where
  protection : Nat
  fwi : Nat
  wakeN : Nat
  selfRestart : Nat
  wakeWindow : Nat
  deriving DecidableEq, Repr

/-- An image whose tables are in use (R42, Table 2-1, Table 2-2). -/
structure Image where
  version : Nat
  size : Nat
  arb : Nat
  flags : Nat
  vehicle : Nat
  built : Nat
  perso : Bytes
  digest : Bytes
  units : List UnitE
  profiles : Profiles
  coils : List CoilE
  aerials : List AerialE
  rf : RfSec
  crystal : List CrystalE
  zones : List ZoneE
  polls : List PollE
  canids : CanidsSec
  ring : RingSec
  waymarks : List WaymarkE
  motion : MotionSec
  fobpol : FobpolSec
  system : SystemSec
  deriving DecidableEq, Repr

/-! ### Retained memory (13) -/

/-- Internal engines that submit commit groups (R307) or change tally counters (R316). -/
inductive Engine where
  | den | session | ledger | sett | tagPort | memPort
  deriving DecidableEq, Repr

/-- Results of commits and tally operations, Table 13-4. -/
inductive RmcResult where
  | ok | bufferFull | empty | area | denied | aborted | fail | sequence | saturated | busy
  deriving DecidableEq, Repr

/-- Who is told when a group or a tally operation completes (R310, step 3), and what that engine goes on with. -/
inductive Owner where
  /-- nobody waits -/
  | none
  /-- the window COMMIT of RMC_CMD -/
  | window
  /-- an operation requested through RMC_TCMD -/
  | tcmd
  /-- base page of a tally counter: a rollover -/
  | tallyRoll (c : Nat)
  /-- base page of a tally counter: a raise by more than 256 to `v` -/
  | tallyBase (c v : Nat)
  /-- a Den command's slot commit; the result goes to VLT_STAT -/
  | denCmd
  /-- a crypto command's slot commit (AGREE, DERIVE); the result goes to CRY_STAT -/
  | cryCmd
  /-- recomputation of a derived slot (R331) -/
  | denRepair (slot : Nat)
  /-- the protection rewrite of a slot (R330) -/
  | denRewrite (slot : Nat)
  /-- CH4410 window, slot 255 (R341) -/
  | denLegacy
  /-- the tally increment of LC_SET to a state, with the master that asked (R338) -/
  | lcSet (to_ : Nat) (m : Master)
  /-- erasure of slots at a retirement (R338) -/
  | denRetire
  /-- confirmation of an image, step 1: TRIAL 0; true when a tester waits (R54) -/
  | confirmTrial (tester : Bool)
  /-- confirmation of an image, step 2: the raise of counter 0 (R54) -/
  | confirmArb (tester : Bool)
  /-- a satellite's raise of counter 0 to the carried value (R85) -/
  | arbRaise
  /-- slot selector with PENDING none, before a download's first erase (R55) -/
  | downloadOpen
  /-- slot selector marking the staged slot pending (R56) -/
  | markPending
  /-- chain binding table (R82, R93) -/
  | binding
  /-- notice counter of a fob record (R242) -/
  | notice (record : Nat)
  /-- an enrolled fob record (R225) -/
  | enrol (record : Nat)
  /-- bar, unbar or emptying of a fob record by the tester (R401); the routine's identifier -/
  | fobRoutine (rid record : Nat)
  /-- counter 1 for a start token (R243) -/
  | startToken
  /-- an acting head's buffered record (R91) -/
  | actBuf
  /-- tag summary leaves (R302) -/
  | summary
  /-- leaves the field holds, committed through the queue (R373) -/
  | tagCommit
  /-- last-run page (R474) -/
  | lastRun
  deriving DecidableEq, Repr

/-- The bytes committed together: runs of bytes at logical offsets (R307), and who is told. -/
structure Group where
  writes : List (Nat × Bytes)
  owner : Owner
  deriving DecidableEq, Repr

/-- A tally operation: increment (`raise` none) or raise to a value (R317). -/
structure TallyReq where
  ctr : Nat
  raise : Option Nat
  owner : Owner
  deriving DecidableEq, Repr

/-- A group being committed: its class, the pages still to program, the shadow copies programmed, the tries of the present
program, when that program began, and whether it is the marker (R310). -/
structure Commit where
  cls : Cls
  group : Group
  todo : List Nat
  shadow : List (Nat × Bytes)
  tries : Nat
  startAt : Nat
  deriving DecidableEq, Repr

/-- A tally operation in progress: the value it aims at once begun, and the time its present cell program began, if one runs
(R317). -/
structure TallyRun where
  cls : Cls
  req : TallyReq
  goal : Option Nat
  cellAt : Option Nat
  deriving DecidableEq, Repr

/-- A tally counter (R315): base value, generation, programmed cells of the active set, programmed cells of the other set,
whether the next cell reads marginal, and cells found programmed beyond the first erased one (R319). -/
structure TallyCtr where
  base : Nat
  gen : Nat
  cells : Nat
  old : Nat
  marginal : Bool
  stray : Nat
  deriving DecidableEq, Repr

/-- Who asks for a tally operation (R316). -/
inductive TallyBy where
  | master (m : Master)
  | engine (e : Engine)
  deriving DecidableEq, Repr

/-! ### Ledger (12) -/

/-- A 512-byte sector: the logical block it lies in and the records in its slots. -/
structure Sector where
  block : Nat
  recs : List Bytes
  deriving DecidableEq, Repr

/-- A copy of the device header (R288): its generation, unit serial, vehicle ID, geometry, bad physical blocks, the logical blocks that lie on
spares, its CRC-32C. -/
structure NandCtrl where
  gen : Nat
  serial : Nat
  vehicle : Nat
  page : Nat
  blocks : Nat
  bad : List Nat
  map : List (Nat × Nat)
  crc : Nat
  deriving DecidableEq, Repr

/-- A NAND device (R287, R288): whether it is fitted, page bytes, blocks, pages of a block, on-die ECC, programs of a sector, program time in µs and erase
time in µs, whether its parameter page describes this geometry and it knows the commands of R287; the two header copies, the one written last first,
none on a blank device; the sectors from the oldest. -/
structure NandDev where
  fitted : Bool
  page : Nat
  blocks : Nat
  pages : Nat
  ecc : Bool
  partials : Nat
  progUs : Nat
  eraseUs : Nat
  param : Bool
  commands : Bool
  ctrl : List NandCtrl
  sectors : List Sector
  deriving DecidableEq, Repr

/-- The MOTION record being built (R290, Table 12-3): SECS of its second 0, the stamp, the pulse count at the first second,
speeds and metres gained so far (newest last), the known mask and the flags. -/
structure MotionBlk where
  secs : Nat
  tsub : Nat
  stampFlags : Nat
  pulses : Nat
  speeds : List Nat
  metres : List Nat
  known : Nat
  flags : Nat
  deriving DecidableEq, Repr

/-- A day of the summary (R302): day number, driving seconds, metres, top speed, starts, coupled starts, power gaps,
whether TIME_VALID held throughout, and driving seconds by driver ID. -/
structure DayEntry where
  day : Nat
  driving : Nat
  metres : Nat
  top : Nat
  starts : Nat
  coupled : Nat
  gaps : Nat
  valid : Bool
  drivers : List (Nat × Nat)
  deriving DecidableEq, Repr

/-! ### Hedgehog (20) -/

/-- A block isolated or reset within 60 s: the fault code, when it was isolated, when its last reset ended, whether it is
isolated now, whether its reset is under way, and whether it stays isolated until the next start-up (R439). -/
structure IsoBlk where
  block : Block
  code : Nat
  at_ : Nat
  resetAt : Option Nat
  isolated : Bool
  resetting : Option Nat
  forGood : Bool
  deriving DecidableEq, Repr

/-- Reporting state of a fault code (R443): last record's time, raisings since, last detail. -/
structure FltRep where
  code : Nat
  recAt : Nat
  since : Nat
  detail : Nat
  deriving DecidableEq, Repr

/-- A temperature step in force (R435): its code, group (0 air, 1 bank A, 2 bank B, 3 field), and since when the reading
has stayed 10 °C below. -/
structure TempStep where
  code : Nat
  group : Nat
  takenAt : Nat
  below : Option Nat
  deriving DecidableEq, Repr

/-! ### Field and lanes (05, 06, 07) -/

/-- Results of Table 5-4, in the order of their codes. -/
inductive LfResult where
  | ok | preempted | inhibit | open_ | shortVbat | shortGnd | overtemp | budget | fault | shed | noReply | late | uplink
  | unknownFob | mismatch | timeout
  deriving DecidableEq, Repr

/-- What asked for an LF operation. -/
inductive LfBy where
  /-- the scheduled slot of a POLLS entry -/
  | poll (entry : Nat)
  /-- a POLLS entry of a trigger run -/
  | trig (run entry : Nat)
  /-- SES_LFRUN of a satellite -/
  | lfrun (entry : Nat)
  deriving DecidableEq, Repr

/-- One run of carrier of a frame (R101, R111, R113, R117): the channel, its start and length in periods of f_c from the frame's start, the
current (10 mA), the drive frequency in Hz, the phase in 256 steps. -/
structure CarrierRun where
  ch : Nat
  off : Nat
  len : Nat
  cur : Nat
  freq : Nat
  phase : Nat
  deriving DecidableEq, Repr

/-- An LF request (R98, R104, R108): its command, the data coil or the three vector coils with the currents they drive (10 mA),
the tone coils with theirs, its charges to both banks (current² · periods), whether R105 scaled it. -/
structure LfReq where
  by_ : LfBy
  command : Nat
  data : List (Nat × Nat)
  tones : List (Nat × Nat)
  chargeA : Nat
  chargeB : Nat
  scaled : Bool
  deriving DecidableEq, Repr

/-- A frame on the air (R162, R172, R175): the 64-bit header word, and the payload bytes after sealing, with MIC and CRC-32C,
before scrambling. A ranging frame's body is empty. -/
structure AirFrame where
  hdr : Nat
  body : Bytes
  deriving DecidableEq, Repr

/-- A transmit command (R145): the frame, the aerial (0 A, 1 B), the named start in air ticks (none: as soon as possible), and
the receive window that follows it, in 0.1 µs after its end; for a RANGE_POLL the exchange seed and the pass its symbols are drawn with. -/
structure TxCmd where
  frame : AirFrame
  range : Option (Bytes × Nat)
  aerial : Nat
  start : Option Nat
  listen : Option (Nat × Nat)
  deriving DecidableEq, Repr

/-- A lane request (R135): the lane it names (0 LANE0, 1 LANE1, otherwise either), the channel it needs, the trigger run it is for. -/
structure LaneReq where
  sel : Nat
  channel : Nat
  run : Option Nat
  deriving DecidableEq, Repr

/-! ### Sett chain (04) -/

/-- What ENUM_ACK told the head of one unit (R82). -/
structure EnumAck where
  unit : Nat
  serial : Nat
  fault : Nat
  acting : Bool
  deriving DecidableEq, Repr

/-- One unit listed in a SPLICE_REPORT (R93). -/
structure SpliceSerial where
  serial : Nat
  digest : Bytes
  deriving DecidableEq, Repr

/-- The segment at one of the two Sett ports (R74): when it last fell silent, later than now while a frame of this unit's is on it
(none: silent since the reset); frames sent back to back by this unit as its upstream end. -/
structure SettPort where
  quietAt : Option Nat
  burst : Nat
  deriving DecidableEq, Repr

/-- A REQUEST awaiting its RESPONSE (R78): tag, unit, whether it writes, address, words, the master it is relayed for. -/
structure SettReq where
  tag : Nat
  unit : Nat
  addr : Nat
  count : Nat
  deriving DecidableEq, Repr

/-- An entry of the chain binding table (Table 13-1): serial, number, whether the unit is in service, SECS of its last loss. -/
structure Binding where
  serial : Nat
  num : Nat
  inService : Bool
  lost : Nat
  deriving DecidableEq, Repr

/-! ### Den, crypto, entropy (14, 15) -/

/-- An open import pair (R334): private e, nonce, slot, when it was opened. -/
structure ImportPair where
  e : Nat
  nonce : Bytes
  slot : Nat
  openedAt : Nat
  deriving DecidableEq, Repr

/-- Worlds of R326. -/
inductive World where
  | internal | vehicle | service | open_
  deriving DecidableEq, Repr

/-- Den results of Table 14-10. -/
inductive DenResult where
  | ok | denied | empty | unusable | type | auth | occupied | state | nonce | fail | entropy | busy | format | sequence
  deriving DecidableEq, Repr

/-- Crypto results of Table 15-5. -/
inductive CryResult where
  | ok | denied | empty | unusable | type | auth | occupied | entropyWait | entropyFail | busy | escort | format
  deriving DecidableEq, Repr

/-- Health tests of Table 15-3, in the order of ENT_STAT.FTEST's codes 1 to 3. -/
inductive HealthTest where
  | repetition | proportion | bias
  deriving DecidableEq, Repr

/-! ### Requests in queues -/

/-- A trigger of a session (Table 9-5): its schedule code (1: a WELCOME poll), the waymark action that fired it (0 none), the
POLLS entry of a WELCOME poll. -/
structure Trigger where
  code : Nat
  wm : Nat
  entry : Nat
  deriving DecidableEq, Repr

/-- What waits in a queue of Table 1-8 or of an interface. -/
inductive Work where
  /-- a fabric burst, or an engine operation with no further content here -/
  | burst
  | trigger (t : Trigger)
  | record (r : Rec)
  | frame (f : SettFrame)
  | can (m : CanMsg)
  | group (g : Group)
  | tally (t : TallyReq)
  | lf (r : LfReq)
  /-- a run of coil tests: the channels still to be tested (R123) -/
  | coils (chans : List Nat)
  /-- a coupled exchange, for the start session of a trigger run (R106, R245) -/
  | coupled (run : Nat)
  | lane (r : LaneReq)
  /-- a diagnostic message -/
  | diag (m : Bytes)
  deriving DecidableEq, Repr

/-- The queues: Table 1-8, R81, R309, R352, R382, R402, and the host port's. -/
inductive QueueId where
  | fabric (region : Nat)
  | session | crypto | den | settTx | settRx
  | lane (n : Nat)
  | bank (n : Nat)
  | ingest | commit | canTx | canCmd | host | drbg
  deriving DecidableEq, Repr

/-- An accepted request: class, master, whether it holds a reserved place (R32), when it arrived, what it is. -/
structure QItem where
  cls : Cls
  master : Master
  reserved : Bool
  at_ : Nat
  work : Work
  deriving DecidableEq, Repr

/-- A queue in order of arrival; the answers its bucket lacks, in units of 1/(5 · 2^22) answer; the time both were brought
up to date; the part of a service gathered, in units of 1/2^22 request; drops where no register counts them (R30, R33); of an arbiter,
the place its round-robin has reached (R22). -/
structure Queue where
  items : List QItem
  deficit : Nat
  stamp : Nat
  served : Nat
  drops : Nat
  turn : Nat
  deriving DecidableEq, Repr

/-- What a queue answered to an arriving request (R30, R32); FAULT while its block is isolated (R18). -/
inductive Admit where
  | taken | busy | dropped | fault
  deriving DecidableEq, Repr

/-! ### Chronicle, motion, touch, lines (10, 11, 18) -/

/-- A step waiting for an overhearing plan (R258): T_set, the model time of the sample, the UTC offset. -/
structure DeferredStep where
  target : Nat
  sampledAt : Nat
  utcoff : Int
  deriving DecidableEq, Repr

/-- A motion input or edge's direction (R273). -/
inductive Dir where
  | forward | reverse
  deriving DecidableEq, Repr

/-- A touch channel (R408 to R410): trigger code bound (none while not scanned), whether a baseline has been taken, baseline
and last conversion (0.01 pF), touched, since when, stuck, B0. -/
structure CapCh where
  code : Option Nat
  started : Bool
  base : Int
  conv : Int
  baseAt : Nat
  touched : Bool
  since : Nat
  stuck : Bool
  b0 : Int
  deriving DecidableEq, Repr

/-- A switch (R412, R413): trigger codes bound, raw level last sampled (electrically high or closed as POL reads it), when the
present raw level was first sampled, debounced active, since when, stuck, and whether the next sample sets the level at once. -/
structure SwCh where
  codes : List Nat
  raw : Bool
  rawAt : Nat
  active : Bool
  since : Nat
  stuck : Bool
  polWritten : Bool
  deriving DecidableEq, Repr

/-- Waymark entry with its arming (R279 to R282): previous multiple (code 1), armed, whether it has fired in this
ignition-on period, whether a first known speed has been seen. -/
structure WmState where
  entry : WaymarkE
  prev : Nat
  armed : Bool
  fired : Bool
  seen : Bool
  deriving DecidableEq, Repr

/-- Result of a fired action (R283). -/
inductive WmResult where
  | done | merged | noLatch | ignored | busy
  deriving DecidableEq, Repr

/-! ### Bus, ring, diagnostics (17) -/

/-- A ring message (R389). -/
structure RingMsg where
  sender : Nat
  succ : Nat
  flags : Nat
  ovr : Nat
  mask : Nat
  deriving DecidableEq, Repr

/-- A diagnostic message being received in several frames (R396). -/
structure TpRx where
  len : Nat
  got : Bytes
  sn : Nat
  at_ : Nat
  deriving DecidableEq, Repr

/-- A diagnostic message being sent in several frames: what is left, the next sequence number, since when flow control is awaited, how
many consecutive frames may go before the next one, the receiver's STmin in µs, when the last consecutive frame went (R396). -/
structure TpTx where
  rest : Bytes
  sn : Nat
  at_ : Nat
  block : Nat
  stmin : Nat
  last : Option Nat
  deriving DecidableEq, Repr

/-- A transfer in progress (R400, R401). -/
inductive Xfer where
  /-- download: slot (true B), size, how many bytes have been written, next counter -/
  | download (slotB : Bool) (size got ctr : Nat)
  /-- upload: bytes to deliver, next counter -/
  | upload (rest : Bytes) (ctr : Nat)
  deriving DecidableEq, Repr

/-- What a routine whose answer is still to come waits for (R397, Table 17-4). -/
inductive RoutineWait where
  | confirm
  | enrol
  /-- the bar, unbar or emptying of a fob record, with the FOB_EVENT to write -/
  | fob (rid : Nat) (event : Bytes)
  | transferExit
  | downloadOpen (size : Nat)
  | coil (chans : List Nat)
  deriving DecidableEq, Repr

/-- An overhearing plan (R89): exchange ID, start in chain time (ticks, air ticks), lane, stitch set, grade, fob ID, mask of the
units that listen, reception material. -/
structure Plan where
  exch : Nat
  start : Nat
  air : Nat
  lane : Nat
  stitch : Nat
  grade : Nat
  fob : Nat
  mask : Nat
  seed : Bytes
  deriving DecidableEq, Repr

/-! ### Field state (05) -/

/-- What the register block does not show of an LF channel: overtemperature stop, passes of the retest, time of the last retest. -/
structure LfCh where
  hot : Bool
  passes : Nat
  retestAt : Nat
  deriving DecidableEq, Repr

/-- Drive that a bank is charged for (R108): the time its frame began, and a run of periods of f_c from there, each charged with the
square of a current (10 mA). -/
structure LfCharge where
  at_ : Nat
  off : Nat
  len : Nat
  sq : Nat
  deriving DecidableEq, Repr

/-- A bank: the drives of the last 200 ms, the time a request last used it, the time from which it is ready to drive (R97, R108). -/
structure LfBank where
  charges : List LfCharge
  usedAt : Nat
  readyAt : Nat
  deriving DecidableEq, Repr

/-- A frame being driven (R98): the request, its class, when it started, its bytes after settling, its carrier, the lane that will hear
the replies of a frame that no trigger run follows. -/
structure LfRun where
  req : LfReq
  cls : Cls
  startAt : Nat
  bytes : Bytes
  carrier : List CarrierRun
  lane : Option Nat
  deriving DecidableEq, Repr

/-- Phases of the coupled exchange (R128, R129). -/
inductive CtPhase where
  | awaitId | awaitResponse
  deriving DecidableEq, Repr

/-- A coupled exchange in progress (R125 to R129): when its carrier started, its phase, when the phase's window began (the end
of SELECT or of CHALLENGE), the record identified, the challenge and the RESPONSE expected, whether its drive has been measured. -/
structure CtRun where
  startAt : Nat
  phase : CtPhase
  from_ : Nat
  fob : Nat
  record : Nat
  challenge : Bytes
  expected : Bytes
  seen : Bool
  deriving DecidableEq, Repr

/-- Outcome of the off-state test (R122). -/
inductive OffState where
  | ok | open_ | shortVbat | shortGnd
  deriving DecidableEq, Repr

/-- The readings of the off-state test, in mV on LFn_P and LFn_N (R457): P sourced, P sunk, N sourced, N sunk. -/
structure OffReads where
  sourceP : Int × Int
  sinkP : Int × Int
  sourceN : Int × Int
  sinkN : Int × Int
  deriving DecidableEq, Repr

/-- The class of the readings: the first row of Table 21-9 that applies. -/
def OffReads.result (r : OffReads) : OffState :=
  if [r.sinkP.1, r.sinkP.2, r.sinkN.1, r.sinkN.2].any (fun v => decide (4000 ≤ v)) then .shortVbat
  else if r.sourceP.1 ≤ 300 ∨ r.sourceN.2 ≤ 300 then .shortGnd
  else if (2000 ≤ r.sourceP.1 ∧ r.sourceP.2 ≤ 500) ∨ (2000 ≤ r.sourceN.2 ∧ r.sourceN.1 ≤ 500) then .open_
  else .ok

/-- What a full coil test measures (R103, R121, R122): the off state, resonance and quality factor, peak current (10 mA) of its drive, and
whether the regulator stood at full conduction angle at the eighth period. -/
structure CoilMeas where
  off : OffReads
  fres : Nat
  qf : Nat
  ipk : Nat
  full : Bool
  deriving DecidableEq, Repr

/-- What a drive measured on one channel (R103, R121): peak current (10 mA), whether the regulator stood at full conduction
angle at the eighth period. -/
structure DriveMeas where
  ch : Nat
  ipk : Nat
  full : Bool
  deriving DecidableEq, Repr

/-- What a diagnostic run on one coil does: the full test, with what it measures, or the retest of a disabled channel, with whether it
passes (R122, R124). -/
inductive CoilTest where
  | full (m : CoilMeas)
  | retest (pass : Bool)
  deriving DecidableEq, Repr

/-- A diagnostic run in progress (R98): its channel, class, start. -/
structure TestRun where
  ch : Nat
  cls : Cls
  startAt : Nat
  test : CoilTest
  deriving DecidableEq, Repr

/-- What a touch ball does (R408): measured in each scan, held low through 10 kΩ; what CAP_SHIELD does. -/
inductive CapOut where
  | scanned | heldLow
  deriving DecidableEq, Repr

inductive ShieldOut where
  | follows | idle
  deriving DecidableEq, Repr

/-- The states of a start line (Table 18-1): locked (STARTEN_H held to ground by 100 kΩ, STARTEN_L at high impedance), in release, or off
with the latch set, for lack of supply or in fault protection. -/
inductive LineOut where
  | locked | release | off
  deriving DecidableEq, Repr

/-- The state of a channel's outputs (R96). -/
inductive CoilOut where
  | highZ | idle | driving | testCurrent
  deriving DecidableEq, Repr

/-! ### Lane state (06, 07) -/

/-- A complex number: a tone, a correlation or a sample. -/
structure Cx where
  re : Rat
  im : Rat
  deriving DecidableEq, Repr

/-- A move towards SYNTH, or a hop (R141): when its last attempt began, the time before the SYNTH transition itself starts and that
transition's maximum, in µs, whether it is cold, recalibrations made, whether it is the relock of R142. -/
structure Settle where
  at_ : Nat
  lead : Nat
  maxUs : Nat
  cold : Bool
  tries : Nat
  relock : Bool
  deriving DecidableEq, Repr

/-- A receive window (R147): its end, in air ticks since reset (none: open), and the class detected in it. -/
structure RxWin where
  until_ : Option Nat
  detected : Option Nat
  deriving DecidableEq, Repr

/-- What a loopback measurement gives (R154, R155): the deviation of each attempt's amplitude from the expected one in 0.1 dB, and the
response of the channel's used tones. -/
structure LoopMeas where
  attempts : List Int
  resp : List Cx
  deriving DecidableEq, Repr

/-- A loopback in progress: when it began, in air ticks since reset, and what it measures. -/
structure LoopRun where
  at_ : Nat
  meas : LoopMeas
  deriving DecidableEq, Repr

/-- A lane: whether a request holds it and its class; whether it searches for notices; the move in progress; the command
queued; the end of the frame being sent and the window to open then (0.1 µs); the window open; the window wanted once the lane is
ready for it, from when and until when; the state being entered and when it is usable; from when an emission may start; the loopback in progress; the AGC's gain; last operation and entry to SLEEP; when the calibration was taken;
coefficient failure; temperature. Times in air ticks are counted since reset. -/
structure Lane where
  held : Option Cls
  search : Bool
  settle : Option Settle
  pend : Option TxCmd
  txEnd : Option Nat
  listen : Option (Nat × Nat)
  rx : Option RxWin
  wantRx : Option (Nat × Option Nat)
  turn : Option (Nat × Nat)
  txFrom : Nat
  loop : Option LoopRun
  gain : Nat
  lastOp : Nat
  sleptAt : Nat
  calAt : Option Nat
  coefBad : Bool
  temp : Int
  tempAt : Nat
  deriving DecidableEq, Repr

/-- What shapes an emission (R137, R151, R152): the channel's power code, ramp mode, the tone mask's nibbles by used tone, the FIR taps. -/
structure Shaping where
  power : Nat
  ramp : Bool
  mask : List Nat
  fir : List Int
  deriving DecidableEq, Repr

/-- A frame emitted: lane, aerial, channel, the frame, the exchange seed and pass of a RANGE_POLL, the time of its first sample in air
ticks since reset, its shaping, and where it was cut short: the air ticks emitted, and whether the PA envelope still ramps down. -/
structure AirTx where
  lane : Nat
  aerial : Nat
  channel : Nat
  frame : AirFrame
  range : Option (Bytes × Nat)
  at_ : Nat
  shape : Shaping
  cut : Option (Nat × Bool)
  deriving DecidableEq, Repr

/-- One short symbol as the search sees it (R148, R149, R165): its correlations with the codes of C1 to C4 and its level in dBFS at gain 0. -/
structure ShortSym where
  corr : List Cx
  level : Int
  deriving DecidableEq, Repr

/-- What the sync search receives (R148 to R150, R165, R166): the short symbols in order, the noise floor of a correlation on A and on B. -/
structure SyncMeas where
  syms : List ShortSym
  noiseA : Rat
  noiseB : Rat
  deriving DecidableEq, Repr

/-- A frame as a lane receives it after a detection (R167, R169, R186): the frame decoded, the air time of its last sample, the sync
field's correlation over 256 samples, the FFT of the long symbol's two repeats and the pilots of every symbol after it, for each tone bin
that failed its parity how often in succession, the clipped symbols. -/
structure AirRx where
  frame : AirFrame
  endAt : Nat
  adv : Cx
  train : List (List Cx)
  pilots : List (List Cx)
  parity : List Nat
  clip : Nat
  deriving DecidableEq, Repr

/-- The ranging symbols as received (R198, R205, R220): the instant of the FFT window of symbol 1, in air ticks, and the used tones of each
of the eight symbols. -/
structure RangeRx where
  win : Nat
  syms : List (List Cx)
  deriving DecidableEq, Repr

/-- Frame status of Table 7-10, in the order of its codes. -/
inductive RxStatus where
  | ok | hdrCrc | cls | type | notAddressed | pcrc | mic | replay | lost | escort | noKey
  deriving DecidableEq, Repr

/-- Lane results of Table 6-4, in the order of their codes. -/
inductive LaneResult where
  | ok | preempted | txLate | txBusy | unlock | noLock | noDetect | fault | shed
  deriving DecidableEq, Repr

/-! ### Ranging (08) -/

/-- Fox results of Table 8-6, in the order of their codes. -/
inductive FoxResult where
  | ok | lane | noReply | noReport | report | rangeInconsistent | passInconsistent | stitchBreak | clockMismatch | turnaround
  | lowQuality | outOfRange | aoaInconsistent | guardInconsistent | noAoa | escort
  deriving DecidableEq, Repr

/-- What a received RANGE_REPLY or RANGE_POLL measures (R205, R206, R211): receive timestamp, spread in air ticks, quality, carrier offset
(100 Hz), the channel response averaged over the eight symbols, the first path's offset from the FFT window, its taps on A and B. -/
structure RangeMeas where
  at_ : Nat
  spread : Nat
  quality : Nat
  cfo : Int
  resp : List Cx
  off : Rat
  tapA : Cx
  tapB : Cx
  deriving DecidableEq, Repr

/-- What the stitching and the angle computation give (R209 to R212): Δ in air ticks, the largest phase gap at a join in turns, s for each
pass, the three angles in degrees. -/
structure StitchMeas where
  delta : Rat
  join : Rat
  sines : List Rat
  angles : List Rat
  deriving DecidableEq, Repr

/-- A distance that enters a position (R235): the unit that measured it, its aerial's position, the distance, in mm. -/
structure Anchor where
  unit : Nat
  x : Int
  y : Int
  z : Int
  mm : Int
  deriving DecidableEq, Repr

/-- An angle in view that enters a position (R212, R236): the positions of aerials A and B in mm, the angle in degrees. -/
structure AngleView where
  a : Int × Int × Int
  b : Int × Int × Int
  deg : Rat
  deriving DecidableEq, Repr

/-- One run of the position solver (R236): position in mm, mean square residual in mm². -/
structure SolverRun where
  x : Int
  y : Int
  z : Int
  ms : Rat
  deriving DecidableEq, Repr

/-- A listener's report (R217, R218): unit, path byte (bit 0 lane, bit 1 aerial), dt in head air ticks. -/
structure OhDist where
  unit : Nat
  path : Nat
  dt : Int
  deriving DecidableEq, Repr

/-- An exchange on a lane (R191): its record, seed, first poll number, grade (GUARD run as FINE included), whether it runs without
an angle, stitch set, class, pass in progress, timestamps, replies, final sent; whether the report is awaited; when the last frame
was sent; whether it is a GUARD fix's second; aerial of the exchange; reports received; loopback responses by pass. -/
structure Exch where
  record : Nat
  seed : Bytes
  q1 : Nat
  grade : Nat
  noAoa : Bool
  stitch : Nat
  cls : Nat
  pass : Nat
  polls : List Nat
  replies : List RangeMeas
  finalAt : Option Nat
  sentAt : Nat
  second : Bool
  aerial : Option Nat
  reports : List OhDist
  loops : List (List Cx)
  deriving DecidableEq, Repr

/-- An exchange that passed R208: its number, record, when, lane, aerial, mean ρ·da and time of flight in air ticks (R218). -/
structure FoxDone where
  exch : Nat
  record : Nat
  at_ : Nat
  lane : Nat
  aerial : Nat
  turn : Rat
  tof : Rat
  deriving DecidableEq, Repr

/-- The first half of a GUARD fix (R213): lane, record, when RANGE_REPORT ended (air ticks), distance in mm, angle in view (degrees), the listeners'
distances by unit. -/
structure GuardWait where
  lane : Nat
  record : Nat
  at_ : Nat
  mm : Nat
  angle : Option Rat
  others : List Anchor
  deriving DecidableEq, Repr

/-- Overhearing on a lane (R215): the plan, whether it is the head's own second lane (R235), the aerial chosen, the class of the first poll,
measurements of polls and replies so far. -/
structure Overhear where
  plan : Plan
  own : Bool
  aerial : Nat
  cls : Option Nat
  polls : List RangeMeas
  replies : List RangeMeas
  deriving DecidableEq, Repr

/-! ### Sessions (09) -/

/-- A WAKE_REPLY collected (R227): record, fob nonce, tone entries, class of the frame, lane. -/
structure WakeRep where
  record : Nat
  nonce : Bytes
  tones : List (List Nat)
  cls : Nat
  lane : Nat
  deriving DecidableEq, Repr

/-- How a session of a trigger ended: record, reason of Table 9-9, zone. -/
structure Outcome1 where
  record : Nat
  reason : Nat
  zone : Nat
  deriving DecidableEq, Repr

/-- A trigger under way (R227, R233): a number of its own, the trigger, POLLS entries still to send and the one sent last, the
WAKE attempt, whether its replies are being challenged, whether its LOCATE entries have been taken up, when the last frame ended (reply window), the entry of that frame, its lane, replies,
the peak currents of the last frame's tones by channel, whether a WAKE reply showed LF-inside, how its sessions ended, when the trigger fired. -/
structure TrigRun where
  id : Nat
  trig : Trigger
  todo : List Nat
  cur : Option Nat
  tries : Nat
  opened : Bool
  located : Bool
  windowAt : Option Nat
  last : Option Nat
  lane : Nat
  replies : List WakeRep
  ipk : List (Nat × Nat)
  inside : Bool
  ended : List Outcome1
  firedAt : Nat
  deriving DecidableEq, Repr

/-- A fix (R235, R236): when, grade, distance from the head in mm, the distances it uses, the head's first, the angle in view, position, IDs of
the zones that hold it. -/
structure Fix where
  at_ : Nat
  grade : Nat
  dist : Nat
  anchors : List Anchor
  view : Option AngleView
  pos : Option (Int × Int × Int)
  zones : List Nat
  deriving DecidableEq, Repr

/-- A session (R226 to R229): the decisions it serves, each with its trigger run and its kind (SES_DEC.KIND; none: the tracker only),
record, fob ID, grade, stitch set, N_u, N_f, the level it started at, challenges sent, whether authenticated, class of the fob's last frame, SEQ of the CHALLENGE,
poll numbers used, frame counters sent and last accepted, LOCATE replies, authenticated LF result and its time, fixes
newest first, fix attempts that failed, time of the last accepted frame, lane, whether a LOCATE reply is still to come. -/
structure Session where
  jobs : List (Nat × Option Nat)
  record : Nat
  fobId : Nat
  grade : Nat
  stitch : Nat
  nu : Bytes
  nf : Bytes
  pl : Nat
  challenges : Nat
  sentAt : Nat
  authed : Bool
  cls : Nat
  chSeq : Nat
  polls : Nat
  txCtr : Nat
  rxCtr : Nat
  locates : Nat
  lf : Option (Bool × Nat)
  fixes : List Fix
  fails : Nat
  lastAt : Nat
  lane : Nat
  deriving DecidableEq, Repr

/-- States of Table 9-6, in the order of SES_TRKn.STATE. -/
inductive TrackSt where
  | unknown | held | stale
  deriving DecidableEq, Repr

/-- A tracker (R239): its state, the last position, when it came, when it became STALE, its Chronicle time, the position's grade and zones, the last LF-inside
result with its Chronicle time, whether this move into HELD has had its welcome (Table 9-7). -/
structure Tracker where
  st : TrackSt
  pos : Int × Int × Int
  at_ : Nat
  stamp : Nat
  staleAt : Nat
  grade : Nat
  zones : List Nat
  lfin : Option (Bool × Nat)
  welcomed : Bool
  deriving DecidableEq, Repr

/-- The notice state of a fob record (R242): volatile counter, buttons and time of the last notice accepted, the notice that
waits for its counter to be committed (buttons, MIC, lane, class). -/
structure NoticeSt where
  record : Nat
  nctr : Nat
  buttons : Nat
  at_ : Nat
  wait : Option (Nat × Bytes × Nat × Nat)
  deriving DecidableEq, Repr

/-- An enrolment in progress (R225). -/
structure Enrol where
  record : Nat
  fobId : Nat
  gen : Nat
  driver : Nat
  rights : Nat
  ktp : Bytes
  at_ : Nat
  deriving DecidableEq, Repr

/-- A start release that waits for tally counter 1 (R243): record, kind. -/
structure StartWait where
  record : Nat
  kind : Nat
  deriving DecidableEq, Repr

/-! ### Cab tag (16) -/

/-- States of R366; `ready` and `active` stand for READY* and ACTIVE* as well. -/
inductive TagState where
  | idle | ready | active | halt
  deriving DecidableEq, Repr

/-- A leaf held by a writer (R372): its number (0x00 to 0x7F SRAM, 0x90 to 0x9F persistent), the wired master (none: the field),
when its first write began, the holder's last access, the working copy. -/
structure TagLeaf where
  leaf : Nat
  by_ : Option Master
  since : Nat
  at_ : Nat
  data : Bytes
  deriving DecidableEq, Repr

/-- A WRITE_LEAF that waits for a leaf held by a wired master (R372, Table 16-6): what it writes, the counter of its answer, the
lock WTX under way (1 to 3) and when it was sent. -/
structure TagLock where
  leaf : Nat
  offset : Nat
  data : Bytes
  ctr : Nat
  wtx : Nat
  at_ : Nat
  deriving DecidableEq, Repr

/-- A field-path group (R375): pages still to program, shadow copies programmed, tries of the present program; with no page left
the marker is being programmed. -/
structure TagPath where
  todo : List (Nat × Bytes)
  shadow : List (Nat × Bytes)
  tries : Nat
  deriving DecidableEq, Repr

/-- A command APDU (Table 16-3): CLA, P1, P2, command data (its MAC included), Le, and whether the CRC_A of its frames held (R372). -/
structure Apdu where
  cla : Nat
  p1 : Nat
  p2 : Nat
  data : Bytes
  le : Option Nat
  crc : Bool
  deriving DecidableEq, Repr

/-! ### Commands that wait for entropy (R333, R354), what a start-up finds (03) -/

/-- The keys of Table 9-2 that last for a session or an operation. -/
inductive VolName where
  | kF | kAuth | kCt | kN | kS | kR | kTok
  deriving DecidableEq, Repr

/-- A volatile key register (R328): what it holds, for which fob record, the key. -/
structure VolKey where
  name : VolName
  record : Nat
  key : List Byte
  deriving DecidableEq, Repr

/-- A Den command of Table 14-9 accepted: OP, master, slot. -/
structure DenCmd where
  op : Nat
  master : Master
  slot : Nat
  deriving DecidableEq, Repr

/-- A crypto command of Table 15-2 accepted: OP, MODE, master, slot, destination. -/
structure CryCmd where
  op : Nat
  mode : Nat
  master : Master
  slot : Nat
  dst : Nat
  deriving DecidableEq, Repr

/-- A window of the entropy source, whole or as far as it has come (R348, R350): the raw samples of each latch, and at each sample whether
the trim of its bias current sits at an end of its range. -/
structure Window where
  raw : List (List Bool)
  rails : List (List Bool)
  deriving DecidableEq, Repr

/-- What a start-up meets outside the unit (R49, R65, R68, R351): whether the escorts of NOR reads held for slot A and B, the two
fuse reads agreed, the known-answer tests passed; the 256 samples of each latch before 100 µs; the start-up test's window and the second; the trim of the level it runs at in mV (R425); the duration of the steps
that end with it in 10 µs; the levels of CHAIN_ROLE and TEST, whether a NOR answers SFDP (R41, R66, R449, R450) and whether the CAN
port is wired (R246, R389). -/
structure BootEnv where
  norA : Bool
  norB : Bool
  fuses : Bool
  kat : Bool
  bias : List (List Bool)
  test : Window
  second : Window
  trim : Int
  time : Nat
  chainRole : Bool
  testBall : Bool
  nor : Bool
  canWired : Bool
  deriving DecidableEq, Repr

end Sys2Proof.Machine
end

