-- ==== Sys2Proof/Syntax.lean ====
section
/-! DEFINITION. The commands: one constructor per row of the command table, with what each carries from outside. -/

namespace Sys2Proof

open Machine

/-- A command to the unit: a register write, an operation of its bus or protocol, an event on a pin or in its supplies, or
the end of a time it keeps. Each constructor is one row of opcode_table.json. -/
inductive Instr where
  /-- REGISTER_WRITE (R10). A fabric write to a register or window that has no row of its own, including W1C, W1S and RW fields, checked for reach, mapping, power, isolation and width. -/
  | registerWrite (m : Master) (a : Nat) (w : Width) (v : Nat)
  /-- QUEUE_REQUEST_ARRIVAL (R30). A request reaches a block or shared queue and is queued, answered BUSY, or dropped and counted under the overload contract. -/
  | queueRequestArrival (q : QueueId) (cls : Cls) (m : Master) (w : Work)
  /-- CELL_PREEMPT (R16). At the owner's next operation boundary a waiting P0 request takes the cell and the preempted operation ends PREEMPTED. -/
  | cellPreempt (c : Cell)
  /-- ESCORT_RECOMPUTE (R28). On an escort mismatch the block recomputes the datum from its source, at most two times, and completes with ESCORT if both fail. -/
  | escortRecompute (b : Block) (src : Source) (cell : Option (CellWord × CellWord)) (held : Datum) (recs : List Datum)
  /-- PROFILE_EVALUATE (R35). At each ignition, motion, life-cycle or supply event, and at least once per second, the unit evaluates the profile conditions and makes a single transition. -/
  | profileEvaluate (event : Bool)
  /-- AONPOR (R58). An always-on power-on reset clears everything in the unit, the Chronicle included. -/
  | aonpor
  /-- SUPPLY_RETURN (R58). VBAT returns while VBKP held the always-on region, and all domains except PD_AON are reset. -/
  | supplyReturn
  /-- EXTRST (R58). RESET_N held low for 10 µs or more resets the unit with cause EXTRST. -/
  | extrst (low : Nat)
  /-- DEBUG_RESET (R340). A reset request on the debug port resets the unit where the life-cycle state allows it. -/
  | debugReset
  /-- START_UP (R61). The release of reset with VSYS in range runs the start-up steps, from the always-on check to profile entry. -/
  | startUp (env : BootEnv)
  /-- TRIAL_CONFIRM_TIMEOUT (R54). A trial image that has run t_confirm seconds from profile entry is confirmed, and tally counter 0 and the satellites' counters are raised. -/
  | trialConfirmTimeout
  /-- ENUM (R82). A unit that receives ENUM on its upstream port takes the offered number, answers ENUM_ACK and forwards ENUM with the number plus 1. -/
  | enumFrame (f : SettFrame) (aborted : Bool)
  /-- ENUM_ACK (R82). The head receives a unit's serial, role-fault code and flags as that unit answers ENUM. -/
  | enumAck (f : SettFrame) (aborted : Bool) (time : Option Nat)
  /-- ENUM_ACK_TIMEOUT (R82). When no ENUM_ACK is seen within 100 µs, enumeration ends and the head commits the binding table and broadcasts CHAIN_READY. -/
  | enumAckTimeout
  /-- CHAIN_READY (R76). A unit accepts the epoch, the unit count and the tick at which the epoch takes effect. -/
  | chainReady (f : SettFrame) (aborted : Bool)
  /-- EPOCH_EFFECT (R76). At the named Chronicle tick the new EPOCH takes effect, and old-epoch frames are rejected 1 ms later. -/
  | epochEffect
  /-- EPOCH_RENEW (R76). At the Chronicle day boundary the head draws a new EPOCH and announces it in CHAIN_READY. -/
  | epochRenew
  /-- HEARTBEAT (R88). A satellite receives a HEARTBEAT from the head, which restarts its head-silence timer. -/
  | heartbeat (f : SettFrame) (aborted : Bool)
  /-- HEARTBEAT_PERIOD (R88). The head sends HEARTBEAT when it has emitted no frame for 10 ms. -/
  | heartbeatPeriod
  /-- TIME_SYNC (R87). A satellite takes the head's time plus its path delay and steers its Chronicle, or steps it in quarantine. -/
  | timeSync (f : SettFrame) (aborted : Bool) (phase : Nat)
  /-- TIME_SYNC_PERIOD (R87). The head broadcasts TIME_SYNC every 100 ms, or every 1 ms while any unit is in quarantine. -/
  | timeSyncPeriod
  /-- DELAY_REQ_PERIOD (R86). The upstream end of each segment sends DELAY_REQ every 10 ms, or every 1 ms while the downstream end is in quarantine. -/
  | delayReqPeriod (fwd : Nat)
  /-- DELAY_REQ (R86). The downstream end answers DELAY_RESP and updates its own path delay. -/
  | delayReq (f : SettFrame) (aborted : Bool) (t2 t3 : Nat)
  /-- DELAY_RESP (R86). The upstream end records t4 and computes the segment delay. -/
  | delayResp (f : SettFrame) (aborted : Bool) (t4 : Nat)
  /-- IMAGE_OFFER (R84). A satellite compares the offered digest with its retained image and confirms at once if they match. -/
  | imageOffer (f : SettFrame) (aborted : Bool)
  /-- IMAGE_DATA (R84). A satellite stores an image fragment received at its byte offset. -/
  | imageData (f : SettFrame) (aborted : Bool)
  /-- IMAGE_NAK_WINDOW_END (R84). 2 ms after the last IMAGE_DATA the satellite sends IMAGE_NAK for missing offsets, or verifies the image and sends IMAGE_CONFIRM. -/
  | imageNakWindowEnd
  /-- IMAGE_NAK (R84). The head resends the missing IMAGE_DATA frames as unicasts. -/
  | imageNak (f : SettFrame) (aborted : Bool)
  /-- IMAGE_CONFIRM (R84). The head records a satellite's verification result. -/
  | imageConfirm (f : SettFrame) (aborted : Bool)
  /-- ARB_RAISE (R85). A satellite raises its tally counter 0 to the carried ARB value and reports completion. -/
  | arbRaise (f : SettFrame) (aborted : Bool)
  /-- PROFILE (R85). A satellite runs the profile the head names, and enters SLEEP or HIBERNATE when the sleep bits are set. -/
  | profileFrame (f : SettFrame) (aborted : Bool)
  /-- PROFILE_REBROADCAST (R85). The head broadcasts PROFILE again every 1 s. -/
  | profileRebroadcast
  /-- OVERHEAR_PLAN (R215). A listed unit prepares to overhear a ranging exchange from the plan's seed and timing, or reports LATE. -/
  | overhearPlan (f : SettFrame) (aborted : Bool)
  /-- OVERHEAR_REPORT (R218). The head takes a listener's differential time and derives the fob's distance from that unit. -/
  | overhearReport (f : SettFrame) (aborted : Bool)
  /-- SETT_REQUEST (R78). A destination unit carries out a REQUEST as one fabric access by master 3 and answers with a RESPONSE. -/
  | settRequest (f : SettFrame) (aborted : Bool)
  /-- SETT_RESPONSE (R78). The head receives a RESPONSE, including an unsolicited satellite event word. -/
  | settResponse (f : SettFrame) (aborted : Bool)
  /-- LEDGER_REC (R286). The head or acting head takes a record sent by a satellite into its ledger ingest. -/
  | ledgerRec (f : SettFrame) (aborted : Bool)
  /-- FAULT_REPORT (R443). The head writes a satellite's fault as a FAULT record with SRC set to that satellite. -/
  | faultReport (f : SettFrame) (aborted : Bool)
  /-- RETX (R80). A source sends the named frame again under a new CTR, and sends a broadcast again as a unicast. -/
  | retxFrame (f : SettFrame) (aborted : Bool)
  /-- ABSENT (R90). The source of a frame addressed to a removed unit receives ABSENT, which completes a relayed fabric request with OFF. -/
  | absentFrame (f : SettFrame) (aborted : Bool)
  /-- STORED_FRAME_FORWARD (R79). A frame stored because its outgoing segment was busy is forwarded once the segment allows. -/
  | storedFrameForward (down : Bool)
  /-- HEAD_SILENCE_TIMEOUT (R90). A satellite whose head-silence timer reaches 50 ms drops its session role and sends idle pattern upstream. -/
  | headSilenceTimeout (upLost : Bool)
  /-- IDLE_PATTERN_DETECT (R93). A splice end that sees idle pattern for 200 µs restricts the segment to chain control and sends SPLICE_PROBE. -/
  | idlePatternDetect
  /-- SPLICE_PROBE (R93). An unnumbered unit answers SPLICE_REPLY and forwards the probe downstream. -/
  | spliceProbe (f : SettFrame) (aborted : Bool)
  /-- SPLICE_REPLY (R93). The splice end collects a reply, or a unit relays it upstream. -/
  | spliceReply (f : SettFrame) (aborted : Bool)
  /-- SPLICE_COLLECT_END (R93). 500 µs after the probe the splice end sends SPLICE_REPORT to the head. -/
  | spliceCollectEnd
  /-- SPLICE_REPORT (R93). The head assigns numbers from its binding table and sends SPLICE_ASSIGN. -/
  | spliceReport (f : SettFrame) (aborted : Bool)
  /-- SPLICE_ASSIGN (R93). An assigned unit takes its number and enters quarantine. -/
  | spliceAssign (f : SettFrame) (aborted : Bool)
  /-- JOIN (R93). The head adds the unit to SETT_MAP and the splice end forwards all traffic again. -/
  | joinFrame (f : SettFrame) (aborted : Bool)
  /-- CONVERGE_TIMEOUT (R93). A unit not converged 20 ms after SPLICE_ASSIGN raises fault 0x6105 and keeps trying. -/
  | convergeTimeout
  /-- FOB_COPY (R91). Unit 2 updates its copy of the fob records. -/
  | fobCopy (f : SettFrame) (aborted : Bool)
  /-- POLL_SLOT (R109). A scheduled POLLS slot falls due and its frame is admitted against the budget, or skipped and counted in LF_SKIP. -/
  | pollSlot (e : Nat)
  /-- LF_FRAME_START (R104). An LF request whose peak demand and thermal charge fit starts, owning its channels and powering its bank if needed. -/
  | lfFrameStart (b : Nat)
  /-- LF_FRAME_END (R119). An LF frame ends after its last tone slot or CRC, reports its result, and the sending unit opens its reply window. -/
  | lfFrameEnd (c : Nat) (meas : List DriveMeas)
  /-- BANK_IDLE_OFF (R97). In FRUGAL and WELCOME a bank unused for 10 ms is switched off. -/
  | bankIdleOff (b : Nat)
  /-- BOOST_TIMEOUT (R99). VLF not at 8.0 V within 2 ms of the boost starting raises fault 0x2108 and inhibits drive. -/
  | boostTimeout
  /-- DRIVE_INHIBIT (R100). A supply condition inhibits LF drive, and a running frame stops within one carrier period with INHIBIT. -/
  | driveInhibit (vbat vlf : Nat) (gate : Bool)
  /-- DRIVE_ALLOW (R100). Drive is allowed again once all three supply conditions have held for 10 ms. -/
  | driveAllow (vbat vlf : Nat) (gate : Bool)
  /-- INHIBIT_LONG (R100). Drive inhibited for 1 s raises fault 0x2107. -/
  | inhibitLong
  /-- BRIDGE_SHORT (R121). A bridge switch over its current limit puts the bridge to high impedance and ends the frame SHORT_GND or SHORT_VBAT. -/
  | bridgeShort (c : Nat) (toGround : Bool)
  /-- BRIDGE_OVERTEMP (R110). A bridge at 150 °C stops its channel and ends the frame OVERTEMP. -/
  | bridgeOvertemp (c : Nat)
  /-- BRIDGE_COOL (R110). A channel whose sensor reads 135 °C or less is usable again. -/
  | bridgeCool (c : Nat)
  /-- COIL_TEST (R122). A full test of one coil measures off-state, resonance and quality factor. -/
  | coilTest (m : CoilMeas)
  /-- COIL_TEST_24H (R123). Every 24 h in WELCOME and FRUGAL a full coil test runs, one bank at a time. -/
  | coilTest24h
  /-- DISABLED_RETEST (R124). Every 10 s each disabled channel is retested, and two passes in a row enable it again. -/
  | disabledRetest (passed : List Nat)
  /-- COUPLED_EXCHANGE_START (R106). A coupled exchange owning every fitted channel starts once no frame drives, charges the carrier and sends SELECT. -/
  | coupledExchangeStart
  /-- CT_ID_RECEIVED (R129). The transponder ID frame is decoded, and the unit sends CHALLENGE or ends with UNKNOWN_FOB. -/
  | ctIdReceived (delay : Nat) (ok : Bool) (bits : List Bool)
  /-- CT_RESPONSE_RECEIVED (R129). The transponder RESPONSE is compared and the exchange ends OK, MISMATCH, LATE or UPLINK. -/
  | ctResponseReceived (delay : Nat) (ok : Bool) (bits : List Bool)
  /-- CT_REPLY_TIMEOUT (R129). No ID or RESPONSE within its window ends the exchange NO_REPLY. -/
  | ctReplyTimeout
  /-- CT_DRIVE_CAP (R125). Holder drive reaching 200 ms ends the exchange TIMEOUT. -/
  | ctDriveCap
  /-- LANE_REQUEST (R135). A session request takes a lane and moves it toward SYNTH. -/
  | laneRequest (sel : Nat) (cls : Cls) (chan : Nat)
  /-- SYNTH_LOCKED (R141). Lock-detect and the frequency check pass at the end of a SYNTH entry or hop, and queued transmits may proceed. -/
  | synthLocked (n : Nat) (temp : Int) (coefs : List Bool)
  /-- LOCK_CHECK_TIMEOUT (R141). Checks not passed by twice the maximum time recalibrate, or end NO_LOCK with fault 0x3101. -/
  | lockCheckTimeout (n : Nat)
  /-- LOCK_LOST (R142). Lock dropping in RX or TX stops emission, ends UNLOCK and tries one relock. -/
  | lockLost (n : Nat)
  /-- TX_COMMAND (R146). A transmit command is queued, refused TX_BUSY, or cancelled TX_LATE. -/
  | txCommand (n : Nat) (cmd : TxCmd)
  /-- TX_START (R145). A queued frame is emitted at its timed start or as soon as possible. -/
  | txStart (n : Nat)
  /-- TX_LATE_DEADLINE (R146). A timed transmit whose checks have not passed at start minus 6 µs is cancelled TX_LATE. -/
  | txLateDeadline (n : Nat)
  /-- RX_COMMAND (R147). A receive command opens a window or an open search on the lane. -/
  | rxCommand (n : Nat) (window : Option Nat)
  /-- RX_WINDOW_END (R147). A receive window that ends with no detection ends NO_DETECT. -/
  | rxWindowEnd (n : Nat)
  /-- LANE_IDLE_SLEEP (R140). In FRUGAL and WELCOME a lane goes to SLEEP 2 ms after its last operation. -/
  | laneIdleSleep (n : Nat)
  /-- LANE_DOMAIN_OFF (R140). A lane in SLEEP for 10 ms has its domain switched off. -/
  | laneDomainOff (n : Nat)
  /-- LANE_TEMP_SAMPLE (R143). Every 10 ms the lane temperature is sampled and calibration invalidated beyond 15 °C from TCAL. -/
  | laneTempSample (n : Nat) (temp : Int)
  /-- CAL_AGE_EXPIRY (R143). In ROAD, calibration data older than 60 s become invalid. -/
  | calAgeExpiry (n : Nat)
  /-- LOOPBACK (R154). A lane measures its own loop and ends FAULT with fault 0x3103 if amplitude stays out of limits. -/
  | loopback (n : Nat) (m : LoopMeas)
  /-- SYNC_DETECT (R165). A lane declares detection of a class from the parallel sync search and proceeds to AGC, aerial choice and the turn. -/
  | syncDetect (n : Nat) (m : SyncMeas)
  /-- WAKE_REPLY (R227). The unit receives a fob's reply to a WAKE or LOCATE with its tone measurements. -/
  | wakeReply (n : Nat) (r : AirRx)
  /-- AIR_RESPONSE (R228). The unit checks a fob's proof, then derives K_s, K_r and S_x, or ends the session NO_AUTH with a strike. -/
  | airResponse (n : Nat) (r : AirRx)
  /-- RANGE_POLL (R215). An overhearing unit receives a RANGE_POLL and estimates its first path. -/
  | rangePoll (n : Nat) (r : AirRx) (m : RangeRx)
  /-- RANGE_REPLY (R205). A RANGE_REPLY is received, its first path is found, and the next pass or RANGE_FINAL follows. -/
  | rangeReply (n : Nat) (r : AirRx) (m : RangeRx)
  /-- RANGE_REPORT (R208). The fob's report is received and the exchange checks are evaluated to a Fox result within 150 µs. -/
  | rangeReport (n : Nat) (r : AirRx) (mismatches : Nat)
  /-- RANGE_REPLY_TIMEOUT (R201). A RANGE_REPLY not detected in its window ends the exchange NO_REPLY. -/
  | rangeReplyTimeout (n : Nat)
  /-- RANGE_REPORT_TIMEOUT (R201). A missing RANGE_REPORT ends the exchange NO_REPORT. -/
  | rangeReportTimeout (n : Nat)
  /-- RANGING_EXCHANGE (R191). The head starts an exchange at a fresh poll number, with a loopback, then the first RANGE_POLL. -/
  | rangingExchange (record : Nat)
  /-- GUARD_SECOND_EXCHANGE (R213). 50 µs after the first RANGE_REPORT of a GUARD fix the second exchange starts. -/
  | guardSecondExchange (record : Nat)
  /-- OVERHEAR_EXCHANGE_END (R216). A listener computes its differential time and sends OVERHEAR_REPORT within 1 ms of the exchange's end. -/
  | overhearExchangeEnd (n : Nat)
  /-- NOTICE (R242). A NOTICE is accepted within its counter window, acknowledged, and its counter committed before the unit acts on it. -/
  | noticeFrame (n : Nat) (r : AirRx)
  /-- NCTR_COMMIT_DONE (R242). Once the notice counter is committed, the remote lock or unlock decision proceeds. -/
  | nctrCommitDone (record : Nat)
  /-- SERVICE (R225). A sealed SERVICE frame from a fob, ENROLLED or STATUS, is handled by its code. -/
  | serviceFrame (n : Nat) (r : AirRx)
  /-- ACK (R188). A sender receives an ACK naming its frame and stops its retries. -/
  | ackFrame (n : Nat) (r : AirRx)
  /-- SESSION_TRIGGER (R227). A trigger starts a session, or waits, and runs its WAKE entries. -/
  | sessionTrigger
  /-- REPLY_WINDOW_CLOSE (R227). 4.3 ms after a WAKE frame the unit challenges the replying fobs, or retries the WAKE, or ends NO_FOB. -/
  | replyWindowClose
  /-- RESPONSE_TIMEOUT (R228). No RESPONSE in its window sends a second CHALLENGE, or ends the session NO_AUTH. -/
  | responseTimeout (record : Nat)
  /-- SESSION_TIMEOUT (R226). A session with no accepted frame for 10 s ends and its keys are erased. -/
  | sessionTimeout (record : Nat)
  /-- BAR_EXPIRY (R231). A fob barred for strikes is released after 60 s. -/
  | barExpiry (record : Nat)
  /-- TRACKER_STALE (R239). A HELD tracker whose position is older than FOBPOL.stale becomes STALE. -/
  | trackerStale (record : Nat)
  /-- TRACKER_FORGET (R239). A tracker STALE for 60 s becomes UNKNOWN. -/
  | trackerForget (record : Nat)
  /-- ENROL_TIMEOUT (R225). No ENROLLED answer within 500 ms ends enrolment with nothing committed. -/
  | enrolTimeout
  /-- IGNITION_WINDOW_EXPIRY (R244). Ignition not on within 30 s of a release granted with ignition off clears the latch. -/
  | ignitionWindowExpiry
  /-- SES_LFRUN_GO (R230). A write of SES_LFRUN.GO on a satellite runs the named POLLS entry at SES_LFAT. -/
  | sesLfrunGo
  /-- CRYSTAL_LOST (R250). The 32.768 kHz crystal stops, the FLL holds, DEGR is set and fault 0x0101 raised. -/
  | crystalLost
  /-- FLL_LOCK (R249). The FLL locks to the crystal and LOCK is set. -/
  | fllLock
  /-- DEGR_CLEAR (R250). DEGR clears once the FLL has stayed locked for 10 s. -/
  | degrClear
  /-- FLL_LOCK_TIMEOUT (R250). No lock within 1 s of AONPOR raises fault 0x0103. -/
  | fllLockTimeout
  /-- BACKUP_SWITCH (R252). The always-on rail switches between VSYS and VBKP without losing a tick. -/
  | backupSwitch (onVbkp : Bool)
  /-- COMP_SAMPLE (R254). The always-on temperature is sampled and CORR updated, or held with fault 0x0102. -/
  | compSample (reading : Option Int)
  /-- SET_TIME (R257). The authenticated time-set routine steps or slews the Chronicle and sets the UTC offset. -/
  | setTime
  /-- DEFERRED_STEP (R258). A step deferred for an outstanding overhearing plan is applied once no plan remains, at most 5 ms later. -/
  | deferredStep
  /-- SLEW_DONE (R257). CHRON_SLEW reaches 0 and the slew ends. -/
  | slewDone
  /-- SECOND_TICK (R260). The Chronicle seconds increase by counting: TIME_PPS rises, a snapshot is latched and a speed sample given. -/
  | secondTick
  /-- PPS_FALL (R260). TIME_PPS goes low 125 ms after it rose. -/
  | ppsFall
  /-- TIM_GO (R265). A write of TIM_GO starts the named timers in the next tick. -/
  | timGo (m : Master) (mask : Nat)
  /-- TIM_STOP (R265). A write of TIM_STOP stops the named timers in the next tick. -/
  | timStop (m : Master) (mask : Nat)
  /-- TIMER_COMPARE_MATCH (R266). A counter increment equals CMPx, which sets Mx and wraps or stops the timer by mode. -/
  | timerCompareMatch (n x : Nat)
  /-- TIMER_OVERFLOW (R264). A counter increment from 0xFFFF_FFFF to 0 sets OVF. -/
  | timerOverflow (n : Nat)
  /-- TIMER_CAPTURE (R267). A selected edge captures the counter into TIMn_CAP, setting CAPF or OVR. -/
  | timerCapture (src : Nat) (rising : Bool)
  /-- MOTION_EDGE (R272). A qualified edge of MOTION_A is counted with its direction and the speed is updated. -/
  | motionEdge (low high : Nat)
  /-- MOTION_GLITCH (R272). A rejected excursion is counted in WM_GLITCH, and 64 within 1 s raise fault 0x0202. -/
  | motionGlitch
  /-- SPEED_ZERO_TIMEOUT (R277). No qualified edge for 2.0 s makes the speed known 0. -/
  | speedZeroTimeout
  /-- MOTION_STOPPED (R278). Speed known 0 for t_stop makes the motion state STOPPED. -/
  | motionStopped
  /-- WAYMARK_EVALUATE (R280). Every 10 ms the waymark triggers are evaluated and their actions dispatched in table order. -/
  | waymarkEvaluate
  /-- LEDGER_INGEST (R294). A record enters the ingest queue and is sealed with NUM, MAC and CRC into the open sector. -/
  | ledgerIngest (arrival : Option (Cls × Rec))
  /-- CHECKPOINT_SEAL (R293). Once its signature is computed, a CKPT_R and CKPT_S pair is sealed. -/
  | checkpointSeal
  /-- SECTOR_AGE_FLUSH (R295). 120 s after an open sector's first record, the sector is programmed. -/
  | sectorAgeFlush
  /-- NAND_PROGRAM_DONE (R295). A NAND program or erase ends, closing the sector, or a failure retires the block. -/
  | nandProgramDone (ok : Bool)
  /-- LEDGER_OPEN (R300). After step 8 the ledger finds its end, recovers the open sector and appends POWER_GAP or LOSS. -/
  | ledgerOpen
  /-- MIRROR_COPY (R289). The ledger is copied to a blank second device in the background at P3. -/
  | mirrorCopy
  /-- SUMMARY_HOURLY (R302). At most once an hour in ROAD the tag summary leaves are rewritten as one commit group. -/
  | summaryHourly
  /-- RETAINED_WINDOW_WRITE (R308). A write into the retained window claims or extends the window buffer run. -/
  | retainedWindowWrite (m : Master) (off : Nat) (w : Width) (v : Nat)
  /-- WINDOW_BUFFER_TIMEOUT (R308). A window buffer whose owner has made no access for 100 ms is emptied. -/
  | windowBufferTimeout
  /-- RMC_COMMIT (R310). RMC_CMD COMMIT submits the buffered run as a group, or completes with its recorded error. -/
  | rmcCommit (m : Master)
  /-- RMC_ABORT (R308). RMC_CMD ABORT empties the window buffer. -/
  | rmcAbort (m : Master)
  /-- COMMIT_GROUP_SUBMIT (R309). An internal engine submits a complete group to the commit queue. -/
  | commitGroupSubmit (e : Engine) (cls : Cls) (writes : List (Nat × Bytes))
  /-- PAGE_PROGRAM_DONE (R310). A shadow page program and verify end, and the next page or the marker follows, or reprogram or FAIL. -/
  | pageProgramDone (ok : Bool)
  /-- MARKER_PROGRAM_DONE (R310). The group marker verifies, the group is complete and the requester is told. -/
  | markerProgramDone (ok : Bool)
  /-- TALLY_INCREMENT (R317). A request adds 1 to a tally counter, rolling over if the active set is full. -/
  | tallyIncrement (by_ : TallyBy) (cls : Cls) (c : Nat)
  /-- TALLY_RAISE (R317). A request raises a tally counter to V, programming cells or committing the base page. -/
  | tallyRaise (by_ : TallyBy) (cls : Cls) (c v : Nat)
  /-- TALLY_CELL_DONE (R317). A tally cell program ends and the value rises by one. -/
  | tallyCellDone
  /-- TALLY_SET_ERASE_DONE (R318). The background erase of an old tally set ends. -/
  | tallySetEraseDone (c : Nat)
  /-- GENERATE (R333). VLT_CMD GENERATE fills an empty slot with a key from the DRBG. -/
  | generate (m : Master) (slot : Nat)
  /-- IMPORT_OPEN (R334). VLT_CMD IMPORT_OPEN draws an ephemeral pair and returns a signed record. -/
  | importOpen (m : Master) (slot : Nat)
  /-- IMPORT (R334). VLT_CMD IMPORT opens a wrapped key blob and commits the slot. -/
  | importKey (m : Master) (slot : Nat)
  /-- IMPORT_PAIR_EXPIRY (R334). An open import pair unused for 10 s is erased. -/
  | importPairExpiry
  /-- ERASE (R335). VLT_CMD ERASE empties a slot where master and state allow. -/
  | eraseSlot (m : Master) (slot : Nat)
  /-- ATTEST (R337). VLT_CMD ATTEST returns a statement on a slot signed by slot 0. -/
  | attest (m : Master) (slot : Nat)
  /-- PUBLIC (R342). VLT_CMD PUBLIC returns the public point of a P-256 slot. -/
  | publicPoint (m : Master) (slot : Nat)
  /-- LC_NONCE (R339). VLT_CMD LC_NONCE returns a 16-byte nonce for a service authorisation. -/
  | lcNonce (m : Master)
  /-- LC_NONCE_EXPIRY (R339). A life-cycle nonce is invalid 60 s after issue. -/
  | lcNonceExpiry
  /-- LC_SET (R338). VLT_CMD LC_SET makes a life-cycle transition by fuse or tally counter 2. -/
  | lcSet (m : Master)
  /-- EXPORT (R336). VLT_CMD EXPORT returns an exportable imported key wrapped to a supplied public key. -/
  | exportKey (m : Master) (slot : Nat)
  /-- VLT_BUF_IDLE (R342). A VLT_BUF claim lapses after 100 ms without access. -/
  | vltBufIdle
  /-- LEGACY_KEY_WRITE (R341). A write to VLT_LEGACY_KEYi gathers a word, and KEY3 commits slot 255. -/
  | legacyKeyWrite (m : Master) (word v : Nat)
  /-- LEGACY_KEY_GAP (R341). A gap of more than 100 ms before KEY3 discards the gathered words. -/
  | legacyKeyGap
  /-- PROTECTION_REWRITE (R330). After profile entry the Den rewrites every occupied slot whose mode differs from SYSTEM. -/
  | protectionRewrite
  /-- ENCRYPT (R347). CRY_CMD ENCRYPT encrypts the buffer in CBC, CTR, CCM or GCM. -/
  | encrypt (m : Master) (slot mode : Nat)
  /-- DECRYPT (R347). CRY_CMD DECRYPT decrypts and checks the tag, ending AUTH on failure. -/
  | decrypt (m : Master) (slot mode : Nat)
  /-- MAC (R347). CRY_CMD MAC computes a CMAC or HMAC tag. -/
  | macTag (m : Master) (slot mode : Nat)
  /-- HASH (R347). CRY_CMD HASH computes SHA-256 over the buffer. -/
  | hashSha (m : Master)
  /-- SIGN (R347). CRY_CMD SIGN makes an ECDSA P-256 signature over a digest. -/
  | signDigest (m : Master) (slot : Nat)
  /-- VERIFY (R347). CRY_CMD VERIFY checks an ECDSA signature with a slot or buffer key. -/
  | verifySig (m : Master) (slot mode : Nat)
  /-- AGREE (R347). CRY_CMD AGREE computes ECDH Z into an empty general slot. -/
  | agree (m : Master) (slot dst : Nat)
  /-- DERIVE (R347). CRY_CMD DERIVE writes an SP 800-108 output into an empty general slot. -/
  | derive (m : Master) (slot dst : Nat)
  /-- RANDOM (R347). CRY_CMD RANDOM returns DLEN random bytes. -/
  | randomBytes (m : Master)
  /-- CRY_BUF_IDLE (R347). A CRY_BUF claim lapses after 100 ms without access. -/
  | cryBufIdle
  /-- SYMMETRIC_STEP_PREEMPT (R346). A P0 request takes the symmetric core at the next step boundary. -/
  | symmetricStepPreempt
  /-- ENT_RAND_READ (R354). A read of ENT_RAND makes one DRBG request, waiting up to 1 ms. -/
  | entRandRead (m : Master)
  /-- ENTROPY_WAIT_TIMEOUT (R354). An external random read waiting 1 ms completes with ENTROPY_WAIT. -/
  | entropyWaitTimeout
  /-- RESEED (R353). A write of ENT_CTL.RESEED reseeds the DRBG from 384 pool bits. -/
  | reseed (m : Master)
  /-- HEALTH_WINDOW_CLOSE (R349). A health-test window closes and passes, releasing its conditioned bits to the pool. -/
  | healthWindowClose (w : Window)
  /-- RAW_MODE_ENTER (R359). ENT_CTL.RAW set to 1 uninstantiates the DRBG and blocks output. -/
  | rawModeEnter (m : Master) (sel : Nat)
  /-- RAW_MODE_EXIT (R360). Raw test mode ends and the source reruns its start-up test and reinstantiates the DRBG. -/
  | rawModeExit (m : Master)
  /-- ENT_RAW_READ (R359). A read of ENT_RAW returns 32 raw samples of the selected source. -/
  | entRawRead (m : Master)
  /-- RAW_MODE_TIMEOUT (R360). ENT_RAW unread for 10 s ends raw test mode. -/
  | rawModeTimeout
  /-- HEALTH_TEST_FAIL (R355). A health-test failure stops all output and raises fault 0x4301. -/
  | healthTestFail (w : Window)
  /-- ENTROPY_SELF_RESTART (R356). With self-restart set, the Hedgehog restarts the unit once the FAULT record is sealed. -/
  | entropySelfRestart
  /-- FIELD_ON (R366). A 13.56 MHz field appears and powers the tag. -/
  | fieldOn
  /-- FIELD_LOSS (R366). Loss of the field returns the tag to IDLE and ends authentication, holds and the snapshot. -/
  | fieldLoss
  /-- REQA (R366). The tag in IDLE answers REQA with ATQA. -/
  | reqa
  /-- WUPA (R366). WUPA answered with ATQA brings the tag out of HALT or IDLE. -/
  | wupa
  /-- ANTICOLLISION (R366). The tag answers an anticollision command with its UID bits. -/
  | anticollision (level : Nat) (known : List Bool)
  /-- ISO_SELECT (R366). A cascade SELECT answered with SAK advances or completes selection. -/
  | isoSelect (level : Nat) (uid : Bytes)
  /-- RATS (R366). The tag answers RATS with its ATS. -/
  | rats
  /-- PPS (R366). A PPS is answered only for DRI = DSI = 0. -/
  | ppsRequest (dri dsi : Nat)
  /-- HLTA (R366). HLTA puts the tag into HALT and ends authentication. -/
  | hlta
  /-- DESELECT (R366). DESELECT puts the tag into HALT and ends authentication. -/
  | deselect
  /-- APDU_SELECT (R368). SELECT with the AID selects the application and returns serial, vehicle ID and flags. -/
  | apduSelect (a : Apdu) (ins : Nat)
  /-- AUTH_STEP_1 (R369). AUTH step 1 takes Nr and returns Nt. -/
  | authStep1 (a : Apdu)
  /-- AUTH_STEP_2 (R369). AUTH step 2 checks pr and returns pt, or answers 6300 and counts the failure. -/
  | authStep2 (a : Apdu)
  /-- READ_LEAF (R371). READ_LEAF returns a leaf's committed bytes if its rights allow. -/
  | readLeaf (a : Apdu)
  /-- WRITE_LEAF (R372). WRITE_LEAF writes a leaf's working copy, taking hold of it. -/
  | writeLeaf (a : Apdu)
  /-- LOCK_WTX_EXPIRY (R372). A field write waiting on a wired-held leaf ends 9210 BUSY at the end of its third lock WTX. -/
  | lockWtxExpiry
  /-- TAG_COMMIT (R373). COMMIT commits every leaf the field holds, through the commit queue or the tag's own path. -/
  | tagCommit (a : Apdu) (vres : Nat)
  /-- FIELD_PAGE_PROGRAM_DONE (R375). A field-path program ends and the next program starts if TAG_VRES passes its check, or the tag answers 9220. -/
  | fieldPageProgramDone (ok : Bool) (vres : Nat)
  /-- GET_SUMMARY (R378). GET_SUMMARY returns four summary leaves, taking a snapshot at part 0. -/
  | getSummary (a : Apdu)
  /-- TAG_MEM_WRITE (R372). A wired write into TAG_MEM takes hold of an SRAM leaf, or completes BUSY. -/
  | tagMemWrite (m : Master) (off : Nat) (w : Width) (v : Nat)
  /-- TAG_WIRED_COMMIT (R372). TAG_WCMT commit swaps a held leaf's working copy into its committed copy. -/
  | tagWiredCommit (m : Master) (leaf : Nat)
  /-- TAG_WIRED_DISCARD (R372). TAG_WCMT discard drops a held leaf's working copy. -/
  | tagWiredDiscard (m : Master) (leaf : Nat)
  /-- TAG_WIRED_HOLD_TIMEOUT (R372). A wired hold lapses when its holder has not accessed TAG_MEM for 100 ms. -/
  | tagWiredHoldTimeout
  /-- IGNITION (R385). An IGNITION frame sets the ignition state and restarts its timeout, clearing the latch on a change to off. -/
  | ignitionFrame (f : CanFrame)
  /-- IGNITION_TIMEOUT (R385). No IGNITION frame for five periods or 1 s holds the state and raises fault 0x6203. -/
  | ignitionTimeout
  /-- WAKE_FRAME (R388). A selective-wake frame matching identifier and mask wakes the unit. -/
  | wakeFrame (f : CanFrame)
  /-- CAN_WAKE_PATTERN (R387). N wake-up patterns within the wake window wake the unit. -/
  | canWakePattern (phase span : Nat)
  /-- CAN_FRAME_TRANSMIT (R382). The controller offers the bus the oldest waiting frame of the highest class. -/
  | canFrameTransmit (turn : BusTurn)
  /-- BUS_OFF (R383). The controller enters bus-off and raises fault 0x6201. -/
  | busOff
  /-- BUS_OFF_RECOVERY (R383). After 128 occurrences of 11 recessive bits the controller recovers. -/
  | busOffRecovery
  /-- BUS_OFF_LONG (R383). Bus-off lasting over 1 s raises fault 0x6202. -/
  | busOffLong
  /-- J1939_ADDRESS_CLAIM (R386). An address claim or request is answered under SAE J1939-81, or the address is lost with fault 0x6204. -/
  | j1939AddressClaim (claim : Option Bytes)
  /-- RING (R392). A ring message is received and followed, including the sleep round and its commit point. -/
  | ringMessage (f : CanFrame)
  /-- RING_TURN (R390). t_s after a message naming it as successor, the head sends its own ring message. -/
  | ringTurn
  /-- RING_SUCCESSOR_TIMEOUT (R390). A successor silent for 2 t_s is marked absent and the next member named. -/
  | ringSuccessorTimeout
  /-- RING_START_TIMEOUT (R390). An awake member that has heard no ring message for 250 ms plus 10 ms per index starts the ring. -/
  | ringStartTimeout
  /-- RING_OVERRULE (R394). A sole missing member for T_awake_max is overruled. -/
  | ringOverrule
  /-- RING_WAKE_EVENT (R393). A wake event during a sleep round sends an out-of-turn READY 0 WAKE 1 message. -/
  | ringWakeEvent
  /-- ISO_TP_FRAME (R396). A diagnostic transport frame is received, queued or refused at the command port. -/
  | isoTpFrame (f : CanFrame)
  /-- NCR_TIMEOUT (R396). A message whose next consecutive frame does not arrive within N_Cr is abandoned. -/
  | ncrTimeout
  /-- S3_TIMEOUT (R397). No request for 5 s returns the session to default and ends authentication. -/
  | s3Timeout
  /-- DIAGNOSTIC_SESSION_CONTROL (R397). Service 0x10 selects the default, programming or extended session. -/
  | diagnosticSessionControl
  /-- ECU_RESET (R397). Service 0x11 resets the unit with cause ECURST. -/
  | ecuReset
  /-- READ_DATA_BY_IDENTIFIER (R397). Service 0x22 returns the named data identifier. -/
  | readDataByIdentifier
  /-- READ_MEMORY_BY_ADDRESS (R399). Service 0x23 reads up to 64 bytes as a master 2 fabric access. -/
  | readMemoryByAddress
  /-- WRITE_MEMORY_BY_ADDRESS (R399). Service 0x3D writes up to 64 bytes as a master 2 fabric access. -/
  | writeMemoryByAddress
  /-- SECURITY_ACCESS_SEED (R398). SecurityAccess 0x01 returns a fresh seed. -/
  | securityAccessSeed
  /-- SECURITY_ACCESS_KEY (R398). SecurityAccess 0x02 verifies the signature and authenticates the session, or counts a failure. -/
  | securityAccessKey
  /-- SECURITY_DELAY_EXPIRY (R398). The 10 s lockout after the third SecurityAccess failure ends. -/
  | securityDelayExpiry
  /-- REQUEST_DOWNLOAD (R400). RequestDownload opens an image download into the inactive slot, or is refused. -/
  | requestDownload
  /-- TRANSFER_DATA (R400). TransferData writes a download block, or returns an upload block. -/
  | transferData
  /-- REQUEST_TRANSFER_EXIT (R400). RequestTransferExit verifies the staged slot and marks it pending. -/
  | requestTransferExit (held : Bool)
  /-- REQUEST_UPLOAD (R401). RequestUpload opens export of ledger records or an image archive frame. -/
  | requestUpload
  /-- TESTER_PRESENT (R397). Service 0x3E keeps the diagnostic session alive. -/
  | testerPresent
  /-- CONFIRM_IMAGE (R54). Routine 0xF001 confirms a trial image and raises the anti-rollback counters. -/
  | confirmImage
  /-- ENROL_FOB (R225). Routine 0xF002 enrols a fob through sealed SERVICE frames. -/
  | enrolFob
  /-- BAR_FOB (R401). Routine 0xF003 with bar 1 bars a fob record. -/
  | barFob
  /-- UNBAR_FOB (R401). Routine 0xF003 with bar 0 unbars a fob record. -/
  | unbarFob
  /-- EMPTY_FOB_RECORD (R401). Routine 0xF004 empties a fob record. -/
  | emptyFobRecord
  /-- CLEAR_COUNTERS (R401). Routine 0xF005 writes every clear-control register and clears SUP_RGN_STAT. -/
  | clearCounters
  /-- COIL_TEST_ROUTINE (R123). Routine 0xF006 runs coil tests on the named unit and channels at P3. -/
  | coilTestRoutine (remote : List (Nat × Nat × Nat))
  /-- FORMAT_LEDGER (R289). Routine 0xF008 in SERVICE formats the ledger devices. -/
  | formatLedger
  /-- VERIFY_LEDGER (R301). Routine 0xF009 checks the MAC chain over a NUM range. -/
  | verifyLedger
  /-- ATTEST_SLOT3 (R401). Routine 0xF00A returns the attestation statement for slot 3. -/
  | attestSlot3
  /-- HOST_READ_WORDS (R404). Host command 0x01 reads 1 to 16 words as master 4. -/
  | hostReadWords (bits : List Bool)
  /-- HOST_WRITE_WORDS (R404). Host command 0x02 writes 1 to 16 words as master 4. -/
  | hostWriteWords (bits : List Bool)
  /-- HOST_LEDGER_READ (R404). Host command 0x04 reads 1 to 16 ledger records. -/
  | hostLedgerRead (bits : List Bool)
  /-- HOST_CS_ABORT (R404). HOST_CS_N rising before the marker is counted in HPT_CNT.ABORT. -/
  | hostCsAbort (bits : List Bool)
  /-- TOUCH_SCAN (R409). A scan converts each scanned channel and detects touch, release or water. -/
  | touchScan (convs : List Int)
  /-- TOUCH_STUCK (R410). A channel touched for 10 s is stuck and raises fault 0x0301. -/
  | touchStuck (n : Nat)
  /-- SWITCH_SAMPLE (R412). A switch input is sampled with its wetting current. -/
  | switchSample (highs : List Bool)
  /-- SWITCH_DEBOUNCE (R413). A sampled level stable for DEB ms changes the debounced level and may fire a trigger. -/
  | switchDebounce (n : Nat)
  /-- SWITCH_STUCK (R413). A start-button switch active for 60 s is stuck and raises fault 0x0302. -/
  | switchStuck (n : Nat)
  /-- SWITCH_POL_WRITE (R413). A write of TSW_SWCFG.POL sets the debounced level at once without firing. -/
  | switchPolWrite (m : Master) (v : Nat)
  /-- SAT_EVENT_REPEAT (R414). A satellite repeats its event frame every 2 ms until it hears from unit 1. -/
  | satEventRepeat
  /-- START_LINE_READBACK (R416). 100 µs after the latch sets, both lines are read back, with fault 0x0303 on failure. -/
  | startLineReadback (hRel lRel : Bool)
  /-- START_LINE_OVERCURRENT (R417). A line held at its current limit for 50 µs switches off. -/
  | startLineOvercurrent (high : Bool) (us : Nat)
  /-- START_LINE_RETRY (R417). A line off for overcurrent is retried every 100 ms while the latch stays set. -/
  | startLineRetry (high : Bool)
  /-- START_LINE_OVERTEMP (R417). A driver junction at 150 °C switches the line off until it reads 135 °C. -/
  | startLineOvertemp (high : Bool) (celsius : Int)
  /-- START_LINE_OPEN_LOAD (R417). A released STARTEN_L sinking under 2 mA for 10 ms raises fault 0x0304. -/
  | startLineOpenLoad (microamps ms : Nat)
  /-- START_LINE_FORCED (R417). A locked line reading at its release level for 10 ms raises fault 0x0305. -/
  | startLineForced (high : Bool) (mv ms : Nat)
  /-- VBAT_FAIL (R420). VBAT below 4.5 V sheds domains, ends sessions, lowers to PL0 and starts the ledger and retained-memory flush. -/
  | vbatFail (vbat us : Nat)
  /-- VBAT_FAIL_DEASSERT (R420). VBAT at 5.0 V for 1 ms ends VBAT_FAIL and recovers without reset. -/
  | vbatFailDeassert (vbat us : Nat)
  /-- VBAT_OVERVOLTAGE (R419). VBAT above 36 V inhibits LF drive and raises fault 0x0401. -/
  | vbatOvervoltage (vbat above40 : Nat)
  /-- VSYS_OUT_OF_RANGE (R421). VSYS out of range for 100 µs or the buck at its limit for 1 ms raises fault 0x0404. -/
  | vsysOutOfRange (vsys us limitUs : Nat)
  /-- VBKP_SAMPLE (R422). Every 60 s VBKP is sampled and fault 0x0403 raised once per run of low readings. -/
  | vbkpSample (vbkp : Nat)
  /-- DOMAIN_POWER_FAIL (R423). A domain not at its supply within twice its power-on time is switched off with fault 0x0405. -/
  | domainPowerFail (d : Dom) (us : Nat)
  /-- PL_CHANGE (R426). A change of the level in force ramps the voltage and switches the clock in order. -/
  | plChange
  /-- PL_CHANGE_DONE (R426). A level change settles, and a pending opposite change follows. -/
  | plChangeDone (trim : Int)
  /-- PROCESS_TRIM (R425). Every 1 s the process trim of the level's voltage is set again. -/
  | processTrim (trim : Int)
  /-- DOZE_ENTRY (R428). After 50 µs with nothing pending the unit enters DOZE. -/
  | dozeEntry
  /-- STANDBY_ENTRY (R428). With no timed event due within 1 ms the unit enters STANDBY. -/
  | standbyEntry
  /-- WAKE_EVENT (R429). A wake event brings the unit from SLEEP to ON through the wake sequence. -/
  | wakeEvent (env : BootEnv)
  /-- INTERNAL_WAKE (R428). The wake timer leaves SLEEP for a poll slot or notice window, then returns to SLEEP. -/
  | internalWake (env : BootEnv)
  /-- TEMP_SAMPLE (R435). Every 1 ms the eight sensors are sampled and temperature steps taken or undone. -/
  | tempSample (readings : List (Option Int))
  /-- RAIL_OUT_OF_RANGE (R437). A rail outside its window for its filter time takes its action. -/
  | railOutOfRange (rail mv us : Nat)
  /-- PROCESS_MONITOR (R438). The process monitors measure margin and reduce, log or restart. -/
  | processMonitor (margins : List Int)
  /-- PL_CAP_TRIAL (R438). 60 s after a process REDUCE the Hedgehog runs a trial to lift the cap one level. -/
  | plCapTrial (margins : List Int)
  /-- BLOCK_RESET (R439). 20 ms after isolation the Hedgehog resets the block alone. -/
  | blockReset (b : Block)
  /-- BLOCK_RESET_DONE (R439). A block reset ends after 1 ms and the block serves again. -/
  | blockResetDone (b : Block)
  /-- HEDGEHOG_RESTART (R440). The Hedgehog stores the code, waits for retained programs, flushes the open sector and resets with cause HEDGE. -/
  | hedgehogRestart
  /-- DEFERRED_RESTART (R441). A restart deferred by the three-in-600 s limit runs when the span has passed. -/
  | deferredRestart
  /-- SESSION_WATCHDOG (R442). A P0 event unserved at the head of the session queue for 20 ms raises fault 0x1401. -/
  | sessionWatchdog
  /-- HEARTBEAT_WATCHDOG (R442). PD_AON seeing no Hedgehog heartbeat for 50 ms restarts the unit. -/
  | heartbeatWatchdog
  /-- FAULT_REPORT_WINDOW_END (R443). When a code's 60 s window ends with raisings since its record, a FAULT record is written. -/
  | faultReportWindowEnd (code : Nat)
  /-- HIBERNATE_WAKE (R428). A wake event in HIBERNATE causes a full restart with cause HIBER. -/
  | hibernateWake
  /-- VSYS_RESET (R421). VSYS falling through its reset threshold resets every domain except PD_AON. -/
  | vsysReset (vsys : Nat)
  /-- MOTION_B_EDGE (R273). A qualified edge on MOTION_B in quadrature mode ends the B-silent condition and resumes direction sensing. -/
  | motionBEdge (level : Bool) (held : Nat)
  /-- POLL_SKIP_DEADLINE (R109). A scheduled poll that has not started within 20 ms of its slot is skipped and counted in LF_SKIP. -/
  | pollSkipDeadline (e : Nat)
  /-- SELECTIVE_WAKE_ERRORS (R388). The selective-wake decoder's frame-error count reaching 32 wakes the unit and raises fault 0x6205. -/
  | selectiveWakeErrors (n : Nat)
  /-- START_LINE_COOL (R417). A start-line driver off for overtemperature is retried once its junction reads 135 °C or less. -/
  | startLineCool (high : Bool) (celsius : Int)
  /-- RAIL_BACK_IN_RANGE (R437). A rail such as the RF rail back in its window for 1 ms ends the shedding its excursion caused. -/
  | railBackInRange (rail mv us : Nat)
  /-- NBS_TIMEOUT (R396). No flow-control frame within N_Bs of 1,000 ms after a first frame abandons the diagnostic transmission. -/
  | nbsTimeout
  /-- WAITING_TIME_EXTENSION (R367). The tag sends S(WTX) before FWT runs out while its own processing continues. -/
  | waitingTimeExtension
  /-- NAND_NO_ANSWER (R296). A NAND device that stops answering is taken out of service with fault 0x5201. -/
  | nandNoAnswer (d : Nat)
  /-- VBAT_BOOST_THRESHOLD (R99). VBAT crossing 16.0 V while a bank is powered starts or stops BOOST_G switching. -/
  | vbatBoostThreshold (vbat : Nat)
  /-- DEBUG_HALT (R265). The debug port halts the core, or releases the halt, which holds timers with DHALT set. -/
  | debugHalt (halt : Bool)
  deriving DecidableEq, Repr

end Sys2Proof
end

