-- ==== Sys2Proof/Config.lean ====
section
/-! DEFINITION. What an implementation fixes and the free values: constants without a body, so that nothing can be proved about
which value they are. -/

namespace Sys2Proof

/-- A byte the spec leaves open, drawn at the state's free-value counter (log 4). -/
opaque Config.freeByte : Nat → Byte

/-- The order in which K_perm places words 0 to 13 of a slot: R330 gives the key, not the permutation (log 7). -/
opaque Config.slotOrder : Bytes → Equiv.Perm (Fin 14)

/-- The ratio of the two clocks of an exchange whose report gives no time to divide by (log 18): free, by the number of the draw. -/
opaque Config.freeRatio : Nat → Rat

/-- UID0, Wilforek's ISO/IEC 7816-6 manufacturer code (Table 16-2), which the spec names without its value (log 23). -/
opaque Config.uid0 : Byte

/-- A setting of an engine's timer, derived from the image by a rule the spec does not give (R263, R269, log 11): by the timer, the
register's offset and the image's digest. -/
opaque Config.timerSetting : Nat → Nat → Bytes → BitVec 32

/-- How long the off-state part of a coil test takes, in ticks: R122 gives the whole test's 1.5 ms alone (log 13). -/
opaque Config.offStateTicks : Nat

/-- The converter's full scale in the amplitude of a data tone: R151 saturates there and states no relation of the two (log 98). -/
opaque Config.fullScale : Rat

/-- The detail word of a fault code for which no chapter states one (log 32), by the code and what the model knows of its cause. -/
opaque Config.faultDetail : Nat → Nat → BitVec 32

end Sys2Proof
end

