-- ==== Sys2Proof/Machine/Regs.lean ====
section
/-! DEFINITION. The register map: the address of every register, every field of it, and the write behaviour of its bits, from
the register tables of the chapters (R9, R10). -/

namespace Sys2Proof.Machine.Reg

/-- CHRON_LO (R271). -/
def CHRON_LO : Nat := 0x10000000
def CHRON_LO_V : Fld := ⟨CHRON_LO, 0, 32⟩

/-- CHRON_HI (R271). -/
def CHRON_HI : Nat := 0x10000004
def CHRON_HI_V : Fld := ⟨CHRON_HI, 0, 32⟩

/-- CHRON_UTCOFF (R271). -/
def CHRON_UTCOFF : Nat := 0x10000008
def CHRON_UTCOFF_V : Fld := ⟨CHRON_UTCOFF, 0, 32⟩

/-- CHRON_STAT (R271). -/
def CHRON_STAT : Nat := 0x1000000C
def CHRON_STAT_TVALID : Fld := ⟨CHRON_STAT, 31, 1⟩
def CHRON_STAT_SLEW : Fld := ⟨CHRON_STAT, 30, 1⟩
def CHRON_STAT_LOCK : Fld := ⟨CHRON_STAT, 29, 1⟩
def CHRON_STAT_DEGR : Fld := ⟨CHRON_STAT, 28, 1⟩
def CHRON_STAT_BKP : Fld := ⟨CHRON_STAT, 27, 1⟩
def CHRON_STAT_BKPSEEN : Fld := ⟨CHRON_STAT, 26, 1⟩
def CHRON_STAT_STEPPED : Fld := ⟨CHRON_STAT, 25, 1⟩
def CHRON_STAT_CHAIN : Fld := ⟨CHRON_STAT, 24, 1⟩
def CHRON_STAT_SEQ : Fld := ⟨CHRON_STAT, 16, 8⟩

/-- CHRON_COMP (R271). -/
def CHRON_COMP : Nat := 0x10000010
def CHRON_COMP_TEMP : Fld := ⟨CHRON_COMP, 16, 16⟩
def CHRON_COMP_CORR : Fld := ⟨CHRON_COMP, 0, 16⟩

/-- CHRON_SLEW (R271). -/
def CHRON_SLEW : Nat := 0x10000014
def CHRON_SLEW_V : Fld := ⟨CHRON_SLEW, 0, 32⟩

/-- CHRON_SNAP (R271). -/
def CHRON_SNAP : Nat := 0x10000018
def CHRON_SNAP_V : Fld := ⟨CHRON_SNAP, 0, 32⟩

/-- CHRON_SNAPX (R271). -/
def CHRON_SNAPX : Nat := 0x1000001C
def CHRON_SNAPX_UTCOFF : Fld := ⟨CHRON_SNAPX, 16, 16⟩
def CHRON_SNAPX_FLAGS : Fld := ⟨CHRON_SNAPX, 8, 4⟩
def CHRON_SNAPX_SEQ : Fld := ⟨CHRON_SNAPX, 0, 8⟩

/-- TIM_CTL (R271). -/
def TIM_CTL (n : Nat) : Nat := 0x10001000 + n * 0x20
def TIM_CTL_RUN (n : Nat) : Fld := ⟨TIM_CTL n, 31, 1⟩
def TIM_CTL_DHALT (n : Nat) : Fld := ⟨TIM_CTL n, 30, 1⟩
def TIM_CTL_MODE (n : Nat) : Fld := ⟨TIM_CTL n, 28, 2⟩
def TIM_CTL_PRE (n : Nat) : Fld := ⟨TIM_CTL n, 24, 4⟩
def TIM_CTL_CAPSEL (n : Nat) : Fld := ⟨TIM_CTL n, 16, 3⟩
def TIM_CTL_EDGE (n : Nat) : Fld := ⟨TIM_CTL n, 14, 2⟩
def TIM_CTL_IECAP (n : Nat) : Fld := ⟨TIM_CTL n, 3, 1⟩
def TIM_CTL_IEOVF (n : Nat) : Fld := ⟨TIM_CTL n, 2, 1⟩
def TIM_CTL_IE1 (n : Nat) : Fld := ⟨TIM_CTL n, 1, 1⟩
def TIM_CTL_IE0 (n : Nat) : Fld := ⟨TIM_CTL n, 0, 1⟩

/-- TIM_CNT (R271). -/
def TIM_CNT (n : Nat) : Nat := 0x10001004 + n * 0x20
def TIM_CNT_V (n : Nat) : Fld := ⟨TIM_CNT n, 0, 32⟩

/-- TIM_CMP0 (R271). -/
def TIM_CMP0 (n : Nat) : Nat := 0x10001008 + n * 0x20
def TIM_CMP0_V (n : Nat) : Fld := ⟨TIM_CMP0 n, 0, 32⟩

/-- TIM_CMP1 (R271). -/
def TIM_CMP1 (n : Nat) : Nat := 0x1000100C + n * 0x20
def TIM_CMP1_V (n : Nat) : Fld := ⟨TIM_CMP1 n, 0, 32⟩

/-- TIM_CAP (R271). -/
def TIM_CAP (n : Nat) : Nat := 0x10001010 + n * 0x20
def TIM_CAP_V (n : Nat) : Fld := ⟨TIM_CAP n, 0, 32⟩

/-- TIM_FLG (R271). -/
def TIM_FLG (n : Nat) : Nat := 0x10001014 + n * 0x20
def TIM_FLG_OVR (n : Nat) : Fld := ⟨TIM_FLG n, 4, 1⟩
def TIM_FLG_CAPF (n : Nat) : Fld := ⟨TIM_FLG n, 3, 1⟩
def TIM_FLG_OVF (n : Nat) : Fld := ⟨TIM_FLG n, 2, 1⟩
def TIM_FLG_M1 (n : Nat) : Fld := ⟨TIM_FLG n, 1, 1⟩
def TIM_FLG_M0 (n : Nat) : Fld := ⟨TIM_FLG n, 0, 1⟩

/-- TIM_GO (R271). -/
def TIM_GO : Nat := 0x10001100
def TIM_GO_GO : Fld := ⟨TIM_GO, 0, 8⟩

/-- TIM_STOP (R271). -/
def TIM_STOP : Nat := 0x10001104
def TIM_STOP_STOP : Fld := ⟨TIM_STOP, 0, 8⟩

/-- TIM_RUN (R271). -/
def TIM_RUN : Nat := 0x10001108
def TIM_RUN_RUN : Fld := ⟨TIM_RUN, 0, 8⟩

/-- PWR_RST_CAUSE (R72). -/
def PWR_RST_CAUSE : Nat := 0x10003000
def PWR_RST_CAUSE_HCNT : Fld := ⟨PWR_RST_CAUSE, 24, 8⟩
def PWR_RST_CAUSE_DEBUG : Fld := ⟨PWR_RST_CAUSE, 6, 1⟩
def PWR_RST_CAUSE_EXTRST : Fld := ⟨PWR_RST_CAUSE, 5, 1⟩
def PWR_RST_CAUSE_ECURST : Fld := ⟨PWR_RST_CAUSE, 4, 1⟩
def PWR_RST_CAUSE_HEDGE : Fld := ⟨PWR_RST_CAUSE, 3, 1⟩
def PWR_RST_CAUSE_HIBER : Fld := ⟨PWR_RST_CAUSE, 2, 1⟩
def PWR_RST_CAUSE_SUPPLY : Fld := ⟨PWR_RST_CAUSE, 1, 1⟩
def PWR_RST_CAUSE_AONPOR : Fld := ⟨PWR_RST_CAUSE, 0, 1⟩

/-- PWR_BOOT_STAT (R72). -/
def PWR_BOOT_STAT : Nat := 0x10003004
def PWR_BOOT_STAT_TIME : Fld := ⟨PWR_BOOT_STAT, 16, 16⟩
def PWR_BOOT_STAT_CAUSE : Fld := ⟨PWR_BOOT_STAT, 13, 3⟩
def PWR_BOOT_STAT_DONE : Fld := ⟨PWR_BOOT_STAT, 12, 1⟩
def PWR_BOOT_STAT_FAILSTEP : Fld := ⟨PWR_BOOT_STAT, 8, 4⟩
def PWR_BOOT_STAT_SAT : Fld := ⟨PWR_BOOT_STAT, 5, 1⟩
def PWR_BOOT_STAT_STEP : Fld := ⟨PWR_BOOT_STAT, 0, 4⟩

/-- PWR_STAT (R431). -/
def PWR_STAT : Nat := 0x10003008
def PWR_STAT_VBATF : Fld := ⟨PWR_STAT, 31, 1⟩
def PWR_STAT_OVR : Fld := ⟨PWR_STAT, 30, 1⟩
def PWR_STAT_BKP : Fld := ⟨PWR_STAT, 29, 1⟩
def PWR_STAT_VBKPLO : Fld := ⟨PWR_STAT, 28, 1⟩
def PWR_STAT_LASTST : Fld := ⟨PWR_STAT, 24, 4⟩
def PWR_STAT_WSRC : Fld := ⟨PWR_STAT, 20, 4⟩
def PWR_STAT_VBAT : Fld := ⟨PWR_STAT, 8, 8⟩
def PWR_STAT_VBKP : Fld := ⟨PWR_STAT, 0, 8⟩

/-- PWR_DOM (R431). -/
def PWR_DOM : Nat := 0x1000300C
def PWR_DOM_FAIL : Fld := ⟨PWR_DOM, 16, 12⟩
def PWR_DOM_ON : Fld := ⟨PWR_DOM, 0, 12⟩

/-- PWR_PL (R431). -/
def PWR_PL : Nat := 0x10003010
def PWR_PL_CHG : Fld := ⟨PWR_PL, 31, 1⟩
def PWR_PL_BUSY : Fld := ⟨PWR_PL, 30, 1⟩
def PWR_PL_TARGET : Fld := ⟨PWR_PL, 26, 2⟩
def PWR_PL_CUR : Fld := ⟨PWR_PL, 24, 2⟩
def PWR_PL_TRIM : Fld := ⟨PWR_PL, 8, 8⟩
def PWR_PL_VCORE : Fld := ⟨PWR_PL, 0, 8⟩

/-- PWR_EVT (R431). -/
def PWR_EVT : Nat := 0x10003014
def PWR_EVT_NFAIL : Fld := ⟨PWR_EVT, 16, 16⟩
def PWR_EVT_VBKPLO : Fld := ⟨PWR_EVT, 4, 1⟩
def PWR_EVT_BUCK : Fld := ⟨PWR_EVT, 3, 1⟩
def PWR_EVT_RECOV : Fld := ⟨PWR_EVT, 2, 1⟩
def PWR_EVT_OV : Fld := ⟨PWR_EVT, 1, 1⟩
def PWR_EVT_VBATF : Fld := ⟨PWR_EVT, 0, 1⟩

/-- TSW_CAPSTAT (R418). -/
def TSW_CAPSTAT : Nat := 0x10004000
def TSW_CAPSTAT_TOUCH : Fld := ⟨TSW_CAPSTAT, 24, 8⟩
def TSW_CAPSTAT_EN : Fld := ⟨TSW_CAPSTAT, 16, 8⟩
def TSW_CAPSTAT_EVT : Fld := ⟨TSW_CAPSTAT, 8, 8⟩
def TSW_CAPSTAT_STUCK : Fld := ⟨TSW_CAPSTAT, 0, 8⟩

/-- TSW_CAPCFG (R418). -/
def TSW_CAPCFG : Nat := 0x10004004
def TSW_CAPCFG_THR : Fld := ⟨TSW_CAPCFG, 0, 8⟩

/-- TSW_CAPD (R418). -/
def TSW_CAPD (n : Nat) : Nat := 0x10004010 + n * 0x4
def TSW_CAPD_BASE (n : Nat) : Fld := ⟨TSW_CAPD n, 16, 16⟩
def TSW_CAPD_DELTA (n : Nat) : Fld := ⟨TSW_CAPD n, 0, 16⟩

/-- TSW_SWSTAT (R418). -/
def TSW_SWSTAT : Nat := 0x10004020
def TSW_SWSTAT_EVT : Fld := ⟨TSW_SWSTAT, 8, 4⟩
def TSW_SWSTAT_STUCK : Fld := ⟨TSW_SWSTAT, 4, 4⟩
def TSW_SWSTAT_LVL : Fld := ⟨TSW_SWSTAT, 0, 4⟩

/-- TSW_SWCFG (R418). -/
def TSW_SWCFG : Nat := 0x10004024
def TSW_SWCFG_B0 : Fld := ⟨TSW_SWCFG, 0, 8⟩
def TSW_SWCFG_B1 : Fld := ⟨TSW_SWCFG, 8, 8⟩
def TSW_SWCFG_B2 : Fld := ⟨TSW_SWCFG, 16, 8⟩
def TSW_SWCFG_B3 : Fld := ⟨TSW_SWCFG, 24, 8⟩

/-- TSW_CNT (R418). -/
def TSW_CNT : Nat := 0x10004028
def TSW_CNT_WATER : Fld := ⟨TSW_CNT, 16, 16⟩
def TSW_CNT_GLITCH : Fld := ⟨TSW_CNT, 0, 16⟩

/-- TSW_CLR (R418). -/
def TSW_CLR : Nat := 0x1000402C
def TSW_CLR_CLRCNT : Fld := ⟨TSW_CLR, 0, 1⟩

/-- SL_STAT (R418). -/
def SL_STAT : Nat := 0x10005000
def SL_STAT_LATCH : Fld := ⟨SL_STAT, 31, 1⟩
def SL_STAT_HREL : Fld := ⟨SL_STAT, 30, 1⟩
def SL_STAT_LREL : Fld := ⟨SL_STAT, 29, 1⟩
def SL_STAT_IGNW : Fld := ⟨SL_STAT, 28, 1⟩
def SL_STAT_OCH : Fld := ⟨SL_STAT, 23, 1⟩
def SL_STAT_OCL : Fld := ⟨SL_STAT, 22, 1⟩
def SL_STAT_OPEN : Fld := ⟨SL_STAT, 21, 1⟩
def SL_STAT_FORCED : Fld := ⟨SL_STAT, 20, 1⟩

/-- DEVICE_ID (R3). -/
def DEVICE_ID : Nat := 0x18000000
def DEVICE_ID_ID : Fld := ⟨DEVICE_ID, 0, 32⟩

/-- SUP_HH_STAT (R446). -/
def SUP_HH_STAT : Nat := 0x18000010
def SUP_HH_STAT_HALT : Fld := ⟨SUP_HH_STAT, 31, 1⟩
def SUP_HH_STAT_DEFER : Fld := ⟨SUP_HH_STAT, 30, 1⟩
def SUP_HH_STAT_SHEDP3 : Fld := ⟨SUP_HH_STAT, 29, 1⟩
def SUP_HH_STAT_SHEDP2 : Fld := ⟨SUP_HH_STAT, 28, 1⟩
def SUP_HH_STAT_SHEDAIR : Fld := ⟨SUP_HH_STAT, 27, 1⟩
def SUP_HH_STAT_SHEDLF : Fld := ⟨SUP_HH_STAT, 25, 2⟩
def SUP_HH_STAT_CAP : Fld := ⟨SUP_HH_STAT, 21, 2⟩
def SUP_HH_STAT_NRST : Fld := ⟨SUP_HH_STAT, 16, 5⟩

/-- SUP_RGN_STAT (R40). -/
def SUP_RGN_STAT : Nat := 0x18000040
def SUP_RGN_STAT_REFUSED : Fld := ⟨SUP_RGN_STAT, 16, 8⟩
def SUP_RGN_STAT_ESC : Fld := ⟨SUP_RGN_STAT, 8, 8⟩
def SUP_RGN_STAT_ISO : Fld := ⟨SUP_RGN_STAT, 0, 8⟩

/-- SUP_FLT_LAST (R446). -/
def SUP_FLT_LAST : Nat := 0x18000060
def SUP_FLT_LAST_ACTION : Fld := ⟨SUP_FLT_LAST, 16, 3⟩
def SUP_FLT_LAST_CODE : Fld := ⟨SUP_FLT_LAST, 0, 16⟩

/-- SUP_FLT_CNT (R446). -/
def SUP_FLT_CNT : Nat := 0x18000064
def SUP_FLT_CNT_V : Fld := ⟨SUP_FLT_CNT, 0, 32⟩

/-- SUP_ISO (R446). -/
def SUP_ISO : Nat := 0x18000068
def SUP_ISO_V : Fld := ⟨SUP_ISO, 0, 21⟩

/-- SUP_RSTCODE (R446). -/
def SUP_RSTCODE : Nat := 0x1800006C
def SUP_RSTCODE_V : Fld := ⟨SUP_RSTCODE, 0, 16⟩

/-- SUP_OUTAGE (R446). -/
def SUP_OUTAGE : Nat := 0x18000070
def SUP_OUTAGE_V : Fld := ⟨SUP_OUTAGE, 0, 32⟩

/-- SUP_TEMP (R446). -/
def SUP_TEMP (n : Nat) : Nat := 0x18000100 + n * 0x4
def SUP_TEMP_VALID (n : Nat) : Fld := ⟨SUP_TEMP n, 31, 1⟩
def SUP_TEMP_TEMP (n : Nat) : Fld := ⟨SUP_TEMP n, 0, 16⟩

/-- SUP_VMON (R446). -/
def SUP_VMON : Nat := 0x18000140
def SUP_VMON_V : Fld := ⟨SUP_VMON, 0, 14⟩

/-- SUP_PMON (R446). -/
def SUP_PMON : Nat := 0x18000150
def SUP_PMON_V : Fld := ⟨SUP_PMON, 0, 32⟩

/-- LF_STAT (R132). -/
def LF_STAT : Nat := 0x20000000
def LF_STAT_INH : Fld := ⟨LF_STAT, 31, 1⟩
def LF_STAT_BOOST : Fld := ⟨LF_STAT, 30, 1⟩
def LF_STAT_PWRB : Fld := ⟨LF_STAT, 29, 1⟩
def LF_STAT_PWRA : Fld := ⟨LF_STAT, 28, 1⟩
def LF_STAT_SHEDB : Fld := ⟨LF_STAT, 27, 1⟩
def LF_STAT_SHEDA : Fld := ⟨LF_STAT, 26, 1⟩
def LF_STAT_NDRV : Fld := ⟨LF_STAT, 16, 2⟩
def LF_STAT_DIS : Fld := ⟨LF_STAT, 0, 16⟩

/-- LF_BUD (R132). -/
def LF_BUD : Nat := 0x20000004
def LF_BUD_USEDB : Fld := ⟨LF_BUD, 16, 16⟩
def LF_BUD_USEDA : Fld := ⟨LF_BUD, 0, 16⟩

/-- LF_FC (R132). -/
def LF_FC : Nat := 0x20000008
def LF_FC_FC : Fld := ⟨LF_FC, 0, 18⟩

/-- LF_WID (R132). -/
def LF_WID : Nat := 0x2000000C
def LF_WID_WID : Fld := ⟨LF_WID, 0, 24⟩

/-- LF_SKIP (R132). -/
def LF_SKIP : Nat := 0x20000010
def LF_SKIP_V : Fld := ⟨LF_SKIP, 0, 32⟩

/-- LF_DROP (R132). -/
def LF_DROP : Nat := 0x20000014
def LF_DROP_V : Fld := ⟨LF_DROP, 0, 32⟩

/-- LF_CLR (R132). -/
def LF_CLR : Nat := 0x20000018
def LF_CLR_CLRSKIP : Fld := ⟨LF_CLR, 1, 1⟩
def LF_CLR_CLRDROP : Fld := ⟨LF_CLR, 0, 1⟩

/-- LF_CH_CFG (R132). -/
def LF_CH_CFG (n : Nat) : Nat := 0x20001000 + n * 0x100
def LF_CH_CFG_FIT (n : Nat) : Fld := ⟨LF_CH_CFG n, 31, 1⟩
def LF_CH_CFG_EN (n : Nat) : Fld := ⟨LF_CH_CFG n, 30, 1⟩
def LF_CH_CFG_ROLE (n : Nat) : Fld := ⟨LF_CH_CFG n, 28, 2⟩
def LF_CH_CFG_ITGT (n : Nat) : Fld := ⟨LF_CH_CFG n, 18, 8⟩
def LF_CH_CFG_FDRV (n : Nat) : Fld := ⟨LF_CH_CFG n, 0, 18⟩

/-- LF_CH_STAT (R132). -/
def LF_CH_STAT (n : Nat) : Nat := 0x20001004 + n * 0x100
def LF_CH_STAT_LAST (n : Nat) : Fld := ⟨LF_CH_STAT n, 28, 4⟩
def LF_CH_STAT_SCALED (n : Nat) : Fld := ⟨LF_CH_STAT n, 27, 1⟩
def LF_CH_STAT_LOWI (n : Nat) : Fld := ⟨LF_CH_STAT n, 26, 1⟩
def LF_CH_STAT_DETUNE (n : Nat) : Fld := ⟨LF_CH_STAT n, 25, 1⟩
def LF_CH_STAT_DRV (n : Nat) : Fld := ⟨LF_CH_STAT n, 24, 1⟩
def LF_CH_STAT_OWNER (n : Nat) : Fld := ⟨LF_CH_STAT n, 18, 3⟩
def LF_CH_STAT_CLASS (n : Nat) : Fld := ⟨LF_CH_STAT n, 16, 2⟩
def LF_CH_STAT_NFLT (n : Nat) : Fld := ⟨LF_CH_STAT n, 8, 8⟩
def LF_CH_STAT_IPK (n : Nat) : Fld := ⟨LF_CH_STAT n, 0, 8⟩

/-- LF_CH_RES (R132). -/
def LF_CH_RES (n : Nat) : Nat := 0x20001008 + n * 0x100
def LF_CH_RES_QF (n : Nat) : Fld := ⟨LF_CH_RES n, 25, 7⟩
def LF_CH_RES_FRES (n : Nat) : Fld := ⟨LF_CH_RES n, 0, 18⟩

/-- LF_CT_STAT (R132). -/
def LF_CT_STAT : Nat := 0x20003000
def LF_CT_STAT_LAST : Fld := ⟨LF_CT_STAT, 28, 4⟩
def LF_CT_STAT_HOLD : Fld := ⟨LF_CT_STAT, 24, 4⟩
def LF_CT_STAT_EN : Fld := ⟨LF_CT_STAT, 23, 1⟩
def LF_CT_STAT_LEG : Fld := ⟨LF_CT_STAT, 22, 1⟩
def LF_CT_STAT_BUSY : Fld := ⟨LF_CT_STAT, 21, 1⟩
def LF_CT_STAT_COUNT : Fld := ⟨LF_CT_STAT, 0, 16⟩

/-- LF_CT_FOB (R132). -/
def LF_CT_FOB : Nat := 0x20003004
def LF_CT_FOB_V : Fld := ⟨LF_CT_FOB, 0, 32⟩

/-- AIR_LN_STAT (R158). -/
def AIR_LN_STAT (n : Nat) : Nat := 0x30000000 + n * 0x100000
def AIR_LN_STAT_ISO (n : Nat) : Fld := ⟨AIR_LN_STAT n, 31, 1⟩
def AIR_LN_STAT_RAMP (n : Nat) : Fld := ⟨AIR_LN_STAT n, 30, 1⟩
def AIR_LN_STAT_CALV (n : Nat) : Fld := ⟨AIR_LN_STAT n, 29, 1⟩
def AIR_LN_STAT_LOCK (n : Nat) : Fld := ⟨AIR_LN_STAT n, 28, 1⟩
def AIR_LN_STAT_LAST (n : Nat) : Fld := ⟨AIR_LN_STAT n, 24, 4⟩
def AIR_LN_STAT_AER (n : Nat) : Fld := ⟨AIR_LN_STAT n, 16, 1⟩
def AIR_LN_STAT_STATE (n : Nat) : Fld := ⟨AIR_LN_STAT n, 8, 3⟩
def AIR_LN_STAT_CHAN (n : Nat) : Fld := ⟨AIR_LN_STAT n, 0, 5⟩

/-- AIR_LN_CFG (R158). -/
def AIR_LN_CFG (n : Nat) : Nat := 0x30000004 + n * 0x100000
def AIR_LN_CFG_AMASK (n : Nat) : Fld := ⟨AIR_LN_CFG n, 24, 2⟩
def AIR_LN_CFG_PWR16 (n : Nat) : Fld := ⟨AIR_LN_CFG n, 16, 6⟩
def AIR_LN_CFG_PWR15 (n : Nat) : Fld := ⟨AIR_LN_CFG n, 8, 6⟩
def AIR_LN_CFG_PWR14 (n : Nat) : Fld := ⟨AIR_LN_CFG n, 0, 6⟩

/-- AIR_LN_PWR13 (R158). -/
def AIR_LN_PWR13 (n : Nat) : Nat := 0x30000008 + n * 0x100000
def AIR_LN_PWR13_V (n : Nat) : Fld := ⟨AIR_LN_PWR13 n, 0, 6⟩

/-- AIR_LN_CAL (R158). -/
def AIR_LN_CAL (n : Nat) : Nat := 0x3000000C + n * 0x100000
def AIR_LN_CAL_NCAL (n : Nat) : Fld := ⟨AIR_LN_CAL n, 24, 8⟩
def AIR_LN_CAL_AGE (n : Nat) : Fld := ⟨AIR_LN_CAL n, 16, 8⟩
def AIR_LN_CAL_TCAL (n : Nat) : Fld := ⟨AIR_LN_CAL n, 0, 16⟩

/-- AIR_LN_RXQ (R158). -/
def AIR_LN_RXQ (n : Nat) : Nat := 0x30000010 + n * 0x100000
def AIR_LN_RXQ_GAINA (n : Nat) : Fld := ⟨AIR_LN_RXQ n, 26, 6⟩
def AIR_LN_RXQ_GAINB (n : Nat) : Fld := ⟨AIR_LN_RXQ n, 20, 6⟩
def AIR_LN_RXQ_SETB (n : Nat) : Fld := ⟨AIR_LN_RXQ n, 19, 1⟩
def AIR_LN_RXQ_CHOSEN (n : Nat) : Fld := ⟨AIR_LN_RXQ n, 18, 1⟩
def AIR_LN_RXQ_QA (n : Nat) : Fld := ⟨AIR_LN_RXQ n, 8, 8⟩
def AIR_LN_RXQ_QB (n : Nat) : Fld := ⟨AIR_LN_RXQ n, 0, 8⟩

/-- AIR_LN_TXCNT (R158). -/
def AIR_LN_TXCNT (n : Nat) : Nat := 0x30000014 + n * 0x100000
def AIR_LN_TXCNT_LATE (n : Nat) : Fld := ⟨AIR_LN_TXCNT n, 16, 16⟩
def AIR_LN_TXCNT_BUSY (n : Nat) : Fld := ⟨AIR_LN_TXCNT n, 0, 16⟩

/-- AIR_LN_DROP (R158). -/
def AIR_LN_DROP (n : Nat) : Nat := 0x30000018 + n * 0x100000
def AIR_LN_DROP_V (n : Nat) : Fld := ⟨AIR_LN_DROP n, 0, 32⟩

/-- AIR_LN_CLR (R158). -/
def AIR_LN_CLR (n : Nat) : Nat := 0x3000001C + n * 0x100000
def AIR_LN_CLR_CLRTX (n : Nat) : Fld := ⟨AIR_LN_CLR n, 1, 1⟩
def AIR_LN_CLR_CLRDROP (n : Nat) : Fld := ⟨AIR_LN_CLR n, 0, 1⟩

/-- AIR_LN_RXERR0 (R190). -/
def AIR_LN_RXERR0 (n : Nat) : Nat := 0x30000020 + n * 0x100000
def AIR_LN_RXERR0_HCRC (n : Nat) : Fld := ⟨AIR_LN_RXERR0 n, 16, 16⟩
def AIR_LN_RXERR0_PCRC (n : Nat) : Fld := ⟨AIR_LN_RXERR0 n, 0, 16⟩

/-- AIR_LN_RXERR1 (R190). -/
def AIR_LN_RXERR1 (n : Nat) : Nat := 0x30000024 + n * 0x100000
def AIR_LN_RXERR1_MIC (n : Nat) : Fld := ⟨AIR_LN_RXERR1 n, 16, 16⟩
def AIR_LN_RXERR1_REPLAY (n : Nat) : Fld := ⟨AIR_LN_RXERR1 n, 0, 16⟩

/-- AIR_LN_RXERR2 (R190). -/
def AIR_LN_RXERR2 (n : Nat) : Nat := 0x30000028 + n * 0x100000
def AIR_LN_RXERR2_LOST (n : Nat) : Fld := ⟨AIR_LN_RXERR2 n, 16, 16⟩
def AIR_LN_RXERR2_FORM (n : Nat) : Fld := ⟨AIR_LN_RXERR2 n, 0, 16⟩

/-- AIR_LN_RXLAST (R190). -/
def AIR_LN_RXLAST (n : Nat) : Nat := 0x3000002C + n * 0x100000
def AIR_LN_RXLAST_STATUS (n : Nat) : Fld := ⟨AIR_LN_RXLAST n, 28, 4⟩
def AIR_LN_RXLAST_CLASS (n : Nat) : Fld := ⟨AIR_LN_RXLAST n, 24, 3⟩
def AIR_LN_RXLAST_TYPE (n : Nat) : Fld := ⟨AIR_LN_RXLAST n, 16, 5⟩
def AIR_LN_RXLAST_CFO (n : Nat) : Fld := ⟨AIR_LN_RXLAST n, 0, 16⟩

/-- AIR_LN_RXINFO (R190). -/
def AIR_LN_RXINFO (n : Nat) : Nat := 0x30000030 + n * 0x100000
def AIR_LN_RXINFO_CLIP (n : Nat) : Fld := ⟨AIR_LN_RXINFO n, 24, 8⟩
def AIR_LN_RXINFO_SRC (n : Nat) : Fld := ⟨AIR_LN_RXINFO n, 16, 8⟩
def AIR_LN_RXINFO_LEN (n : Nat) : Fld := ⟨AIR_LN_RXINFO n, 0, 11⟩

/-- AIR_LN_RXCLR (R190). -/
def AIR_LN_RXCLR (n : Nat) : Nat := 0x30000034 + n * 0x100000
def AIR_LN_RXCLR_CLRERR (n : Nat) : Fld := ⟨AIR_LN_RXCLR n, 0, 1⟩

/-- FOX_STAT (R222). -/
def FOX_STAT : Nat := 0x30200000
def FOX_STAT_ISO : Fld := ⟨FOX_STAT, 31, 1⟩
def FOX_STAT_RUN : Fld := ⟨FOX_STAT, 0, 2⟩

/-- FOX_CNT (R222). -/
def FOX_CNT : Nat := 0x30200004
def FOX_CNT_REJ : Fld := ⟨FOX_CNT, 16, 16⟩
def FOX_CNT_OK : Fld := ⟨FOX_CNT, 0, 16⟩

/-- FOX_REJ0 (R222). -/
def FOX_REJ0 : Nat := 0x30200008
def FOX_REJ0_SPRD : Fld := ⟨FOX_REJ0, 24, 8⟩
def FOX_REJ0_PASS : Fld := ⟨FOX_REJ0, 16, 8⟩
def FOX_REJ0_STCH : Fld := ⟨FOX_REJ0, 8, 8⟩
def FOX_REJ0_CLK : Fld := ⟨FOX_REJ0, 0, 8⟩

/-- FOX_REJ1 (R222). -/
def FOX_REJ1 : Nat := 0x3020000C
def FOX_REJ1_TURN : Fld := ⟨FOX_REJ1, 24, 8⟩
def FOX_REJ1_LOWQ : Fld := ⟨FOX_REJ1, 16, 8⟩
def FOX_REJ1_OOR : Fld := ⟨FOX_REJ1, 8, 8⟩
def FOX_REJ1_ANG : Fld := ⟨FOX_REJ1, 0, 8⟩

/-- FOX_CLR (R222). -/
def FOX_CLR : Nat := 0x30200010
def FOX_CLR_CLRCNT : Fld := ⟨FOX_CLR, 0, 1⟩

/-- FOX_RES (R222). -/
def FOX_RES (n : Nat) : Nat := 0x30200020 + n * 0x10
def FOX_RES_RES (n : Nat) : Fld := ⟨FOX_RES n, 24, 4⟩
def FOX_RES_GRADE (n : Nat) : Fld := ⟨FOX_RES n, 22, 2⟩
def FOX_RES_CLASS (n : Nat) : Fld := ⟨FOX_RES n, 19, 3⟩
def FOX_RES_EXCH (n : Nat) : Fld := ⟨FOX_RES n, 0, 16⟩

/-- FOX_DIST (R222). -/
def FOX_DIST (n : Nat) : Nat := 0x30200024 + n * 0x10
def FOX_DIST_V (n : Nat) : Fld := ⟨FOX_DIST n, 0, 32⟩

/-- FOX_AOA (R222). -/
def FOX_AOA (n : Nat) : Nat := 0x30200028 + n * 0x10
def FOX_AOA_VALID (n : Nat) : Fld := ⟨FOX_AOA n, 31, 1⟩
def FOX_AOA_OOV (n : Nat) : Fld := ⟨FOX_AOA n, 30, 1⟩
def FOX_AOA_ANGLE (n : Nat) : Fld := ⟨FOX_AOA n, 0, 16⟩

/-- FOX_QUAL (R222). -/
def FOX_QUAL (n : Nat) : Nat := 0x3020002C + n * 0x10
def FOX_QUAL_QU (n : Nat) : Fld := ⟨FOX_QUAL n, 24, 8⟩
def FOX_QUAL_QF (n : Nat) : Fld := ⟨FOX_QUAL n, 16, 8⟩
def FOX_QUAL_SPREAD (n : Nat) : Fld := ⟨FOX_QUAL n, 8, 8⟩
def FOX_QUAL_NOVH (n : Nat) : Fld := ⟨FOX_QUAL n, 0, 4⟩

/-- VLT_LC (R343). -/
def VLT_LC : Nat := 0x40000000
def VLT_LC_SVC : Fld := ⟨VLT_LC, 24, 8⟩
def VLT_LC_FRET : Fld := ⟨VLT_LC, 7, 1⟩
def VLT_LC_FFLD : Fld := ⟨VLT_LC, 6, 1⟩
def VLT_LC_FPRV : Fld := ⟨VLT_LC, 5, 1⟩
def VLT_LC_STATE : Fld := ⟨VLT_LC, 0, 3⟩

/-- VLT_CMD (R343). -/
def VLT_CMD : Nat := 0x40000004
def VLT_CMD_GO : Fld := ⟨VLT_CMD, 31, 1⟩
def VLT_CMD_OP : Fld := ⟨VLT_CMD, 8, 4⟩
def VLT_CMD_SLOT : Fld := ⟨VLT_CMD, 0, 8⟩

/-- VLT_STAT (R343). -/
def VLT_STAT : Nat := 0x40000008
def VLT_STAT_DONE : Fld := ⟨VLT_STAT, 31, 1⟩
def VLT_STAT_BUSY : Fld := ⟨VLT_STAT, 30, 1⟩
def VLT_STAT_OWN : Fld := ⟨VLT_STAT, 27, 3⟩
def VLT_STAT_RESULT : Fld := ⟨VLT_STAT, 20, 4⟩
def VLT_STAT_OUTLEN : Fld := ⟨VLT_STAT, 0, 9⟩

/-- VLT_ATTR (R343). -/
def VLT_ATTR : Nat := 0x4000000C
def VLT_ATTR_V : Fld := ⟨VLT_ATTR, 0, 32⟩

/-- VLT_INFO (R343). -/
def VLT_INFO : Nat := 0x40000010
def VLT_INFO_MODE : Fld := ⟨VLT_INFO, 24, 8⟩
def VLT_INFO_ENGINE : Fld := ⟨VLT_INFO, 16, 8⟩
def VLT_INFO_LEN : Fld := ⟨VLT_INFO, 8, 8⟩
def VLT_INFO_FLAGS : Fld := ⟨VLT_INFO, 0, 8⟩

/-- VLT_OCC (R343). -/
def VLT_OCC (n : Nat) : Nat := 0x40000020 + n * 0x4
def VLT_OCC_V (n : Nat) : Fld := ⟨VLT_OCC n, 0, 32⟩

/-- VLT_UNU (R343). -/
def VLT_UNU (n : Nat) : Nat := 0x40000040 + n * 0x4
def VLT_UNU_V (n : Nat) : Fld := ⟨VLT_UNU n, 0, 32⟩

/-- VLT_DENY (R343). -/
def VLT_DENY : Nat := 0x40000060
def VLT_DENY_V : Fld := ⟨VLT_DENY, 0, 32⟩

/-- VLT_DROP (R343). -/
def VLT_DROP : Nat := 0x40000064
def VLT_DROP_V : Fld := ⟨VLT_DROP, 0, 32⟩

/-- VLT_CLR (R343). -/
def VLT_CLR : Nat := 0x40000068
def VLT_CLR_CLRDENY : Fld := ⟨VLT_CLR, 1, 1⟩
def VLT_CLR_CLRDROP : Fld := ⟨VLT_CLR, 0, 1⟩

/-- VLT_LEGACY_KEY (R343). -/
def VLT_LEGACY_KEY (n : Nat) : Nat := 0x40000070 + n * 0x4
def VLT_LEGACY_KEY_V (n : Nat) : Fld := ⟨VLT_LEGACY_KEY n, 0, 32⟩

/-- CRY_CMD (R361). -/
def CRY_CMD : Nat := 0x40010000
def CRY_CMD_GO : Fld := ⟨CRY_CMD, 31, 1⟩
def CRY_CMD_SLOT : Fld := ⟨CRY_CMD, 16, 8⟩
def CRY_CMD_DST : Fld := ⟨CRY_CMD, 8, 8⟩
def CRY_CMD_OP : Fld := ⟨CRY_CMD, 4, 4⟩
def CRY_CMD_MODE : Fld := ⟨CRY_CMD, 0, 4⟩

/-- CRY_LEN (R361). -/
def CRY_LEN : Nat := 0x40010004
def CRY_LEN_TAG : Fld := ⟨CRY_LEN, 24, 5⟩
def CRY_LEN_ALEN : Fld := ⟨CRY_LEN, 12, 12⟩
def CRY_LEN_DLEN : Fld := ⟨CRY_LEN, 0, 12⟩

/-- CRY_STAT (R361). -/
def CRY_STAT : Nat := 0x40010008
def CRY_STAT_DONE : Fld := ⟨CRY_STAT, 31, 1⟩
def CRY_STAT_BUSY : Fld := ⟨CRY_STAT, 30, 1⟩
def CRY_STAT_OWN : Fld := ⟨CRY_STAT, 27, 3⟩
def CRY_STAT_RESULT : Fld := ⟨CRY_STAT, 20, 4⟩
def CRY_STAT_OUTLEN : Fld := ⟨CRY_STAT, 0, 12⟩

/-- CRY_DROP (R361). -/
def CRY_DROP : Nat := 0x4001000C
def CRY_DROP_V : Fld := ⟨CRY_DROP, 0, 32⟩

/-- CRY_CLR (R361). -/
def CRY_CLR : Nat := 0x40010010
def CRY_CLR_CLRDROP : Fld := ⟨CRY_CLR, 0, 1⟩

/-- ENT_STAT (R361). -/
def ENT_STAT : Nat := 0x40020000
def ENT_STAT_READY : Fld := ⟨ENT_STAT, 31, 1⟩
def ENT_STAT_RAW : Fld := ⟨ENT_STAT, 30, 1⟩
def ENT_STAT_FAIL : Fld := ⟨ENT_STAT, 29, 1⟩
def ENT_STAT_LATCH : Fld := ⟨ENT_STAT, 28, 1⟩
def ENT_STAT_RESEED : Fld := ⟨ENT_STAT, 27, 1⟩
def ENT_STAT_FTEST : Fld := ⟨ENT_STAT, 20, 4⟩
def ENT_STAT_FLATCH : Fld := ⟨ENT_STAT, 18, 2⟩
def ENT_STAT_NFAIL : Fld := ⟨ENT_STAT, 16, 2⟩
def ENT_STAT_POOL : Fld := ⟨ENT_STAT, 0, 11⟩

/-- ENT_CTL (R361). -/
def ENT_CTL : Nat := 0x40020004
def ENT_CTL_RESEED : Fld := ⟨ENT_CTL, 31, 1⟩
def ENT_CTL_RAW : Fld := ⟨ENT_CTL, 30, 1⟩
def ENT_CTL_RAWSEL : Fld := ⟨ENT_CTL, 0, 3⟩

/-- ENT_RAND (R361). -/
def ENT_RAND : Nat := 0x40020008
def ENT_RAND_V : Fld := ⟨ENT_RAND, 0, 32⟩

/-- ENT_RAW (R361). -/
def ENT_RAW : Nat := 0x4002000C
def ENT_RAW_V : Fld := ⟨ENT_RAW, 0, 32⟩

/-- ENT_CNT (R361). -/
def ENT_CNT : Nat := 0x40020010
def ENT_CNT_RESEEDS : Fld := ⟨ENT_CNT, 16, 16⟩
def ENT_CNT_WAITS : Fld := ⟨ENT_CNT, 0, 16⟩

/-- ENT_REQ (R361). -/
def ENT_REQ : Nat := 0x40020014
def ENT_REQ_V : Fld := ⟨ENT_REQ, 0, 21⟩

/-- ENT_CLR (R361). -/
def ENT_CLR : Nat := 0x40020018
def ENT_CLR_CLRCNT : Fld := ⟨ENT_CLR, 0, 1⟩

/-- LDG_STAT (R303). -/
def LDG_STAT : Nat := 0x50000000
def LDG_STAT_HALT : Fld := ⟨LDG_STAT, 31, 1⟩
def LDG_STAT_MIR1 : Fld := ⟨LDG_STAT, 30, 1⟩
def LDG_STAT_MIR2 : Fld := ⟨LDG_STAT, 29, 1⟩
def LDG_STAT_EXPORT : Fld := ⟨LDG_STAT, 28, 1⟩
def LDG_STAT_TRUNC : Fld := ⟨LDG_STAT, 27, 1⟩
def LDG_STAT_READY : Fld := ⟨LDG_STAT, 26, 1⟩
def LDG_STAT_RONLY : Fld := ⟨LDG_STAT, 25, 1⟩
def LDG_STAT_QUEUE : Fld := ⟨LDG_STAT, 0, 9⟩

/-- LDG_NEXT (R303). -/
def LDG_NEXT : Nat := 0x50000004
def LDG_NEXT_V : Fld := ⟨LDG_NEXT, 0, 32⟩

/-- LDG_FIRST (R303). -/
def LDG_FIRST : Nat := 0x50000008
def LDG_FIRST_V : Fld := ⟨LDG_FIRST, 0, 32⟩

/-- LDG_FILL (R303). -/
def LDG_FILL : Nat := 0x5000000C
def LDG_FILL_BAD1 : Fld := ⟨LDG_FILL, 24, 8⟩
def LDG_FILL_BAD2 : Fld := ⟨LDG_FILL, 16, 8⟩
def LDG_FILL_USED : Fld := ⟨LDG_FILL, 0, 10⟩

/-- LDG_DROP (R303). -/
def LDG_DROP : Nat := 0x50000010
def LDG_DROP_V : Fld := ⟨LDG_DROP, 0, 32⟩

/-- LDG_ERR (R303). -/
def LDG_ERR : Nat := 0x50000014
def LDG_ERR_MIRROR : Fld := ⟨LDG_ERR, 16, 16⟩
def LDG_ERR_PFAIL : Fld := ⟨LDG_ERR, 0, 16⟩

/-- LDG_CLR (R303). -/
def LDG_CLR : Nat := 0x50000018
def LDG_CLR_CLRERR : Fld := ⟨LDG_CLR, 1, 1⟩
def LDG_CLR_CLRDROP : Fld := ⟨LDG_CLR, 0, 1⟩

/-- LDG_CKPT (R303). -/
def LDG_CKPT : Nat := 0x5000001C
def LDG_CKPT_V : Fld := ⟨LDG_CKPT, 0, 32⟩

/-- MEM_IMG_STAT (R57). -/
def MEM_IMG_STAT : Nat := 0x50010100
def MEM_IMG_STAT_FALLBACK : Fld := ⟨MEM_IMG_STAT, 31, 1⟩
def MEM_IMG_STAT_TRIAL : Fld := ⟨MEM_IMG_STAT, 30, 1⟩
def MEM_IMG_STAT_PENDING : Fld := ⟨MEM_IMG_STAT, 28, 2⟩
def MEM_IMG_STAT_ACTIVE : Fld := ⟨MEM_IMG_STAT, 27, 1⟩
def MEM_IMG_STAT_VALID : Fld := ⟨MEM_IMG_STAT, 26, 1⟩
def MEM_IMG_STAT_REJB : Fld := ⟨MEM_IMG_STAT, 8, 8⟩
def MEM_IMG_STAT_REJA : Fld := ⟨MEM_IMG_STAT, 0, 8⟩

/-- MEM_IMG_VER (R57). -/
def MEM_IMG_VER : Nat := 0x50010104
def MEM_IMG_VER_V : Fld := ⟨MEM_IMG_VER, 0, 32⟩

/-- MEM_IMG_ARB (R57). -/
def MEM_IMG_ARB : Nat := 0x50010108
def MEM_IMG_ARB_V : Fld := ⟨MEM_IMG_ARB, 0, 32⟩

/-- RMC_STAT (R321). -/
def RMC_STAT : Nat := 0x50020000
def RMC_STAT_DONE : Fld := ⟨RMC_STAT, 31, 1⟩
def RMC_STAT_BUSY : Fld := ⟨RMC_STAT, 30, 1⟩
def RMC_STAT_OWN : Fld := ⟨RMC_STAT, 27, 3⟩
def RMC_STAT_RESULT : Fld := ⟨RMC_STAT, 20, 4⟩
def RMC_STAT_FILL : Fld := ⟨RMC_STAT, 0, 9⟩

/-- RMC_RUN (R321). -/
def RMC_RUN : Nat := 0x50020004
def RMC_RUN_V : Fld := ⟨RMC_RUN, 0, 16⟩

/-- RMC_CMD (R321). -/
def RMC_CMD : Nat := 0x50020008
def RMC_CMD_CMD : Fld := ⟨RMC_CMD, 0, 2⟩

/-- RMC_TARG (R321). -/
def RMC_TARG : Nat := 0x5002000C
def RMC_TARG_V : Fld := ⟨RMC_TARG, 0, 32⟩

/-- RMC_TCMD (R321). -/
def RMC_TCMD : Nat := 0x50020010
def RMC_TCMD_GO : Fld := ⟨RMC_TCMD, 31, 1⟩
def RMC_TCMD_OP : Fld := ⟨RMC_TCMD, 8, 2⟩
def RMC_TCMD_CNT : Fld := ⟨RMC_TCMD, 0, 5⟩

/-- RMC_TSTAT (R321). -/
def RMC_TSTAT : Nat := 0x50020014
def RMC_TSTAT_DONE : Fld := ⟨RMC_TSTAT, 31, 1⟩
def RMC_TSTAT_BUSY : Fld := ⟨RMC_TSTAT, 30, 1⟩
def RMC_TSTAT_RESULT : Fld := ⟨RMC_TSTAT, 20, 4⟩
def RMC_TSTAT_CNT : Fld := ⟨RMC_TSTAT, 0, 5⟩

/-- RMC_DROP (R321). -/
def RMC_DROP : Nat := 0x50020018
def RMC_DROP_V : Fld := ⟨RMC_DROP, 0, 32⟩

/-- RMC_ERR (R321). -/
def RMC_ERR : Nat := 0x5002001C
def RMC_ERR_REREAD : Fld := ⟨RMC_ERR, 16, 16⟩
def RMC_ERR_REPROG : Fld := ⟨RMC_ERR, 0, 16⟩

/-- RMC_CLR (R321). -/
def RMC_CLR : Nat := 0x50020020
def RMC_CLR_CLRERR : Fld := ⟨RMC_CLR, 1, 1⟩
def RMC_CLR_CLRDROP : Fld := ⟨RMC_CLR, 0, 1⟩

/-- RMC_TALLY (R321). -/
def RMC_TALLY (n : Nat) : Nat := 0x50020100 + n * 0x4
def RMC_TALLY_V (n : Nat) : Fld := ⟨RMC_TALLY n, 0, 32⟩

/-- CAN_STAT (R407). -/
def CAN_STAT : Nat := 0x60000000
def CAN_STAT_IGN : Fld := ⟨CAN_STAT, 31, 1⟩
def CAN_STAT_BOFF : Fld := ⟨CAN_STAT, 30, 1⟩
def CAN_STAT_EPASS : Fld := ⟨CAN_STAT, 29, 1⟩
def CAN_STAT_CLAIM : Fld := ⟨CAN_STAT, 28, 1⟩
def CAN_STAT_LOST : Fld := ⟨CAN_STAT, 27, 1⟩
def CAN_STAT_TEC : Fld := ⟨CAN_STAT, 16, 8⟩
def CAN_STAT_REC : Fld := ⟨CAN_STAT, 8, 8⟩
def CAN_STAT_XCVR : Fld := ⟨CAN_STAT, 0, 2⟩

/-- CAN_WAKE (R407). -/
def CAN_WAKE : Nat := 0x60000004
def CAN_WAKE_SWKEN : Fld := ⟨CAN_WAKE, 31, 1⟩
def CAN_WAKE_WAKEP : Fld := ⟨CAN_WAKE, 30, 1⟩
def CAN_WAKE_WAKEF : Fld := ⟨CAN_WAKE, 29, 1⟩
def CAN_WAKE_FILT : Fld := ⟨CAN_WAKE, 0, 6⟩

/-- CAN_SWKM0 (R407). -/
def CAN_SWKM0 : Nat := 0x60000008
def CAN_SWKM0_V : Fld := ⟨CAN_SWKM0, 0, 32⟩

/-- CAN_SWKM1 (R407). -/
def CAN_SWKM1 : Nat := 0x6000000C
def CAN_SWKM1_V : Fld := ⟨CAN_SWKM1, 0, 32⟩

/-- CAN_DROP (R407). -/
def CAN_DROP : Nat := 0x60000010
def CAN_DROP_V : Fld := ⟨CAN_DROP, 0, 32⟩

/-- CAN_CNT (R407). -/
def CAN_CNT : Nat := 0x60000014
def CAN_CNT_BUSY : Fld := ⟨CAN_CNT, 16, 16⟩
def CAN_CNT_BOFF : Fld := ⟨CAN_CNT, 8, 8⟩
def CAN_CNT_AUTHF : Fld := ⟨CAN_CNT, 0, 8⟩

/-- CAN_CLR (R407). -/
def CAN_CLR : Nat := 0x60000018
def CAN_CLR_CLRCNT : Fld := ⟨CAN_CLR, 1, 1⟩
def CAN_CLR_CLRDROP : Fld := ⟨CAN_CLR, 0, 1⟩

/-- RING_STAT (R407). -/
def RING_STAT : Nat := 0x60000020
def RING_STAT_ROUND : Fld := ⟨RING_STAT, 31, 1⟩
def RING_STAT_OWNRDY : Fld := ⟨RING_STAT, 30, 1⟩
def RING_STAT_OVR : Fld := ⟨RING_STAT, 16, 8⟩
def RING_STAT_SOLE : Fld := ⟨RING_STAT, 8, 8⟩

/-- RING_MASK (R407). -/
def RING_MASK : Nat := 0x60000024
def RING_MASK_V : Fld := ⟨RING_MASK, 0, 32⟩

/-- RING_ABS (R407). -/
def RING_ABS : Nat := 0x60000028
def RING_ABS_V : Fld := ⟨RING_ABS, 0, 32⟩

/-- RING_CNT (R407). -/
def RING_CNT : Nat := 0x6000002C
def RING_CNT_OVERRULES : Fld := ⟨RING_CNT, 16, 16⟩
def RING_CNT_INSOMNIAC : Fld := ⟨RING_CNT, 0, 16⟩

/-- SETT_STAT (R94). -/
def SETT_STAT : Nat := 0x60010000
def SETT_STAT_MAPCHG : Fld := ⟨SETT_STAT, 31, 1⟩
def SETT_STAT_SPLICE : Fld := ⟨SETT_STAT, 30, 1⟩
def SETT_STAT_CONV : Fld := ⟨SETT_STAT, 12, 1⟩
def SETT_STAT_QUAR : Fld := ⟨SETT_STAT, 11, 1⟩
def SETT_STAT_ACTING : Fld := ⟨SETT_STAT, 10, 1⟩
def SETT_STAT_HEAD : Fld := ⟨SETT_STAT, 9, 1⟩
def SETT_STAT_LAST : Fld := ⟨SETT_STAT, 8, 1⟩
def SETT_STAT_DNUP : Fld := ⟨SETT_STAT, 7, 1⟩
def SETT_STAT_UPUP : Fld := ⟨SETT_STAT, 6, 1⟩
def SETT_STAT_NUM : Fld := ⟨SETT_STAT, 0, 5⟩

/-- SETT_MAP (R94). -/
def SETT_MAP : Nat := 0x60010004
def SETT_MAP_V : Fld := ⟨SETT_MAP, 0, 32⟩

/-- SETT_DROP (R94). -/
def SETT_DROP : Nat := 0x60010008
def SETT_DROP_V : Fld := ⟨SETT_DROP, 0, 32⟩

/-- SETT_ERR (R94). -/
def SETT_ERR : Nat := 0x6001000C
def SETT_ERR_MAC : Fld := ⟨SETT_ERR, 16, 8⟩
def SETT_ERR_PCRC : Fld := ⟨SETT_ERR, 8, 8⟩
def SETT_ERR_HCRC : Fld := ⟨SETT_ERR, 0, 8⟩

/-- SETT_CLR (R94). -/
def SETT_CLR : Nat := 0x60010010
def SETT_CLR_CLRERR : Fld := ⟨SETT_CLR, 1, 1⟩
def SETT_CLR_CLRDROP : Fld := ⟨SETT_CLR, 0, 1⟩

/-- SETT_DELAY (R94). -/
def SETT_DELAY : Nat := 0x60010014
def SETT_DELAY_PATH : Fld := ⟨SETT_DELAY, 16, 16⟩
def SETT_DELAY_SEG : Fld := ⟨SETT_DELAY, 0, 16⟩

/-- SETT_TOFF (R94). -/
def SETT_TOFF : Nat := 0x60010018
def SETT_TOFF_V : Fld := ⟨SETT_TOFF, 0, 32⟩

/-- HPT_IEN (R407). -/
def HPT_IEN : Nat := 0x60020004
def HPT_IEN_SES : Fld := ⟨HPT_IEN, 4, 1⟩
def HPT_IEN_RMC : Fld := ⟨HPT_IEN, 3, 1⟩
def HPT_IEN_VLT : Fld := ⟨HPT_IEN, 2, 1⟩
def HPT_IEN_CRY : Fld := ⟨HPT_IEN, 1, 1⟩
def HPT_IEN_LDG : Fld := ⟨HPT_IEN, 0, 1⟩

/-- HPT_IRQ (R407). -/
def HPT_IRQ : Nat := 0x60020008
def HPT_IRQ_LOW : Fld := ⟨HPT_IRQ, 31, 1⟩
def HPT_IRQ_SES : Fld := ⟨HPT_IRQ, 4, 1⟩
def HPT_IRQ_RMC : Fld := ⟨HPT_IRQ, 3, 1⟩
def HPT_IRQ_VLT : Fld := ⟨HPT_IRQ, 2, 1⟩
def HPT_IRQ_CRY : Fld := ⟨HPT_IRQ, 1, 1⟩
def HPT_IRQ_LDG : Fld := ⟨HPT_IRQ, 0, 1⟩

/-- HPT_CNT (R407). -/
def HPT_CNT : Nat := 0x6002000C
def HPT_CNT_FRAME : Fld := ⟨HPT_CNT, 16, 16⟩
def HPT_CNT_ABORT : Fld := ⟨HPT_CNT, 0, 16⟩

/-- HPT_CLR (R407). -/
def HPT_CLR : Nat := 0x60020010
def HPT_CLR_CLRCNT : Fld := ⟨HPT_CLR, 0, 1⟩

/-- TAG_STAT (R380). -/
def TAG_STAT : Nat := 0x60030000
def TAG_STAT_FLD : Fld := ⟨TAG_STAT, 31, 1⟩
def TAG_STAT_SEL : Fld := ⟨TAG_STAT, 30, 1⟩
def TAG_STAT_AUTH : Fld := ⟨TAG_STAT, 29, 1⟩
def TAG_STAT_KEY : Fld := ⟨TAG_STAT, 28, 1⟩
def TAG_STAT_SNAP : Fld := ⟨TAG_STAT, 27, 1⟩
def TAG_STAT_STATE : Fld := ⟨TAG_STAT, 24, 2⟩

/-- TAG_EVT (R380). -/
def TAG_EVT : Nat := 0x60030004
def TAG_EVT_FCMT : Fld := ⟨TAG_EVT, 31, 1⟩
def TAG_EVT_FSEL : Fld := ⟨TAG_EVT, 30, 1⟩
def TAG_EVT_AFAIL : Fld := ⟨TAG_EVT, 29, 1⟩
def TAG_EVT_NOTNOW : Fld := ⟨TAG_EVT, 28, 1⟩

/-- TAG_IEN (R380). -/
def TAG_IEN : Nat := 0x60030008
def TAG_IEN_EN : Fld := ⟨TAG_IEN, 28, 4⟩

/-- TAG_FHLD (R380). -/
def TAG_FHLD (n : Nat) : Nat := 0x60030010 + n * 0x4
def TAG_FHLD_V (n : Nat) : Fld := ⟨TAG_FHLD n, 0, 32⟩

/-- TAG_FHLDP (R380). -/
def TAG_FHLDP : Nat := 0x60030020
def TAG_FHLDP_V : Fld := ⟨TAG_FHLDP, 0, 16⟩

/-- TAG_WHLD (R380). -/
def TAG_WHLD (n : Nat) : Nat := 0x60030030 + n * 0x4
def TAG_WHLD_V (n : Nat) : Fld := ⟨TAG_WHLD n, 0, 32⟩

/-- TAG_WCMT (R380). -/
def TAG_WCMT : Nat := 0x60030040
def TAG_WCMT_GO : Fld := ⟨TAG_WCMT, 31, 1⟩
def TAG_WCMT_RESULT : Fld := ⟨TAG_WCMT, 24, 4⟩
def TAG_WCMT_OP : Fld := ⟨TAG_WCMT, 7, 2⟩
def TAG_WCMT_LEAF : Fld := ⟨TAG_WCMT, 0, 7⟩

/-- TAG_CNT (R380). -/
def TAG_CNT : Nat := 0x60030044
def TAG_CNT_AFAIL : Fld := ⟨TAG_CNT, 16, 16⟩
def TAG_CNT_BUSY : Fld := ⟨TAG_CNT, 8, 8⟩
def TAG_CNT_NOTNOW : Fld := ⟨TAG_CNT, 0, 8⟩

/-- TAG_CLR (R380). -/
def TAG_CLR : Nat := 0x60030048
def TAG_CLR_CLRCNT : Fld := ⟨TAG_CLR, 0, 1⟩

/-- TAG_UIDH (R380). -/
def TAG_UIDH : Nat := 0x60030050
def TAG_UIDH_V : Fld := ⟨TAG_UIDH, 0, 32⟩

/-- TAG_UIDL (R380). -/
def TAG_UIDL : Nat := 0x60030054
def TAG_UIDL_V : Fld := ⟨TAG_UIDL, 0, 24⟩

/-- SES_STAT (R248). -/
def SES_STAT : Nat := 0x70000000
def SES_STAT_LATCH : Fld := ⟨SES_STAT, 31, 1⟩
def SES_STAT_ACTING : Fld := ⟨SES_STAT, 30, 1⟩
def SES_STAT_LISTEN : Fld := ⟨SES_STAT, 29, 1⟩
def SES_STAT_NSES : Fld := ⟨SES_STAT, 0, 3⟩

/-- SES_PROF (R36-R38). -/
def SES_PROF : Nat := 0x70000010
def SES_PROF_CHG : Fld := ⟨SES_PROF, 31, 1⟩
def SES_PROF_LFBUD : Fld := ⟨SES_PROF, 16, 8⟩
def SES_PROF_GRADE : Fld := ⟨SES_PROF, 8, 2⟩
def SES_PROF_PL : Fld := ⟨SES_PROF, 4, 2⟩
def SES_PROF_CUR : Fld := ⟨SES_PROF, 0, 3⟩

/-- SES_DEC (R248). -/
def SES_DEC : Nat := 0x70000020
def SES_DEC_NEW : Fld := ⟨SES_DEC, 31, 1⟩
def SES_DEC_KIND : Fld := ⟨SES_DEC, 24, 3⟩
def SES_DEC_REASON : Fld := ⟨SES_DEC, 20, 4⟩
def SES_DEC_FOB : Fld := ⟨SES_DEC, 14, 6⟩
def SES_DEC_ZONE : Fld := ⟨SES_DEC, 0, 8⟩

/-- SES_CNT (R248). -/
def SES_CNT : Nat := 0x70000024
def SES_CNT_REFUSED : Fld := ⟨SES_CNT, 16, 16⟩
def SES_CNT_GRANTED : Fld := ⟨SES_CNT, 0, 16⟩

/-- SES_STRK (R248). -/
def SES_STRK : Nat := 0x70000028
def SES_STRK_BARS : Fld := ⟨SES_STRK, 16, 16⟩
def SES_STRK_STRIKES : Fld := ⟨SES_STRK, 0, 16⟩

/-- SES_CLR (R248). -/
def SES_CLR : Nat := 0x7000002C
def SES_CLR_CLRCNT : Fld := ⟨SES_CLR, 0, 1⟩

/-- SES_LFRUN (R248). -/
def SES_LFRUN : Nat := 0x70000030
def SES_LFRUN_GO : Fld := ⟨SES_LFRUN, 31, 1⟩
def SES_LFRUN_LAST : Fld := ⟨SES_LFRUN, 24, 4⟩
def SES_LFRUN_ENTRY : Fld := ⟨SES_LFRUN, 0, 6⟩

/-- SES_LFAT (R248). -/
def SES_LFAT : Nat := 0x70000034
def SES_LFAT_V : Fld := ⟨SES_LFAT, 0, 32⟩

/-- SES_RELAYV (R248). -/
def SES_RELAYV : Nat := 0x70000038
def SES_RELAYV_VALID : Fld := ⟨SES_RELAYV, 0, 8⟩

/-- SES_TRK (R248). -/
def SES_TRK (n : Nat) : Nat := 0x70000100 + n * 0x10
def SES_TRK_STATE (n : Nat) : Fld := ⟨SES_TRK n, 30, 2⟩
def SES_TRK_BAR (n : Nat) : Fld := ⟨SES_TRK n, 29, 1⟩
def SES_TRK_LFIN (n : Nat) : Fld := ⟨SES_TRK n, 28, 1⟩
def SES_TRK_GRADE (n : Nat) : Fld := ⟨SES_TRK n, 26, 2⟩
def SES_TRK_ZONE (n : Nat) : Fld := ⟨SES_TRK n, 16, 8⟩
def SES_TRK_AGE (n : Nat) : Fld := ⟨SES_TRK n, 0, 16⟩

/-- SES_TRK_X (R248). -/
def SES_TRK_X (n : Nat) : Nat := 0x70000104 + n * 0x10
def SES_TRK_X_V (n : Nat) : Fld := ⟨SES_TRK_X n, 0, 32⟩

/-- SES_TRK_Y (R248). -/
def SES_TRK_Y (n : Nat) : Nat := 0x70000108 + n * 0x10
def SES_TRK_Y_V (n : Nat) : Fld := ⟨SES_TRK_Y n, 0, 32⟩

/-- SES_TRK_Z (R248). -/
def SES_TRK_Z (n : Nat) : Nat := 0x7000010C + n * 0x10
def SES_TRK_Z_V (n : Nat) : Fld := ⟨SES_TRK_Z n, 0, 32⟩

/-- WM_MSTAT (R285). -/
def WM_MSTAT : Nat := 0x70020000
def WM_MSTAT_KNOWN : Fld := ⟨WM_MSTAT, 31, 1⟩
def WM_MSTAT_MOVING : Fld := ⟨WM_MSTAT, 30, 1⟩
def WM_MSTAT_REV : Fld := ⟨WM_MSTAT, 29, 1⟩
def WM_MSTAT_QUAD : Fld := ⟨WM_MSTAT, 28, 1⟩
def WM_MSTAT_BLOST : Fld := ⟨WM_MSTAT, 27, 1⟩
def WM_MSTAT_CHG : Fld := ⟨WM_MSTAT, 26, 1⟩
def WM_MSTAT_SPEED : Fld := ⟨WM_MSTAT, 0, 16⟩

/-- WM_PLSLO (R285). -/
def WM_PLSLO : Nat := 0x70020004
def WM_PLSLO_V : Fld := ⟨WM_PLSLO, 0, 32⟩

/-- WM_PLSHI (R285). -/
def WM_PLSHI : Nat := 0x70020008
def WM_PLSHI_V : Fld := ⟨WM_PLSHI, 0, 16⟩

/-- WM_METRE (R285). -/
def WM_METRE : Nat := 0x7002000C
def WM_METRE_V : Fld := ⟨WM_METRE, 0, 32⟩

/-- WM_REV (R285). -/
def WM_REV : Nat := 0x70020010
def WM_REV_V : Fld := ⟨WM_REV, 0, 32⟩

/-- WM_STOPT (R285). -/
def WM_STOPT : Nat := 0x70020014
def WM_STOPT_V : Fld := ⟨WM_STOPT, 0, 32⟩

/-- WM_GLITCH (R285). -/
def WM_GLITCH : Nat := 0x70020018
def WM_GLITCH_V : Fld := ⟨WM_GLITCH, 0, 32⟩

/-- WM_FIRE (R285). -/
def WM_FIRE : Nat := 0x70020020
def WM_FIRE_NEW : Fld := ⟨WM_FIRE, 31, 1⟩
def WM_FIRE_RES : Fld := ⟨WM_FIRE, 24, 3⟩
def WM_FIRE_ACTION : Fld := ⟨WM_FIRE, 16, 3⟩
def WM_FIRE_TRIG : Fld := ⟨WM_FIRE, 8, 8⟩
def WM_FIRE_WAYMARK : Fld := ⟨WM_FIRE, 0, 8⟩

/-- WM_CNT (R285). -/
def WM_CNT : Nat := 0x70020024
def WM_CNT_SKIP : Fld := ⟨WM_CNT, 16, 16⟩
def WM_CNT_FIRED : Fld := ⟨WM_CNT, 0, 16⟩

/-- WM_CLR (R285). -/
def WM_CLR : Nat := 0x70020028
def WM_CLR_CLRCNT : Fld := ⟨WM_CLR, 0, 1⟩

end Sys2Proof.Machine.Reg

namespace Sys2Proof.Machine

def regRows0 : List RegRow :=
  [⟨0x10000000, 1, 0x4, 0x00000000, 0x00000000, 0x00000000, 0x00000000⟩,
   ⟨0x10000004, 1, 0x4, 0x00000000, 0x00000000, 0x00000000, 0x00000000⟩,
   ⟨0x10000008, 1, 0x4, 0x00000000, 0x00000000, 0x00000000, 0x00000000⟩,
   ⟨0x1000000C, 1, 0x4, 0x00000000, 0x06000000, 0x00000000, 0x00000000⟩,
   ⟨0x10000010, 1, 0x4, 0x00000000, 0x00000000, 0x00000000, 0x00000000⟩,
   ⟨0x10000014, 1, 0x4, 0x00000000, 0x00000000, 0x00000000, 0x00000000⟩,
   ⟨0x10000018, 1, 0x4, 0x00000000, 0x00000000, 0x00000000, 0x00000000⟩,
   ⟨0x1000001C, 1, 0x4, 0x00000000, 0x00000000, 0x00000000, 0x00000000⟩,
   ⟨0x10001000, 8, 0x20, 0x7F07C00F, 0x00000000, 0x00000000, 0x00000000⟩,
   ⟨0x10001004, 8, 0x20, 0xFFFFFFFF, 0x00000000, 0x00000000, 0x00000000⟩,
   ⟨0x10001008, 8, 0x20, 0xFFFFFFFF, 0x00000000, 0x00000000, 0x00000000⟩,
   ⟨0x1000100C, 8, 0x20, 0xFFFFFFFF, 0x00000000, 0x00000000, 0x00000000⟩,
   ⟨0x10001010, 8, 0x20, 0x00000000, 0x00000000, 0x00000000, 0x00000000⟩,
   ⟨0x10001014, 8, 0x20, 0x00000000, 0x0000001F, 0x00000000, 0x00000000⟩,
   ⟨0x10001100, 1, 0x4, 0x00000000, 0x00000000, 0x00000000, 0x000000FF⟩,
   ⟨0x10001104, 1, 0x4, 0x00000000, 0x00000000, 0x00000000, 0x000000FF⟩,
   ⟨0x10001108, 1, 0x4, 0x00000000, 0x00000000, 0x00000000, 0x00000000⟩,
   ⟨0x10003000, 1, 0x4, 0x00000000, 0x0000007F, 0x00000000, 0x00000000⟩,
   ⟨0x10003004, 1, 0x4, 0x00000000, 0x00000000, 0x00000000, 0x00000000⟩,
   ⟨0x10003008, 1, 0x4, 0x00000000, 0x00000000, 0x00000000, 0x00000000⟩,
   ⟨0x1000300C, 1, 0x4, 0x00000000, 0x0FFF0000, 0x00000000, 0x00000000⟩,
   ⟨0x10003010, 1, 0x4, 0x00000000, 0x80000000, 0x00000000, 0x00000000⟩,
   ⟨0x10003014, 1, 0x4, 0x00000000, 0x0000001F, 0x00000000, 0x00000000⟩,
   ⟨0x10004000, 1, 0x4, 0x00000000, 0x0000FF00, 0x00000000, 0x00000000⟩,
   ⟨0x10004004, 1, 0x4, 0x000000FF, 0x00000000, 0x00000000, 0x00000000⟩,
   ⟨0x10004010, 4, 0x4, 0x00000000, 0x00000000, 0x00000000, 0x00000000⟩,
   ⟨0x10004020, 1, 0x4, 0x00000000, 0x00000F00, 0x00000000, 0x00000000⟩,
   ⟨0x10004024, 1, 0x4, 0xBFBFBFBF, 0x00000000, 0x00000000, 0x00000000⟩,
   ⟨0x10004028, 1, 0x4, 0x00000000, 0x00000000, 0x00000000, 0x00000000⟩,
   ⟨0x1000402C, 1, 0x4, 0x00000000, 0x00000000, 0x00000000, 0x00000001⟩]

def regRows1 : List RegRow :=
  [⟨0x10005000, 1, 0x4, 0x00000000, 0x00F00000, 0x00000000, 0x00000000⟩,
   ⟨0x18000000, 1, 0x4, 0x00000000, 0x00000000, 0x00000000, 0x00000000⟩,
   ⟨0x18000010, 1, 0x4, 0x00000000, 0x00000000, 0x00000000, 0x00000000⟩,
   ⟨0x18000040, 1, 0x4, 0x00000000, 0x00000000, 0x00000000, 0x00000000⟩,
   ⟨0x18000060, 1, 0x4, 0x00000000, 0x00000000, 0x00000000, 0x00000000⟩,
   ⟨0x18000064, 1, 0x4, 0x00000000, 0x00000000, 0x00000000, 0x00000000⟩,
   ⟨0x18000068, 1, 0x4, 0x00000000, 0x00000000, 0x00000000, 0x00000000⟩,
   ⟨0x1800006C, 1, 0x4, 0x00000000, 0x00000000, 0x00000000, 0x00000000⟩,
   ⟨0x18000070, 1, 0x4, 0x00000000, 0x00000000, 0x00000000, 0x00000000⟩,
   ⟨0x18000100, 8, 0x4, 0x00000000, 0x00000000, 0x00000000, 0x00000000⟩,
   ⟨0x18000140, 1, 0x4, 0x00000000, 0x00000000, 0x00000000, 0x00000000⟩,
   ⟨0x18000150, 1, 0x4, 0x00000000, 0x00000000, 0x00000000, 0x00000000⟩,
   ⟨0x20000000, 1, 0x4, 0x00000000, 0x00000000, 0x00000000, 0x00000000⟩,
   ⟨0x20000004, 1, 0x4, 0x00000000, 0x00000000, 0x00000000, 0x00000000⟩,
   ⟨0x20000008, 1, 0x4, 0x00000000, 0x00000000, 0x00000000, 0x00000000⟩,
   ⟨0x2000000C, 1, 0x4, 0x00000000, 0x00000000, 0x00000000, 0x00000000⟩,
   ⟨0x20000010, 1, 0x4, 0x00000000, 0x00000000, 0x00000000, 0x00000000⟩,
   ⟨0x20000014, 1, 0x4, 0x00000000, 0x00000000, 0x00000000, 0x00000000⟩,
   ⟨0x20000018, 1, 0x4, 0x00000000, 0x00000000, 0x00000000, 0x00000003⟩,
   ⟨0x20001000, 16, 0x100, 0x00000000, 0x00000000, 0x00000000, 0x00000000⟩,
   ⟨0x20001004, 16, 0x100, 0x00000000, 0x00000000, 0x00000000, 0x00000000⟩,
   ⟨0x20001008, 16, 0x100, 0x00000000, 0x00000000, 0x00000000, 0x00000000⟩,
   ⟨0x20003000, 1, 0x4, 0x00000000, 0x00000000, 0x00000000, 0x00000000⟩,
   ⟨0x20003004, 1, 0x4, 0x00000000, 0x00000000, 0x00000000, 0x00000000⟩,
   ⟨0x30000000, 2, 0x100000, 0x00000000, 0x00000000, 0x00000000, 0x00000000⟩,
   ⟨0x30000004, 2, 0x100000, 0x00000000, 0x00000000, 0x00000000, 0x00000000⟩,
   ⟨0x30000008, 2, 0x100000, 0x00000000, 0x00000000, 0x00000000, 0x00000000⟩,
   ⟨0x3000000C, 2, 0x100000, 0x00000000, 0x00000000, 0x00000000, 0x00000000⟩,
   ⟨0x30000010, 2, 0x100000, 0x00000000, 0x00000000, 0x00000000, 0x00000000⟩,
   ⟨0x30000014, 2, 0x100000, 0x00000000, 0x00000000, 0x00000000, 0x00000000⟩]

def regRows2 : List RegRow :=
  [⟨0x30000018, 2, 0x100000, 0x00000000, 0x00000000, 0x00000000, 0x00000000⟩,
   ⟨0x3000001C, 2, 0x100000, 0x00000000, 0x00000000, 0x00000000, 0x00000003⟩,
   ⟨0x30000020, 2, 0x100000, 0x00000000, 0x00000000, 0x00000000, 0x00000000⟩,
   ⟨0x30000024, 2, 0x100000, 0x00000000, 0x00000000, 0x00000000, 0x00000000⟩,
   ⟨0x30000028, 2, 0x100000, 0x00000000, 0x00000000, 0x00000000, 0x00000000⟩,
   ⟨0x3000002C, 2, 0x100000, 0x00000000, 0x00000000, 0x00000000, 0x00000000⟩,
   ⟨0x30000030, 2, 0x100000, 0x00000000, 0x00000000, 0x00000000, 0x00000000⟩,
   ⟨0x30000034, 2, 0x100000, 0x00000000, 0x00000000, 0x00000000, 0x00000001⟩,
   ⟨0x30200000, 1, 0x4, 0x00000000, 0x00000000, 0x00000000, 0x00000000⟩,
   ⟨0x30200004, 1, 0x4, 0x00000000, 0x00000000, 0x00000000, 0x00000000⟩,
   ⟨0x30200008, 1, 0x4, 0x00000000, 0x00000000, 0x00000000, 0x00000000⟩,
   ⟨0x3020000C, 1, 0x4, 0x00000000, 0x00000000, 0x00000000, 0x00000000⟩,
   ⟨0x30200010, 1, 0x4, 0x00000000, 0x00000000, 0x00000000, 0x00000001⟩,
   ⟨0x30200020, 2, 0x10, 0x00000000, 0x00000000, 0x00000000, 0x00000000⟩,
   ⟨0x30200024, 2, 0x10, 0x00000000, 0x00000000, 0x00000000, 0x00000000⟩,
   ⟨0x30200028, 2, 0x10, 0x00000000, 0x00000000, 0x00000000, 0x00000000⟩,
   ⟨0x3020002C, 2, 0x10, 0x00000000, 0x00000000, 0x00000000, 0x00000000⟩,
   ⟨0x40000000, 1, 0x4, 0x00000000, 0x00000000, 0x00000000, 0x00000000⟩,
   ⟨0x40000004, 1, 0x4, 0x00000FFF, 0x00000000, 0x80000000, 0x00000000⟩,
   ⟨0x40000008, 1, 0x4, 0x00000000, 0x80000000, 0x00000000, 0x00000000⟩,
   ⟨0x4000000C, 1, 0x4, 0x00000000, 0x00000000, 0x00000000, 0x00000000⟩,
   ⟨0x40000010, 1, 0x4, 0x00000000, 0x00000000, 0x00000000, 0x00000000⟩,
   ⟨0x40000020, 8, 0x4, 0x00000000, 0x00000000, 0x00000000, 0x00000000⟩,
   ⟨0x40000040, 8, 0x4, 0x00000000, 0x00000000, 0x00000000, 0x00000000⟩,
   ⟨0x40000060, 1, 0x4, 0x00000000, 0x00000000, 0x00000000, 0x00000000⟩,
   ⟨0x40000064, 1, 0x4, 0x00000000, 0x00000000, 0x00000000, 0x00000000⟩,
   ⟨0x40000068, 1, 0x4, 0x00000000, 0x00000000, 0x00000000, 0x00000003⟩,
   ⟨0x40000070, 4, 0x4, 0x00000000, 0x00000000, 0x00000000, 0xFFFFFFFF⟩,
   ⟨0x40010000, 1, 0x4, 0x00FFFFFF, 0x00000000, 0x80000000, 0x00000000⟩,
   ⟨0x40010004, 1, 0x4, 0x1FFFFFFF, 0x00000000, 0x00000000, 0x00000000⟩]

def regRows3 : List RegRow :=
  [⟨0x40010008, 1, 0x4, 0x00000000, 0x80000000, 0x00000000, 0x00000000⟩,
   ⟨0x4001000C, 1, 0x4, 0x00000000, 0x00000000, 0x00000000, 0x00000000⟩,
   ⟨0x40010010, 1, 0x4, 0x00000000, 0x00000000, 0x00000000, 0x00000001⟩,
   ⟨0x40020000, 1, 0x4, 0x00000000, 0x00000000, 0x00000000, 0x00000000⟩,
   ⟨0x40020004, 1, 0x4, 0x40000007, 0x00000000, 0x80000000, 0x00000000⟩,
   ⟨0x40020008, 1, 0x4, 0x00000000, 0x00000000, 0x00000000, 0x00000000⟩,
   ⟨0x4002000C, 1, 0x4, 0x00000000, 0x00000000, 0x00000000, 0x00000000⟩,
   ⟨0x40020010, 1, 0x4, 0x00000000, 0x00000000, 0x00000000, 0x00000000⟩,
   ⟨0x40020014, 1, 0x4, 0x00000000, 0x00000000, 0x00000000, 0x00000000⟩,
   ⟨0x40020018, 1, 0x4, 0x00000000, 0x00000000, 0x00000000, 0x00000001⟩,
   ⟨0x50000000, 1, 0x4, 0x00000000, 0x08000000, 0x00000000, 0x00000000⟩,
   ⟨0x50000004, 1, 0x4, 0x00000000, 0x00000000, 0x00000000, 0x00000000⟩,
   ⟨0x50000008, 1, 0x4, 0x00000000, 0x00000000, 0x00000000, 0x00000000⟩,
   ⟨0x5000000C, 1, 0x4, 0x00000000, 0x00000000, 0x00000000, 0x00000000⟩,
   ⟨0x50000010, 1, 0x4, 0x00000000, 0x00000000, 0x00000000, 0x00000000⟩,
   ⟨0x50000014, 1, 0x4, 0x00000000, 0x00000000, 0x00000000, 0x00000000⟩,
   ⟨0x50000018, 1, 0x4, 0x00000000, 0x00000000, 0x00000000, 0x00000003⟩,
   ⟨0x5000001C, 1, 0x4, 0x00000000, 0x00000000, 0x00000000, 0x00000000⟩,
   ⟨0x50010100, 1, 0x4, 0x00000000, 0x00000000, 0x00000000, 0x00000000⟩,
   ⟨0x50010104, 1, 0x4, 0x00000000, 0x00000000, 0x00000000, 0x00000000⟩,
   ⟨0x50010108, 1, 0x4, 0x00000000, 0x00000000, 0x00000000, 0x00000000⟩,
   ⟨0x50020000, 1, 0x4, 0x00000000, 0x80000000, 0x00000000, 0x00000000⟩,
   ⟨0x50020004, 1, 0x4, 0x00000000, 0x00000000, 0x00000000, 0x00000000⟩,
   ⟨0x50020008, 1, 0x4, 0x00000000, 0x00000000, 0x00000000, 0x00000003⟩,
   ⟨0x5002000C, 1, 0x4, 0xFFFFFFFF, 0x00000000, 0x00000000, 0x00000000⟩,
   ⟨0x50020010, 1, 0x4, 0x0000031F, 0x00000000, 0x80000000, 0x00000000⟩,
   ⟨0x50020014, 1, 0x4, 0x00000000, 0x80000000, 0x00000000, 0x00000000⟩,
   ⟨0x50020018, 1, 0x4, 0x00000000, 0x00000000, 0x00000000, 0x00000000⟩,
   ⟨0x5002001C, 1, 0x4, 0x00000000, 0x00000000, 0x00000000, 0x00000000⟩,
   ⟨0x50020020, 1, 0x4, 0x00000000, 0x00000000, 0x00000000, 0x00000003⟩]

def regRows4 : List RegRow :=
  [⟨0x50020100, 32, 0x4, 0x00000000, 0x00000000, 0x00000000, 0x00000000⟩,
   ⟨0x60000000, 1, 0x4, 0x00000000, 0x00000000, 0x00000000, 0x00000000⟩,
   ⟨0x60000004, 1, 0x4, 0x8000003F, 0x60000000, 0x00000000, 0x00000000⟩,
   ⟨0x60000008, 1, 0x4, 0xFFFFFFFF, 0x00000000, 0x00000000, 0x00000000⟩,
   ⟨0x6000000C, 1, 0x4, 0xFFFFFFFF, 0x00000000, 0x00000000, 0x00000000⟩,
   ⟨0x60000010, 1, 0x4, 0x00000000, 0x00000000, 0x00000000, 0x00000000⟩,
   ⟨0x60000014, 1, 0x4, 0x00000000, 0x00000000, 0x00000000, 0x00000000⟩,
   ⟨0x60000018, 1, 0x4, 0x00000000, 0x00000000, 0x00000000, 0x00000003⟩,
   ⟨0x60000020, 1, 0x4, 0x00000000, 0x00000000, 0x00000000, 0x00000000⟩,
   ⟨0x60000024, 1, 0x4, 0x00000000, 0x00000000, 0x00000000, 0x00000000⟩,
   ⟨0x60000028, 1, 0x4, 0x00000000, 0x00000000, 0x00000000, 0x00000000⟩,
   ⟨0x6000002C, 1, 0x4, 0x00000000, 0x00000000, 0x00000000, 0x00000000⟩,
   ⟨0x60010000, 1, 0x4, 0x00000000, 0xC0000000, 0x00000000, 0x00000000⟩,
   ⟨0x60010004, 1, 0x4, 0x00000000, 0x00000000, 0x00000000, 0x00000000⟩,
   ⟨0x60010008, 1, 0x4, 0x00000000, 0x00000000, 0x00000000, 0x00000000⟩,
   ⟨0x6001000C, 1, 0x4, 0x00000000, 0x00000000, 0x00000000, 0x00000000⟩,
   ⟨0x60010010, 1, 0x4, 0x00000000, 0x00000000, 0x00000000, 0x00000003⟩,
   ⟨0x60010014, 1, 0x4, 0x00000000, 0x00000000, 0x00000000, 0x00000000⟩,
   ⟨0x60010018, 1, 0x4, 0x00000000, 0x00000000, 0x00000000, 0x00000000⟩,
   ⟨0x60020004, 1, 0x4, 0x0000001F, 0x00000000, 0x00000000, 0x00000000⟩,
   ⟨0x60020008, 1, 0x4, 0x00000000, 0x0000001F, 0x00000000, 0x00000000⟩,
   ⟨0x6002000C, 1, 0x4, 0x00000000, 0x00000000, 0x00000000, 0x00000000⟩,
   ⟨0x60020010, 1, 0x4, 0x00000000, 0x00000000, 0x00000000, 0x00000001⟩,
   ⟨0x60030000, 1, 0x4, 0x00000000, 0x00000000, 0x00000000, 0x00000000⟩,
   ⟨0x60030004, 1, 0x4, 0x00000000, 0xF0000000, 0x00000000, 0x00000000⟩,
   ⟨0x60030008, 1, 0x4, 0xF0000000, 0x00000000, 0x00000000, 0x00000000⟩,
   ⟨0x60030010, 4, 0x4, 0x00000000, 0x00000000, 0x00000000, 0x00000000⟩,
   ⟨0x60030020, 1, 0x4, 0x00000000, 0x00000000, 0x00000000, 0x00000000⟩,
   ⟨0x60030030, 4, 0x4, 0x00000000, 0x00000000, 0x00000000, 0x00000000⟩,
   ⟨0x60030040, 1, 0x4, 0x000001FF, 0x00000000, 0x80000000, 0x00000000⟩]

def regRows5 : List RegRow :=
  [⟨0x60030044, 1, 0x4, 0x00000000, 0x00000000, 0x00000000, 0x00000000⟩,
   ⟨0x60030048, 1, 0x4, 0x00000000, 0x00000000, 0x00000000, 0x00000001⟩,
   ⟨0x60030050, 1, 0x4, 0x00000000, 0x00000000, 0x00000000, 0x00000000⟩,
   ⟨0x60030054, 1, 0x4, 0x00000000, 0x00000000, 0x00000000, 0x00000000⟩,
   ⟨0x70000000, 1, 0x4, 0x00000000, 0x00000000, 0x00000000, 0x00000000⟩,
   ⟨0x70000010, 1, 0x4, 0x00000000, 0x80000000, 0x00000000, 0x00000000⟩,
   ⟨0x70000020, 1, 0x4, 0x00000000, 0x80000000, 0x00000000, 0x00000000⟩,
   ⟨0x70000024, 1, 0x4, 0x00000000, 0x00000000, 0x00000000, 0x00000000⟩,
   ⟨0x70000028, 1, 0x4, 0x00000000, 0x00000000, 0x00000000, 0x00000000⟩,
   ⟨0x7000002C, 1, 0x4, 0x00000000, 0x00000000, 0x00000000, 0x00000001⟩,
   ⟨0x70000030, 1, 0x4, 0x0000003F, 0x00000000, 0x80000000, 0x00000000⟩,
   ⟨0x70000034, 1, 0x4, 0xFFFFFFFF, 0x00000000, 0x00000000, 0x00000000⟩,
   ⟨0x70000038, 1, 0x4, 0x00000000, 0x000000FF, 0x00000000, 0x00000000⟩,
   ⟨0x70000100, 64, 0x10, 0x00000000, 0x00000000, 0x00000000, 0x00000000⟩,
   ⟨0x70000104, 64, 0x10, 0x00000000, 0x00000000, 0x00000000, 0x00000000⟩,
   ⟨0x70000108, 64, 0x10, 0x00000000, 0x00000000, 0x00000000, 0x00000000⟩,
   ⟨0x7000010C, 64, 0x10, 0x00000000, 0x00000000, 0x00000000, 0x00000000⟩,
   ⟨0x70020000, 1, 0x4, 0x00000000, 0x04000000, 0x00000000, 0x00000000⟩,
   ⟨0x70020004, 1, 0x4, 0x00000000, 0x00000000, 0x00000000, 0x00000000⟩,
   ⟨0x70020008, 1, 0x4, 0x00000000, 0x00000000, 0x00000000, 0x00000000⟩,
   ⟨0x7002000C, 1, 0x4, 0x00000000, 0x00000000, 0x00000000, 0x00000000⟩,
   ⟨0x70020010, 1, 0x4, 0x00000000, 0x00000000, 0x00000000, 0x00000000⟩,
   ⟨0x70020014, 1, 0x4, 0x00000000, 0x00000000, 0x00000000, 0x00000000⟩,
   ⟨0x70020018, 1, 0x4, 0x00000000, 0x00000000, 0x00000000, 0x00000000⟩,
   ⟨0x70020020, 1, 0x4, 0x00000000, 0x80000000, 0x00000000, 0x00000000⟩,
   ⟨0x70020024, 1, 0x4, 0x00000000, 0x00000000, 0x00000000, 0x00000000⟩,
   ⟨0x70020028, 1, 0x4, 0x00000000, 0x00000000, 0x00000000, 0x00000001⟩]

/-- Every register of the unit, by address. TSW_CAPD4 to TSW_CAPD7 have no address of their own (log 12). -/
def regRows : List RegRow := regRows0 ++ regRows1 ++ regRows2 ++ regRows3 ++ regRows4 ++ regRows5

end Sys2Proof.Machine
end

