-- ==== Sys2Proof/Machine/State.lean ====
section
/-! DEFINITION. The state of the unit: plain data, everything the spec gives the machine, and its value at reset. -/

namespace Sys2Proof.Machine

/-- Why the machine stops. -/
inductive Fault where
  /-- raised by VBAT_OVERVOLTAGE for a stress outside the ratings, for which the spec gives no behaviour (R419, R451);
  safe: nothing can be proved about the unit past it -/
  | beyondRatings
  deriving DecidableEq, Repr

/-- Why a command has no meaning here. -/
inductive Refusal where
  /-- raised by `exec` alone, for a command whose meaning is not written; safe -/
  | notModelled (mnemonic : String)
  deriving DecidableEq, Repr

/-- An unbound touch channel before its first conversion (R408, R409). -/
def CapCh.init : CapCh := ⟨none, false, 0, 0, 0, false, 0, false, 0⟩

/-- An unbound, inactive switch (R72, R413). -/
def SwCh.init : SwCh := ⟨[], false, 0, false, 0, false, false⟩

/-- An erased 8 GiB device (the example of R298); what the board carries is a DESIGN CHOICE (log 3). -/
def NandDev.init : NandDev := ⟨true, 2048, 65536, 64, true, 1, 800, 10000, true, true, [], []⟩

/-- A tally counter of a blank part reads 0 (R316). -/
def TallyCtr.init : TallyCtr := ⟨0, 0, 0, 0, false, 0⟩

/-- A channel that is not hot. -/
def LfCh.init : LfCh := ⟨false, 0, 0⟩

/-- A bank with no charge. -/
def LfBank.init : LfBank := ⟨[], 0, 0⟩

/-- A lane whose domain is off (R138). -/
def Lane.init : Lane := ⟨none, false, none, none, none, none, none, none, none, 0, none, 0, 0, 0, none, false, 0, 0⟩

/-- A tracker with no history (R72, R239). -/
def Tracker.init : Tracker := ⟨.unknown, (0, 0, 0), 0, 0, 0, 0, [], none, false⟩

/-- Chronicle, tick clock and time outputs, held in PD_AON. -/
structure ChronSt where
  /-- The Chronicle, ticks since 2000-01-01; CHRON_HI and CHRON_LO are views of it (R251) -/
  count : BitVec 64
  /-- 32-bit fraction the correction is added to at every tick (R254) -/
  frac : Nat
  /-- Crystal compensation CORR in ppb; CHRON_COMP.CORR is its view in 10 ppb (R254) -/
  corr : Int
  /-- CRYSTAL values copied at image load (R254) -/
  crystal : Option CrystalE
  /-- Time at which the FLL last locked (R250) -/
  lockAt : Option Nat
  /-- Time of the last AONPOR (R250) -/
  porAt : Nat
  /-- Fault 0x0103 raised since AONPOR (R250) -/
  lockFault : Bool
  /-- What is still to be slewed, ticks; CHRON_SLEW is its view (R257) -/
  slew : Int
  /-- Part of a count the slew has gathered, units of 1/1,000,000 tick (R257) -/
  slewAcc : Nat
  /-- Steering of a satellite's Chronicle, ppm, -200 to 200 (R87) -/
  steer : Int
  /-- Time of the last compensation sample (R254) -/
  compAt : Nat
  /-- Time set waiting for an overhearing plan (R258) -/
  deferred : Option DeferredStep
  /-- TIME_PPS is high (R260) -/
  ppsHigh : Bool
  /-- Time of the last TIME_PPS rising edge (R260) -/
  ppsRose : Option Nat
  /-- A step lies between the last TIME message and now (R261) -/
  stepSinceMsg : Bool
  deriving DecidableEq, Repr

/-- Reset values. -/
def ChronSt.init : ChronSt where
  count := 0
  frac := 0
  corr := 0
  crystal := none
  lockAt := none
  porAt := 0
  lockFault := false
  slew := 0
  slewAcc := 0
  steer := 0
  compAt := 0
  deferred := none
  ppsHigh := false
  ppsRose := none
  stepSinceMsg := false

/-- The parts of the timer array that no register shows. -/
structure TimersSt where
  /-- Ticks gathered by each timer's prescaler (R264, R265) -/
  phase : List Nat
  /-- CMP0 and CMP1 as held at the start of the present tick (R266) -/
  cmpHeld : List (Nat × Nat)
  /-- Timers that TIM_GO starts in the next tick, bit n (R265) -/
  goNext : Nat
  /-- Timers that TIM_STOP stops in the next tick, bit n (R265) -/
  stopNext : Nat
  /-- Period timers whose counter matched CMP0 at its last increment (R264) -/
  wrap : List Bool
  /-- The debug port halts the core (R265) -/
  debugHalt : Bool
  deriving DecidableEq, Repr

/-- Reset values. -/
def TimersSt.init : TimersSt where
  phase := List.replicate 8 0
  cmpHeld := List.replicate 8 (0, 0)
  goNext := 0
  stopNext := 0
  wrap := List.replicate 8 false
  debugHalt := false

/-- Pulse counter and motion settings, held in PD_AON. -/
structure MotionSt where
  /-- 48-bit pulse count; WM_PLSLO and WM_PLSHI are views (R274) -/
  pulses : Nat
  /-- K, mode and min pulse copied at image load (R274) -/
  cfg : Option MotionSec
  /-- T_stop in seconds copied at image load (R278) -/
  tstop : Nat
  /-- V_road copied at image load (R278) -/
  vroad : Nat
  /-- Qualification and counting have resumed after AONPOR (R274) -/
  counting : Bool
  /-- Times of the last qualified edges in SLEEP, newest first (R275) -/
  wakeEdges : List Nat
  /-- Qualified level of MOTION_B (R273) -/
  bLevel : Bool
  /-- Time since which the vehicle is parked (R34) -/
  parkedAt : Nat
  deriving DecidableEq, Repr

/-- Reset values. -/
def MotionSt.init : MotionSt where
  pulses := 0
  cfg := none
  tstop := 0
  vroad := 0
  counting := false
  wakeEdges := []
  bLevel := false
  parkedAt := 0

/-- What the ledger keeps in PD_AON. -/
structure LedAonSt where
  /-- Sealed records of the open sector, at most eight (R295) -/
  sector : List Bytes
  /-- Time of the open sector's first record (R295) -/
  sectorAt : Nat
  /-- 0 no program, 1 MEM_CS1 being programmed, 2 MEM_CS2 being programmed (R295) -/
  programming : Nat
  /-- The kept day (R293) -/
  keptDay : Option Int
  /-- Records dropped at VBAT_FAIL (R299) -/
  failLost : Nat
  /-- The flush of VBAT_FAIL ended (R299, R300) -/
  flushOk : Bool
  /-- Unsealed records lost at a reset other than AONPOR and SUPPLY (R300) -/
  resetLost : Nat
  /-- SECS of the last record sealed (R300) -/
  lastSecs : Nat
  deriving DecidableEq, Repr

/-- Reset values. -/
def LedAonSt.init : LedAonSt where
  sector := []
  sectorAt := 0
  programming := 0
  keptDay := none
  failLost := 0
  flushOk := false
  resetLost := 0
  lastSecs := 0

/-- Entropy failure history, held in PD_AON. -/
structure EntAonSt where
  /-- Tick-clock times of the last entropy failures, newest first, at most two (R357) -/
  failAt : List Nat
  /-- Latched down (R357) -/
  latched : Bool
  /-- Copy of SYSTEM.self-restart bit 0 (R356) -/
  selfRestart : Bool
  deriving DecidableEq, Repr

/-- Reset values. -/
def EntAonSt.init : EntAonSt where
  failAt := []
  latched := false
  selfRestart := false

/-- Hedgehog history, held in PD_AON. -/
structure HhAonSt where
  /-- Times of counted HEDGE restarts, newest first (R441) -/
  restarts : List Nat
  /-- Start of the unavailable interval in progress (R444) -/
  outageFrom : Option Nat
  /-- A restart's code, whose FAULT record is still to be written (R440) -/
  pendingCode : Option Nat
  /-- Faults raised during steps 1 to 4 of that restart (R440) -/
  pendingCount : Nat
  /-- Time of the last Hedgehog heartbeat (R442) -/
  heartbeat : Nat
  deriving DecidableEq, Repr

/-- Reset values. -/
def HhAonSt.init : HhAonSt where
  restarts := []
  outageFrom := none
  pendingCode := none
  pendingCount := 0
  heartbeat := 0

/-- What entered the unit last at each entry point. -/
structure DataSt where
  /-- The newest datum of each entry point with its escorts (R26) -/
  last : List (Entry × Datum)
  /-- Data discarded for an escort mismatch, counted by entry point (R28) -/
  discards : List (Entry × Nat)
  deriving DecidableEq, Repr

/-- Reset values. -/
def DataSt.init : DataSt where
  last := []
  discards := []

/-- Touch channels and switches, held in PD_AON. -/
structure TouchSt where
  /-- The eight touch channels (R408, R409, R410) -/
  caps : List CapCh
  /-- The four switch inputs (R412, R413) -/
  sws : List SwCh
  /-- Trigger codes of detections held during a start-up (R409) -/
  held : List Nat
  /-- Time of the last scan (R409) -/
  scanAt : Nat
  /-- Time of the last switch sample (R412) -/
  sampleAt : Nat
  deriving DecidableEq, Repr

/-- Reset values. -/
def TouchSt.init : TouchSt where
  caps := List.replicate 8 CapCh.init
  sws := List.replicate 4 SwCh.init
  held := []
  scanAt := 0
  sampleAt := 0

/-- Start lines. -/
structure LinesSt where
  /-- STARTEN_H off for overcurrent since (R417) -/
  ocH : Option Nat
  /-- STARTEN_L off for overcurrent since (R417) -/
  ocL : Option Nat
  /-- STARTEN_H off for overtemperature (R417) -/
  otH : Bool
  /-- STARTEN_L off for overtemperature (R417) -/
  otL : Bool
  /-- Time the latch last set, while its readback is still to come (R416) -/
  setAt : Option Nat
  /-- Start of the 30 s window of a release granted with ignition off (R244) -/
  ignWindow : Option Nat
  /-- Ignition state; CAN_STAT.IGN is its view (R385) -/
  ignition : Bool
  deriving DecidableEq, Repr

/-- Reset values. -/
def LinesSt.init : LinesSt where
  ocH := none
  ocL := none
  otH := false
  otL := false
  setAt := none
  ignWindow := none
  ignition := false

/-- Power control in PD_AON. -/
structure PowAonSt where
  /-- VBAT last measured, mV (R419) -/
  vbat : Nat
  /-- VSYS last measured, mV (R421) -/
  vsys : Nat
  /-- The comparator of VBAT_FAIL, asserted after AONPOR; PWR_STAT.VBATF shows it from START_UP on (R420) -/
  failing : Bool
  /-- The VBKP report is armed (R422) -/
  vbkpArmed : Bool
  /-- Time of the last VBKP sample (R422) -/
  vbkpAt : Nat
  /-- Wake sources latched in one tick, codes of PWR_STAT.WSRC (R429, R430) -/
  wakes : List Nat
  /-- The tick they were latched in (R430) -/
  wakeAt : Nat
  /-- Always-on wake timer's due time (R428) -/
  wakeTimer : Option Nat
  /-- Times of wake-up patterns within the window, newest first (R387) -/
  wakePats : List Nat
  /-- Selective-wake decoder's frame-error count (R388) -/
  swErr : Nat
  /-- WAKE_FRAME identifier copied at image load (R388) -/
  swId : Option Nat
  /-- SYSTEM wake N copied at image load (R387) -/
  wakeN : Nat
  /-- SYSTEM wake window in ms copied at image load (R387) -/
  wakeWindow : Nat
  /-- VBAT_FAIL was asserted when the present start-up began (R420) -/
  inheritedFail : Bool
  deriving DecidableEq, Repr

/-- Reset values. -/
def PowAonSt.init : PowAonSt where
  vbat := 0
  vsys := 0
  failing := true
  vbkpArmed := true
  vbkpAt := 0
  wakes := []
  wakeAt := 0
  wakeTimer := none
  wakePats := []
  swErr := 0
  swId := none
  wakeN := 1
  wakeWindow := 0
  inheritedFail := false

/-- Supplies, domains and levels. -/
structure PowerSt where
  /-- Power state; reset is the time between a reset and START_UP (R427) -/
  state : PowState
  /-- VLF last measured, mV (R99) -/
  vlf : Nat
  /-- Bridge gate drive rail in its window (R100) -/
  gateOk : Bool
  /-- Reset sources asserted that await START_UP, each with its tick (R60) -/
  causes : List (Cause × Nat)
  /-- A Hedgehog restart that stood ready when the unit was last reset: its code, whether it is counted (R60) -/
  dueHedge : Option (Nat × Bool)
  /-- An ECU reset that stood ready when the unit was last reset (R60) -/
  dueEcu : Bool
  /-- Level a change in progress leads to (R426) -/
  ramp : Option Nat
  /-- The present wake is an internal wake (R428) -/
  internalWake : Bool
  /-- FRUGAL without a session since (R428) -/
  frugalSince : Option Nat
  /-- Time of the last request or event (R428) -/
  activeAt : Nat
  /-- Time the level change began (R426) -/
  plAt : Nat
  /-- Level that the change in progress started from (R426) -/
  plFrom : Nat
  /-- Time of the last process trim (R425) -/
  trimAt : Nat
  deriving DecidableEq, Repr

/-- Reset values. -/
def PowerSt.init : PowerSt where
  state := .reset
  vlf := 0
  gateOk := true
  causes := []
  dueHedge := none
  dueEcu := false
  ramp := none
  internalWake := false
  frugalSince := none
  activeAt := 0
  plAt := 0
  plFrom := 0
  trimAt := 0

/-- Start-up. -/
structure BootSt where
  /-- A start-up has run since the last reset (R61) -/
  started : Bool
  /-- Step 9 is under way on a head (R61) -/
  step9 : Bool
  /-- Time at which START_UP ended its steps (R61) -/
  timeAt : Nat
  /-- How long those steps took, 10 µs (R61) -/
  timeBase : Nat
  /-- Time of profile entry (R61) -/
  profileAt : Option Nat
  /-- Start-up buffer of 32 records (R289) -/
  earlyRecs : List Rec
  /-- Records that found it full (R289) -/
  earlyDrops : Nat
  /-- Role-fault code, 0, 0x6102, 0x6103 or 0x6104 (R66) -/
  roleFault : Nat
  /-- Profile selected by PROFILE_SWITCH (R35, R284) -/
  wmSelect : Option Nat
  /-- The selection ran the running image's ordinary path (R52) -/
  ordinary : Bool
  /-- Time of the last profile evaluation (R35) -/
  evalAt : Nat
  /-- An ignition, motion, life-cycle or supply event awaits its evaluation (R35) -/
  evalDue : Bool
  /-- Second of the tick clock in which events were last evaluated (R35) -/
  evalSec : Option Nat
  deriving DecidableEq, Repr

/-- Reset values. -/
def BootSt.init : BootSt where
  started := false
  step9 := false
  timeAt := 0
  timeBase := 0
  profileAt := none
  earlyRecs := []
  earlyDrops := 0
  roleFault := 0
  wmSelect := none
  ordinary := true
  evalAt := 0
  evalDue := false
  evalSec := none

/-- What the board and the fuses give, changed by no reset. -/
structure StrapsSt where
  /-- CHAIN_ROLE ball level (R1, R450) -/
  chainRole : Bool
  /-- A NOR on MEM_CS0 answers SFDP (R1, R41) -/
  norPresent : Bool
  /-- The CAN port is wired to a bus (R246, R389) -/
  canWired : Bool
  /-- Unit serial, 64 bits (R322) -/
  serial : Nat
  /-- Root secret (R322) -/
  root : Bytes
  /-- Attestation seed (R322) -/
  attSeed : Bytes
  /-- PRV fuse pair, bits blown (R338) -/
  prv : Nat
  /-- FLD fuse pair (R338) -/
  fld : Nat
  /-- RET fuse pair (R338) -/
  ret : Nat
  /-- NOR slot A, bytes from 0; bytes past its end read 0xFF (R41) -/
  norA : Bytes
  /-- NOR slot B (R41) -/
  norB : Bytes
  deriving DecidableEq, Repr

/-- Reset values. -/
def StrapsSt.init : StrapsSt where
  chainRole := true
  norPresent := true
  canWired := true
  serial := 0
  root := List.replicate 32 0
  attSeed := List.replicate 32 0
  prv := 0
  fld := 0
  ret := 0
  norA := []
  norB := []

/-- The running image. -/
structure ImgSt where
  /-- Tables of the running image (R42) -/
  run : Option Image
  /-- SIZE offered (R84) -/
  rxSize : Nat
  /-- Digest offered (R84) -/
  rxDigest : Bytes
  /-- Fragments received, by offset (R84) -/
  rxData : List (Nat × Bytes)
  /-- Time of the last IMAGE_DATA (R84) -/
  rxAt : Option Nat
  /-- A confirmation is under way (R54) -/
  confirming : Bool
  /-- Verification results of satellites on the head, by unit (R84) -/
  confirms : List (Nat × Nat)
  deriving DecidableEq, Repr

/-- Reset values. -/
def ImgSt.init : ImgSt where
  run := none
  rxSize := 0
  rxDigest := []
  rxData := []
  rxAt := none
  confirming := false
  confirms := []

/-- A satellite's verified image in retained SRAM (kept through SLEEP and any restart, R85). -/
structure ImgAonSt where
  /-- A satellite's verified image (R85) -/
  retained : Option Bytes
  deriving DecidableEq, Repr

/-- Reset values. -/
def ImgAonSt.init : ImgAonSt where
  retained := none

/-- Sett chain. -/
structure SettSt where
  /-- Epoch in force (R76) -/
  epoch : Nat
  /-- Announced epoch and its Chronicle tick (R76) -/
  nextEpoch : Option (Nat × Nat)
  /-- Replaced epoch and the tick it was replaced at (R76) -/
  oldEpoch : Option (Nat × Nat)
  /-- Nonce of the ENUM or SPLICE_PROBE last answered, unused (R76) -/
  nonce : Option Bytes
  /-- Nonce of the ENUM this head sent (R82) -/
  enumNonce : Bytes
  /-- Time of the last ENUM or ENUM_ACK while enumerating (R82) -/
  enumAt : Option Nat
  /-- Units that answered, in chain order (R82) -/
  acks : List EnumAck
  /-- Last counter accepted, by source (R76) -/
  lastCtr : List (Nat × Nat)
  /-- Own frame counter (R76) -/
  myCtr : Nat
  /-- Frames sent within 5 ms, newest first, at most 16 (R80) -/
  sent : List (Nat × SettFrame)
  /-- Stored frames, true for downstream, at most two a direction (R79) -/
  stored : List (Bool × SettFrame)
  /-- Frames still on their way into the store, whose two places a direction are taken (R79, R81) -/
  late : List (Bool × SettFrame)
  /-- Outgoing copies ended with an abort delimiter: direction, header; newest first, at most 16 (R79) -/
  cut : List (Bool × Nat)
  /-- The upstream segment (R74) -/
  up : SettPort
  /-- The downstream segment (R74) -/
  down : SettPort
  /-- Frames forwarded, true downstream, newest first, at most 16 (R79) -/
  forwarded : List (Bool × SettFrame)
  /-- Times of MAC failures within 1 s, newest first (R80) -/
  macFails : List Nat
  /-- On the head, the numbered units in quarantine, bit n for unit n + 1 (R87, R93, R259) -/
  quarMask : Nat
  /-- CHRON_STAT.SEQ at the last TIME_SYNC sent (R259) -/
  syncSeq : Nat
  /-- Time of the IMAGE_OFFER whose confirmations are awaited (R84) -/
  offerAt : Option Nat
  /-- IMAGE_DATA frames still to send: unit (none: broadcast), offset (R84) -/
  dataOut : List (Option Nat × Nat)
  /-- Fob records still to be copied to unit 2 (R91) -/
  copyDue : List Nat
  /-- Next buffered record an acting head hands over (R92) -/
  actOut : Option Nat
  /-- Relay slots being read: unit, slot, bytes so far (R230) -/
  relayIn : List (Nat × Nat × Bytes)
  /-- Chronicle day on which the epoch was drawn (R76) -/
  epochDay : Int
  /-- RETX sent for the frame of a source and type that is awaited again: times, when (R80) -/
  retxs : List (Nat × Nat × Nat × Nat)
  /-- Successive TIME_SYNC in agreement (R87) -/
  conv : Nat
  /-- This unit knows of an acting head (R88) -/
  actingUnit : Bool
  /-- This unit is the splice end (R90) -/
  spliceEnd : Bool
  /-- The downstream segment carries chain control only (R93) -/
  restricted : Bool
  /-- Nonce and time of the SPLICE_PROBE sent (R93) -/
  probe : Option (Bytes × Nat)
  /-- Replies collected (R93) -/
  replies : List SpliceSerial
  /-- Time of the SPLICE_ASSIGN taken (R93) -/
  assignedAt : Option Nat
  /-- Fault 0x6105 raised for this splice (R93) -/
  convFault : Bool
  /-- On the head, the units that a splice in progress has numbered, bit n for unit n + 1 (R93, R94) -/
  spliced : Nat
  /-- Time the head-silence timer last restarted (R88) -/
  silenceAt : Nat
  /-- The head-silence timer has not started, or has reached 50 ms (R88, R90) -/
  silenceDone : Bool
  /-- The unit may have missed an ARB_RAISE: it has been out of service since it last raised its counter (R85) -/
  absent : Bool
  /-- The unit at the downstream end is in quarantine as far as this unit has seen (R86) -/
  downQuar : Bool
  /-- Units below this one seen in service, bit n for unit n + 1 (R91) -/
  below : Nat
  /-- Records handed over by an acting head that the ledger has still to accept (R92) -/
  handed : List Rec
  /-- Time the head last emitted a frame (R88) -/
  emittedAt : Nat
  /-- Time of the last TIME_SYNC sent (R87) -/
  syncAt : Nat
  /-- Time of the last PROFILE sent (R85) -/
  profAt : Nat
  /-- Time of the last DELAY_REQ (R86) -/
  delayAt : Nat
  /-- Its send timestamp (R86) -/
  t1 : Nat
  /-- DELAY_REQ in a row without answer (R86) -/
  unanswered : Nat
  /-- Last eight s_new, newest first (R86) -/
  segs : List Int
  /-- Delay S of the downstream segment (R86) -/
  downS : Int
  /-- Own path delay D, air ticks; SETT_DELAY.PATH is its view (R86) -/
  path : Int
  /-- Delay S of the upstream segment; SETT_DELAY.SEG is its view (R86) -/
  upS : Int
  /-- Own forwarding delay F, air ticks (R79) -/
  fwd : Int
  /-- Idle pattern seen on the downstream port since (R90) -/
  idleSeen : Option Nat
  /-- Idle pattern is sent on the upstream port (R90) -/
  idleSent : Bool
  /-- Unit 2's copy of the fob records (R91) -/
  fobCopy : List (Nat × Bytes)
  /-- Tag of the last REQUEST sent (R78) -/
  reqTag : Nat
  /-- REQUESTs without RESPONSE (R78) -/
  reqs : List SettReq
  /-- RESPONSEs received: tag, status, data, newest first, at most 16 (R78) -/
  rsps : List (Nat × Nat × Bytes)
  /-- Overhearing plans outstanding, with the time each one's exchange ends (R89, R258) -/
  plans : List (Plan × Nat)
  /-- SECS at which each unit was lost, by serial (R93) -/
  lossAt : List (Nat × Nat)
  /-- Records in the acting-head buffer (R91) -/
  actSeq : Nat
  /-- Records beyond 256 (R91) -/
  actDrops : Nat
  /-- Event words not yet heard by the head (R414) -/
  satEvents : List Nat
  /-- Time of the last event frame (R414) -/
  satEventAt : Nat
  /-- Transmission on both Sett ports has stopped (latch-down) (R357) -/
  silent : Bool
  deriving DecidableEq, Repr

/-- Reset values. -/
def SettSt.init : SettSt where
  epoch := 0
  nextEpoch := none
  oldEpoch := none
  nonce := none
  enumNonce := []
  enumAt := none
  acks := []
  lastCtr := []
  myCtr := 0
  sent := []
  stored := []
  late := []
  cut := []
  up := ⟨none, 0⟩
  down := ⟨none, 0⟩
  forwarded := []
  macFails := []
  quarMask := 0
  syncSeq := 0
  offerAt := none
  dataOut := []
  copyDue := []
  actOut := none
  relayIn := []
  epochDay := 0
  retxs := []
  conv := 0
  actingUnit := false
  spliceEnd := false
  restricted := false
  probe := none
  replies := []
  assignedAt := none
  convFault := false
  spliced := 0
  silenceAt := 0
  silenceDone := true
  absent := true
  downQuar := false
  below := 0
  handed := []
  emittedAt := 0
  syncAt := 0
  profAt := 0
  delayAt := 0
  t1 := 0
  unanswered := 0
  segs := []
  downS := 0
  path := 0
  upS := 0
  fwd := 0
  idleSeen := none
  idleSent := false
  fobCopy := []
  reqTag := 0
  reqs := []
  rsps := []
  plans := []
  lossAt := []
  actSeq := 0
  actDrops := 0
  satEvents := []
  satEventAt := 0
  silent := false

/-- Speed and waymarks. -/
structure WmSt where
  /-- Times of qualified edges of the present window, newest first, at most 257 (R276) -/
  edges : List Nat
  /-- Time of the last qualified edge since start-up (R277) -/
  lastEdge : Option Nat
  /-- Direction of the last edge (R276) -/
  lastRev : Bool
  /-- Edges of A since the last edge of B (R273) -/
  aSinceB : Nat
  /-- Times of rejected excursions within 1 s, newest first (R273) -/
  glitches : List Nat
  /-- Time fault 0x0202 was last raised (R273) -/
  glitchFault : Option Nat
  /-- Waymark table and arming (R279, R280) -/
  entries : List WmState
  /-- Time of the last evaluation (R280) -/
  evalAt : Nat
  /-- Pulse count at the last whole second reached by counting (R278) -/
  secPulses : Option Nat
  /-- No evaluation since CAB, ROAD or WORKSHOP was entered (R280) -/
  fresh : Bool
  deriving DecidableEq, Repr

/-- Reset values. -/
def WmSt.init : WmSt where
  edges := []
  lastEdge := none
  lastRev := false
  aSinceB := 0
  glitches := []
  glitchFault := none
  entries := []
  evalAt := 0
  secPulses := none
  fresh := true

/-- Ledger engine. -/
structure LedSt where
  /-- MAC of the last record (R292) -/
  mac : Bytes
  /-- Records since the previous CKPT_S, newest first (R293) -/
  span : List Bytes
  /-- Signature in progress for the CKPT_R of this NUM (R293) -/
  ckpt : Option Nat
  /-- A day checkpoint falls due (R293) -/
  dayDue : Bool
  /-- Drops since the last LOSS record (R294) -/
  drops : Nat
  /-- Opened read-only (R289) -/
  readOnly : Bool
  /-- Another unit's ledger: every record is dropped (R289) -/
  foreign : Bool
  /-- Motion block being built (R291) -/
  motion : Option MotionBlk
  /-- 28-day summary (R302) -/
  summary : List DayEntry
  /-- Time of the last summary rewrite (R302) -/
  summaryAt : Nat
  /-- Records a satellite holds, oldest first (R286) -/
  satHeld : List Rec
  /-- Records it dropped (R286) -/
  satDrops : Nat
  /-- Fault 0x5204 raised (R298) -/
  full95 : Bool
  /-- MEM_CS1 and MEM_CS2 in service (R296) -/
  served : List Bool
  /-- Mirror copy under way onto this device (0 or 1) (R289) -/
  copying : Option Nat
  /-- Sectors abandoned at opening (R300) -/
  aborted : Nat
  /-- The ledger has begun to accept records in this start-up, or will not (R289) -/
  opened : Bool
  /-- Fob record and driver ID of the last start (R302) -/
  rider : Nat × Nat
  deriving DecidableEq, Repr

/-- Reset values. -/
def LedSt.init : LedSt where
  mac := List.replicate 16 0
  span := []
  ckpt := none
  dayDue := false
  drops := 0
  readOnly := false
  foreign := false
  motion := none
  summary := []
  summaryAt := 0
  satHeld := []
  satDrops := 0
  full95 := false
  served := [false, false]
  copying := none
  aborted := 0
  opened := false
  rider := (0xFF, 0)

/-- The two NAND devices. -/
structure NandSt where
  /-- MEM_CS1 and MEM_CS2 (R287, R288, R296) -/
  devs : List NandDev
  /-- Image archive frames, oldest first (R288) -/
  archive : List Bytes
  deriving DecidableEq, Repr

/-- Reset values. -/
def NandSt.init : NandSt where
  devs := List.replicate 2 NandDev.init
  archive := []

/-- Retained memory. -/
structure NvSt where
  /-- The 64 KiB logical space, committed bytes (R304) -/
  mem : List Host.Cell
  /-- Tally counters (R315) -/
  tally : List TallyCtr
  /-- Commits by logical page (R320) -/
  wear : List (Nat × Nat)
  /-- Group markers programmed by bank (R320) -/
  markers : List Nat
  deriving DecidableEq, Repr

/-- Reset values. -/
def NvSt.init : NvSt where
  mem := []
  tally := List.replicate 32 TallyCtr.init
  wear := []
  markers := List.replicate 4 0

/-- Retained-memory controller. -/
structure RmcSt where
  /-- Bytes of the run; RMC_STAT.FILL is its length (R308) -/
  buf : Bytes
  /-- Error recorded for COMMIT (R308) -/
  err : Option RmcResult
  /-- The buffer was emptied by ABORT or timeout (R308) -/
  aborted : Bool
  /-- Owner's last access (R308) -/
  touchedAt : Nat
  /-- Group being committed (R310) -/
  cur : Option Commit
  /-- Interrupted groups (R311) -/
  resume : List Commit
  /-- Tally operation in progress (R317) -/
  op : Option TallyRun
  /-- Stopped by VBAT_FAIL (R314) -/
  stopped : Bool
  /-- Step 3 has ended (R64) -/
  ready : Bool
  /-- Counters whose old set is being erased, since (R318) -/
  erasing : List (Nat × Nat)
  /-- Internal groups abandoned at VBAT_FAIL, to be submitted again (R314) -/
  resubmit : List (Cls × Group)
  deriving DecidableEq, Repr

/-- Reset values. -/
def RmcSt.init : RmcSt where
  buf := []
  err := none
  aborted := false
  touchedAt := 0
  cur := none
  resume := []
  op := none
  stopped := false
  ready := false
  erasing := []
  resubmit := []

/-- Key vault. -/
structure DenSt where
  /-- Slots marked unusable; VLT_UNUw are views (R331) -/
  unusable : List Nat
  /-- Open import pair (R334) -/
  pair : Option ImportPair
  /-- Life-cycle nonce and its time (R339) -/
  nonce : Option (Bytes × Nat)
  /-- VLT_BUF (R342) -/
  buf : List Host.Cell
  /-- Owner's last access (R342) -/
  touchedAt : Nat
  /-- Gathered CH4410 words, oldest first (R341) -/
  legacy : List Nat
  /-- Time of the last gathered word (R341) -/
  legacyAt : Nat
  /-- An image has loaded in this start-up (R330) -/
  loaded : Bool
  /-- Volatile key registers in use, at most 16 (R328) -/
  vol : List VolKey
  /-- Slots the protection rewrite pass has still to visit (R330) -/
  rewrite : List Nat
  /-- Fault 0x4103 raised in this start-up (R332) -/
  requiredFault : Bool
  /-- Command that waits for entropy (R333, R354) -/
  wait : Option DenCmd
  /-- VLT_BUF is claimed: its owner's command has not completed (R342) -/
  claimed : Bool
  deriving DecidableEq, Repr

/-- Reset values. -/
def DenSt.init : DenSt where
  unusable := []
  pair := none
  nonce := none
  buf := []
  touchedAt := 0
  legacy := []
  legacyAt := 0
  loaded := false
  vol := []
  rewrite := []
  requiredFault := false
  wait := none
  claimed := false

/-- Crypto engine. -/
structure CrySt where
  /-- CRY_BUF (R347) -/
  buf : List Host.Cell
  /-- Owner's last access (R347) -/
  touchedAt : Nat
  /-- Class of the operation on the symmetric core (R346) -/
  symBusy : Option Cls
  /-- Interrupted operations that keep their state (R346) -/
  symHeld : List Cls
  /-- Command that waits for entropy (R354) -/
  wait : Option CryCmd
  /-- CRY_BUF is claimed (R347) -/
  claimed : Bool
  /-- Time since which that command waits (R354) -/
  waitAt : Nat
  deriving DecidableEq, Repr

/-- Reset values. -/
def CrySt.init : CrySt where
  buf := []
  touchedAt := 0
  symBusy := none
  symHeld := []
  wait := none
  claimed := false
  waitAt := 0

/-- Entropy source and DRBG. -/
structure EntSt where
  /-- Conditioned bits in the pool, whole bytes; ENT_STAT.POOL is its length in bits (R349) -/
  pool : Bytes
  /-- DRBG working state; ENT_STAT.READY and ENT_REQ are views (R352) -/
  drbg : Option Drbg
  /-- Time ENT_RAW was last read (R360) -/
  rawAt : Nat
  /-- A reseed waits for pool bits; ENT_STAT.RESEED is its view (R353) -/
  reseedDue : Bool
  /-- External random reads waiting: master, since (R354) -/
  waiting : List (Master × Nat)
  /-- PERSO in force (R352) -/
  perso : Bytes
  /-- Self-restart waits for the FAULT record since (R356) -/
  restartDue : Option Nat
  /-- Last sample of each latch and the length of its current run (R350) -/
  runs : List (Bool × Nat)
  /-- Samples in a row for which the bias trim of each latch has sat at an end of its range (R350) -/
  rails : List Nat
  /-- Raw samples of each latch held for ENT_RAW, oldest first (R359) -/
  samples : List (List Bool)
  /-- The open sector of a unit that latched down is flushed once the FAULT record is sealed (R357) -/
  flushDue : Bool
  /-- Windows still to pass before the DRBG is instantiated: 2 the start-up test, 1 the seed (R351, R360) -/
  starting : Nat
  deriving DecidableEq, Repr

/-- Reset values. -/
def EntSt.init : EntSt where
  pool := []
  drbg := none
  rawAt := 0
  reseedDue := false
  waiting := []
  perso := List.replicate 8 0
  restartDue := none
  runs := []
  rails := []
  samples := []
  flushDue := false
  starting := 0

/-- CAN port, diagnostics. -/
structure CanSt where
  /-- Bus-off since (R383) -/
  offAt : Option Nat
  /-- Fault 0x6202 raised for this bus-off (R383) -/
  offFault : Bool
  /-- The IGNITION timeout runs since (R385) -/
  ignAt : Option Nat
  /-- Diagnostic session, 1 default, 2 programming, 3 extended (R397) -/
  session : Nat
  /-- Session authenticated (R398) -/
  authed : Bool
  /-- Time of the last request (R397) -/
  lastReq : Nat
  /-- Seed not yet used (R398) -/
  seed : Option Bytes
  /-- Failures within this power cycle (R398) -/
  authFails : Nat
  /-- Lockout since (R398) -/
  lockout : Option Nat
  /-- Message being received (R396) -/
  rx : Option TpRx
  /-- Message being sent (R396) -/
  tx : Option TpTx
  /-- Transfer in progress (R400, R401) -/
  xfer : Option Xfer
  /-- Routine whose answer is still to come (R401) -/
  routine : Option RoutineWait
  /-- Frames offered to the bus, newest first, at most 16 (R382) -/
  sent : List CanFrame
  deriving DecidableEq, Repr

/-- Reset values. -/
def CanSt.init : CanSt where
  offAt := none
  offFault := false
  ignAt := none
  session := 1
  authed := false
  lastReq := 0
  seed := none
  authFails := 0
  lockout := none
  rx := none
  tx := none
  xfer := none
  routine := none
  sent := []

/-- Hibernation ring. -/
structure RingSt where
  /-- Last ring message received (R390) -/
  last : Option RingMsg
  /-- Its time (R390) -/
  lastAt : Nat
  /-- Own turn named since (R390) -/
  turnAt : Option Nat
  /-- Own last message (R392) -/
  mine : Option RingMsg
  /-- Its time (R390) -/
  mineAt : Nat
  /-- Successor named by this unit, not yet heard (R390) -/
  waitSucc : Option Nat
  /-- Sole missing member since; RING_STAT.SOLE names it (R394) -/
  soleAt : Option Nat
  /-- Circuits in the sole-missing period (R394) -/
  circuits : Nat
  /-- Initiator of the sleep round (R392) -/
  initiator : Option Nat
  /-- A new wake event during the round (R393) -/
  wake : Bool
  /-- Past the commit point: no ring messages (R392) -/
  silent : Bool
  deriving DecidableEq, Repr

/-- Reset values. -/
def RingSt.init : RingSt where
  last := none
  lastAt := 0
  turnAt := none
  mine := none
  mineAt := 0
  waitSucc := none
  soleAt := none
  circuits := 0
  initiator := none
  wake := false
  silent := false

/-- Host port. -/
structure HptSt where
  /-- Times of FRAME status within 1 s, newest first (R406) -/
  frames : List Nat
  deriving DecidableEq, Repr

/-- Reset values. -/
def HptSt.init : HptSt where
  frames := []

/-- Hedgehog. -/
structure HhSt where
  /-- Blocks isolated or reset within 60 s; SUP_ISO is a view (R439) -/
  iso : List IsoBlk
  /-- Escort mismatch times within 1 s, by block (R29) -/
  esc : List (Block × List Nat)
  /-- Reporting state of each code (R443) -/
  reports : List FltRep
  /-- Performance-level caps in force, by the code that set them; SUP_HH_STAT.CAP is the least (R433, R435, R437, R438) -/
  caps : List (Nat × Nat)
  /-- Temperature steps in force (R435) -/
  steps : List TempStep
  /-- Sensors dropped as invalid (R436) -/
  invalid : List Nat
  /-- HALT of 0x1104 (0, air) or 0x1107 (3, field) (R435) -/
  haltGroup : Option Nat
  /-- Restart in progress: code and since (R440) -/
  restart : Option (Nat × Nat)
  /-- Code of a deferred restart (R441) -/
  deferred : Option Nat
  /-- Tick of the newest HALT raised (R433) -/
  haltAt : Option Nat
  /-- Monitors dropped until the next start-up (R438) -/
  pmDrop : List Nat
  /-- Time the process REDUCE or its last trial was made (R438) -/
  trialAt : Option Nat
  /-- Start of a trial in progress (R438) -/
  trial : Option Nat
  /-- Time of the last temperature sample (R435) -/
  tempAt : Nat
  deriving DecidableEq, Repr

/-- Reset values. -/
def HhSt.init : HhSt where
  iso := []
  esc := []
  reports := []
  caps := []
  steps := []
  invalid := []
  haltGroup := none
  restart := none
  deferred := none
  haltAt := none
  pmDrop := []
  trialAt := none
  trial := none
  tempAt := 0

/-- The answers last given on each interface (the model's own record of what leaves the unit). -/
structure OutsSt where
  /-- Last fabric response (R25) -/
  fabric : Option (FabStatus × List Word)
  /-- The last access of the debug port ended with a bus error (R25) -/
  busError : Bool
  /-- Last answer of a queue (R30) -/
  enqueue : Option Admit
  /-- Diagnostic responses, newest first, at most 8 (R396) -/
  diag : List Bytes
  /-- Last answer on HOST_MISO (R404) -/
  host : Bytes
  /-- Last answer of the tag, whole bytes, without CRC_A (R366, R368) -/
  tag : Bytes
  /-- Last anticollision answer, first bit first (R366) -/
  tagBits : List Bool
  deriving DecidableEq, Repr

/-- Reset values. -/
def OutsSt.init : OutsSt where
  fabric := none
  busError := false
  enqueue := none
  diag := []
  host := []
  tag := []
  tagBits := []

/-- What the field keeps through restarts. -/
structure LfAonSt where
  /-- Channels disabled by a fault, bit n (R124) -/
  disabled : Nat
  deriving DecidableEq, Repr

/-- Reset values. -/
def LfAonSt.init : LfAonSt where
  disabled := 0

/-- Low-frequency field. -/
structure LfSt where
  /-- The sixteen channels (R110, R124) -/
  chs : List LfCh
  /-- Banks A and B (R97, R108) -/
  banks : List LfBank
  /-- Frames being driven (R98) -/
  runs : List LfRun
  /-- The diagnostic run in progress (R98, R122) -/
  test : Option TestRun
  /-- Retests of disabled channels that fall due, with whether they pass (R124) -/
  retests : List (Nat × Bool)
  /-- Drive inhibited since (R100) -/
  inhSince : Option Nat
  /-- Fault 0x2107 raised for this inhibition (R100) -/
  inhFault : Bool
  /-- The boost started and VLF has not reached 8.0 V (R99) -/
  boostAt : Option Nat
  /-- VLF did not reach 8.0 V (R99) -/
  boostFail : Bool
  /-- Coupled exchange in progress (R128) -/
  ct : Option CtRun
  /-- Chain time of the last slot of each scheduled entry, ticks (R109, R118) -/
  slots : List (Nat × Nat)
  /-- Reply windows to be opened: lane, from, until (air ticks since reset) (R119) -/
  rxDue : List (Nat × Nat × Nat)
  /-- Bytes of the frames sent, with the time each began, newest first, at most 16 (R112, R126, R128) -/
  sent : List (Nat × Bytes)
  /-- Since when the three conditions that allow drive have held (R100) -/
  allowSince : Option Nat
  /-- POLLS entries that are skipped (R118, R232) -/
  bad : List Nat
  /-- Time of the last daily test (R123) -/
  test24At : Nat
  /-- Results reported to requesters, newest first, at most 8 (R130) -/
  done : List (LfBy × LfResult)
  deriving DecidableEq, Repr

/-- Reset values. -/
def LfSt.init : LfSt where
  chs := List.replicate 16 LfCh.init
  banks := List.replicate 2 LfBank.init
  runs := []
  test := none
  retests := []
  inhSince := none
  inhFault := false
  boostAt := none
  boostFail := false
  ct := none
  slots := []
  rxDue := []
  sent := []
  allowSince := none
  bad := []
  test24At := 0
  done := []

/-- Lanes. -/
structure AirSt where
  /-- LANE0 and LANE1 (R133, R138) -/
  lanes : List Lane
  /-- SEQ of the next unsealed frame, by destination (R180) -/
  seqs : List (Nat × Nat)
  /-- Frames emitted, newest first, at most 16 (R145) -/
  out : List AirTx
  deriving DecidableEq, Repr

/-- Reset values. -/
def AirSt.init : AirSt where
  lanes := List.replicate 2 Lane.init
  seqs := []
  out := []

/-- Ranging engine. -/
structure FoxSt where
  /-- Exchange running on each lane (R191, R219) -/
  ex : List (Option Exch)
  /-- Overhearing on each lane (R215) -/
  oh : List (Option Overhear)
  /-- GUARD fixes between their two exchanges (R213) -/
  pair : List GuardWait
  /-- Times of fault 0x3201 within 1 s (R220) -/
  escorts : List Nat
  /-- Exchanges passed within the last 2 ms, whose reports may still come (R218) -/
  done : List FoxDone
  deriving DecidableEq, Repr

/-- Reset values. -/
def FoxSt.init : FoxSt where
  ex := [none, none]
  oh := [none, none]
  pair := []
  escorts := []
  done := []

/-- Sessions. -/
structure SesSt where
  /-- Sessions running, at most four (R226) -/
  ss : List Session
  /-- Triggers under way (R227) -/
  runs : List TrigRun
  /-- Number of the next trigger run (R227) -/
  runId : Nat
  /-- Trackers (R239) -/
  trk : List Tracker
  /-- Strike times, by record (R231) -/
  strikes : List (Nat × List Nat)
  /-- Barred records and when the bar began (R231) -/
  bars : List (Nat × Nat)
  /-- Notice state, by record (R242) -/
  notices : List NoticeSt
  /-- Enrolment in progress (R225) -/
  enrol : Option Enrol
  /-- Relay slots of a satellite (R230) -/
  relay : List Bytes
  /-- Start release that waits for tally counter 1 (R243) -/
  startWait : Option StartWait
  /-- Start of the last notice search window (R242) -/
  searchAt : Nat
  deriving DecidableEq, Repr

/-- Reset values. -/
def SesSt.init : SesSt where
  ss := []
  runs := []
  runId := 0
  trk := List.replicate 64 Tracker.init
  strikes := []
  bars := []
  notices := []
  enrol := none
  relay := List.replicate 8 []
  startWait := none
  searchAt := 0

/-- What the tag engine holds in PD_AON. -/
structure TagAonSt where
  /-- Slot 6's key; TAG_STAT.KEY is its view (R364) -/
  key : Option Bytes
  /-- Salt drawn at step 10 (R364) -/
  salt : Bytes
  /-- Unit serial copied at step 10 (R364) -/
  serial : Nat
  /-- Vehicle ID copied at step 10 (R364) -/
  vehicle : Nat
  /-- Tag FWI copied at step 10 (R364) -/
  fwi : Nat
  deriving DecidableEq, Repr

/-- Reset values. -/
def TagAonSt.init : TagAonSt where
  key := none
  salt := List.replicate 16 0
  serial := 0
  vehicle := 0
  fwi := 4

/-- Cab tag, PD_TAG. -/
structure TagSt where
  /-- A field is present; TAG_STAT.FLD is its view (R366) -/
  field : Bool
  /-- IDLE, READY, ACTIVE or HALT; TAG_STAT.STATE is its view (R366) -/
  st : TagState
  /-- Reached from HALT: READY* or ACTIVE* (R366) -/
  star : Bool
  /-- Cascade level being selected (R366) -/
  cascade : Nat
  /-- RATS has been answered (R366) -/
  iso4 : Bool
  /-- Application selected; TAG_STAT.SEL is its view (R368) -/
  app : Bool
  /-- Nr and Nt of AUTH step 1 (R369) -/
  step1 : Option (Bytes × Bytes)
  /-- Session key; TAG_STAT.AUTH is its view (R369) -/
  kts : Option Bytes
  /-- Counter of the next command with CLA 0x84 (R370) -/
  ctr : Nat
  /-- AUTH failures within this presence of the field (R369) -/
  fails : Nat
  /-- Summary snapshot; TAG_STAT.SNAP is its view (R378) -/
  snap : Option Bytes
  /-- Committed copies of the SRAM leaves, by offset in TAG_MEM (R371) -/
  sram : List Host.Cell
  /-- Leaves held; TAG_FHLDw, TAG_FHLDP and TAG_WHLDw are views (R372) -/
  held : List TagLeaf
  /-- WRITE_LEAF that waits for a wired holder (R372) -/
  lock : Option TagLock
  /-- Counter of a COMMIT whose group waits in the commit queue or on the tag's own path (R374) -/
  commit : Option Nat
  /-- Field-path group in progress (R375) -/
  path : Option TagPath
  /-- TAG_VRES last measured, mV (R375) -/
  vres : Nat
  /-- Committed copies of leaves replaced by a commit of the present tag clock: leaf, bytes, time (R372) -/
  replaced : List (Nat × Bytes × Nat)
  deriving DecidableEq, Repr

/-- Reset values. -/
def TagSt.init : TagSt where
  field := false
  st := .idle
  star := false
  cascade := 1
  iso4 := false
  app := false
  step1 := none
  kts := none
  ctr := 0
  fails := 0
  snap := none
  sram := []
  held := []
  lock := none
  commit := none
  path := none
  vres := 3300
  replaced := []

/-- The state of the unit. -/
structure State where
  /-- The commands that are waiting, first in, first out (the model's own queue) -/
  pending : List Instr
  /-- Ticks counted since the model began (R249): the model's own clock -/
  now : Nat
  /-- How many free values the model has drawn (the model's own; log 4) -/
  freeCtr : Nat
  /-- Every register that is not a view, by address; a register that is not listed reads 0 (R9, R10) -/
  regs : List (Nat × Word)
  /-- Bits the hardware has set in the present tick, by register (R12): the model's own, cleared by each tick -/
  hwSet : List (Nat × Word)
  /-- SRAM, by offset in its 2 MiB window (R39) -/
  sram : List Host.Cell
  /-- The shared queues, by `QueueId.idx` (R30, Table 1-8) -/
  queues : List Queue
  /-- Chronicle, tick clock and time outputs, held in PD_AON -/
  chron : ChronSt
  /-- The parts of the timer array that no register shows -/
  timers : TimersSt
  /-- Pulse counter and motion settings, held in PD_AON -/
  motion : MotionSt
  /-- What the ledger keeps in PD_AON -/
  ledAon : LedAonSt
  /-- Entropy failure history, held in PD_AON -/
  entAon : EntAonSt
  /-- Hedgehog history, held in PD_AON -/
  hhAon : HhAonSt
  /-- What entered the unit last at each entry point -/
  data : DataSt
  /-- Touch channels and switches, held in PD_AON -/
  touch : TouchSt
  /-- Start lines -/
  lines : LinesSt
  /-- Power control in PD_AON -/
  powAon : PowAonSt
  /-- Supplies, domains and levels -/
  power : PowerSt
  /-- Start-up -/
  boot : BootSt
  /-- What the board and the fuses give, changed by no reset -/
  straps : StrapsSt
  /-- The running image -/
  img : ImgSt
  /-- A satellite's verified image in retained SRAM (kept through SLEEP and any restart, R85) -/
  imgAon : ImgAonSt
  /-- Sett chain -/
  sett : SettSt
  /-- Speed and waymarks -/
  wm : WmSt
  /-- Ledger engine -/
  led : LedSt
  /-- The two NAND devices -/
  nand : NandSt
  /-- Retained memory -/
  nv : NvSt
  /-- Retained-memory controller -/
  rmc : RmcSt
  /-- Key vault -/
  den : DenSt
  /-- Crypto engine -/
  cry : CrySt
  /-- Entropy source and DRBG -/
  ent : EntSt
  /-- CAN port, diagnostics -/
  can : CanSt
  /-- Hibernation ring -/
  ring : RingSt
  /-- Host port -/
  hpt : HptSt
  /-- Hedgehog -/
  hh : HhSt
  /-- The answers last given on each interface (the model's own record of what leaves the unit) -/
  outs : OutsSt
  /-- What the field keeps through restarts -/
  lfAon : LfAonSt
  /-- Low-frequency field -/
  lf : LfSt
  /-- Lanes -/
  air : AirSt
  /-- Ranging engine -/
  fox : FoxSt
  /-- Sessions -/
  ses : SesSt
  /-- What the tag engine holds in PD_AON -/
  tagAon : TagAonSt
  /-- Cab tag, PD_TAG -/
  tag : TagSt
  deriving DecidableEq, Repr

/-- An empty queue with a full answer bucket (R30). -/
def Queue.init : Queue := ⟨[], 0, 0, 0, 0, 0⟩

/-- Register values at AONPOR that are not 0, by the register tables. -/
def regsReset : List (Nat × Word) :=
  [(0x10003000, 0x00000001),
   (0x1000300C, 0x00000001),
   (0x10003010, 0x0000008C),
   (0x10004004, 0x0000001E),
   (0x10004024, 0x0A0A0A0A),
   (0x18000000, 0x968000B0),
   (0x18000010, 0x00600000),
   (0x20000008, 0x0001E848),
   (0x20001004, 0x001C0000),
   (0x20001104, 0x001C0000),
   (0x20001204, 0x001C0000),
   (0x20001304, 0x001C0000),
   (0x20001404, 0x001C0000),
   (0x20001504, 0x001C0000),
   (0x20001604, 0x001C0000),
   (0x20001704, 0x001C0000),
   (0x20001804, 0x001C0000),
   (0x20001904, 0x001C0000),
   (0x20001A04, 0x001C0000),
   (0x20001B04, 0x001C0000),
   (0x20001C04, 0x001C0000),
   (0x20001D04, 0x001C0000),
   (0x20001E04, 0x001C0000),
   (0x20001F04, 0x001C0000),
   (0x40000008, 0x38000000),
   (0x40010008, 0x38000000),
   (0x50020000, 0x38000000),
   (0x60000004, 0x0000000A),
   (0x60000020, 0x00FFFF00),
   (0x70000010, 0x00000007)]

/-- The unit right after AONPOR, before START_UP: every register at the value its table gives, retained memory, fuses and
attached memories blank (log 3), no command waiting. -/
def State.reset : State where
  pending := []
  now := 0
  freeCtr := 0
  regs := regsReset
  hwSet := []
  sram := []
  queues := List.replicate 23 Queue.init
  chron := ChronSt.init
  timers := TimersSt.init
  motion := MotionSt.init
  ledAon := LedAonSt.init
  entAon := EntAonSt.init
  hhAon := HhAonSt.init
  data := DataSt.init
  touch := TouchSt.init
  lines := LinesSt.init
  powAon := PowAonSt.init
  power := PowerSt.init
  boot := BootSt.init
  straps := StrapsSt.init
  img := ImgSt.init
  imgAon := ImgAonSt.init
  sett := SettSt.init
  wm := WmSt.init
  led := LedSt.init
  nand := NandSt.init
  nv := NvSt.init
  rmc := RmcSt.init
  den := DenSt.init
  cry := CrySt.init
  ent := EntSt.init
  can := CanSt.init
  ring := RingSt.init
  hpt := HptSt.init
  hh := HhSt.init
  outs := OutsSt.init
  lfAon := LfAonSt.init
  lf := LfSt.init
  air := AirSt.init
  fox := FoxSt.init
  ses := SesSt.init
  tagAon := TagAonSt.init
  tag := TagSt.init

end Sys2Proof.Machine
end

