-- ==== Sys2Proof/Machine/Mem.lean ====
section
/-! DEFINITION. Named operations over the sparse memories and the registers: one read and one write for each (R9, R10, R304). -/

namespace Sys2Proof.Machine

/-! ### Sorting -/

/-- An element put before the first it does not come after. -/
def insertBy {α : Type} (before : α → α → Bool) (x : α) : List α → List α
  | [] => [x]
  | y :: l => if before x y then x :: y :: l else y :: insertBy before x l

/-- A list sorted; elements of equal rank keep their order. -/
def sortBy {α : Type} (before : α → α → Bool) : List α → List α
  | [] => []
  | x :: l => insertBy before x (sortBy before l)

/-! ### Byte memories -/

/-- One byte; an unlisted address reads 0 (log 3). -/
def memGet : List Host.Cell → Nat → Byte
  | [], _ => 0
  | (b, v) :: m, a => if b = a then v else if a < b then 0 else memGet m a

/-- One byte written; a zero byte is not listed, so that equal memories are equal lists. -/
def memSet : List Host.Cell → Nat → Byte → List Host.Cell
  | [], a, v => if v = 0 then [] else [(a, v)]
  | (b, w) :: m, a, v =>
    if a < b then (if v = 0 then (b, w) :: m else (a, v) :: (b, w) :: m)
    else if a = b then (if v = 0 then m else (a, v) :: m)
    else (b, w) :: memSet m a v

/-- `n` bytes from `a` on. -/
def memGetN (m : List Host.Cell) (a : Nat) : Nat → Bytes
  | 0 => []
  | n + 1 => memGet m a :: memGetN m (a + 1) n

/-- A run of bytes written from `a` on. -/
def memSetN (m : List Host.Cell) (a : Nat) : Bytes → List Host.Cell
  | [] => m
  | v :: vs => memSetN (memSet m a v) (a + 1) vs

/-- The canonical form: addresses strictly rising from `lo` on, no zero byte listed. -/
def memWfFrom : Nat → List Host.Cell → Bool
  | _, [] => true
  | lo, (a, v) :: m => decide (lo ≤ a) && decide (v ≠ 0) && memWfFrom (a + 1) m

/-- The canonical form of a byte memory. -/
def Memory.wf (m : List Host.Cell) : Bool := memWfFrom 0 m

/-! ### Registers -/

/-- The word held for an address; an unlisted address holds 0. -/
def regGet : List (Nat × Word) → Nat → Word
  | [], _ => 0
  | (b, v) :: m, a => if b = a then v else if a < b then 0 else regGet m a

/-- A word written; a zero word is not listed. -/
def regSet : List (Nat × Word) → Nat → Word → List (Nat × Word)
  | [], a, v => if v = 0 then [] else [(a, v)]
  | (b, w) :: m, a, v =>
    if a < b then (if v = 0 then (b, w) :: m else (a, v) :: (b, w) :: m)
    else if a = b then (if v = 0 then m else (a, v) :: m)
    else (b, w) :: regSet m a v

def regWfFrom : Nat → List (Nat × Word) → Bool
  | _, [] => true
  | lo, (a, v) :: m => decide (lo ≤ a) && decide (v ≠ 0) && regWfFrom (a + 1) m

/-- The canonical form of the register map. -/
def regsWf (m : List (Nat × Word)) : Bool := regWfFrom 0 m

/-- A field of a word. -/
def Fld.get (f : Fld) (w : Word) : Nat := (w.extractLsb' f.lo f.width).toNat

/-- A word with one field replaced; the value is cut to the field's width. -/
def Fld.put (f : Fld) (v : Nat) (w : Word) : Word :=
  (w &&& ~~~((BitVec.allOnes f.width).setWidth 32 <<< f.lo)) ||| (((BitVec.ofNat f.width v).setWidth 32) <<< f.lo)

/-- The greatest value of a field. -/
def Fld.top (f : Fld) : Nat := 2 ^ f.width - 1

/-- The stored word of a register. -/
def State.rd (s : State) (a : Nat) : Word := regGet s.regs a

/-- A register's stored word replaced. -/
def State.wr (s : State) (a : Nat) (v : Word) : State := { s with regs := regSet s.regs a v }

/-- The value of a register field. -/
def State.get (s : State) (f : Fld) : Nat := f.get (s.rd f.reg)

/-- A register field written by the unit. -/
def State.put (s : State) (f : Fld) (v : Nat) : State := s.wr f.reg (f.put v (s.rd f.reg))

/-- Whether a register field is not 0. -/
def State.bit (s : State) (f : Fld) : Bool := s.get f != 0

/-- The hardware has set bits of a field in the present tick (R12). -/
def hwMark (m : List (Nat × Word)) (f : Fld) (v : Nat) : List (Nat × Word) :=
  regSet m f.reg (f.put (f.get (regGet m f.reg) ||| v) (regGet m f.reg))

/-- A one-bit field written; a bit set is marked, so that a W1C write of the same tick does not clear it (R12). -/
def State.setBit (s : State) (f : Fld) (b : Bool) : State :=
  { s.put f (if b then 1 else 0) with hwSet := if b then hwMark s.hwSet f 1 else s.hwSet }

/-- A counter field raised by `n`, saturating at its all-ones value (R33). -/
def State.count (s : State) (f : Fld) (n : Nat) : State := s.put f (min (s.get f + n) f.top)

/-- Bit `i` of a field set, and marked (R12). -/
def State.setBitAt (s : State) (f : Fld) (i : Nat) : State :=
  { s.put f (s.get f ||| 2 ^ i) with hwSet := hwMark s.hwSet f (2 ^ i) }

/-- Bit `i` of a field cleared. -/
def State.clearBitAt (s : State) (f : Fld) (i : Nat) : State :=
  s.put f (if s.get f / 2 ^ i % 2 = 1 then s.get f - 2 ^ i else s.get f)

/-- Bits of a field cleared by a W1C write, but for those the hardware has set in this tick (R10, R12). -/
def State.w1c (s : State) (f : Fld) (v : Nat) : State :=
  s.put f (s.get f &&& (f.top ^^^ (v &&& (f.top ^^^ f.get (regGet s.hwSet f.reg)))))

/-- The W1C write of a whole register. -/
def State.w1cAll (s : State) (a : Nat) (v : Word) : State := s.wr a (s.rd a &&& ~~~(v &&& ~~~(regGet s.hwSet a)))

/-- Whether bit `i` of a field is set. -/
def State.bitAt (s : State) (f : Fld) (i : Nat) : Bool := s.get f / 2 ^ i % 2 == 1

/-! ### Time -/

/-- Whether `us` microseconds have passed since a recorded time; one tick is 2^-22 s (R5). -/
def State.after (s : State) (t us : Nat) : Bool := decide (us * 4194304 ≤ (s.now - t) * 1000000)

/-- Whether a time lies less than `us` microseconds back. -/
def State.within (s : State) (t us : Nat) : Bool := decide ((s.now - t) * 1000000 < us * 4194304)

/-- The times of a list that lie less than `us` microseconds back. -/
def State.recent (s : State) (us : Nat) (ts : List Nat) : List Nat := ts.filter (fun t => s.within t us)

/-- Chronicle seconds, CHRON bits 53:22 (R251). -/
def State.secs (s : State) : Nat := s.chron.count.toNat / 4194304 % 4294967296

/-- The fraction of the second in 1/256 s (Table 12-2). -/
def State.tsub (s : State) : Nat := s.chron.count.toNat / 16384 % 256

/-- The unit's 40-bit counter of air ticks (R133, R145); one tick is 9,375 air ticks. -/
def State.airNow (s : State) : Nat := s.now * 9375 % 2 ^ 40

/-- A free value has been drawn (log 4). -/
def State.drawn (s : State) : State := { s with freeCtr := s.freeCtr + 1 }

end Sys2Proof.Machine
end

