-- ==== Sys2Proof/Machine/Codes.lean ====
section
/-! DEFINITION. The codes that the tables give to the names: classes, masters, statuses, results, causes, blocks, queues. -/

namespace Sys2Proof.Machine

/-- Table 1-4. -/
def Cls.code : Cls → Nat
  | .p0 => 0 | .p1 => 1 | .p2 => 2 | .p3 => 3

def Cls.ofCode : Nat → Cls
  | 0 => .p0 | 1 => .p1 | 2 => .p2 | _ => .p3

/-- Table 1-3. -/
def Master.id : Master → Nat
  | .session => 0 | .ledger => 1 | .can => 2 | .sett => 3 | .host => 4 | .tag => 5 | .debug => 6

/-- Table 1-6; an access without an answer has no code there. -/
def FabStatus.code : FabStatus → Nat
  | .ok => 0 | .busy => 1 | .fault => 2 | .off => 3 | .denied => 4 | .unmapped => 5 | .escort => 6
  | .entropyWait => 7 | .entropyFail => 8 | .width => 9 | .preempted => 10 | .silent => 15

def FabStatus.ofCode : Nat → FabStatus
  | 0 => .ok | 1 => .busy | 2 => .fault | 3 => .off | 4 => .denied | 5 => .unmapped | 6 => .escort
  | 7 => .entropyWait | 8 => .entropyFail | 9 => .width | _ => .preempted

def Width.bytes : Width → Nat
  | .b8 => 1 | .b16 => 2 | .b32 => 4

/-- PWR_BOOT_STAT.CAUSE. -/
def Cause.code : Cause → Nat
  | .aonpor => 0 | .supply => 1 | .hiber => 2 | .hedge => 3 | .ecurst => 4 | .extrst => 5 | .debug => 6

/-- Table 20-1. -/
def Action.code : Action → Nat
  | .log => 0 | .isolate => 1 | .reduce => 2 | .shed => 3 | .restart => 4 | .halt => 5

/-- Table 13-4. -/
def RmcResult.code : RmcResult → Nat
  | .ok => 0 | .bufferFull => 1 | .empty => 2 | .area => 3 | .denied => 4 | .aborted => 5 | .fail => 6 | .sequence => 7
  | .saturated => 8 | .busy => 9

/-- Table 14-10. -/
def DenResult.code : DenResult → Nat
  | .ok => 0 | .denied => 1 | .empty => 2 | .unusable => 3 | .type => 4 | .auth => 5 | .occupied => 6 | .state => 7
  | .nonce => 8 | .fail => 9 | .entropy => 10 | .busy => 11 | .format => 12 | .sequence => 13

/-- Table 15-5. -/
def CryResult.code : CryResult → Nat
  | .ok => 0 | .denied => 1 | .empty => 2 | .unusable => 3 | .type => 4 | .auth => 5 | .occupied => 6 | .entropyWait => 7
  | .entropyFail => 8 | .busy => 9 | .escort => 10 | .format => 11

/-- ENT_STAT.FTEST. -/
def HealthTest.code : HealthTest → Nat
  | .repetition => 1 | .proportion => 2 | .bias => 3

def Dom.bit : Dom → Nat
  | .aon => 0 | .sup => 1 | .seq => 2 | .lfa => 3 | .lfb => 4 | .ar0 => 5 | .ar1 => 6 | .fox => 7 | .vlt => 8 | .ldg => 9
  | .lnk => 10 | .tag => 11

/-- Table 20-4; the blocks of regions 0 and 1 stand after the table. -/
def Block.num : Block → Nat
  | .lfCommon => 0 | .bankA => 1 | .bankB => 2 | .ct => 3 | .lane0 => 4 | .lane1 => 5 | .fox => 6 | .den => 7 | .crypto => 8
  | .entropy => 9 | .ledger => 10 | .memPort => 11 | .rmc => 12 | .can => 13 | .sett => 14 | .hpt => 15 | .tag => 16
  | .session => 17 | .zones => 18 | .waymarks => 19 | .fabric => 20 | .aon => 21 | .sup => 22

/-- The region of a block (Table 1-2, Table 20-4). -/
def Block.region : Block → Nat
  | .aon => 0 | .sup => 1
  | .lfCommon | .bankA | .bankB | .ct => 2
  | .lane0 | .lane1 | .fox => 3
  | .den | .crypto | .entropy => 4
  | .ledger | .memPort | .rmc => 5
  | .can | .sett | .hpt | .tag => 6
  | .session | .zones | .waymarks | .fabric => 7

/-- The power domain a block's registers need (Table 1-2, Table 19-3). -/
def Block.dom : Block → Dom
  | .aon => .aon | .sup => .sup
  | .lfCommon => .seq | .bankA => .lfa | .bankB => .lfb | .ct => .seq
  | .lane0 => .ar0 | .lane1 => .ar1 | .fox => .fox
  | .den | .crypto | .entropy => .vlt
  | .ledger | .memPort | .rmc => .ldg
  | .can | .sett | .hpt => .lnk
  | .tag => .tag
  | .session | .zones | .waymarks | .fabric => .seq

/-- The number of a queue in `State.queues`. -/
def QueueId.idx : QueueId → Nat
  | .fabric r => r % 8
  | .session => 8 | .crypto => 9 | .den => 10 | .settTx => 11 | .settRx => 12
  | .lane n => 13 + n % 2
  | .bank n => 15 + n % 2
  | .ingest => 17 | .commit => 18 | .canTx => 19 | .canCmd => 20 | .host => 21 | .drbg => 22

/-- Depth Q (Table 1-8, R81, R309, R352, R382, R402, R405). -/
def QueueId.depth : QueueId → Nat
  | .fabric _ => 16 | .session => 64 | .crypto => 16 | .den => 16 | .settTx => 32 | .settRx => 32 | .lane _ => 8 | .bank _ => 8
  | .ingest => 256 | .commit => 8 | .canTx => 32 | .canCmd => 32 | .host => 1 | .drbg => 16

/-- Places reserved for P0. -/
def QueueId.reserved : QueueId → Nat
  | .fabric _ => 4 | .session => 16 | .crypto => 4 | .den => 4 | .settTx => 8 | .settRx => 8 | .lane _ => 2 | .bank _ => 2
  | .ingest => 32 | .commit => 2 | .canTx => 8 | .canCmd => 0 | .host => 0 | .drbg => 4

/-- The region whose block keeps the queue (R32, R473). -/
def QueueId.region : QueueId → Nat
  | .fabric _ => 7 | .session => 7 | .crypto => 4 | .den => 4 | .settTx => 6 | .settRx => 6 | .lane _ => 3 | .bank _ => 2
  | .ingest => 5 | .commit => 5 | .canTx => 6 | .canCmd => 6 | .host => 6 | .drbg => 4

/-- The drop counter's register, where a chapter gives one (R33). -/
def QueueId.dropFld : QueueId → Option Fld
  | .crypto => some Reg.CRY_DROP_V
  | .den => some Reg.VLT_DROP_V
  | .settTx => some Reg.SETT_DROP_V
  | .settRx => some Reg.SETT_DROP_V
  | .lane n => some (Reg.AIR_LN_DROP_V (n % 2))
  | .bank _ => some Reg.LF_DROP_V
  | .ingest => some Reg.LDG_DROP_V
  | .commit => some Reg.RMC_DROP_V
  | .canTx => some Reg.CAN_DROP_V
  | .canCmd => some Reg.CAN_DROP_V
  | .fabric _ => none
  | .session => none
  | .host => none
  | .drbg => none

/-- Queues whose requests leave by themselves at capacity C: no command serves one of them (log 8). -/
def QueueId.auto : QueueId → Bool
  | .fabric _ => true | .crypto => true | .den => true | .settTx => false | .settRx => true | .drbg => true | .host => true
  | .session => false | .lane _ => false | .bank _ => false | .ingest => false | .commit => false | .canTx => false
  | .canCmd => false

/-- The queues of a block, emptied when it is isolated (R18). -/
def Block.queues : Block → List QueueId
  | .crypto => [.crypto] | .den => [.den] | .sett => [.settTx, .settRx] | .lane0 => [.lane 0] | .lane1 => [.lane 1]
  | .bankA => [.bank 0] | .bankB => [.bank 1] | .ledger => [.ingest] | .rmc => [.commit] | .can => [.canTx, .canCmd]
  | .session => [.session] | .entropy => [.drbg] | .hpt => [.host]
  | .lfCommon | .ct | .fox | .memPort | .tag | .zones | .waymarks | .fabric | .aon | .sup => []

/-- What a refused request of a fabric access is answered (R18, R30, R33). -/
def Admit.status : Admit → FabStatus
  | .taken => .ok | .busy => .busy | .dropped => .silent | .fault => .fault

/-- The block that keeps a queue; the fabric's ports belong to none that is isolated (R439). -/
def QueueId.block : QueueId → Option Block
  | .fabric _ => none
  | .session => some .session | .crypto => some .crypto | .den => some .den | .settTx => some .sett | .settRx => some .sett
  | .lane n => some (if n % 2 = 0 then .lane0 else .lane1)
  | .bank n => some (if n % 2 = 0 then .bankA else .bankB)
  | .ingest => some .ledger | .commit => some .rmc | .canTx => some .can | .canCmd => some .can | .host => some .hpt
  | .drbg => some .entropy

/-- The class a request gets from its origin, whatever class it names (R21): P0 and P1 of the session engine, P2 of the ledger engine,
the stamped class of a relayed request, P3 of the masters outside. -/
def Master.stamp (m : Master) (cls : Cls) : Cls :=
  match m with
  | .session => if cls = .p0 then .p0 else .p1
  | .ledger => .p2
  | .sett => cls
  | .can | .host | .tag | .debug => .p3

/-- The action of a fault code (Table 20-5); codes with more than one action are raised with theirs. -/
def faultAction (code : Nat) : Action :=
  if code = 0x1101 then .reduce
  else if code = 0x1102 ∨ code = 0x1103 ∨ code = 0x1105 ∨ code = 0x1106 then .shed
  else if code = 0x1104 ∨ code = 0x1107 then .halt
  else if code = 0x1201 ∨ code = 0x1301 then .reduce
  else if code = 0x1202 ∨ code = 0x1204 ∨ code = 0x1206 then .restart
  else if code = 0x1203 then .shed
  else if code = 0x1303 ∨ code = 0x1401 ∨ code = 0x1403 then .restart
  else if code = 0x3101 ∨ code = 0x3103 then .isolate
  else if code = 0x4101 ∨ code = 0x4201 ∨ code = 0x4302 ∨ code = 0x5101 then .halt
  else if 0x2000 ≤ code ∧ code / 256 % 16 = 0xF then .isolate
  else .log

end Sys2Proof.Machine
end

