-- ==== Sys2Proof/Machine/Slots.lean ====
section
/-! DEFINITION. Vault slots (R323, R324): the logical layout of a slot, reading and writing one, and the stored form of R330. -/

namespace Sys2Proof.Machine

/-- A slot's logical content (Table 14-2). -/
structure Slot where
  key : Bytes
  attr : Nat
  engine : Nat
  flags : Nat
  len : Nat
  label : Bytes
  mode : Nat
  deriving DecidableEq, Repr

/-- A slot's logical bytes 0 to 59 (Table 14-2). -/
def Slot.body (t : Slot) : Bytes :=
  fit 32 t.key ++ be 4 t.attr ++ be 1 t.engine ++ be 1 t.flags ++ be 1 t.len ++ [0] ++ fit 16 t.label ++ zeros 3 ++ be 1 t.mode

/-- A slot with its CRC in plain form, as CHECK stores it (R330). -/
def Slot.bytes (t : Slot) : Bytes := t.body ++ (if t.mode = 2 then zeros 4 else be 4 (crc32c t.body))

def Slot.ofBytes (b : Bytes) : Slot :=
  ⟨sub b 0 32, fieldBe b 32 4, fieldBe b 36 1, fieldBe b 37 1, fieldBe b 38 1, sub b 40 16, fieldBe b 59 1⟩

/-- Words 0 to 13 placed in an order: place i takes word σ i; word 14 stays (R330). -/
def placeWords (σ : Equiv.Perm (Fin 14)) (b : Bytes) : Bytes :=
  (List.finRange 14).flatMap (fun i => sub b (4 * (σ i : Nat)) 4) ++ sub b 56 4

/-- K_mask of a slot (Table 14-1). -/
def State.kMask (s : State) (n : Nat) : Bytes :=
  kdf s.straps.root (ascii "DEN MASK") (be 8 s.straps.serial ++ be 1 n) 256

/-- K_perm of a slot (Table 14-1). -/
def State.kPerm (s : State) (n : Nat) : Bytes :=
  kdf s.straps.root (ascii "DEN PERM") (be 8 s.straps.serial ++ be 1 n) 128

/-- The order of a slot's words: K_perm settles it, by a rule that the spec does not give (log 7). -/
def State.slotOrder (s : State) (n : Nat) : Equiv.Perm (Fin 14) := Config.slotOrder (s.kPerm n)

/-- Words 0 to 7 exclusive-ored with a mask. -/
def maskKey (mask b : Bytes) : Bytes := xorBytes (b.take 32) mask ++ b.drop 32

/-- The 64 bytes in which a slot is stored (R330): in SCRAMBLE and BOTH words 0 to 7 masked with K_mask and words 0 to 13 in K_perm's order;
the CRC of BOTH runs over the stored form. -/
def State.storedSlot (s : State) (n : Nat) (t : Slot) : Bytes :=
  if t.mode = 2 ∨ t.mode = 3 then
    let b := placeWords (s.slotOrder n) (maskKey (s.kMask n) t.body)
    b ++ (if t.mode = 2 then zeros 4 else be 4 (crc32c b))
  else t.bytes

/-- The 64 bytes of a slot in retained memory, as stored. -/
def State.slotBytes (s : State) (n : Nat) : Bytes := memGetN s.nv.mem (n * 64) 64

/-- A slot's content: the mode, which is never permuted, tells how it is read back (R330). -/
def State.slot (s : State) (n : Nat) : Slot :=
  let b := s.slotBytes n
  if fieldBe b 59 1 = 2 ∨ fieldBe b 59 1 = 3 then
    Slot.ofBytes (maskKey (s.kMask n) (placeWords (s.slotOrder n).symm b))
  else Slot.ofBytes b

/-- A slot is occupied while its MODE is not 0 (R323). -/
def State.occupied (s : State) (n : Nat) : Bool := fieldBe (s.slotBytes n) 59 1 != 0

/-- Whether a slot's CRC is right, in the modes that have one (R331). -/
def slotCrcOk (b : Bytes) : Bool :=
  let mode := fieldBe b 59 1
  mode == 0 || mode == 2 || fieldBe b 60 4 == crc32c (b.take 60)

/-- The life-cycle state, Table 14-7. -/
def State.lcState (s : State) : Nat := s.get Reg.VLT_LC_STATE

/-- The bits of an attribute word, by position (Table 14-3). -/
def attrBit (attr i : Nat) : Bool := attr / 2 ^ i % 2 == 1

/-- Checks 1, 2 and 6 to 8 of R327 for an engine acting for the unit: it presents master 0 and world internal. -/
def State.slotOpen (s : State) (n : Nat) : Bool :=
  let a := (s.slot n).attr
  s.occupied n && !s.den.unusable.contains n && slotCrcOk (s.slotBytes n) && attrBit a 13 && attrBit a 20 && attrBit a (24 + s.lcState)

/-- The key bytes in use that an engine of the unit gets, none where the slot is empty or unusable or its attributes bar it. -/
def State.slotKey (s : State) (n : Nat) : Option Bytes :=
  if s.slotOpen n then some ((s.slot n).key.take (s.slot n).len) else none

/-- `n` free bytes: a value the spec leaves open (log 4). -/
def freeBytes (n : Nat) (s : State) : Bytes × State :=
  ((List.range n).map (fun i => Config.freeByte (s.freeCtr + i)), { s with freeCtr := s.freeCtr + n })

/-- The protection mode of a slot written now (R330). -/
def State.slotMode (s : State) : Nat :=
  match s.img.run with
  | some i => i.system.protection
  | none => 3

/-- The attestation key of R322: d := (c mod (n - 1)) + 1. -/
def State.attestKey (s : State) : Nat :=
  beNat (kdf s.straps.attSeed (ascii "DEN ATTEST") (be 8 s.straps.serial) 320) % (p256n - 1) + 1

/-- TYPE, ORIGIN and EXPORT of an attribute word (Table 14-3). -/
def attrType (attr : Nat) : Nat := attr % 16
def attrOrigin (attr : Nat) : Nat := attr / 2 ^ 29 % 4
def attrExport (attr : Nat) : Bool := attrBit attr 31

/-- The chain key derived from slot 1 (R333). -/
def chainKey (master label : Bytes) : Bytes := kdf master (ascii "SETT CHAIN") label 256

/-! ### Volatile key registers (R328) -/

/-- A key held in a volatile register; no bytes where none holds it. -/
def State.volKey (s : State) (record : Nat) (name : VolName) : Bytes :=
  ((s.den.vol.find? (fun k => k.record == record && k.name == name)).map (·.key)).getD []

/-- Whether registers are free for so many keys. -/
def State.volRoom (s : State) (n : Nat) : Bool := decide (s.den.vol.length + n ≤ 16)

/-- A derived key is put into a register. -/
def volPut (k : VolKey) (s : State) : State :=
  { s with den := { s.den with vol := k :: s.den.vol.filter (fun v => !(v.record == k.record && v.name == k.name)) } }

/-- Registers are erased: those whose keys are no longer needed. -/
def volErase (p : VolKey → Bool) (s : State) : State := { s with den := { s.den with vol := s.den.vol.filter (fun k => !p k) } }

/-- The keys of sessions that have ended are erased (R226, R328). -/
def volSweep (s : State) : State :=
  volErase (fun k => (k.name == .kS || k.name == .kR) && s.ses.ss.all (fun x => x.record != k.record)) s

end Sys2Proof.Machine
end

