-- ==== Sys2Proof/Machine/Ops.lean ====
section
/-! DEFINITION. The shared operations: queues under the overload contract (R30 to R33, R473), faults and their reports (R29,
R432, R443), isolation (R18, R439), restarts (R440, R441), records (R289, R472), frames to the chain and to the bus. -/

namespace Sys2Proof.Machine

/-! ### What the unit is -/

/-- Runs as head (SETT_STAT.HEAD). -/
def State.isHead (s : State) : Bool := s.bit Reg.SETT_STAT_HEAD

/-- Is acting head (R91). -/
def State.isActing (s : State) : Bool := s.bit Reg.SETT_STAT_ACTING

/-- The unit number, 0 if unnumbered. -/
def State.unitNum (s : State) : Nat := s.get Reg.SETT_STAT_NUM

/-- The life-cycle state, Table 14-7. -/
def State.lc (s : State) : Nat := s.lcState

/-- The profile code, 7 before profile entry. -/
def State.profile (s : State) : Nat := s.get Reg.SES_PROF_CUR

/-- TIME_VALID (R253). -/
def State.timeValid (s : State) : Bool := s.bit Reg.CHRON_STAT_TVALID

def State.domOn (s : State) (d : Dom) : Bool := s.bitAt Reg.PWR_DOM_ON d.bit

def State.setDom (s : State) (d : Dom) (on : Bool) : State :=
  if on then s.setBitAt Reg.PWR_DOM_ON d.bit else s.clearBitAt Reg.PWR_DOM_ON d.bit

/-- The unit runs: ON, DOZE or STANDBY. -/
def State.runs (s : State) : Bool :=
  match s.power.state with
  | .on | .doze | .standby => true
  | .reset | .sleep | .hibernate => false

/-- The core clock at the level running, in 0.1 MHz (Table 19-5). -/
def State.coreClock (s : State) : Nat := [480, 960, 1920, 3072].getD (s.get Reg.PWR_PL_CUR) 480

/-- The unit can reach a head: numbered, its upstream segment alive, in no quarantine, the head not silent. -/
def State.reachesHead (s : State) : Bool :=
  s.unitNum != 0 && s.bit Reg.SETT_STAT_UPUP && !s.bit Reg.SETT_STAT_QUAR && !s.sett.idleSent

/-! ### Queues -/

def State.queue (s : State) (q : QueueId) : Queue := s.queues.getD q.idx Queue.init

def State.setQueue (s : State) (q : QueueId) (v : Queue) : State := { s with queues := s.queues.set q.idx v }

/-- The last-run page, none where it is blank: never written, or its CRC fails (R474). -/
def State.lastRun (s : State) : Option Bytes :=
  let b := memGetN s.nv.mem 0xA420 32
  if b = zeros 32 ∨ fieldBe b 28 4 ≠ crc32c (b.take 28) then none else some b

/-- The arbitration and data codes of the bus settings in force: the running image's, the last-run page's, or 500 kbit/s without a data
phase (R474). -/
def State.busRates (s : State) : Nat × Nat :=
  match s.img.run, s.lastRun with
  | some i, _ => (i.canids.arb, i.canids.data)
  | none, some b => (fieldBe b 4 1, fieldBe b 5 1)
  | none, none => (2, 0)

/-- The arbitration rate in kbit/s (R381). -/
def State.arbRate (s : State) : Nat := [125, 250, 500, 1000].getD s.busRates.1 500

/-- The data rate in Mbit/s; without one FD frames are sent without BRS (R381). -/
def State.dataRate (s : State) : Option Nat := if s.busRates.2 = 0 then none else [2, 4, 5][s.busRates.2 - 1]?

/-- Capacity C in requests per second at the level running (Table 1-8, R352, R382, R402; the host port and the LF banks have
no figure: log 8). -/
def State.capacity (s : State) : QueueId → Nat
  | .fabric _ => 100000 * s.coreClock
  | .session => 20000 * s.coreClock / 3072
  | .crypto => 200000 * s.coreClock / 3072
  | .den => 50000 * s.coreClock / 3072
  | .settTx => 20000
  | .settRx => 20000
  | .lane _ => 200 * s.coreClock / 3072
  | .bank _ => 50
  | .ingest => 2000
  | .commit => 156
  | .canTx => [781, 1562, 3125, 6250].getD s.busRates.1 3125
  | .canCmd => 500
  | .host => 1000
  | .drbg => 1000000 * s.coreClock / 3072

/-- A request is served before one that stands ahead of it: the higher class; of equal classes that came in one tick, the lower master
ID (R17, R23). -/
def QItem.before (a b : QItem) : Bool :=
  decide (a.cls.code < b.cls.code) || (a.cls == b.cls && a.at_ == b.at_ && decide (a.master.id < b.master.id))

/-- The index of the next request to serve: the highest class, the oldest within it (R17, R23). -/
def bestIdx : List QItem → Option Nat
  | [] => none
  | q :: qs =>
    match bestIdx qs with
    | none => some 0
    | some i => if (qs.getD i q).before q then some (i + 1) else some 0

/-- The next request to serve and the requests left. -/
def popBest (items : List QItem) : Option (QItem × List QItem) :=
  match bestIdx items with
  | none => none
  | some i => (items[i]?).map (fun q => (q, items.eraseIdx i))

/-- The next request of one class and the requests left. -/
def popCls (c : Cls) (items : List QItem) : Option (QItem × List QItem) :=
  match popBest (items.filter (fun i => i.cls == c)) with
  | none => none
  | some (q, _) => some (q, items.erase q)

/-- The round of an arbiter's grants: P1, P2 and P3 in the ratio 4:2:1 (R22). -/
def grantRound : List Cls := [.p1, .p1, .p1, .p1, .p2, .p2, .p3]

/-- A fabric arbiter's next grant (R22): P0 first; otherwise the class whose turn it is, classes with nothing waiting skipped. The last
part is the place of the round that follows. -/
def popGrant (turn : Nat) (items : List QItem) : Option (QItem × List QItem × Nat) :=
  match popCls .p0 items with
  | some (q, rest) => some (q, rest, turn)
  | none =>
    (List.range 7).findSome? (fun k =>
      (popCls (grantRound.getD ((turn + k) % 7) .p3) items).map (fun p => (p.1, p.2, (turn + k + 1) % 7)))

/-- `k` requests served strictly by class (R17), or as an arbiter grants them (R22): what is left, and the round's place. -/
def dropServed (arbiter : Bool) : Nat → Nat → List QItem → List QItem × Nat
  | 0, turn, items => (items, turn)
  | k + 1, turn, items =>
    if arbiter then
      match popGrant turn items with
      | none => ([], turn)
      | some (_, rest, next) => dropServed arbiter k next rest
    else
      match popBest items with
      | none => ([], turn)
      | some (_, rest) => dropServed arbiter k turn rest

/-- One answer of a bucket, in the units of `Queue.deficit`. -/
def answerUnit : Nat := 5 * 4194304

/-- A queue brought up to the present time: the bucket refilled at C/5 answers per second, requests of a queue that serves
itself gone at C per second (R30, R31). -/
def Queue.settle (q : Queue) (cap : Nat) (auto arbiter : Bool) (now : Nat) : Queue :=
  let gained := q.served + (now - q.stamp) * cap
  let left := if auto then dropServed arbiter (min (gained / 4194304) q.items.length) q.turn q.items else (q.items, q.turn)
  { items := left.1, deficit := q.deficit - (now - q.stamp) * cap, stamp := now,
    served := if left.1.isEmpty then 0 else gained % 4194304, drops := q.drops, turn := left.2 }

/-- A fabric port is an arbiter (R22). -/
def QueueId.arbiter : QueueId → Bool
  | .fabric _ => true
  | _ => false

/-- Places held by requests of one kind. -/
def Queue.held (q : Queue) (reserved : Bool) : Nat := (q.items.filter (fun i => i.reserved == reserved)).length

/-- Whether a class is shed (R473). -/
def State.shedding (s : State) : Cls → Bool
  | .p3 => s.bit Reg.SUP_HH_STAT_SHEDP3
  | .p2 => s.bit Reg.SUP_HH_STAT_SHEDP2
  | .p1 => false
  | .p0 => false

/-- The place a request finds: reserved, general or none (R32, R473). -/
def placeFor (q : QueueId) (cls : Cls) (shed : Bool) (v : Queue) : Option Bool :=
  if shed then none
  else if cls = .p0 ∧ v.held true < q.reserved then some true
  else if v.held false < q.depth - q.reserved then some false
  else none

/-- A request that finds no place is answered BUSY: always of class P0, otherwise while the bucket lasts (R30, R32). -/
def answered (q : QueueId) (cls : Cls) (v : Queue) : Bool :=
  cls == .p0 || decide (v.deficit + answerUnit ≤ q.depth * answerUnit)

/-- The drop counted where its register is (R33). -/
def State.countDrop (s : State) (q : QueueId) : State :=
  match q.dropFld with
  | some f => s.count f 1
  | none => s

/-- DOZE and STANDBY are left at any request or event (R428). -/
def awake (s : State) : State :=
  match s.power.state with
  | .doze => { s with power := { s.power with state := .on, activeAt := s.now } }.put Reg.PWR_STAT_LASTST 1
  | .standby => { s with power := { s.power with state := .on, activeAt := s.now } }.put Reg.PWR_STAT_LASTST 2
  | .on => { s with power := { s.power with activeAt := s.now } }
  | .reset | .sleep | .hibernate => s

/-- The core runs at a level from now on: PWR_PL.CUR, and CHG where it changes (R431). -/
def runLevel (l : Nat) (s : State) : State :=
  if s.get Reg.PWR_PL_CUR = l then s else (s.put Reg.PWR_PL_CUR l).setBit Reg.PWR_PL_CHG true

/-- Whether a block is isolated (R18). -/
def State.isIsolated (s : State) (b : Block) : Bool := s.hh.iso.any (fun i => i.block == b && i.isolated)

/-- A request is refused: the answer budget, the drop counter, SUP_RGN_STAT.REFUSED (R30, R32, R33, R473). -/
def refuse (q : QueueId) (cls : Cls) (busy : Bool) (v : Queue) (s : State) : State :=
  if busy then
    (s.setQueue q { v with deficit := if cls = .p0 then v.deficit else v.deficit + answerUnit }).setBitAt Reg.SUP_RGN_STAT_REFUSED q.region
  else
    ((s.setQueue q { v with drops := if q.dropFld.isSome then v.drops else min (v.drops + 1) 0xFFFFFFFF }).countDrop q).setBitAt
      Reg.SUP_RGN_STAT_REFUSED q.region

/-- The request that loses its place to one of the same tick (R23): of a lower class, or of the same class and a higher master ID, in a
place the winner may hold; a master's own earlier request keeps its place. -/
def Queue.loser (v : Queue) (cls : Cls) (m : Master) (now : Nat) : Option QItem :=
  v.items.reverse.find? (fun i => i.at_ == now && i.master != m && (!i.reserved || cls == .p0) &&
    (decide (cls.code < i.cls.code) || (i.cls == cls && decide (m.id < i.master.id))))

/-- A queue as a request of a class finds it at the present time. -/
def State.found (s : State) (q : QueueId) : Queue := (s.queue q).settle (s.capacity q) q.auto q.arbiter s.now

/-- Who loses the place that a request gets, if anyone (R23). -/
def State.loserTo (s : State) (q : QueueId) (cls : Cls) (m : Master) : Option QItem :=
  if s.shedding cls ∨ (placeFor q cls false (s.found q)).isSome then none else (s.found q).loser cls m s.now

/-- What the loser of the last place leaves: a record is one more that was not taken, a commit group is submitted again. -/
def loserGone (i : QItem) (s : State) : State :=
  match i.work with
  | .record _ => { s with led := { s.led with drops := s.led.drops + 1 } }
  | .group g => { s with rmc := { s.rmc with resubmit := s.rmc.resubmit ++ [(i.cls, g)] } }
  | .burst | .trigger _ | .frame _ | .can _ | .tally _ | .lf _ | .coils _ | .coupled _ | .lane _ | .diag _ => s

/-- An accepted request takes its place. -/
def acceptItem (q : QueueId) (cls : Cls) (m : Master) (w : Work) (reserved : Bool) (v : Queue) (s : State) : State :=
  s.setQueue q { v with items := v.items ++ [⟨cls, m, reserved, s.now, w⟩] }

/-- A request reaches a queue (R18, R23, R30 to R33, R473), the fault of a refused P0 request aside. -/
def admitCore (q : QueueId) (cls : Cls) (m : Master) (w : Work) (s0 : State) : Admit × State :=
  let s := awake s0
  if q.block.any s.isIsolated then (.fault, s) else
  let v := s.found q
  match placeFor q cls (s.shedding cls) v, s.loserTo q cls m with
  | some reserved, _ => (.taken, acceptItem q cls m w reserved v s)
  | none, some i =>
    let u := { v with items := v.items.erase i }
    let t := loserGone i (refuse q i.cls (answered q i.cls u) u s)
    (.taken, acceptItem q cls m w i.reserved (t.queue q) t)
  | none, none => if answered q cls v then (.busy, refuse q cls true v s) else (.dropped, refuse q cls false v s)

/-- The next request of a queue, taken from it. -/
def popQueue (q : QueueId) (s : State) : Option (QItem × State) :=
  match popBest (s.queue q).items with
  | none => none
  | some (i, rest) => some (i, s.setQueue q { s.queue q with items := rest })

/-- A queue emptied. -/
def clearQueue (q : QueueId) (s : State) : State := s.setQueue q { s.queue q with items := [] }

/-! ### Retained-memory commits -/

/-- The pages a run of bytes touches. -/
def pagesOf (w : Nat × Bytes) : List Nat :=
  if w.2 = [] then [] else (List.range ((w.1 + w.2.length - 1) / 32 - w.1 / 32 + 1)).map (fun i => w.1 / 32 + i)

/-- The pages a group touches, ascending (R310). -/
def Group.pages (g : Group) : List Nat := (sortBy (fun a b => decide (a ≤ b)) (g.writes.flatMap pagesOf)).dedup

def Group.bytes (g : Group) : Nat := (g.writes.map (fun w => w.2.length)).sum

/-- A group starts from step 1 of R310. -/
def Commit.start (cls : Cls) (g : Group) (now : Nat) : Commit := ⟨cls, g, g.pages, [], 0, now⟩

/-- A request that would program bank 1 while a field-path group of the tag runs there (R377). -/
def State.bankHeld (s : State) (w : Work) : Bool :=
  match w with
  | .group g => s.tag.path.isSome && g.pages.any (fun p => p / 512 == 1)
  | _ => false

/-- An idle store takes the next request of the commit queue (R309, R317); an interrupted group goes first once no P0 request
waits (R311). -/
def rmcKick (s : State) : State :=
  if s.rmc.cur.isSome ∨ s.rmc.op.isSome ∨ s.rmc.stopped ∨ s.hh.restart.isSome ∨
      ((popBest (s.queue .commit).items).any (fun p => s.bankHeld p.1.work)) then s else
  let p0 := (s.queue .commit).items.any (fun i => i.cls == .p0)
  match s.rmc.resume, p0 with
  | c :: rest, false => { s with rmc := { s.rmc with cur := some { c with startAt := s.now }, resume := rest } }
  | _, _ =>
    match popQueue .commit s with
    | none => s
    | some (i, s) =>
      match i.work with
      | .group g => { s with rmc := { s.rmc with cur := some (Commit.start i.cls g s.now) } }
      | .tally t => { s with rmc := { s.rmc with op := some ⟨i.cls, t, none, none⟩ } }
      | _ => s

/-- A complete group reaches the commit queue (R307, R309). -/
def submitCore (cls : Cls) (g : Group) (s : State) : Admit × State :=
  match admitCore .commit cls .session (.group g) s with
  | (.taken, s) => (.taken, rmcKick s)
  | r => r

/-! ### Records -/

/-- The stamp of a record (R290, R291) over a body. -/
def State.mkRec (s : State) (typ : Nat) (body : Bytes) : Rec :=
  ⟨typ, s.unitNum, (if s.timeValid then 1 else 0) + (if s.bit Reg.CHRON_STAT_DEGR then 2 else 0) +
    (if s.isActing then 4 else 0), s.tsub, s.secs, fit 32 body⟩

/-- Bytes 4 to 43 of a record. -/
def Rec.tail (r : Rec) : Bytes :=
  be 1 r.typ ++ be 1 r.src ++ be 1 r.flags ++ be 1 r.tsub ++ be 4 r.secs ++ fit 32 r.body

/-- The record that bytes 4 to 43 spell. -/
def Rec.ofTail (b : Bytes) : Rec :=
  ⟨fieldBe b 0 1, fieldBe b 1 1, fieldBe b 2 1, fieldBe b 3 1, fieldBe b 4 4, sub b 8 32⟩

/-- The class in which a record joins the ingest queue (R472); FOB_EVENT by its event: 2, barred by strikes, is P0. -/
def Rec.cls (r : Rec) : Cls :=
  if r.typ = 0x14 ∨ r.typ = 0x11 ∨ r.typ = 0x12 ∨ r.typ = 0x13 then .p0
  else if r.typ = 0x15 then (if fieldBe r.body 0 1 = 2 then .p0 else .p3)
  else if r.typ = 0x41 ∨ r.typ = 0x31 ∨ r.typ = 0x30 ∨ r.typ = 0x40 ∨ r.typ = 0x43 ∨ r.typ = 0x42 ∨ r.typ = 0x10 ∨ r.typ = 0x04
  then .p1 else .p2

/-! ### Frames to the chain -/

/-- The bits of bytes, the most significant of each first: the order of the LF field and of the Sett chain (R7). -/
def msbBits (b : Bytes) : List Bool := b.flatMap (fun x => (List.range 8).map (fun i => x.getLsbD (7 - i)))

/-- The bytes of bits, the most significant of each byte first. -/
def bytesOfMsb : Nat → List Bool → Bytes
  | 0, _ => []
  | n + 1, l => BitVec.ofNat 8 ((l.take 8).foldl (fun v x => 2 * v + (if x then 1 else 0)) 0) :: bytesOfMsb n (l.drop 8)

/-- The bits of a frame in the order in which they leave after the start delimiter (R7, Table 4-1). -/
def settWire (f : SettFrame) : List Bool := msbBits (be 2 f.hdr ++ be 2 f.hcrc ++ be 4 f.ctr ++ f.payload ++ be 4 f.pcrc ++ f.mac)

/-- How long a frame is on the line at 20 Mbit/s, in ticks: 16 bits of preamble, two delimiters of four bit times each, which gives the
38.0 µs and 422 µs of R81 (R73). -/
def settTicks (f : SettFrame) : Nat := ((24 + (settWire f).length) * 4194304 + 19999999) / 20000000

/-- The header word of Table 4-2. -/
def settHdr (typ : Nat) (bc : Bool) (dst src : Nat) (cls : Cls) : Nat :=
  typ * 2048 + (if bc then 1024 else 0) + (dst - 1) % 16 * 64 + (src - 1) % 16 * 4 + cls.code

/-- Types sealed by R77. -/
def settSealed (typ : Nat) : Bool := typ == 0x0E || typ == 0x1B

/-- The seal of R77: AES-128-CTR under the key derived from slot 2 with label "SETT SEAL"; encryption and decryption are the
same. -/
def settCrypt (key : Bytes) (epoch src ctr : Nat) (payload : Bytes) : Bytes :=
  ctrCrypt (kdf key (ascii "SETT SEAL") [] 128) (be 8 epoch ++ be 1 src ++ [0] ++ be 4 ctr ++ [0, 0]) payload

/-- The MAC of R75 and R76. -/
def settMac (key : Bytes) (epoch hdr ctr : Nat) (payload : Bytes) : Bytes :=
  (hmac key (be 8 epoch ++ be 2 hdr ++ be 4 ctr ++ payload)).take 16

/-- A frame under a chain key and an epoch (Table 4-1). -/
def settBuild (key : Bytes) (epoch hdr ctr src : Nat) (payload : Bytes) : SettFrame :=
  let p := if settSealed (hdr / 2048) then settCrypt key epoch src ctr payload else payload
  ⟨hdr, crc16 (be 2 hdr), ctr, p, crc32c (be 4 ctr ++ p), settMac key epoch hdr ctr p⟩

/-- A frame joins the transmit queue (R81); a refused one is dropped and counted. -/
def settEmit (cls : Cls) (f : SettFrame) (s : State) : Admit × State :=
  match admitCore .settTx cls .sett (.frame f) s with
  | (.taken, t) => (.taken, { t with sett := { t.sett with emittedAt := s.now } })
  | (.busy, t) => (.busy, t.count Reg.SETT_DROP_V 1)
  | (.dropped, t) => (.dropped, t)
  | (.fault, t) => (.fault, t)

/-- A frame as it waits in the transmit queue: counter, seal, PCRC and MAC are made as it goes onto the line (`settLeave`). -/
def settDraft (hdr : Nat) (payload : Bytes) : SettFrame := ⟨hdr, crc16 (be 2 hdr), 0, payload, 0, []⟩

/-- A frame of the unit's own, under the epoch in force (R76); a unit without a chain key, or latched down, sends nothing
(R332, R357). -/
def settCore (typ : Nat) (bc : Bool) (dst : Nat) (cls : Cls) (payload : Bytes) (s : State) : Admit × State :=
  if (s.slotKey 2).isNone || s.sett.silent then (.taken, s)
  else settEmit cls (settDraft (settHdr typ bc dst s.unitNum cls) payload) s

/-- A frame under EPOCH = 0, with CTR 0 (R76). -/
def settSend0 (typ : Nat) (bc : Bool) (dst : Nat) (cls : Cls) (payload : Bytes) (s : State) : State :=
  match s.slotKey 2 with
  | none => s
  | some key =>
    if s.sett.silent then s else
    (settEmit cls (settBuild key 0 (settHdr typ bc dst s.unitNum cls) 0 (s.unitNum - 1) payload) s).2

/-! ### Ledger ingest -/

/-- An acting head keeps a record in its retained-memory buffer, at most 256 (R91, Table 13-1). -/
def actBuffer (r : Rec) (s : State) : Admit × State :=
  if 256 ≤ s.sett.actSeq then (.dropped, { s with sett := { s.sett with actDrops := s.sett.actDrops + 1 } })
  else
    let b := r.tail ++ be 2 s.sett.actSeq ++ [0, 0]
    let g : Group := ⟨[(0x7000 + 48 * s.sett.actSeq, b ++ be 4 (crc32c b))], .actBuf⟩
    (.taken, (submitCore .p2 g { s with sett := { s.sett with actSeq := s.sett.actSeq + 1 } }).2)

/-- A record leaves for the ledger: into the start-up buffer (R289), the ingest queue (R294), an acting head's buffer (R91),
or to the head as LEDGER_REC or into a satellite's 32 places (R286), with what became of it. -/
def recordRaw (cls : Cls) (r : Rec) (s : State) : Admit × State :=
  if s.isHead then
    if s.bit Reg.LDG_STAT_HALT then
      if s.led.opened = false then
        if s.boot.earlyRecs.length < 32 then (.taken, { s with boot := { s.boot with earlyRecs := s.boot.earlyRecs ++ [r] } })
        else (.dropped, { s with boot := { s.boot with earlyDrops := s.boot.earlyDrops + 1 } })
      else (.dropped, { s with led := { s.led with drops := s.led.drops + 1 } }.count Reg.LDG_DROP_V 1)
    else
      match admitCore .ingest cls .ledger (.record r) s with
      | (.dropped, t) => (.dropped, { t with led := { t.led with drops := t.led.drops + 1 } })
      | (.busy, t) => (.busy, { t with led := { t.led with drops := t.led.drops + 1 } })
      | (.fault, t) => (.fault, { t with led := { t.led with drops := t.led.drops + 1 } })
      | (.taken, t) => (.taken, t)
  else if s.isActing then actBuffer r s
  else if s.reachesHead then (.taken, (settCore 0x12 false 1 .p2 r.tail s).2)
  else if s.led.satHeld.length < 32 then (.taken, { s with led := { s.led with satHeld := s.led.satHeld ++ [r] } })
  else (.taken, { s with led := { s.led with satDrops := s.led.satDrops + 1 } }.count Reg.LDG_DROP_V 1)

/-! ### Faults -/

/-- SUP_FLT_LAST and SUP_FLT_CNT (R432). -/
def noteFault (action : Action) (code : Nat) (s : State) : State :=
  ((s.put Reg.SUP_FLT_LAST_ACTION action.code).put Reg.SUP_FLT_LAST_CODE code).count Reg.SUP_FLT_CNT_V 1

/-- The reporting state of a code. -/
def State.repOf (s : State) (code : Nat) : Option FltRep := s.hh.reports.find? (fun r => r.code == code)

/-- Whether a raising writes its record at once (R443): the first of its code, or after the 60 s with no record pending. -/
def State.recordDue (s : State) (code : Nat) : Bool :=
  match s.repOf code with
  | none => true
  | some r => s.after r.recAt 60000000 && r.since == 0

/-- The reporting states after a raising (R443). -/
def State.reportsAfter (s : State) (code detail : Nat) : List FltRep :=
  if s.recordDue code then ⟨code, s.now, 0, detail⟩ :: s.hh.reports.filter (fun r => r.code != code)
  else s.hh.reports.map (fun r => if r.code = code then { r with since := r.since + 1, detail := detail } else r)

/-- The BODY of a FAULT record (Table 12-3). -/
def faultBody (action : Action) (code occurrences detail : Nat) : Bytes :=
  be 2 code ++ be 1 action.code ++ [0] ++ be 2 (min occurrences 0xFFFF) ++ [0, 0] ++ be 4 detail

/-- A FAULT record is written, or sent to the head as FAULT_REPORT (R443). -/
def faultRecord (action : Action) (code occurrences detail : Nat) (s : State) : Admit × State :=
  let body := faultBody action code occurrences detail
  if s.isHead ∨ s.isActing ∨ !s.reachesHead then recordRaw .p1 (s.mkRec 0x41 body) s
  else (.taken, (settCore 0x13 false 1 .p1 body s).2)

/-- A block's classes in Table 20-4. -/
def State.essential (s : State) (b : Block) : Bool :=
  let iso := fun c => s.hh.iso.any (fun i => i.block == c && i.isolated)
  match b with
  | .lane0 => iso .lane1
  | .lane1 => iso .lane0
  | .can => s.isHead
  | .lfCommon | .fox | .den | .crypto | .rmc | .sett | .session | .zones | .fabric => true
  | .bankA | .bankB | .ct | .entropy | .ledger | .memPort | .hpt | .tag | .waymarks | .aon | .sup => false

/-- HEDGE restarts within the last 600 s (R441). -/
def State.recentRestarts (s : State) : List Nat := s.recent 600000000 s.hhAon.restarts

/-- The RESTART action: a restart begins, or is deferred with fault 0x1402 when three began within 600 s (R440, R441). Beside a HALT of
the same tick it does not run (R433). -/
def requestRestart (code : Nat) (s : State) : State :=
  if s.hh.restart.isSome ∨ s.hh.haltGroup.isSome ∨ s.hh.haltAt = some s.now then s
  else if 3 ≤ s.recentRestarts.length then
    let t := noteFault .log 0x1402 s
    { (if s.recordDue 0x1402 then (faultRecord .log 0x1402 1 (Config.faultDetail 0x1402 code).toNat t).2 else t) with
      hh := { s.hh with deferred := some (s.hh.deferred.getD code),
                        reports := s.reportsAfter 0x1402 (Config.faultDetail 0x1402 code).toNat } }
  else { s with hh := { s.hh with restart := some (code, s.now) },
                hhAon := { s.hhAon with outageFrom := some (s.hhAon.outageFrom.getD s.now) } }

/-- The HALT action: no profile is kept (Table 20-1), and a RESTART of the same tick does not run (R433). The unit is unavailable from here
on (R444). -/
def enterHalt (s : State) : State :=
  let t := { s with hh := { s.hh with haltAt := some s.now, restart := s.hh.restart.filter (fun r => r.2 != s.now) },
                    hhAon := { s.hhAon with outageFrom := some (s.hhAon.outageFrom.getD s.now) } }
  (t.setBit Reg.SUP_HH_STAT_HALT true).put Reg.SES_PROF_CUR 7

/-- What an action does at chip level when its fault is raised; ISOLATE needs the block (`isolate`), REDUCE and SHED are
applied by the monitors that raise them. Fault 0x4301 restarts through ENTROPY_SELF_RESTART (R356). -/
def runAction (action : Action) (code : Nat) (s : State) : State :=
  match action with
  | .restart => if code = 0x4301 then s else requestRestart code s
  | .halt => enterHalt s
  | .log | .isolate | .reduce | .shed => s

/-- A FAULT record that was itself dropped is noted under 0x5207 and not recorded again. -/
def noteDrop : Admit × State → State
  | (.dropped, u) => noteFault .log 0x5207 u
  | (_, u) => u

/-- The rail of Table 20-3 that reports through another chapter's code. -/
def faultRail (code : Nat) : Option Nat :=
  if code = 0x0401 ∨ code = 0x0402 then some 1
  else if code = 0x0404 then some 2
  else if code = 0x2107 ∨ code = 0x2108 then some 3
  else if code = 0x0403 then some 4
  else none

/-- Codes whose detail word a chapter states and the raising gives whole (R157, R331, R332, R355, R435 to R437). -/
def detailStated (code : Nat) : Bool :=
  (0x1101 ≤ code && code ≤ 0x1108) || (0x1201 ≤ code && code ≤ 0x1209) || (0x3101 ≤ code && code ≤ 0x3104) || code == 0x4102 ||
    code == 0x4103 || code == 0x4301

/-- The detail word: as stated; a rail and its reading in 1 % of nominal, which the spec gives for VSYS (Table 20-3, Table 19-2); free
otherwise (log 32). -/
def faultDetail (code info : Nat) : Nat :=
  if detailStated code then info
  else
    match faultRail code with
    | some r => r * 256 + (if r = 2 then min 255 (info * 100 / 3300) else (Config.faultDetail code info).toNat % 256)
    | none => (Config.faultDetail code info).toNat

/-- A restart has begun in an earlier tick. -/
def State.restarting (s : State) : Bool := s.hh.restart.any (fun r => r.2 != s.now)

/-- A fault is raised with an action: noted, recorded as R443 sets out, its action run. A fault raised during a restart's
steps counts in that restart's record and is otherwise lost (R440); those of the tick that asks for the restart are each recorded
(R433). -/
def raiseAs (action : Action) (code info : Nat) (s : State) : State :=
  let detail := faultDetail code info
  let t := noteFault action code s
  if s.restarting then { t with hhAon := { t.hhAon with pendingCount := t.hhAon.pendingCount + 1 } } else
  let t := { t with hh := { t.hh with reports := s.reportsAfter code detail } }
  let t := if s.recordDue code then noteDrop (faultRecord action code 1 detail t) else t
  runAction action code t

/-- A fault raised with the action of Table 20-5. -/
def raise (code detail : Nat) (s : State) : State := raiseAs (faultAction code) code detail s

/-- The requests queued in an isolated block complete with FAULT (R18). -/
def clearQueues (qs : List QueueId) (s : State) : State := qs.foldl (fun s q => clearQueue q s) s

/-- The requests that wait for a lane when it is isolated complete with FAULT (R18, Table 6-4). -/
def laneWaitersFault (n : Nat) (s : State) : State :=
  if (s.queue (.lane n)).items.isEmpty then s else s.put (Reg.AIR_LN_STAT_LAST n) 7

/-- The collector isolates a block (R18); one that reports within 60 s of its reset is not reset again, and an essential one escalates
(R439, R441). -/
def isolate (b : Block) (code : Nat) (s : State) : State :=
  if b.region < 2 ∨ b = .entropy ∨ s.isIsolated b then s else
  let again := s.hh.iso.any (fun i => i.block == b && (match i.resetAt with | some t => s.within t 60000000 | none => false))
  let rest := s.hh.iso.filter (fun i => i.block != b)
  let s := if b = .lane0 then laneWaitersFault 0 s else if b = .lane1 then laneWaitersFault 1 s else s
  let t := clearQueues b.queues
    { s with hh := { s.hh with iso := ⟨b, code, s.now, none, true, none, again⟩ :: rest } }
  let from_ := if s.essential b then some (t.hhAon.outageFrom.getD s.now) else t.hhAon.outageFrom
  let t := { t with hhAon := { t.hhAon with outageFrom := from_ } }
  if again && s.essential b then requestRestart code t else t

/-- A block reports a fault to its collector (R18, R29): raised with ISOLATE, and the block isolated; faults of the Always-on and
Supervision regions are LOG (R439). -/
def reportFault (b : Block) (code detail : Nat) (s : State) : State :=
  isolate b code (raiseAs (if b.region < 2 then .log else .isolate) code detail s)

/-- The code of a block for which no more specific one applies: 0xrF00 + n (R439). -/
def Block.faultCode (b : Block) : Nat := b.region * 0x1000 + 0xF00 + b.num

/-- The fault 0xr001 of a refused P0 request (R32). -/
def p0Fault (q : QueueId) (cls : Cls) (r : Admit × State) : Admit × State :=
  match r with
  | (.busy, t) => if cls = .p0 then (.busy, raise (q.region * 0x1000 + 1) q.idx t) else (.busy, t)
  | (.taken, t) => (.taken, t)
  | (.dropped, t) => (.dropped, t)
  | (.fault, t) => (.fault, t)

/-- A request reaches a queue, with the fault of a P0 request that is refused, or that loses its place (R23, R32). -/
def enqueue (q : QueueId) (cls : Cls) (m : Master) (w : Work) (s : State) : Admit × State :=
  let r := p0Fault q cls (admitCore q cls m w s)
  if r.1 = .taken ∧ ((awake s).loserTo q cls m).any (fun i => i.cls == .p0) then (r.1, raise (q.region * 0x1000 + 1) q.idx r.2) else r

/-- A complete group reaches the commit queue (R307, R309). -/
def submitGroup (cls : Cls) (g : Group) (s : State) : Admit × State := p0Fault .commit cls (submitCore cls g s)

/-- A frame of the unit's own for the chain (R76, R81). -/
def settSend (typ : Nat) (bc : Bool) (dst : Nat) (cls : Cls) (payload : Bytes) (s : State) : State :=
  (p0Fault .settTx cls (settCore typ bc dst cls payload s)).2

/-- A record for the ledger in its class (R472); a drop raises fault 0x5207 (R294). -/
def ledgerPutAs (cls : Cls) (r : Rec) (s : State) : State :=
  match p0Fault .ingest cls (recordRaw cls r s) with
  | (.dropped, t) => raise 0x5207 0 t
  | (_, t) => t

def ledgerPut (r : Rec) (s : State) : State := ledgerPutAs r.cls r s

/-- A record of a type with a body, stamped now. -/
def logRec (typ : Nat) (body : Bytes) (s : State) : State := ledgerPut (s.mkRec typ body) s

/-! ### Escorts -/

/-- The escorts of a datum (R26): one CRC-32C for each 64 bytes, the last for what remains. -/
def escortsOf (b : Bytes) : List Nat := (chunks 64 b).map crc32c

/-- A datum as it receives its escorts at an entry point. -/
def Datum.of (b : Bytes) : Datum := ⟨b, escortsOf b⟩

/-- The check of a datum's escorts (R27). -/
def Datum.holds (d : Datum) : Bool := d.escorts == escortsOf d.bytes

/-- The parity of a word (R15). -/
def wordParity (w : Word) : Bool := (List.range 32).foldl (fun p i => xor p (w.getLsbD i)) false

/-- The check of a cell's word. -/
def CellWord.holds (c : CellWord) : Bool := c.parity == wordParity c.word

/-- A datum enters the unit and receives its escorts (R26). -/
def enter (e : Entry) (b : Bytes) (s : State) : State :=
  { s with data := { s.data with last := (e, Datum.of b) :: s.data.last.filter (fun p => p.1 != e) } }

/-- ADC and sensor samples enter, each as a 32-bit number (R26). -/
def enterSamples (l : List Int) (s : State) : State := enter .sample (l.flatMap (fun x => be 4 (ofInt 32 x))) s

/-- The datum of an entry point, where its escorts hold (R27). -/
def State.entered (s : State) (e : Entry) : Option Bytes :=
  (s.data.last.find? (fun p => p.1 == e)).bind (fun p => if p.2.holds then some p.2.bytes else none)

/-- The escort mismatches of a block within the last 1 s. -/
def State.escTimes (s : State) (b : Block) : List Nat :=
  s.recent 1000000 (((s.hh.esc.find? (fun p => p.1 == b)).map (·.2)).getD [])

/-- The ADC reference is out of range: samples taken meanwhile are re-measured (R437, rail 14). -/
def State.refBad (s : State) : Bool := s.bitAt Reg.SUP_VMON_V 13

/-- A block recomputes after a mismatch: its region's bit of SUP_RGN_STAT.ESC (R40). -/
def recomputes (b : Block) (s : State) : State := s.setBitAt Reg.SUP_RGN_STAT_ESC b.region

/-- One more mismatch, or a failure that counts as one; the sixteenth within 1 s is reported (R29). -/
def escMismatch (b : Block) (s : State) : Bool × State :=
  let ts := s.now :: s.escTimes b
  (decide (16 ≤ ts.length), { s with hh := { s.hh with
    esc := (b, if 16 ≤ ts.length then [] else ts) :: s.hh.esc.filter (fun p => p.1 != b) } })

/-! ### Answers -/

/-- What a master is told of its access (R25, R33): the status and the words; the debug port a bus error in place of a status other
than OK; nothing where the access was dropped. -/
def answerTo (m : Master) (st : FabStatus) (ws : List Word) (s : State) : State :=
  let ws := if st = .ok then ws else []
  { s with outs := { s.outs with
    fabric := if st = .silent ∨ m = .debug ∧ st ≠ .ok then none else some (st, ws),
    busError := m == .debug && st != .ok && st != .silent } }

/-! ### Interrupts, the bus -/

/-- A source of HPT_IRQ becomes pending (R406). -/
def irq (f : Fld) (s : State) : State := s.setBit f true

/-- The CANIDS entry of a message code. -/
def State.canid (s : State) (code : Nat) : Option CanidE :=
  s.img.run.bind (fun i => i.canids.entries.find? (fun e => e.message == code))

/-- The class of a message (R382). -/
def canCls (code : Nat) : Cls :=
  if 0x30 ≤ code ∧ code ≤ 0x36 then .p0 else if code = 0x40 ∨ code = 0x20 then .p1 else .p3

/-- A message joins the transmit queue (R382); one without an entry, or after the J1939 address was lost, is not sent (R384,
R386), and those of an acting head whose port is not wired (R246). A satellite's port takes part in nothing but diagnostics. -/
def canSend (code : Nat) (data : Bytes) (s : State) : State :=
  if s.bit Reg.CAN_STAT_LOST ∨ (s.canid code).isNone ∨ s.isHead = false ∧ s.straps.canWired = false then s
  else (enqueue .canTx (canCls code) .session (.can ⟨code, data⟩) s).2

/-! ### Triggers -/

/-- A wake event during a sleep round is noted for the ring (R393). -/
def ringStir (s : State) : State := if s.bit Reg.RING_STAT_ROUND then { s with ring := { s.ring with wake := true } } else s

/-- A trigger joins the session event queue as a P0 event (R21, R32). -/
def fireTrigger (t : Trigger) (s : State) : Admit × State := enqueue .session .p0 .session (.trigger t) (ringStir s)

end Sys2Proof.Machine
end

