-- ==== Sys2Proof/Machine/Rand.lean ====
section
/-! DEFINITION. Random bytes for every consumer (R352 to R355). -/

namespace Sys2Proof.Machine

/-- What a request for random bytes gets. -/
inductive Drawn where
  | bytes (b : Bytes)
  | wait
  | fail
  deriving DecidableEq, Repr

/-- The DRBG is reseeded from 384 pool bits where the pool holds them; otherwise the reseed waits (R353). -/
def reseedNow (s : State) : State :=
  match s.ent.drbg with
  | none => s
  | some d =>
    if s.ent.pool.length < 48 then { s with ent := { s.ent with reseedDue := true } }
    else
      (({ s with ent := { s.ent with drbg := some (drbgReseed d (s.ent.pool.take 48)), pool := s.ent.pool.drop 48,
                                     reseedDue := false } }).count Reg.ENT_CNT_RESEEDS 1).setBit Reg.ENT_CTL_RESEED false

/-- One request of 1 to 64 bytes (R352, R353): a reseed runs first where 2^20 requests lie since the last, or prediction
resistance is asked for. -/
def randReq (pr : Bool) (n : Nat) (s : State) : Drawn × State :=
  if s.bit Reg.ENT_STAT_FAIL then (.fail, s)
  else
    match s.ent.drbg with
    | none => (.wait, s)
    | some d =>
      let t := if pr || decide (1048575 ≤ d.reqs) then reseedNow s else s
      match t.ent.reseedDue, t.ent.drbg with
      | false, some d =>
        let r := drbgGen d n
        (.bytes r.1, { t with ent := { t.ent with drbg := some r.2 } })
      | _, _ => (.wait, t)

def randMany (pr : Bool) : List Nat → State → Drawn × State
  | [], s => (.bytes [], s)
  | n :: ns, s =>
    match randReq pr n s with
    | (.bytes b, t) =>
      match randMany pr ns t with
      | (.bytes bs, u) => (.bytes (b ++ bs), u)
      | r => r
    | r => r

/-- `n` random bytes, in as many requests of at most 64 bytes as that takes. -/
def randBytes (pr : Bool) (n : Nat) (s : State) : Drawn × State :=
  randMany pr (List.replicate (n / 64) 64 ++ (if n % 64 = 0 then [] else [n % 64])) s

end Sys2Proof.Machine
end

