-- ==== Sys2Proof/Machine/Sign.lean ====
section
/-! DEFINITION. P-256 secrets and signatures drawn from the DRBG (R333, R345; log 9). -/

namespace Sys2Proof.Machine

/-- A scalar from 1 to n - 1 by rejection (R333): draws of 256 bits are repeated. The number of draws is bounded here, at a bound that a
working DRBG does not reach. -/
def drawScalarN (pr : Bool) : Nat → State → Drawn × State
  | 0, s => (.wait, s)
  | f + 1, s =>
    match randBytes pr 32 s with
    | (.bytes b, t) => if 1 ≤ beNat b ∧ beNat b < p256n then (.bytes b, t) else drawScalarN pr f t
    | r => r

def drawScalar (pr : Bool) (s : State) : Drawn × State := drawScalarN pr 16 s

/-- An ECDSA signature over a digest, its nonce from the DRBG (R345). -/
def signN (d : Nat) (digest : Bytes) : Nat → State → Drawn × State
  | 0, s => (.wait, s)
  | f + 1, s =>
    match drawScalar false s with
    | (.bytes k, t) =>
      match ecdsaSign d digest (beNat k) with
      | some sig => (.bytes sig, t)
      | none => signN d digest f t
    | r => r

def signWith (d : Nat) (digest : Bytes) (s : State) : Drawn × State := signN d digest 4 s

end Sys2Proof.Machine
end

