-- ==== Sys2Proof/Machine/Store.lean ====
section
/-! DEFINITION. Retained memory (13): the window buffer, the commit queue's programs, tally counters, what VBAT_FAIL stops. -/

namespace Sys2Proof.Machine

/-- An area of Table 13-1: its bounds, whether the window's masters may write it, the engines that may (R305). -/
structure Area where
  lo : Nat
  hi : Nat
  window : Bool
  engines : List Engine
  deriving DecidableEq, Repr

/-- Table 13-1 with the rights of R305. -/
def areas : List Area :=
  [⟨0x0000, 0x4000, false, [.den]⟩, ⟨0x4000, 0x4800, false, [.session]⟩, ⟨0x4800, 0x5000, false, [.tagPort, .ledger]⟩,
   ⟨0x5000, 0x6000, false, []⟩, ⟨0x6000, 0x6200, false, [.sett, .session]⟩, ⟨0x6200, 0x7000, false, []⟩,
   ⟨0x7000, 0xA000, false, [.sett, .session]⟩, ⟨0xA000, 0xA400, false, [.memPort]⟩, ⟨0xA400, 0xA420, false, [.memPort]⟩,
   ⟨0xA420, 0xA440, false, [.memPort]⟩, ⟨0xA440, 0xC000, false, [.memPort]⟩, ⟨0xC000, 0x10000, true, []⟩]

def areaOf (x : Nat) : Option Area := areas.find? (fun a => a.lo ≤ x && x < a.hi)

/-- Whether a master may read an offset through the window (R305); the leaves by the tag's rights (R371). -/
def windowReadable (m : Master) (x : Nat) : Bool :=
  if x < 0x4000 then false
  else if x < 0x4800 then m == .session
  else if x < 0x5000 then true
  else if x < 0x6000 then false
  else x < 0x10000

/-- Offsets that read 0 (Table 13-1). -/
def windowZero (x : Nat) : Bool := (0x6200 ≤ x && x < 0x7000) || (0xA440 ≤ x && x < 0xC000)

/-- The masters that write through the window (R307). -/
def windowMaster (m : Master) : Bool := m == .host || m == .can || m == .debug

/-- The window buffer emptied (R308). -/
def windowEmpty (aborted : Bool) (s : State) : State :=
  (({ s with rmc := { s.rmc with buf := [], err := none, aborted := aborted } }).put Reg.RMC_STAT_OWN 7).put Reg.RMC_RUN_V 0

/-- The first error a write to the run makes (R308). -/
def runError (m : Master) (start : Nat) (len : Nat) : Option RmcResult :=
  if 256 < len then some .bufferFull
  else
    match areaOf start with
    | none => some .area
    | some a =>
      if a.hi < start + len then some .area
      else if windowMaster m && a.window then none else some .denied

/-- A write into the retained window (R308): claims or extends the run. -/
def windowWrite (m : Master) (x : Nat) (b : Bytes) (s : State) : FabStatus × State :=
  let own := s.get Reg.RMC_STAT_OWN
  if windowMaster m = false then (.denied, s)
  else if own = 7 then
    let t := (s.put Reg.RMC_STAT_OWN m.id).put Reg.RMC_RUN_V x
    (.ok, { t with rmc := { t.rmc with buf := b, err := runError m x b.length, aborted := false, touchedAt := s.now } })
  else if own ≠ m.id then (.busy, s)
  else
    let start := s.get Reg.RMC_RUN_V
    let len := s.rmc.buf.length + b.length
    let e := if x ≠ start + s.rmc.buf.length then some RmcResult.sequence else runError m start len
    let err := match s.rmc.err with
      | some e' => some e'
      | none => e
    (.ok, { s with rmc := { s.rmc with buf := if err.isSome then s.rmc.buf else s.rmc.buf ++ b, err := err, touchedAt := s.now } })

/-- A window COMMIT completes with a result (RMC_STAT, HPT_IRQ.RMC). -/
def windowDone (r : RmcResult) (s : State) : State :=
  irq Reg.HPT_IRQ_RMC ((s.put Reg.RMC_STAT_RESULT r.code).setBit Reg.RMC_STAT_DONE true)

/-- COMMIT (R308, R309): the recorded error, or the run submitted as a P3 group. -/
def windowCommit (s : State) : State :=
  let empty := windowEmpty false s
  if s.get Reg.RMC_STAT_OWN = 7 then windowDone (if s.rmc.aborted then .aborted else .empty) empty
  else
    match s.rmc.err with
    | some e => windowDone e empty
    | none =>
      match submitGroup .p3 ⟨[(s.get Reg.RMC_RUN_V, s.rmc.buf)], .window⟩ empty with
      | (.taken, t) => t
      | (_, t) => windowDone .busy t

/-- A tally counter's value (R315): the base plus the programmed cells, one that VBAT_FAIL caught included (R471). -/
def TallyCtr.value (t : TallyCtr) : Nat := t.base + t.cells + (if t.marginal then 1 else 0)

def State.tally (s : State) (c : Nat) : TallyCtr := s.nv.tally.getD c TallyCtr.init

def State.setTally (s : State) (c : Nat) (t : TallyCtr) : State :=
  { s with nv := { s.nv with tally := s.nv.tally.set c t } }

/-- Who may change a counter (R316). -/
def tallyRight (by_ : TallyBy) (c : Nat) : Bool :=
  match by_ with
  | .engine .memPort => c == 0
  | .engine .session => c == 1
  | .engine .den => 2 ≤ c && c < 16
  | .engine .ledger => false
  | .engine .sett => false
  | .engine .tagPort => false
  | .master .session => c == 1
  | .master .host => 16 ≤ c && c < 32
  | .master .can => 16 ≤ c && c < 32
  | .master .debug => 16 ≤ c && c < 32
  | .master .ledger => false
  | .master .sett => false
  | .master .tag => false

/-- A request of RMC_TCMD completes (RMC_TSTAT). -/
def tcmdDone (c : Nat) (r : RmcResult) (s : State) : State :=
  let t := (((s.setBit Reg.RMC_TCMD_GO false).setBit Reg.RMC_TSTAT_BUSY false).put Reg.RMC_TSTAT_RESULT r.code).put
    Reg.RMC_TSTAT_CNT c
  irq Reg.HPT_IRQ_RMC (t.setBit Reg.RMC_TSTAT_DONE true)

/-- The value an operation aims at. -/
def TallyReq.target (t : TallyReq) (v : Nat) : Nat :=
  match t.raise with
  | none => v + 1
  | some x => x

/-- The next program of the tally operation in progress (R317, R318): a base page, a cell, or nothing left to do. -/
inductive TallyNext where
  | done | saturated | baseTo (v : Nat) | roll | waitErase | cell
  deriving DecidableEq, Repr

/-- What a counter needs next on the way to a goal. -/
def tallyNext (t : TallyCtr) (goal : Nat) : TallyNext :=
  if 0xFFFFFFFF < goal then .saturated
  else if goal ≤ t.value then .done
  else if 256 < goal - t.value then (if t.old = 0 then .baseTo goal else .waitErase)
  else if t.cells < 256 then .cell
  else if t.old ≠ 0 then .waitErase
  else .roll

/-- The base page of a counter (R315): base, generation, zeros. -/
def basePage (c base gen : Nat) : Nat × Bytes := (0xA000 + 32 * c, be 4 base ++ be 4 gen ++ zeros 24)

/-- An operation with nothing left to program and no engine to go on with ends at once (R317). -/
def tallyIdle (op : TallyRun) (r : RmcResult) (s : State) : State :=
  match op.req.owner with
  | .tcmd => tcmdDone op.req.ctr r { s with rmc := { s.rmc with op := none } }
  | _ => { s with rmc := { s.rmc with op := some { op with cellAt := none } } }

/-- The tally operation goes on: a cell program begins, or a base page is committed; the store takes up what follows. -/
def tallyGo : Nat → State → State
  | 0, s => s
  | f + 1, s =>
    match s.rmc.op with
    | none => s
    | some op0 =>
      let t := s.tally op0.req.ctr
      let goal := op0.goal.getD (op0.req.target t.value)
      let op := { op0 with goal := some goal, cellAt := none }
      match tallyNext t goal with
      | .cell => { s with rmc := { s.rmc with op := some { op with cellAt := some s.now } } }
      | .roll =>
        let g : Group := ⟨[basePage op.req.ctr (t.base + 256) (t.gen + 1)], .tallyRoll op.req.ctr⟩
        { s with rmc := { s.rmc with op := some op, cur := some (Commit.start op.cls g s.now) } }
      | .baseTo v =>
        let g : Group := ⟨[basePage op.req.ctr v (t.gen + 1)], .tallyBase op.req.ctr v⟩
        { s with rmc := { s.rmc with op := some op, cur := some (Commit.start op.cls g s.now) } }
      | .done => if op.req.owner = .tcmd then tallyGo f (rmcKick (tallyIdle op .ok s)) else tallyIdle op .ok s
      | .saturated => if op.req.owner = .tcmd then tallyGo f (rmcKick (tallyIdle op .saturated s)) else tallyIdle op .saturated s
      | .waitErase => { s with rmc := { s.rmc with op := some op } }

/-- The operation in progress goes on; the commit queue holds at most eight requests. -/
def tallyStart (s : State) : State := tallyGo 9 s

/-- Groups that lost their place, or that VBAT_FAIL abandoned, are submitted again (R23, R314). -/
def resubmitGroups (s : State) : State :=
  s.rmc.resubmit.foldl (fun s g => (submitGroup g.1 g.2 s).2) { s with rmc := { s.rmc with resubmit := [] } }

/-- A tally operation joins the commit queue (R309, R317). -/
def submitTally (cls : Cls) (t : TallyReq) (s : State) : Admit × State :=
  match enqueue .commit cls .session (.tally t) s with
  | (.taken, s) => (.taken, tallyStart (rmcKick s))
  | r => r

/-! ### Tag leaves (R363, R371, R372) -/

/-- The tick of the tag clock, 847.5 kHz, at a model time (R363). -/
def tagClock (t : Nat) : Nat := t * 847500 / 4194304

/-- A time lies in the present tick of the tag clock. -/
def State.thisTagClock (s : State) (t : Nat) : Bool := tagClock t == tagClock s.now

/-- The committed copy of a tag leaf in its store, at this instant. -/
def State.leafStored (s : State) (leaf : Nat) : Bytes :=
  if leaf < 0x80 then memGetN s.tag.sram (leaf * 64) 64 else memGetN s.nv.mem (0x4800 + (leaf - 0x80) * 64) 64

/-- The committed copies of leaves are about to be replaced: a read in the same tag clock still returns them (Table 16-6). -/
def leavesReplaced (leaves : List Nat) (s : State) : State :=
  let keep := s.tag.replaced.filter (fun x => s.thisTagClock x.2.2)
  let new := (leaves.filter (fun n => !keep.any (fun x => x.1 == n))).map (fun n => (n, s.leafStored n, s.now))
  { s with tag := { s.tag with replaced := new ++ keep } }

/-- The committed copy of a leaf as a reader gets it: the one before a commit in the same tag clock (Table 16-6). -/
def State.leafBytes (s : State) (leaf : Nat) : Bytes :=
  match s.tag.replaced.find? (fun x => x.1 == leaf && s.thisTagClock x.2.2) with
  | some x => x.2.1
  | none => s.leafStored leaf

/-- Pages written by a completed group reach the committed copies (R310), each commit counted (R320). -/
def applyShadow (shadow : List (Nat × Bytes)) (s0 : State) : State :=
  let s := leavesReplaced ((shadow.filter (fun p => 0x240 ≤ p.1 ∧ p.1 < 0x260)).map (fun p => 0x80 + (p.1 - 0x240) / 2)) s0
  { s with nv := { s.nv with
      mem := shadow.foldl (fun m p => memSetN m (p.1 * 32) p.2) s.nv.mem,
      wear := shadow.foldl (fun w p =>
        (p.1, ((w.find? (fun q => q.1 == p.1)).map (·.2)).getD 0 + 1) :: w.filter (fun q => q.1 != p.1)) s.nv.wear } }

/-- The 32 bytes a page program puts into the shadow copy: the group's bytes, and the committed value of every other byte at
that instant (R310). -/
def shadowPage (s : State) (g : Group) (p : Nat) : Bytes :=
  memGetN (g.writes.foldl (fun m w => memSetN m w.1 w.2) s.nv.mem) (p * 32) 32

/-- A P0 group waits while one of lower class is being committed (R311). -/
def p0Waits (s : State) (c : Commit) : Bool := c.cls != .p0 && (s.queue .commit).items.any (fun i => i.cls == .p0)

/-- The interrupted group is left without a marker and starts again later (R311). -/
def takeover (c : Commit) (s : State) : State :=
  tallyStart (rmcKick { s with rmc := { s.rmc with cur := none, resume := Commit.start c.cls c.group s.now :: s.rmc.resume } })

/-- A page program has ended and verified: the next page, or the marker, begins (R310), unless a P0 group takes over. -/
def pageDone (c : Commit) (p : Nat) (rest : List Nat) (s : State) : State :=
  let c' := { c with todo := rest, shadow := c.shadow ++ [(p, shadowPage s c.group p)], tries := 0, startAt := s.now }
  if p0Waits s c ∧ s.rmc.op.isNone then takeover c s else { s with rmc := { s.rmc with cur := some c' } }

/-- A failed verify: programmed again, at most twice (R310). -/
def reprogram (c : Commit) (s : State) : State :=
  ({ s with rmc := { s.rmc with cur := some { c with tries := c.tries + 1, startAt := s.now } } }).count Reg.RMC_ERR_REPROG 1

/-- The store is free again and goes on. -/
def storeNext (s : State) : State :=
  let t := { s with rmc := { s.rmc with cur := none } }
  if t.rmc.op.isSome then tallyStart t else tallyStart (rmcKick t)

/-- The tally operation ends; the store goes on. -/
def tallyEnd (s : State) : State := tallyStart (rmcKick { s with rmc := { s.rmc with op := none, cur := none } })

/-- VBAT_FAIL at the controller (R314, R471): the program in progress is stopped; a window group is aborted, internal groups
are kept to be submitted again; a cell being programmed counts from now on. -/
def storeFail (s : State) : State :=
  let s := match s.rmc.cur with
    | none => s
    | some c =>
      match c.group.owner with
      | .window => windowDone .aborted (windowEmpty true { s with rmc := { s.rmc with cur := none } })
      | .tallyRoll _ => { s with rmc := { s.rmc with cur := none } }
      | .tallyBase _ _ => { s with rmc := { s.rmc with cur := none } }
      | _ => { s with rmc := { s.rmc with cur := none, resubmit := s.rmc.resubmit ++ [(c.cls, c.group)] } }
  let s := match s.rmc.op with
    | some op => if op.cellAt.isSome then s.setTally op.req.ctr { s.tally op.req.ctr with marginal := true } else s
    | none => s
  { s with rmc := { s.rmc with stopped := true } }

/-- The fabric's read of a window byte (R305, R312): committed values only; the tally area is not addressable. -/
def windowByte (s : State) (x : Nat) : Byte :=
  if windowZero x then 0
  else if 0x4800 ≤ x ∧ x < 0x5000 then (s.leafBytes (0x80 + (x - 0x4800) / 64)).getD (x % 64) 0
  else memGet s.nv.mem x

/-- A read through the window gives its data escorts (R312), and is an access of the window buffer's owner (R308). -/
def windowAccess (m : Master) (b : Bytes) (s : State) : State :=
  enter .retained b (if s.get Reg.RMC_STAT_OWN = m.id then { s with rmc := { s.rmc with touchedAt := s.now } } else s)

/-- The physical page of a pair that holds a logical page's committed copy: each commit takes the other one (R320). -/
def State.committedSide (s : State) (page : Nat) : Nat := ((s.nv.wear.find? (fun q => q.1 == page)).map (·.2)).getD 0 % 2

/-- The next of a bank's 32 physical marker pages (R320). -/
def State.markerPage (s : State) (bank : Nat) : Nat := s.nv.markers.getD bank 0 % 32

/-- The marker of a group is programmed in the bank of its first page, in the bank's next marker page (R310, R320). -/
def markerUsed (g : Group) (s : State) : State :=
  { s with nv := { s.nv with markers := s.nv.markers.modify ((g.writes.map (·.1)).foldl min 0xFFFF / 16384) (· + 1) } }

end Sys2Proof.Machine
end

