-- ==== Sys2Proof/Machine/DenOps.lean ====
section
/-! DEFINITION. The Den (14): the checks on every use, reading and writing a slot, command results, the buffer. -/

namespace Sys2Proof.Machine

/-! ### Checks (R326, R327) -/

/-- The world of a master's request (R326). -/
def State.world (s : State) : Master → World
  | .session | .ledger | .sett => .internal
  | .can => if s.can.authed then .service else .vehicle
  | .host => if s.lc = 3 then .service else .vehicle
  | .debug => if s.lc = 3 then .service else .open_
  | .tag => .open_

def World.bit : World → Nat
  | .internal => 20 | .vehicle => 21 | .service => 22 | .open_ => 23

/-- LCS of a fixed slot (R325): PROVISIONED, FIELD and SERVICE; RETIRED too for slots 0, 3, 4 and 5. -/
def fixedLcs (n : Nat) : Nat := if n = 0 ∨ n = 3 ∨ n = 4 ∨ n = 5 then 0x1E else 0x0E

/-- The attribute word as stored (Table 14-3): ORIGIN set by the Den, EXPORT only for imported keys, LCS of a fixed slot fixed. -/
def attrStored (n attr origin : Nat) : Nat :=
  let lcs := if n < 7 then fixedLcs n else attr / 2 ^ 24 % 32
  (if origin = 1 then attr / 2 ^ 31 % 2 else 0) * 2 ^ 31 + origin * 2 ^ 29 + lcs * 2 ^ 24 + attr % 2 ^ 24

/-- Slot 2 as an import of slot 1 writes it (R333): its own label, which the spec leaves open, is free. -/
def chainSlot (master label free : Bytes) : Slot :=
  ⟨chainKey master label, attrStored 2 (2 ^ 20 + 2 ^ 13 + 0x0C * 64 + 3) 2, 5, 0, 32, free, 0⟩

/-- Slot 0 as the Den writes it (R322); its label is free. -/
def attestSlot (d : Nat) (free : Bytes) : Slot :=
  ⟨be 32 d, attrStored 0 (2 ^ 20 + 2 ^ 13 + 0x10 * 64 + 4) 2, 8, 0, 32, free, 0⟩

/-- A slot as written now (R330). -/
def State.slotWrite (s : State) (n : Nat) (t : Slot) : Nat × Bytes := (n * 64, s.storedSlot n { t with mode := s.slotMode })

/-- A derived slot found corrupted is recomputed from its source and committed again (R331). -/
def slotRepair (n : Nat) (s : State) : State :=
  let again := fun (t : Slot) (s : State) => (submitGroup .p1 ⟨[s.slotWrite n t], .denRepair n⟩ s).2
  if n = 0 then
    match freeBytes 16 s with
    | (free, t) => again (attestSlot t.attestKey free) t
  else if n = 2 then
    match s.slotKey 1, freeBytes 16 s with
    | some m, (free, t) => again (chainSlot m (t.slot 1).label free) t
    | none, _ => s
  else s

/-- A slot that CHECK or BOTH finds corrupted is marked unusable with fault 0x4102; a derived slot is repaired (R331). -/
def slotSweep (n : Nat) (s : State) : State :=
  if s.den.unusable.contains n ∨ slotCrcOk (s.slotBytes n) then s
  else
    let t := raise 0x4102 n { s with den := { s.den with unusable := n :: s.den.unusable } }
    slotRepair n (if n = 6 then { t with tagAon := { t.tagAon with key := none } } else t)

/-- Checks 1 to 8 of R327: types that fit, the USAGE bit, the engine that asks, the master, the world. -/
def State.keyRefusal (s : State) (n : Nat) (types : List Nat) (usage : Option Nat) (engine : Nat) (m : Master) (w : World) :
    Option DenResult :=
  let t := s.slot n
  if s.occupied n = false then some .empty
  else if s.den.unusable.contains n ∨ slotCrcOk (s.slotBytes n) = false then some .unusable
  else if types ≠ [] ∧ ¬ types.contains (attrType t.attr) then some .type
  else if usage.any (fun u => !attrBit t.attr u) then some .denied
  else if t.engine ≠ engine then some .denied
  else if attrBit t.attr (13 + m.id) = false then some .denied
  else if attrBit t.attr w.bit = false then some .denied
  else if attrBit t.attr (24 + s.lc) = false then some .denied
  else none

/-- A use checked (R327): a failure is counted in VLT_DENY; a corrupted slot is marked on the way (R331);
the slot read gets its escorts (R26). -/
def keyCheck (n : Nat) (types : List Nat) (usage : Option Nat) (engine : Nat) (m : Master) (w : World) (s : State) :
    Option DenResult × State :=
  let r := s.keyRefusal n types usage engine m w
  let t := if s.occupied n then slotSweep n s else s
  match r with
  | none => (none, enter .slot (t.slotBytes n) t)
  | some e => (some e, t.count Reg.VLT_DENY_V 1)

/-- The key bytes of a slot in use. -/
def State.keyBytes (s : State) (n : Nat) : Bytes := (s.slot n).key.take (s.slot n).len

/-- The public point of a TYPE 4 or 5 slot, x ‖ y (R324). -/
def State.publicPoint (s : State) (n : Nat) : Option Bytes :=
  let t := s.slot n
  if attrType t.attr = 4 then some (p256Public (beNat (fit 32 t.key)))
  else if attrType t.attr = 5 then (p256Y (beNat (fit 32 t.key)) (t.flags % 2)).map (fun y => fit 32 t.key ++ be 32 y)
  else none

/-! ### Results -/

/-- A Den command completes (R342): DONE, RESULT, the output in VLT_BUF; the claim on the buffer is over, its master still reads the
output (log 24). -/
def denDone (r : DenResult) (out : Bytes) (s : State) : State :=
  let t := { s with den := { s.den with claimed := false, wait := none, touchedAt := s.now,
                                        buf := if r = DenResult.ok ∧ out ≠ [] then memSetN [] 0 out else s.den.buf } }
  let t := ((t.setBit Reg.VLT_CMD_GO false).setBit Reg.VLT_STAT_BUSY false).put Reg.VLT_STAT_RESULT r.code
  irq Reg.HPT_IRQ_VLT ((t.put Reg.VLT_STAT_OUTLEN (if r = DenResult.ok then out.length else 0)).setBit Reg.VLT_STAT_DONE true)

/-- The result of a slot's commit (R342). -/
def rmcDen (r : RmcResult) : DenResult :=
  match r with
  | .ok => .ok
  | .busy => .busy
  | .bufferFull => .fail
  | .empty => .fail
  | .area => .fail
  | .denied => .fail
  | .aborted => .fail
  | .fail => .fail
  | .sequence => .fail
  | .saturated => .fail

/-- A command's commit group joins the queue at P3; a refusal ends the command BUSY. -/
def denCommit (writes : List (Nat × Bytes)) (owner : Owner) (s : State) : State :=
  match submitGroup .p3 ⟨writes, owner⟩ s with
  | (.taken, t) => t
  | (.busy, t) => denDone .busy [] t
  | (.dropped, t) => denDone .busy [] t
  | (.fault, t) => denDone .fail [] t

/-- A value drawn, or why there is none (R333, R354): a command that finds no output waits with its claim. -/
def denWait (c : DenCmd) (d : Drawn) (s : State) : State :=
  match d with
  | .fail => denDone .entropy [] s
  | .wait => { s with den := { s.den with wait := some c } }
  | .bytes _ => s

/-! ### Attributes (R324, R335, Table 14-5) -/

/-- Key lengths that fit a type (R324). -/
def typeLen (ty len : Nat) : Bool :=
  match ty with
  | 1 => len == 16
  | 2 => len == 32
  | 3 => 16 ≤ len && len ≤ 32
  | 4 => len == 32
  | 5 => len == 32
  | 6 => 1 ≤ len && len ≤ 32
  | _ => false

/-- TYPE, ENGINE, USAGE bits and the ways in of a fixed slot (Table 14-5): generated, imported. -/
def fixedSlot (n : Nat) : Option (Nat × Nat × Nat × Bool × Bool) :=
  [some (4, 8, 0x10, false, false), some (6, 1, 0x08, false, true), some (3, 5, 0x0C, false, false), some (4, 4, 0x10, true, false),
   some (5, 6, 0x40, false, true), some (3, 3, 0x04, true, true), some (1, 9, 0x07, false, true)].getD n none

/-- The attributes asked for fit the slot (R324, R325, Table 14-3); `imported` says which way the key comes. -/
def attrsFit (n attr engine flags len : Nat) (imported : Bool) : Bool :=
  attr / 16 % 4 == 0 && typeLen (attrType attr) len && decide (flags < 2) &&
    (match fixedSlot n with
     | some (ty, e, u, gen, imp) =>
       attrType attr == ty && engine == e && attr / 64 % 128 == u && (if imported then imp else gen) &&
         (attr / 2 ^ 24 % 32 == 0x0E || attr / 2 ^ 24 % 32 == fixedLcs n) && (!(n == 2 || n == 5) || len == 32)
     | none => engine == 0)

/-- The CH4410 window has slot 255 (R341). -/
def State.legacyOn (s : State) : Bool := (s.img.run.map (fun i => i.flags % 2 == 1)).getD false

/-- Why a slot may not be written or erased now (R325, R335, R341). -/
def State.slotRefusal (s : State) (n : Nat) : Option DenResult :=
  if n = 0 then some .state
  else if n < 7 then
    if s.lc = 1 ∨ s.lc = 3 ∧ s.den.unusable.contains n then none else some .state
  else if n < 16 then some .format
  else if n = 255 ∧ s.legacyOn then some .state
  else if 1 ≤ s.lc ∧ s.lc ≤ 3 then none else some .state

/-! ### The buffer (R342) -/

/-- VLT_BUF is claimed by another master's command in preparation or under way. -/
def State.denBusy (s : State) (m : Master) : Bool := s.den.claimed && s.get Reg.VLT_STAT_OWN != m.id

/-- A master takes the buffer: what a command of another left in it is gone. -/
def denClaim (m : Master) (s : State) : State :=
  let keep := s.get Reg.VLT_STAT_OWN == m.id
  ({ s with den := { s.den with claimed := true, touchedAt := s.now, buf := if keep then s.den.buf else [] } }).put Reg.VLT_STAT_OWN m.id

/-- A write into VLT_BUF. -/
def vltBufWrite (m : Master) (off : Nat) (b : Bytes) (s : State) : FabStatus × State :=
  if s.denBusy m then (.busy, s)
  else
    let t := denClaim m s
    (.ok, { t with den := { t.den with buf := memSetN t.den.buf off b } })

/-- `n` bytes of VLT_BUF from an offset. -/
def State.vltBuf (s : State) (off n : Nat) : Bytes := memGetN s.den.buf off n

end Sys2Proof.Machine
end

