-- ==== Sys2Proof/Machine/ImageOps.lean ====
section
/-! DEFINITION. The Vilman image (02): its layout, the tables it carries, verification of a slot. -/

namespace Sys2Proof.Machine

/-! ### Layout (R43, R44) -/

/-- A section: TYPE, SVER, byte 3, LEN, CRC, body. -/
structure Sect where
  typ : Nat
  sver : Nat
  zero : Nat
  len : Nat
  crc : Nat
  body : Bytes
  deriving DecidableEq, Repr

/-- `n` bytes from an offset of a slot; past the bytes it holds the array reads 0xFF. -/
def norSub (b : Bytes) (i n : Nat) : Bytes :=
  let x := (b.drop i).take n
  x ++ List.replicate (n - x.length) 0xFF

def norField (b : Bytes) (i n : Nat) : Nat := beNat (norSub b i n)

/-- Types of Table 2-2. -/
def knownTypes : List Nat :=
  [0x0001, 0x0002, 0x0010, 0x0011, 0x0012, 0x0013, 0x0020, 0x0030, 0x0040, 0x0041, 0x0050, 0x0051, 0x0060, 0x0070]

/-- The sections of the bytes between header and digest; none where LEN leaves them or padding is not zero. -/
def sectWalk : Nat → Bytes → Option (List Sect)
  | 0, b => if b = [] then some [] else none
  | f + 1, b =>
    if b = [] then some []
    else if b.length < 12 then none
    else
      let len := fieldBe b 4 4
      let pad := (4 - len % 4) % 4
      if b.length < 12 + len + pad ∨ sub b (12 + len) pad ≠ zeros pad then none
      else (sectWalk f (b.drop (12 + len + pad))).map (fun l => ⟨fieldBe b 0 2, fieldBe b 2 1, fieldBe b 3 1, len, fieldBe b 8 4, sub b 12 len⟩ :: l)

/-- Strictly ascending. -/
def ascending : List Nat → Bool
  | a :: b :: l => decide (a < b) && ascending (b :: l)
  | _ => true

/-- A section header that step 5 accepts (R44, R45). -/
def sectOk (x : Sect) : Bool :=
  x.zero == 0 && (if knownTypes.contains x.typ then x.sver == 1 else x.typ < 0x8000)

/-! ### Fields -/

def u8 (b : Bytes) (i : Nat) : Nat := fieldBe b i 1
def u16 (b : Bytes) (i : Nat) : Nat := fieldBe b i 2
def u32 (b : Bytes) (i : Nat) : Nat := fieldBe b i 4
def i16 (b : Bytes) (i : Nat) : Int := toInt 16 (fieldBe b i 2)
def i32 (b : Bytes) (i : Nat) : Int := toInt 32 (fieldBe b i 4)

/-- `n` bytes from an offset are zero. -/
def zeroAt (b : Bytes) (i n : Nat) : Bool := sub b i n == zeros n

/-- A value that its check lets through. -/
def checked {α : Type} (ok : Bool) (v : α) : Option α := if ok then some v else none

/-- All of a list, or none. -/
def allSome {α : Type} : List (Option α) → Option (List α)
  | [] => some []
  | none :: _ => none
  | some a :: l => (allSome l).map (fun r => a :: r)

/-- A repeated section of entries of one size: each entry read. -/
def entries {α : Type} (size : Nat) (b : Bytes) (f : Bytes → Option α) : Option (List α) :=
  if b.length % size = 0 then allSome ((chunks size b).map f) else none

/-- No two alike. -/
def distinct (l : List Nat) : Bool := decide l.Nodup

/-! ### The sections of Table 2-2 (R47, R48, R469, R470) -/

def unitsSec (b : Bytes) : Option (List UnitE) :=
  (entries 8 b (fun e => checked (u8 e 1 ≤ 1 && u8 e 4 < 16 && u8 e 5 ≤ 1 && zeroAt e 6 2 && 1 ≤ u8 e 0 && u8 e 0 ≤ 16)
    (⟨u8 e 0, u8 e 1, u16 e 2, u8 e 4, u8 e 5⟩ : UnitE))).bind (fun l =>
    checked (decide (1 ≤ l.length) && decide (l.length ≤ 16) && l.any (fun x => x.unit == 1) && distinct (l.map (·.unit))) l)

def profilesSec (b : Bytes) : Option Profiles :=
  if b.length ≠ 32 then none
  else
    (entries 4 (b.drop 12) (fun e => checked (u8 e 0 ≤ 2 && u8 e 1 ≤ 3 && u8 e 2 ≤ 100 && zeroAt e 3 1)
      (⟨u8 e 0, u8 e 1, u8 e 2⟩ : ProfE))).bind (fun l =>
      checked (1 ≤ u16 b 0 && u16 b 0 ≤ 100 && 10 ≤ u16 b 8 && u16 b 8 ≤ 3600 && zeroAt b 10 2)
        ⟨u16 b 0, u16 b 2, u16 b 4, u16 b 6, u16 b 8, l⟩)

def coilsSec (us : List UnitE) (b : Bytes) : Option (List CoilE) :=
  (entries 28 b (fun e => checked
    (u8 e 1 < 16 && us.any (fun x => x.unit == u8 e 0 && x.coils / 2 ^ u8 e 1 % 2 == 1) && u8 e 2 ≤ 3 && 1 ≤ u8 e 3 &&
      100000 ≤ u32 e 22 && u32 e 22 ≤ 150000 && zeroAt e 26 2)
    (⟨u8 e 0, u8 e 1, u8 e 2, u8 e 3, i32 e 4, i32 e 8, i32 e 12, i16 e 16, i16 e 18, i16 e 20, u32 e 22⟩ : CoilE))).bind
    (fun l => checked (distinct (l.map (fun x => x.unit * 16 + x.channel))) l)

/-- The bit of the aerial mask for a lane and an aerial. -/
def aerialBit (lane aerial : Nat) : Nat := lane * 2 + aerial

def aerialsSec (us : List UnitE) (b : Bytes) : Option (List AerialE) :=
  (entries 24 b (fun e => checked
    (u8 e 1 ≤ 1 && u8 e 2 ≤ 1 && us.any (fun x => x.unit == u8 e 0 && x.aerials / 2 ^ aerialBit (u8 e 1) (u8 e 2) % 2 == 1) &&
      zeroAt e 3 1 && zeroAt e 22 2)
    (⟨u8 e 0, u8 e 1, u8 e 2, i32 e 4, i32 e 8, i32 e 12, i32 e 16, i16 e 20⟩ : AerialE))).bind
    (fun l => checked (distinct (l.map (fun x => x.unit * 4 + aerialBit x.lane x.aerial)) &&
      l.all (fun x => l.all (fun y => x.unit != y.unit || x.lane != y.lane ||
        decide ((x.x - y.x) * (x.x - y.x) + (x.y - y.y) * (x.y - y.y) + (x.z - y.z) * (x.z - y.z) ≤ 361)))) l)

def rfSec (b : Bytes) : Option RfSec :=
  if b.length ≠ 502 then none
  else
    let bar := u8 b 5
    checked ((List.range 4).all (fun i => u8 b i ≤ 40) && u8 b 4 ≤ 1 && bar / 16 == 0 && bar / 2 % 4 == 0 && bar != 9 && zeroAt b 6 2 &&
      zeroAt b 74 2)
      ⟨(List.range 4).map (u8 b), u8 b 4, bar, (List.range 33).map (fun i => i16 b (8 + 2 * i)), sub b 76 426⟩

def crystalSec (us : List UnitE) (b : Bytes) : Option (List CrystalE) :=
  (entries 16 b (fun e => checked (zeroAt e 1 3 && zeroAt e 6 2) (⟨u8 e 0, i16 e 4, i32 e 8, i32 e 12⟩ : CrystalE))).bind (fun l =>
    checked (distinct (l.map (·.unit)) && us.all (fun x => l.any (fun c => c.unit == x.unit)) &&
      l.all (fun c => us.any (fun x => x.unit == c.unit))) l)

/-! Polygons -/

/-- Twice the signed area of a triangle. -/
def turnOf (p q r : Int × Int) : Int := (q.1 - p.1) * (r.2 - p.2) - (q.2 - p.2) * (r.1 - p.1)

/-- A point on the line of a segment lies between its ends. -/
def betweenEnds (p q r : Int × Int) : Bool :=
  decide (min p.1 q.1 ≤ r.1) && decide (r.1 ≤ max p.1 q.1) && decide (min p.2 q.2 ≤ r.2) && decide (r.2 ≤ max p.2 q.2)

/-- Two segments meet. -/
def segsMeet (a b c d : Int × Int) : Bool :=
  let s := fun (x : Int) => if 0 < x then (1 : Int) else if x < 0 then -1 else 0
  let o1 := s (turnOf a b c)
  let o2 := s (turnOf a b d)
  let o3 := s (turnOf c d a)
  let o4 := s (turnOf c d b)
  (o1 != o2 && o3 != o4) || (o1 == 0 && betweenEnds a b c) || (o2 == 0 && betweenEnds a b d) || (o3 == 0 && betweenEnds c d a) ||
    (o4 == 0 && betweenEnds c d b)

/-- A polygon that does not touch or cross itself: edges that share a vertex meet only there, the others not at all. -/
def polySimple (v : List (Int × Int)) : Bool :=
  let n := v.length
  let p := fun i => v.getD (i % n) (0, 0)
  (List.range n).all (fun i => p i != p (i + 1) &&
    !(turnOf (p i) (p (i + 1)) (p (i + 2)) == 0 && betweenEnds (p i) (p (i + 1)) (p (i + 2))) &&
    !(turnOf (p i) (p (i + 1)) (p (i + 2)) == 0 && betweenEnds (p (i + 1)) (p (i + 2)) (p i)) &&
    (List.range n).all (fun j => decide (j ≤ i + 1) || decide ((j + 1) % n = i) || !segsMeet (p i) (p (i + 1)) (p j) (p (j + 1))))

/-- The entries of ZONES, each of 12 + 8n bytes, up to the end of the body. -/
def zoneWalk : Nat → Bytes → Option (List ZoneE)
  | 0, b => if b = [] then some [] else none
  | f + 1, b =>
    if b = [] then some []
    else
      let n := u8 b 2
      if b.length < 12 + 8 * n ∨ n < 3 ∨ 16 < n then none
      else
        let verts := (List.range n).map (fun i => (i32 b (12 + 8 * i), i32 b (16 + 8 * i)))
        if zeroAt b 3 1 ∧ i32 b 4 < i32 b 8 ∧ polySimple verts then
          (zoneWalk f (b.drop (12 + 8 * n))).map (fun l => ⟨u8 b 0, u8 b 1, i32 b 4, i32 b 8, verts⟩ :: l)
        else none

def zonesSec (b : Bytes) : Option (List ZoneE) :=
  (zoneWalk 33 b).bind (fun l => checked (decide (1 ≤ l.length) && decide (l.length ≤ 32) && distinct (l.map (·.zone)) &&
    (l.filter (fun z => z.kind == 1)).length == 1) l)

def pollsSec (b : Bytes) : Option (List PollE) :=
  (entries 16 b (fun e =>
    let v := [u8 e 10, u8 e 11, u8 e 12]
    checked (50 ≤ u16 e 2 && u16 e 2 ≤ 60000 && u8 e 6 ≤ 16 && u8 e 7 ≤ 1 && (v.all (· < 8) || v.all (fun c => 8 ≤ c && c < 16)) &&
        zeroAt e 13 3)
      (⟨u8 e 0, u8 e 1, u16 e 2, u8 e 4, u8 e 5, u8 e 6, u8 e 7, u16 e 8, v⟩ : PollE))).bind
    (fun l => checked (decide (1 ≤ l.length) && decide (l.length ≤ 64)) l)

/-- The transmit bit of a message of Table 17-1, where the table lists it (R384). -/
def canTransmits (code : Nat) : Option Bool :=
  if code = 0x01 ∨ code = 0x02 ∨ code = 0x10 ∨ code = 0x11 then some false
  else if code = 0x03 ∨ code = 0x20 ∨ (0x30 ≤ code ∧ code ≤ 0x36) ∨ code = 0x40 ∨ code = 0x50 then some true
  else none

/-- The message rules of R384. -/
def canRules (flags : Nat) (l : List CanidE) : Bool :=
  ([0x01, 0x03, 0x10, 0x20, 0x36] ++ (if flags / 2 % 2 = 1 then [0x50] else [])).all (fun c => l.any (fun e => e.message == c)) &&
    l.all (fun e => (match canTransmits e.message with
      | some b => (e.flags / 4 % 2 == 1) == b
      | none => true) && (!(e.message == 0x36 || e.message == 0x34) || e.flags % 2 == 1))

def canidsSec (flags : Nat) (b : Bytes) : Option CanidsSec :=
  if b.length < 12 then none
  else
    (entries 12 (b.drop 12) (fun e => checked (u8 e 2 < 8 && zeroAt e 3 1 && u32 e 4 < 2 ^ 29 && zeroAt e 10 2)
      (⟨u16 e 0, u8 e 2, u32 e 4, u16 e 8⟩ : CanidE))).bind (fun l =>
      checked (u8 b 0 ≤ 3 && u8 b 1 ≤ 3 && zeroAt b 3 1 && distinct (l.map (·.message)) && canRules flags l)
        ⟨u8 b 0, u8 b 1, u8 b 2, sub b 4 8, l⟩)

def ringSec (b : Bytes) : Option RingSec :=
  let n := u8 b 3
  let nodes := (List.range n).map (fun i => u8 b (4 + i))
  checked (b.length == 4 + n && 2 ≤ n && n ≤ 32 && (nodes.filter (fun x => x == u8 b 2)).length == 1) ⟨u16 b 0, u8 b 2, nodes⟩

def waymarksSec (b : Bytes) : Option (List WaymarkE) :=
  (entries 16 b (fun e =>
    let trig := u8 e 1
    let act := u8 e 2
    checked (1 ≤ trig && trig ≤ 5 && 1 ≤ act && act ≤ 6 && u8 e 3 ≤ 1 && (trig != 1 || 1 ≤ u32 e 4) &&
        (trig == 3 || trig == 4 || u32 e 8 == 0) && (act == 2 || act == 6 || u32 e 12 == 0) && (act != 6 || u32 e 12 ≤ 4))
      (⟨u8 e 0, trig, act, u8 e 3, u32 e 4, u32 e 8, u32 e 12⟩ : WaymarkE))).bind (fun l => checked (decide (l.length ≤ 64)) l)

def motionSec (b : Bytes) : Option MotionSec :=
  checked (b.length == 8 && decide (2000 ≤ (i32 b 0).natAbs) && decide ((i32 b 0).natAbs ≤ 50000) && u8 b 4 ≤ 1 && 5 ≤ u8 b 5 &&
    u8 b 5 ≤ 200 && zeroAt b 6 2) ⟨i32 b 0, u8 b 4, u8 b 5⟩

def fobpolSec (cs : List CoilE) (b : Bytes) : Option FobpolSec :=
  let holders := cs.filter (fun c => c.role == 2)
  checked (b.length == 8 && u8 b 0 ≤ 1 && u8 b 1 < 4 && u8 b 6 < 32 && zeroAt b 7 1 &&
    (u8 b 0 == 0 || (holders.length == 1 && holders.all (fun c => c.unit == 1)))) ⟨u8 b 0, u8 b 1, u16 b 2, u16 b 4, u8 b 6⟩

def systemSec (b : Bytes) : Option SystemSec :=
  checked (b.length == 8 && 1 ≤ u8 b 0 && u8 b 0 ≤ 3 && u8 b 1 ≤ 14 && 1 ≤ u8 b 2 && u8 b 2 ≤ 8 && u8 b 3 ≤ 1 && zeroAt b 6 2)
    ⟨u8 b 0, u8 b 1, u8 b 2, u8 b 3, u16 b 4⟩

/-- The body of a section type. -/
def sectBody (l : List Sect) (typ : Nat) : Option Bytes := (l.find? (fun x => x.typ == typ)).map (·.body)

/-- The tables of an image whose content meets every limit of step 10. -/
def imageContent (b : Bytes) (l : List Sect) : Option Image :=
  let sec := sectBody l
  let flags := norField b 0x16 2
  (sec 0x0001).bind (fun x1 => (unitsSec x1).bind (fun us =>
  (sec 0x0002).bind (fun x2 => (profilesSec x2).bind (fun ps =>
  (sec 0x0010).bind (fun x3 => (coilsSec us x3).bind (fun cs =>
  (sec 0x0011).bind (fun x4 => (aerialsSec us x4).bind (fun as_ =>
  (sec 0x0012).bind (fun x5 => (rfSec x5).bind (fun rf =>
  (sec 0x0013).bind (fun x6 => (crystalSec us x6).bind (fun cr =>
  (sec 0x0020).bind (fun x7 => (zonesSec x7).bind (fun zs =>
  (sec 0x0030).bind (fun x8 => (pollsSec x8).bind (fun po =>
  (sec 0x0040).bind (fun x9 => (canidsSec flags x9).bind (fun ca =>
  (sec 0x0041).bind (fun x10 => (ringSec x10).bind (fun ri =>
  (waymarksSec ((sec 0x0050).getD [])).bind (fun wm =>
  (sec 0x0051).bind (fun x11 => (motionSec x11).bind (fun mo =>
  (sec 0x0060).bind (fun x12 => (fobpolSec cs x12).bind (fun fo =>
  (sec 0x0070).bind (fun x13 => (systemSec x13).map (fun sy =>
    let size := norField b 0x0C 4
    { version := norField b 0x08 4, size := size, arb := norField b 0x10 4, flags := flags, vehicle := norField b 0x18 4,
      built := norField b 0x20 4, perso := norSub b 0x24 8, digest := norSub b (size - 96) 32, units := us, profiles := ps, coils := cs,
      aerials := as_, rf := rf, crystal := cr, zones := zs, polls := po, canids := ca, ring := ri, waymarks := wm, motion := mo,
      fobpol := fo, system := sy })))))))))))))))))))))))))))

/-! ### Verification (R49, R50) -/

/-- The result of a verification: the rejection code of Table 2-4, or the image. -/
inductive Verdict where
  | ok (i : Image)
  | rejected (code : Nat)
  deriving DecidableEq, Repr

/-- The digest is right, and the signature verifies against slot 4 (R46). -/
def imageSigned (b : Bytes) (size : Nat) (s : State) : Option Nat × State :=
  let d := sha256 (norSub b 0 (size - 96))
  if d ≠ norSub b (size - 96) 32 then (some 0x09, s)
  else
    match keyCheck 4 [5] (some 12) 6 .session .internal s with
    | (some _, t) => (some 0x0A, t)
    | (none, t) => if (t.publicPoint 4).any (fun p => ecdsaVerify p d (norSub b (size - 64) 64)) then (none, t) else (some 0x0A, t)

/-- Steps 1 to 10 of R49 on the bytes of a slot, or of an image received over the chain (R50). -/
def verifyImage (b : Bytes) (s : State) : Verdict × State :=
  let magic := norField b 0 4
  let size := norField b 0x0C 4
  if magic = 0xFFFFFFFF then (.rejected 0x01, s)
  else if magic ≠ 0x564C4D4E then (.rejected 0x02, s)
  else if norField b 0x04 2 ≠ 1 ∨ norField b 0x06 2 ≠ 0x40 ∨ norField b 0x1F 1 ≠ 0 ∨ norField b 0x2C 20 ≠ 0 ∨ 4 ≤ norField b 0x16 2 then
    (.rejected 0x03, s)
  else if size < 0xA0 ∨ 0x100000 < size then (.rejected 0x04, s)
  else if norField b 0x1C 2 ≠ 0x9680 ∨ s.get Reg.DEVICE_ID_ID % 256 < norField b 0x1E 1 then (.rejected 0x05, s)
  else
    match sectWalk 65 (norSub b 64 (size - 160)) with
    | none => (.rejected 0x08, s)
    | some l =>
      if l.length ≠ norField b 0x14 2 ∨ l = [] ∨ 64 < l.length ∨ ascending (l.map (·.typ)) = false ∨ l.all sectOk = false then
        (.rejected 0x08, s)
      else if l.any (fun x => x.crc != crc32c x.body) then (.rejected 0x07, s)
      else
        match imageSigned b size s with
        | (some c, t) => (.rejected c, t)
        | (none, t) =>
          if norField b 0x10 4 < (t.tally 0).value then (.rejected 0x0B, t)
          else
            match imageContent b l with
            | some i => (.ok i, t)
            | none => (.rejected 0x0C, t)

/-- The bytes of a slot of the NOR. -/
def State.norBytes (s : State) (slotB : Bool) : Bytes := if slotB then s.straps.norB else s.straps.norA

/-- A slot of the NOR verified (R49): its bytes enter with their escorts (R26). `held` says whether every read held, at once or within its
recomputations; a NOR that answers no SFDP is not readable (R41). -/
def verifySlot (slotB held : Bool) (s : State) : Verdict × State :=
  let b := s.norBytes slotB
  if held = false ∨ s.straps.norPresent = false then (.rejected 0x06, s) else verifyImage b (enter .nor b s)

/-! ### The slot selector (R51) and the last-run page (R474) -/

/-- The slot selector. -/
structure Selector where
  active : Nat
  pending : Nat
  trial : Nat
  tries : Nat
  deriving DecidableEq, Repr

/-- The selector's page, one byte a field (log 29); a page never written reads as its blank value. -/
def State.selector (s : State) : Selector :=
  let b := memGetN s.nv.mem 0xA400 4
  ⟨fieldBe b 0 1 % 2, fieldBe b 1 1 % 3, fieldBe b 2 1 % 2, fieldBe b 3 1 % 4⟩

def Selector.write (x : Selector) : Nat × Bytes := (0xA400, be 1 x.active ++ be 1 x.pending ++ be 1 x.trial ++ be 1 x.tries ++ zeros 28)

/-- A page written at a start-up, or by a group that has completed: the committed copy takes it (R64). -/
def putPage (w : Nat × Bytes) (s : State) : State := applyShadow ((pagesOf w).map (fun p => (p, sub w.2 (p * 32 - w.1) 32))) s

/-- An identifier of CANIDS, and its flags. -/
def Image.can (i : Image) (code : Nat) : Option CanidE := i.canids.entries.find? (fun e => e.message == code)

/-- The last-run page of an image (R474). -/
def lastRunBytes (i : Image) : Bytes :=
  let id := fun c => ((i.can c).map (·.ident)).getD 0
  let fl := fun c => ((i.can c).map (·.flags)).getD 0
  let b := be 4 i.vehicle ++ be 1 i.canids.arb ++ be 1 i.canids.data ++ be 1 (fl 1) ++ be 1 (fl 3) ++ be 4 (id 1) ++ be 4 (id 2) ++ be 4 (id 3) ++
    zeros 8
  b ++ be 4 (crc32c b)

/-- The vehicle ID in force: the running image's, or the last-run page's (R474). -/
def State.vehicleId (s : State) : Nat :=
  match s.img.run with
  | some i => i.vehicle
  | none => (s.lastRun.map (fun b => fieldBe b 0 4)).getD 0

/-- The identifier and flags of a diagnostic message in force (R474). -/
def State.diagIdent (s : State) (code : Nat) : Option (Nat × Nat) :=
  match s.img.run with
  | some i => (i.can code).map (fun e => (e.ident, e.flags))
  | none =>
    match s.lastRun with
    | some b =>
      if code = 2 ∧ fieldBe b 12 4 = 0 then none
      else some (fieldBe b (if code = 1 then 8 else if code = 2 then 12 else 16) 4, fieldBe b (if code = 3 then 7 else 6) 1)
    | none => some (if code = 1 then 0x18DA96F1 else if code = 2 then 0x18DB33F1 else 0x18DAF196, 0)

/-- Where MEM_IMG_STAT keeps a slot's rejection code. -/
def rejFld (slotB : Bool) : Fld := if slotB then Reg.MEM_IMG_STAT_REJB else Reg.MEM_IMG_STAT_REJA

end Sys2Proof.Machine
end

