-- ==== Sys2Proof/Machine/DiagOps.lean ====
section
/-! DEFINITION. Diagnostic messages (R396, R397): responses and the frames that carry them, the command port's messages. -/

namespace Sys2Proof.Machine

/-- The lengths of an FD frame's data field. -/
def fdLen (n : Nat) : Nat := ([8, 12, 16, 20, 24, 32, 48, 64].find? (fun x => decide (n ≤ x))).getD 64

/-- A frame's data padded with 0xCC (R396). -/
def padCC (fd : Bool) (b : Bytes) : Bytes := b ++ List.replicate ((if fd then fdLen b.length else 8) - b.length) 0xCC

/-- DIAG_RESP is sent as FD frames. -/
def State.diagFd (s : State) : Bool := (s.diagIdent 3).any (fun p => p.2 % 2 == 1)

/-- One frame of DIAG_RESP joins the transmit queue at P3 (R382); nothing is sent once the J1939 address is lost (R386). -/
def diagFrame (b : Bytes) (s : State) : State :=
  if s.bit Reg.CAN_STAT_LOST ∨ (s.diagIdent 3).isNone then s
  else (enqueue .canTx .p3 .can (.can ⟨3, padCC s.diagFd b⟩) s).2

/-- A response is given: in one frame, or a first frame whose rest waits for flow control (R396). -/
def diagRespond (m : Bytes) (s : State) : State :=
  let t := { s with outs := { s.outs with diag := (m :: s.outs.diag).take 8 } }
  let fd := s.diagFd
  if m.length ≤ 7 then diagFrame (be 1 m.length ++ m) t
  else if fd ∧ m.length ≤ 62 then diagFrame (0 :: be 1 m.length ++ m) t
  else
    let k := if fd then 62 else 6
    let t := { t with can := { t.can with tx := some ⟨m.drop k, 1, s.now, 0, 0, none⟩ } }
    diagFrame (be 2 (0x1000 + m.length) ++ m.take k) t

/-- The next consecutive frame of a response goes once its last one has left, as long as the receiver's flow control lets
it, and no sooner than its STmin (R396). -/
def diagPump (s : State) : State :=
  match s.can.tx with
  | none => s
  | some x =>
    let queued := (s.queue .canTx).items.any (fun i => match i.work with
      | .can m => m.code == 3
      | _ => false)
    if x.block = 0 ∨ queued ∨ x.last.any (fun t => !s.after t x.stmin) then s
    else
      let k := if s.diagFd then 63 else 7
      let left := if x.rest.length ≤ k then none else some ⟨x.rest.drop k, (x.sn + 1) % 16, s.now, x.block - 1, x.stmin, some s.now⟩
      diagFrame (be 1 (0x20 + x.sn) ++ x.rest.take k) { s with can := { s.can with tx := left } }

/-- A positive response. -/
def diagPos (sid : Nat) (data : Bytes) (s : State) : State := diagRespond (be 1 (sid + 0x40) ++ data) s

/-- A negative response. -/
def diagNeg (sid nrc : Nat) (s : State) : State := diagRespond (0x7F :: be 1 sid ++ be 1 nrc) s

/-- A routine's status record is returned, and the service goes on (R401). -/
def routineOk (rid : Nat) (status : Bytes) (s : State) : State :=
  diagPos 0x31 (1 :: be 2 rid ++ status) { s with can := { s.can with routine := none } }

/-- A routine ends with a negative response. -/
def routineFail (nrc : Nat) (s : State) : State := diagNeg 0x31 nrc { s with can := { s.can with routine := none } }

/-- A complete message of the command port. -/
def diagMsg (i : QItem) : Option Bytes :=
  match i.work with
  | .diag [] => none
  | .diag m => some m
  | _ => none

/-- The oldest complete message of the command port, when its last frame ended, and the queue without it; none while an answer is still
to come or on its way. -/
def diagPop (s : State) : Option (Bytes × Nat × State) :=
  if s.can.routine.isSome ∨ s.can.tx.isSome then none
  else
    let q := s.queue .canCmd
    let full := fun (i : QItem) => (diagMsg i).isSome
    match q.items.find? full with
    | some i => (diagMsg i).map (fun m => (m, i.at_, s.setQueue .canCmd { q with items := q.items.eraseP full }))
    | none => none

end Sys2Proof.Machine
end

