-- ==== Sys2Proof/Machine/Dsp.lean ====
section
/-! DEFINITION. Complex numbers and the functions the air chapters compute with: phasors, angles, roots, decibels. They are computed to
2^-40 or better, since the spec gives the formulas and no word length (log 98). -/

namespace Sys2Proof.Machine

/-! ### Complex numbers -/

def Cx.zero : Cx := ⟨0, 0⟩
def Cx.add (a b : Cx) : Cx := ⟨a.re + b.re, a.im + b.im⟩
def Cx.mul (a b : Cx) : Cx := ⟨a.re * b.re - a.im * b.im, a.re * b.im + a.im * b.re⟩
def Cx.conj (a : Cx) : Cx := ⟨a.re, -a.im⟩
def Cx.scale (r : Rat) (a : Cx) : Cx := ⟨r * a.re, r * a.im⟩

/-- |a|². -/
def Cx.power (a : Cx) : Rat := a.re * a.re + a.im * a.im

def cxSum (l : List Cx) : Cx := l.foldl Cx.add Cx.zero

/-- Term by term mean of lists of one length. -/
def cxMeans (ls : List (List Cx)) : List Cx :=
  (List.range (ls.headD []).length).map (fun i => (cxSum (ls.map (fun l => l.getD i Cx.zero))).scale (1 / (ls.length : Rat)))

/-- |x|. -/
def absRat (x : Rat) : Rat := if x < 0 then -x else x

def meanRat (l : List Rat) : Rat := l.sum / (l.length : Rat)

/-! ### Fixed point with 48 fraction bits -/

/-- 1 in fixed point. -/
def fxOne : Int := 2 ^ 48

/-- 2π in fixed point. -/
def fxTau : Int := 1768559438007110

/-- A rational in fixed point, rounded down. -/
def fx (r : Rat) : Int := (r * (fxOne : Rat)).floor

def fxMul (a b : Int) : Int := a * b / fxOne

/-- Terms t - t·a²/((i+1)(i+2)) + … of a cosine or sine. -/
def cosSum (sq : Int) : Nat → Nat → Int → Int
  | 0, _, _ => 0
  | n + 1, i, t => t + cosSum sq n (i + 2) (-(fxMul t sq / (((i + 1) * (i + 2) : Nat) : Int)))

/-- Terms t - t·x²·… of an arctangent: x - x³/3 + x⁵/5 - …, from a power p = ±x^i. -/
def atanSum (sq : Int) : Nat → Nat → Int → Int
  | 0, _, _ => 0
  | n + 1, i, p => p / (i : Int) + atanSum sq n (i + 2) (-(fxMul p sq))

/-- exp(j·2π·t), t in turns. -/
def phasor (t : Rat) : Cx :=
  let f := t - (t.floor : Rat)
  let q := (4 * f).floor
  let a := fxMul fxTau (fx (f - (q : Rat) / 4))
  let sq := fxMul a a
  let c : Rat := (cosSum sq 12 0 fxOne : Rat) / (fxOne : Rat)
  let s : Rat := (cosSum sq 12 1 a : Rat) / (fxOne : Rat)
  if q = 0 then ⟨c, s⟩ else if q = 1 then ⟨-s, c⟩ else if q = 2 then ⟨-c, -s⟩ else ⟨s, -c⟩

/-- The arctangent of a ratio from 0 to 1, in turns. -/
def atanTurn (r : Rat) : Rat :=
  let at_ := fun (x : Rat) => ((atanSum (fxMul (fx x) (fx x)) 25 1 (fx x) : Int) : Rat) / (fxTau : Rat)
  if 5 * r ≤ 2 then at_ r else 1 / 8 + at_ ((r - 1) / (r + 1))

/-- The argument of a complex number in turns, from above -1/2 to 1/2; 0 for the number 0. -/
def Cx.arg (a : Cx) : Rat :=
  let x := absRat a.re
  let y := absRat a.im
  if x = 0 ∧ y = 0 then 0
  else
    let q := if y ≤ x then atanTurn (y / x) else 1 / 4 - atanTurn (x / y)
    let h := if a.re < 0 then 1 / 2 - q else q
    if a.im < 0 then -h else h

/-- An angle in turns brought to within half a turn of zero. -/
def wrapTurn (t : Rat) : Rat := t - ((t + 1 / 2).floor : Rat)

/-- The square root of a rational that is not negative, in steps of 2^-48. -/
def sqrtRat (r : Rat) : Rat := ((r.num.toNat * 2 ^ 96 / r.den).sqrt : Rat) / (fxOne : Rat)

def Cx.abs (a : Cx) : Rat := sqrtRat a.power

/-- a / |a|; 1 for the number 0. -/
def Cx.unit (a : Cx) : Cx := if a.abs = 0 then ⟨1, 0⟩ else a.scale (1 / a.abs)

/-- The arcsine in degrees. -/
def asinDeg (s : Rat) : Rat := 360 * (Cx.mk (sqrtRat (1 - s * s)) s).arg

/-! ### Decibels -/

/-- The largest multiple of 2^-40 up to 2 whose k-th power does not pass v. -/
def rootOf (k : Nat) (v : Rat) : Rat :=
  let fits := fun (a : Nat) => decide ((a : Rat) ^ k ≤ v * (2 : Rat) ^ (40 * k))
  let a : Nat := (List.range 41).foldl (fun (a : Nat) i => if fits (a + 2 ^ (40 - i)) then a + 2 ^ (40 - i) else a) 0
  (a : Rat) / (2 : Rat) ^ 40

/-- The amplitude factor of an attenuation in dB: 10^(-n/20). -/
def attenuation (n : Nat) : Rat := rootOf 20 (1 / (10 : Rat) ^ n)

/-- A ratio of powers in units of 0.25 dB, rounded down, from 0 to 255. -/
def quarterDb (r : Rat) : Nat :=
  if r ≤ 0 then 0 else ((List.range 255).filter (fun q => decide (10 ^ (q + 1) * r.den ^ 40 ≤ r.num.toNat ^ 40))).length

end Sys2Proof.Machine
end

