-- ==== Sys2Proof/Machine/Wave.lean ====
section
/-! DEFINITION. The air waveform and frames (07): the 9-bit generator, header, payload processing, coding, spreading, durations,
and the receive checks of Table 7-9. -/

namespace Sys2Proof.Machine

/-! ### The 9-bit generator (R161) -/

/-- `count` outputs of the 9-bit generator from a state. -/
def gen9 : Nat → Nat → List Bool
  | 0, _ => []
  | n + 1, st => (st / 256 % 2 == 1) :: gen9 n ((st * 2) % 512 + ((st / 256 + st / 16) % 2))

/-- The seeds of Table 7-2. -/
def syncSeed : Nat → Nat
  | 1 => 0x1FF | 2 => 0x0F0 | 3 => 0x133 | _ => 0x0AA

def longSeed : Nat := 0x1A5
def pilotSeed : Nat := 0x0C7
def spreadSeed : Nat := 0x155

/-- A bit as +1 or -1. -/
def sign (b : Bool) : Int := if b then -1 else 1

/-- The sync code of a class, in ascending order of its 212 tones (R163). -/
def syncCode (c : Nat) : List Int := (gen9 212 (syncSeed c)).map sign

/-- The long symbol on used tones 0 to 851 (R168). -/
def longSymbol : List Int := (gen9 852 longSeed).map sign

/-- Pilot value of index i in data symbol n (R169). -/
def pilot (i n : Nat) : Int := sign ((gen9 511 pilotSeed).getD ((i + 7 * n) % 511) false)

/-- Short symbols of the sync field: those with the code, those with the turn (R164). -/
def syncSymbols (c : Nat) : Nat × Nat := if c = 1 then (46, 2) else (22, 2)

/-- Tone index of used tone u (R160). -/
def usedTone (u : Nat) : Int := if u < 426 then (u : Int) - 426 else (u : Int) - 425

/-- Whether a tone is a pilot (R160). -/
def isPilot (k : Int) : Bool := k.natAbs % 10 == 5 && k.natAbs ≤ 415

/-- The used tones in ascending order: k from -426 to 426 without 0 (R160). -/
def usedTones : List Int := (List.range 852).map usedTone

/-- The pilots by their index i, from k = -415 to 415 (R160). -/
def pilotTones : List Int := usedTones.filter isPilot

/-- The data tones by their index d, from k = -426 to 426 (R160). -/
def dataTones : List Int := usedTones.filter (fun k => !isPilot k)

/-- The short tones ±4m, m = 1 to 106, in ascending order (R160). -/
def shortTones : List Int := usedTones.filter (fun k => k.natAbs % 4 == 0)

/-- The null tones carry zero in every symbol: k = 0 and |k| from 427 to 512 (R160). -/
def isNull (k : Int) : Bool := k == 0 || decide (427 ≤ k.natAbs)

/-! ### Classes (R170) -/

/-- Spreading factor. -/
def sf : Nat → Nat
  | 1 => 256 | 2 => 64 | 3 => 16 | _ => 4

/-- Coded bits per symbol, N. -/
def codedN (c : Nat) : Nat := 1536 / sf c

/-! ### Header (R172) -/

/-- Fields of a header. -/
structure AirHdr where
  typ : Nat
  cls : Nat
  len : Nat
  seq : Nat
  src : Nat
  dst : Nat
  flags : Nat
  deriving DecidableEq, Repr

/-- The header's 48 bits above HCRC. -/
def AirHdr.top (h : AirHdr) : Nat :=
  h.typ % 32 * 2 ^ 43 + h.cls % 8 * 2 ^ 40 + h.len % 2048 * 2 ^ 29 + h.seq % 256 * 2 ^ 21 + h.src % 256 * 2 ^ 13 +
    h.dst % 256 * 2 ^ 5 + h.flags % 32

/-- The header word with its HCRC. -/
def AirHdr.word (h : AirHdr) : Nat := h.top * 65536 + crc16 (be 6 h.top)

/-- The fields of a header word. -/
def AirHdr.of (w : Nat) : AirHdr :=
  ⟨w / 2 ^ 59 % 32, w / 2 ^ 56 % 8, w / 2 ^ 45 % 2048, w / 2 ^ 37 % 256, w / 2 ^ 29 % 256, w / 2 ^ 21 % 256, w / 2 ^ 16 % 32⟩

/-- HCRC holds. -/
def hdrOk (w : Nat) : Bool := w % 65536 == crc16 (be 6 (w / 65536))

def AirHdr.sec (h : AirHdr) : Bool := h.flags / 16 % 2 == 1
def AirHdr.ackReq (h : AirHdr) : Bool := h.flags / 8 % 2 == 1
def AirHdr.retry (h : AirHdr) : Bool := h.flags / 4 % 2 == 1

/-- Bits of a byte, LSB first (R7). -/
def byteBits (b : Byte) : List Bool := (List.range 8).map (fun i => b.toNat / 2 ^ i % 2 == 1)

def bitsOf (b : Bytes) : List Bool := b.flatMap byteBits

/-! ### Payload processing (R175 to R179) -/

/-- The scrambler's outputs (R179). -/
def scramble9 : Nat → List Bool → List Bool
  | _, [] => []
  | st, x :: xs =>
    let o := (st / 16384 + st / 8192) % 2
    (x ^^ (o == 1)) :: scramble9 ((st * 2 + o) % 32768) xs

/-- A payload's bits scrambled; scrambling twice gives them back. -/
def scramble (seq : Nat) (bits : List Bool) : List Bool := scramble9 (0x7FFF ^^^ seq) bits

/-- Two coded bits for one input, from the six before it, newest first (R176). -/
def convPair (r : List Bool) (u : Bool) : List Bool :=
  let t := fun i => r.getD (i - 1) false
  [u ^^ t 2 ^^ t 3 ^^ t 5 ^^ t 6, u ^^ t 1 ^^ t 2 ^^ t 3 ^^ t 6]

def convAux : List Bool → List Bool → List Bool
  | _, [] => []
  | r, u :: us => convPair r u ++ convAux ((u :: r).take 6) us

/-- A block coded, tail-biting (R176). -/
def convCode (block : List Bool) : List Bool := convAux (block.reverse.take 6) block

/-- Sizes of the blocks of P payload bits (R177). -/
def blockSizes (p : Nat) : List Nat :=
  let n := (p + 2047) / 2048
  (List.range n).map (fun i => if i < p % n then (p + n - 1) / n else p / n)

/-- Bits cut at the sizes given. -/
def cutBits : List Nat → List Bool → List (List Bool)
  | [], _ => []
  | n :: ns, bits => bits.take n :: cutBits ns (bits.drop n)

/-- Coded bits of a part placed in whole symbols, the tail repeating the part (R177). -/
def fillSymbols (n : Nat) (coded : List Bool) : List (List Bool) :=
  let m := coded.length
  (List.range ((m + n - 1) / n)).map (fun s => (List.range n).map (fun j => coded.getD ((s * n + j) % m) false))

/-- The interleaver's place for position j' of a symbol (R181). -/
def interleave (n j : Nat) : Nat := if n = 6 then j else (j % 8) * (n / 8) + j / 8

/-- A symbol's interleaved bits. -/
def interleaved (n : Nat) (sym : List Bool) : List Bool :=
  (List.range n).map (fun p => ((List.range n).find? (fun j => interleave n j == p)).elim false (fun j => sym.getD j false))

/-- The value of component slot m of a symbol (R182), as +1 or -1. -/
def slotValue (inter : List Bool) (n m : Nat) : Int :=
  sign (inter.getD (m % n) false) * sign ((gen9 1536 spreadSeed).getD m false)

/-- The coded symbols of a frame's header (R177). -/
def headerSymbols (f : AirFrame) : List (List Bool) :=
  fillSymbols (codedN (AirHdr.of f.hdr).cls) (convCode (bitsOf (be 8 f.hdr)))

/-- The coded symbols of a frame's payload: scrambled, cut into blocks, coded (R175 to R179). -/
def payloadSymbols (f : AirFrame) : List (List Bool) :=
  let bits := scramble (AirHdr.of f.hdr).seq (bitsOf f.body)
  fillSymbols (codedN (AirHdr.of f.hdr).cls) ((cutBits (blockSizes bits.length) bits).flatMap convCode)

/-! ### Durations (R185) -/

/-- A frame's length in units of 0.625 µs: t_sync, the long training, and every symbol are multiples of it. -/
def frameUnits (typ cls len : Nat) (sec : Bool) : Nat :=
  let n := codedN cls
  let hdr := (128 + n - 1) / n
  let pay := if typ = 4 ∨ typ = 5 then 8 else (2 * (8 * (len + 4 + if sec then 8 else 0)) + n - 1) / n
  (if cls = 1 then 32 else 16) + 6 + (hdr + pay) * 3

/-- A header's frame length in units of 0.625 µs. -/
def AirHdr.units (h : AirHdr) : Nat := frameUnits h.typ h.cls h.len h.sec

/-- Air ticks in 0.625 µs. -/
def airUnit : Nat := 24576

/-! ### Sealing (R178) -/

def ccmNonce (fob dir ctr typ : Nat) : Bytes := be 4 fob ++ be 1 dir ++ be 4 ctr ++ be 1 typ ++ zeros 3

/-- A payload as it stands on the air before scrambling: sealed if a key is given, with its CRC-32C (R175). -/
def airBody (h : AirHdr) (key : Option Bytes) (fob dir ctr : Nat) (payload : Bytes) : Bytes :=
  let b := match key with
    | some k =>
      let r := ccmEnc k (ccmNonce fob dir ctr h.typ) (be 6 h.top) payload 8
      r.1 ++ r.2
    | none => payload
  b ++ be 4 (crc32c b)

/-- A frame from its fields (R162, R175); ranging frames carry no payload and no CRC (R184). -/
def airFrame (h : AirHdr) (key : Option Bytes) (fob dir ctr : Nat) (payload : Bytes) : AirFrame :=
  ⟨h.word, if h.typ = 4 ∨ h.typ = 5 then [] else airBody h key fob dir ctr payload⟩

/-- The smallest value above the last accepted whose low byte is SEQ (R178). -/
def nextCtr (last seq : Nat) : Nat := last + 1 + (seq + 256 - (last + 1) % 256) % 256

end Sys2Proof.Machine
end

