-- ==== Sys2Proof/Machine/Modem.lean ====
section
/-! DEFINITION. The air waveform to the sample (R151, R152, R159 to R170, R196) and what a lane makes of the signal it receives: the
parallel search, AGC and aerial choice, the turn, the carrier offset, phase tracking (R148 to R150, R165 to R169). -/

namespace Sys2Proof.Machine

/-! ### Numerology (R159) -/

/-- Points of the FFT, samples of the prefixes and of a short symbol; 614.4 samples last 1 µs, and tones lie 600 kHz apart. -/
def fftSize : Nat := 1024
def prefixLen : Nat := 128
def shortLen : Nat := 256
def trainPrefix : Nat := 256

/-- Air ticks of a sample. -/
def sampleTicks : Nat := 64

/-! ### Spectra: the values of the tones that a symbol carries; every other tone is zero -/

/-- A short symbol of a class (R163): the code on every fourth tone, at √(852/212) of a data tone's amplitude. -/
def shortSpectrum (c : Nat) : List (Int × Cx) :=
  (shortTones.zip (syncCode c)).map (fun p => (p.1, ⟨sqrtRat (852 / 212) * (p.2 : Rat), 0⟩))

/-- The long symbol (R168). -/
def longSpectrum : List (Int × Cx) := (usedTones.zip longSymbol).map (fun p => (p.1, ⟨(p.2 : Rat), 0⟩))

/-- The turn: a code negated (R164). -/
def negSpectrum (l : List (Int × Cx)) : List (Int × Cx) := l.map (fun p => (p.1, p.2.scale (-1)))

/-- Data symbol n of a frame from its interleaved bits (R169, R182). -/
def dataSpectrum (n : Nat) (inter : List Bool) : List (Int × Cx) :=
  let half := sqrtRat (1 / 2)
  let v := fun m => half * (slotValue inter inter.length m : Rat)
  pilotTones.zipIdx.map (fun p => (p.1, ⟨(pilot p.2 n : Rat), 0⟩)) ++
    dataTones.zipIdx.map (fun p => (p.1, ⟨v (2 * p.2), v (2 * p.2 + 1)⟩))

/-- One block of an exchange's symbol stream (R196). -/
def symbolBlock (seed : Bytes) (pass f sym i : Nat) : Bytes := aesEnc seed (be 1 pass ++ be 1 f ++ be 1 sym ++ zeros 11 ++ be 2 i)

/-- The 2,560 bytes of a ranging symbol's stream (R196). -/
def symbolBytes (seed : Bytes) (pass f sym : Nat) : Bytes := (List.range 160).flatMap (symbolBlock seed pass f sym)

/-- The alphabet size, point and offset that three bytes of the stream give a tone (R196). -/
def toneOf (a b c : Byte) : Nat × Nat × Nat :=
  let m := [4, 8, 16].getD (a.toNat % 3) 4
  (m, b.toNat / (256 / m), c.toNat)

/-- A tone's phase p/m + o/256 of a turn, in 1/4096 of a turn. -/
def tonePhase (t : Nat × Nat × Nat) : Nat := (t.2.1 * (4096 / t.1) + t.2.2 * 16) % 4096

/-- The values x(k) of a ranging symbol's used tones, in ascending order (R196). -/
def rangeTones (seed : Bytes) (pass f sym : Nat) : List Cx :=
  let b := symbolBytes seed pass f sym
  let at_ := fun (u i : Nat) => b.getD (3 * u + i) 0
  (List.range 852).map (fun u => phasor ((tonePhase (toneOf (at_ u 0) (at_ u 1) (at_ u 2)) : Rat) / 4096))

/-! ### Samples (R151, R152, R162) -/

/-- A piece of a frame between two edge windows: its tones, its prefix and its length after the prefix. -/
structure WavePart where
  spec : List (Int × Cx)
  pre : Nat
  len : Nat
  deriving DecidableEq, Repr

/-- The inverse FFT's value at a sample index: it repeats every 1,024 samples. -/
def ifftAt (spec : List (Int × Cx)) (t : Int) : Cx :=
  cxSum (spec.map (fun p => p.2.mul (phasor (((p.1 * t : Int) : Rat) / (fftSize : Rat)))))

/-- The raised-cosine taper over 32 samples. -/
def taper (i : Nat) : Rat := (1 - (phasor ((2 * i + 1 : Nat) / 128 : Rat)).re) / 2

/-- A part's contribution at sample j of it: tapered in over its first 32 samples and, extended by 32, tapered out. -/
def WavePart.at_ (p : WavePart) (j : Int) : Cx :=
  let n := p.pre + p.len
  if j < 0 ∨ (n : Int) + 32 ≤ j then Cx.zero
  else
    let i := j.toNat
    let w := if i < 32 then taper i else if n ≤ i then 1 - taper (i - n) else 1
    (ifftAt p.spec (j - (p.pre : Int))).scale w

/-- The samples of parts sent one after the other, before filtering. -/
def partsAt : List WavePart → Int → Cx
  | [], _ => Cx.zero
  | p :: ps, t => (p.at_ t).add (partsAt ps (t - ((p.pre + p.len : Nat) : Int)))

/-- The parts of a frame (R162): the sync field with its turn, the long training, the header, the payload or the ranging symbols. -/
def AirTx.parts (x : AirTx) : List WavePart :=
  let h := AirHdr.of x.frame.hdr
  let n := syncSymbols h.cls
  let sync := shortSpectrum h.cls
  let data := (headerSymbols x.frame ++ (if h.typ = 4 ∨ h.typ = 5 then [] else payloadSymbols x.frame)).zipIdx.map
    (fun p => WavePart.mk (dataSpectrum p.2 (interleaved (codedN h.cls) p.1)) prefixLen fftSize)
  let ranging := match x.range with
    | some (seed, pass) => (List.range 8).map (fun i => WavePart.mk (usedTones.zip (rangeTones seed pass h.typ (i + 1))) prefixLen fftSize)
    | none => []
  List.replicate n.1 ⟨sync, 0, shortLen⟩ ++ List.replicate n.2 ⟨negSpectrum sync, 0, shortLen⟩ ++
    [⟨longSpectrum, trainPrefix, 2 * fftSize⟩] ++ data ++ ranging

/-- The amplitude the mask leaves a tone: the RF section's nibble, 0xF switching it off; in ramp mode the fixed mask (R151, R152). -/
def Shaping.toneAmp (sh : Shaping) (k : Int) : Rat :=
  if sh.ramp then (if 385 ≤ k.natAbs ∧ k.natAbs ≤ 426 then attenuation 6 else 1)
  else
    let m := sh.mask.getD (if k < 0 then (k + 426).toNat else (k + 425).toNat) 0
    if m = 15 then 0 else attenuation m

/-- The parts of a frame with the tone mask applied. -/
def AirTx.masked (x : AirTx) : List WavePart :=
  x.parts.map (fun p => { p with spec := p.spec.map (fun v => (v.1, v.2.scale (x.shape.toneAmp v.1))) })

/-- A component held within full scale. -/
def saturate (r : Rat) : Rat :=
  let full := Config.fullScale
  if full < r then full else if r < -full then -full else r

/-- The 33 Q15 taps applied at a sample, and the result held within full scale (R151); ramp mode bypasses them (R152). -/
def AirTx.filtered (x : AirTx) (t : Int) : Cx :=
  let y := if x.shape.ramp then partsAt x.masked t
    else cxSum (x.shape.fir.zipIdx.map (fun p => (partsAt x.masked (t - (p.2 : Int))).scale ((p.1 : Rat) / 32768)))
  ⟨saturate y.re, saturate y.im⟩

/-- Samples of a frame. -/
def AirTx.samples (x : AirTx) : Nat := (AirHdr.of x.frame.hdr).units * 384

/-- The PA envelope at a sample (R152): in ramp mode it rises over the 1 µs before the first sample and falls over the 1 µs after the last. -/
def AirTx.envelope (x : AirTx) (t : Int) : Rat :=
  let us : Rat := 6144 / 10
  let stop : Int := match x.cut with
    | some c => ((c.1 / sampleTicks : Nat) : Int)
    | none => (x.samples : Int)
  let falls := x.shape.ramp && (x.cut.elim true (·.2))
  if t < 0 then (if x.shape.ramp then max 0 (1 + (t : Rat) / us) else 0)
  else if t < stop then 1
  else if falls then max 0 (1 - ((t - stop : Int) : Rat) / us)
  else 0

/-- The emission at a sample after its first (R151, R152). -/
def AirTx.sample (x : AirTx) (t : Int) : Cx := (x.filtered t).scale (x.envelope t)

/-- The total power at the aerial port in dBm with every used tone at 0 dB (R137). -/
def powerDbm (code : Nat) : Rat := (code : Rat) / 2 - 30

/-! ### The parallel search (R165, R166) -/

/-- Correlations with a class's code. -/
def corrs (c : Nat) (l : List ShortSym) : List Cx := l.map (fun x => x.corr.getD (c - 1) Cx.zero)

/-- Short symbols summed for a class: eight for C1, four for the others. -/
def sumLen (c : Nat) : Nat := if c = 1 then 8 else 4

/-- The sum over a run of correlations after the phase rotation between symbols is removed, as a power per symbol. -/
def codeSum (l : List Cx) : Rat :=
  let turn := (cxSum ((l.zip (l.drop 1)).map (fun p => p.2.mul p.1.conj))).unit.conj
  let aligned := (l.foldl (fun (a : Cx × Cx) x => (a.1.mul turn, a.2.add (x.mul a.1))) (⟨1, 0⟩, Cx.zero)).2
  aligned.power / (l.length : Rat)

/-- The sums for C1 to C4 at the end of a run of symbols; a class with too few symbols yet has none. -/
def codeSums (l : List ShortSym) : List Rat :=
  (List.range 4).map (fun i =>
    let w := sumLen (i + 1)
    if l.length < w then 0 else codeSum ((corrs (i + 1) l).drop (l.length - w)))

/-- The threshold over the noise floor, 18.4 times it: with four codes tested at every short symbol, noise alone passes it less than once
in 10 s (R165; log 99). -/
def threshold (noise : Rat) : Rat := noise * (184 / 10)

/-- The largest of the code sums, the lower class on a tie: class and sum. -/
def bestCode (sums : List Rat) : Nat × Rat :=
  (sums.zipIdx.drop 1).foldl (fun b p => if b.2 < p.1 then (p.2 + 1, p.1) else b) (1, sums.headD 0)

/-- 3 dB as a ratio of powers. -/
def threeDb : Rat := 19953 / 10000

/-- The class declared at the end of a symbol (R165): its sum passes the threshold, and it leads every other by 3 dB or others pass too. -/
def declared (noise : Rat) (l : List ShortSym) : Option Nat :=
  let sums := codeSums l
  let b := bestCode sums
  let others := (sums.zipIdx.filter (fun p => p.2 + 1 != b.1)).map (·.1)
  if b.2 ≤ threshold noise then none
  else if others.all (fun p => decide (p * threeDb ≤ b.2)) ∨ others.any (fun p => decide (threshold noise < p)) then some b.1
  else none

/-- The first symbol, counted from 1, at whose end a class is declared, and the class. -/
def detectFrom (noise : Rat) (l : List ShortSym) : Option (Nat × Nat) :=
  (List.range l.length).findSome? (fun i => (declared noise (l.take (i + 1))).map (fun c => (i + 1, c)))

/-- The sign of a correlation reversed with more than 135° between it and another (R166). -/
def reversed (a b : Cx) : Bool :=
  let d := (a.mul b.conj).re
  decide (d < 0 ∧ a.power * b.power < 2 * (d * d))

/-- A symbol is the second of two reversed ones in succession; `i` counts from 0. -/
def turnAt (l : List Cx) (i : Nat) : Bool :=
  decide (2 ≤ i) && reversed (l.getD (i - 1) Cx.zero) (l.getD (i - 2) Cx.zero) && reversed (l.getD i Cx.zero) (l.getD (i - 2) Cx.zero)

/-- How a detection at symbol `d` (counted from 1) goes on (R166): the short symbol, counted from 1, at whose end the turn is found; none
where the detection lies in a turn symbol or no turn follows within 24 symbols, 48 for C1. -/
def turnAfter (cls d : Nat) (l : List ShortSym) : Option Nat :=
  let cs := corrs cls l
  let inTurn := turnAt cs (d - 1) || (decide (2 ≤ d) && reversed (cs.getD (d - 1) Cx.zero) (cs.getD (d - 2) Cx.zero))
  if inTurn then none
  else ((List.range (if cls = 1 then 48 else 24)).find? (fun j => decide (d + j < cs.length) && turnAt cs (d + j))).map (fun j => d + j + 1)

/-! ### AGC and aerials (R148 to R150) -/

/-- One step decision of the loop towards -12 dBFS, by at most 16 dB, within the 64 codes (log 99). -/
def agcStep (g : Nat) (level : Int) : Nat :=
  let e := max (-16) (min 16 (-12 - (level + (g : Int))))
  (max 0 (min 63 ((g : Int) + e))).toNat

/-- The loop over some symbols. -/
def agcRun (g : Nat) (l : List ShortSym) : Nat := l.foldl (fun g x => agcStep g x.level) g

/-- The quality of an aerial (R150): the correlation peak over the noise floor. -/
def syncQuality (cls : Nat) (noise : Rat) (l : List ShortSym) : Nat :=
  if noise ≤ 0 then 255 else quarterDb (((corrs cls l).map Cx.power).foldl max 0 / noise)

/-- What the receive sequence leaves (Table 6-3): frozen gains, SETTLED_B, qualities, the aerial chosen. -/
structure RxSeq where
  gainA : Nat
  gainB : Nat
  settledB : Bool
  qA : Nat
  qB : Nat
  aerial : Nat
  deriving DecidableEq, Repr

/-- The sequence of Table 6-3 on a lane with both aerials: `d` symbols up to the detection, `t` up to the turn. -/
def rxDiversity (g cls d t : Nat) (m : SyncMeas) : RxSeq :=
  let part := fun a b => (m.syms.take (min b t)).drop a
  let gA := agcRun g (part 0 d)
  let beforeB := agcRun gA (part d (d + 2))
  let gB := agcRun gA (part d (d + 3))
  let settled := decide (d + 3 ≤ t) && decide (gB ≤ beforeB + 1 ∧ beforeB ≤ gB + 1)
  let qA := syncQuality cls m.noiseA (part (d - 4) d)
  let qB := if d + 4 ≤ t then syncQuality cls m.noiseB (part (d + 3) (d + 4)) else 0
  ⟨gA, gB, settled, qA, qB, if settled ∧ qA + 4 ≤ qB then 1 else 0⟩

/-- The sequence on one aerial: its gain freezes at the end of symbol 8. -/
def rxSingle (g cls d aer : Nat) (m : SyncMeas) : RxSeq :=
  let gain := agcRun g (m.syms.take d)
  let q := syncQuality cls (if aer = 1 then m.noiseB else m.noiseA) ((m.syms.take d).drop (d - 4))
  if aer = 1 then ⟨0, gain, false, 0, q, 1⟩ else ⟨gain, 0, false, q, 0, 0⟩

/-! ### Carrier offset (R167), gains and phase tracking (R168, R169) -/

/-- The carrier offset in 100 Hz: the phase advance over 256 samples, refined by the 1,024 samples between the repeats. -/
def AirRx.cfo (r : AirRx) : Int :=
  let coarse := 24000 * r.adv.arg
  let a := r.train.getD 0 []
  let b := r.train.getD 1 []
  let step := cxSum ((a.zip b).map (fun p => p.2.mul p.1.conj))
  let fine := if step = Cx.zero then coarse else 6000 * (step.arg + ((coarse / 6000 - step.arg + 1 / 2).floor : Rat))
  (fine + 1 / 2).floor

/-- The sample-clock offset that goes with a carrier offset in 100 Hz, in samples per second (R167). -/
def sampleOffset (cfo : Int) (mhz : Nat) : Rat := (cfo : Rat) * 6144 / ((mhz : Rat) * 100)

/-- The gain H(k) of each used tone (R169). -/
def AirRx.gains (r : AirRx) : List Cx :=
  (cxMeans (r.train.map (fun y => (y.zip longSymbol).map (fun p => p.1.scale (p.2 : Rat)))))

/-- Place of pilot i among the used tones. -/
def pilotUsed (i : Nat) : Nat :=
  let k := pilotTones.getD i 1
  if k < 0 then (k + 426).toNat else (k + 425).toNat

/-- Y(k)·conj(H(k)·p(k)) over the pilots of data symbol n. -/
def AirRx.pilotTerms (r : AirRx) (n : Nat) : List Cx :=
  let h := r.gains
  (r.pilots.getD n []).zipIdx.map (fun y => y.1.mul ((h.getD (pilotUsed y.2) Cx.zero).scale (pilot y.2 n : Rat)).conj)

/-- The common phase error of a symbol in turns, and its phase slope across k in turns per tone, fitted by least squares. -/
def AirRx.phaseError (r : AirRx) (n : Nat) : Rat × Rat :=
  let z := r.pilotTerms n
  let common := (cxSum z).arg
  let pts := (pilotTones.zip z).map (fun p => ((p.1 : Rat), wrapTurn (p.2.arg - common)))
  let num := (pts.map (fun p => p.1 * p.2)).sum
  let den := (pts.map (fun p => p.1 * p.1)).sum
  (common, if den = 0 then 0 else num / den)

/-- A used tone of a symbol with its phase error removed and equalised by its gain (R169), for maximal-ratio combining: Y·conj(H). -/
def AirRx.equalised (r : AirRx) (n : Nat) (y : List Cx) : List Cx :=
  let e := r.phaseError n
  ((usedTones.zip y).zip r.gains).map (fun p => (p.1.2.mul (phasor (-(e.1 + e.2 * (p.1.1 : Rat))))).mul p.2.conj)

/-- The soft value of interleaved bit j of a symbol of N: its slots combined (R182); negative for a 1. -/
def softBit (n : Nat) (eq : List Cx) (j : Nat) : Rat :=
  let data := ((usedTones.zip eq).filter (fun p => !isPilot p.1)).map (·.2)
  let w := gen9 1536 spreadSeed
  ((List.range (1536 / n)).map (fun i =>
    let m := j + i * n
    let z := data.getD (m / 2) Cx.zero
    (if m % 2 = 0 then z.re else z.im) * (sign (w.getD m false) : Rat))).sum

/-- Pilot tracking held: the correlation never stayed below 25 % of its value in symbol 0 for four symbols in a row (R169). -/
def AirRx.tracked (r : AirRx) : Bool :=
  let p := fun n => (cxSum (r.pilotTerms n)).power
  let low := (List.range r.pilots.length).map (fun n => decide (16 * p n < p 0))
  !(List.range r.pilots.length).any (fun n => ((low.drop n).take 4).length == 4 && ((low.drop n).take 4).all id)

/-- No tone bin failed its parity twice (R15, R169). -/
def AirRx.cellOk (r : AirRx) : Bool := r.parity.all (fun n => decide (n < 2))

/-! ### Receive checks (R186) -/

/-- TYPE, LEN and SEC by Table 7-7; the T of a WAKE_REPLY is checked with its payload (R184). -/
def typeOk (h : AirHdr) : Bool :=
  match h.typ with
  | 1 => !h.sec && 27 ≤ h.len && (h.len - 27) % 6 == 0
  | 2 => !h.sec && h.len == 24
  | 3 => !h.sec && h.len == 24
  | 4 => !h.sec && h.len == 0
  | 5 => !h.sec && h.len == 0
  | 6 => h.sec && (h.len == 19 || h.len == 39)
  | 7 => h.sec && (h.len == 20 || h.len == 42)
  | 8 => h.sec && h.len == 4
  | 9 => !h.sec && h.len == 0
  | 10 => h.sec && 2 ≤ h.len
  | _ => false

/-- Checks 1 to 6 of Table 7-9. `me` is the unit's number, `cls` the class detected; a planned frame is received whatever its DST (R173). -/
def rxChecks (me cls : Nat) (planned : Bool) (r : AirRx) : RxStatus :=
  let h := AirHdr.of r.frame.hdr
  let ranging := h.typ == 4 || h.typ == 5
  let b := r.frame.body
  if !hdrOk r.frame.hdr then .hdrCrc
  else if h.cls ≠ cls then .cls
  else if !typeOk h then .type
  else if !planned && h.dst ≠ me && h.dst ≠ 0 && h.dst ≠ 0xFF then .notAddressed
  else if !r.cellOk then .escort
  else if !r.tracked then .lost
  else if ranging then .ok
  else if b.length ≠ h.len + 4 + (if h.sec then 8 else 0) ∨ fieldBe b (b.length - 4) 4 ≠ crc32c (b.take (b.length - 4))
  then .pcrc
  else if h.typ = 1 ∧ fieldBe b 7 1 % 32 ≠ fieldBe b 8 1 then .type
  else .ok

/-- The payload of an unsealed frame. -/
def plainPayload (r : AirRx) : Bytes := r.frame.body.take (AirHdr.of r.frame.hdr).len

/-- Opening a sealed frame (checks 7 to 9): the counter accepted and the plaintext, or the status. -/
def openSealed (key : Option Bytes) (fob dir last : Nat) (r : AirRx) : RxStatus × Nat × Bytes :=
  let h := AirHdr.of r.frame.hdr
  match key with
  | none => (.noKey, last, [])
  | some k =>
    let ctr := nextCtr last h.seq
    if last + 255 < ctr then (.replay, last, [])
    else
      match ccmDec k (ccmNonce fob dir ctr h.typ) (be 6 h.top) (r.frame.body.take h.len) (sub r.frame.body h.len 8) with
      | none => (.mic, last, [])
      | some p => (.ok, ctr, p)

/-- Status codes of Table 7-10. -/
def RxStatus.code : RxStatus → Nat
  | .ok => 0 | .hdrCrc => 1 | .cls => 2 | .type => 3 | .notAddressed => 4 | .pcrc => 5 | .mic => 6 | .replay => 7 | .lost => 8
  | .escort => 9 | .noKey => 10

end Sys2Proof.Machine
end

