-- ==== Sys2Proof/Machine/LaneOps.lean ====
section
/-! DEFINITION. The lanes' shared operations (06): moves towards SYNTH, transmit and receive commands, release, reports. -/

namespace Sys2Proof.Machine

/-! ### What a lane is -/

def State.lane (s : State) (n : Nat) : Lane := s.air.lanes.getD n Lane.init

def State.setLane (s : State) (n : Nat) (l : Lane) : State := { s with air := { s.air with lanes := s.air.lanes.set n l } }

def laneDom (n : Nat) : Dom := if n = 0 then .ar0 else .ar1

def laneBlock (n : Nat) : Block := if n = 0 then .lane0 else .lane1

/-- A lane's state code (R138); it reads as SLEEP while its domain is off. -/
def State.laneState (s : State) (n : Nat) : Nat := s.get (Reg.AIR_LN_STAT_STATE n)

/-- A lane is fitted if an aerial of its is (R134). -/
def State.laneFitted (s : State) (n : Nat) : Bool := s.get (Reg.AIR_LN_CFG_AMASK n) != 0

/-- Both aerials of a lane are fitted (R211). -/
def State.laneBoth (s : State) (n : Nat) : Bool := s.get (Reg.AIR_LN_CFG_AMASK n) == 3

/-- The lanes and PD_FOX are shed (R156, R435, R437), or off while VBAT_FAIL is asserted (R420). -/
def State.airShed (s : State) : Bool := s.bit Reg.SUP_HH_STAT_SHEDAIR || s.bit Reg.PWR_STAT_VBATF

/-- A lane can serve: fitted, not isolated, not shed. -/
def State.laneServes (s : State) (n : Nat) : Bool := s.laneFitted n && !s.isIsolated (laneBlock n) && !s.airShed

/-- Air ticks since reset; the unit's counter shows them modulo 2^40 (R133). -/
def State.airAbs (s : State) : Nat := s.now * 9375

/-- A named air time counts as reached: at most 2^39 air ticks back (R145). -/
def State.airReached (s : State) (t : Nat) : Bool := decide ((s.airNow + 2 ^ 40 - t % 2 ^ 40) % 2 ^ 40 ≤ 2 ^ 39)

/-- A sum on the 40-bit counter of air ticks. -/
def airAdd (t d : Nat) : Nat := (t + d) % 2 ^ 40

/-- A time moved by a signed delay. -/
def airShift (t : Nat) (d : Int) : Nat := (((t : Int) + d) % (2 ^ 40 : Int)).toNat

/-- A difference on the 40-bit counter, below 2^39 either way (R207). -/
def airDiff (a b : Nat) : Int :=
  let d : Nat := (a + 2 ^ 40 - b % 2 ^ 40) % 2 ^ 40
  if d < 2 ^ 39 then d else (d : Int) - 2 ^ 40

/-- A time on the 40-bit counter, less than 2^39 air ticks from now, as air ticks since reset. -/
def State.airOf (s : State) (t : Nat) : Nat := ((s.airAbs : Int) + airDiff t s.airNow).toNat

/-- The first converter sample at or after a time (R145). -/
def sampleUp (t : Nat) : Nat := (t + 63) / 64 * 64

/-- Ticks in a number of 0.1 µs, rounded up. -/
def tenthsToTicks (t : Nat) : Nat := (t * 4194304 + 9999999) / 10000000

/-- Air ticks in 10 µs. -/
def airTenUs : Nat := 393216

/-- Air ticks in a number of 0.1 µs. -/
def airTenths (t : Nat) : Nat := t * airTenUs / 100

/-- Result codes of Table 6-4. -/
def LaneResult.code : LaneResult → Nat
  | .ok => 0 | .preempted => 1 | .txLate => 2 | .txBusy => 3 | .unlock => 4 | .noLock => 5 | .noDetect => 6 | .fault => 7
  | .shed => 8

/-- A lane operation ends (Table 6-4); TX_LATE and TX_BUSY are counted (R158). -/
def laneResult (n : Nat) (r : LaneResult) (s : State) : State :=
  let t := s.put (Reg.AIR_LN_STAT_LAST n) r.code
  match r with
  | .txLate => t.count (Reg.AIR_LN_TXCNT_LATE n) 1
  | .txBusy => t.count (Reg.AIR_LN_TXCNT_BUSY n) 1
  | .ok | .preempted | .unlock | .noLock | .noDetect | .fault | .shed => t

/-- A channel barred in the RF section (R137). -/
def State.barred (s : State) (c : Nat) : Bool :=
  match s.img.run with
  | some i => i.rf.bar / 2 ^ (c - 13) % 2 == 1
  | none => false

/-- The power code of a channel on a lane (R137). -/
def State.powerCode (s : State) (n c : Nat) : Nat :=
  if c = 13 then s.get (Reg.AIR_LN_PWR13_V n)
  else if c = 14 then s.get (Reg.AIR_LN_CFG_PWR14 n)
  else if c = 15 then s.get (Reg.AIR_LN_CFG_PWR15 n)
  else s.get (Reg.AIR_LN_CFG_PWR16 n)

/-- What shapes an emission of a lane on its channel (R137, R151, R152). -/
def State.shaping (s : State) (n : Nat) : Shaping :=
  let rf := s.img.run.map (·.rf)
  ⟨s.powerCode n (s.get (Reg.AIR_LN_STAT_CHAN n)), s.bit (Reg.AIR_LN_STAT_RAMP n),
    ((rf.map (·.mask)).getD []).flatMap (fun b => [b.toNat / 16, b.toNat % 16]), (rf.map (·.fir)).getD []⟩

/-! ### Aerials (R134, R148, R200, R215) -/

/-- An aerial port is fitted. -/
def State.aerialFitted (s : State) (n a : Nat) : Bool := s.get (Reg.AIR_LN_CFG_AMASK n) / 2 ^ a % 2 == 1

/-- The aerial a lane uses before R150 has chosen: A where fitted. -/
def State.firstAerial (s : State) (n : Nat) : Nat := if s.aerialFitted n 0 then 0 else 1

/-- An aerial named, or the only one fitted (R134). -/
def State.fitAerial (s : State) (n a : Nat) : Nat := if s.aerialFitted n a then a else s.firstAerial n

/-- The one aerial a lane receives on, where diversity is skipped: its only one; an exchange's after pass 1, except in GUARD (R200, R211); an
overheard exchange's after its first poll, and the head's own second lane's throughout (R215, R235). -/
def State.soleAerial (s : State) (n : Nat) : Option Nat :=
  if s.laneBoth n = false then some (s.firstAerial n)
  else
    match s.fox.ex.getD n none, s.fox.oh.getD n none with
    | some ex, _ => if ex.grade = 2 then none else ex.aerial
    | none, some o => if o.own ∨ o.polls ≠ [] then some o.aerial else none
    | none, none => none

/-- The aerial a search starts on: A, or the one aerial in use (R148). -/
def State.searchAerial (s : State) (n : Nat) : Nat := (s.soleAerial n).getD (s.firstAerial n)

/-! ### Moving to SYNTH -/

/-- The 38.4 MHz crystal runs for the other lane or the unit: the PLL runs above PL0 (R139, R425; log 100). -/
def State.crystalRuns (s : State) (n : Nat) : Bool := decide (s.laneState (1 - n) ≠ 0 ∨ s.get Reg.PWR_PL_CUR ≠ 0)

/-- The time before a lane can begin its move from STANDBY to SYNTH, in µs: its domain, then its reference (Table 6-2). -/
def State.laneLead (s : State) (n : Nat) : Nat :=
  let wake := if s.crystalRuns n then 20 else 2000
  if s.domOn (laneDom n) = false then 60 + wake else if s.laneState n = 0 then wake else 0

/-- The maximum time of the SYNTH transition to a channel, in µs (Table 6-2); 0 where the lane is there. -/
def State.laneSynth (s : State) (n c : Nat) : Nat :=
  if s.laneState n < 2 ∨ s.domOn (laneDom n) = false then
    (if s.bit (Reg.AIR_LN_STAT_CALV n) ∧ s.domOn (laneDom n) then 45 else 220)
  else if s.get (Reg.AIR_LN_STAT_CHAN n) = c then 0 else 12

/-- The maximum time from where a lane stands to SYNTH on a channel, in µs. -/
def State.laneDelay (s : State) (n c : Nat) : Nat := s.laneLead n + s.laneSynth n c

/-- A lane moves to a channel that is not barred (R137 to R143): its domain is switched on, PD_FOX with it; a lane already on the channel
stays. -/
def laneMove (n c : Nat) (s : State) : State :=
  let lead := s.laneLead n
  let d := s.laneSynth n c
  if d = 0 ∨ s.barred c then s
  else
    let cold := d = 220
    let t := if s.domOn (laneDom n) then s else (s.setDom (laneDom n) true).setDom .fox true
    let t := ((t.put (Reg.AIR_LN_STAT_CHAN n) c).setBit (Reg.AIR_LN_STAT_LOCK n) false).put (Reg.AIR_LN_STAT_STATE n)
      (if d = 12 then 2 else if lead = 0 then 1 else 0)
    t.setLane n { t.lane n with settle := some ⟨s.now, lead, d, cold, 0, false⟩, rx := none, turn := none }

/-- The lane opens a window (R147): when the checks have passed and no frame is going out, with the time that the transition to RX takes
from `from_` (air ticks since reset); otherwise once they have. `until_` is the window's end in air ticks since reset (none: open). -/
def laneListenFrom (n : Nat) (from_ : Nat) (until_ : Option Nat) (s : State) : State :=
  let l := s.lane n
  if l.settle.isNone ∧ s.bit (Reg.AIR_LN_STAT_LOCK n) ∧ l.txEnd.isNone ∧ l.loop.isNone then
    let wait := if s.laneState n = 4 ∧ s.bit (Reg.AIR_LN_STAT_RAMP n) = false then 30 else 40
    let turn := if s.laneState n = 3 then none else some (3, from_ + airTenths wait)
    let t := s.setLane n { l with rx := some ⟨until_, none⟩, wantRx := none, turn := turn }
    t.put (Reg.AIR_LN_STAT_AER n) (t.searchAerial n)
  else s.setLane n { l with wantRx := some (from_, until_) }

/-- A window opened now. -/
def laneListen (n : Nat) (until_ : Option Nat) (s : State) : State := laneListenFrom n s.airAbs until_ s

/-- Free lanes of a selection (0 LANE0, 1 LANE1, otherwise either). -/
def State.freeLanes (s : State) (sel : Nat) : List Nat :=
  (if sel = 0 then [0] else if sel = 1 then [1] else [0, 1]).filter (fun n => s.laneServes n && (s.lane n).held.isNone)

/-- The lane of a request: the one that can start earliest, LANE0 on a tie (R135). -/
def State.pickLane (s : State) (sel c : Nat) : Option Nat :=
  match s.freeLanes sel with
  | [] => none
  | n :: rest => some (rest.foldl (fun b m => if s.laneDelay m c < s.laneDelay b c then m else b) n)

/-- A request takes a lane and moves it toward SYNTH; where its calibration became invalid while another used it, by a cold entry (R144). -/
def laneHold (n : Nat) (cls : Cls) (c : Nat) (s : State) : State :=
  let t := s.setLane n { s.lane n with held := some cls, search := false, rx := none, wantRx := none, turn := none }
  let t := if 2 ≤ s.laneState n then t.put (Reg.AIR_LN_STAT_STATE n) (if s.bit (Reg.AIR_LN_STAT_CALV n) then 2 else 1) else t
  laneMove n c t

/-- A trigger run that waits for a lane has one. -/
def laneForRun (r : LaneReq) (n : Nat) (s : State) : State :=
  match r.run with
  | some id => { s with ses := { s.ses with runs := s.ses.runs.map (fun x => if x.id = id then { x with lane := n } else x) } }
  | none => s

/-- A run's request waits in a lane's queue already. -/
def State.laneAsked (s : State) (run : Option Nat) : Bool :=
  run.isSome && [0, 1].any (fun n => (s.queue (.lane n)).items.any (fun i => match i.work with
    | .lane r => r.run == run
    | _ => false))

/-- A request for a lane (R135): taken, or queued where none that serves is free; one for either lane waits for whichever is free first.
While the lanes are shed it ends SHED, and a lane that is not fitted is never requested (R134, R156). -/
def laneTake (sel : Nat) (cls : Cls) (c : Nat) (run : Option Nat) (s : State) : Option Nat × State :=
  match s.pickLane sel c with
  | some n => (some n, laneForRun ⟨sel, c, run⟩ n (laneHold n cls c s))
  | none =>
    let n := if sel = 1 ∨ (sel ≠ 0 ∧ s.laneServes 0 = false) then 1 else 0
    if s.airShed then (none, laneResult n .shed s)
    else if s.laneServes n = false ∨ s.laneAsked run then (none, s)
    else (none, (enqueue (.lane n) cls .session (.lane ⟨sel, c, run⟩) s).2)

/-! ### Transmit and receive commands -/

/-- A transmit command (R146, R147): queued, refused TX_BUSY, or cancelled TX_LATE at once. True where it was queued. An aerial that is not
fitted is never selected (R134). A frame to be sent as soon as possible ends a window in which nothing was detected; it starts 3 µs after
reception, 6 µs after the checks pass. A frame that asks for an ACK is followed by its window (R188). -/
def laneTx (n : Nat) (c : TxCmd) (s : State) : Bool × State :=
  if (s.lane n).pend.isSome then (false, laneResult n .txBusy s)
  else
    let late := match c.start with
      | some t => s.airReached (t + 2 ^ 40 - airTenths 60) && s.airNow != (t + 2 ^ 40 - airTenths 60) % 2 ^ 40
      | none => false
    if late then (false, laneResult n .txLate s)
    else
      let l := s.lane n
      let h := AirHdr.of c.frame.hdr
      let ack := if h.ackReq ∧ h.dst ≠ 0 ∧ h.dst ≠ 0xFF then some (150, 600) else none
      let c := { c with aerial := s.fitAerial n c.aerial, listen := c.listen.orElse (fun _ => ack) }
      let detected := (l.rx.bind (·.detected)).isSome
      let ends := c.start.isNone && l.rx.isSome && !detected
      let first := if c.start.isSome then l.txFrom else max l.txFrom (s.airAbs + airTenths (if l.rx.isSome then 30 else 60))
      let t := s.setLane n { l with pend := some c, txFrom := first, rx := if ends then none else l.rx, turn := if ends then none else l.turn }
      (true, if ends then laneResult n .noDetect (t.put (Reg.AIR_LN_STAT_STATE n) 2) else t)

/-- The first sample of a command in air ticks since reset (R145, R146). -/
def State.txFirst (s : State) (n : Nat) (c : TxCmd) : Nat :=
  match c.start with
  | some t => sampleUp (s.airOf t)
  | none => sampleUp (s.lane n).txFrom

/-- A timed command that can no longer be in time: the checks passed later than start - 6 µs, or a reception ended later than start - 3 µs
(R146, R147). -/
def State.txMissed (s : State) (n : Nat) : Bool :=
  let l := s.lane n
  match l.pend.bind (·.start) with
  | some t => decide (s.airOf t < l.txFrom) && l.settle.isNone && (l.rx.bind (·.detected)).isNone
  | none => false

/-- A frame is emitted (R145): from its first sample to its end, on an aerial; the window that follows it opens then. -/
def laneEmit (n : Nat) (c : TxCmd) (s : State) : State :=
  let h := AirHdr.of c.frame.hdr
  let first := s.txFirst n c
  let tx : AirTx := ⟨n, c.aerial, s.get (Reg.AIR_LN_STAT_CHAN n), c.frame, c.range, first, s.shaping n, none⟩
  let t := { s with air := { s.air with out := (tx :: s.air.out).take 16 } }
  let t := t.setLane n { t.lane n with pend := none, rx := none, turn := none, txEnd := some (first + h.units * airUnit), listen := c.listen }
  (t.put (Reg.AIR_LN_STAT_STATE n) 4).put (Reg.AIR_LN_STAT_AER n) c.aerial

/-- The air ticks of a frame up to the symbol boundary at or after a point in it. -/
def symbolEnd (h : AirHdr) (t : Nat) : Nat :=
  let sync := (if h.cls = 1 then 32 else 16) * airUnit
  let up := fun (x len : Nat) => (x + len - 1) / len * len
  if t ≤ sync then up t 16384
  else if t ≤ sync + 6 * airUnit then sync + 6 * airUnit
  else sync + 6 * airUnit + up (t - sync - 6 * airUnit) (3 * airUnit)

/-- An emission in progress stops: at the end of the present symbol, ramping down where ramp mode applies (R156, R16), or at once without
(R142). -/
def laneCut (n : Nat) (atOnce : Bool) (s : State) : State :=
  let stop := fun (x : AirTx) =>
    let gone := s.airAbs - x.at_
    { x with cut := some (if atOnce then (gone, false) else (symbolEnd (AirHdr.of x.frame.hdr) gone, true)) }
  let mine := fun (x : AirTx) => x.lane == n && x.cut.isNone && decide (s.airAbs < x.at_ + (AirHdr.of x.frame.hdr).units * airUnit)
  if (s.lane n).txEnd.isNone then s
  else { s with air := { s.air with out := s.air.out.map (fun x => if mine x then stop x else x) } }

/-- The end of an emission: the lane turns to its window, or to SYNTH. -/
def laneTxEnd (n : Nat) (s : State) : State :=
  let l := s.lane n
  let e := l.txEnd.getD s.airAbs
  let t := laneResult n .ok (s.setLane n { l with txEnd := none, listen := none, lastOp := s.now, txFrom := e + airTenths 60 })
  match l.listen, l.wantRx with
  | some w, _ => laneListenFrom n (max e (e + airTenths w.1 - airTenths (if s.bit (Reg.AIR_LN_STAT_RAMP n) then 40 else 30))) (some (e + airTenths w.2)) t
  | none, some w => laneListenFrom n (max e w.1) w.2 t
  | none, none => t.put (Reg.AIR_LN_STAT_STATE n) 2

/-- A lane's last operation is over (R140, R144): to STANDBY at once in CAB, ROAD and WORKSHOP, and wherever its calibration is no longer
valid; in FRUGAL and WELCOME it waits. -/
def laneRelease (n : Nat) (s : State) : State :=
  let s := laneCut n false s
  let l := s.lane n
  let t := s.setLane n { l with held := none, search := false, pend := none, rx := none, wantRx := none, settle := none, lastOp := s.now,
                                txEnd := none, listen := none, turn := none, loop := none }
  let rest := fun (t : State) => ((t.put (Reg.AIR_LN_STAT_STATE n) 1).setBit (Reg.AIR_LN_STAT_LOCK n) false).put (Reg.AIR_LN_STAT_CHAN n) 0
  if s.laneState n < 2 ∧ l.settle.isNone then t
  else if s.profile = 2 ∨ s.profile = 3 ∨ s.profile = 4 ∨ l.settle.isSome ∨ s.bit (Reg.AIR_LN_STAT_CALV n) = false then rest t
  else t.put (Reg.AIR_LN_STAT_STATE n) 2

/-- Whether a lane is used by an exchange, an overhearing, a trigger run's window or a session. -/
def State.laneInUse (s : State) (n : Nat) : Bool :=
  (s.fox.ex.getD n none).isSome || (s.fox.oh.getD n none).isSome || s.ses.ss.any (fun x => x.lane == n) ||
    s.ses.runs.any (fun r => r.lane == n && (r.cur.isSome || r.windowAt.isSome)) || s.fox.pair.any (fun g => g.lane == n)

/-- The lane requests of a queue that lane n can serve: all of its own, those for either lane of the other's. -/
def laneOffers (n q : Nat) (s : State) : List QItem :=
  (s.queue (.lane q)).items.filter (fun i => match i.work with
    | .lane r => n == q || (r.sel != 0 && r.sel != 1)
    | _ => false)

/-- Requests that wait for the lane take it in their order (R23): by class, then by age. -/
def laneServe (n : Nat) (s : State) : State :=
  let all := (laneOffers n n s).map (fun i => (n, i)) ++ (laneOffers n (1 - n) s).map (fun i => (1 - n, i))
  match all with
  | [] => s
  | p :: rest =>
    let best := rest.foldl (fun b x => if x.2.cls.code < b.2.cls.code ∨ x.2.cls = b.2.cls ∧ x.2.at_ < b.2.at_ then x else b) p
    let q := s.queue (.lane best.1)
    let t := s.setQueue (.lane best.1) { q with items := q.items.erase best.2 }
    match best.2.work with
    | .lane r => laneForRun r n (laneHold n best.2.cls r.channel t)
    | _ => t

/-- The search for notices (R242): in CAB, ROAD and WORKSHOP a head or acting head holds LANE0 in RX on channel 14 whenever it is
not in use, otherwise LANE1. -/
def listenKick (s : State) : State :=
  if (s.isHead ∨ s.isActing) ∧ 2 ≤ s.profile ∧ s.profile ≤ 4 ∧ ¬ (s.lane 0).search ∧ ¬ (s.lane 1).search then
    match s.freeLanes 0 ++ s.freeLanes 1 with
    | [] => s
    | n :: _ => laneListen n none (laneMove n 14 (s.setLane n { s.lane n with search := true }))
  else s

/-- The lane is given back where nothing uses it any more. -/
def laneDone (n : Nat) (s : State) : State :=
  let l := s.lane n
  if l.held.isSome ∧ l.pend.isNone ∧ l.rx.isNone ∧ l.wantRx.isNone ∧ l.settle.isNone ∧ l.txEnd.isNone ∧ l.loop.isNone ∧ ¬ s.laneInUse n then
    listenKick (laneServe n (laneRelease n s))
  else s

/-- Given back by its owner whatever it was doing. -/
def laneFree (n : Nat) (s : State) : State :=
  if (s.lane n).held.isSome ∧ ¬ s.laneInUse n then listenKick (laneServe n (laneRelease n s)) else s

/-! ### Reports of reception (R186, R190) -/

/-- The class detected in a lane's window, while it receives. -/
def State.detected (s : State) (n : Nat) : Option Nat := if s.laneState n = 3 then (s.lane n).rx.bind (·.detected) else none

/-- A frame's reception ends with a status: RXLAST, RXINFO, the counters; the search resumes. An emission can follow 3 µs later (R147).
A frame received without error gives its fob's session its class (R171). -/
def rxReport (n cls : Nat) (r : AirRx) (st : RxStatus) (s : State) : State :=
  let h := AirHdr.of r.frame.hdr
  let l := s.lane n
  let t := laneResult n .ok (s.setLane n { l with rx := l.rx.map (fun w => { w with detected := none }), lastOp := s.now,
                                                  txFrom := max l.txFrom (s.airOf r.endAt + airTenths 30) })
  let t := match st with
    | .hdrCrc => t.count (Reg.AIR_LN_RXERR0_HCRC n) 1
    | .pcrc => t.count (Reg.AIR_LN_RXERR0_PCRC n) 1
    | .mic => t.count (Reg.AIR_LN_RXERR1_MIC n) 1
    | .replay => t.count (Reg.AIR_LN_RXERR1_REPLAY n) 1
    | .noKey => t.count (Reg.AIR_LN_RXERR1_REPLAY n) 1
    | .lost => t.count (Reg.AIR_LN_RXERR2_LOST n) 1
    | .escort => t.count (Reg.AIR_LN_RXERR2_LOST n) 1
    | .cls => t.count (Reg.AIR_LN_RXERR2_FORM n) 1
    | .type => t.count (Reg.AIR_LN_RXERR2_FORM n) 1
    | .ok => { t with ses := { t.ses with ss := t.ses.ss.map (fun (x : Session) => if 0x40 + x.record = h.src then { x with cls := cls } else x) } }
    | .notAddressed => t
  let t := ((t.put (Reg.AIR_LN_RXLAST_STATUS n) st.code).put (Reg.AIR_LN_RXLAST_CLASS n) cls).put (Reg.AIR_LN_RXLAST_CFO n)
    (ofInt 16 r.cfo)
  if st = .hdrCrc then t
  else
    let t := enter .air r.frame.body t
    (((t.put (Reg.AIR_LN_RXLAST_TYPE n) h.typ).put (Reg.AIR_LN_RXINFO_SRC n) h.src).put (Reg.AIR_LN_RXINFO_LEN n) h.len).put
      (Reg.AIR_LN_RXINFO_CLIP n) (min r.clip 255)

/-- SEQ of the next unsealed frame to a destination (R180). -/
def State.seqTo (s : State) (dst : Nat) : Nat := ((s.air.seqs.find? (fun p => p.1 == dst)).map (·.2)).getD 0

/-- One more unsealed frame to a destination. -/
def seqUsed (dst : Nat) (s : State) : State :=
  { s with air := { s.air with seqs := (dst, (s.seqTo dst + 1) % 256) :: s.air.seqs.filter (fun p => p.1 != dst) } }

/-- The ACK of a frame that asked for one (R188): timed, 20 µs after the frame's last sample; one that comes too late is not sent. -/
def sendAck (n cls : Nat) (h : AirHdr) (endAt : Nat) (s : State) : State :=
  if h.ackReq = false ∨ h.dst = 0 ∨ h.dst = 0xFF then s
  else
    let f := airFrame ⟨9, cls, 0, h.seq, s.unitNum, h.src, 0⟩ none 0 0 0 []
    (laneTx n ⟨f, none, s.get (Reg.AIR_LN_STAT_AER n), some (airAdd endAt (airTenths 200)), none⟩ s).2

end Sys2Proof.Machine
end

