-- ==== Sys2Proof/Machine/LfOps.lean ====
section
/-! DEFINITION. The field's shared operations (05): POLLS entries, requests, charges, results. -/

namespace Sys2Proof.Machine

/-! ### Coils -/

def bankOf (ch : Nat) : Nat := if ch < 8 then 0 else 1

def bankDom (b : Nat) : Dom := if b = 0 then .lfa else .lfb

def bankBlock (b : Nat) : Block := if b = 0 then .bankA else .bankB

/-- The COILS entry of this unit's channel. -/
def State.coil (s : State) (ch : Nat) : Option CoilE :=
  s.img.run.bind (fun i => i.coils.find? (fun c => c.unit == s.unitNum && c.channel == ch))

def State.fitted (s : State) (ch : Nat) : Bool := s.bit (Reg.LF_CH_CFG_FIT ch)

def State.disabled (s : State) (ch : Nat) : Bool := s.lfAon.disabled / 2 ^ ch % 2 == 1

/-- A channel stopped by overtemperature (R110). -/
def State.hot (s : State) (ch : Nat) : Bool := (s.lf.chs.getD ch LfCh.init).hot

/-- A channel that can drive: fitted, not disabled, not hot. -/
def State.usable (s : State) (ch : Nat) : Bool := s.fitted ch && !s.disabled ch && !s.hot ch

/-- A coil's target current, 10 mA (R103). -/
def State.target (s : State) (ch : Nat) : Nat := (s.coil ch).elim 0 (·.current)

/-- The drive frequency of a resonance (R101). -/
def driveFreq (f : Nat) : Nat := min (max f 121250) 128750

/-- A resonance outside f_c ± 3 % (R101). -/
def detuned (f : Nat) : Bool := f < 121250 || 128750 < f

/-- The holder coil of this unit (R125). -/
def State.holder (s : State) : Option CoilE :=
  s.img.run.bind (fun i => i.coils.find? (fun c => c.unit == s.unitNum && c.role == 2))

/-- FOBPOL allows coupled starts (R125). -/
def State.coupledOn (s : State) : Bool := s.img.run.elim false (fun i => i.fobpol.coupled == 1)

/-- Results of Table 5-4. -/
def LfResult.code : LfResult → Nat
  | .ok => 0 | .preempted => 1 | .inhibit => 2 | .open_ => 3 | .shortVbat => 4 | .shortGnd => 5 | .overtemp => 6 | .budget => 7
  | .fault => 8 | .shed => 9 | .noReply => 10 | .late => 11 | .uplink => 12 | .unknownFob => 13 | .mismatch => 14
  | .timeout => 15

/-! ### Requests -/

def State.pollE (s : State) (e : Nat) : Option PollE := s.img.run.bind (fun i => i.polls[e]?)

/-- The trigger codes of Table 9-5. -/
def triggerCode (p : Nat) : Bool :=
  (0x10 ≤ p && p < 0x24) || (0x28 ≤ p && p < 0x2C) || p == 0x30 || p == 0x31 || (0x38 ≤ p && p < 0x3C)

/-- A trigger's entry that stands before the first WAKE entry of its code (R232). -/
def unbound (polls : List PollE) (k : Nat) (p : PollE) : Bool :=
  triggerCode p.profile && !(polls.take (k + 1)).any (fun q => q.profile == p.profile && q.command == 0)

/-- The POLLS entries without those that R232 skips: a code without a WAKE entry has none. -/
def boundPolls (polls : List PollE) : List PollE := (polls.zipIdx.filter (fun p => !unbound polls p.2 p.1)).map (·.1)

/-- Channels of a mask, ascending. -/
def maskChans (m : Nat) : List Nat := (List.range 16).filter (fun c => m / 2 ^ c % 2 == 1)

/-- The vector channels' currents after R105, and whether they were scaled. -/
def scaleVector (is : List Nat) : List Nat × Bool :=
  let sum := is.sum
  if 600 < sum then (is.map (fun i => i * 600 / sum), true) else (is, false)

/-- Periods of carrier the data part drives: 250 of settling and 48 half-bits of 16 (R112, R113). -/
def dataPeriods : Nat := 250 + 48 * 16

/-- What a list of drives charges to a bank (R108): current squared times periods. -/
def chargeOf (b periods : Nat) (drives : List (Nat × Nat)) : Nat :=
  ((drives.filter (fun d => bankOf d.1 == b)).map (fun d => d.2 * d.2 * periods)).sum

/-- The request of a POLLS entry (R112, R117, R118): a disabled or unfitted tone coil keeps a silent slot (R124). -/
def State.lfReq (s : State) (by_ : LfBy) (p : PollE) : LfReq :=
  let mask := maskChans p.mask
  let data := if p.vector = 1 then p.vchans else mask.take 1
  let sc := if p.vector = 1 then scaleVector (data.map s.target) else (data.map s.target, false)
  let drives := data.zip sc.1
  let tones := (mask.take (min p.tones mask.length)).map (fun c =>
    (c, if s.usable c then ((drives.find? (fun d => d.1 == c)).map (·.2)).getD (s.target c) else 0))
  ⟨by_, p.command, drives, tones, chargeOf 0 dataPeriods drives + chargeOf 0 32 tones,
    chargeOf 1 dataPeriods drives + chargeOf 1 32 tones, sc.2⟩

/-- The channels a request owns (R98). -/
def LfReq.owned (r : LfReq) : List Nat := (r.data.map (·.1) ++ r.tones.map (·.1)).dedup

/-- The banks a request uses. -/
def LfReq.banks (r : LfReq) : List Nat := (r.owned.map bankOf).dedup

def LfReq.peakN (r : LfReq) : Nat := r.data.length

/-- The largest summed current at one instant (R104). -/
def LfReq.peakI (r : LfReq) : Nat := r.tones.foldl (fun m t => max m t.2) (r.data.map (·.2)).sum

/-- Length of a wake frame in periods of 8 µs (Table 5-2). -/
def LfReq.periods (r : LfReq) : Nat := 250 + 48 * 32 + 32 * r.tones.length

/-- Ticks in a number of 8 µs periods, rounded up. -/
def periodTicks (p : Nat) : Nat := (p * 8 * 4194304 + 999999) / 1000000

/-- Periods of f_c since a time (R102): one is 2^25 / 10^6 ticks. -/
def State.periodsSince (s : State) (t : Nat) : Nat := (s.now - t) * 1000000 / 33554432

/-- The wake ID (R114). -/
def wakeId (vehicle : Nat) : Nat := (vehicle * 0x00019660 + 0x3C6EF35F) % 2 ^ 32 / 256

/-- The bytes of a wake frame after settling (R112 to R116). -/
def wakeBytes (vehicle command tones : Nat) : Bytes :=
  let b := be 3 (wakeId vehicle) ++ be 1 (command * 32 + tones)
  [0xAB] ++ b ++ be 1 (crc8 b)

/-- Where the carrier of coded bits is on (R113), in periods from the frame's start: a 1 in the first half-bit, a 0 in the second. -/
def keyed : List Bool → Nat → List (Nat × Nat)
  | [], _ => []
  | b :: bs, off => (if b then off else off + 16, 16) :: keyed bs (off + 32)

/-- The carrier of a data part: settling, then the bits, the most significant of each byte first (R7, R112, R113). -/
def dataCarrier (bytes : Bytes) : List (Nat × Nat) := (0, 250) :: keyed (msbBits bytes) 250

/-- A data part with its off halves, in periods. -/
def dataLen : Nat := 250 + 48 * 32

/-- The drive frequency in force on a channel (R101). -/
def State.fDrive (s : State) (c : Nat) : Nat := s.get (Reg.LF_CH_CFG_FDRV c)

/-- The carrier of a frame: its data part on one coil at the coil's f_d, or on three at exactly f_c with phases 0, 64 and 128 in the order
listed (R111); then one tone after the other at each coil's f_d, a silent slot without carrier (R117, R124). -/
def State.carrierOf (s : State) (r : LfReq) (bytes : Bytes) : List CarrierRun :=
  let vector := decide (1 < r.data.length)
  r.data.zipIdx.flatMap (fun p => (dataCarrier bytes).map (fun d =>
    ⟨p.1.1, d.1, d.2, p.1.2, if vector then 125000 else s.fDrive p.1.1, if vector then 64 * p.2 else 0⟩)) ++
  (r.tones.zipIdx.filter (fun p => p.1.2 != 0)).map (fun p => ⟨p.1.1, dataLen + 32 * p.2, 32, p.1.2, s.fDrive p.1.1, 0⟩)

/-- A bank's allowance, 20 ms of full-current-equivalent time (R108). -/
def allowance : Nat := 2500 * 65025

def State.bank (s : State) (b : Nat) : LfBank := s.lf.banks.getD b LfBank.init

def State.setBank (s : State) (b : Nat) (v : LfBank) : State := { s with lf := { s.lf with banks := s.lf.banks.set b v } }

/-- How many of a charge's periods began before a time, given in millionths of a tick. -/
def LfCharge.before (c : LfCharge) (t : Nat) : Nat := min c.len ((t - (c.at_ * 1000000 + c.off * 33554432) + 33554431) / 33554432)

/-- What a charge puts into the 200 ms that end at a time (R108, R109). -/
def LfCharge.within (c : LfCharge) (now : Nat) : Nat :=
  (c.before (now * 1000000) - c.before (now * 1000000 - 200000 * 4194304)) * c.sq

/-- The charges of a frame to a bank. -/
def LfRun.charges (r : LfRun) (b : Nat) : List LfCharge :=
  (r.carrier.filter (fun c => bankOf c.ch == b)).map (fun c => ⟨r.startAt, c.off, c.len, c.cur * c.cur⟩)

/-- The charge of the whole exchange, 200 ms at the capped current (R105, R108, R125). -/
def ctCharge (h : CoilE) : Nat := min h.current 50 * min h.current 50 * 25000

/-- What the coupled exchange in progress has been charged in advance (R109). -/
def State.ctCharged (s : State) (b : Nat) : Nat :=
  match s.lf.ct, s.holder with
  | some _, some h => if bankOf h.channel = b then ctCharge h else 0
  | _, _ => 0

/-- Charge made to a bank in the last 200 ms (R109). -/
def State.charged (s : State) (b : Nat) : Nat :=
  (((s.bank b).charges ++ s.lf.runs.flatMap (·.charges b)).map (·.within s.now)).sum + s.ctCharged b

/-- LF_BUD's figure: units of 10 µs of full-current-equivalent time. -/
def State.budgetUsed (s : State) (b : Nat) : Nat := s.charged b * 8 / 650250

/-- Drives that have ended are entered in a bank, as far as they went (R108); charges older than 200 ms are forgotten. -/
def bankCharge (b : Nat) (cs : List LfCharge) (s : State) : State :=
  let cut := cs.map (fun c => { c with len := c.before (s.now * 1000000) })
  s.setBank b { s.bank b with charges := (cut ++ (s.bank b).charges).filter (fun c => c.within s.now != 0) }

/-! ### Supplies (R97, R99, R100) -/

/-- The boost stage switches while a bank is powered and VBAT, once measured, is below 16.0 V (R99). -/
def boostCheck (s : State) : State :=
  let on := (s.domOn .lfa || s.domOn .lfb) && decide (0 < s.powAon.vbat ∧ s.powAon.vbat < 16000)
  if on = s.bit Reg.LF_STAT_BOOST then s
  else { s with lf := { s.lf with boostAt := if on then some s.now else none } }.setBit Reg.LF_STAT_BOOST on

/-- A bank is used by a request: powered at the first one, ready 70 µs later (R97). -/
def bankUse (b : Nat) (s : State) : State :=
  let v := s.bank b
  if s.domOn (bankDom b) then s.setBank b { v with usedAt := s.now }
  else boostCheck ((s.setBank b { v with usedAt := s.now, readyAt := s.now + tenthsToTicks 700 }).setDom (bankDom b) true)

/-- CAB, ROAD and WORKSHOP keep both banks powered (R97). -/
def banksKept (s : State) : State :=
  let p := s.profile
  if 2 ≤ p ∧ p ≤ 4 then bankUse 1 (bankUse 0 s) else s

/-- A bank is switched off. -/
def bankOff (b : Nat) (s : State) : State := boostCheck (s.setDom (bankDom b) false)

/-- A bank is ready to drive. -/
def State.bankReady (s : State) (b : Nat) : Bool := s.domOn (bankDom b) && decide ((s.bank b).readyAt ≤ s.now)

/-- Whether a supply condition of R100 inhibits drive. -/
def inhibits (vbat vlf : Nat) (gate : Bool) : Bool := 36000 < vbat || vlf < 7500 || 40500 < vlf || !gate

/-- Whether the three conditions that allow drive hold (R100). -/
def allows (vbat vlf : Nat) (gate : Bool) : Bool := vbat ≤ 35000 && 8000 ≤ vlf && vlf ≤ 40000 && gate

/-- The 10 ms of R100 run from the moment the last of the three conditions came into its range, as far as the measurements show. -/
def allowTrack (s : State) : State :=
  let ok := allows s.powAon.vbat s.power.vlf s.power.gateOk
  { s with lf := { s.lf with allowSince := if ok then some (s.lf.allowSince.getD s.now) else none } }

/-- The drive is inhibited (R100). -/
def State.inhibited (s : State) : Bool := s.bit Reg.LF_STAT_INH || s.bit Reg.PWR_STAT_VBATF

/-- VBAT as measured, in mV (R431): 0.25 V steps, and whether it lies above 36 V. -/
def setVbat (vbat : Nat) (s : State) : State :=
  let t := ({ s with powAon := { s.powAon with vbat := vbat } }.put Reg.PWR_STAT_VBAT (min (vbat / 250) 255)).setBit Reg.PWR_STAT_OVR
    (decide (36000 < vbat))
  allowTrack (boostCheck t)

/-- The supplies of R100 as measured, in mV, and the gate drive rail. -/
def measured (vbat vlf : Nat) (gate : Bool) (s : State) : State :=
  setVbat vbat { s with power := { s.power with vlf := vlf, gateOk := gate } }

/-- A bank is shed (R110). -/
def State.bankShed (s : State) (b : Nat) : Bool := s.get Reg.SUP_HH_STAT_SHEDLF / 2 ^ b % 2 == 1

/-- The class of an LF request (R21, Table 1-4): session frames and WELCOME's polls are P0; the scheduled polls of other profiles, which Table
1-4 does not list under P0, are P1 (log 96: DEDUCED). -/
def State.lfCls (s : State) : LfBy → Cls
  | .poll e => if (s.pollE e).any (fun p => p.profile == 1) then .p0 else .p1
  | .trig _ _ => .p0
  | .lfrun _ => .p0

/-! ### Results (R130) -/

def modifyRun (id : Nat) (f : TrigRun → TrigRun) (s : State) : State :=
  { s with ses := { s.ses with runs := s.ses.runs.map (fun r => if r.id = id then f r else r) } }

/-- The run of a WELCOME poll's entry that is being sent. -/
def State.pollRun (s : State) (e : Nat) : Option TrigRun :=
  s.ses.runs.find? (fun r => r.trig.code == 1 && r.trig.entry == e && r.cur == some e)

/-- The reply window a frame opens on its lane (R119): from 300 µs to 4.3 ms after the frame's end. -/
def openReplies (lane : Nat) (s : State) : State :=
  { s with lf := { s.lf with rxDue := (lane, s.airAbs + airTenths 3000, s.airAbs + airTenths 43000) :: s.lf.rxDue } }

/-- Reply windows open at their time. -/
def repliesTick (s : State) : State :=
  let due := s.lf.rxDue.filter (fun w => decide (w.2.1 ≤ s.airAbs))
  if due = [] then s
  else due.foldl (fun s w => laneListenFrom w.1 (w.2.1 - airTenths 40) (some w.2.2) s) { s with lf := { s.lf with rxDue := s.lf.rxDue.filter (fun w => decide (s.airAbs < w.2.1)) } }

/-- A run hears of its frame (R227): the reply window of a WAKE or LOCATE opens; a frame that was not sent leaves an empty one. -/
def runFrameEnded (id command : Nat) (ipk : List (Nat × Nat)) (ok : Bool) (s : State) : State :=
  let t := modifyRun id (fun r => { r with cur := none, last := r.cur, windowAt := if command = 2 then none else some s.now, ipk := ipk }) s
  match s.ses.runs.find? (fun r => r.id == id) with
  | some r => if ok ∧ command ≠ 2 then openReplies r.lane t else t
  | none => t

/-- An LF operation ends (R130): the result goes to its channels and to whoever asked; the lane of a WAKE or LOCATE that no trigger run follows
hears the replies (R119). -/
def lfDone (r : LfReq) (res : LfResult) (ipk : List (Nat × Nat)) (lane : Option Nat) (s : State) : State :=
  let s := r.owned.foldl (fun s c => s.put (Reg.LF_CH_STAT_LAST c) res.code) s
  let s := { s with lf := { s.lf with done := ((r.by_, res) :: s.lf.done).take 8 } }
  let heard := fun (s : State) => if res = .ok ∧ r.command ≠ 2 then lane.elim s (fun n => openReplies n s) else s
  match r.by_ with
  | .poll e =>
    match s.pollRun e with
    | some run => runFrameEnded run.id r.command ipk (res == .ok) s
    | none => heard s
  | .trig id _ => runFrameEnded id r.command ipk (res == .ok) s
  | .lfrun _ => heard ((s.setBit Reg.SES_LFRUN_GO false).put Reg.SES_LFRUN_LAST res.code)

/-- A channel is given back (R98). -/
def unown (c : Nat) (s : State) : State := (s.put (Reg.LF_CH_STAT_OWNER c) 7).put (Reg.LF_CH_STAT_CLASS c) 0

/-- A channel is owned by the session engine in a class (R98). -/
def own (cls : Cls) (c : Nat) (s : State) : State := (s.put (Reg.LF_CH_STAT_OWNER c) 0).put (Reg.LF_CH_STAT_CLASS c) cls.code

/-- The current a request drives on a channel. -/
def LfReq.currentOf (r : LfReq) (c : Nat) : Nat := (((r.data ++ r.tones).find? (fun d => d.1 == c)).map (·.2)).getD 0

/-- A peak current measured against the target (R103): IPK, and LOWI where full conduction did not reach it. -/
def ipkReport (c target ipk : Nat) (full : Bool) (s : State) : State :=
  (s.put (Reg.LF_CH_STAT_IPK c) (min ipk 255)).setBit (Reg.LF_CH_STAT_LOWI c) (full && decide (ipk * 100 < target * 97))

/-- A coil whose peak current stays below 10 % of the target at full conduction angle is open (R121). -/
def coilOpen (target ipk : Nat) (full : Bool) : Bool := full && decide (ipk * 10 < target)

/-- A drive ended with no command that told what it measured: IPK and LOWI hold what it reached, a free value (R103, log 4). -/
def ipkFree (c target : Nat) (s : State) : State :=
  ipkReport c target (Config.freeByte s.freeCtr).toNat ((Config.freeByte (s.freeCtr + 1)).getLsbD 0) { s with freeCtr := s.freeCtr + 2 }

/-- The channels whose drive had begun when a frame ended. -/
def LfRun.begun (r : LfRun) (now : Nat) : List Nat :=
  ((r.carrier.filter (fun c => decide (r.startAt * 1000000 + c.off * 33554432 < now * 1000000))).map (·.ch)).dedup

/-- A running frame ends: its drives are charged as far as they went, its channels given back, its banks' use noted, its result reported.
`seen` lists the channels whose drive was measured. -/
def lfEnd (run : LfRun) (res : LfResult) (seen : List (Nat × Nat)) (s : State) : State :=
  let t := { s with lf := { s.lf with runs := s.lf.runs.filter (fun x => x != run) } }
  let t := run.req.banks.foldl (fun s b => bankUse b (bankCharge b (run.charges b) s)) t
  let t := ((run.begun s.now).filter (fun c => seen.all (fun p => p.1 != c))).foldl (fun s c => ipkFree c (run.req.currentOf c) s) t
  lfDone run.req res (if res = .ok then seen else []) run.lane (run.req.owned.foldl (fun s c => unown c s) t)

/-- Every running frame that a test picks ends with a result. -/
def lfEndAll (p : LfRun → Bool) (res : LfResult) (s : State) : State :=
  (s.lf.runs.filter p).foldl (fun s r => lfEnd r res [] s) s

/-- Periods of carrier of a diagnostic run, and its current in 10 mA (R122, R124). -/
def CoilTest.drive : CoilTest → Nat × Nat
  | .full _ => (16, 10)
  | .retest _ => (10, 5)

/-- A diagnostic run is over: its channel is given back, its bank's use noted (R97, R98). -/
def testRelease (s : State) : State :=
  match s.lf.test with
  | none => s
  | some r => bankUse (bankOf r.ch) (unown r.ch { s with lf := { s.lf with test := none } })

/-- A diagnostic run that a test picks ends with a result before it has measured. -/
def testStop (p : TestRun → Bool) (res : LfResult) (s : State) : State :=
  match s.lf.test with
  | none => s
  | some r => if p r then (ipkFree r.ch r.test.drive.2 (testRelease s)).put (Reg.LF_CH_STAT_LAST r.ch) res.code else s

/-- The coupled exchange ends (R129, R130): its channels are given back, the unused charge is credited (R109), the session engine
learns the result through `ctOver`. -/
def ctRelease (res : LfResult) (s : State) : State :=
  let s := ((s.put Reg.LF_CT_STAT_LAST res.code).setBit Reg.LF_CT_STAT_BUSY false)
  let s := (maskChans 0xFFFF).foldl (fun s c => if s.fitted c then unown c s else s) s
  match s.holder, s.lf.ct with
  | some h, some c =>
    let i := min h.current 50
    let t := { s with lf := { s.lf with ct := none } }
    let t := bankUse (bankOf h.channel) (bankCharge (bankOf h.channel) [⟨c.startAt, 0, 25000, i * i⟩] t)
    (if c.seen then t else ipkFree h.channel i t).put (Reg.LF_CH_STAT_LAST h.channel) res.code
  | _, _ => { s with lf := { s.lf with ct := none } }

/-- The holder coil is disabled while coupled starts are allowed: fault 0x2109 (R124). -/
def holderCheck (s : State) : State :=
  match s.holder with
  | some h => if s.coupledOn ∧ s.disabled h.channel then raise 0x2109 h.channel s else s
  | none => s

/-- A channel is disabled by a coil fault (R121); the holder's loss raises 0x2109 where coupled starts are allowed (R124). -/
def disableChannel (ch code : Nat) (s : State) : State :=
  let s := { s with lfAon := { s.lfAon with disabled := s.lfAon.disabled ||| 2 ^ ch },
                    lf := { s.lf with chs := s.lf.chs.modify ch (fun c => { c with passes := 0, retestAt := s.now }) } }
  let s := raise code ch ((s.setBit (Reg.LF_CH_CFG_EN ch) false).count (Reg.LF_CH_STAT_NFLT ch) 1)
  if (s.holder.map (·.channel)) = some ch then holderCheck s else s

/-- Why a request ends at once instead of being queued (R100, R109, R110, R124). -/
def State.lfRefusal (s : State) (r : LfReq) : Option LfResult :=
  if s.inhibited then some .inhibit
  else if r.banks.any s.bankShed then some .shed
  else if r.banks.any (fun b => s.isIsolated (bankBlock b)) ∨ s.isIsolated .lfCommon then some .fault
  else if allowance < r.chargeA ∨ allowance < r.chargeB then some .budget
  else if r.data.any (fun d => !s.usable d.1) then some .fault
  else none

/-- A request reaches its bank's queue, the one of its data coil (R104), which powers its banks (R97), or ends at once. Table 5-4 has no result
for a session's or a satellite's frame that the queue refuses: it ends PREEMPTED (R32, R130; log 93: DESIGN CHOICE). -/
def lfRequest (r : LfReq) (s : State) : State :=
  match s.lfRefusal r with
  | some res => lfDone r res [] none s
  | none =>
    match enqueue (.bank (bankOf ((r.data.head?.map (·.1)).getD 0))) (s.lfCls r.by_) .session (.lf r) s with
    | (.taken, t) => r.banks.foldl (fun s b => bankUse b s) t
    | (_, t) =>
      match r.by_ with
      | .poll _ => t.count Reg.LF_SKIP_V 1
      | .trig _ _ => lfDone r .preempted [] none t
      | .lfrun _ => lfDone r .preempted [] none t

/-- The result of a POLLS entry that cannot be sent, asked for by SES_LFRUN (R118): FAULT, as R124 gives a frame that cannot be sent (log 96:
DEDUCED). -/
def lfrunRefused (s : State) : State := (s.setBit Reg.SES_LFRUN_GO false).put Reg.SES_LFRUN_LAST LfResult.fault.code

/-- A REQUEST to a unit (R78), one fabric access; its tag is remembered. At a splice end it completes OFF (R90). -/
def settAsk (unit : Nat) (write : Bool) (addr count : Nat) (words : List Nat) (cls : Cls) (s : State) : State :=
  let tag := (s.sett.reqTag + 1) % 0xFFFF
  if s.bit Reg.SETT_STAT_LAST then
    { s with sett := { s.sett with reqTag := tag, rsps := ((tag, FabStatus.off.code, []) :: s.sett.rsps).take 16 } }
  else
  let t := { s with sett := { s.sett with reqTag := tag, reqs := ⟨tag, unit, addr, count⟩ :: s.sett.reqs } }
  settSend 0x10 false unit cls (be 2 tag ++ be 1 (if write then 1 else 0) ++ be 1 count ++ be 4 addr ++ words.flatMap (be 4)) t

/-- An LF frame of a run that belongs to a satellite (R230): SES_LFAT 2 ms ahead, then SES_LFRUN; its reply window opens when
that frame will have ended. -/
def lfRemote (id e : Nat) (p : PollE) (s : State) : State :=
  let at_ := s.chron.count.toNat + 8389
  let t := settAsk p.unit true Reg.SES_LFRUN 1 [0x80000000 + e] .p0
    (settAsk p.unit true Reg.SES_LFAT 1 [at_ % 2 ^ 32] .p0 s)
  let len := periodTicks (250 + 48 * 32 + 32 * min p.tones (maskChans p.mask).length)
  modifyRun id (fun r => { r with cur := none, last := some e, windowAt := if p.command = 2 then none else some (s.now + 8389 + len), ipk := [] }) t

/-- The next frame of a run is requested once nothing of it is on its way (R227, R233). -/
def runNext (id : Nat) (s : State) : State :=
  match s.ses.runs.find? (fun r => r.id == id) with
  | none => s
  | some r =>
    if r.cur.isSome ∨ r.windowAt.isSome then s
    else
      match r.todo with
      | [] => s
      | e :: rest =>
        match s.pollE e with
        | none => modifyRun id (fun r => { r with todo := rest }) s
        | some p =>
          let t := modifyRun id (fun r => { r with todo := rest, cur := some e }) s
          if p.unit = s.unitNum then lfRequest (t.lfReq (.trig id e) p) t
          else lfRemote id e p t

end Sys2Proof.Machine
end

