-- ==== Sys2Proof/Machine/Fob.lean ====
section
/-! DEFINITION. Fob records and keys (R223, R224), LF evidence (R234), distances and zones (R209, R218, R237). -/

namespace Sys2Proof.Machine

/-! ### Records (Table 9-1) -/

structure FobRec where
  fobId : Nat
  driver : Nat
  rights : Nat
  state : Nat
  gen : Nat
  nctr : Nat
  enrolled : Nat
  deriving DecidableEq, Repr

/-- The 32 bytes of a record. -/
def FobRec.bytes (r : FobRec) : Bytes :=
  let b := be 4 r.fobId ++ be 8 r.driver ++ be 2 r.rights ++ be 1 r.state ++ be 1 r.gen ++ be 4 r.nctr ++ be 4 r.enrolled ++ zeros 4
  b ++ be 4 (crc32c b)

def FobRec.of (b : Bytes) : FobRec :=
  ⟨fieldBe b 0 4, fieldBe b 4 8, fieldBe b 12 2, fieldBe b 14 1, fieldBe b 15 1, fieldBe b 16 4, fieldBe b 20 4⟩

/-- Offset of record n in retained memory. -/
def fobOffset (n : Nat) : Nat := 0x4000 + n * 32

/-- The page of a record: the head's retained one, an acting head's copy (R91). -/
def State.fobPage (s : State) (n : Nat) : Bytes :=
  if s.isActing then ((s.sett.fobCopy.find? (fun p => p.1 == n)).map (·.2)).getD (zeros 32)
  else memGetN s.nv.mem (fobOffset n) 32

def fobCrcOk (b : Bytes) : Bool := fieldBe b 28 4 == crc32c (b.take 28)

/-- A page that was never written (log 3) is empty and not in error. -/
def fobBlank (b : Bytes) : Bool := b.all (· == 0)

/-- The record n, none where it is empty or fails its CRC (R223). -/
def State.fob (s : State) (n : Nat) : Option FobRec :=
  let b := s.fobPage n
  if n < 64 ∧ fobCrcOk b ∧ (FobRec.of b).fobId ≠ 0 ∧ (FobRec.of b).state ≠ 0 then some (FobRec.of b) else none

/-- A record whose CRC fails is treated as empty, and raises 0x7101 (R223). -/
def fobPageCheck (n : Nat) (b : Bytes) (s : State) : State := if fobBlank b ∨ fobCrcOk b then s else raise 0x7101 n s

/-- The records are checked at profile entry, where their use begins (log 102). -/
def fobsCheck (s : State) : State := (List.range 64).foldl (fun s n => fobPageCheck n (s.fobPage n) s) s

/-- An active record (R223): a record in STATE 2 takes part in no session. -/
def State.activeFob (s : State) (n : Nat) : Option FobRec := (s.fob n).filter (fun r => r.state == 1)

/-- The record that holds a fob ID. -/
def State.fobOf (s : State) (id : Nat) : Option Nat :=
  (List.range 64).find? (fun n => (s.fob n).any (fun r => r.fobId == id))

def rightEntry : Nat := 0
def rightStart : Nat := 1
def rightRemote : Nat := 2
def rightCoupled : Nat := 3
def rightWelcome : Nat := 4

def FobRec.has (r : FobRec) (right : Nat) : Bool := r.rights / 2 ^ right % 2 == 1

/-- A fob barred by strikes (R231). -/
def State.isBarred (s : State) (n : Nat) : Bool := s.ses.bars.any (fun b => b.1 == n)

/-- A fob record sent to unit 2 (R91). -/
def fobCopySend (n : Nat) (page : Bytes) (s : State) : State :=
  if s.isHead ∧ s.get Reg.SETT_MAP_V / 2 % 2 = 1 then settSend 0x1B false 2 .p1 (be 1 n ++ page) s else s

/-! ### Keys (Table 9-2) -/

def State.vehicle (s : State) : Nat := (s.img.run.map (·.vehicle)).getD 0

/-- K_f, derived in the Den from slot 1. -/
def State.kf (s : State) (fobId gen : Nat) : Option Bytes :=
  (s.slotKey 1).map (fun m => kdf m (ascii "CH9680 FOB") (be 4 fobId ++ be 1 gen) 256)

def kAuth (kf : Bytes) (fobId : Nat) : Bytes := kdf kf (ascii "AUTH") (be 4 fobId) 128

def kCt (kf : Bytes) (fobId : Nat) : Bytes := kdf kf (ascii "TRANSPONDER") (be 4 fobId) 128

def kNotice (kf : Bytes) (fobId : Nat) : Bytes := kdf kf (ascii "NOTICE") (be 4 fobId) 128

/-- K_s and K_r. -/
def kSession (kf nu nf : Bytes) : Bytes × Bytes :=
  let k := kdf kf (ascii "SESSION") (nu ++ nf) 384
  (k.take 16, k.drop 16)

def State.kTok (s : State) : Option Bytes := (s.slotKey 1).map (fun m => kdf m (ascii "START TOKEN") (be 4 s.vehicle) 128)

/-- The proof of a RESPONSE (R228). -/
def proofOf (kf : Bytes) (fobId vehicle : Nat) (nu nf : Bytes) (grade stitch : Nat) : Bytes :=
  cmac (kAuth kf fobId) (ascii "RSP" ++ be 4 fobId ++ be 4 vehicle ++ nu ++ nf ++ be 1 grade ++ be 1 stitch)

/-- The tag of a LOCATE reply (R229). -/
def locateTag (ks nu : Bytes) (l : Nat) (p : Bytes) : Bytes :=
  cmac ks (ascii "LOC" ++ nu ++ be 1 l ++ p.take 9 ++ p.drop 25)

/-- The ranging stream's block at a poll number: the exchange seed S_x (R194). -/
def exchangeSeed (kr : Bytes) (fobId q : Nat) : Bytes := aesEnc kr (ascii "FOX" ++ be 4 fobId ++ be 4 q ++ zeros 5)

/-! ### LF evidence (R234) -/

/-- 10^(2^j/160) in units of 2^-64, j = 0 to 7. -/
def tenPow : List Nat :=
  [18714133467248696304, 18985398725682564058, 19539782377468919691, 20697587272487495365, 23223074879256410845,
   29236119105494656992, 46336126144280780433, 116391086550535208933]

/-- 10^(v/160) in units of 2^-64: the power of a field strength in 1/16 dB (log 15). -/
def tenTo (v : Nat) : Nat :=
  (List.range 8).foldl (fun p j => if v % 160 / 2 ^ j % 2 = 1 then p * tenPow.getD j 0 / 2 ^ 64 else p) (2 ^ 64) * 10 ^ (v / 160)

/-- The power of a tone entry over its axes, none for a silent one. -/
def tonePower (axes : List Nat) : Option Nat :=
  if axes.all (· == 0) then none else some ((axes.filter (· != 0)).map tenTo).sum

/-- The tone referred to the coil's target current. -/
def toneNorm (axes : List Nat) (ipk itgt : Nat) : Option Nat :=
  (tonePower axes).bind (fun p => if ipk = 0 then none else some (p * itgt * itgt / (ipk * ipk)))

/-- The channels of an entry's tones in the order of the reply's entries (R112, R117). -/
def PollE.toneChans (p : PollE) : List Nat := (maskChans p.mask).take p.tones

/-- The coil of a unit's channel. -/
def State.coilOf (s : State) (unit ch : Nat) : Option CoilE :=
  s.img.run.bind (fun i => i.coils.find? (fun c => c.unit == unit && c.channel == ch))

/-- The normalised tones of a reply with the role of each one's coil; a channel whose peak was not reported counts at its
target current. -/
def State.normTones (s : State) (e : Nat) (ipk : List (Nat × Nat)) (tones : List (List Nat)) : List (Nat × Nat) :=
  match s.pollE e with
  | none => []
  | some p =>
    (p.toneChans.zip tones).filterMap (fun x =>
      (s.coilOf p.unit x.1).bind (fun c =>
        (toneNorm x.2 (((ipk.find? (fun k => k.1 == x.1)).map (·.2)).getD c.current) c.current).map (fun m => (c.role, m))))

/-- The largest power of a role's tones. -/
def rolePeak (role : Nat) (t : List (Nat × Nat)) : Option Nat :=
  ((t.filter (fun x => x.1 == role)).map (·.2)).foldl (fun m x => some (max (m.getD 0) x)) none

/-- LF-inside (R234): I at least 48.0 dB and at least O + 6.0 dB. -/
def lfInside (t : List (Nat × Nat)) : Bool :=
  match rolePeak 1 t with
  | none => false
  | some i =>
    decide (tenTo 768 ≤ i) && (match rolePeak 0 t with
      | none => true
      | some o => decide (o * tenTo 96 ≤ i * 2 ^ 64))

/-- The strongest normalised tone of a reply (R227). -/
def strongest (t : List (Nat × Nat)) : Nat := (t.map (·.2)).foldl max 0

/-! ### Distances and zones -/

/-- Millimetres of a time of flight in air ticks: 7.624 mm each, rounded to the nearest (R208). -/
def mmOf (tof : Rat) : Int := (tof * 7624 / 1000 + 1 / 2).floor

/-- The squared distance of two points. -/
def pointSq (a b : Int × Int × Int) : Nat :=
  let d := fun (x y : Int) => ((x - y) * (x - y)).toNat
  d a.1 b.1 + d a.2.1 b.2.1 + d a.2.2 b.2.2

/-- The distance of two points in mm. -/
def pointDist (a b : Int × Int × Int) : Nat := (pointSq a b).sqrt

/-- The AERIALS entry of a unit, lane and aerial. -/
def State.aerial (s : State) (unit lane aer : Nat) : Option AerialE :=
  s.img.run.bind (fun i => i.aerials.find? (fun a => a.unit == unit && a.lane == lane && a.aerial == aer))

/-- The aerial delay δ in air ticks (R198). -/
def State.aerDelay (s : State) (lane aer : Nat) : Int := ((s.aerial s.unitNum lane aer).map (·.delay)).getD 0

def State.zones (s : State) : List ZoneE := (s.img.run.map (·.zones)).getD []

/-- Edges of a polygon. -/
def edges (v : List (Int × Int)) : List ((Int × Int) × (Int × Int)) := v.zip (v.drop 1 ++ v.take 1)

def cross (a b p : Int × Int) : Int := (b.1 - a.1) * (p.2 - a.2) - (b.2 - a.2) * (p.1 - a.1)

/-- The point lies on the edge. -/
def onEdge (p : Int × Int) (e : (Int × Int) × (Int × Int)) : Bool :=
  cross e.1 e.2 p == 0 && decide (min e.1.1 e.2.1 ≤ p.1 ∧ p.1 ≤ max e.1.1 e.2.1 ∧ min e.1.2 e.2.2 ≤ p.2 ∧ p.2 ≤ max e.1.2 e.2.2)

/-- The ray from the point towards greater x crosses the edge. -/
def crosses (p : Int × Int) (e : (Int × Int) × (Int × Int)) : Bool :=
  let a := if e.1.2 ≤ e.2.2 then e.1 else e.2
  let b := if e.1.2 ≤ e.2.2 then e.2 else e.1
  decide (a.2 ≤ p.2 ∧ p.2 < b.2) && decide (0 < cross a b p)

/-- Inside the polygon by the even-odd rule, a point on an edge counted inside (R237). -/
def inPolygon (v : List (Int × Int)) (p : Int × Int) : Bool :=
  (edges v).any (onEdge p) || ((edges v).filter (crosses p)).length % 2 == 1

/-- The position lies in the zone (R237). -/
def inZone (z : ZoneE) (p : Int × Int × Int) : Bool :=
  inPolygon z.verts (p.1, p.2.1) && decide (z.zmin ≤ p.2.2 ∧ p.2.2 ≤ z.zmax)

/-- The zones of known kinds that hold a position, in table order. -/
def State.zonesAt (s : State) (p : Int × Int × Int) : List ZoneE :=
  s.zones.filter (fun z => decide (1 ≤ z.kind ∧ z.kind ≤ 4) && inZone z p)

/-- The zones of a fix, by ID. -/
def State.fixZones (s : State) (f : Fix) : List ZoneE := s.zones.filter (fun z => f.zones.contains z.zone)

def lowestZone (zs : List ZoneE) : Nat :=
  match zs with
  | [] => 0
  | z :: rest => rest.foldl (fun m z => min m z.zone) z.zone

/-- The squared distance of a point from an edge, times the squared length of the edge. -/
def edgeNear (p : Int × Int) (r : Int) (e : (Int × Int) × (Int × Int)) : Bool :=
  let dx := e.2.1 - e.1.1
  let dy := e.2.2 - e.1.2
  let px := p.1 - e.1.1
  let py := p.2 - e.1.2
  let len := dx * dx + dy * dy
  let t := px * dx + py * dy
  if len = 0 ∨ t ≤ 0 then decide (px * px + py * py ≤ r * r)
  else if len ≤ t then
    decide ((p.1 - e.2.1) * (p.1 - e.2.1) + (p.2 - e.2.2) * (p.2 - e.2.2) ≤ r * r)
  else decide (cross e.1 e.2 p * cross e.1 e.2 p ≤ r * r * len)

/-- The point lies within r mm of the polygon. -/
def nearPolygon (v : List (Int × Int)) (r : Nat) (p : Int × Int) : Bool := inPolygon v p || (edges v).any (edgeNear p r)

end Sys2Proof.Machine
end

