-- ==== Sys2Proof/Machine/Position.lean ====
section
/-! DEFINITION. The position solver (R236): least squares on a fix's distances and its angle in view. -/

namespace Sys2Proof.Machine

/-! ### Points -/

/-- A point or a vector in mm. -/
abbrev Vec := Rat × Rat × Rat

def vecOf (p : Int × Int × Int) : Vec := (p.1, p.2.1, p.2.2)
def Vec.sub (a b : Vec) : Vec := (a.1 - b.1, a.2.1 - b.2.1, a.2.2 - b.2.2)
def Vec.scale (r : Rat) (a : Vec) : Vec := (r * a.1, r * a.2.1, r * a.2.2)
def Vec.dot (a b : Vec) : Rat := a.1 * b.1 + a.2.1 * b.2.1 + a.2.2 * b.2.2
def Vec.prod (a b : Vec) : Vec := (a.2.1 * b.2.2 - a.2.2 * b.2.1, a.2.2 * b.1 - a.1 * b.2.2, a.1 * b.2.1 - a.2.1 * b.1)
def Vec.len (a : Vec) : Rat := sqrtRat (a.dot a)

/-- A vector of length 1; the zero vector stays. -/
def Vec.unit (a : Vec) : Vec := if a.len = 0 then a else a.scale (1 / a.len)

/-- The nearest whole mm. -/
def nearest (r : Rat) : Int := (r + 1 / 2).floor

/-! ### Residuals -/

/-- A residual in mm and its gradient. -/
structure Residual where
  value : Rat
  grad : Vec
  deriving DecidableEq, Repr

/-- The residual of a distance. -/
def Anchor.residual (a : Anchor) (p : Vec) : Residual :=
  let v := p.sub (vecOf (a.x, a.y, a.z))
  ⟨v.len - (a.mm : Rat), v.unit⟩

/-- The residual of an angle in view, 3° as 30 mm: the angle from the plane normal to A to B, positive towards B. -/
def AngleView.residual (w : AngleView) (p : Vec) : Residual :=
  let u := ((vecOf w.b).sub (vecOf w.a)).unit
  let mid : Vec := ((vecOf w.a).sub ((vecOf w.b).scale (-1))).scale (1 / 2)
  let v := p.sub mid
  let s := u.dot v.unit
  let c := sqrtRat (1 - s * s)
  let k := if v.len = 0 ∨ c = 0 then 0 else 10 * (360 * (fxOne : Rat) / (fxTau : Rat)) / (v.len * c)
  ⟨10 * (asinDeg s - w.deg), (u.sub (v.unit.scale s)).scale k⟩

def residuals (l : List Anchor) (w : Option AngleView) (p : Vec) : List Residual :=
  l.map (fun a => a.residual p) ++ (w.map (fun x => x.residual p)).toList

/-! ### Gauss–Newton -/

/-- The solution of a symmetric system given by its columns; none where it is singular. -/
def solve3 (a b c y : Vec) : Option Vec :=
  let det := a.dot (b.prod c)
  if det = 0 then none else some (y.dot (b.prod c) / det, a.dot (y.prod c) / det, a.dot (b.prod y) / det)

/-- One step, to 1/1024 mm; where the system is singular the point stays. -/
def gaussStep (l : List Anchor) (w : Option AngleView) (p : Vec) : Vec :=
  let rs := residuals l w p
  let sum := fun (f : Residual → Rat) => (rs.map f).sum
  let col := fun (g : Vec → Rat) => (sum (fun r => g r.grad * r.grad.1), sum (fun r => g r.grad * r.grad.2.1), sum (fun r => g r.grad * r.grad.2.2))
  let y : Vec := (sum (fun r => r.value * r.grad.1), sum (fun r => r.value * r.grad.2.1), sum (fun r => r.value * r.grad.2.2))
  match solve3 (col (·.1)) (col (·.2.1)) (col (·.2.2)) y with
  | none => p
  | some d =>
    let fine := fun (x : Rat) => ((1024 * x + 1 / 2).floor : Rat) / 1024
    let q := p.sub d
    (fine q.1, fine q.2.1, fine q.2.2)

/-- A run of 8 steps from a start point. -/
def solverRun (l : List Anchor) (w : Option AngleView) (start : Vec) : SolverRun :=
  let p := (List.range 8).foldl (fun q _ => gaussStep l w q) start
  let rs := residuals l w p
  ⟨nearest p.1, nearest p.2.1, nearest p.2.2, meanRat (rs.map (fun r => r.value * r.value))⟩

/-! ### Start points -/

/-- The centroid of a polygon; of its vertices where it has no area. -/
def centroid (v : List (Int × Int)) : Rat × Rat :=
  let c := fun (e : (Int × Int) × (Int × Int)) => ((e.1.1 * e.2.2 - e.2.1 * e.1.2 : Int) : Rat)
  let area := ((edges v).map c).sum
  if area = 0 then (meanRat (v.map (fun p => (p.1 : Rat))), meanRat (v.map (fun p => (p.2 : Rat))))
  else
    (((edges v).map (fun e => ((e.1.1 + e.2.1 : Int) : Rat) * c e)).sum / (3 * area),
      ((edges v).map (fun e => ((e.1.2 + e.2.2 : Int) : Rat) * c e)).sum / (3 * area))

/-- The centroid of the CAB polygon at the zone's mid-height. -/
def State.cabCentre (s : State) : Vec :=
  match s.zones.find? (fun z => z.kind == 1) with
  | some z => ((centroid z.verts).1, (centroid z.verts).2, ((z.zmin + z.zmax : Int) : Rat) / 2)
  | none => (0, 0, 0)

/-- The aerials nearest to a point, nearest first. -/
def State.aerialsNear (s : State) (p : Vec) : List Vec :=
  let all := ((s.img.run.map (·.aerials)).getD []).map (fun a => vecOf (a.x, a.y, a.z))
  sortBy (fun a b => decide ((a.sub p).dot (a.sub p) ≤ (b.sub p).dot (b.sub p))) all

/-- A point reflected through the plane of the three aerials nearest to it; none where they span no plane. -/
def State.reflected (s : State) (p : Vec) : Option Vec :=
  match s.aerialsNear p with
  | a :: b :: c :: _ =>
    let n := (b.sub a).prod (c.sub a)
    if n.dot n = 0 then none else some (p.sub (n.scale (2 * n.dot (p.sub a) / n.dot n)))
  | _ => none

/-! ### A fix's position -/

/-- A run is acceptable: rms residual 150 mm or less, z from 0 to 4,000 mm. -/
def SolverRun.acceptable (r : SolverRun) : Bool := decide (r.ms ≤ 150 * 150 ∧ 0 ≤ r.z ∧ r.z ≤ 4000)

/-- The position that acceptable runs give; runs in different sets of zones give none. -/
def State.chooseRun (s : State) (runs : List SolverRun) : Option (Int × Int × Int) :=
  let zs := fun (r : SolverRun) => (s.zonesAt (r.x, r.y, r.z)).map (·.zone)
  match runs.filter SolverRun.acceptable with
  | [] => none
  | [r] => some (r.x, r.y, r.z)
  | a :: b :: _ => if zs a ≠ zs b then none else if b.ms < a.ms then some (b.x, b.y, b.z) else some (a.x, a.y, a.z)

/-- The position of a fix (R236): from at least three distances, or two and an angle in view, started at the HELD tracker's position or
in the CAB, and from there reflected. -/
def State.solve (s : State) (held : Option (Int × Int × Int)) (l : List Anchor) (w : Option AngleView) : Option (Int × Int × Int) :=
  if l.length < 3 ∧ ¬ (l.length = 2 ∧ w.isSome) then none
  else
    let start := (held.map vecOf).getD s.cabCentre
    s.chooseRun (solverRun l w start :: ((s.reflected start).map (solverRun l w)).toList)

end Sys2Proof.Machine
end

