-- ==== Sys2Proof/Machine/Ranging.lean ====
section
/-! DEFINITION. The ranging engine's computation (08): channel responses, first path (R205, R206), stitching (R209, R210), angle of
arrival (R212). -/

namespace Sys2Proof.Machine

/-! ### The impulse response and its first path (R205) -/

/-- The response of each used tone: the received value over the known x(k), which has amplitude 1. -/
def responseOf (rx known : List Cx) : List Cx := (rx.zip known).map (fun p => p.1.mul p.2.conj)

/-- The Hann window over the used tones. -/
def hann (k : Int) : Rat := (1 + (phasor ((k : Rat) / 854)).re) / 2

/-- Tones with their frequencies as turns per air tick, windowed. -/
abbrev Tones := List (Rat × Cx)

/-- The tones of one channel: tone k turns k/65,536 of a turn in an air tick. -/
def channelTones (h : List Cx) : Tones := (usedTones.zip h).map (fun p => ((p.1 : Rat) / 65536, p.2.scale (hann p.1)))

/-- The impulse response at an offset in air ticks. -/
def impulse (h : Tones) (t : Int) : Cx := cxSum (h.map (fun p => p.2.mul (phasor (p.1 * (t : Rat)))))

/-- Tap power. -/
def tap (h : Tones) (t : Int) : Rat := (impulse h t).power

/-- The offsets of the grid: one air tick apart over the 1,024 samples around the FFT window's instant. -/
def grid : List Int := (List.range 65536).map (fun i => (i : Int) - 32768)

/-- The strongest tap; the earliest of equal ones. -/
def strongestTap (p : Int → Rat) (l : List Int) : Int := l.foldl (fun b t => if p b < p t then t else b) (l.headD 0)

/-- The mean tap power from 200 ns to 400 ns before an offset. -/
def noiseFloor (p : Int → Rat) (peak : Int) : Rat := meanRat ((List.range 7864).map (fun i => p (peak - 15728 + (i : Int))))

/-- The threshold: 9 dB above the noise floor and 18 dB below the peak. -/
def pathThreshold (n pmax : Rat) : Rat := max (8 * n) (pmax / 64)

/-- Parabolic interpolation over three taps: the vertex's offset from the middle one. -/
def parabola (a b c : Rat) : Rat := if a - 2 * b + c = 0 then 0 else (a - c) / (2 * (a - 2 * b + c))

/-- A first path: its offset in air ticks, its tap, the noise floor. -/
structure FirstPath where
  off : Rat
  grid : Int
  power : Rat
  noise : Rat
  deriving DecidableEq, Repr

/-- The earliest tap above the threshold from 60 ns before the strongest tap up to it, refined (R205). -/
def firstPathIn (p : Int → Rat) (peak : Int) : FirstPath :=
  let n := noiseFloor p peak
  let t := pathThreshold n (p peak)
  let first := ((List.range 2360).map (fun i => peak - 2359 + (i : Int))).find? (fun x => decide (t < p x))
  let f := first.getD peak
  ⟨(f : Rat) + parabola (p (f - 1)) (p f) (p (f + 1)), f, p f, n⟩

/-- The first path of a response. -/
def firstPath (h : Tones) : FirstPath := firstPathIn (tap h) (strongestTap (tap h) grid)

/-! ### A frame's measurement (R198, R206, R211) -/

/-- The responses of the eight ranging symbols of a frame. -/
def RangeRx.responses (r : RangeRx) (seed : Bytes) (pass f : Nat) : List (List Cx) :=
  r.syms.zipIdx.map (fun p => responseOf p.1 (rangeTones seed pass f (p.2 + 1)))

/-- An instant in air ticks moved by a rational offset, on the 40-bit counter. -/
def airRound (t : Nat) (d : Rat) : Nat := ((((t : Int) : Rat) + d + 1 / 2).floor % (2 ^ 40 : Int)).toNat

/-- What a frame's eight symbols measure (R206): each symbol's first path less its aerial's delay, their mean and spread, the quality. In
GUARD, symbols 5 to 8 arrive on B (R211). `delays` are the delays of the aerials of symbols 1 to 4 and 5 to 8. -/
def rangeMeasure (r : RangeRx) (seed : Bytes) (pass f : Nat) (delays : Int × Int) (cfo : Int) : RangeMeas :=
  let hs := r.responses seed pass f
  let paths := hs.map (fun h => firstPath (channelTones h))
  let offs := paths.zipIdx.map (fun p => p.1.off - ((if p.2 < 4 then delays.1 else delays.2 : Int) : Rat))
  let spread := offs.tail.foldl max (offs.headD 0) - offs.tail.foldl min (offs.headD 0)
  let mean := meanRat offs
  let noise := meanRat (paths.map (·.noise))
  let power := meanRat (paths.map (·.power))
  let tapOf := fun (l : List (List Cx)) => (cxSum (l.map (fun h => impulse (channelTones h) ((paths.headD ⟨0, 0, 0, 0⟩).grid)))).scale (1 / 4)
  ⟨airRound r.win mean, spread.ceil.toNat, if noise ≤ 0 then 255 else quarterDb (power / noise), cfo, cxMeans hs, mean,
    tapOf (hs.take 4), tapOf (hs.drop 4)⟩

/-! ### Stitching (R209, R210) -/

/-- A pass as stitching takes it: its channel, its response, its loopback response, and the delays in air ticks that bring the response
from the pass's own receive window to τ₀, at the channel's centre and across its tones. -/
structure StitchPass where
  chan : Nat
  resp : List Cx
  loop : List Cx
  centre : Rat
  slope : Rat
  deriving DecidableEq, Repr

/-- The absolute frequency of a tone as turns per air tick: channels lie 853⅓ tones apart. -/
def toneTurns (chan : Nat) (k : Int) : Rat := ((2560 * (chan : Int) + 3 * k : Int) : Rat) / 196608

/-- The tones of a pass at their absolute frequencies: the loopback response taken out, and referred to τ₀. -/
def StitchPass.tones (p : StitchPass) : List (Rat × Cx) :=
  (usedTones.zip p.resp).zipIdx.map (fun x =>
    let turn := toneTurns p.chan 0 * p.centre + (x.1.1 : Rat) / 65536 * p.slope
    (toneTurns p.chan x.1.1, (x.1.2.mul (p.loop.getD x.2 ⟨1, 0⟩).unit.conj).mul (phasor turn)))

/-- What joins the passes (R209): on the reply the phase at a channel's centre is the round trip's (R203), the slope across its tones the
first path's offset in the receive window; both are brought to τ₀, the mean of the times of flight. -/
def stitchPass (chan : Nat) (m : RangeMeas) (loop : List Cx) (tof tau : Rat) : StitchPass :=
  ⟨chan, m.resp, loop, 2 * tau, m.off - 2 * (tof - tau)⟩

/-- The Hann window over the whole stitched band of three channels. -/
def stitchWindow (mid f : Rat) : Rat := (1 + (phasor ((f - mid) * 196608 / (2 * 3 * 1280))).re) / 2

/-- The stitched response on the one-air-tick grid (R209). -/
def stitchedTones (ps : List StitchPass) : Tones :=
  let all := ps.flatMap StitchPass.tones
  let mid := meanRat (ps.map (fun p => toneTurns p.chan 0))
  all.map (fun p => (p.1, p.2.scale (stitchWindow mid p.1)))

/-- The unwrapped phases of tones in turns, each within half a turn of the one before. -/
def unwrapped (l : List Cx) : List Rat :=
  (l.foldl (fun (a : List Rat) z => match a with
    | [] => [z.arg]
    | p :: _ => (p + wrapTurn (z.arg - p)) :: a) []).reverse

/-- A straight line fitted by least squares to phases over frequencies, as its value at a frequency. -/
def lineAt (fs ys : List Rat) (at_ : Rat) : Rat :=
  let mf := meanRat fs
  let my := meanRat ys
  let num := ((fs.zip ys).map (fun p => (p.1 - mf) * (p.2 - my))).sum
  let den := (fs.map (fun f => (f - mf) * (f - mf))).sum
  if den = 0 then my else my + num / den * (at_ - mf)

/-- The phase gap at the join of two adjacent channels, in turns (R210): lines through the 32 outermost tones of each side, at the
midpoint between them. -/
def joinGap (lower upper : List (Rat × Cx)) : Rat :=
  let a := lower.drop (lower.length - 32)
  let b := upper.take 32
  let mid := ((a.getLast?.map (·.1)).getD 0 + (b.head?.map (·.1)).getD 0) / 2
  let line := fun (l : List (Rat × Cx)) => lineAt (l.map (·.1)) (unwrapped (l.map (·.2))) mid
  absRat (wrapTurn (line a - line b))

/-- The passes in ascending order of channel. -/
def byChannel (ps : List StitchPass) : List StitchPass :=
  [13, 14, 15, 16].flatMap (fun c => ps.filter (fun p => p.chan == c))

/-- The largest phase gap at a join. -/
def joinMax (ps : List StitchPass) : Rat :=
  let ts := (byChannel ps).map StitchPass.tones
  ((ts.zip (ts.drop 1)).map (fun p => joinGap p.1 p.2)).foldl max 0

/-- Δ of R209: the stitched first path's offset from τ₀ in one-way air ticks; the response is a round trip (R203). -/
def stitchDelta (ps : List StitchPass) : Rat := (firstPath (stitchedTones ps)).off / 2

/-! ### Angle of arrival (R212) -/

/-- s of a pass: the phase difference of the first-path taps less the offsets of AERIALS (1/65,536 turn), in wavelengths over the spacing
in mm. A spacing of 0 gives no angle, as if out of view. -/
def aoaSine (tapA tapB : Cx) (offA offB : Int) (mhz spacing : Nat) : Rat :=
  let phi := wrapTurn ((tapB.mul tapA.conj).arg - ((offB - offA : Int) : Rat) / 65536)
  if spacing = 0 then 1 else phi * (299792458 / 1000 / (mhz : Rat)) / (spacing : Rat)

/-- sin 60°. -/
def sin60 : Rat := sqrtRat (3 / 4)

end Sys2Proof.Machine
end

