-- ==== Sys2Proof/Machine/FoxOps.lean ====
section
/-! DEFINITION. The ranging engine's shared operations (08): timing of an exchange, its frames, its start, its registers. -/

namespace Sys2Proof.Machine

def FoxResult.code : FoxResult → Nat
  | .ok => 0 | .lane => 1 | .noReply => 2 | .noReport => 3 | .report => 4 | .rangeInconsistent => 5 | .passInconsistent => 6
  | .stitchBreak => 7 | .clockMismatch => 8 | .turnaround => 9 | .lowQuality => 10 | .outOfRange => 11 | .aoaInconsistent => 12
  | .guardInconsistent => 13 | .noAoa => 14 | .escort => 15

/-- Results that are strikes (R231). -/
def FoxResult.strike : FoxResult → Bool
  | .rangeInconsistent => true | .passInconsistent => true | .stitchBreak => true | .clockMismatch => true | .turnaround => true
  | .aoaInconsistent => true | .guardInconsistent => true
  | .ok => false | .lane => false | .noReply => false | .noReport => false | .report => false | .lowQuality => false
  | .outOfRange => false | .noAoa => false | .escort => false

/-! ### Timing (R198, R199, Table 8-1), in air ticks -/

/-- Channel of a pass, from 0 (Table 8-1). -/
def passChannel (stitch pass : Nat) : Nat := ([14, 15, if stitch = 1 then 16 else 13] : List Nat).getD pass 14

/-- Passes of a grade (R191). -/
def passesOf (grade : Nat) : Nat := if grade = 0 then 1 else 3

/-- The length of a RANGE_POLL or RANGE_REPLY in a class. -/
def rangeLen (cls : Nat) : Nat := frameUnits 4 cls 0 false * airUnit

/-- The marker of a RANGE_POLL or RANGE_REPLY after its start: sync, long training, header, 128 samples of prefix (R198). -/
def rangeMarker (cls : Nat) : Nat :=
  ((if cls = 1 then 32 else 16) + 6 + (128 + codedN cls - 1) / codedN cls * 3) * airUnit + 128 * 64

/-- The marker of a RANGE_FINAL after its start: sync and the 256-sample prefix (R198). -/
def finalMarker (cls : Nat) : Nat := (if cls = 1 then 32 else 16) * airUnit + 256 * 64

/-- The duration of an exchange (Table 8-2, Table 8-3). -/
def exchangeLen (grade cls : Nat) : Nat :=
  let n := passesOf grade
  n * (2 * rangeLen cls + airTenths 300) + (n - 1) * airTenths 250 + airTenths 200 +
    frameUnits 6 cls (9 + 10 * n) true * airUnit + airTenths 250 + frameUnits 7 cls (9 + 11 * n) true * airUnit

/-- A channel's centre frequency in MHz (R136). -/
def channelMHz (c : Nat) : Nat := 512 * c

/-! ### Exchanges -/

def State.exOn (s : State) (n : Nat) : Option Exch := s.fox.ex.getD n none

def setEx (n : Nat) (e : Option Exch) (s : State) : State :=
  let t := { s with fox := { s.fox with ex := s.fox.ex.set n e } }
  if e.isSome then t.setBitAt Reg.FOX_STAT_RUN n
  else if (s.fox.oh.getD n none).isNone then t.clearBitAt Reg.FOX_STAT_RUN n else t

def State.ohOn (s : State) (n : Nat) : Option Overhear := s.fox.oh.getD n none

def setOh (n : Nat) (o : Option Overhear) (s : State) : State :=
  let t := { s with fox := { s.fox with oh := s.fox.oh.set n o } }
  if o.isSome then t.setBitAt Reg.FOX_STAT_RUN n
  else if (s.fox.ex.getD n none).isNone then t.clearBitAt Reg.FOX_STAT_RUN n else t

def State.sessionOf (s : State) (record : Nat) : Option Session := s.ses.ss.find? (fun x => x.record == record)

def modifySession (record : Nat) (f : Session → Session) (s : State) : State :=
  { s with ses := { s.ses with ss := s.ses.ss.map (fun x => if x.record = record then f x else x) } }

/-- The air address of a record's fob (R223). -/
def fobAddr (record : Nat) : Nat := 0x40 + record

/-- The next RANGE_POLL of an exchange (R195, R196, R199): a timed transmit whose start at the aerial is `start`. False where the lane did
not take it. -/
def sendPoll (n : Nat) (ex : Exch) (start : Nat) (s : State) : Bool × State :=
  let x := s.sessionOf ex.record
  let q := ex.q1 + ex.pass
  let aer := ex.aerial.getD (s.firstAerial n)
  let f := airFrame ⟨4, ex.cls, 0, ((x.map (·.chSeq)).getD 0 + q) % 256, s.unitNum, fobAddr ex.record, 0⟩ none 0 0 0 []
  let c : TxCmd := ⟨f, some (ex.seed, ex.pass + 1), aer, some (airShift start (- s.aerDelay n aer)), some (290, 315)⟩
  laneTx n c (setEx n (some { ex with sentAt := s.now }) (laneMove n (passChannel ex.stitch ex.pass) s))

/-- RANGE_FINAL (R183, R198, R204), sealed under K_s; it carries the time at which its own marker will pass. -/
def sendFinal (n : Nat) (ex : Exch) (start : Nat) (s : State) : Bool × State :=
  match s.sessionOf ex.record with
  | none => (false, s)
  | some x =>
    let aer := ex.aerial.getD (s.firstAerial n)
    let ctr := x.txCtr + 1
    let first := sampleUp (airShift start (- s.aerDelay n aer))
    let mark := airShift (airAdd first (finalMarker ex.cls)) (s.aerDelay n aer)
    let pay := be 2 ex.q1 ++ be 1 x.grade ++ be 1 (passesOf ex.grade) ++
      (ex.polls.zip ex.replies).flatMap (fun p => be 5 p.1 ++ be 5 p.2.at_) ++ be 5 mark
    let h : AirHdr := ⟨6, ex.cls, pay.length, ctr % 256, s.unitNum, fobAddr ex.record, 16⟩
    let c : TxCmd := ⟨airFrame h (some (s.volKey x.record .kS)) x.fobId 0 ctr pay, none, aer, some (first % 2 ^ 40), some (230, 270)⟩
    laneTx n c (modifySession ex.record (fun y => { y with txCtr := ctr })
      (setEx n (some { ex with finalAt := some mark, sentAt := s.now }) s))

/-- The end of a received RANGE_REPLY at the aerial. -/
def replyEnd (cls : Nat) (m : RangeMeas) : Nat := airShift (airAdd m.at_ (rangeLen cls)) (- (rangeMarker cls : Int))

/-! ### The start of an exchange -/

/-- The mask of the units that are to overhear (R89): those UNITS lists for it that are in service, in no quarantine. -/
def State.listeners (s : State) : Nat :=
  match s.img.run with
  | none => 0
  | some i =>
    (i.units.filter (fun u => u.overhear == 1 && u.unit != s.unitNum && s.get Reg.SETT_MAP_V / 2 ^ (u.unit - 1) % 2 == 1 &&
      s.sett.quarMask / 2 ^ (u.unit - 1) % 2 == 0)).foldl
      (fun m u => m ||| 2 ^ (u.unit - 1)) 0

/-- OVERHEAR_PLAN's payload (R89; log 16). -/
def Plan.bytes (p : Plan) : Bytes :=
  be 2 p.exch ++ be 8 p.start ++ be 2 p.air ++ be 1 p.lane ++ be 1 p.stitch ++ be 1 p.grade ++ be 4 p.fob ++ be 2 p.mask ++ p.seed

def Plan.of (b : Bytes) : Plan :=
  ⟨fieldBe b 0 2, fieldBe b 2 8, fieldBe b 10 2, fieldBe b 12 1, fieldBe b 13 1, fieldBe b 14 1, fieldBe b 15 4, fieldBe b 19 2,
    sub b 21 16⟩

/-- The aerial of a lane that lies more than 500 mm from a point (R235). -/
def State.farAerial (s : State) (n : Nat) (p : Int × Int × Int) : Option Nat :=
  [0, 1].find? (fun a => s.get (Reg.AIR_LN_CFG_AMASK n) / 2 ^ a % 2 == 1 &&
    (s.aerial s.unitNum n a).any (fun e => decide (500 < pointDist (e.x, e.y, e.z) p)))

/-- The window in which a listener expects a pass whose RANGE_POLL starts at a time (air ticks since reset): from 2 µs before it until 3 µs
after the latest RANGE_REPLY that R201 allows; before the first poll is heard, that of class C1 (R215). -/
def listenWindow (start : Nat) (cls : Option Nat) : Nat × Nat :=
  (start - airTenths 20, start + 2 * rangeLen (cls.getD 1) + airTenths 315 + airTenths 30)

/-- A lane listens for a pass: it tunes to the pass's channel and opens its receiver for the window. -/
def listenPass (n chan start : Nat) (cls : Option Nat) (s : State) : State :=
  let w := listenWindow start cls
  laneListenFrom n (w.1 - airTenths 40) (some w.2) (laneMove n chan s)

/-- The head's second lane listens without a plan frame where it is free and far enough (R235). -/
def listenSecond (n : Nat) (p : Plan) (start : Nat) (s : State) : State :=
  let m := 1 - n
  match s.aerial s.unitNum n (s.firstAerial n) with
  | none => s
  | some a =>
    match s.farAerial m (a.x, a.y, a.z) with
    | none => s
    | some aer =>
      if s.laneServes m ∧ (s.lane m).held.isNone ∧ (s.exOn m).isNone ∧ (s.ohOn m).isNone then
        listenPass m 14 start none (setOh m (some ⟨p, true, aer, none, [], []⟩) (laneHold m .p0 14 s))
      else s

/-- The gap from the moment a RANGING_EXCHANGE is taken up to its first RANGE_POLL, 250 µs: 200 µs for the plan (R89) and 100 µs for
the symbols (R197) have passed by then. -/
def exchangeLead : Nat := airTenths 2500

/-- The lane of an exchange: for GUARD one with both aerials, if one is free (R211); a second exchange takes the other lane where it can start
within the 50 µs that remain (R213); otherwise the session's. -/
def State.exchangeLane (s : State) (x : Session) (second : Bool) : Nat :=
  let other := 1 - x.lane
  let free := s.laneServes other && (s.lane other).held.isNone && (s.exOn other).isNone
  let ready := second && decide (s.laneDelay other 14 + 6 ≤ 50)
  if x.grade = 2 ∧ free ∧ s.laneBoth other ∧ (ready ∨ ¬ second ∧ ¬ s.laneBoth x.lane) then other else x.lane

/-- An OVERHEAR_PLAN of an exchange that starts some air ticks from now is broadcast where units are to listen (R89). -/
def sendPlan (q1 lane lead grade : Nat) (x : Session) (s : State) : State :=
  let p : Plan := ⟨q1 % 65536, s.chron.count.toNat + lead / 9375, lead % 9375, lane, x.stitch, grade, x.fobId, s.listeners,
    exchangeSeed (s.volKey x.record .kR) x.fobId q1⟩
  if s.listeners = 0 then s
  else
    settSend 0x0E true 1 .p0 p.bytes
      { s with sett := { s.sett with plans := (p, s.now + (lead + exchangeLen grade x.cls) / 9375 + 1) :: s.sett.plans } }

/-- An exchange starts on a lane (R191, R195): plan, second lane, first RANGE_POLL. A GUARD fix's second exchange, whose start `at_` is given,
was planned with its first (R89, R213). False where the lane did not take it. -/
def exchangeStart (n : Nat) (x : Session) (at_ : Option Nat) (s : State) : Bool × State :=
  let q1 := x.polls + 1
  let seed := exchangeSeed (s.volKey x.record .kR) x.fobId q1
  let noAoa := x.grade == 2 && !s.laneBoth n
  let grade := if noAoa then 1 else x.grade
  let first := at_.getD (airAdd s.airNow exchangeLead)
  let s := if at_.isSome then s
    else
      let t := sendPlan q1 n exchangeLead grade x s
      if grade = 2 then sendPlan (q1 + 3) (s.exchangeLane { x with lane := n } true) (exchangeLead + exchangeLen grade x.cls + airTenths 500) grade x t else t
  let s := if at_.isSome then s
    else
      let p : Plan := ⟨q1 % 65536, s.chron.count.toNat + exchangeLead / 9375, exchangeLead % 9375, n, x.stitch, grade, x.fobId, 0, seed⟩
      listenSecond n p (s.airAbs + exchangeLead) s
  let ex : Exch := ⟨x.record, seed, q1, grade, noAoa, x.stitch, x.cls, 0, [], [], none, s.now, at_.isSome, none, [], []⟩
  sendPoll n ex first (s.setLane n { s.lane n with search := false })

/-! ### Registers (R222) -/

/-- The counters of Table 8-6's rejections. -/
def foxCount (r : FoxResult) (s : State) : State :=
  let t := if r = .ok then s.count Reg.FOX_CNT_OK 1 else s.count Reg.FOX_CNT_REJ 1
  match r with
  | .rangeInconsistent => t.count Reg.FOX_REJ0_SPRD 1
  | .passInconsistent => t.count Reg.FOX_REJ0_PASS 1
  | .stitchBreak => t.count Reg.FOX_REJ0_STCH 1
  | .clockMismatch => t.count Reg.FOX_REJ0_CLK 1
  | .turnaround => t.count Reg.FOX_REJ1_TURN 1
  | .lowQuality => t.count Reg.FOX_REJ1_LOWQ 1
  | .outOfRange => t.count Reg.FOX_REJ1_OOR 1
  | .aoaInconsistent => t.count Reg.FOX_REJ1_ANG 1
  | .guardInconsistent => t.count Reg.FOX_REJ1_ANG 1
  | .ok | .lane | .noReply | .noReport | .report | .noAoa | .escort => t

/-- FOX_RES of a lane. -/
def foxRes (n : Nat) (ex : Exch) (r : FoxResult) (s : State) : State :=
  (((s.put (Reg.FOX_RES_RES n) r.code).put (Reg.FOX_RES_GRADE n) ex.grade).put (Reg.FOX_RES_CLASS n) ex.cls).put (Reg.FOX_RES_EXCH n)
    (ex.q1 % 65536)

/-- The outstanding plan of an exchange is over (R258). -/
def planOver (q1 : Nat) (s : State) : State :=
  { s with sett := { s.sett with plans := s.sett.plans.filter (fun p => p.1.exch != q1 % 65536) } }

/-- The exchange leaves its lane. -/
def exchangeOver (n : Nat) (ex : Exch) (s : State) : State :=
  let m := 1 - n
  let t := planOver ex.q1 (setEx n none s)
  match t.ohOn m with
  | some o => if o.own then laneFree m (setOh m none t) else t
  | none => t

end Sys2Proof.Machine
end

