-- ==== Sys2Proof/Machine/SesOps.lean ====
section
/-! DEFINITION. The session engine's shared operations (09): triggers, challenges, evidence, decisions, release. -/

namespace Sys2Proof.Machine

/-! ### Triggers (Table 9-5, Table 9-7) -/

/-- The decision of a trigger (SES_DEC.KIND); none for RANGE_FINE, which only updates trackers. Codes 1 and 2 are the model's own: a
WELCOME poll and the remote unlock of a NOTICE, which need no bound entries. -/
def Trigger.kind (t : Trigger) : Option Nat :=
  if t.code = 1 then some 2
  else if t.code = 2 then some 4
  else if 0x10 ≤ t.code ∧ t.code < 0x18 then some 0
  else if 0x18 ≤ t.code ∧ t.code < 0x24 then some 1
  else if 0x28 ≤ t.code ∧ t.code < 0x2C then some 5
  else if t.wm = 3 then none
  else some 7

/-- The right a decision needs; RANGE_FINE uses the entries and the fobs of the key check. -/
def kindRight : Option Nat → Nat
  | some 0 => rightEntry
  | some 1 => rightEntry
  | some 2 => rightWelcome
  | some 3 => rightRemote
  | some 4 => rightRemote
  | _ => rightStart

/-- The grade a trigger requires (R235, Table 9-7): GUARD for a start release and the key check of code 0x30, otherwise FINE. An
LF-only key check needs no exchange and is challenged at the profile's grade (R37). -/
def State.trigGrade (s : State) (t : Trigger) : Nat :=
  match t.kind with
  | some 5 => 2
  | some 7 => if t.code = 0x31 then s.get Reg.SES_PROF_GRADE else 2
  | _ => 1

/-- The POLLS entries bound to a code from its first WAKE entry on (R232), those that are not LOCATE or those that are; an
entry that cannot be sent is skipped (R118). RANGE_FINE and KEY_CHECK share code 0x30. -/
def State.boundEntries (s : State) (code : Nat) (locate : Bool) : List Nat :=
  match s.img.run with
  | none => []
  | some i =>
    let all := (i.polls.zipIdx.filter (fun p => p.1.profile == code)).dropWhile (fun p => p.1.command != 0)
    ((all.filter (fun p => (p.1.command == 1) == locate)).map (·.2)).filter (fun e => !s.lf.bad.contains e)

/-- The entries a trigger runs: a WELCOME poll has its own entry only. -/
def State.trigEntries (s : State) (t : Trigger) (locate : Bool) : List Nat :=
  if t.code = 1 then (if locate then [] else [t.entry]) else if t.code = 2 then [] else s.boundEntries t.code locate

def State.runOf (s : State) (id : Nat) : Option TrigRun := s.ses.runs.find? (fun r => r.id == id)

/-- The sessions that serve a run. -/
def State.sessionsOf (s : State) (id : Nat) : List Session := s.ses.ss.filter (fun x => x.jobs.any (fun j => j.1 == id))

/-! ### Messages and records of decisions (R240, Table 9-8) -/

/-- The driver ID of a record. -/
def State.driverOf (s : State) (n : Nat) : Nat := ((s.fob n).map (·.driver)).getD 0

def State.metres (s : State) : Nat :=
  match s.motion.cfg with
  | none => 0
  | some c => if c.k = 0 then 0 else s.motion.pulses * 1000 / c.k.natAbs % 2 ^ 32

/-- A decision is entered in SES_DEC and SES_CNT. -/
def noteDecision (kind reason record zone : Nat) (s : State) : State :=
  let t := (((((s.setBit Reg.SES_DEC_NEW true).put Reg.SES_DEC_KIND kind).put Reg.SES_DEC_REASON reason).put Reg.SES_DEC_FOB
    (if record = 0xFF then 0 else record)).put Reg.SES_DEC_ZONE zone)
  if reason = 0 then t.count Reg.SES_CNT_GRANTED 1 else t.count Reg.SES_CNT_REFUSED 1

/-- The ledger record of a decision (Table 12-3): DECISION, START_REFUSED, KEY_CHECK. -/
def decisionRecord (kind reason record zone coupled : Nat) (s : State) : State :=
  let id := ((s.fob record).map (·.fobId)).getD 0
  if kind ≤ 4 then logRec 0x14 (be 1 kind ++ be 1 reason ++ be 1 zone ++ be 1 record ++ be 4 id) s
  else if kind = 7 then
    logRec 0x13 (be 1 (if reason = 0 then 1 else 0) ++ be 1 record ++ be 1 2 ++ [0] ++ be 4 s.metres ++
      be 8 (if reason = 0 then s.driverOf record else 0)) s
  else if reason = 0 then s
  else logRec 0x12 (be 1 reason ++ be 1 record ++ be 4 id ++ be 1 coupled) s

/-- The message of a decision (Table 9-8); an acting head's key checks write only to its buffer (R246). -/
def decisionMessage (kind reason record zone : Nat) (s : State) : State :=
  if kind = 7 then
    if s.isActing then s
    else canSend 0x34 (be 1 (if reason = 0 then 1 else 0) ++ be 1 record ++ [0, 0] ++
      be 8 (if reason = 0 then s.driverOf record else 0)) s
  else if reason ≠ 0 then canSend 0x33 (be 1 kind ++ be 1 reason ++ be 1 record ++ [0]) s
  else if kind = 0 then canSend 0x30 (be 1 zone ++ be 1 record ++ [0, 0]) s
  else if kind = 1 then canSend 0x31 (be 1 zone ++ be 1 record ++ [0, 0]) s
  else if kind = 2 then canSend 0x32 (be 1 zone ++ be 1 record ++ [0, 0]) s
  else if kind = 3 then canSend 0x31 (be 1 zone ++ be 1 record ++ [1, 0]) s
  else if kind = 4 then canSend 0x30 (be 1 zone ++ be 1 record ++ [1, 0]) s
  else s

/-- A decision other than a granted start is issued. -/
def decided (kind reason record zone coupled : Nat) (s : State) : State :=
  decisionMessage kind reason record zone (decisionRecord kind reason record zone coupled (noteDecision kind reason record zone s))

/-! ### The latch (R243, R244) -/

/-- The latch sets: both lines go to release, and are read back 100 µs later (R416); the 30 s window opens where ignition is off (R244). -/
def latchSet (s : State) : State :=
  let t := { s with lines := { s.lines with setAt := some s.now, ignWindow := if s.lines.ignition then none else some s.now } }
  (t.setBit Reg.SL_STAT_LATCH true).setBit Reg.SL_STAT_IGNW (!s.lines.ignition)

/-- The latch clears: both lines locked (R416). An overcurrent is tried again only while the latch stays set (R417); a driver that is
too hot stays so. -/
def latchClear (s : State) : State :=
  let t := { s with lines := { s.lines with setAt := none, ignWindow := none, ocH := none, ocL := none } }
  (((t.setBit Reg.SL_STAT_LATCH false).setBit Reg.SL_STAT_HREL false).setBit Reg.SL_STAT_LREL false).setBit Reg.SL_STAT_IGNW false

/-- Start release (R243): the latch, then tally counter 1; START_TOKEN follows the counter. Kind 0 air, 1 coupled. -/
def startRelease (record kind : Nat) (s : State) : State :=
  let t := latchSet (noteDecision (if kind = 0 then 5 else 6) 0 record 0 s)
  match submitTally .p0 ⟨1, none, .startToken⟩ t with
  | (.taken, u) => { u with ses := { u.ses with startWait := some ⟨record, kind⟩ } }
  | (_, u) => raise 0x5001 18 u

/-- START_TOKEN's payload (Table 9-10). -/
def startToken (s : State) (key : Bytes) (counter record kind : Nat) : Bytes :=
  let b := be 4 s.vehicle ++ be 4 counter ++ be 4 s.secs ++ be 1 record ++ be 1 kind ++ [0, 0]
  b ++ (cmac key b).take 8

/-- Tally counter 1 has been incremented: the token is sent, the START record written (R243). -/
def startTokenSend (s : State) : State :=
  match s.ses.startWait with
  | none => s
  | some w =>
    let t := { s with ses := { s.ses with startWait := none } }
    let c := (t.tally 1).value
    let t := match t.kTok with
      | some k => canSend 0x36 (startToken t k c w.record w.kind) t
      | none => t
    logRec 0x11 (be 1 w.kind ++ be 1 w.record ++ be 4 c ++ be 8 (t.driverOf w.record) ++ be 6 t.motion.pulses) t

/-! ### Trackers (R239) -/

def State.tracker (s : State) (n : Nat) : Tracker := s.ses.trk.getD n Tracker.init

def setTracker (n : Nat) (t : Tracker) (s : State) : State := { s with ses := { s.ses with trk := s.ses.trk.set n t } }

/-- UNKNOWN, all history cleared. -/
def trackerReset (n : Nat) (s : State) : State := setTracker n Tracker.init s

/-- A fix with a position: HELD; a move into HELD lets the fob be welcomed once more (Table 9-7). -/
def trackerFix (n : Nat) (f : Fix) (s : State) : State :=
  match f.pos with
  | none => s
  | some p =>
    let t := s.tracker n
    setTracker n { t with st := .held, pos := p, at_ := f.at_, stamp := s.chron.count.toNat, grade := f.grade, zones := f.zones, welcomed := t.welcomed && t.st == .held } s

/-- The fob of a record has been welcomed for its tracker's last move into HELD. -/
def trackerWelcomed (n : Nat) (s : State) : State := setTracker n { s.tracker n with welcomed := true } s

/-- A record is written or emptied (R239): its tracker forgets everything. -/
def recordWritten (n : Nat) (s : State) : State :=
  let t := trackerReset n s
  if (t.fob n).isSome then t else { t with ses := { t.ses with notices := t.ses.notices.filter (fun v => v.record != n) } }

/-- An authenticated LF result. -/
def trackerLf (n : Nat) (inside : Bool) (s : State) : State := setTracker n { s.tracker n with lfin := some (inside, s.chron.count.toNat) } s

/-! ### Runs -/

def removeRun (id : Nat) (s : State) : State :=
  let other := fun (i : QItem) => match i.work with
    | .lane r => r.run != some id
    | _ => true
  let drop := fun (s : State) (n : Nat) => s.setQueue (.lane n) { s.queue (.lane n) with items := (s.queue (.lane n)).items.filter other }
  [0, 1].foldl drop { s with ses := { s.ses with runs := s.ses.runs.filter (fun r => r.id != id) } }

/-- The jobs of a run leave their sessions; a session left without one ends and its keys are erased (R226). -/
def dropJobs (id : Nat) (s : State) : State :=
  let ss := s.ses.ss.map (fun x => { x with jobs := x.jobs.filter (fun j => j.1 != id) })
  volSweep { s with ses := { s.ses with ss := ss.filter (fun x => x.jobs ≠ []) } }

/-- A run is over: its sessions leave it, its lane is given back where nothing uses it. -/
def runOver (id : Nat) (s : State) : State :=
  laneFree 1 (laneFree 0 (removeRun id (dropJobs id s)))

/-- The smallest reason among the outcomes; ties by the lowest record. -/
def worst : List Outcome1 → Option Outcome1
  | [] => none
  | o :: os =>
    match worst os with
    | none => some o
    | some p => if p.reason < o.reason ∨ p.reason = o.reason ∧ p.record < o.record then some p else some o

/-- Whether a coupled start follows a start session that ended NO_FOB (R245). -/
def State.holderPresent (s : State) : Bool :=
  s.touch.sws.any (fun w => w.active && w.codes.any (fun c => decide (0x38 ≤ c ∧ c < 0x3C)))

/-- A coupled exchange that cannot begin ends with its result. -/
def ctRefused (res : LfResult) (s : State) : State :=
  decided 6 0xE 0xFF 0 res.code ((s.put Reg.LF_CT_STAT_LAST res.code))

/-- A coupled exchange joins the queue of the holder's bank as P0, which powers the bank (R97, R106); one without a holder, or that the queue
refuses, ends (log 93). -/
def coupledAsk (run : Nat) (s : State) : State :=
  match s.holder with
  | none => ctRefused .fault s
  | some h =>
    match enqueue (.bank (bankOf h.channel)) .p0 .session (.coupled run) s with
    | (.taken, t) => bankUse (bankOf h.channel) t
    | (_, t) => ctRefused .preempted t

/-- A run ends without a grant, with a reason: NO_FOB of a start may lead to a coupled exchange (R245); a WELCOME poll without an
answer, and RANGE_FINE, say nothing. -/
def runRefused (r : TrigRun) (o : Outcome1) (s : State) : State :=
  match r.trig.kind with
  | none => runOver r.id s
  | some 2 => if o.reason = 1 then runOver r.id s else decided 2 o.reason o.record o.zone 0 (runOver r.id s)
  | some 5 =>
    if o.reason = 1 ∧ s.coupledOn ∧ s.holderPresent ∧ s.isHead then
      runOver r.id (coupledAsk r.id s)
    else decided 5 o.reason o.record o.zone 0 (runOver r.id s)
  | some k => decided k o.reason o.record o.zone 0 (runOver r.id s)

/-- A run whose sessions have all ended ends with the first reason that applies (R240). -/
def runCheck (id : Nat) (s : State) : State :=
  match s.runOf id with
  | none => s
  | some r =>
    if r.opened ∧ r.replies = [] ∧ (s.sessionsOf id) = [] then
      match worst r.ended with
      | some o => runRefused r o s
      | none => runRefused r ⟨0xFF, 1, 0⟩ s
    else s

/-- A decision is granted for a record: it is issued and its run is over. -/
def runGranted (r : TrigRun) (record zone : Nat) (s : State) : State :=
  match r.trig.kind with
  | none => runOver r.id s
  | some 5 => startRelease record 0 (runOver r.id s)
  | some 2 => decided 2 0 record zone 0 (trackerWelcomed record (runOver r.id s))
  | some k => decided k 0 record zone 0 (runOver r.id s)

/-! ### Ends of sessions -/

/-- A session ends: its jobs end with a reason, K_s and K_r are erased (R226), its exchange stops. -/
def sessionEnd (record reason : Nat) (s : State) : State :=
  match s.sessionOf record with
  | none => s
  | some x =>
    let ids := x.jobs.map (·.1)
    let t := { s with ses := { s.ses with ss := s.ses.ss.filter (fun y => y.record != record),
                                          runs := s.ses.runs.map (fun r => if ids.contains r.id
                                            then { r with ended := r.ended ++ [⟨record, reason, 0⟩] } else r) },
                      fox := { s.fox with pair := s.fox.pair.filter (fun g => g.record != record) } }
    let stop := fun (n : Nat) (s : State) =>
      match s.exOn n with
      | some ex => if ex.record = record then laneFree n (exchangeOver n ex s) else s
      | none => s
    ids.foldl (fun s id => runCheck id s) (laneFree 1 (laneFree 0 (stop 1 (stop 0 (volSweep t)))))

/-- Four strikes within 60 s bar the fob (R231): replies of it that wait are ignored. -/
def barFob (record fobId : Nat) (s : State) : State :=
  let t := { s with ses := { s.ses with bars := (record, s.now) :: s.ses.bars.filter (fun b => b.1 != record),
                                        strikes := s.ses.strikes.filter (fun p => p.1 != record) } }
  let t := trackerReset record (t.count Reg.SES_STRK_BARS 1)
  let t := { t with ses := { t.ses with runs := t.ses.runs.map (fun r => { r with replies := r.replies.filter (fun w => w.record != record) }) } }
  let r := s.fob record
  let t := raise 0x7103 fobId t
  let t := canSend 0x35 (be 4 fobId) t
  logRec 0x15 (be 1 2 ++ be 1 record ++ be 1 ((r.map (·.gen)).getD 0) ++ [0] ++ be 4 fobId ++ be 8 ((r.map (·.driver)).getD 0)) t

/-- A strike (R231): it ends the fob's session with a reason; a STALE tracker becomes UNKNOWN. -/
def strike (record reason : Nat) (s : State) : State :=
  let old := s.recent 60000000 (((s.ses.strikes.find? (fun p => p.1 == record)).map (·.2)).getD [])
  let ts := s.now :: old
  let id := ((s.fob record).map (·.fobId)).getD 0
  let t := { s with ses := { s.ses with strikes := (record, ts) :: s.ses.strikes.filter (fun p => p.1 != record) } }
  let t := t.count Reg.SES_STRK_STRIKES 1
  let t := if (t.tracker record).st = .stale then trackerReset record t else t
  let t := sessionEnd record reason t
  if 4 ≤ ts.length then barFob record id t else t

/-! ### Challenges (R227, R228) -/

/-- A CHALLENGE for a session (R228), with a new N_u; without random bytes yet it stays unsent, and where there are none to come the
session ends with POLICY (log 17). -/
def sendChallenge (x : Session) (s : State) : State :=
  match randBytes false 16 s with
  | (.bytes nu, t) =>
    let seq := t.seqTo (fobAddr x.record)
    let pay := be 4 x.fobId ++ nu ++ be 1 x.grade ++ be 1 x.stitch ++ [0, 0]
    let f := airFrame ⟨2, x.cls, 24, seq, t.unitNum, fobAddr x.record, 0⟩ none 0 0 0 pay
    let t := modifySession x.record (fun y => { y with nu := nu, challenges := y.challenges + 1, sentAt := t.now, chSeq := seq,
                                                       polls := 0 }) (seqUsed (fobAddr x.record) t)
    let t := laneMove x.lane 14 t
    (laneTx x.lane ⟨f, none, t.firstAerial x.lane, none, some (1000, 4000)⟩ t).2
  | (.wait, t) => modifySession x.record (fun y => { y with sentAt := t.now }) t
  | (.fail, t) => sessionEnd x.record 0xA t

/-- Whether a lane can take the next CHALLENGE: idle, with no other dialogue of a session under way. -/
def State.laneQuiet (s : State) (n : Nat) : Bool :=
  (s.lane n).pend.isNone && (s.lane n).txEnd.isNone && (s.exOn n).isNone && !s.fox.pair.any (fun g => g.lane == n) &&
    !s.ses.ss.any (fun x => x.lane == n && x.challenges != 0 && !x.authed)

/-- The next session of a lane that waits for its CHALLENGE is challenged. -/
def challengeKick (n : Nat) (s : State) : State :=
  if s.laneQuiet n then
    match s.ses.ss.find? (fun x => x.lane == n && x.challenges == 0) with
    | some x => sendChallenge x s
    | none => s
  else s

/-- The stitch set of a new session (R228). -/
def State.stitchSet (s : State) : Nat := if s.barred 13 then 1 else 0

/-- A lane for a run's sessions: its own, or one taken now. -/
def runLaneTake (r : TrigRun) (s : State) : Nat × State :=
  if r.lane < 2 then (r.lane, s)
  else
    match laneTake 2 .p0 14 (some r.id) s with
    | (some n, t) => (n, t)
    | (none, t) => (2, t)

/-- The first reply of a run whose fob can be challenged now: it is in a session already, or a place is free and no session holds
its reply slot (R226). -/
def State.nextReply (s : State) (r : TrigRun) : Option WakeRep :=
  r.replies.find? (fun w => (s.sessionOf w.record).isSome ||
    (decide (s.ses.ss.length < 4) && !s.ses.ss.any (fun x => x.record % 4 == w.record % 4)))

/-- One reply of a run leads to a session (R226, R227): joined where the session there has the grade, otherwise a new one. -/
def openNext (id : Nat) (s : State) : State :=
  match s.runOf id with
  | none => s
  | some r =>
    if r.opened = false then s
    else
      match s.nextReply r with
      | none => s
      | some w =>
        let grade := s.trigGrade r.trig
        let t := modifyRun id (fun r => { r with replies := r.replies.filter (fun v => v.record != w.record) }) s
        match s.sessionOf w.record with
        | some y =>
          if grade ≤ y.grade then modifySession w.record (fun y => { y with jobs := y.jobs ++ [(id, r.trig.kind)] }) t
          else sessionEnd w.record 0xC (modifyRun id (fun r => { r with replies := w :: r.replies }) t)
        | none =>
          match runLaneTake r t with
          | (n, u) =>
            if 2 ≤ n then modifyRun id (fun r => { r with replies := w :: r.replies }) u
            else
              match s.activeFob w.record with
              | none => u
              | some f =>
                let x : Session := ⟨[(id, r.trig.kind)], w.record, f.fobId, grade, s.stitchSet, [], w.nonce, s.get Reg.SES_PROF_PL, 0,
                  s.now, false, w.cls, 0, 0, 0, 0, 0, none, [], 0, s.now, n⟩
                { u with ses := { u.ses with ss := u.ses.ss ++ [x] } }

/-- Whatever can go on does: sessions open, challenges go out, runs that are over end. -/
def sesKick (s : State) : State :=
  let ids := s.ses.runs.flatMap (fun r => [r.id, r.id, r.id, r.id])
  let t := ids.foldl (fun s id => openNext id s) s
  let t := challengeKick 1 (challengeKick 0 t)
  (t.ses.runs.map (·.id)).foldl (fun s id => runCheck id s) t

/-! ### Serving a trigger (R227) -/

/-- What a trigger leads to where no session can begin (R244, R246, R332). -/
def State.trigRefusal (s : State) (t : Trigger) : Option Nat :=
  if t.kind = some 5 ∧ s.isActing then some 0xB
  else if (s.slotKey 1).isNone then some 0xA
  else none

/-- A trigger that fired at a time is served: it opens a run whose WAKE goes out first. Without bound entries the input has no role (R232); a start while
the latch is set is answered REFUSED with OK and changes nothing (R244). -/
def serveTrigger (t : Trigger) (firedAt : Nat) (s : State) : State :=
  if t.kind = some 5 ∧ s.bit Reg.SL_STAT_LATCH then canSend 0x33 [5, 0, 0xFF, 0] s
  else if s.trigEntries t false = [] then s
  else
    match s.trigRefusal t, t.kind with
    | some reason, some k => decided k reason 0xFF 0 0 s
    | some _, none => s
    | none, _ =>
      let r : TrigRun := ⟨s.ses.runId, t, s.trigEntries t false, none, 1, false, false, none, none, 2, [], [], false, [], firedAt⟩
      runNext r.id { s with ses := { s.ses with runs := s.ses.runs ++ [r], runId := s.ses.runId + 1 } }

/-! ### Evidence and decisions (R240) -/

/-- Whether the LOCATE frames of a run have all been sent and their reply windows have closed. -/
def locatesOver (r : TrigRun) : Bool := r.located && r.todo == [] && r.cur.isNone && r.windowAt.isNone

/-- What one job of a session comes to on the evidence so far: none while evidence is awaited, otherwise the reason and the zone.
The checks stand in the order of Table 9-9's codes. -/
def State.judge (s : State) (x : Session) (r : TrigRun) : Option (Nat × Nat) :=
  let cab := fun (f : Fix) => (s.fixZones f).any (fun z => z.kind == 1)
  let need := if r.trig.kind = some 5 then 2 else 1
  let lfOnly := r.trig.kind == some 7 && r.trig.code == 0x31
  let lf := match x.lf with
    | some v => some v.1
    | none => if locatesOver r then some (r.trig.kind != some 5 && r.trig.kind != some 7) else none
  if ¬ lfOnly ∧ x.fixes.length < need ∧ 2 < x.fails then some (4, 0)
  else if ¬ lfOnly ∧ x.fixes = [] then none
  else
    match r.trig.kind with
    | none => some (0, 0)
    | some 0 =>
      match x.fixes with
      | [] => none
      | f :: _ =>
        let doors := (s.fixZones f).filter (fun z => z.kind == 2 || z.kind == 3)
        if f.pos.isNone then some (5, 0)
        else if doors = [] ∨ cab f then some (6, 0)
        else match lf with
          | none => none
          | some true => some (7, 0)
          | some false => some (0, lowestZone doors)
    | some 1 =>
      match x.fixes with
      | [] => none
      | f :: _ =>
        if f.pos.isNone then some (5, 0)
        else if cab f then some (6, 0)
        else if r.inside then some (8, 0)
        else some (0, lowestZone (s.fixZones f))
    | some 2 =>
      match x.fixes with
      | [] => none
      | f :: _ =>
        match f.pos with
        | none => some (5, 0)
        | some p =>
          let wz := (s.fixZones f).filter (fun z => z.kind == 4)
          let none_ := (s.zones.filter (fun z => z.kind == 4)) == []
          let reach := (s.img.run.map (fun i => i.fobpol.welcome)).getD 0 * 10
          let near := (s.zones.filter (fun z => z.kind == 1)).any (fun z => nearPolygon z.verts reach (p.1, p.2.1))
          if wz ≠ [] then some (0, lowestZone wz)
          else if none_ ∧ near then some (0, lowestZone (s.fixZones f))
          else some (6, 0)
    | some 4 =>
      match x.fixes with
      | [] => none
      | f :: _ => if f.dist ≤ 30000 then some (0, 0) else some (6, 0)
    | some 5 =>
      if x.fixes.any (fun f => f.pos.isNone) then some (5, 0)
      else if x.fixes.any (fun f => !cab f) then some (6, 0)
      else match lf with
        | none => none
        | some false => some (7, 0)
        | some true =>
          match x.fixes, x.lf with
          | f :: g :: _, some v =>
            let times := [f.at_, g.at_, v.2]
            let span := times.foldl max 0 - times.foldl min f.at_
            match f.pos, g.pos with
            | some p, some q =>
              if 200 * 200 < pointSq p q ∨ 300 * 4194304 < span * 1000 then some (0xD, 0) else some (0, lowestZone (s.fixZones f))
            | _, _ => some (5, 0)
          | _, _ => none
    | some 7 =>
      if x.fixes.any (fun f => f.pos.isNone) ∧ ¬ lfOnly then some (5, 0)
      else if x.fixes.any (fun f => !cab f) ∧ ¬ lfOnly then some (6, 0)
      else match lf with
        | none => none
        | some false => some (7, 0)
        | some true => some (0, 0)
    | some _ => some (0, 0)

/-- Whether a decision waits (R241): unlock and lock requests of triggers of one millisecond go out in the triggers' order. -/
def State.heldBack (s : State) (r : TrigRun) : Bool :=
  let door := fun (q : TrigRun) => q.trig.kind == some 0 || q.trig.kind == some 1
  door r && s.ses.runs.any (fun q => door q && decide (q.id < r.id ∧ (r.firedAt - q.firedAt) * 1000 < 4194304))

/-- A session's job is judged; a refused job leaves the session. A fob is welcomed once for each move of its tracker into HELD: a further
welcome says nothing (Table 9-7). -/
def judgeJob (record : Nat) (id : Nat) (s : State) : State :=
  match s.sessionOf record, s.runOf id with
  | some x, some r =>
    match s.judge x r with
    | none => s
    | some (0, zone) =>
      if s.heldBack r then s
      else if r.trig.kind = some 2 ∧ (s.tracker record).welcomed then runOver r.id s
      else runGranted r record zone s
    | some (reason, zone) =>
      if x.jobs.length ≤ 1 then sessionEnd record reason s
      else
        let t := modifyRun id (fun r => { r with ended := r.ended ++ [⟨record, reason, zone⟩] })
          (modifySession record (fun x => { x with jobs := x.jobs.filter (fun j => j.1 != id) }) s)
        runCheck id t
  | _, _ => s

/-- The sessions of every run are judged, the lowest record first (R241). -/
def judgeAll (s : State) : State :=
  let pairs := (List.range 64).flatMap (fun n =>
    match s.sessionOf n with
    | some x => if x.authed then x.jobs.map (fun j => (n, j.1)) else []
    | none => [])
  sesKick (pairs.foldl (fun s p => judgeJob p.1 p.2 s) s)

/-- The LOCATE entries of a run are taken up once a session of it is authenticated (R233). -/
def startLocates (id : Nat) (s : State) : State :=
  match s.runOf id with
  | none => s
  | some r =>
    if r.located then s
    else
      runNext id (modifyRun id (fun r => { r with located := true, todo := s.trigEntries r.trig true }) s)

/-- A session whose proof passes is authenticated: K_s and K_r are derived into volatile registers, of which at most four sessions leave room
(R228, R328). -/
def authenticated (record : Nat) (kf : Bytes) (s : State) : State :=
  match s.sessionOf record with
  | none => s
  | some x =>
    let k := kSession kf x.nu x.nf
    if s.volRoom 2 = false then s
    else
    let t := volPut ⟨.kR, record, k.2⟩ (volPut ⟨.kS, record, k.1⟩ (modifySession record (fun y => { y with authed := true, lastAt := s.now }) s))
    judgeAll (x.jobs.foldl (fun s j => startLocates j.1 s) t)

/-! ### Replies to WAKE and LOCATE (R227 to R229) -/

/-- The tone entries of a WAKE_REPLY's payload. -/
def replyTones (p : Bytes) : List (List Nat) :=
  (chunks 6 (p.drop 27)).map (fun c => [fieldBe c 0 2, fieldBe c 2 2, fieldBe c 4 2])

/-- A reply to WAKE joins its run's replies (R227); one from a barred fob is ignored (R231). -/
def wakeReplied (id record cls : Nat) (p : Bytes) (lane : Nat) (s : State) : State :=
  match s.runOf id with
  | none => s
  | some r =>
    if s.isBarred record ∨ r.replies.any (fun w => w.record == record) then s
    else
      let t := (r.last.map (fun e => s.normTones e r.ipk (replyTones p))).getD []
      modifyRun id (fun r => { r with replies := r.replies ++ [⟨record, sub p 9 16, replyTones p, cls, lane⟩],
                                      inside := r.inside || lfInside t }) s

/-- A reply to LOCATE: its tag is checked, and its LF result counts as authenticated (R229, R234). -/
def locateReplied (id record cls : Nat) (p : Bytes) (s : State) : State :=
  match s.sessionOf record, s.runOf id with
  | some x, some r =>
    if x.authed = false then s
    else if sub p 9 16 ≠ locateTag (s.volKey record .kS) x.nu (x.locates + 1) p then sesKick (strike record 2 s)
    else
      let inside := lfInside ((r.last.map (fun e => s.normTones e r.ipk (replyTones p))).getD [])
      judgeAll (trackerLf record inside
        (modifySession record (fun y => { y with locates := y.locates + 1, lf := some (inside, s.now), lastAt := s.now, cls := cls }) s))
  | _, _ => s

/-- A WAKE_REPLY's payload reaches the session engine, from a lane of its own or from a satellite's relay window: `unit` received
it. -/
def replyDelivered (unit lane cls src : Nat) (p : Bytes) (s : State) : State :=
  let record := src - 0x40
  match s.activeFob record with
  | none => s
  | some f =>
    if src < 0x40 ∨ fieldBe p 0 4 ≠ f.fobId ∨ fieldBe p 4 3 ≠ wakeId s.vehicle then s
    else
      let runs := s.ses.runs.filter (fun r => r.windowAt.isSome && (r.last.bind s.pollE).any (fun e => e.unit == unit) &&
        (unit != s.unitNum || r.lane == lane))
      let cmd := fieldBe p 7 1 / 32
      match runs with
      | [] => s
      | r :: _ =>
        if cmd = 0 then wakeReplied r.id record cls p lane s
        else if cmd = 1 then locateReplied r.id record cls p s
        else s

end Sys2Proof.Machine
end

