-- ==== Sys2Proof/Machine/Ses.lean ====
section
/-! DEFINITION. Commands of the session engine (09): triggers, replies, responses, notices, enrolment, expiries. -/

namespace Sys2Proof.Machine

/-! ### Reception -/

/-- What a lane makes of a frame of a type (R186): the class detected, its header and the status of checks 1 to 6. None while the
lane has detected nothing, where the frame is of another type, or a frame other than a ranging frame off the home channel (R136). -/
def frameAt (n typ : Nat) (planned : Bool) (r : AirRx) (s : State) : Option (Nat × AirHdr × RxStatus) :=
  let h := AirHdr.of r.frame.hdr
  match s.detected n with
  | none => none
  | some cls =>
    let st := rxChecks s.unitNum cls planned r
    if st = .ok ∧ h.typ ≠ typ ∨ (h.typ < 4 ∨ 7 < h.typ) ∧ s.get (Reg.AIR_LN_STAT_CHAN n) ≠ 14 then none else some (cls, h, st)

/-- A MIC or REPLAY failure that names an enrolled fob is a strike (R186, R231). -/
def rxStrike (src : Nat) (st : RxStatus) (s : State) : State :=
  if (st = .mic ∨ st = .replay) ∧ 0x40 ≤ src ∧ (s.fob (src - 0x40)).isSome then sesKick (strike (src - 0x40) 2 s) else s

/-- An event word of a satellite on its way to the head (R230, R414). -/
def satEvent (word : Nat) (s : State) : State :=
  settSend 0x11 false 1 .p0 (be 2 0xFFFF ++ [0, 1] ++ be 4 word)
    { s with sett := { s.sett with satEvents := s.sett.satEvents ++ [word], satEventAt := s.now } }

/-- A satellite stores an air frame addressed to the vehicle in a free relay slot and reports it (R230). -/
def relayStore (f : AirFrame) (s : State) : State :=
  match (List.range 8).find? (fun k => !s.bitAt Reg.SES_RELAYV_VALID k) with
  | none => raise 0x7104 0 s
  | some k =>
    let t := { s with ses := { s.ses with relay := s.ses.relay.set k (be 8 f.hdr ++ (f.body.take (AirHdr.of f.hdr).len).take 248) } }
    satEvent (3 * 2 ^ 24 + k * 2 ^ 16) (t.setBitAt Reg.SES_RELAYV_VALID k)

/-- A frame addressed to the vehicle that a satellite has accepted: whatever its type, it is stored for the head (R230). -/
def relayed (n cls : Nat) (h : AirHdr) (st : RxStatus) (r : AirRx) (s : State) : Option State :=
  if st = .ok ∧ h.dst = 0 ∧ ¬ (s.isHead ∨ s.isActing) then some (relayStore r.frame (rxReport n cls r st s)) else none

/-- WAKE_REPLY (R227, R229, R230): a fob's reply to a WAKE or LOCATE arrives on a lane. -/
def execWakeReply (n : Nat) (r : AirRx) (s : State) : Host.Outcome State Fault Refusal :=
  match frameAt n 1 false r s with
  | none => .next s
  | some (cls, h, st) =>
    match relayed n cls h st r s with
    | some t => .next t
    | none =>
      let t := rxReport n cls r st s
      if st = .ok ∧ (t.isHead ∨ t.isActing) then .next (replyDelivered t.unitNum n cls h.src (plainPayload r) t) else .next t

/-- AIR_RESPONSE (R228): the proof is checked; a session is authenticated, or ends NO_AUTH with a strike. -/
def execAirResponse (n : Nat) (r : AirRx) (s : State) : Host.Outcome State Fault Refusal :=
  match frameAt n 3 false r s with
  | none => .next s
  | some (cls, h, st) =>
    let t := rxReport n cls r st s
    let record := h.src - 0x40
    match st, t.sessionOf record with
    | .ok, none => .next ((relayed n cls h st r s).getD t)
    | .ok, some x =>
      let p := plainPayload r
      if h.src < 0x40 ∨ x.lane ≠ n ∨ x.authed ∨ x.challenges = 0 ∨ fieldBe p 0 4 ≠ x.fobId then .next t
      else
        match (t.activeFob record).bind (fun f => t.kf f.fobId f.gen) with
        | none => .next (sesKick (sessionEnd record 0xA t))
        | some kf =>
          if sub p 4 16 = proofOf kf x.fobId t.vehicle x.nu x.nf x.grade x.stitch then .next (authenticated record kf t)
          else .next (sesKick (strike record 2 t))
    | _, _ => .next t

/-! ### Triggers, windows, timeouts -/

/-- The trigger served next (R17, R241): of those that arrived within the same millisecond the one with the lowest code. -/
def nextTrigger (s : State) : Option (QItem × State) :=
  let items := (s.queue .session).items
  match popBest items with
  | none => none
  | some (i, _) =>
    let code : QItem → Nat := fun q => match q.work with
      | .trigger t => t.code
      | _ => 0
    let same := items.filter (fun q => q.cls == i.cls && decide ((q.at_ - i.at_) * 1000 < 4194304))
    let best := same.foldl (fun b q => if code q < code b then q else b) i
    some (best, s.setQueue .session { s.queue .session with items := items.erase best })

/-- SESSION_TRIGGER (R226, R227, R241): the next trigger of the session event queue is served; it waits while four sessions run or
no profile has been entered. -/
def execSessionTrigger (s : State) : Host.Outcome State Fault Refusal :=
  if s.profile = 7 ∨ ¬ (s.isHead ∨ s.isActing) ∨ 4 ≤ s.ses.ss.length then .next s
  else
    match nextTrigger s with
    | none => .next s
    | some (i, t) =>
      match i.work with
      | .trigger g => .next (serveTrigger g i.at_ t)
      | _ => .next t

/-- Whether a fob may be challenged for a run (R227, R233). -/
def State.eligible (s : State) (r : TrigRun) (w : WakeRep) : Bool :=
  (s.activeFob w.record).any (fun f => f.has (kindRight r.trig.kind)) && !s.isBarred w.record &&
    (r.trig.code != 1 || (s.tracker w.record).st != .held)

/-- The replies in the order in which they are challenged (R227). -/
def State.ordered (s : State) (r : TrigRun) (ws : List WakeRep) : List WakeRep :=
  let key := fun (w : WakeRep) => strongest ((r.last.map (fun e => s.normTones e r.ipk w.tones)).getD [])
  sortBy (fun a b => decide (key b ≤ key a)) ws

/-- The window of a WAKE frame has closed with no frame left to send: challenges, a retry, or NO_FOB (R227). -/
def wakeOver (r : TrigRun) (s : State) : State :=
  if r.replies = [] then
    if r.tries < 2 then
      runNext r.id (modifyRun r.id (fun r => { r with tries := 2, todo := s.trigEntries r.trig false }) s)
    else sesKick (modifyRun r.id (fun r => { r with opened := true }) s)
  else
    let ok := r.replies.filter (s.eligible r)
    let refused := if ok = [] then r.replies.map (fun w => Outcome1.mk w.record 3 0) else []
    if r.trig.code = 1 ∧ ok = [] ∧ r.replies.all (fun w => (s.tracker w.record).st == .held) then sesKick (runOver r.id s)
    else
      sesKick (modifyRun r.id (fun q => { q with opened := true, replies := s.ordered r ok, ended := q.ended ++ refused }) s)

/-- REPLY_WINDOW_CLOSE (R119, R227): 4.3 ms after the frame of a run, its window closes. -/
def execReplyWindowClose (s : State) : Host.Outcome State Fault Refusal :=
  match s.ses.runs.find? (fun r => r.windowAt.any (fun t => s.after t 4300)) with
  | none => .next s
  | some r =>
    let t := modifyRun r.id (fun r => { r with windowAt := none }) s
    if r.todo ≠ [] then .next (runNext r.id t)
    else if r.opened then .next (judgeAll t)
    else .next (wakeOver { r with windowAt := none } t)

/-- RESPONSE_TIMEOUT (R228): 400 µs after a CHALLENGE without a RESPONSE the challenge is repeated once, then NO_AUTH. -/
def execResponseTimeout (record : Nat) (s : State) : Host.Outcome State Fault Refusal :=
  match s.sessionOf record with
  | none => .next s
  | some x =>
    if x.authed then .next s
    else if x.challenges = 0 then .next (challengeKick x.lane s)
    else if (s.lane x.lane).pend.isSome ∨ (s.lane x.lane).txEnd.isSome ∨
        ¬ s.after x.sentAt (frameUnits 2 x.cls 24 false * 625 / 1000 + 400) then .next s
    else if x.challenges = 1 then .next (sendChallenge x s)
    else .next (sesKick (sessionEnd record 2 s))

/-- SESSION_TIMEOUT (R226): 10 s without an accepted frame end a session: NO_AUTH before its proof, NO_FIX after. -/
def execSessionTimeout (record : Nat) (s : State) : Host.Outcome State Fault Refusal :=
  match s.sessionOf record with
  | none => .next s
  | some x =>
    if s.after x.lastAt 10000000 then .next (sesKick (sessionEnd record (if x.authed then 4 else 2) s)) else .next s

/-- BAR_EXPIRY (R231): a bar lasts 60 s. -/
def execBarExpiry (record : Nat) (s : State) : Host.Outcome State Fault Refusal :=
  .next { s with ses := { s.ses with bars := s.ses.bars.filter (fun b => !(b.1 == record && s.after b.2 60000000)) } }

/-- TRACKER_STALE (R239): a HELD position older than FOBPOL.stale ms. -/
def execTrackerStale (record : Nat) (s : State) : Host.Outcome State Fault Refusal :=
  let t := s.tracker record
  let stale := (s.img.run.map (fun i => i.fobpol.stale)).getD 0
  if t.st = .held ∧ stale * 1000 * 4194304 < (s.now - t.at_) * 1000000 then
    .next (setTracker record { t with st := .stale, staleAt := s.now } s)
  else .next s

/-- TRACKER_FORGET (R239): 60 s in STALE. -/
def execTrackerForget (record : Nat) (s : State) : Host.Outcome State Fault Refusal :=
  let t := s.tracker record
  if t.st = .stale ∧ s.after t.staleAt 60000000 then .next (trackerReset record s) else .next s

/-- IGNITION_WINDOW_EXPIRY (R244): ignition not on within 30 s of a release granted while it was off clears the latch. -/
def execIgnitionWindowExpiry (s : State) : Host.Outcome State Fault Refusal :=
  match s.lines.ignWindow with
  | none => .next s
  | some t => if s.lines.ignition = false ∧ s.after t 30000000 then .next (latchClear s) else .next s

/-- SES_LFRUN_GO (R230): a satellite runs the POLLS entry of SES_LFRUN at the chain time of SES_LFAT. -/
def execSesLfrunGo (s : State) : Host.Outcome State Fault Refusal :=
  if s.bit Reg.SES_LFRUN_GO = false ∨ s.lf.runs.any (fun r => r.req.by_ == .lfrun (s.get Reg.SES_LFRUN_ENTRY)) ∨
      2 ^ 31 ≤ (s.chron.count.toNat + 2 ^ 32 - s.get Reg.SES_LFAT_V) % 2 ^ 32 then .next s
  else
    let e := s.get Reg.SES_LFRUN_ENTRY
    match s.pollE e with
    | none => .next (lfrunRefused s)
    | some p => .next (if s.lf.bad.contains e then lfrunRefused s else lfRequest (s.lfReq (.lfrun e) p) s)

/-! ### Notices (R242) -/

def State.noticeOf (s : State) (record : Nat) : NoticeSt :=
  (s.ses.notices.find? (fun v => v.record == record)).getD ⟨record, ((s.fob record).map (·.nctr)).getD 0, 0, 0, none⟩

def setNotice (v : NoticeSt) (s : State) : State :=
  { s with ses := { s.ses with notices := v :: s.ses.notices.filter (fun w => w.record != v.record) } }

/-- The 16 smallest counters above a value with a low byte. -/
def noticeCtrs (last seq : Nat) : List Nat :=
  (List.range 16).filterMap (fun i => if nextCtr last seq + 256 * i < 2 ^ 32 then some (nextCtr last seq + 256 * i) else none)

/-- The first counter under which a notice's MIC passes, with its plaintext. -/
def openNotice (key : Bytes) (fobId last : Nat) (r : AirRx) : Option (Nat × Bytes) :=
  let h := AirHdr.of r.frame.hdr
  (noticeCtrs last h.seq).findSome? (fun c =>
    (ccmDec key (ccmNonce fobId 1 c h.typ) (be 6 h.top) (r.frame.body.take h.len) (sub r.frame.body h.len 8)).map (fun p => (c, p)))

/-- A record is written in one group, and unit 2's copy with it (R91, R223). -/
def fobCommit (cls : Cls) (record : Nat) (page : Bytes) (owner : Owner) (s : State) : Admit × State :=
  let s := if s.isActing then
    { s with sett := { s.sett with fobCopy := (record, page) :: s.sett.fobCopy.filter (fun p => p.1 != record) } } else s
  match submitGroup cls ⟨[(fobOffset record, page)], owner⟩ s with
  | (.taken, t) => (.taken, fobCopySend record page t)
  | r => r

/-- NOTICE (R242): accepted within its counter window, acknowledged, held in the volatile counter, and committed before the unit
acts; a repeat within 1,000 ms is acknowledged only. In FRUGAL, and on a unit that is no head, it has no effect. -/
def execNoticeFrame (n : Nat) (r : AirRx) (s : State) : Host.Outcome State Fault Refusal :=
  match frameAt n 8 false r s with
  | none => .next s
  | some (cls, h, st) =>
    let record := h.src - 0x40
    if st ≠ .ok then .next (rxReport n cls r st s)
    else if (relayed n cls h st r s).isSome then .next ((relayed n cls h st r s).getD s)
    else if s.profile = 0 ∨ ¬ (s.isHead ∨ s.isActing) then .next (rxReport n cls r st s)
    else
      match s.activeFob record with
      | none => .next (rxReport n cls r .noKey s)
      | some f =>
        let v := s.noticeOf record
        match s.kf f.fobId f.gen with
        | none => .next (rxReport n cls r .noKey s)
        | some kf =>
          match openNotice (kNotice kf f.fobId) f.fobId v.nctr r with
          | none => .next (rxStrike h.src .replay (rxReport n cls r .replay s))
          | some (ctr, p) =>
            let t := sendAck n cls h r.endAt (rxReport n cls r .ok s)
            let buttons := fieldBe p 0 1 % 4
            if h.retry ∧ v.buttons = buttons ∧ s.within v.at_ 1000000 ∧ v.at_ ≠ 0 then .next (setNotice { v with nctr := ctr } t)
            else
              let mic := sub r.frame.body h.len 8
              let t := setNotice { v with nctr := ctr, buttons := buttons, at_ := s.now, wait := some (buttons, mic, n, cls) } t
              match fobCommit .p0 record { f with nctr := ctr }.bytes (.notice record) t with
              | (.taken, u) => .next u
              | (_, u) => .next (setNotice { (t.noticeOf record) with wait := none } u)

/-- The remote lock of an accepted notice (Table 9-7). -/
def remoteLock (record : Nat) (f : FobRec) (s : State) : State :=
  let policy := (s.img.run.map (fun i => i.fobpol.notice)).getD 0
  let reason := if ¬ f.has rightRemote then 3 else if s.isBarred record then 9 else if policy % 2 = 0 ∨ (s.slotKey 1).isNone then 0xA else 0
  decided 3 reason record 0 0 s

/-- The remote unlock of an accepted notice: a session with no LF frame, whose N_f is the MIC, the counter and zeros. -/
def remoteUnlock (record : Nat) (f : FobRec) (ctr : Nat) (mic : Bytes) (n cls : Nat) (s : State) : State :=
  let policy := (s.img.run.map (fun i => i.fobpol.notice)).getD 0
  let reason := if ¬ f.has rightRemote then 3 else if s.isBarred record then 9
    else if policy / 2 % 2 = 0 ∨ (s.slotKey 1).isNone then 0xA else 0
  if reason ≠ 0 then decided 4 reason record 0 0 s
  else
    let w : WakeRep := ⟨record, mic ++ be 4 ctr ++ zeros 4, [], cls, n⟩
    let r : TrigRun := ⟨s.ses.runId, ⟨2, 0, 0⟩, [], none, 2, true, true, none, none, 2, [w], [], false, [], s.now⟩
    sesKick { s with ses := { s.ses with runs := s.ses.runs ++ [r], runId := s.ses.runId + 1 } }

/-- NCTR_COMMIT_DONE (R242): once the counter is committed, the remote decisions proceed. -/
def execNctrCommitDone (record : Nat) (s : State) : Host.Outcome State Fault Refusal :=
  let v := s.noticeOf record
  match v.wait, s.activeFob record with
  | some (buttons, mic, n, cls), some f =>
    if fieldBe (memGetN s.nv.mem (fobOffset record) 32) 16 4 ≠ v.nctr then .next s
    else
      let t := setNotice { v with wait := none } s
      let t := if buttons % 2 = 1 then remoteLock record f t else t
      .next (if buttons / 2 % 2 = 1 then remoteUnlock record f v.nctr mic n cls t else t)
  | _, _ => .next s

/-! ### Enrolment and SERVICE frames (R225) -/

/-- ENROL goes out to address 0xFE (R225, Table 9-3); none where no lane or no key is to be had. -/
def enrolStart (fobId driver rights : Nat) (ktp : Bytes) (s : State) : Option State :=
  let old := s.fobOf fobId
  match old.orElse (fun _ => (List.range 64).find? (fun n => (s.fob n).isNone)) with
  | none => none
  | some record =>
    let gen := match old.bind s.fob with
      | some f => (f.gen + 1) % 256
      | none => 0
    match s.kf fobId gen, laneTake 2 .p0 14 none s with
    | some kf, (some n, t) =>
      let pay := [1, 0] ++ be 1 record ++ be 1 gen ++ be 4 s.vehicle ++ kf
      let f := airFrame ⟨10, 1, pay.length, 1, s.unitNum, 0xFE, 16⟩ (some ktp) fobId 0 1 pay
      let t := (laneTx n ⟨f, none, t.firstAerial n, none, some (0, 5000000)⟩ t).2
      some { t with ses := { t.ses with enrol := some ⟨record, fobId, gen, driver, rights, ktp, s.now⟩ } }
    | _, _ => none

/-- ENROLLED (R225): its check is verified under the new K_auth and only then the record committed. -/
def enrolled (e : Enrol) (src : Nat) (p : Bytes) (s : State) : State :=
  match s.kf e.fobId e.gen with
  | none => s
  | some kf =>
    let check := cmac (kAuth kf e.fobId) (ascii "ENR" ++ be 4 e.fobId ++ be 4 s.vehicle)
    if src ≠ 0x40 + e.record ∨ fieldBe p 0 2 ≠ 0x0200 ∨ fieldBe p 2 4 ≠ e.fobId ∨ sub p 6 16 ≠ check then s
    else
      let r : FobRec := ⟨e.fobId, e.driver, e.rights, 1, e.gen, 0, s.secs⟩
      let t := { s with ses := { s.ses with enrol := none } }
      match fobCommit .p3 e.record r.bytes (.enrol e.record) t with
      | (.taken, u) => u
      | (_, u) => laneFree 1 (laneFree 0 (routineFail 0x21 u))

/-- SERVICE (R225): ENROLLED under K_tp during enrolment, STATUS under K_s inside a session; reserved codes are ignored. -/
def execServiceFrame (n : Nat) (r : AirRx) (s : State) : Host.Outcome State Fault Refusal :=
  match frameAt n 10 false r s with
  | none => .next s
  | some (cls, h, st) =>
    let record := h.src - 0x40
    if st ≠ .ok then .next (rxReport n cls r st s)
    else if (relayed n cls h st r s).isSome then .next ((relayed n cls h st r s).getD s)
    else
      match s.ses.enrol, s.sessionOf record with
      | some e, none =>
        match openSealed (some e.ktp) e.fobId 1 0 r with
        | (.ok, _, p) => .next (enrolled e h.src p (sendAck n cls h r.endAt (rxReport n cls r .ok s)))
        | (st, _, _) => .next (rxReport n cls r st s)
      | _, some x =>
        match openSealed (if x.authed then some (s.volKey record .kS) else none) x.fobId 1 x.rxCtr r with
        | (.ok, ctr, _) =>
          .next (modifySession record (fun y => { y with rxCtr := ctr, lastAt := s.now })
            (sendAck n cls h r.endAt (rxReport n cls r .ok s)))
        | (st, _, _) => .next (rxStrike h.src st (rxReport n cls r st s))
      | none, none => .next (rxReport n cls r .noKey s)

/-- ENROL_TIMEOUT (R225): no answer within 500 ms ends the routine with nothing committed. -/
def execEnrolTimeout (s : State) : Host.Outcome State Fault Refusal :=
  match s.ses.enrol with
  | none => .next s
  | some e =>
    if s.after e.at_ 500000 then
      .next (laneFree 1 (laneFree 0 (routineFail 0x72 { s with ses := { s.ses with enrol := none } })))
    else .next s

/-- ACK (R188): it names the frame it acknowledges; none of the unit's frames asks for one, so no retry is pending. -/
def execAckFrame (n : Nat) (r : AirRx) (s : State) : Host.Outcome State Fault Refusal :=
  match frameAt n 9 false r s with
  | none => .next s
  | some (cls, h, st) => .next ((relayed n cls h st r s).getD (rxReport n cls r st s))

end Sys2Proof.Machine
end

