-- ==== Sys2Proof/Machine/Fox.lean ====
section
/-! DEFINITION. Ranging commands (08): exchanges on the head, the checks of R208, overhearing. -/

namespace Sys2Proof.Machine

/-! ### Time of flight (R207) -/

/-- What the unit computes from an exchange's timestamps. -/
structure FoxCalc where
  rho : Rat
  rhoCfo : Rat
  turns : List Rat
  tofs : List Rat
  deriving DecidableEq, Repr

/-- A RANGE_REPORT's payload (Table 7-7): exchange, status, passes, poll received, reply sent and quality of each, final received. -/
structure RangeRep where
  exch : Nat
  status : Nat
  n : Nat
  polls : List Nat
  replies : List Nat
  quals : List Nat
  finalAt : Nat
  deriving DecidableEq, Repr

def RangeRep.of (p : Bytes) : RangeRep :=
  let n := fieldBe p 3 1
  let at_ := fun (i k : Nat) => 4 + 11 * i + k
  ⟨fieldBe p 0 2, fieldBe p 2 1, n, (List.range n).map (fun i => fieldBe p (at_ i 0) 5),
    (List.range n).map (fun i => fieldBe p (at_ i 5) 5), (List.range n).map (fun i => fieldBe p (at_ i 10) 1), fieldBe p (4 + 11 * n) 5⟩

/-- R207; where the fob reports no time between the first poll and the final, rho has no stated value (log 18). -/
def foxCalc (ex : Exch) (rep : RangeRep) (free : Nat) : FoxCalc :=
  let span := airDiff rep.finalAt (rep.polls.headD 0)
  let mine := airDiff (ex.finalAt.getD 0) (ex.polls.headD 0)
  let rho : Rat := if span = 0 then Config.freeRatio free else (mine : Rat) / (span : Rat)
  let das := (rep.replies.zip rep.polls).map (fun p => (airDiff p.1 p.2 : Rat))
  let ras := (ex.replies.zip ex.polls).map (fun p => (airDiff p.1.at_ p.2 : Rat))
  let turns := das.map (fun d => rho * d)
  let cfos := ex.replies.zipIdx.map (fun p => (p.1.cfo : Rat) / ((channelMHz (passChannel ex.stitch p.2) * 10000 : Nat) : Rat))
  ⟨rho, 1 - meanRat cfos, turns, (ras.zip turns).map (fun p => (p.1 - p.2) / 2)⟩

def maxRat (l : List Rat) : Rat := l.tail.foldl max (l.headD 0)
def minRat (l : List Rat) : Rat := l.tail.foldl min (l.headD 0)

/-- The passes of an exchange as stitching takes them (R209). -/
def Exch.stitchPasses (ex : Exch) (c : FoxCalc) : List StitchPass :=
  (ex.replies.zip c.tofs).zipIdx.map (fun p =>
    stitchPass (passChannel ex.stitch p.2) p.1.1 (ex.loops.getD p.2 []) p.1.2 (meanRat c.tofs))

/-- The stitching and the angles of an exchange (R209 to R212); `entries` are the lane's two AERIALS entries. -/
def stitchMeas (ex : Exch) (c : FoxCalc) (entries : Option (AerialE × AerialE)) : StitchMeas :=
  let ps := ex.stitchPasses c
  let sines := match entries with
    | some (a, b) =>
      let d := pointDist (a.x, a.y, a.z) (b.x, b.y, b.z)
      ex.replies.zipIdx.map (fun p => aoaSine p.1.tapA p.1.tapB a.phase b.phase (channelMHz (passChannel ex.stitch p.2)) d)
    | none => []
  if ex.grade = 0 then ⟨0, 0, [], []⟩
  else ⟨stitchDelta ps, joinMax ps, if ex.grade = 2 then sines else [], if ex.grade = 2 then sines.map asinDeg else []⟩

/-- The AERIALS entries of a lane's two aerials. -/
def State.aerialPair (s : State) (n : Nat) : Option (AerialE × AerialE) :=
  match s.aerial s.unitNum n 0, s.aerial s.unitNum n 1 with
  | some a, some b => some (a, b)
  | _, _ => none

/-- The time of flight: of the one pass, or stitched (R208, R209). -/
def stitchedTof (ex : Exch) (c : FoxCalc) (sm : StitchMeas) : Rat :=
  if ex.grade = 0 then c.tofs.headD 0 else meanRat c.tofs + sm.delta

/-- An angle in view (R212): |s| within sin 60° on every pass. -/
def inView (sm : StitchMeas) : Bool := sm.sines != [] && sm.sines.all (fun x => decide (absRat x ≤ sin60))

/-- The checks of R208 in their order. -/
def foxChecks (ex : Exch) (rep : RangeRep) (c : FoxCalc) (sm : StitchMeas) : FoxResult :=
  let n := passesOf ex.grade
  let frame : Rat := ((rangeLen ex.cls + airTenths 300 : Nat) : Rat)
  let half : Rat := 196608 / 10
  if rep.exch ≠ ex.q1 % 65536 ∨ rep.n ≠ n then .report
  else if rep.status = 1 then .rangeInconsistent
  else if rep.status ≠ 0 then .report
  else if ex.replies.any (fun m => decide (19 < m.spread)) then .rangeInconsistent
  else if ex.replies.any (fun m => decide (m.quality < 48)) ∨ rep.quals.any (fun q => decide (q < 48)) then .lowQuality
  else if c.turns.any (fun t => decide (half < absRat (t - frame))) then .turnaround
  else if 5 / 10000000 < absRat (c.rho - c.rhoCfo) then .clockMismatch
  else if c.tofs.any (fun t => decide (t < -40 ∨ 13116 < t)) then .outOfRange
  else if ex.grade ≠ 0 ∧ 39 < maxRat c.tofs - minRat c.tofs then .passInconsistent
  else if ex.grade ≠ 0 ∧ (1 / 12 < sm.join ∨ 20 < absRat sm.delta) then .stitchBreak
  else if ex.grade = 2 ∧ inView sm ∧ 10 < maxRat sm.angles - minRat sm.angles then .aoaInconsistent
  else .ok

/-! ### Listening (R215 to R218) -/

/-- The differential time a listener measured, to the nearest head air tick (R216). -/
def listenDt (stitch : Nat) (polls replies : List RangeMeas) : Int :=
  let dts := (polls.zip replies).zipIdx.map (fun p =>
    (airDiff p.1.2.at_ p.1.1.at_ : Rat) * (1 + (p.1.1.cfo : Rat) / ((channelMHz (passChannel stitch p.2) * 10000 : Nat) : Rat)))
  (meanRat dts + 1 / 2).floor

/-- The status of OVERHEAR_REPORT (R217). -/
def listenStatus (o : Overhear) : Nat :=
  let n := passesOf o.plan.grade
  if o.polls.length < n then 2
  else if o.replies.length < n then 3
  else if (o.polls ++ o.replies).any (fun m => decide (19 < m.spread)) then 4
  else if (o.polls ++ o.replies).any (fun m => decide (m.quality < 48)) then 5
  else 0

/-- The head's own second lane as a listener (R235). -/
def State.ownListener (s : State) (n : Nat) : List OhDist :=
  match s.ohOn (1 - n) with
  | some o => if o.own ∧ listenStatus o = 0 then [⟨s.unitNum, (1 - n) + 2 * o.aerial, listenDt o.plan.stitch o.polls o.replies⟩] else []
  | none => []

/-- d(fob, s) of a listener in mm (R218), with its aerial's place; none where AERIALS does not place it. -/
def State.listenerMm (s : State) (n aer : Nat) (turn tof : Rat) (o : OhDist) : Option Anchor :=
  match s.aerial s.unitNum n aer, s.aerial o.unit (o.path % 2) (o.path / 2 % 2) with
  | some a, some b =>
    some ⟨o.unit, b.x, b.y, b.z, mmOf ((o.dt : Rat) - turn - tof) + (pointDist (a.x, a.y, a.z) (b.x, b.y, b.z) : Int)⟩
  | _, _ => none

/-! ### Delivery -/

/-- A fix is accepted (R235, R236): it enters the session and the tracker. -/
def fixAccepted (record : Nat) (f : Fix) (s : State) : State :=
  judgeAll (trackerFix record f (modifySession record (fun x => { x with fixes := f :: x.fixes, lastAt := s.now }) s))

/-- The lane of an exchange goes back to its session, or is given back. -/
def exchangeLeave (n : Nat) (ex : Exch) (s : State) : State :=
  let t := exchangeOver n ex s
  laneFree n t

/-- An exchange ends other than OK (R219, R231): counted, reported; a strike, or one failed attempt of the session. -/
def foxFailed (n : Nat) (ex : Exch) (r : FoxResult) (s : State) : State :=
  let t := (foxCount r (foxRes n ex r s)).put (Reg.FOX_DIST_V n) 0
  let t := t.wr (Reg.FOX_AOA n) 0
  let t := planOver (ex.q1 + 3) (exchangeOver n ex { t with fox := { t.fox with pair := t.fox.pair.filter (fun g => g.record != ex.record) } })
  if r.strike then sesKick (laneFree n (strike ex.record 0xD t))
  else judgeAll (laneFree n (modifySession ex.record (fun x => { x with fails := x.fails + 1 }) t))

/-- A lane operation that ends other than OK during an exchange ends it with LANE (R219). -/
def foxLane (n : Nat) (s : State) : State :=
  match s.exOn n with
  | some ex => foxFailed n ex .lane s
  | none => s

/-- An exchange that passed its checks: registers of R222; the angle in degrees is shown in 0.1°. -/
def foxPassed (n : Nat) (ex : Exch) (r : FoxResult) (mm : Nat) (angle : Option Rat) (gd : Bool) (oh : Nat) (s : State) : State :=
  let t := (foxCount r (foxRes n ex r s)).put (Reg.FOX_DIST_V n) mm
  let t := (((t.wr (Reg.FOX_AOA n) 0).setBit (Reg.FOX_AOA_VALID n) angle.isSome).setBit (Reg.FOX_AOA_OOV n) (gd && angle.isNone)).put
    (Reg.FOX_AOA_ANGLE n) (ofInt 16 (10 * angle.getD 0 + 1 / 2).floor)
  t.put (Reg.FOX_QUAL_NOVH n) (min oh 15)

def minNat (l : List Nat) : Nat := l.tail.foldl min (l.headD 0)
def maxNat (l : List Nat) : Nat := l.foldl max 0

/-- FOX_QUAL of an exchange. -/
def foxQual (n : Nat) (ex : Exch) (rep : RangeRep) (s : State) : State :=
  ((s.put (Reg.FOX_QUAL_QU n) (min 255 (minNat (ex.replies.map (·.quality))))).put (Reg.FOX_QUAL_QF n) (minNat rep.quals)).put
    (Reg.FOX_QUAL_SPREAD n) (min 255 (maxNat (ex.replies.map (·.spread))))

/-- The position a HELD tracker gives the solver to start from (R236). -/
def State.heldAt (s : State) (record : Nat) : Option (Int × Int × Int) :=
  if (s.tracker record).st = .held then some (s.tracker record).pos else none

/-- A fix solved from its distances and its angle (R236). -/
def solvedFix (s : State) (record grade dist : Nat) (anchors : List Anchor) (view : Option AngleView) : Fix :=
  let pos := s.solve (s.heldAt record) anchors view
  ⟨s.now, grade, dist, anchors, view, pos, (pos.map (fun p => (s.zonesAt p).map (·.zone))).getD []⟩

/-- The fix of an exchange, or of a GUARD pair with its first half (R213): mean distance, mean angle, each listener's distance once. -/
def fixOf (s : State) (n : Nat) (ex : Exch) (mm : Nat) (angle : Option Rat) (others : List Anchor) (first : Option GuardWait) : Fix :=
  let all := match first with
    | some g => others ++ g.others.filter (fun o => others.all (fun p => p.unit != o.unit))
    | none => others
  let dist : Nat := match first with
    | some g => (mm + g.mm + 1) / 2
    | none => mm
  let deg := match first.bind (·.angle), angle with
    | some a, some b => some ((a + b) / 2)
    | some a, none => some a
    | none, b => b
  let head := ((s.aerial s.unitNum n (ex.aerial.getD 0)).map (fun a => Anchor.mk s.unitNum a.x a.y a.z (dist : Int))).toList
  let view := (s.aerialPair n).bind (fun p => deg.map (fun d => AngleView.mk (p.1.x, p.1.y, p.1.z) (p.2.x, p.2.y, p.2.z) d))
  solvedFix s ex.record ex.grade dist (head ++ all) view

/-- Whether the two halves of a GUARD fix agree: 100 mm, and 8° where both are in view (R213). -/
def guardAgrees (g : GuardWait) (mm : Nat) (angle : Option Rat) : Bool :=
  decide (mm ≤ g.mm + 100 ∧ g.mm ≤ mm + 100) &&
    (match g.angle, angle with
      | some a, some b => decide (absRat (a - b) ≤ 8)
      | _, _ => true)

/-- An exchange passes R208: a fix, the first half of a GUARD fix, or NO_AOA (R211, R213). -/
def foxOk (n : Nat) (ex : Exch) (rep : RangeRep) (c : FoxCalc) (sm : StitchMeas) (endAt : Nat) (s : State) : State :=
  let tof := stitchedTof ex c sm
  let mm := (mmOf tof).toNat
  let turn := meanRat c.turns
  let others := (ex.reports ++ s.ownListener n).filterMap (s.listenerMm n (ex.aerial.getD 0) turn tof)
  let s := { s with fox := { s.fox with
    done := ⟨ex.q1 % 65536, ex.record, s.now, n, ex.aerial.getD 0, turn, tof⟩ :: s.fox.done.filter (fun d => s.within d.at_ 150) } }
  let angle := if ex.grade = 2 ∧ inView sm then some (meanRat sm.angles) else none
  let t := foxQual n ex rep s
  if ex.noAoa then
    judgeAll (laneFree n (modifySession ex.record (fun x => { x with fails := x.fails + 1 })
      (exchangeOver n ex (foxPassed n ex .noAoa mm none false others.length t))))
  else if ex.grade = 2 then
    match t.fox.pair.find? (fun g => g.record == ex.record) with
    | none =>
      let t := exchangeOver n ex (foxPassed n ex .ok mm angle true others.length t)
      { t with fox := { t.fox with pair := ⟨n, ex.record, endAt, mm, angle, others⟩ :: t.fox.pair } }
    | some g =>
      if guardAgrees g mm angle then
        let mean := (mm + g.mm + 1) / 2
        let ang := match g.angle, angle with
          | some a, some b => some ((a + b) / 2)
          | some a, none => some a
          | none, b => b
        let t := exchangeOver n ex (foxPassed n ex .ok mean ang true others.length t)
        let t := { t with fox := { t.fox with pair := t.fox.pair.filter (fun h => h.record != ex.record) } }
        laneFree n (laneFree g.lane (fixAccepted ex.record (fixOf s n ex mm angle others (some g)) t))
      else foxFailed n ex .guardInconsistent t
  else
    laneFree n (fixAccepted ex.record (fixOf s n ex mm none others none)
      (exchangeOver n ex (foxPassed n ex .ok mm none false others.length t)))

/-! ### Commands -/

/-- Fixes a session still needs: two for a start release, none for an LF-only key check, one otherwise (Table 9-7). -/
def State.fixesNeeded (s : State) (x : Session) : Nat :=
  (x.jobs.map (fun j => match s.runOf j.1 with
    | some r => if j.2 = some 5 then 2 else if j.2 = some 7 ∧ r.trig.code = 0x31 then 0 else 1
    | none => 0)).foldl max 0

/-- Whether a session is to range now. -/
def State.wantsFix (s : State) (x : Session) : Bool :=
  x.authed && decide (x.fixes.length < s.fixesNeeded x) && decide (x.fails ≤ 2) &&
    [0, 1].all (fun n => (s.exOn n).all (fun e => e.record != x.record)) && !s.fox.pair.any (fun g => g.record == x.record)

/-- An exchange is started on a lane; one the lane does not take ends LANE (R219). -/
def exchangeBegin (n : Nat) (x : Session) (at_ : Option Nat) (s : State) : State :=
  let s := if n = x.lane ∨ (s.lane n).held.isSome then s else laneHold n .p0 14 s
  match exchangeStart n x at_ s with
  | (true, t) => t
  | (false, t) => foxLane n t

/-- RANGING_EXCHANGE (R191, R195, R220): a session that needs a fix starts an exchange at a fresh poll number. -/
def execRangingExchange (record : Nat) (s : State) : Host.Outcome State Fault Refusal :=
  match s.sessionOf record with
  | none => .next s
  | some x =>
    if s.wantsFix x = false then .next s
    else if s.isIsolated .fox then
      .next (judgeAll (laneResult x.lane .fault (modifySession record (fun x => { x with fails := x.fails + 1 }) s)))
    else if (s.exOn (s.exchangeLane x false)).isSome ∨ (s.lane (s.exchangeLane x false)).pend.isSome then .next s
    else .next (exchangeBegin (s.exchangeLane x false) x none s)

/-- GUARD_SECOND_EXCHANGE (R213): the second exchange of a GUARD fix, its first RANGE_POLL timed for 50.0 µs after the first RANGE_REPORT. -/
def execGuardSecondExchange (record : Nat) (s : State) : Host.Outcome State Fault Refusal :=
  match s.fox.pair.find? (fun g => g.record == record), s.sessionOf record with
  | some g, some x =>
    if [0, 1].any (fun n => (s.exOn n).any (fun e => e.record == record)) then .next s
    else .next (exchangeBegin (s.exchangeLane { x with lane := g.lane } true) x (some (airAdd g.at_ (airTenths 500))) s)
  | _, _ => .next s

/-- What is received in an exchange: a frame of a type on the fob's side of it, in the exchange's class (R193). -/
def exchangeFrame (n typ : Nat) (ex : Exch) (r : AirRx) (s : State) : Option (Nat × AirHdr × RxStatus) :=
  match frameAt n typ true r s with
  | some (cls, h, st) =>
    if st = .ok ∧ (cls ≠ ex.cls ∨ h.src ≠ fobAddr ex.record ∨ (h.dst ≠ s.unitNum)) then none else some (cls, h, st)
  | none => none

/-- The pass that a received reply completes: the next RANGE_POLL, or RANGE_FINAL (R199, R200). -/
def passOver (n : Nat) (ex : Exch) (m : RangeMeas) (s : State) : State :=
  let e := replyEnd ex.cls m
  let ex := { ex with replies := ex.replies ++ [m], pass := ex.pass + 1,
                      aerial := some (ex.aerial.getD (s.get (Reg.AIR_LN_STAT_AER n))) }
  match (if ex.pass < passesOf ex.grade then sendPoll n ex (airAdd e (airTenths 250)) s
    else sendFinal n ex (airAdd e (airTenths 200)) s) with
  | (true, t) => t
  | (false, t) => foxLane n t

/-- A listener's lane follows the passes (R215): the next RANGE_POLL starts 25.0 µs after the reply. -/
def listenNext (n : Nat) (o : Overhear) (s : State) : State :=
  let t := setOh n (some o) s
  if o.replies.length < passesOf o.plan.grade then
    let e := replyEnd (o.cls.getD 1) ((o.replies.getLast?).getD ⟨s.airNow, 0, 0, 0, [], 0, Cx.zero, Cx.zero⟩)
    listenPass n (passChannel o.plan.stitch o.replies.length) (s.airOf (airAdd e (airTenths 250))) o.cls t
  else t

/-- What a lane's ranging symbols measure: in GUARD on both aerials, otherwise on the one in use (R198, R206, R211). -/
def State.rangeMeas (s : State) (n : Nat) (seed : Bytes) (pass f : Nat) (guard : Bool) (r : AirRx) (m : RangeRx) : RangeMeas :=
  let a := s.get (Reg.AIR_LN_STAT_AER n)
  rangeMeasure m seed pass f (if guard then (s.aerDelay n 0, s.aerDelay n 1) else (s.aerDelay n a, s.aerDelay n a)) r.cfo

/-- RANGE_POLL (R215): an overhearing lane receives one; `m` is what its ranging symbols bring. -/
def execRangePoll (n : Nat) (r : AirRx) (m : RangeRx) (s : State) : Host.Outcome State Fault Refusal :=
  match s.ohOn n, frameAt n 4 true r s with
  | some o, some (cls, _, st) =>
    let t := rxReport n cls r st s
    if st = .ok ∧ o.polls.length = o.replies.length ∧ (o.cls.getD cls = cls) then
      let aer := if o.polls = [] ∧ o.own = false then s.get (Reg.AIR_LN_STAT_AER n) else o.aerial
      let meas := s.rangeMeas n o.plan.seed (o.replies.length + 1) 4 false r m
      .next (setOh n (some { o with polls := o.polls ++ [meas], aerial := aer, cls := some cls }) t)
    else .next t
  | _, _ => .next s

/-- RANGE_REPLY (R205, R206): on the head the pass goes on; an overhearing lane notes it. -/
def execRangeReply (n : Nat) (r : AirRx) (m : RangeRx) (s : State) : Host.Outcome State Fault Refusal :=
  match s.exOn n, s.ohOn n with
  | some ex, _ =>
    match exchangeFrame n 5 ex r s with
    | none => .next s
    | some (cls, _, st) =>
      let t := rxReport n cls r st s
      if st = .ok ∧ ex.finalAt.isNone then .next (passOver n ex (s.rangeMeas n ex.seed (ex.pass + 1) 5 (ex.grade == 2) r m) t) else .next t
  | none, some o =>
    match frameAt n 5 true r s with
    | none => .next s
    | some (cls, _, st) =>
      let t := rxReport n cls r st s
      if st = .ok ∧ o.replies.length < o.polls.length ∧ o.cls = some cls then
        .next (listenNext n { o with replies := o.replies ++ [s.rangeMeas n o.plan.seed (o.replies.length + 1) 5 false r m] } t)
      else .next t
  | none, none => .next s

/-- The Fox engine's recomputation is exhausted (R220, R29): fault 0x3201, at the sixteenth within 1 s a block fault. -/
def foxEscort (n : Nat) (ex : Exch) (s : State) : State :=
  let ts := s.now :: s.recent 1000000 s.fox.escorts
  let t := foxFailed n ex .escort (raise 0x3201 n { s with fox := { s.fox with escorts := if 16 ≤ ts.length then [] else ts } })
  if 16 ≤ ts.length then isolate .fox 0x3201 t else t

/-- A report that passed its frame checks is evaluated (R207 to R212). -/
def exchangeJudge (n : Nat) (ex : Exch) (rep : RangeRep) (endAt : Nat) (s : State) : State :=
  let c := foxCalc ex rep s.freeCtr
  let t := if airDiff rep.finalAt (rep.polls.headD 0) = 0 then s.drawn else s
  let sm := stitchMeas ex c (s.aerialPair n)
  match foxChecks ex rep c sm with
  | .ok => foxOk n ex rep c sm endAt t
  | res => foxFailed n ex res (foxQual n ex rep t)

/-- RANGE_REPORT (R208, R220): the exchange is evaluated and its result delivered. `mismatches` is how often in succession the computation's
escorts failed, each but the third answered by recomputing from the symbols kept (R28). -/
def execRangeReport (n : Nat) (r : AirRx) (mismatches : Nat) (s : State) : Host.Outcome State Fault Refusal :=
  match s.exOn n with
  | none => .next s
  | some ex =>
    match exchangeFrame n 7 ex r s, s.sessionOf ex.record with
    | some (cls, h, st), some x =>
      if st ≠ .ok ∨ ex.finalAt.isNone then .next (rxReport n cls r st s)
      else
        match openSealed (some (s.volKey x.record .kS)) x.fobId 1 x.rxCtr r with
        | (.ok, ctr, p) =>
          let t := rxReport n cls r .ok (modifySession ex.record (fun y => { y with rxCtr := ctr, lastAt := s.now }) s)
          let t := if mismatches = 0 then t else recomputes .fox t
          if 2 < mismatches then .next (foxEscort n ex t)
          else .next (exchangeJudge n ex (RangeRep.of p) r.endAt t)
        | (st, _, _) => .next (rxStrike h.src st (rxReport n cls r st s))
    | some (cls, _, st), none => .next (rxReport n cls r st s)
    | none, _ => .next s

/-- Whether the window after an exchange's last frame has passed without a detection (R201), `tenths` of a µs after its end. -/
def exchangeSilent (n : Nat) (ex : Exch) (s : State) : Bool :=
  let l := s.lane n
  l.pend.isNone && l.txEnd.isNone && (l.rx.bind (·.detected)).isNone &&
    (match l.rx.bind (·.until_) with
      | some u => decide (u ≤ s.airAbs)
      | none => decide (ex.sentAt < s.now))

/-- RANGE_REPLY_TIMEOUT (R201). -/
def execRangeReplyTimeout (n : Nat) (s : State) : Host.Outcome State Fault Refusal :=
  match s.exOn n with
  | none => .next s
  | some ex => if ex.finalAt.isNone ∧ exchangeSilent n ex s then .next (foxFailed n ex .noReply s) else .next s

/-- RANGE_REPORT_TIMEOUT (R201). -/
def execRangeReportTimeout (n : Nat) (s : State) : Host.Outcome State Fault Refusal :=
  match s.exOn n with
  | none => .next s
  | some ex => if ex.finalAt.isSome ∧ exchangeSilent n ex s then .next (foxFailed n ex .noReport s) else .next s

/-- OVERHEAR_REPORT's payload (R217). -/
def listenReport (n : Nat) (o : Overhear) : Bytes :=
  let st := listenStatus o
  let dt := if st = 0 then listenDt o.plan.stitch o.polls o.replies else 0
  let all := o.polls ++ o.replies
  let cfo := if o.polls = [] then 0 else (o.polls.map (·.cfo)).sum / (o.polls.length : Int)
  be 2 o.plan.exch ++ be 1 st ++ be 1 (n + 2 * o.aerial) ++ be 4 (ofInt 32 dt) ++ be 1 (min 255 (maxNat (all.map (·.spread)))) ++
    be 1 (min 255 (minNat (o.polls.map (·.quality)))) ++ be 1 (min 255 (minNat (o.replies.map (·.quality)))) ++ [0] ++ be 2 (ofInt 16 cfo)

/-- FOX_RES and FOX_QUAL of a satellite: the exchange overheard (R222). -/
def listenRes (n : Nat) (o : Overhear) (s : State) : State :=
  let all := o.polls ++ o.replies
  let t := (((s.wr (Reg.FOX_RES n) 0).put (Reg.FOX_RES_RES n) (listenStatus o)).put (Reg.FOX_RES_GRADE n) o.plan.grade).put (Reg.FOX_RES_CLASS n)
    (o.cls.getD 0)
  let t := ((t.put (Reg.FOX_RES_EXCH n) o.plan.exch).put (Reg.FOX_DIST_V n) 0).wr (Reg.FOX_AOA n) 0
  ((t.wr (Reg.FOX_QUAL n) 0).put (Reg.FOX_QUAL_QU n) (min 255 (minNat (all.map (·.quality))))).put (Reg.FOX_QUAL_SPREAD n)
    (min 255 (maxNat (all.map (·.spread))))

/-- When a plan's exchange is over at the latest: in C1. -/
def planEnds (s : State) (p : Plan) : Bool :=
  decide (p.start + exchangeLen p.grade 1 / 9375 + 1 ≤ s.chron.count.toNat)

/-- OVERHEAR_EXCHANGE_END (R216, R217): the listener reports, and its lane is free again. -/
def execOverhearExchangeEnd (n : Nat) (s : State) : Host.Outcome State Fault Refusal :=
  match s.ohOn n with
  | none => .next s
  | some o =>
    if o.own ∨ (o.replies.length < passesOf o.plan.grade ∧ planEnds s o.plan = false) then .next s
    else
      let t := settSend 0x0F false 1 .p0 (listenReport n o) (setOh n none (listenRes n o s))
      let t := t.setLane n { t.lane n with rx := none, wantRx := none }
      .next (laneFree n (planOver o.plan.exch t))

end Sys2Proof.Machine
end

