-- ==== Sys2Proof/Machine/Air.lean ====
section
/-! DEFINITION. Commands of the lanes (06, 07): requests, lock, transmit and receive, idling, calibration, detection. -/

namespace Sys2Proof.Machine

/-- LANE_REQUEST (R134, R135, R137, R156): a request names LANE0 (0), LANE1 (1) or either and the channel it needs; while the lanes are shed
it ends SHED, on an isolated lane or a barred channel FAULT. -/
def execLaneRequest (sel : Nat) (cls : Cls) (chan : Nat) (s : State) : Host.Outcome State Fault Refusal :=
  let n := if sel = 1 then 1 else 0
  if s.airShed then .next (laneResult n .shed s)
  else if s.barred chan ∨ s.isIsolated (laneBlock n) ∧ (sel = 0 ∨ sel = 1 ∨ s.isIsolated (laneBlock 1)) then .next (laneResult n .fault s)
  else .next (laneTake sel cls chan none s).2

/-- The shaping coefficients are checked at the entry to SYNTH (R153): `coefs` says of the check, and of the check after each reload, whether
the escorts held; after two reloads without success ramp mode stays until the next start-up. -/
def coefCheck (n : Nat) (coefs : List Bool) (s : State) : State :=
  let tries := coefs.take 3
  let t := if tries.headD true then s else recomputes (laneBlock n) s
  if (s.lane n).coefBad ∨ tries = [] ∨ tries.any id then t
  else raise 0x3102 n ((t.setLane n { t.lane n with coefBad := true }).setBit (Reg.AIR_LN_STAT_RAMP n) true)

/-- A full calibration is recorded, with the lane's temperature (R143). -/
def calibrated (n : Nat) (temp : Int) (s : State) : State :=
  let t := s.setLane n { s.lane n with calAt := some s.now, temp := temp }
  ((t.setBit (Reg.AIR_LN_STAT_CALV n) true).count (Reg.AIR_LN_CAL_NCAL n) 1).put (Reg.AIR_LN_CAL_TCAL n) (ofInt 16 temp)

/-- A timed command that can no longer be in time is cancelled with TX_LATE; an exchange on the lane ends with it (R146, R147, R219). -/
def txDeadline (n : Nat) (s : State) : State :=
  if s.txMissed n then foxLane n (laneResult n .txLate (s.setLane n { s.lane n with pend := none })) else s

/-- SYNTH_LOCKED (R139, R141, R146): both checks have passed, which a hop's never do before its 12 µs; `temp` is the lane's temperature
(0.01 °C) and `coefs` the outcome of the coefficient checks. -/
def execSynthLocked (n : Nat) (temp : Int) (coefs : List Bool) (s : State) : Host.Outcome State Fault Refusal :=
  match (s.lane n).settle with
  | none => .next s
  | some st =>
    if st.maxUs = 12 ∧ s.after st.at_ 12 = false then .next s
    else
      let t := if st.cold ∨ st.tries ≠ 0 then calibrated n temp s else s
      let t := (t.setLane n { t.lane n with settle := none, txFrom := t.airAbs + airTenths 60 }).setBit (Reg.AIR_LN_STAT_LOCK n) true
      let t := txDeadline n (coefCheck n coefs (t.put (Reg.AIR_LN_STAT_STATE n) 2))
      match (t.lane n).wantRx with
      | some w => .next (laneListenFrom n (max t.airAbs w.1) w.2 t)
      | none => .next t

/-- A lane's operation ends without success: nothing stays queued on it, and an emission ends with its symbol, or at once (R142, R156). -/
def laneDrop (n : Nat) (r : LaneResult) (s : State) : State :=
  let s := laneCut n (r == .unlock) s
  let l := s.lane n
  foxLane n (laneResult n r (s.setLane n { l with pend := none, rx := none, wantRx := none, txEnd := none, listen := none, turn := none, loop := none }))

/-- LOCK_CHECK_TIMEOUT (R141): not locked by twice the transition's maximum time: calibrated again, at most twice, then NO_LOCK with fault
0x3101, and the lane is isolated. -/
def execLockCheckTimeout (n : Nat) (s : State) : Host.Outcome State Fault Refusal :=
  match (s.lane n).settle with
  | none => .next s
  | some st =>
    if s.after st.at_ (st.lead + 2 * st.maxUs) = false then .next s
    else if st.tries < 2 then
      .next ((recomputes (laneBlock n) (s.setBit (Reg.AIR_LN_STAT_CALV n) false)).setLane n
        { s.lane n with settle := some { st with at_ := s.now, lead := 0, maxUs := 220, cold := true, tries := st.tries + 1 } })
    else
      let t := (s.setLane n { s.lane n with settle := none }).put (Reg.AIR_LN_STAT_STATE n) 1
      .next (reportFault (laneBlock n) 0x3101 n (laneDrop n .noLock t))

/-- LOCK_LOST (R142): emission stops, the operation ends UNLOCK with fault 0x3104, one relock is tried as a cold entry; the sixteenth
within 1 s is a block fault. -/
def execLockLost (n : Nat) (s : State) : Host.Outcome State Fault Refusal :=
  if s.laneState n ≠ 3 ∧ s.laneState n ≠ 4 then .next s
  else
    let t := laneDrop n .unlock ((s.setBit (Reg.AIR_LN_STAT_LOCK n) false).put (Reg.AIR_LN_STAT_STATE n) 1)
    let t := t.setLane n { t.lane n with settle := some ⟨s.now, 0, 220, true, 2, true⟩ }
    match escMismatch (laneBlock n) (raise 0x3104 n t) with
    | (true, u) => .next (isolate (laneBlock n) 0x3104 u)
    | (false, u) => .next u

/-- TX_COMMAND (R134, R136, R145 to R147): a frame other than a ranging frame goes out on channel 14. -/
def execTxCommand (n : Nat) (cmd : TxCmd) (s : State) : Host.Outcome State Fault Refusal :=
  let typ := (AirHdr.of cmd.frame.hdr).typ
  if s.laneFitted n = false then .next s
  else if s.airShed then .next (laneResult n .shed s)
  else if s.isIsolated (laneBlock n) then .next (laneResult n .fault s)
  else if 4 ≤ typ ∧ typ ≤ 7 ∨ (s.lane n).pend.isSome then .next (laneTx n cmd s).2
  else .next (laneTx n cmd (laneMove n 14 s)).2

/-- A frame of an exchange is emitted, its first sample at a time in air ticks since reset: a RANGE_POLL consumes its poll number, and its marker
passes the aerial plane at the time reported (R145, R195, R198). -/
def pollEmitted (n : Nat) (f : AirFrame) (aer first : Nat) (s : State) : State :=
  match s.exOn n with
  | some ex =>
    if (AirHdr.of f.hdr).typ = 4 then
      let sent := airShift (airAdd first (rangeMarker ex.cls)) (s.aerDelay n aer)
      let t := setEx n (some { ex with polls := ex.polls ++ [sent] }) s
      seqUsed (fobAddr ex.record) (modifySession ex.record (fun x => { x with polls := ex.q1 + ex.pass }) t)
    else s
  | none => s

/-- The unit overhears an exchange, during which it never transmits (R215). -/
def State.overhears (s : State) : Bool := [0, 1].any (fun n => (s.ohOn n).any (fun o => !o.own))

/-- TX_START (R145, R146): the queued frame is emitted at its start, or as soon as possible; never before the lock checks pass, nor
while a detected frame is being received, nor during an exchange that the unit overhears: a timed one is then cancelled (log 100). -/
def execTxStart (n : Nat) (s : State) : Host.Outcome State Fault Refusal :=
  let s := txDeadline n s
  let l := s.lane n
  match l.pend with
  | none => .next s
  | some c =>
    let first := s.txFirst n c
    if s.airAbs < first then .next s
    else if s.overhears then
      .next (if c.start.isSome then foxLane n (laneResult n .txLate (s.setLane n { l with pend := none })) else s)
    else if l.settle.isSome ∨ s.bit (Reg.AIR_LN_STAT_LOCK n) = false ∨ l.txEnd.isSome ∨ l.loop.isSome ∨
        (l.rx.bind (·.detected)).isSome then .next s
    else .next (pollEmitted n c.frame c.aerial first (laneEmit n c s))

/-- TX_LATE_DEADLINE (R146, R147): at 6 µs before its start a timed transmit whose checks have not passed is cancelled; so is one that a
reception has made late, when the reception has ended. -/
def execTxLateDeadline (n : Nat) (s : State) : Host.Outcome State Fault Refusal :=
  let l := s.lane n
  match l.pend.bind (·.start) with
  | none => .next s
  | some t =>
    let settling := l.settle.isSome || !s.bit (Reg.AIR_LN_STAT_LOCK n)
    if settling ∧ s.airReached (t + 2 ^ 40 - airTenths 60) then
      .next (foxLane n (laneResult n .txLate (s.setLane n { l with pend := none })))
    else .next (txDeadline n s)

/-- RX_COMMAND (R147): a window of some air ticks from now, or an open search; while a frame goes out it opens after it (R133). -/
def execRxCommand (n : Nat) (window : Option Nat) (s : State) : Host.Outcome State Fault Refusal :=
  if s.laneFitted n = false then .next s
  else if s.airShed then .next (laneResult n .shed s)
  else if s.isIsolated (laneBlock n) then .next (laneResult n .fault s)
  else .next (laneListen n (window.map (fun w => s.airAbs + w)) s)

/-- A receive window ends with no detection: NO_DETECT. -/
def windowOver (n : Nat) (s : State) : State :=
  let l := s.lane n
  laneResult n .noDetect ((s.setLane n { l with rx := none, turn := none, search := l.search && l.held.isSome, lastOp := s.now }).put
    (Reg.AIR_LN_STAT_STATE n) 2)

/-- RX_WINDOW_END (R147): a window that ends with no detection ends NO_DETECT. -/
def execRxWindowEnd (n : Nat) (s : State) : Host.Outcome State Fault Refusal :=
  match (s.lane n).rx with
  | none => .next s
  | some w =>
    match w.until_, w.detected with
    | some u, none => if u ≤ s.airAbs then .next (laneDone n (windowOver n s)) else .next s
    | _, _ => .next s

/-- LANE_IDLE_SLEEP (R140): in FRUGAL and WELCOME, 2 ms after its last operation a lane goes to SLEEP. -/
def execLaneIdleSleep (n : Nat) (s : State) : Host.Outcome State Fault Refusal :=
  let l := s.lane n
  if s.profile ≤ 1 ∧ l.held.isNone ∧ l.search = false ∧ l.rx.isNone ∧ l.txEnd.isNone ∧ l.settle.isNone ∧ l.loop.isNone ∧ s.domOn (laneDom n) ∧
      s.laneState n ≠ 0 ∧ s.after l.lastOp 2000 then
    let t := (s.setLane n { l with sleptAt := s.now, wantRx := none, turn := none }).put (Reg.AIR_LN_STAT_STATE n) 0
    .next ((t.setBit (Reg.AIR_LN_STAT_LOCK n) false).put (Reg.AIR_LN_STAT_CHAN n) 0)
  else .next s

/-- A lane's domain goes off; the calibration is lost, and PD_FOX goes with the last of the two (R138, R143). -/
def laneOff (n : Nat) (s : State) : State :=
  let t := ((s.setDom (laneDom n) false).setBit (Reg.AIR_LN_STAT_CALV n) false).setLane n { s.lane n with calAt := none }
  let t := ((t.put (Reg.AIR_LN_STAT_STATE n) 0).setBit (Reg.AIR_LN_STAT_LOCK n) false).put (Reg.AIR_LN_STAT_CHAN n) 0
  if t.domOn .ar0 ∨ t.domOn .ar1 then t else t.setDom .fox false

/-- LANE_DOMAIN_OFF (R140): 10 ms in SLEEP. -/
def execLaneDomainOff (n : Nat) (s : State) : Host.Outcome State Fault Refusal :=
  if s.profile ≤ 1 ∧ s.domOn (laneDom n) ∧ s.laneState n = 0 ∧ (s.lane n).settle.isNone ∧ (s.lane n).held.isNone ∧
      s.after (s.lane n).sleptAt 10000 then .next (laneOff n s)
  else .next s

/-- LANE_TEMP_SAMPLE (R143): every 10 ms the lane temperature (0.01 °C) is sampled; more than 15.00 °C from TCAL the calibration is
invalid. -/
def execLaneTempSample (n : Nat) (temp : Int) (s : State) : Host.Outcome State Fault Refusal :=
  if s.domOn (laneDom n) = false ∨ s.after (s.lane n).tempAt 10000 = false then .next s
  else if s.refBad then .next (recomputes (if n = 0 then .lane0 else .lane1) s)
  else
    let t := enterSamples [temp] (s.setLane n { s.lane n with temp := temp, tempAt := s.now })
    if (s.lane n).calAt.isSome ∧ 1500 < (temp - toInt 16 (s.get (Reg.AIR_LN_CAL_TCAL n))).natAbs then .next (t.setBit (Reg.AIR_LN_STAT_CALV n) false) else .next t

/-- CAL_AGE_EXPIRY (R143): in ROAD, calibration data older than 60 s. -/
def execCalAgeExpiry (n : Nat) (s : State) : Host.Outcome State Fault Refusal :=
  if s.profile = 3 ∧ (s.lane n).calAt.any (fun c => s.after c 60000000) then .next (s.setBit (Reg.AIR_LN_STAT_CALV n) false) else .next s

/-! ### Loopback (R154, R155, R200) -/

/-- LOOPBACK (R154): a lane in SYNTH enters LOOP on its channel, 2 µs later, with both ports isolated and the AGC at rest; `m` is what it
measures. A window without a detection goes on after it (log 100). -/
def execLoopback (n : Nat) (m : LoopMeas) (s : State) : Host.Outcome State Fault Refusal :=
  let l := s.lane n
  if s.laneState n < 2 ∨ l.settle.isSome ∨ s.bit (Reg.AIR_LN_STAT_LOCK n) = false ∨ l.txEnd.isSome ∨ l.loop.isSome ∨
      (l.rx.bind (·.detected)).isSome then .next s
  else
    let again := (l.rx.map (fun w => (s.airAbs, w.until_))).orElse (fun _ => l.wantRx)
    .next (s.setLane n { l with loop := some ⟨s.airAbs, m⟩, turn := some (5, s.airAbs + airTenths 20), rx := none, wantRx := again })

/-- The loopback is over (R155, R200): 1.875 µs for each symbol measured. A measurement more than 6 dB off is repeated at most twice; then the
operation ends FAULT with fault 0x3103 and the lane is isolated. The response is kept for the exchange on the lane; SYNTH follows 2 µs later. -/
def loopEnd (n : Nat) (r : LoopRun) (s : State) : State :=
  let tries := r.meas.attempts.take 3
  let good := fun (d : Int) => decide (d.natAbs ≤ 60)
  let t := s.setLane n { s.lane n with loop := none, turn := some (2, s.airAbs + airTenths 20), txFrom := s.airAbs + airTenths 80 }
  let t := if tries.headD 0 |> good then t else recomputes (laneBlock n) t
  if tries ≠ [] ∧ tries.all (fun d => !good d) then reportFault (laneBlock n) 0x3103 n (laneDrop n .fault t)
  else
    let t := laneResult n .ok t
    match t.exOn n with
    | some ex => setEx n (some { ex with loops := ex.loops ++ [r.meas.resp] }) t
    | none => t

/-- How long a loopback lasts: 2 µs to enter, and a symbol for each attempt up to the first good one, at most three. -/
def loopTicks (m : LoopMeas) : Nat :=
  let bad := (m.attempts.take 2).takeWhile (fun d => decide (60 < d.natAbs))
  airTenths 20 + (bad.length + 1) * 3 * airUnit

/-! ### Detection (R148 to R150, R165, R166) -/

/-- The receive sequence of a lane after a detection at symbol `d`, up to symbol `t`. -/
def State.rxSeq (s : State) (n cls d t : Nat) (m : SyncMeas) : RxSeq :=
  match s.soleAerial n with
  | some a => rxSingle (s.lane n).gain cls d a m
  | none => rxDiversity (s.lane n).gain cls d t m

/-- SYNC_DETECT (R148 to R150, R165, R166): the search runs over the short symbols received; at a detection the gains freeze, the aerial is
chosen, and the turn is sought. Without the turn, or with the detection in one, the reception ends LOST and the search resumes. -/
def execSyncDetect (n : Nat) (m : SyncMeas) (s : State) : Host.Outcome State Fault Refusal :=
  let noise := if s.searchAerial n = 1 then m.noiseB else m.noiseA
  match (s.lane n).rx, detectFrom noise m.syms with
  | some w, some (d, cls) =>
    if s.laneState n ≠ 3 ∨ w.detected.isSome then .next s
    else
      let turn := turnAfter cls d m.syms
      let q := s.rxSeq n cls d (turn.getD m.syms.length) m
      let t := (((s.put (Reg.AIR_LN_RXQ_GAINA n) q.gainA).put (Reg.AIR_LN_RXQ_GAINB n) q.gainB).setBit (Reg.AIR_LN_RXQ_SETB n)
        q.settledB).put (Reg.AIR_LN_RXQ_CHOSEN n) q.aerial
      let t := ((t.put (Reg.AIR_LN_RXQ_QA n) q.qA).put (Reg.AIR_LN_RXQ_QB n) q.qB).put (Reg.AIR_LN_STAT_AER n) q.aerial
      let t := t.setLane n { t.lane n with gain := if q.aerial = 1 then q.gainB else q.gainA }
      if turn.isSome then .next (t.setLane n { t.lane n with rx := some { w with detected := some cls } })
      else
        let t := t.put (Reg.AIR_LN_STAT_AER n) (t.searchAerial n)
        .next ((t.put (Reg.AIR_LN_RXLAST_STATUS n) RxStatus.lost.code).count (Reg.AIR_LN_RXERR2_LOST n) 1)
  | _, _ => .next s

/-! ### What a lane does by itself at a tick -/

/-- A state that was being entered is reached, and a waking lane comes to STANDBY. -/
def laneTurn (n : Nat) (s : State) : State :=
  let l := s.lane n
  let t := match l.turn with
    | some (st, at_) => if at_ ≤ s.airAbs then (s.setLane n { l with turn := none }).put (Reg.AIR_LN_STAT_STATE n) st else s
    | none => s
  match l.settle with
  | some st => if t.laneState n = 0 ∧ st.lead ≠ 0 ∧ t.after st.at_ st.lead then t.put (Reg.AIR_LN_STAT_STATE n) 1 else t
  | none => t

/-- A window in which nothing was detected ends 3 µs before the start of a timed transmit (R147). -/
def windowYield (n : Nat) (s : State) : State :=
  let l := s.lane n
  match l.rx, l.pend.bind (·.start) with
  | some w, some t => if w.detected.isNone ∧ s.airReached (t + 2 ^ 40 - airTenths 30) then windowOver n s else s
  | _, _ => s

/-- The loopback in progress ends when its time is over. -/
def loopTick (n : Nat) (s : State) : State :=
  match (s.lane n).loop with
  | some r =>
    if r.at_ + loopTicks r.meas ≤ s.airAbs then
      let t := loopEnd n r s
      match (t.lane n).wantRx with
      | some w =>
        if (t.lane n).settle.isNone ∧ t.bit (Reg.AIR_LN_STAT_LOCK n) then laneListenFrom n (max (t.airAbs + airTenths 20) w.1) w.2 t else t
      | none => t
    else s
  | none => s

end Sys2Proof.Machine
end

