-- ==== Sys2Proof/Machine/Timers.lean ====
section
/-! DEFINITION. The timer array (R263 to R269): owners, starting and stopping, one tick of a timer, captures. -/

namespace Sys2Proof.Machine

/-- The masters that own a timer (Table 10-3); TIM2 and TIM3 belong to engines that are no masters. -/
def timerOwner (m : Master) (n : Nat) : Bool :=
  match m with
  | .session => n < 2
  | .host | .can | .debug => 4 ≤ n && n < 8
  | .ledger | .sett | .tag => false

/-- Whether a mask names only timers of a master. -/
def timersOwned (m : Master) (mask : Nat) : Bool :=
  (List.range 8).all (fun n => mask / 2 ^ n % 2 == 0 || timerOwner m n)

/-- A write of TIM_GO (R263, R265): the named timers start in the next tick. -/
def timGoWrite (m : Master) (v : Nat) (s : State) : FabStatus × State :=
  if timersOwned m v then (.ok, { s with timers := { s.timers with goNext := s.timers.goNext ||| v % 256 } }) else (.denied, s)

/-- A write of TIM_STOP (R263, R265). -/
def timStopWrite (m : Master) (v : Nat) (s : State) : FabStatus × State :=
  if timersOwned m v then (.ok, { s with timers := { s.timers with stopNext := s.timers.stopNext ||| v % 256 } }) else (.denied, s)

/-- A write of TIMn_FLG (R268): a capture of the same tick counts as arriving after the clear of CAPF, so that OVR is not set (R267). -/
def flagWrite (n v : Nat) (s : State) : State :=
  let hw := regGet s.hwSet (Reg.TIM_FLG n)
  let t := s.w1cAll (Reg.TIM_FLG n) (BitVec.ofNat 32 v &&& 0x1F#32)
  if v / 8 % 2 = 1 ∧ hw.getLsbD 3 ∧ hw.getLsbD 4 then t.setBit (Reg.TIM_FLG_OVR n) false else t

/-- A write to a timer's own register (R263, R264): MODE, PRE and CNT are ignored while it runs. -/
def timRegWrite (m : Master) (n off v : Nat) (s : State) : FabStatus × State :=
  if timerOwner m n = false then (.denied, s)
  else
    let run := s.bit (Reg.TIM_CTL_RUN n)
    let old := s.rd (Reg.TIM_CTL n)
    if off = 0 then
      let w := (BitVec.ofNat 32 v) &&& 0x7F07C00F#32
      let kept := if run then 0x3F000000#32 else 0#32
      (.ok, s.wr (Reg.TIM_CTL n) ((w &&& ~~~kept) ||| (old &&& (kept ||| 0x80000000#32))))
    else if off = 4 then
      (.ok, if run then s else { s with timers := { s.timers with wrap := s.timers.wrap.set n false } }.wr (Reg.TIM_CNT n)
        (BitVec.ofNat 32 v))
    else if off = 8 then (.ok, s.wr (Reg.TIM_CMP0 n) (BitVec.ofNat 32 v))
    else if off = 12 then (.ok, s.wr (Reg.TIM_CMP1 n) (BitVec.ofNat 32 v))
    else if off = 20 then (.ok, flagWrite n v s)
    else (.ok, s)

/-- Whether a timer counts in the coming tick: running, not held by debug halt, VSYS present (R265, R269). -/
def State.timerCounts (s : State) (n : Nat) : Bool :=
  s.bit (Reg.TIM_CTL_RUN n) && s.timers.stopNext / 2 ^ n % 2 == 0 &&
    !(s.bit (Reg.TIM_CTL_DHALT n) && s.timers.debugHalt) && !s.bit Reg.CHRON_STAT_BKP

/-- Whether a timer's counter increments in the coming tick (R264). -/
def State.timerSteps (s : State) (n : Nat) : Bool :=
  s.timerCounts n && decide (2 ^ s.get (Reg.TIM_CTL_PRE n) ≤ s.timers.phase.getD n 0 + 1)

/-- The counter after an increment: 0 after a period match, otherwise one more, through 0xFFFF_FFFF to 0 (R264). -/
def State.timerNext (s : State) (n : Nat) : Nat :=
  if s.get (Reg.TIM_CTL_MODE n) = 1 ∧ s.timers.wrap.getD n false then 0 else (s.get (Reg.TIM_CNT_V n) + 1) % 4294967296

/-- Whether the coming increment matches compare channel x, against the value held at the start of the tick (R266). -/
def State.timerMatches (s : State) (n x : Nat) : Bool :=
  s.timerSteps n && s.timerNext n == (if x = 0 then (s.timers.cmpHeld.getD n (0, 0)).1 else (s.timers.cmpHeld.getD n (0, 0)).2)

/-- Whether the coming increment is from 0xFFFF_FFFF to 0 (R264). -/
def State.timerOverflows (s : State) (n : Nat) : Bool :=
  s.timerSteps n && s.get (Reg.TIM_CNT_V n) == 0xFFFFFFFF && s.timerNext n == 0

/-- One tick of timer n: starting and stopping (R265), the prescaler, the increment, its flags (R264, R266). -/
def timerTick (n : Nat) (s : State) : State :=
  let go := s.timers.goNext / 2 ^ n % 2 == 1 && !s.bit (Reg.TIM_CTL_RUN n)
  let stop := s.timers.stopNext / 2 ^ n % 2 == 1
  let steps := s.timerSteps n
  let m0 := s.timerMatches n 0
  let m1 := s.timerMatches n 1
  let ovf := s.timerOverflows n
  let phase := if go ∨ steps then 0 else if s.timerCounts n then s.timers.phase.getD n 0 + 1 else s.timers.phase.getD n 0
  let wrap := if go then false else if steps then m0 && s.get (Reg.TIM_CTL_MODE n) == 1 else s.timers.wrap.getD n false
  let run := if go then true else if stop then false
    else s.bit (Reg.TIM_CTL_RUN n) && !(m0 && s.get (Reg.TIM_CTL_MODE n) == 2)
  let t := { s with timers := { s.timers with phase := s.timers.phase.set n phase, wrap := s.timers.wrap.set n wrap } }
  let t := t.setBit (Reg.TIM_CTL_RUN n) run
  let t := if steps then t.put (Reg.TIM_CNT_V n) (s.timerNext n) else t
  let t := if m0 then t.setBit (Reg.TIM_FLG_M0 n) true else t
  let t := if m1 then t.setBit (Reg.TIM_FLG_M1 n) true else t
  if ovf then t.setBit (Reg.TIM_FLG_OVF n) true else t

/-- One tick of the array: every timer, then the compare values as held for the next tick. -/
def timersTick (s : State) : State :=
  let t := (List.range 8).foldl (fun t n => timerTick n t) s
  let held := (List.range 8).map (fun n => (t.get (Reg.TIM_CMP0_V n), t.get (Reg.TIM_CMP1_V n)))
  { t with timers := { t.timers with goNext := 0, stopNext := 0, cmpHeld := held } }

/-- Whether timer n captures this edge (TIMn_CTL.CAPSEL, EDGE). -/
def State.captures (s : State) (n src : Nat) (rising : Bool) : Bool :=
  src != 0 && s.get (Reg.TIM_CTL_CAPSEL n) == src &&
    (match s.get (Reg.TIM_CTL_EDGE n) with
     | 0 => rising
     | 1 => !rising
     | 2 => true
     | _ => false)

/-- Timer n takes a capture (R267). -/
def captureInto (n : Nat) (s : State) : State :=
  let t := if s.bit (Reg.TIM_FLG_CAPF n) ∧ s.bit (Reg.TIM_FLG_OVR n) = false then s.setBit (Reg.TIM_FLG_OVR n) true else s
  (t.put (Reg.TIM_CAP_V n) (s.get (Reg.TIM_CNT_V n))).setBit (Reg.TIM_FLG_CAPF n) true

/-- An edge of a capture source reaches every timer that selects it (R267). -/
def captureEdge (src : Nat) (rising : Bool) (s : State) : State :=
  (List.range 8).foldl (fun t n => if s.captures n src rising then captureInto n t else t) s

/-- TIMER_CAPTURE (R267): an edge of capture source `src` (TIMn_CTL.CAPSEL). -/
def execTimerCapture (src : Nat) (rising : Bool) (s : State) : Host.Outcome State Fault Refusal :=
  .next (captureEdge src rising s)

/-- DEBUG_HALT (R265): the debug port halts the core or releases the halt. -/
def execDebugHalt (halt : Bool) (s : State) : Host.Outcome State Fault Refusal :=
  .next { s with timers := { s.timers with debugHalt := halt } }

/-- TIM0 to TIM3 take their settings from the image at its load (R263, R269), interrupt enables 0, TIM1 on MOTION_A; the rest of the
values is derived by a rule the spec does not give, and free (log 11). -/
def engineTimers (digest : Bytes) (s : State) : State :=
  let t := (List.range 4).foldl (fun t n =>
    ((t.wr (Reg.TIM_CTL n) (Config.timerSetting n 0 digest &&& 0xFF07C000#32)).wr (Reg.TIM_CMP0 n) (Config.timerSetting n 8 digest)).wr
      (Reg.TIM_CMP1 n) (Config.timerSetting n 12 digest)) s
  t.put (Reg.TIM_CTL_CAPSEL 1) 1

/-- Whether a flag of TIM4 to TIM7 with its enable drives HOST_IRQ_N (R268). -/
def State.timerIrq (s : State) : Bool :=
  (List.range 4).any (fun i =>
    let n := i + 4
    (s.bit (Reg.TIM_FLG_M0 n) && s.bit (Reg.TIM_CTL_IE0 n)) || (s.bit (Reg.TIM_FLG_M1 n) && s.bit (Reg.TIM_CTL_IE1 n)) ||
    (s.bit (Reg.TIM_FLG_OVF n) && s.bit (Reg.TIM_CTL_IEOVF n)) ||
    ((s.bit (Reg.TIM_FLG_CAPF n) || s.bit (Reg.TIM_FLG_OVR n)) && s.bit (Reg.TIM_CTL_IECAP n)))

/-- The timers after a start-up (R269): stopped, CNT, CAP and FLG at their reset values; TIM4 to TIM7 keep CTL and compare
settings; TIM0 to TIM3 take theirs at image load (`engineTimers`). -/
def timersRestart (s : State) : State :=
  let t := (List.range 8).foldl (fun t n =>
    (((t.setBit (Reg.TIM_CTL_RUN n) false).wr (Reg.TIM_CNT n) 0).wr (Reg.TIM_CAP n) 0).wr (Reg.TIM_FLG n) 0) s
  { t with timers := { t.timers with phase := List.replicate 8 0, wrap := List.replicate 8 false, goNext := 0, stopNext := 0 } }

end Sys2Proof.Machine
end

