-- ==== Sys2Proof/Machine/Chronicle.lean ====
section
/-! DEFINITION. The Chronicle (10): crystal, compensation, setting the time. -/

namespace Sys2Proof.Machine

/-- CRYSTAL_LOST (R250): holdover, fault 0x0101, a CLOCK record. -/
def execCrystalLost (s : State) : Host.Outcome State Fault Refusal :=
  if s.bit Reg.CHRON_STAT_LOCK then
    .next (logRec 0x31 [1] (raise 0x0101 0 ((s.setBit Reg.CHRON_STAT_DEGR true).setBit Reg.CHRON_STAT_LOCK false)))
  else .next s

/-- FLL_LOCK (R249, R250): LOCK is set; a relock in holdover writes a CLOCK record. -/
def execFllLock (s : State) : Host.Outcome State Fault Refusal :=
  let t := { s with chron := { s.chron with lockAt := some s.now } }.setBit Reg.CHRON_STAT_LOCK true
  .next (if s.bit Reg.CHRON_STAT_LOCK then s else if s.bit Reg.CHRON_STAT_DEGR then logRec 0x31 [2] t else t)

/-- DEGR_CLEAR (R250): 10 s after relock. -/
def execDegrClear (s : State) : Host.Outcome State Fault Refusal :=
  if s.bit Reg.CHRON_STAT_LOCK && (match s.chron.lockAt with | some t => s.after t 10000000 | none => false)
  then .next (s.setBit Reg.CHRON_STAT_DEGR false) else .next s

/-- FLL_LOCK_TIMEOUT (R250): no lock within 1 s of AONPOR. -/
def execFllLockTimeout (s : State) : Host.Outcome State Fault Refusal :=
  if !s.bit Reg.CHRON_STAT_LOCK && s.chron.lockAt.isNone && !s.chron.lockFault && s.after s.chron.porAt 1000000 then
    .next (logRec 0x31 [3] (raise 0x0103 0 { s with chron := { s.chron with lockFault := true } }))
  else .next s

/-- BACKUP_SWITCH (R252, R260): the always-on rail goes to VBKP or back; no tick is lost; TIME_PPS is low on VBKP. -/
def execBackupSwitch (onVbkp : Bool) (s : State) : Host.Outcome State Fault Refusal :=
  let t := (s.setBit Reg.CHRON_STAT_BKP onVbkp).setBit Reg.PWR_STAT_BKP onVbkp
  let fall := fun (u : State) => if s.chron.ppsHigh then captureEdge 3 false { u with chron := { u.chron with ppsHigh := false } } else u
  .next (if onVbkp then fall (t.setBit Reg.CHRON_STAT_BKPSEEN true) else t)

/-- CORR in ppb from a temperature in 0.01 °C (R254); the division is taken toward zero (log 10). -/
def corrFor (c : CrystalE) (t : Int) : Int := -(c.offset + (c.k * (t - c.t0) * (t - c.t0)).tdiv 10000000)

/-- The period of compensation samples (R254): 1 s awake, 8 s asleep and on VBKP. -/
def State.compPeriod (s : State) : Nat :=
  match s.power.state with
  | .on | .doze | .standby => if s.bit Reg.CHRON_STAT_BKP then 8000000 else 1000000
  | .sleep | .hibernate | .reset => 8000000

/-- Holdover (R250): the crystal is lost and the FLL has not relocked; CORR is frozen until the first sample after relock (log 103:
DEDUCED). -/
def State.holdover (s : State) : Bool := s.bit Reg.CHRON_STAT_DEGR && !s.bit Reg.CHRON_STAT_LOCK

/-- COMP_SAMPLE (R254): CORR follows the temperature; a reading that fails its escort raises fault 0x0102 and holds CORR;
in holdover none is taken and CORR is frozen (R250). -/
def execCompSample (reading : Option Int) (s : State) : Host.Outcome State Fault Refusal :=
  if s.holdover ∨ s.after s.chron.compAt s.compPeriod = false then .next s
  else if s.refBad then .next (recomputes .aon s)
  else
    let t := { s with chron := { s.chron with compAt := s.now } }
    match reading with
    | none => .next (raise 0x0102 0 t)
    | some temp =>
      let corr := match s.chron.crystal with
        | some c => corrFor c temp
        | none => 0
      .next ((enterSamples [temp] { t with chron := { t.chron with corr := corr } }).put Reg.CHRON_COMP_TEMP (ofInt 16 temp))

/-- The motion block held is written when the profile leaves ROAD, or at a step (Table 12-3): missing seconds unknown. A block without
a sample is dropped. -/
def motionFlush (s : State) : State :=
  match s.led.motion with
  | none => s
  | some b =>
    let n := b.speeds.length
    if n = 0 then { s with led := { s.led with motion := none } } else
    let body := be 6 b.pulses ++ (b.speeds ++ List.replicate (8 - n) 0xFFFF).flatMap (be 2) ++
      (b.metres ++ List.replicate (8 - n) 0).flatMap (be 1) ++ be 1 b.known ++ be 1 b.flags
    ledgerPut ⟨0x20, s.unitNum, b.stampFlags, b.tsub, b.secs, fit 32 body⟩ { s with led := { s.led with motion := none } }

/-- The Chronicle is loaded in one tick (R257): SEQ, STEPPED, the TIME_STEP record; a slew in progress is dropped. -/
def chronStep (target : Nat) (source : Nat) (s : State) : State :=
  let s := motionFlush s
  let old := s.chron.count
  let t := { s with chron := { s.chron with count := BitVec.ofNat 64 target, slew := 0, slewAcc := 0, stepSinceMsg := true } }
  let t := ((t.setBit Reg.CHRON_STAT_STEPPED true).put Reg.CHRON_STAT_SEQ (s.get Reg.CHRON_STAT_SEQ + 1)).setBit
    Reg.CHRON_STAT_SLEW false
  logRec 0x30 (be 8 old.toNat ++ be 8 (target % 2 ^ 64) ++ be 2 (s.rd Reg.CHRON_UTCOFF).toNat ++ be 1 source) t

/-- Whether an overhearing plan is outstanding (R258). -/
def State.planOutstanding (s : State) : Bool := s.sett.plans.any (fun p => s.now < p.2)

/-- The step of a time set: CHRON_UTCOFF and TIME_VALID in the tick of the step (R253, R257). -/
def timeSetStep (target : Nat) (utcoff : Int) (s : State) : State :=
  chronStep target 0 ((s.wr Reg.CHRON_UTCOFF (BitVec.ofInt 32 utcoff)).setBit Reg.CHRON_STAT_TVALID true)

/-- A time set takes effect (R257, R258): a step, deferred while a plan is outstanding, or a slew; it takes the place of one deferred. -/
def applyTimeSet (tset : Nat) (utcoff : Int) (s : State) : State :=
  let err : Int := (tset : Int) - s.chron.count.toNat
  if s.timeValid && decide (err.natAbs ≤ 4194304) then
    let t := s.wr Reg.CHRON_UTCOFF (BitVec.ofInt 32 utcoff)
    { t with chron := { t.chron with slew := err, slewAcc := 0, deferred := none } }.setBit Reg.CHRON_STAT_SLEW (err != 0)
  else if s.planOutstanding then { s with chron := { s.chron with deferred := some ⟨tset, s.now, utcoff⟩ } }
  else timeSetStep tset utcoff { s with chron := { s.chron with deferred := none } }

/-- DEFERRED_STEP (R258): applied once no plan remains outstanding, at most 5 ms later, the deferral added. -/
def execDeferredStep (s : State) : Host.Outcome State Fault Refusal :=
  match s.chron.deferred with
  | none => .next s
  | some d =>
    if !s.planOutstanding || s.after d.sampledAt 5000 then
      .next (timeSetStep (d.target + (s.now - d.sampledAt)) d.utcoff { s with chron := { s.chron with deferred := none } })
    else .next s

end Sys2Proof.Machine
end

