-- ==== Sys2Proof/Machine/Lf.lean ====
section
/-! DEFINITION. The low-frequency field (05): scheduled polls, frames, inhibition, coil faults and tests. -/

namespace Sys2Proof.Machine

/-- Chain time of the last slot of a scheduled entry. -/
def State.lastSlot (s : State) (e : Nat) : Option Nat := (s.lf.slots.find? (fun p => p.1 == e)).map (·.2)

/-- A slot of a scheduled entry is due by chain time (R118); a Chronicle that has been stepped back starts the period afresh. -/
def State.slotDue (s : State) (e period : Nat) : Bool :=
  (s.lastSlot e).all (fun t => decide (s.chron.count.toNat < t ∨ t * 1000 + period * 4194304 ≤ s.chron.count.toNat * 1000))

/-- POLL_SLOT (R109, R118): a slot of a POLLS entry of this unit and of the profile in force falls due; its frame is requested. -/
def execPollSlot (e : Nat) (s : State) : Host.Outcome State Fault Refusal :=
  match s.pollE e with
  | none => .next s
  | some p =>
    if p.profile ≠ s.profile ∨ p.unit ≠ s.unitNum ∨ s.lf.bad.contains e ∨ s.slotDue e p.period = false ∨ s.runs = false then .next s
    else
      let t := { s with lf := { s.lf with slots := (e, s.chron.count.toNat) :: s.lf.slots.filter (fun x => x.1 != e) } }
      .next (lfRequest (t.lfReq (.poll e) p) t)

/-- Whether a queued request is the scheduled poll of an entry that has waited 20 ms. -/
def pollOverdue (s : State) (e : Nat) (i : QItem) : Bool :=
  match i.work with
  | .lf r => r.by_ == .poll e && s.after i.at_ 20000
  | _ => false

/-- POLL_SKIP_DEADLINE (R109): a scheduled poll that has not started within 20 ms of its slot is skipped and counted. -/
def execPollSkipDeadline (e : Nat) (s : State) : Host.Outcome State Fault Refusal :=
  let drop := fun (b : Nat) (s : State) =>
    let q := s.queue (.bank b)
    let gone := (q.items.filter (pollOverdue s e)).length
    (s.setQueue (.bank b) { q with items := q.items.filter (fun i => !pollOverdue s e i) }).count Reg.LF_SKIP_V gone
  .next (drop 1 (drop 0 s))

/-! ### What may start (R98, R104, R106, R107, R109) -/

/-- Channels driving and their summed current, by the peak demands of what runs (R104). -/
def State.demand (s : State) : Nat × Nat :=
  let test := s.lf.test.elim (0, 0) (fun _ => (1, 10))
  ((s.lf.runs.map (·.req.peakN)).sum + test.1, (s.lf.runs.map (·.req.peakI)).sum + test.2)

/-- A peak demand fits beside what runs. -/
def State.demandFits (s : State) (d : Nat × Nat) : Bool := decide (s.demand.1 + d.1 ≤ 3) && decide (s.demand.2 + d.2 ≤ 600)

/-- Channels that no one owns. -/
def State.unowned (s : State) (chans : List Nat) : Bool := chans.all (fun c => s.get (Reg.LF_CH_STAT_OWNER c) == 7)

/-- A frame finds its banks ready, its channels free and its demand met. -/
def State.lfFits (s : State) (r : LfReq) : Bool :=
  s.lf.ct.isNone && r.banks.all s.bankReady && s.unowned r.owned && s.demandFits (r.peakN, r.peakI)

/-- The allowance in force for a request (R109). -/
def State.allowanceFor (s : State) (r : LfReq) : Nat :=
  match r.by_ with
  | .poll _ => allowance * s.get Reg.SES_PROF_LFBUD / 100
  | .trig _ _ => allowance
  | .lfrun _ => allowance

/-- Whether a request's charge fits its banks' windows (R109). -/
def State.lfAffordable (s : State) (r : LfReq) : Bool :=
  (r.chargeA == 0 || decide (s.charged 0 + r.chargeA ≤ s.allowanceFor r)) &&
    (r.chargeB == 0 || decide (s.charged 1 + r.chargeB ≤ s.allowanceFor r))

/-- A coil's diagnostic run finds its bank ready, its channel free and cool, drive allowed, its demand met and its charge within the window
(R98, R100, R104, R106, R109, R110). -/
def State.diagFits (s : State) (c : Nat) (drive : Nat × Nat) : Bool :=
  s.lf.ct.isNone && s.lf.test.isNone && s.bankReady (bankOf c) && s.unowned [c] && !s.hot c && !s.inhibited && s.demandFits (1, 10) &&
    decide (s.charged (bankOf c) + drive.1 * drive.2 * drive.2 ≤ allowance)

/-- The coupled exchange starts when nothing else drives, and its charge fits (R106, R109). -/
def State.ctFits (s : State) (h : CoilE) : Bool :=
  s.lf.ct.isNone && s.lf.test.isNone && s.lf.runs == [] && s.bankReady (bankOf h.channel) &&
    decide (s.charged (bankOf h.channel) + ctCharge h ≤ allowance)

/-- A request at the front of a bank's queue could start now. -/
def State.couldStart (s : State) (i : QItem) : Bool :=
  match i.work with
  | .lf r => (s.lfRefusal r).isNone && s.lfFits r && s.lfAffordable r
  | .coils (c :: _) => s.diagFits c (16, 10)
  | .coupled _ => s.holder.any s.ctFits
  | .coils [] | .burst | .trigger _ | .record _ | .frame _ | .can _ | .group _ | .tally _ | .lane _ | .diag _ => false

/-- Peak demand and channels of a request; a coupled exchange has every channel (R104, R106). -/
def QItem.demand (i : QItem) : Nat × Nat × List Nat :=
  match i.work with
  | .lf r => (r.peakN, r.peakI, r.owned)
  | .coils (c :: _) => (1, 10, [c])
  | .coupled _ => (1, 50, List.range 16)
  | .coils [] | .burst | .trigger _ | .record _ | .frame _ | .can _ | .group _ | .tally _ | .lane _ | .diag _ => (0, 0, [])

/-- Both of two requests fit beside what runs. -/
def State.bothFit (s : State) (i j : QItem) : Bool :=
  s.demandFits (i.demand.1 + j.demand.1, i.demand.2.1 + j.demand.2.1) && i.demand.2.2.all (fun c => !j.demand.2.2.contains c)

/-- The lowest-numbered channel of a request. -/
def QItem.lowest (i : QItem) : Nat := i.demand.2.2.foldl min 16

/-- The order of requests of the two banks (R23, R107): class; arrival; between requests of one clock the lower master ID, and from the same
master the lower lowest-numbered channel. -/
def fieldBefore (a b : QItem) : Bool :=
  decide (a.cls.code < b.cls.code) || (a.cls == b.cls && (decide (a.at_ < b.at_) || (a.at_ == b.at_ &&
    (decide (a.master.id < b.master.id) || (a.master == b.master && decide (a.lowest < b.lowest))))))

/-- The next request of a bank. -/
def State.bankFront (s : State) (b : Nat) : Option QItem := (popBest (s.queue (.bank b)).items).map (·.1)

def QItem.isCoupled (i : QItem) : Bool :=
  match i.work with
  | .coupled _ => true
  | .lf _ | .coils _ | .burst | .trigger _ | .record _ | .frame _ | .can _ | .group _ | .tally _ | .lane _ | .diag _ => false

/-- The other bank's next request goes first (R16, R106, R107): it comes before this one, and it waits for every channel or could start now
but not beside this one. -/
def State.givesWay (s : State) (b : Nat) (i : QItem) : Bool :=
  (s.bankFront (1 - b)).any (fun j => fieldBefore j i && (j.isCoupled || (s.couldStart j && !s.bothFit i j)))

/-- A request of a bank's queue is taken from it. -/
def bankTake (b : Nat) (i : QItem) (s : State) : State :=
  s.setQueue (.bank b) { s.queue (.bank b) with items := (s.queue (.bank b)).items.erase i }

/-! ### Frames -/

/-- The lane of a run is prepared during the frame (R119). -/
def runLane (id : Nat) (s : State) : State :=
  match s.ses.runs.find? (fun r => r.id == id) with
  | none => s
  | some r =>
    if r.lane < 2 then laneMove r.lane 14 s
    else (laneTake 2 .p0 14 (some id) s).2

/-- A WELCOME poll's frame opens a run of its own (R233). -/
def pollOpensRun (e : Nat) (command : Nat) (s : State) : State :=
  if command = 0 ∧ (s.pollE e).elim false (fun p => p.profile == 1) then
    let r : TrigRun := ⟨s.ses.runId, ⟨1, 0, e⟩, [], some e, 1, false, false, none, none, 2, [], [], false, [], s.now⟩
    runLane r.id { s with ses := { s.ses with runs := s.ses.runs ++ [r], runId := s.ses.runId + 1 } }
  else s

/-- The lane that will hear the replies to a frame that no trigger run follows is prepared during the frame (R119). -/
def plainLane (r : LfReq) (s : State) : Option Nat × State :=
  let run : Bool := match r.by_ with
    | .poll e => (s.pollRun e).isSome
    | .trig _ _ => true
    | .lfrun _ => false
  if run ∨ r.command = 2 then (none, s)
  else
    match s.freeLanes 2 with
    | n :: _ => (some n, laneMove n 14 s)
    | [] => (none, s)

/-- A frame that leaves is recorded (R112, R126). -/
def lfSent (bytes : Bytes) (s : State) : State := { s with lf := { s.lf with sent := ((s.now, bytes) :: s.lf.sent).take 16 } }

/-- A request starts (R97, R98, R103, R112): its channels are owned, its frame goes out. -/
def lfStart (cls : Cls) (r : LfReq) (s : State) : State :=
  let bytes := wakeBytes (s.img.run.elim 0 (·.vehicle)) r.command r.tones.length
  let s := r.banks.foldl (fun s b => bankUse b s) s
  let s := r.owned.foldl (fun s c => (own cls c s).setBit (Reg.LF_CH_STAT_SCALED c) (r.scaled && r.data.any (fun d => d.1 == c))) s
  let s := match r.by_ with
    | .poll e => pollOpensRun e r.command s
    | .trig id _ => if r.command = 2 then s else runLane id s
    | .lfrun _ => s
  match plainLane r s with
  | (lane, s) => lfSent bytes { s with lf := { s.lf with runs := s.lf.runs ++ [⟨r, cls, s.now, bytes, s.carrierOf r bytes, lane⟩] } }

/-- LF_FRAME_START (R104 to R109): the next request of a bank's queue, where it is a frame, starts, waits, or is refused or skipped. -/
def execLfFrameStart (b : Nat) (s : State) : Host.Outcome State Fault Refusal :=
  match s.bankFront b with
  | none => .next s
  | some i =>
    match i.work with
    | .lf r =>
      let t := bankTake b i s
      match s.lfRefusal r with
      | some res => .next (lfDone r res [] none t)
      | none =>
        if r.banks.all s.bankReady = false then .next (r.banks.foldl (fun s b => bankUse b s) s)
        else if s.lfFits r = false ∨ s.givesWay b i then .next s
        else if s.lfAffordable r = false then
          .next (match r.by_ with
            | .poll _ => t.count Reg.LF_SKIP_V 1
            | .trig _ _ => s
            | .lfrun _ => s)
        else .next (lfStart i.cls r t)
    | .coils _ | .coupled _ => .next s
    | .burst | .trigger _ | .record _ | .frame _ | .can _ | .group _ | .tally _ | .lane _ | .diag _ => .next (bankTake b i s)

/-- The running frame that owns a channel. -/
def State.runOn (s : State) (c : Nat) : Option LfRun := s.lf.runs.find? (fun r => r.req.owned.contains c)

/-- LF_FRAME_END (R103, R119, R121): the frame on a channel ends after its last part with what its drives measured, or OPEN. -/
def frameEnd (run : LfRun) (meas : List DriveMeas) (s : State) : State :=
  let ms := meas.filter (fun m => run.req.owned.contains m.ch)
  let t := ms.foldl (fun s m => ipkReport m.ch (run.req.currentOf m.ch) m.ipk m.full s) s
  let seen := ms.map (fun m => (m.ch, m.ipk))
  match ms.find? (fun m => coilOpen (run.req.currentOf m.ch) m.ipk m.full) with
  | some m => lfEnd run .open_ seen (disableChannel m.ch 0x2101 t)
  | none => if s.now < run.startAt + periodTicks run.req.periods then t else lfEnd run .ok seen t

/-- BANK_IDLE_OFF (R97): in FRUGAL and WELCOME a bank unused for 10 ms is switched off. -/
def execBankIdleOff (b : Nat) (s : State) : Host.Outcome State Fault Refusal :=
  let busy := s.lf.runs.any (fun r => r.req.banks.contains b) || s.lf.ct.isSome || s.lf.test.any (fun r => bankOf r.ch == b) ||
    !(s.queue (.bank b)).items.isEmpty
  if s.profile ≤ 1 ∧ s.domOn (bankDom b) ∧ busy = false ∧ s.after (s.bank b).usedAt 10000 then .next (bankOff b s)
  else .next s

/-- Drive becomes inhibited: running frames and diagnostic runs stop with INHIBIT (R100). -/
def lfInhibit (s : State) : State :=
  if s.bit Reg.LF_STAT_INH then s
  else
    let s := { s with lf := { s.lf with inhSince := some s.now, inhFault := false, allowSince := none } }.setBit Reg.LF_STAT_INH true
    testStop (fun _ => true) .inhibit (lfEndAll (fun _ => true) .inhibit s)

/-- VBAT_BOOST_THRESHOLD (R99): VBAT crosses 16.0 V; BOOST_G starts or stops switching. -/
def execVbatBoostThreshold (vbat : Nat) (s : State) : Host.Outcome State Fault Refusal := .next (setVbat vbat s)

/-- DRIVE_ALLOW (R100): drive is allowed again once all three conditions have held for 10 ms without a break. -/
def execDriveAllow (vbat vlf : Nat) (gate : Bool) (s : State) : Host.Outcome State Fault Refusal :=
  let t := measured vbat vlf gate s
  if t.lf.allowSince.any (fun a => t.after a 10000) then
    .next ({ t with lf := { t.lf with inhSince := none, inhFault := false, boostFail := false } }.setBit Reg.LF_STAT_INH false)
  else .next t

/-- INHIBIT_LONG (R100): drive inhibited for 1 s raises fault 0x2107. -/
def execInhibitLong (s : State) : Host.Outcome State Fault Refusal :=
  match s.lf.inhSince with
  | none => .next s
  | some t =>
    if s.lf.inhFault = false ∧ s.after t 1000000 then
      .next (raise 0x2107 0 { s with lf := { s.lf with inhFault := true } })
    else .next s

/-- A bridge fault: the channel is disabled, the frame or test that uses it ends (R121). -/
def bridgeFault (c code : Nat) (res : LfResult) (s : State) : State :=
  let t := testStop (fun r => r.ch == c) res (disableChannel c code s)
  match s.runOn c with
  | some run => lfEnd run res [] t
  | none => t.put (Reg.LF_CH_STAT_LAST c) res.code

/-- A channel at 150 °C stops, and the frame or test on it ends OVERTEMP (R110). -/
def overtemp (c : Nat) (s : State) : State :=
  let t := { s with lf := { s.lf with chs := s.lf.chs.modify c (fun x => { x with hot := true }) } }
  let t := testStop (fun r => r.ch == c) .overtemp (raise 0x2104 c (t.count (Reg.LF_CH_STAT_NFLT c) 1))
  match s.runOn c with
  | some run => lfEnd run .overtemp [] t
  | none => t

/-- BRIDGE_COOL (R110): the sensor reads 135 °C or less and the channel is usable again. -/
def execBridgeCool (c : Nat) (s : State) : Host.Outcome State Fault Refusal :=
  .next { s with lf := { s.lf with chs := s.lf.chs.modify c (fun x => { x with hot := false }) } }

/-- A measured resonance takes effect for the next frame (R101, R122). -/
def setResonance (c : Nat) (m : CoilMeas) (s : State) : State :=
  let t := ((s.put (Reg.LF_CH_RES_FRES c) m.fres).put (Reg.LF_CH_RES_QF c) m.qf).put (Reg.LF_CH_CFG_FDRV c) (driveFreq m.fres)
  let t := t.setBit (Reg.LF_CH_STAT_DETUNE c) (detuned m.fres)
  if detuned m.fres then raise 0x2105 c t else t

/-! ### Coil tests (R122 to R124) -/

/-- Why a coil's test ends without running (R18, R110). -/
def State.testRefusal (s : State) (c : Nat) : Option LfResult :=
  if s.bankShed (bankOf c) then some .shed
  else if s.isIsolated (bankBlock (bankOf c)) ∨ s.isIsolated .lfCommon then some .fault
  else none

/-- A diagnostic run starts: its channel owned, its drive charged (R98, R108). -/
def testStart (c : Nat) (cls : Cls) (x : CoilTest) (s : State) : State :=
  let b := bankOf c
  let t := own cls c (bankUse b s)
  let t := t.setBank b { t.bank b with charges := ⟨s.now, 0, x.drive.1, x.drive.2 * x.drive.2⟩ :: (t.bank b).charges }
  { t.setBit (Reg.LF_CH_STAT_SCALED c) false with lf := { t.lf with test := some ⟨c, cls, s.now, x⟩ } }

/-- One disabled channel's retest (R124): two passes in a row enable it again. -/
def retestDone (c : Nat) (pass : Bool) (s : State) : State :=
  if s.disabled c = false then s
  else
    let n := if pass then (s.lf.chs.getD c LfCh.init).passes + 1 else 0
    let t := { s with lf := { s.lf with chs := s.lf.chs.modify c (fun x => { x with passes := if n = 2 then 0 else n }) } }
    if n = 2 then
      { t with lfAon := { t.lfAon with disabled := t.lfAon.disabled - 2 ^ c } }.setBit (Reg.LF_CH_CFG_EN c) (s.fitted c)
    else t

/-- A full test has measured (R121, R122): the resonance and quality factor, or the coil fault it has found. -/
def fullDone (c : Nat) (m : CoilMeas) (s : State) : State :=
  let t := ipkReport c 10 m.ipk m.full s
  match m.off.result with
  | .ok => if coilOpen 10 m.ipk m.full then bridgeFault c 0x2101 .open_ t else (setResonance c m t).put (Reg.LF_CH_STAT_LAST c) 0
  | .open_ => bridgeFault c 0x2101 .open_ t
  | .shortVbat => bridgeFault c 0x2102 .shortVbat t
  | .shortGnd => bridgeFault c 0x2103 .shortGnd t

/-- A diagnostic run ends with what it measured. -/
def testEnd (r : TestRun) (s : State) : State :=
  match r.test with
  | .full m => fullDone r.ch m (testRelease s)
  | .retest pass => retestDone r.ch pass (ipkFree r.ch 5 (testRelease s))

/-- A queued run of coil tests goes on with its next coil, or leaves the queue after its last. -/
def coilsNext (b : Nat) (i : QItem) (rest : List Nat) (s : State) : State :=
  if rest = [] then bankTake b i s
  else
    let q := s.queue (.bank b)
    s.setQueue (.bank b) { q with items := q.items.map (fun j => if j = i then { j with work := .coils rest } else j) }

/-- The next coil test of a bank's queue starts, with what it will measure, where it may. -/
def coilNext (b : Nat) (m : CoilMeas) (s : State) : Option State :=
  match s.bankFront b with
  | none => none
  | some i =>
    match i.work with
    | .coils [] => some (bankTake b i s)
    | .coils (c :: rest) =>
      match s.testRefusal c with
      | some res => some ((coilsNext b i rest s).put (Reg.LF_CH_STAT_LAST c) res.code)
      | none =>
        if s.bankReady b = false then some (bankUse b s)
        else if s.diagFits c (16, 10) = false ∨ s.givesWay b i then none
        else some (testStart c i.cls (.full m) (coilsNext b i rest s))
    | .lf _ | .coupled _ | .burst | .trigger _ | .record _ | .frame _ | .can _ | .group _ | .tally _ | .lane _ | .diag _ => none

/-- COIL_TEST (R122, R123): the next coil test due starts once its channel is free and its demand and charge fit; until then it waits. It
ends within 1.5 ms (`fieldTick`). -/
def execCoilTest (m : CoilMeas) (s : State) : Host.Outcome State Fault Refusal :=
  .next (((coilNext 0 m s).orElse (fun _ => coilNext 1 m s)).getD s)

/-- The fitted channels of a list are to be tested, in a class: one request in the queue of each bank concerned, which powers it; false where
a queue refuses (R31, R104). -/
def askTests (chans : List Nat) (cls : Cls) (m : Master) (s : State) : Bool × State :=
  [0, 1].foldl (fun (r : Bool × State) b =>
    match (chans.filter r.2.fitted).filter (fun c => bankOf c == b) with
    | [] => r
    | cs =>
      match enqueue (.bank b) cls m (.coils cs) r.2 with
      | (.taken, t) => (r.1, bankUse b t)
      | (_, t) => (false, t)) (true, s)

/-- COIL_TEST_24H (R123): every 24 h in WELCOME and FRUGAL every fitted coil is tested, bank A before bank B. -/
def execCoilTest24h (s : State) : Host.Outcome State Fault Refusal :=
  if s.profile ≤ 1 ∧ s.after s.lf.test24At 86400000000 then
    .next (askTests (List.range 16) .p1 .session { s with lf := { s.lf with test24At := s.now } }).2
  else .next s

/-- A disabled channel's retest falls due (R124). -/
def State.retestDue (s : State) (c : Nat) : Bool :=
  s.disabled c && s.fitted c && s.after (s.lf.chs.getD c LfCh.init).retestAt 10000000 && s.lf.retests.all (fun r => r.1 != c)

/-- DISABLED_RETEST (R124): every 10 s each disabled channel is retested; `passed` lists the channels that pass. They run one after the other
as they fit (`fieldTick`). -/
def execDisabledRetest (passed : List Nat) (s : State) : Host.Outcome State Fault Refusal :=
  let due := (List.range 16).filter s.retestDue
  .next { s with lf := { s.lf with
    retests := s.lf.retests ++ due.map (fun c => (c, passed.contains c)),
    chs := due.foldl (fun l c => l.modify c (fun x => { x with retestAt := s.now })) s.lf.chs } }

/-- Requests of a higher class than a retest's, or a coupled exchange, wait in a bank. -/
def State.retestYields (s : State) : Bool :=
  [0, 1].any (fun b => (s.queue (.bank b)).items.any (fun i => i.cls == .p0))

/-- The first retest that may start does (R104, R109). -/
def retestStart (s : State) : State :=
  match s.lf.retests.find? (fun r => (s.testRefusal r.1).isNone) with
  | none => s
  | some r =>
    if s.retestYields then s
    else if s.bankReady (bankOf r.1) = false then (if s.runs ∧ s.inhibited = false then bankUse (bankOf r.1) s else s)
    else if s.diagFits r.1 (10, 5) = false then s
    else testStart r.1 .p1 (.retest r.2) { s with lf := { s.lf with retests := s.lf.retests.erase r } }

/-- What the field does by itself at a tick: a diagnostic run ends 1.5 ms after its start (R122), a retest that is due starts, reply windows open
(R119). -/
def fieldTick (s : State) : State :=
  repliesTick (match s.lf.test with
    | some r => if s.after r.startAt 1500 then testEnd r s else s
    | none => if s.lf.retests = [] then s else retestStart s)

end Sys2Proof.Machine
end

