-- ==== Sys2Proof/Machine/Coupled.lean ====
section
/-! DEFINITION. The coupled exchange (R125 to R130, R245) and what stops it: inhibition and bridge shorts. -/

namespace Sys2Proof.Machine

/-- A coupled exchange is over (R130, R245), and its K_ct erased (R328): OK for a record with START and COUPLED grants start release, anything else ends
COUPLED_FAIL, with the coupled result in the ledger. -/
def ctOver (res : LfResult) (s : State) : State :=
  let record := (s.lf.ct.map (·.record)).getD 0xFF
  let t := volErase (fun k => k.name == .kCt) (ctRelease res s)
  let may := (t.activeFob record).any (fun f => f.has rightStart && f.has rightCoupled)
  if res = .ok ∧ may then startRelease record 1 t
  else decided 6 0xE record 0 res.code t

/-- A byte's length on the downlink in periods, the most significant bit first (R126): 20 for a 0 bit, 36 for a 1 bit. -/
def downByte (b : Byte) : Nat := ((msbBits [b]).map (fun x => if x then 36 else 20)).sum

/-- The length of a downlink frame in periods, start gap included (R126). -/
def downLen (b : Bytes) : Nat := 4 + (b.map downByte).sum

/-- SELECT on the downlink (R128): 0x3C and its CRC-8. -/
def ctSelectFrame : Bytes := [0x3C] ++ be 1 (crc8 [0x3C])

/-- CHALLENGE on the downlink (R128). -/
def ctChallengeFrame (c : Bytes) : Bytes := [0xA5] ++ c ++ be 1 (crc8 ([0xA5] ++ c))

/-- COUPLED_EXCHANGE_START (R106, R125, R128): the exchange at the front of the holder's bank owns every channel once nothing else drives;
charging, then SELECT. -/
def execCoupledExchangeStart (s : State) : Host.Outcome State Fault Refusal :=
  match s.holder with
  | none => .next s
  | some h =>
    let b := bankOf h.channel
    match (s.bankFront b).filter QItem.isCoupled with
    | none => .next s
    | some i =>
      let t := bankTake b i s
      if s.inhibited then .next (ctRefused .inhibit t)
      else if s.bankShed b then .next (ctRefused .shed t)
      else if s.coupledOn = false ∨ s.usable h.channel = false ∨ s.isIsolated (bankBlock b) ∨ s.isIsolated .ct ∨ s.isIsolated .lfCommon
      then .next (ctRefused .fault t)
      else if s.bankReady b = false then .next (bankUse b s)
      else if s.ctFits h = false ∨ s.givesWay b i then .next s
      else
        let t := bankUse b t
        let t := ((maskChans 0xFFFF).filter s.fitted).foldl (fun s c => own .p0 c s) t
        let t := t.setBit (Reg.LF_CH_STAT_SCALED h.channel) (50 < h.current)
        let t := (t.setBit Reg.LF_CT_STAT_BUSY true).count Reg.LF_CT_STAT_COUNT 1
        let from_ := s.now + periodTicks (625 + downLen ctSelectFrame)
        .next (lfSent ctSelectFrame { t with lf := { t.lf with ct := some ⟨s.now, .awaitId, from_, 0, 0xFF, [], [], false⟩ } })

/-- LF_FRAME_END (R103, R119, R121): the frame on a channel ends, or the coupled exchange's drive on it has been measured: a holder coil found
open ends the exchange. -/
def execLfFrameEnd (c : Nat) (meas : List DriveMeas) (s : State) : Host.Outcome State Fault Refusal :=
  match s.runOn c, s.lf.ct, s.holder with
  | some run, _, _ => .next (frameEnd run meas s)
  | none, some x, some h =>
    match meas.find? (fun m => m.ch == h.channel) with
    | some m =>
      if c ≠ h.channel then .next s
      else
        let i := min h.current 50
        let t := ipkReport c i m.ipk m.full { s with lf := { s.lf with ct := some { x with seen := true } } }
        .next (if coilOpen i m.ipk m.full then ctOver .open_ (disableChannel c 0x2101 t) else t)
    | none => .next s
  | none, _, _ => .next s

/-- The key of a record's transponder (R245). -/
def State.ctKey (s : State) (f : FobRec) : Option Bytes :=
  if s.bit Reg.LF_CT_STAT_LEG then s.slotKey 255 else (s.kf f.fobId f.gen).map (fun k => kCt k f.fobId)

/-- An uplink frame's data (R127): the start field 0b111, `n` bytes and their CRC-8; none where a transition is missing or the CRC does not
match. -/
def uplink (n : Nat) (ok : Bool) (bits : List Bool) : Option Bytes :=
  let b := bytesOfMsb (n + 1) (bits.drop 3)
  if ok ∧ bits.length = 3 + 8 * (n + 1) ∧ bits.take 3 = [true, true, true] ∧ crc8 (b.take n) = fieldBe b n 1 then some (b.take n) else none

/-- CT_ID_RECEIVED (R128, R129): an ID of 43 bits that starts `delay` periods after SELECT; CHALLENGE follows for an enrolled fob. A record
that a tester has barred counts as no enrolled fob (log 97: DEDUCED). -/
def execCtIdReceived (delay : Nat) (ok : Bool) (bits : List Bool) (s : State) : Host.Outcome State Fault Refusal :=
  match s.lf.ct with
  | none => .next s
  | some c =>
    if c.phase ≠ .awaitId then .next s
    else if delay < 56 ∨ 72 < delay then .next (ctOver .noReply s)
    else
      match uplink 4 ok bits with
      | none => .next (ctOver .uplink s)
      | some d =>
        let t := s.put Reg.LF_CT_FOB_V (fieldBe d 0 4)
        match t.fobOf (fieldBe d 0 4) with
        | none => .next (ctOver .unknownFob t)
        | some n =>
          match t.activeFob n with
          | none => .next (ctOver .unknownFob t)
          | some f =>
            match t.ctKey f, randBytes false 16 t with
            | some key, (.bytes ch, u) =>
              let from_ := s.now + periodTicks (64 + downLen (ctChallengeFrame ch))
              let u := if u.bit Reg.LF_CT_STAT_LEG then u else volPut ⟨.kCt, n, key⟩ u
              .next (lfSent (ctChallengeFrame ch) { u with lf := { u.lf with
                ct := some { c with phase := .awaitResponse, from_ := from_, fob := f.fobId, record := n, challenge := ch,
                                    expected := (cmac key ch).take 8 } } })
            | some _, (_, u) => .next (ctOver .fault { u with lf := { u.lf with ct := some { c with record := n } } })
            | none, _ => .next (ctOver .fault { t with lf := { t.lf with ct := some { c with record := n } } })

/-- CT_RESPONSE_RECEIVED (R128, R129): a RESPONSE of 75 bits that starts `delay` periods after CHALLENGE is compared. One that starts before
the 448 µs are over, for which R129 names no result, ends NO_REPLY, as an early ID does (log 97: DEDUCED). -/
def execCtResponseReceived (delay : Nat) (ok : Bool) (bits : List Bool) (s : State) : Host.Outcome State Fault Refusal :=
  match s.lf.ct with
  | none => .next s
  | some c =>
    if c.phase ≠ .awaitResponse then .next s
    else if delay < 56 ∨ 1750 < delay then .next (ctOver .noReply s)
    else if 1500 < delay then .next (ctOver .late s)
    else
      match uplink 8 ok bits with
      | none => .next (ctOver .uplink s)
      | some d => .next (ctOver (if d = c.expected then .ok else .mismatch) s)

/-- CT_REPLY_TIMEOUT (R129): no ID by 72 periods after SELECT, no RESPONSE by 14.000 ms after CHALLENGE. -/
def execCtReplyTimeout (s : State) : Host.Outcome State Fault Refusal :=
  match s.lf.ct with
  | none => .next s
  | some c =>
    let limit := match c.phase with
      | .awaitId => periodTicks 72
      | .awaitResponse => periodTicks 1750
    if c.from_ + limit < s.now then .next (ctOver .noReply s) else .next s

/-- CT_DRIVE_CAP (R125): the drive stops at the latest 200 ms after it starts. -/
def execCtDriveCap (s : State) : Host.Outcome State Fault Refusal :=
  match s.lf.ct with
  | none => .next s
  | some c => if s.after c.startAt 200000 then .next (ctOver .timeout s) else .next s

/-- Field work in progress stops with a result: frames, diagnostic runs and the coupled exchange. -/
def fieldStop (res : LfResult) (s : State) : State :=
  let t := testStop (fun _ => true) res (lfEndAll (fun _ => true) res s)
  if t.lf.ct.isSome then ctOver res t else t

/-- DRIVE_INHIBIT (R100): a supply condition inhibits drive within 20 µs. -/
def execDriveInhibit (vbat vlf : Nat) (gate : Bool) (s : State) : Host.Outcome State Fault Refusal :=
  let t := measured vbat vlf gate s
  if inhibits vbat vlf gate then .next (fieldStop .inhibit (lfInhibit t)) else .next t

/-- BOOST_TIMEOUT (R99): VLF not at 8.0 V within 2 ms of the boost starting. -/
def execBoostTimeout (s : State) : Host.Outcome State Fault Refusal :=
  match s.lf.boostAt with
  | none => .next s
  | some t =>
    if s.after t 2000 ∧ s.power.vlf < 8000 then
      .next (fieldStop .inhibit (lfInhibit (raise 0x2108 s.power.vlf { s with lf := { s.lf with boostAt := none, boostFail := true } })))
    else .next s

/-- BRIDGE_OVERTEMP (R110): the channel stops at 150 °C and its frame, or the exchange on the holder, ends OVERTEMP. -/
def execBridgeOvertemp (c : Nat) (s : State) : Host.Outcome State Fault Refusal :=
  let t := overtemp c s
  if t.lf.ct.isSome ∧ (t.holder.map (·.channel)) = some c then .next (ctOver .overtemp t) else .next t

/-- BRIDGE_SHORT (R121): an overcurrent found to be a short disables the channel; what drove it ends. -/
def execBridgeShort (c : Nat) (toGround : Bool) (s : State) : Host.Outcome State Fault Refusal :=
  let code := if toGround then 0x2103 else 0x2102
  let res := if toGround then LfResult.shortGnd else LfResult.shortVbat
  let t := bridgeFault c code res s
  if t.lf.ct.isSome ∧ (t.holder.map (·.channel)) = some c then .next (ctOver res t) else .next t

end Sys2Proof.Machine
end

