-- ==== Sys2Proof/Machine/Profile.lean ====
section
/-! DEFINITION. Profiles (R34 to R38) and performance levels (R425, R426). -/

namespace Sys2Proof.Machine

/-- The profile entry of the running image; FRUGAL's figures are 0 without one. -/
def State.profE (s : State) (p : Nat) : ProfE :=
  ((s.img.run.bind (fun i => i.profiles.entries[p]?))).getD ⟨0, 0, 0⟩

/-- The profile that R34 selects. -/
def State.profileFor (s : State) : Nat :=
  let p := (s.img.run.map (·.profiles))
  let parked := p.any (fun q => decide ((s.now - s.motion.parkedAt) < q.tWelcome * 3600 * 4194304))
  if s.lc = 3 then 4
  else if s.bit Reg.WM_MSTAT_MOVING then 3
  else if s.lines.ignition then 2
  else if parked ∧ p.any (fun q => decide (q.vFrugal ≤ s.powAon.vbat)) then 1
  else 0

/-! ### Levels -/

def listMin (l : List Nat) (top : Nat) : Nat := l.foldl min top

/-- The level a profile gives: before profile entry PL3; a session in progress keeps the level it started with (R36);
of sessions that started at different levels the one admitted first gives it (log 92: DEDUCED). -/
def State.profileLevel (s : State) : Nat :=
  match s.ses.ss with
  | x :: _ => x.pl
  | [] => if s.profile = 7 then 3 else (s.profE s.profile).pl

/-- The level in force (R426): the profile's, lowered by the Hedgehog's caps, PL0 while VBAT_FAIL is asserted. -/
def State.levelFor (s : State) : Nat :=
  if s.bit Reg.PWR_STAT_VBATF then 0 else listMin (s.hh.caps.map (·.2)) s.profileLevel

/-- A new target level: PWR_PL.TARGET, SES_PROF.PL and BUSY from the request on (R426). -/
def relevel (s : State) : State :=
  let l := s.levelFor
  let t := (s.put Reg.SES_PROF_PL l).put Reg.PWR_PL_TARGET l
  if l = s.get Reg.PWR_PL_CUR ∧ s.power.ramp.isNone then t else t.setBit Reg.PWR_PL_BUSY true

/-! ### Entering a profile -/

/-- What a profile sets at once (R36): scheduling, budget, grade, level; both banks powered in CAB, ROAD and WORKSHOP (R97); coil tests on
entry to CAB and WORKSHOP (R123); the head
tells the chain (R85). -/
def enterProfile (p : Nat) (s : State) : State :=
  if s.profile = p then relevel s
  else
    let e := s.profE p
    let s := if s.profile = 3 then motionFlush s else s
    let s := if s.profile = 7 then { s with boot := { s.boot with profileAt := some s.now } } else s
    let t := (((s.put Reg.SES_PROF_CUR p).setBit Reg.SES_PROF_CHG true).put Reg.SES_PROF_GRADE e.grade).put Reg.SES_PROF_LFBUD e.budget
    let t := { t with wm := { t.wm with fresh := t.wm.fresh || decide (2 ≤ p) },
                      power := { t.power with frugalSince := if p = 0 then some s.now else none },
                      boot := { t.boot with evalAt := s.now } }
    let t := banksKept t
    let t := if p = 2 ∨ p = 4 then (askTests (List.range 16) .p1 .session t).2 else t
    let t := if t.isHead then settSend 0x0D true 1 .p1 (be 1 p) { t with sett := { t.sett with profAt := s.now } } else t
    listenKick (relevel t)

/-- The conditions are evaluated (R35): a selection by PROFILE_SWITCH holds until the next event, not over the evaluation of each
second; nothing is entered under HALT, or before profile entry. -/
def evalProfile (event : Bool) (s : State) : State :=
  if s.profile = 7 ∨ s.bit Reg.SUP_HH_STAT_HALT ∨ ¬ (s.isHead ∨ s.isActing) then { s with boot := { s.boot with evalAt := s.now } }
  else
    let t := { s with boot := { s.boot with evalAt := s.now, wmSelect := if event then none else s.boot.wmSelect } }
    let t := if event then { t with boot := { t.boot with evalDue := false, evalSec := some (s.now / 4194304) } } else t
    match t.boot.wmSelect with
    | some p => if t.lc = 3 then enterProfile 4 t else enterProfile p t
    | none => enterProfile t.profileFor t

/-- An ignition, motion, life-cycle or supply event asks for an evaluation, which follows at the end of its tick (R35). -/
def evalEvent (s : State) : State := { s with boot := { s.boot with evalDue := true } }

/-- Events wait that fall in a second in which none has been evaluated yet (R35; log 91: DEDUCED). -/
def State.evalWaits (s : State) : Bool := s.boot.evalDue && s.boot.evalSec != some (s.now / 4194304)

/-- Events are evaluated together, with a single transition: the first of a second at the end of its tick, those that follow in the same
second at its end (R35). -/
def eventsEvaluate (s : State) : State := if s.evalWaits then evalProfile true s else s

/-- PROFILE_EVALUATE (R35): at an event, or once per second. -/
def execProfileEvaluate (event : Bool) (s : State) : Host.Outcome State Fault Refusal :=
  let t := if event then evalEvent s else s
  if t.evalWaits then .next (evalProfile true t)
  else .next (if s.after s.boot.evalAt 1000000 then evalProfile false t else t)

/-- PL_CHANGE (R426): a change to the level in force begins: upward the voltage first, downward the clock first. -/
def execPlChange (s : State) : Host.Outcome State Fault Refusal :=
  let l := s.levelFor
  let t := relevel s
  if s.runs = false then .next s
  else if s.power.ramp.isSome ∨ s.hh.trial.isSome ∨ l = s.get Reg.PWR_PL_CUR then .next t
  else
    let t := { t with power := { t.power with ramp := some l, plAt := s.now, plFrom := s.get Reg.PWR_PL_CUR } }
    .next (if l < s.get Reg.PWR_PL_CUR then runLevel l t else t)

/-- Nominal core voltage of a level in mV (Table 19-5). -/
def coreNominal (l : Nat) : Nat := [700, 750, 850, 950].getD l 700

/-- The trim of a level within ±30 mV, and the core voltage in 5 mV steps (R425). -/
def setTrim (l : Nat) (trim : Int) (s : State) : State :=
  let c := clampInt (-30) 30 trim
  ({ s with power := { s.power with trimAt := s.now } }.put Reg.PWR_PL_TRIM (ofInt 8 c)).put Reg.PWR_PL_VCORE
    (((coreNominal l : Int) + c) / 5).toNat

/-- The time of a voltage ramp between two levels at 10 mV/µs, in µs (R426). -/
def rampTime (l m : Nat) : Nat := (max (coreNominal l) (coreNominal m) - min (coreNominal l) (coreNominal m)) / 10

/-- PL_CHANGE_DONE (R425, R426): the last voltage has settled, after a ramp of 10 mV/µs; the level is trimmed; a level asked for meanwhile follows at once. -/
def execPlChangeDone (trim : Int) (s : State) : Host.Outcome State Fault Refusal :=
  match s.power.ramp with
  | none => .next s
  | some l =>
    if s.after s.power.plAt (rampTime (s.power.plFrom) l) = false then .next s
    else
    let t := setTrim l trim { s with power := { s.power with ramp := none } }
    let t := runLevel l t
    if t.levelFor = l then .next ((relevel t).setBit Reg.PWR_PL_BUSY false)
    else
      let m := t.levelFor
      let t := { (relevel t) with power := { t.power with ramp := some m, plAt := s.now, plFrom := l } }
      .next (if m < l then runLevel m t else t)

/-- PROCESS_TRIM (R425): every 1 s the monitors trim the level in force. -/
def execProcessTrim (trim : Int) (s : State) : Host.Outcome State Fault Refusal :=
  if s.runs ∧ s.power.ramp.isNone ∧ s.after s.power.trimAt 1000000 then .next (setTrim (s.get Reg.PWR_PL_CUR) trim s) else .next s

end Sys2Proof.Machine
end

