-- ==== Sys2Proof/Machine/Den.lean ====
section
/-! DEFINITION. Den commands (R333 to R342), the CH4410 window (R341), the protection rewrite (R330). -/

namespace Sys2Proof.Machine

/-! ### Keys in (R333, R334) -/

/-- The key of a generated slot: a private key by rejection, a 16-byte key for AES-128, 32 bytes otherwise (log 25). -/
def drawKey (ty : Nat) (s : State) : Drawn × State :=
  if ty = 4 then drawScalar true s else randBytes true (if ty = 1 then 16 else 32) s

/-- GENERATE: ATTR, ENGINE and LABEL in the buffer. -/
def denGenerate (c : DenCmd) (s : State) : State :=
  let attr := fieldBe (s.vltBuf 0 4) 0 4
  let engine := fieldBe (s.vltBuf 4 1) 0 1
  let ty := attrType attr
  let len := if ty = 1 then 16 else 32
  match s.slotRefusal c.slot with
  | some r => denDone r [] s
  | none =>
    if attrsFit c.slot attr engine 0 len false = false ∨ ty = 5 ∨ s.vltBuf 5 3 ≠ zeros 3 then denDone .format [] s
    else if s.occupied c.slot then denDone .occupied [] s
    else
      match drawKey ty s with
      | (.bytes k, t) =>
        denCommit [t.slotWrite c.slot ⟨k, attrStored c.slot attr 0, engine, 0, len, s.vltBuf 8 16, 0⟩] .denCmd t
      | (d, t) => denWait c d t

/-- IMPORT_OPEN: an ephemeral pair and a nonce, in a record signed with slot 0. -/
def denImportOpen (c : DenCmd) (s : State) : State :=
  match keyCheck 0 [4] (some 10) 8 .session .internal s with
  | (some _, t) => denDone .unusable [] t
  | (none, t) =>
    let key := beNat (t.keyBytes 0)
    match drawScalar true t with
    | (.bytes e, t) =>
      match randBytes true 16 t with
      | (.bytes nonce, t) =>
        let body := ascii "DENI" ++ be 8 t.straps.serial ++ be 1 c.slot ++ zeros 3 ++ nonce ++ p256Public (beNat e)
        match signWith key (sha256 body) t with
        | (.bytes sig, t) =>
          denDone .ok (body ++ sig) { t with den := { t.den with pair := some ⟨beNat e, nonce, c.slot, t.now⟩ } }
        | (d, t) => denWait c d t
      | (d, t) => denWait c d t
    | (d, t) => denWait c d t

/-- The wrapping key (R334, R336). -/
def State.wrapKey (s : State) (z : Bytes) (label : String) (slot : Nat) (nonce : Bytes) : Bytes :=
  kdf z (ascii label) (be 8 s.straps.serial ++ be 1 slot ++ nonce) 128

/-- IMPORT: the blob of Table 14-6 in the buffer. The pair ends with it, whatever its result (R334). -/
def denImport (c : DenCmd) (s : State) : State :=
  let b := s.vltBuf 0 128
  let t := { s with den := { s.den with pair := none } }
  match s.slotRefusal c.slot with
  | some r => denDone r [] t
  | none =>
    match s.den.pair.bind (fun p => (ecdh p.e (b.take 64)).bind (fun z =>
      let k := s.wrapKey z "DEN IMPORT" c.slot p.nonce
      ccmDec k (p.nonce.take 13) (be 1 c.slot ++ sub b 64 24) (sub b 88 32) (sub b 120 8))) with
    | none => denDone .auth [] t
    | some key =>
      let attr := fieldBe b 64 4
      let engine := fieldBe b 68 1
      let flags := fieldBe b 69 1
      let len := fieldBe b 70 1
      if attrsFit c.slot attr engine flags len true = false ∨ fieldBe b 71 1 ≠ 0 then denDone .format [] t
      else if s.occupied c.slot ∨ c.slot = 1 ∧ s.occupied 2 then denDone .occupied [] t
      else
        let sl : Slot := ⟨key.take len, attrStored c.slot attr 1, engine, flags, len, sub b 72 16, 0⟩
        if c.slot = 1 then
          let (free, t) := freeBytes 16 t
          denCommit [t.slotWrite 1 sl, t.slotWrite 2 (chainSlot (key.take len) sl.label free)] .denCmd t
        else denCommit [t.slotWrite c.slot sl] .denCmd t

/-- ERASE (R335): the master must be named by a general slot, but for a slot 255 the window left behind (R341). -/
def denErase (c : DenCmd) (s : State) : State :=
  let t := s.slot c.slot
  let left := decide (c.slot = 255 ∧ t.engine = 7 ∧ (c.master = .host ∨ c.master = .can) ∧ (s.lc = 1 ∨ s.lc = 3))
  match s.slotRefusal c.slot with
  | some r => denDone r [] s
  | none =>
    if s.occupied c.slot = false then denDone .empty [] s
    else if 16 ≤ c.slot ∧ attrBit t.attr (13 + c.master.id) = false ∧ left = false then denDone .denied [] s
    else denCommit [(c.slot * 64, zeros 64)] .denCmd s

/-! ### Statements and exports (R336, R337) -/

/-- The statement of Table 14-8. -/
def State.statement (s : State) (n : Nat) (nonce : Bytes) : Bytes :=
  let t := s.slot n
  let b := t.bytes
  if s.occupied n then
    ascii "DENA" ++ be 8 s.straps.serial ++ be 1 n ++ be 1 (attrType t.attr) ++ be 1 (attrOrigin t.attr) ++
      be 1 (if attrExport t.attr then 1 else 0) ++ be 1 s.lc ++ zeros 3 ++ sha256 (sub b 32 24) ++ fit 16 nonce ++
      (s.publicPoint n).getD (zeros 64)
  else
    ascii "DENA" ++ be 8 s.straps.serial ++ be 1 n ++ zeros 3 ++ be 1 s.lc ++ zeros 3 ++ sha256 (zeros 24) ++ fit 16 nonce ++ zeros 64

/-- An attestation of a slot: the statement and its signature by slot 0, or why there is none. -/
def attest (n : Nat) (nonce : Bytes) (s : State) : Drawn × State :=
  signWith (beNat (s.keyBytes 0)) (sha256 (s.statement n nonce)) s

/-- ATTEST. -/
def denAttest (c : DenCmd) (s : State) : State :=
  match keyCheck 0 [4] (some 10) 8 .session .internal s with
  | (some _, t) => denDone .unusable [] t
  | (none, t) =>
    if t.den.unusable.contains c.slot ∨ slotCrcOk (t.slotBytes c.slot) = false then denDone .unusable [] (slotSweep c.slot t)
    else
      let nonce := t.vltBuf 0 16
      match attest c.slot nonce t with
      | (.bytes sig, u) => denDone .ok (t.statement c.slot nonce ++ sig) u
      | (d, u) => denWait c d u

/-- PUBLIC. -/
def denPublic (c : DenCmd) (s : State) : State :=
  if s.occupied c.slot = false then denDone .empty [] s
  else if s.den.unusable.contains c.slot ∨ slotCrcOk (s.slotBytes c.slot) = false then denDone .unusable [] (slotSweep c.slot s)
  else
    match s.publicPoint c.slot with
    | some p => denDone .ok p s
    | none => denDone .type [] s

/-- EXPORT: Q and a nonce in the buffer; an imported general key whose EXPORT bit is 1. -/
def denExport (c : DenCmd) (s : State) : State :=
  match keyCheck c.slot [] none 0 c.master (s.world c.master) s with
  | (some r, t) => denDone r [] t
  | (none, t) =>
    let sl := t.slot c.slot
    if attrExport sl.attr = false ∨ attrOrigin sl.attr ≠ 1 then denDone .denied [] (t.count Reg.VLT_DENY_V 1)
    else
      match drawScalar true t with
      | (.bytes e, u) =>
        let nonce := t.vltBuf 64 16
        match ecdh (beNat e) (t.vltBuf 0 64) with
        | none => denDone .auth [] u
        | some z =>
          let k := u.wrapKey z "DEN EXPORT" c.slot nonce
          let w := ccmEnc k (nonce.take 13) (be 1 c.slot ++ sub sl.bytes 32 24) (fit 32 sl.key) 8
          denDone .ok (p256Public (beNat e) ++ be 1 sl.len ++ zeros 3 ++ w.1 ++ w.2) u
      | (d, u) => denWait c d u

/-! ### Life cycle (R338, R339) -/

/-- LC_NONCE: valid for 60 s and for one LC_SET. -/
def denNonce (c : DenCmd) (s : State) : State :=
  match randBytes false 16 s with
  | (.bytes b, t) => denDone .ok b { t with den := { t.den with nonce := some (b, t.now) } }
  | (d, t) => denWait c d t

/-- Raw test mode ends: the source runs its start-up test and instantiates the DRBG afresh (R360). -/
def rawLeave (s : State) : State :=
  if s.bit Reg.ENT_STAT_RAW then
    ({ s with ent := { s.ent with starting := 2 } }.setBit Reg.ENT_STAT_RAW false).setBit Reg.ENT_CTL_RAW false
  else s

/-- A transition has been made (R338): the state, a LIFECYCLE record, R34 evaluated; raw test mode ends outside BLANK and SERVICE; the
tag's key goes on entry to RETIRED (R364). -/
def lcEnter (to_ : Nat) (m : Master) (s : State) : State :=
  let old := s.lc
  let t := logRec 0x43 (be 1 old ++ be 1 to_ ++ be 1 m.id) (s.put Reg.VLT_LC_STATE to_)
  let t := if to_ = 0 ∨ to_ = 3 then t else rawLeave t
  let t := if to_ = 4 then { t with tagAon := { t.tagAon with key := none } } else t
  evalEvent t

/-- The slots a retirement still has to erase: every occupied one but 0, 3, 4 and 5. -/
def State.toErase (s : State) : List Nat :=
  (List.range 256).filter (fun n => s.occupied n && n != 0 && n != 3 && n != 4 && n != 5)

/-- A retirement erases the next slot, one group at a time, or is complete; a refused group is submitted again by the next. -/
def retireNext (s : State) : State :=
  match s.toErase with
  | [] => if s.bit Reg.VLT_STAT_BUSY then denDone .ok [] s else s
  | n :: _ => (submitGroup .p3 ⟨[(n * 64, zeros 64)], .denRetire⟩ s).2

/-- A service authorisation (R339): none where it holds; the nonce is used up by the check. -/
def lcAuth (to_ : Nat) (s : State) : Option DenResult × State :=
  match s.img.run, s.den.nonce with
  | none, _ => (some .state, s)
  | some _, none => (some .nonce, s)
  | some i, some (nonce, at_) =>
    let t := { s with den := { s.den with nonce := none } }
    if s.after at_ 60000000 then (some .nonce, t)
    else
      match keyCheck 4 [5] (some 12) 6 .session .internal t with
      | (some r, u) => (some r, u)
      | (none, u) =>
        let msg := ascii "DENS" ++ be 8 s.straps.serial ++ be 4 i.vehicle ++ be 1 s.lc ++ be 1 to_ ++ zeros 2 ++ nonce
        if (u.publicPoint 4).any (fun p => ecdsaVerify p (sha256 msg) (s.vltBuf 4 64)) then (none, u) else (some .auth, u)

/-- Slots present and usable (R338). -/
def State.slotsGood (s : State) (l : List Nat) : Bool :=
  l.all (fun n => s.occupied n && !s.den.unusable.contains n && slotCrcOk (s.slotBytes n))

/-- LC_SET: the target and a signature in the buffer; the transitions of R338 and no others. -/
def denLcSet (c : DenCmd) (s : State) : State :=
  let to_ := fieldBe (s.vltBuf 0 1) 0 1
  let from_ := s.lc
  if from_ = 0 ∧ to_ = 1 then
    if s.occupied 0 then denDone .ok [] (lcEnter 1 c.master { s with straps := { s.straps with prv := 3 } }) else denDone .state [] s
  else if from_ = 1 ∧ to_ = 2 then
    if s.slotsGood [0, 1, 2, 4] then denDone .ok [] (lcEnter 2 c.master { s with straps := { s.straps with fld := 3 } })
    else denDone .state [] s
  else if from_ = 2 ∧ to_ = 3 ∨ from_ = 3 ∧ to_ = 2 then
    match lcAuth to_ s with
    | (some r, t) => denDone r [] t
    | (none, t) =>
      match submitTally .p3 ⟨2, none, .lcSet to_ c.master⟩ t with
      | (.taken, u) => u
      | (_, u) => denDone .busy [] u
  else if 1 ≤ from_ ∧ from_ ≤ 3 ∧ to_ = 4 then
    match lcAuth to_ s with
    | (some r, t) => denDone r [] t
    | (none, t) => retireNext (lcEnter 4 c.master { t with straps := { t.straps with ret := 3 } })
  else denDone .state [] s

/-! ### Taking a command (R342) -/

/-- A command accepted by the vault runs; one for a reserved slot ends FORMAT (Table 14-5). -/
def denRun (c : DenCmd) (s : State) : State :=
  if 7 ≤ c.slot ∧ c.slot < 16 ∧ c.op ≠ 7 ∧ c.op ≠ 8 then denDone .format [] s else
  match c.op with
  | 1 => denGenerate c s
  | 2 => denImportOpen c { s with den := { s.den with pair := none } }
  | 3 => denImport c s
  | 4 => denErase c s
  | 5 => denAttest c s
  | 6 => denPublic c s
  | 7 => denNonce c s
  | 8 => denLcSet c s
  | 9 => denExport c s
  | _ => denDone .format [] s

/-- The masters that issue commands (R342). -/
def serviceMaster (m : Master) : Bool := m == .host || m == .can || m == .debug

/-- A command is taken: the buffer is its master's, VLT_CMD shows it, BUSY. -/
def denAccepted (m : Master) (op slot : Nat) (s : State) : State :=
  ((((denClaim m s).setBit Reg.VLT_CMD_GO true).put Reg.VLT_CMD_OP op).put Reg.VLT_CMD_SLOT slot).setBit Reg.VLT_STAT_BUSY true

/-- A write of VLT_CMD (R342): GO while a command runs, or while another master has the buffer, completes BUSY. -/
def vltCmdWrite (m : Master) (v : Nat) (s : State) : FabStatus × State :=
  if serviceMaster m = false then (.denied, s)
  else if v / 2 ^ 31 % 2 = 0 then
    (if s.bit Reg.VLT_STAT_BUSY then (.ok, s)
     else (.ok, (s.put Reg.VLT_CMD_OP (v / 256 % 16)).put Reg.VLT_CMD_SLOT (v % 256)))
  else if s.bit Reg.VLT_STAT_BUSY ∨ s.denBusy m then (.busy, s)
  else
    match enqueue .den .p3 m .burst s with
    | (.taken, t) => (.ok, denRun ⟨v / 256 % 16, m, v % 256⟩ (denAccepted m (v / 256 % 16) (v % 256) t))
    | (r, t) => (r.status, t)

/-- A write to a Den register; VLT_CLR is the session engine's alone (R343). -/
def vltWrite (m : Master) (a v : Nat) (s : State) : FabStatus × State :=
  if a = Reg.VLT_CMD then vltCmdWrite m v s
  else if a = Reg.VLT_STAT then
    (if serviceMaster m then (.ok, if v / 2 ^ 31 % 2 = 1 then s.w1c Reg.VLT_STAT_DONE 1 else s) else (.ok, s))
  else if a = Reg.VLT_CLR then
    (if m = .session then
      let t := if v % 2 = 1 then s.put Reg.VLT_DROP_V 0 else s
      (.ok, if v / 2 % 2 = 1 then t.put Reg.VLT_DENY_V 0 else t)
     else (.ok, s))
  else (.ok, s)

/-- A command that waited for entropy runs again once there is output (R333). -/
def denRetry (s : State) : State :=
  match s.den.wait with
  | some c => denRun c { s with den := { s.den with wait := none } }
  | none => s

/-! ### Deadlines -/

/-- IMPORT_PAIR_EXPIRY (R334): 10 s. -/
def execImportPairExpiry (s : State) : Host.Outcome State Fault Refusal :=
  match s.den.pair with
  | some p => .next (if s.after p.openedAt 10000000 then { s with den := { s.den with pair := none } } else s)
  | none => .next s

/-- LC_NONCE_EXPIRY (R339): 60 s. -/
def execLcNonceExpiry (s : State) : Host.Outcome State Fault Refusal :=
  match s.den.nonce with
  | some (_, at_) => .next (if s.after at_ 60000000 then { s with den := { s.den with nonce := none } } else s)
  | none => .next s

/-- VLT_BUF_IDLE (R342): 100 ms without an access of its master, and no command running. -/
def execVltBufIdle (s : State) : Host.Outcome State Fault Refusal :=
  if s.get Reg.VLT_STAT_OWN ≠ 7 ∧ s.bit Reg.VLT_STAT_BUSY = false ∧ s.after s.den.touchedAt 100000 then
    .next ({ s with den := { s.den with claimed := false, buf := [] } }.put Reg.VLT_STAT_OWN 7)
  else .next s

/-! ### The CH4410 window (R341) -/

/-- The slot the window writes. -/
def legacySlot (words : List Nat) : Slot :=
  ⟨words.flatMap (be 4), attrStored 255 (0x0C * 2 ^ 24 + 2 ^ 20 + 2 ^ 13 + 0x04 * 64 + 1) 1, 7, 0, 16, fit 16 (ascii "CH4410"), 0⟩

/-- A write to VLT_LEGACY_KEYi: gathered in order, committed by KEY3. -/
def legacyWrite (m : Master) (i v : Nat) (s : State) : FabStatus × State :=
  if s.legacyOn = false ∨ (m ≠ .host ∧ m ≠ .can) ∨ (s.lc ≠ 1 ∧ s.lc ≠ 3) then (.denied, s)
  else
    let ok := s.den.legacy.length == i && (i == 0 || !s.after s.den.legacyAt 100000)
    let gathered := if i = 0 then [v] else if ok then s.den.legacy ++ [v] else []
    if i < 3 then (.ok, { s with den := { s.den with legacy := gathered, legacyAt := s.now } })
    else if s.bit Reg.VLT_STAT_BUSY then (.busy, s)
    else
      let t := { s with den := { s.den with legacy := [] } }
      if gathered.length = 4 then
        (.ok, denCommit [t.slotWrite 255 (legacySlot gathered)] .denLegacy (t.setBit Reg.VLT_STAT_BUSY true))
      else (.ok, denDone .sequence [] t)

/-- LEGACY_KEY_GAP (R341): more than 100 ms without the next word. -/
def execLegacyKeyGap (s : State) : Host.Outcome State Fault Refusal :=
  if s.den.legacy ≠ [] ∧ s.after s.den.legacyAt 100000 then .next { s with den := { s.den with legacy := [] } } else .next s

/-! ### Protection rewrite (R330) -/

/-- A commit that touches a slot waits or runs. -/
def State.slotPending (s : State) (n : Nat) : Bool :=
  let hits := fun (g : Group) => g.writes.any (fun w => decide (w.1 < n * 64 + 64 ∧ n * 64 < w.1 + w.2.length))
  s.rmc.cur.any (fun c => hits c.group) || s.rmc.resume.any (fun c => hits c.group) ||
    (s.queue .commit).items.any (fun i => match i.work with
      | .group g => hits g
      | _ => false)

/-- PROTECTION_REWRITE (R330): after profile entry the next occupied slot whose MODE differs from SYSTEM is rewritten at P3; a refused
rewrite is submitted again. -/
def execProtectionRewrite (s : State) : Host.Outcome State Fault Refusal :=
  if s.boot.profileAt.isNone then .next s
  else
    match s.den.rewrite with
    | [] => .next s
    | n :: rest =>
      let sl := s.slot n
      let skip := { s with den := { s.den with rewrite := rest } }
      if s.occupied n = false ∨ sl.mode = s.slotMode ∨ s.den.unusable.contains n then .next skip
      else if s.slotPending n then .next s
      else
        match submitGroup .p3 ⟨[s.slotWrite n sl], .denRewrite n⟩ s with
        | (.taken, t) => .next { t with den := { t.den with rewrite := rest } }
        | (_, t) => .next t

end Sys2Proof.Machine
end

