-- ==== Sys2Proof/Machine/Crypto.lean ====
section
/-! DEFINITION. The crypto engine (15): the commands of Table 15-2, its buffer, the symmetric core's steps. -/

namespace Sys2Proof.Machine

/-! ### Results and the buffer (R347) -/

/-- A crypto command completes: DONE, RESULT, `out` over the buffer from offset 0; its master still reads the output (log 24). -/
def cryDone (r : CryResult) (out : Bytes) (s : State) : State :=
  let t := { s with cry := { s.cry with claimed := false, wait := none, touchedAt := s.now, buf := memSetN s.cry.buf 0 out } }
  let t := ((t.setBit Reg.CRY_CMD_GO false).setBit Reg.CRY_STAT_BUSY false).put Reg.CRY_STAT_RESULT r.code
  irq Reg.HPT_IRQ_CRY ((t.put Reg.CRY_STAT_OUTLEN out.length).setBit Reg.CRY_STAT_DONE true)

/-- Results 1 to 4 are the Den's (Table 15-5). -/
def denCry (r : DenResult) : CryResult :=
  match r with
  | .ok => .ok
  | .denied => .denied
  | .empty => .empty
  | .unusable => .unusable
  | .type => .type
  | .auth => .auth
  | .occupied => .occupied
  | .state => .denied
  | .nonce => .denied
  | .fail => .escort
  | .entropy => .entropyFail
  | .busy => .busy
  | .format => .format
  | .sequence => .format

/-- The result of the commit of a derived slot; a failed program leaves the slot as it was and is reported as ESCORT (log 26). -/
def rmcCry (r : RmcResult) : CryResult := denCry (rmcDen r)

/-- A value drawn, or why there is none (R354): the command waits with its claim. -/
def cryWait (c : CryCmd) (d : Drawn) (s : State) : State :=
  match d with
  | .fail => cryDone .entropyFail [] s
  | .wait => { s with cry := { s.cry with wait := some c, waitAt := if s.cry.wait.isSome then s.cry.waitAt else s.now } }
  | .bytes _ => s

/-- CRY_BUF is claimed by another master. -/
def State.cryBusy (s : State) (m : Master) : Bool := s.cry.claimed && s.get Reg.CRY_STAT_OWN != m.id

/-- A master takes the buffer: what a command of another left in it is gone. -/
def cryClaim (m : Master) (s : State) : State :=
  let keep := s.get Reg.CRY_STAT_OWN == m.id
  ({ s with cry := { s.cry with claimed := true, touchedAt := s.now, buf := if keep then s.cry.buf else [] } }).put Reg.CRY_STAT_OWN m.id

/-- A write into CRY_BUF. -/
def cryBufWrite (m : Master) (off : Nat) (b : Bytes) (s : State) : FabStatus × State :=
  if s.cryBusy m then (.busy, s)
  else
    let t := cryClaim m s
    (.ok, { t with cry := { t.cry with buf := memSetN t.cry.buf off b } })

/-- `n` bytes of CRY_BUF from an offset. -/
def State.cryBuf (s : State) (off n : Nat) : Bytes := memGetN s.cry.buf off n

/-- Every use of a slot passes the checks of R327; slots 7 to 15 are reserved (Table 14-5). -/
def cryKey (c : CryCmd) (types : List Nat) (usage : Nat) (s : State) : Option CryResult × State :=
  if 7 ≤ c.slot ∧ c.slot < 16 then (some .format, s)
  else
    match keyCheck c.slot types (some usage) 0 c.master (s.world c.master) s with
    | (some r, t) => (some (denCry r), t)
    | (none, t) => (none, t)

/-- An operation of more than one step holds the symmetric core for a while (R346). -/
def symTake (n : Nat) (s : State) : State :=
  if 64 < n ∧ s.cry.symBusy.isNone then { s with cry := { s.cry with symBusy := some .p3 } } else s

/-! ### The commands (Table 15-2) -/

def State.dlen (s : State) : Nat := s.get Reg.CRY_LEN_DLEN
def State.alen (s : State) : Nat := s.get Reg.CRY_LEN_ALEN
def State.tagLen (s : State) : Nat := s.get Reg.CRY_LEN_TAG

/-- The length rule of R347. -/
def State.lengthOk (s : State) : Bool := decide (s.alen + s.dlen + 32 ≤ 2048)

/-- Options of Table 15-1 for a cipher mode. -/
def State.cipherOk (s : State) (mode : Nat) : Bool :=
  s.lengthOk &&
    (if mode = 0 then s.dlen % 16 == 0
     else if mode = 1 then true
     else if mode = 2 then decide (4 ≤ s.tagLen) && decide (s.tagLen ≤ 16) && s.tagLen % 2 == 0
     else if mode = 3 then decide (12 ≤ s.tagLen) && decide (s.tagLen ≤ 16)
     else false)

/-- ENCRYPT: IV or nonce, additional data (CCM, GCM), data. -/
def cryEncrypt (c : CryCmd) (s : State) : State :=
  match cryKey c [1, 2] 6 s with
  | (some r, t) => cryDone r [] t
  | (none, t) =>
    if t.cipherOk c.mode = false then cryDone .format [] t
    else
      let key := t.keyBytes c.slot
      let iv := t.cryBuf 0 16
      let aad := t.cryBuf 16 t.alen
      let data := t.cryBuf (if c.mode < 2 then 16 else 16 + t.alen) t.dlen
      let out := if c.mode = 0 then cbcEnc key iv data
        else if c.mode = 1 then ctrCrypt key iv data
        else if c.mode = 2 then (let w := ccmEnc key (iv.take 13) aad data t.tagLen; w.1 ++ w.2)
        else (let w := gcmEnc key (iv.take 12) aad data t.tagLen; w.1 ++ w.2)
      cryDone .ok out (symTake t.dlen t)

/-- DECRYPT: as ENCRYPT, the tag after the data; a tag that fails ends AUTH and the output bytes read 0. -/
def cryDecrypt (c : CryCmd) (s : State) : State :=
  match cryKey c [1, 2] 7 s with
  | (some r, t) => cryDone r [] t
  | (none, t) =>
    if t.cipherOk c.mode = false then cryDone .format [] t
    else
      let key := t.keyBytes c.slot
      let iv := t.cryBuf 0 16
      let aad := t.cryBuf 16 t.alen
      let data := t.cryBuf (if c.mode < 2 then 16 else 16 + t.alen) t.dlen
      let tag := t.cryBuf (16 + t.alen + t.dlen) t.tagLen
      let out := if c.mode = 0 then some (cbcDec key iv data)
        else if c.mode = 1 then some (ctrCrypt key iv data)
        else if c.mode = 2 then ccmDec key (iv.take 13) aad data tag
        else gcmDec key (iv.take 12) aad data tag
      match out with
      | some b => cryDone .ok b (symTake t.dlen t)
      | none => cryDone .auth (zeros t.dlen) (symTake t.dlen t)

/-- MAC: CMAC or HMAC over the data. -/
def cryMac (c : CryCmd) (s : State) : State :=
  match cryKey c (if c.mode = 1 then [3] else [1, 2]) 8 s with
  | (some r, t) => cryDone r [] t
  | (none, t) =>
    if t.lengthOk = false ∨ 1 < c.mode ∨ t.tagLen < 4 ∨ (if c.mode = 0 then 16 else 32) < t.tagLen then cryDone .format [] t
    else
      let key := t.keyBytes c.slot
      let data := t.cryBuf 0 t.dlen
      cryDone .ok ((if c.mode = 0 then cmac key data else hmac key data).take t.tagLen) (symTake t.dlen t)

/-- HASH: SHA-256 over the data; no slot. -/
def cryHash (c : CryCmd) (s : State) : State :=
  if s.lengthOk = false ∨ c.mode ≠ 0 then cryDone .format [] s
  else cryDone .ok (sha256 (s.cryBuf 0 s.dlen)) (symTake s.dlen s)

/-- SIGN: r ‖ s over a 32-byte digest. -/
def crySign (c : CryCmd) (s : State) : State :=
  match cryKey c [4] 10 s with
  | (some r, t) => cryDone r [] t
  | (none, t) =>
    if c.mode ≠ 0 then cryDone .format [] t
    else
      match signWith (beNat (fit 32 (t.slot c.slot).key)) (t.cryBuf 0 32) t with
      | (.bytes sig, u) => cryDone .ok sig u
      | (d, u) => cryWait c d u

/-- VERIFY: digest, r ‖ s, and the point for MODE 1. -/
def cryVerify (c : CryCmd) (s : State) : State :=
  let judge := fun (pub : Option Bytes) (t : State) =>
    if pub.any (fun p => ecdsaVerify p (t.cryBuf 0 32) (t.cryBuf 32 64)) then cryDone .ok [] t else cryDone .auth [] t
  if c.mode = 1 then judge (some (s.cryBuf 96 64)) s
  else
    match cryKey c [5] 12 s with
    | (some r, t) => cryDone r [] t
    | (none, t) => if c.mode ≠ 0 then cryDone .format [] t else judge (t.publicPoint c.slot) t

/-- Why a destination may not be written: not a general slot, the life-cycle state, not empty. -/
def State.dstRefusal (s : State) (n : Nat) : Option CryResult :=
  if n < 16 then some .format
  else if (s.slotRefusal n).isSome then some .denied
  else if s.occupied n then some .occupied
  else none

/-- A derived key joins the queue for its slot, ORIGIN derived, EXPORT 0 (R347). -/
def cryCommit (c : CryCmd) (key : Bytes) (s : State) : State :=
  let attr := fieldBe (s.cryBuf 0 4) 0 4
  let sl : Slot := ⟨key, attrStored c.dst attr 2, 0, 0, key.length, s.cryBuf 4 16, 0⟩
  match submitGroup .p3 ⟨[s.slotWrite c.dst sl], .cryCmd⟩ s with
  | (.taken, t) => t
  | (_, t) => cryDone .busy [] t

/-- The attribute word of a derived slot fits its key: TYPE among the types given, reserved bits 0. -/
def State.derivedFits (s : State) (types : List Nat) : Bool :=
  let attr := fieldBe (s.cryBuf 0 4) 0 4
  types.contains (attrType attr) && attr / 16 % 4 == 0

/-- AGREE: Z of the slot's key and the peer's point, into the destination as TYPE 6. -/
def cryAgree (c : CryCmd) (s : State) : State :=
  match cryKey c [4] 11 s with
  | (some r, t) => cryDone r [] t
  | (none, t) =>
    if c.mode ≠ 0 ∨ t.derivedFits [6] = false then cryDone .format [] t
    else
      match t.dstRefusal c.dst with
      | some r => cryDone r [] t
      | none =>
        match ecdh (beNat (fit 32 (t.slot c.slot).key)) (t.cryBuf 20 64) with
        | none => cryDone .auth [] t
        | some z => cryCommit c z t

/-- DERIVE: the SP 800-108 output of R224's format, into the destination as TYPE 1, 2 or 3. -/
def cryDerive (c : CryCmd) (s : State) : State :=
  match cryKey c [3, 6] 9 s with
  | (some r, t) => cryDone r [] t
  | (none, t) =>
    let l := fieldBe (t.cryBuf 20 2) 0 2
    let n := fieldBe (t.cryBuf 22 1) 0 1
    let k := fieldBe (t.cryBuf 23 1) 0 1
    if c.mode ≠ 0 ∨ (l ≠ 128 ∧ l ≠ 256) ∨ t.derivedFits (if l = 128 then [1, 3] else [2, 3]) = false then cryDone .format [] t
    else
      match t.dstRefusal c.dst with
      | some r => cryDone r [] t
      | none => cryCommit c (kdf (t.keyBytes c.slot) (t.cryBuf 24 n) (t.cryBuf (24 + n) k) l) t

/-- RANDOM: DLEN bytes of the DRBG; no slot. -/
def cryRandom (c : CryCmd) (s : State) : State :=
  if c.mode ≠ 0 ∨ s.dlen = 0 ∨ 2048 < s.dlen then cryDone .format [] s
  else
    match randBytes false s.dlen s with
    | (.bytes b, t) => cryDone .ok b t
    | (d, t) => cryWait c d t

/-- A command accepted by the engine runs. -/
def cryRun (c : CryCmd) (s : State) : State :=
  match c.op with
  | 1 => cryEncrypt c s
  | 2 => cryDecrypt c s
  | 3 => cryMac c s
  | 4 => cryHash c s
  | 5 => crySign c s
  | 6 => cryVerify c s
  | 7 => cryAgree c s
  | 8 => cryDerive c s
  | 9 => cryRandom c s
  | _ => cryDone .format [] s

/-- The fields of CRY_CMD that a write sets. -/
def cryCmdFields (v : Nat) (s : State) : State :=
  (((s.put Reg.CRY_CMD_SLOT (v / 65536 % 256)).put Reg.CRY_CMD_DST (v / 256 % 256)).put Reg.CRY_CMD_OP (v / 16 % 16)).put
    Reg.CRY_CMD_MODE (v % 16)

/-- A command is taken: the buffer is its master's, CRY_CMD shows it, BUSY. -/
def cryAccepted (m : Master) (v : Nat) (s : State) : State :=
  ((cryCmdFields v (cryClaim m s)).setBit Reg.CRY_CMD_GO true).setBit Reg.CRY_STAT_BUSY true

/-- A write of CRY_CMD (R347): GO while a command runs, or while another master has the buffer, completes BUSY. -/
def cryCmdWrite (m : Master) (v : Nat) (s : State) : FabStatus × State :=
  if serviceMaster m = false then (.denied, s)
  else if v / 2 ^ 31 % 2 = 0 then (.ok, if s.bit Reg.CRY_STAT_BUSY then s else cryCmdFields v s)
  else if s.bit Reg.CRY_STAT_BUSY ∨ s.cryBusy m then (.busy, s)
  else
    match enqueue .crypto .p3 m .burst s with
    | (.taken, t) => (.ok, cryRun ⟨v / 16 % 16, v % 16, m, v / 65536 % 256, v / 256 % 256⟩ (cryAccepted m v t))
    | (r, t) => (r.status, t)

/-- A write to a crypto register (R361). -/
def cryWrite (m : Master) (a v : Nat) (s : State) : FabStatus × State :=
  if a = Reg.CRY_CMD then cryCmdWrite m v s
  else if a = Reg.CRY_LEN then
    (if serviceMaster m then (.ok, s.wr Reg.CRY_LEN (BitVec.ofNat 32 (v % 2 ^ 29))) else (.denied, s))
  else if a = Reg.CRY_STAT then (.ok, if serviceMaster m ∧ v / 2 ^ 31 % 2 = 1 then s.w1c Reg.CRY_STAT_DONE 1 else s)
  else if a = Reg.CRY_CLR then (.ok, if m = .session ∧ v % 2 = 1 then s.put Reg.CRY_DROP_V 0 else s)
  else (.ok, s)

/-- A command that waited for entropy runs again. -/
def cryRetry (s : State) : State :=
  match s.cry.wait with
  | some c => cryRun c s
  | none => s

/-! ### Deadlines and steps -/

/-- CRY_BUF_IDLE (R347): 100 ms without an access of its master, and no command running. -/
def execCryBufIdle (s : State) : Host.Outcome State Fault Refusal :=
  if s.get Reg.CRY_STAT_OWN ≠ 7 ∧ s.bit Reg.CRY_STAT_BUSY = false ∧ s.after s.cry.touchedAt 100000 then
    .next ({ s with cry := { s.cry with claimed := false, buf := [] } }.put Reg.CRY_STAT_OWN 7)
  else .next s

/-- SYMMETRIC_STEP_PREEMPT (R346): at a step boundary a waiting P0 request takes the symmetric core; the interrupted operation keeps its
state. -/
def execSymmetricStepPreempt (s : State) : Host.Outcome State Fault Refusal :=
  match s.cry.symBusy, popQueue .crypto s with
  | some c, some (i, t) =>
    if i.cls = .p0 ∧ c ≠ .p0 then
      .next { t with cry := { t.cry with symBusy := some .p0, symHeld := c :: t.cry.symHeld } }
    else .next s
  | _, _ => .next s

/-- The operation on the symmetric core has ended; an interrupted one resumes when no P0 request waits (R346). -/
def symRelease (s : State) : State :=
  match s.cry.symBusy with
  | none => s
  | some _ =>
    match s.cry.symHeld with
    | [] => { s with cry := { s.cry with symBusy := none } }
    | c :: cs =>
      if (s.queue .crypto).items.any (fun i => i.cls == .p0) then s
      else { s with cry := { s.cry with symBusy := some c, symHeld := cs } }

end Sys2Proof.Machine
end

