-- ==== Sys2Proof/Machine/LedgerOps.lean ====
section
/-! DEFINITION. The ledger's shared operations (12): sealing, the open sector, the devices, the summary, what a supply failure does. -/

namespace Sys2Proof.Machine

/-! ### Days (R293) -/

/-- The day of a number of Chronicle seconds: floor((secs + CHRON_UTCOFF) / 86,400). -/
def State.dayOf (s : State) (secs : Nat) : Int := ((secs : Int) + (s.rd Reg.CHRON_UTCOFF).toInt) / 86400

/-- A change of day against the kept day makes a checkpoint due. -/
def dayCheck (s : State) : State :=
  match s.ledAon.keptDay with
  | some k => if s.timeValid ∧ s.dayOf s.secs ≠ k ∧ s.isHead then { s with led := { s.led with dayDue := true } } else s
  | none => s

/-! ### Records in bytes -/

def recNum (b : Bytes) : Nat := fieldBe b 0 4
def recType (b : Bytes) : Nat := fieldBe b 4 1
def recSecs (b : Bytes) : Nat := fieldBe b 8 4
def recMac (b : Bytes) : Bytes := sub b 44 16
def recCrcOk (b : Bytes) : Bool := b.length == 64 && fieldBe b 60 4 == crc32c (b.take 60)

/-- The chain MAC of R292. -/
def chainMac (key prev b : Bytes) : Bytes := (hmac key (prev ++ b.take 44)).take 16

/-- The pulse count that a record carries, if its type has one (R300). -/
def recPulses (b : Bytes) : Option Nat :=
  match recType b with
  | 0x04 => some (fieldBe b 20 6)
  | 0x10 => some (fieldBe b 14 6)
  | 0x11 => some (fieldBe b 26 6)
  | 0x20 => some (fieldBe b 12 6)
  | 0x21 => some (fieldBe b 24 6)
  | _ => none

/-! ### Devices (R287, R288, R298) -/

def State.dev (s : State) (d : Nat) : NandDev := s.nand.devs.getD d NandDev.init

def setDev (d : Nat) (v : NandDev) (s : State) : State := { s with nand := { s.nand with devs := s.nand.devs.set d v } }

def State.served (s : State) (d : Nat) : Bool := s.led.served.getD d false

/-- Sectors of a block. -/
def NandDev.perBlock (d : NandDev) : Nat := d.page * 64 / 512

/-- Blocks of the ledger area: those past the first 128 MiB. -/
def NandDev.area (d : NandDev) : Nat := d.blocks - 134217728 / (d.page * 64)

/-- What R287 asks of a device. -/
def NandDev.meets (d : NandDev) : Bool :=
  let size := d.page * d.pages * d.blocks
  decide (2 ^ 30 ≤ size ∧ size ≤ 2 ^ 33) && (d.page == 2048 || d.page == 4096) && d.pages == 64 && d.ecc && decide (1 ≤ d.partials) &&
    decide (d.progUs ≤ 800 ∧ d.eraseUs ≤ 10000) && d.param && d.commands

/-- The bytes of a header copy over which its CRC-32C runs; their order is the model's (log 104). -/
def NandCtrl.bytes (c : NandCtrl) : Bytes :=
  be 4 c.gen ++ be 8 c.serial ++ be 4 c.vehicle ++ be 4 c.page ++ be 4 c.blocks ++ c.bad.flatMap (be 4) ++ c.map.flatMap (fun p => be 4 p.1 ++ be 4 p.2)

/-- The header in force: of the copies whose CRC holds the one of the highest generation. -/
def NandDev.control (d : NandDev) : Option NandCtrl :=
  let newer := fun (b : Option NandCtrl) (c : NandCtrl) => if b.all (fun (x : NandCtrl) => decide (x.gen < c.gen)) then some c else b
  (d.ctrl.filter (fun c => c.crc == crc32c c.bytes)).foldl newer none

/-- Blank control blocks. -/
def NandDev.blank (d : NandDev) : Bool := d.control.isNone

def NandDev.serial (d : NandDev) : Nat := (d.control.map (·.serial)).getD 0

/-- The retired blocks. -/
def NandDev.bad (d : NandDev) : List Nat := (d.control.map (·.bad)).getD []

/-- The header is written over the older of its two copies, with the next generation (R288). -/
def NandDev.writeCtrl (d : NandDev) (c : NandCtrl) : NandDev :=
  let c := { c with gen := d.control.elim 0 (fun x => x.gen) + 1 }
  { d with ctrl := { c with crc := crc32c c.bytes } :: d.ctrl.take 1 }

/-- Spares at formatting: 2 % of the area, rounded up. -/
def NandDev.spareCount (d : NandDev) : Nat := (d.area * 2 + 99) / 100

/-- Logical blocks. -/
def NandDev.logical (d : NandDev) : Nat := d.area - d.spareCount

/-- Spares left: a block that was retired took one. -/
def NandDev.spares (d : NandDev) : Nat := d.spareCount - d.bad.length

/-- The physical block of a logical block: that of the map, else the one in its place behind the first 128 MiB. -/
def NandDev.physical (d : NandDev) (b : Nat) : Nat :=
  ((((d.control.map (·.map)).getD []).find? (fun p => p.1 == b)).map (·.2)).getD (134217728 / (d.page * 64) + b)

/-- A logical block's physical block is retired, and the logical block mapped to the next spare (R296). -/
def NandDev.retire (d : NandDev) (b : Nat) : NandDev :=
  match d.control with
  | none => d
  | some c => d.writeCtrl { c with bad := c.bad ++ [d.physical b], map := (b, d.blocks - d.spares) :: c.map.filter (fun p => p.1 != b) }

def sectorCount (b : Nat) (l : List Sector) : Nat := (l.filter (fun x => x.block == b)).length

/-- The logical block the next sector goes to. -/
def NandDev.nextBlock (d : NandDev) : Nat :=
  match d.sectors.getLast? with
  | none => 0
  | some x => if sectorCount x.block d.sectors < d.perBlock then x.block else x.block + 1

/-- The records of a device, oldest first. -/
def NandDev.records (d : NandDev) : List Bytes := d.sectors.flatMap (fun x => x.recs)

/-- A copy of a record on a device. -/
def NandDev.find (d : NandDev) (num : Nat) : Option Bytes := d.records.find? (fun b => recNum b == num && recCrcOk b)

/-- The devices in service, MEM_CS1 first. -/
def State.devsIn (s : State) : List NandDev := (if s.served 0 then [s.dev 0] else []) ++ (if s.served 1 then [s.dev 1] else [])

/-- A read by NUM (R297): the first copy, the other, the first again; the sealed records of the open sector too. True where the second
copy gave it. -/
def State.findRec (s : State) (num : Nat) : Option (Bytes × Bool) :=
  match s.ledAon.sector.find? (fun b => recNum b == num), s.devsIn with
  | some b, _ => some (b, false)
  | none, a :: rest =>
    match a.find num with
    | some b => some (b, false)
    | none => (rest.findSome? (fun d => d.find num)).map (fun b => (b, true))
  | none, [] => none

/-- One record as an export delivers it (R301), with its escorts (R26). Where the second copy gave it, that is counted, and the mismatch that
this read cleared counts towards the 16 of R29; one that every read fails completes ESCORT, without a count (R29, R297). -/
def readRec (num : Nat) (s : State) : Bytes × State :=
  match s.findRec num with
  | some (b, true) =>
    match escMismatch .ledger (s.count Reg.LDG_ERR_MIRROR 1) with
    | (true, t) => (b, enter .nand b (reportFault .ledger Block.ledger.faultCode 0 t))
    | (false, t) => (b, enter .nand b t)
  | some (b, false) => (b, enter .nand b s)
  | none => (be 4 num ++ zeros 60, s)

/-- LDG_FILL.USED in 0.1 % (R303). -/
def State.fillNow (s : State) : Nat :=
  match s.devsIn with
  | [] => 0
  | d :: _ => min 1000 (d.sectors.length * 1000 / max 1 (d.logical * d.perBlock))

/-- The first surviving NUM. -/
def State.firstNum (s : State) : Nat :=
  match (s.devsIn.flatMap (fun d => d.records.take 1)) ++ s.ledAon.sector.take 1 with
  | [] => s.get Reg.LDG_NEXT_V
  | b :: bs => bs.foldl (fun m x => min m (recNum x)) (recNum b)

/-! ### Halting (R296) -/

/-- The ledger halts (R296, R332): every further record is dropped and counted. -/
def ledgerHalt (s : State) : State :=
  raise 0x5203 0 ({ s with led := { s.led with opened := true } }.setBit Reg.LDG_STAT_HALT true)

/-- A device is taken out of service (R296). -/
def deviceOut (d code : Nat) (s : State) : State :=
  let t := { s with led := { s.led with served := s.led.served.set d false } }
  let t := raise code d (t.setBit (if d = 0 then Reg.LDG_STAT_MIR1 else Reg.LDG_STAT_MIR2) false)
  if t.led.served.any id then t else ledgerHalt t

/-! ### The open sector (R295) -/

/-- The open sector's program begins, on MEM_CS1 first. -/
def sectorProgram (s : State) : State :=
  if s.ledAon.sector = [] ∨ s.ledAon.programming ≠ 0 then s
  else { s with ledAon := { s.ledAon with programming := if s.served 0 then 1 else if s.served 1 then 2 else 0 } }

/-- The oldest logical block is erased where fewer than two would stay ahead (R295, R298). -/
def truncateOldest (s : State) : State :=
  match s.devsIn with
  | [] => s
  | d :: _ =>
    match d.sectors with
    | [] => s
    | x :: _ =>
      if d.nextBlock - x.block + 3 ≤ d.logical then s
      else
        let devs := s.nand.devs.map (fun (v : NandDev) => { v with sectors := v.sectors.filter (fun y => y.block != x.block) })
        let t := { s with nand := { s.nand with devs := devs } }
        let first := t.firstNum
        let ck := ((t.devsIn.flatMap NandDev.records).find? (fun b => recType b == 2 && decide (first ≤ recNum b))).elim 0xFFFFFFFF recNum
        let t := raise 0x5205 0 ((t.put Reg.LDG_FIRST_V first).setBit Reg.LDG_STAT_TRUNC true)
        logRec 0x05 (be 4 first ++ be 4 ck ++ be 4 1) t

/-- The sector is closed: both programs have ended. -/
def sectorClose (s : State) : State :=
  let rest := s.ledAon.sector.drop 8
  let t := { s with ledAon := { s.ledAon with sector := rest, sectorAt := s.now, programming := 0,
                                              flushOk := s.ledAon.flushOk || s.bit Reg.PWR_STAT_VBATF } }
  let t := t.put Reg.LDG_FILL_USED t.fillNow
  let t := if 950 ≤ t.fillNow ∧ t.led.full95 = false then raise 0x5204 0 { t with led := { t.led with full95 := true } } else t
  truncateOldest t

/-- What follows the program on a device: the other one, or the end. -/
def sectorNext (d : Nat) (s : State) : State :=
  if d = 0 ∧ s.served 1 then { s with ledAon := { s.ledAon with programming := 2 } } else sectorClose s

/-- A program on a device has ended well. -/
def sectorWritten (d : Nat) (s : State) : State :=
  let v := s.dev d
  sectorNext d (setDev d { v with sectors := v.sectors ++ [⟨v.nextBlock, s.ledAon.sector.take 8⟩] } s)

/-- A program or erase has failed (R296): the block is retired, a spare mapped, the block's closed sectors copied there from the other device,
and the sector programmed again; without a spare the device is out. -/
def programFailed (d : Nat) (s : State) : State :=
  let v := s.dev d
  let b := v.nextBlock
  let t := s.count Reg.LDG_ERR_PFAIL 1
  if v.spares = 0 then sectorNext d (deviceOut d 0x5201 t)
  else
    let from_ := if s.served (1 - d) then (s.dev (1 - d)).sectors.filter (fun x => x.block == b) else v.sectors.filter (fun x => x.block == b)
    let closed := from_.take (sectorCount b v.sectors)
    let t := setDev d { v.retire b with sectors := v.sectors.filter (fun x => x.block != b) ++ closed } t
    raise 0x5202 d (t.count (if d = 0 then Reg.LDG_FILL_BAD1 else Reg.LDG_FILL_BAD2) 1)

/-! ### The summary (R302) -/

/-- A day entry with nothing in it. -/
def DayEntry.new (day : Nat) : DayEntry := ⟨day, 0, 0, 0, 0, 0, 0, true, []⟩

/-- Where a day's 32 bytes lie in retained memory. -/
def dayOffset (day : Nat) : Nat := 0x4800 + 64 + day % 28 * 32

def dayBytes (e : DayEntry) : Bytes :=
  let top := e.drivers.foldl (fun (b : Nat × Nat) d => if b.2 < d.2 then d else b) (0, 0)
  be 2 e.day ++ be 4 e.driving ++ be 4 e.metres ++ be 2 e.top ++ be 1 (min 255 e.starts) ++ be 1 (min 255 e.coupled) ++
    be 1 (min 255 e.gaps) ++ be 1 (if e.valid then 1 else 0) ++ be 8 top.1 ++ be 4 top.2 ++ zeros 4

/-- The entry that 32 bytes spell. -/
def dayOfBytes (b : Bytes) : DayEntry :=
  ⟨fieldBe b 0 2, fieldBe b 2 4, fieldBe b 6 4, fieldBe b 10 2, fieldBe b 12 1, fieldBe b 13 1, fieldBe b 14 1,
    fieldBe b 15 1 == 1, [(fieldBe b 16 8, fieldBe b 24 4)]⟩

/-- The entry of a day: the one kept, the one in the leaves, or a new one. -/
def State.dayEntry (s : State) (day : Nat) : DayEntry :=
  match s.led.summary.find? (fun e => e.day == day) with
  | some e => e
  | none =>
    let e := dayOfBytes (memGetN s.nv.mem (dayOffset day) 32)
    if e.day = day ∧ day ≠ 0 then e else DayEntry.new day

def putDay (e : DayEntry) (s : State) : State :=
  { s with led := { s.led with summary := (e :: s.led.summary.filter (fun x => x.day != e.day)).take 28 } }

def addDriver (id n : Nat) (l : List (Nat × Nat)) : List (Nat × Nat) :=
  (id, ((l.find? (fun d => d.1 == id)).map (·.2)).getD 0 + n) :: l.filter (fun d => d.1 != id)

/-- What a sealed record adds to its day (R302): a start, a power gap, or the seconds of a MOTION record, of which those with a known
speed above 0 are driving seconds (log 27). -/
def dayNote (b : Bytes) (e : DayEntry) (rider : Nat) : DayEntry :=
  match recType b with
  | 0x11 => { e with starts := e.starts + 1, coupled := e.coupled + (if fieldBe b 12 1 = 1 then 1 else 0) }
  | 0x04 => { e with gaps := e.gaps + 1 }
  | 0x20 =>
    let speeds := (List.range 8).map (fun i => fieldBe b (18 + 2 * i) 2)
    let known := fieldBe b 42 1
    let seen := (speeds.zipIdx.filter (fun p => known / 2 ^ p.2 % 2 == 1)).map (·.1)
    let drove := (seen.filter (fun v => v != 0)).length
    { e with driving := e.driving + drove, metres := e.metres + ((List.range 8).map (fun i => fieldBe b (34 + i) 1)).sum,
             top := seen.foldl max e.top, drivers := if drove = 0 then e.drivers else addDriver rider drove e.drivers }
  | _ => e

/-- The summary after a sealed record. Days without TIME_VALID are not kept; such a record clears the flag of the newest day. -/
def summaryNote (b : Bytes) (s : State) : State :=
  let s := if recType b = 0x11 then { s with led := { s.led with rider := (fieldBe b 13 1, fieldBe b 18 8) } } else s
  if fieldBe b 6 1 % 2 = 1 then
    let day := (s.dayOf (recSecs b)).toNat
    putDay (dayNote b (s.dayEntry day) s.led.rider.2) s
  else
    match s.led.summary with
    | [] => s
    | e :: rest => { s with led := { s.led with summary := { e with valid := false } :: rest } }

/-- Leaf 0 (Table 12-4). -/
def State.leaf0 (s : State) (day : Nat) : Bytes :=
  be 4 ((s.img.run.map (·.vehicle)).getD 0) ++ be 8 s.straps.serial ++ be 2 day ++ be 4 (s.get Reg.LDG_CKPT_V) ++
    be 4 (s.get Reg.LDG_FIRST_V) ++ zeros 42

/-- The current day's leaf, leaf 0 and leaf 15 are rewritten as one group (R302); without a signature nothing is. -/
def summaryRewrite (s : State) : State :=
  match s.led.summary, s.slotKey 3 with
  | e :: _, some d =>
    let leaf := 1 + e.day % 28 / 2
    let mem := memSetN (memSetN s.nv.mem 0x4800 (s.leaf0 e.day)) (dayOffset e.day) (dayBytes e)
    match signWith (beNat d) (sha256 (memGetN mem 0x4800 960)) s with
    | (.bytes sig, t) =>
      let g : Group := ⟨[(0x4800, s.leaf0 e.day), (0x4800 + leaf * 64, memGetN mem (0x4800 + leaf * 64) 64), (0x4800 + 960, sig)],
        .summary⟩
      (submitGroup .p2 g { t with led := { t.led with summaryAt := s.now } }).2
    | (_, t) => t
  | _, _ => s

/-! ### Sealing (R290 to R293) -/

/-- A record is sealed: NUM, MAC and CRC, into the open sector; the eighth slot starts its program. -/
def sealRec (key : Bytes) (r : Rec) (s : State) : State :=
  let num := s.get Reg.LDG_NEXT_V
  let b := be 4 num ++ r.tail
  let mac := chainMac key s.led.mac b
  let full := b ++ mac ++ be 4 (crc32c (b ++ mac))
  let t := { s with
    ledAon := { s.ledAon with sector := s.ledAon.sector ++ [full],
                              sectorAt := if s.ledAon.sector = [] then s.now else s.ledAon.sectorAt,
                              lastSecs := r.secs,
                              keptDay := if r.flags % 2 = 1 then some (s.dayOf r.secs) else s.ledAon.keptDay },
    led := { s.led with mac := mac, span := full :: s.led.span } }
  let t := summaryNote full (t.put Reg.LDG_NEXT_V (num + 1))
  if 8 ≤ t.ledAon.sector.length then sectorProgram t else t

/-- A checkpoint falls due at the next NUM (R293). -/
def State.ckptDue (s : State) : Bool :=
  let m := s.get Reg.LDG_NEXT_V % 1024
  m == 1022 || (s.led.dayDue && s.timeValid && m != 1021 && m != 1023)

/-- A LOSS record (Table 12-3). -/
def lossRec (dropped unit : Nat) (s : State) : Rec := s.mkRec 0x06 (be 4 (min dropped 0xFFFFFFFF) ++ be 1 unit)

/-- Drops are themselves recorded as soon as the queue has room (R294). -/
def lossCheck (s : State) : State :=
  if s.led.drops = 0 ∨ s.bit Reg.LDG_STAT_HALT ∨ ¬ s.isHead then s
  else
    match admitCore .ingest .p2 .ledger (.record (lossRec s.led.drops s.unitNum s)) s with
    | (.taken, t) => { t with led := { t.led with drops := 0 } }
    | _ => s

/-- The next record of the ingest queue is sealed, unless a checkpoint falls due first or the sector is being programmed. -/
def sealNext (s : State) : State :=
  let s := dayCheck s
  if s.bit Reg.LDG_STAT_READY = false ∨ s.bit Reg.LDG_STAT_RONLY ∨ s.bit Reg.LDG_STAT_HALT ∨ s.led.ckpt.isSome ∨
      s.ledAon.programming ≠ 0 then s
  else if s.ckptDue then { s with led := { s.led with ckpt := some (s.get Reg.LDG_NEXT_V) } }
  else
    match s.slotKey 5 with
    | none => ledgerHalt s
    | some key =>
      match popQueue .ingest s with
      | none => s
      | some (i, t) =>
        match i.work with
        | .record r => sealRec key r t
        | _ => t

/-! ### Accepting records (R289, R300) -/

/-- The ingest queue accepts records: the held records first, then the LOSS records of the start-up buffer and of the reset. A ledger that has
not opened goes on refusing. -/
def ledgerAccept (s : State) : State :=
  if s.led.opened then s else
  let t := { s with led := { s.led with opened := true } }.setBit Reg.LDG_STAT_HALT false
  let held := s.boot.earlyRecs
  let drops := s.boot.earlyDrops
  let t := { t with boot := { t.boot with earlyRecs := [], earlyDrops := 0 } }
  let t := held.foldl (fun s r => ledgerPut r s) t
  let t := if drops = 0 then t else ledgerPut (lossRec drops t.unitNum t) t
  if t.ledAon.resetLost = 0 then t
  else ledgerPut (lossRec t.ledAon.resetLost t.unitNum t) { t with ledAon := { t.ledAon with resetLost := 0 } }

/-- The ledger does not open, or opens read-only: held records are discarded and no record is accepted. -/
def ledgerClosed (s : State) : State :=
  let n := (s.queue .ingest).items.length
  let t := (clearQueue .ingest s).setBit Reg.LDG_STAT_HALT true
  ({ t with boot := { t.boot with earlyRecs := [], earlyDrops := 0 }, led := { t.led with opened := true } }).count Reg.LDG_DROP_V n

/-! ### VBAT_FAIL (R299, R420) -/

/-- The ledger at VBAT_FAIL: ingest stops, unsealed records are dropped and counted in PD_AON, a signature in progress is abandoned, the
open sector is programmed. -/
def ledgerFail (s : State) : State :=
  let n := (s.queue .ingest).items.length
  let t := clearQueue .ingest s
  let t := { t with ledAon := { t.ledAon with failLost := t.ledAon.failLost + n, flushOk := t.ledAon.sector == [] },
                    led := { t.led with ckpt := none } }
  sectorProgram (if t.isHead then t.setBit Reg.LDG_STAT_HALT true else t)

/-- VBAT_FAIL is over without a reset: ingest reopens, the records dropped are reported in a LOSS record (R294, R420). -/
def ledgerReopen (s : State) : State :=
  if s.isHead = false ∨ s.bit Reg.LDG_STAT_READY = false ∨ s.bit Reg.LDG_STAT_RONLY ∨ s.led.foreign ∨ s.led.served.all (!·) then s
  else
    let n := s.ledAon.failLost
    let t := { s with ledAon := { s.ledAon with failLost := 0, flushOk := false } }.setBit Reg.LDG_STAT_HALT false
    if n = 0 then t else ledgerPut (lossRec n t.unitNum t) t

end Sys2Proof.Machine
end

