-- ==== Sys2Proof/Machine/Entropy.lean ====
section
/-! DEFINITION. The entropy source and the DRBG (R348 to R360). -/

namespace Sys2Proof.Machine

/-! ### Windows (R349, R350) -/

/-- The longest run that ends in a list of samples, and the run in progress at its end; the run before it goes on. -/
def runScan : List Bool → Bool × Nat → Nat → (Bool × Nat) × Nat
  | [], cur, top => (cur, top)
  | b :: bs, cur, top =>
    let next := if cur.2 ≠ 0 ∧ cur.1 = b then (b, cur.2 + 1) else (b, 1)
    runScan bs next (max top next.2)

/-- The samples of a window equal to its first. -/
def likeFirst (w : List Bool) : Nat :=
  match w with
  | [] => 0
  | b :: _ => (w.filter (fun x => x == b)).length

/-- The longest time, in samples, that a bias trim sits at an end of its range, and the time in progress at the end. -/
def railScan : List Bool → Nat → Nat → Nat × Nat
  | [], cur, top => (cur, top)
  | b :: bs, cur, top =>
    let next := if b then cur + 1 else 0
    railScan bs next (max top next)

/-- The test of Table 15-3 that a window of one latch fails, given the run and the time at the rail before it. -/
def windowFails (before : Bool × Nat) (rail : Nat) (w trims : List Bool) : Option HealthTest :=
  if 41 ≤ (runScan w before 0).2 then some .repetition
  else if 840 ≤ likeFirst w then some .proportion
  else if 256 ≤ (railScan trims rail 0).2 then some .bias
  else none

/-- The first failure of a window over the four latches: the test and the latch. -/
def windowJudge (runs : List (Bool × Nat)) (rails : List Nat) (w : Window) : Option (HealthTest × Nat) :=
  (List.range 4).findSome? (fun n =>
    (windowFails (runs.getD n (false, 0)) (rails.getD n 0) (w.raw.getD n []) (w.rails.getD n [])).map (fun t => (t, n)))

/-- The runs in progress after a window. -/
def runsAfter (runs : List (Bool × Nat)) (raw : List (List Bool)) : List (Bool × Nat) :=
  (List.range 4).map (fun n => (runScan (raw.getD n []) (runs.getD n (false, 0)) 0).1)

/-- The times at the rail in progress after a window. -/
def railsAfter (rails : List Nat) (trims : List (List Bool)) : List Nat :=
  (List.range 4).map (fun n => (railScan (trims.getD n []) (rails.getD n 0) 0).1)

/-- The first latch whose bias loop has not converged to 45 % to 55 % ones over 256 samples (Table 15-4, step 2). -/
def biasAstray (l : List (List Bool)) : Option Nat :=
  (List.range 4).find? (fun n =>
    let ones := ((l.getD n []).filter (fun b => b)).length
    decide (100 * ones < 45 * 256 ∨ 55 * 256 < 100 * ones))

/-- Successive samples in pairs, each giving its exclusive-or. -/
def condition : List Bool → List Bool
  | a :: b :: rest => (a != b) :: condition rest
  | _ => []

/-- The conditioned bits of the four latches, interleaved in latch order. -/
def interleaveRaw (raw : List (List Bool)) : List Bool :=
  let cs := (List.range 4).map (fun n => condition (raw.getD n []))
  (List.range ((cs.map List.length).foldl max 0)).flatMap (fun i => cs.filterMap (fun (c : List Bool) => (c.drop i).head?))

/-- Bits as bytes, the first bit the most significant (log 28); bits short of a byte are left out. -/
def packBits : Nat → List Bool → Bytes
  | 0, _ => []
  | n + 1, l =>
    if l.length < 8 then []
    else BitVec.ofNat 8 ((l.take 8).foldl (fun a b => a * 2 + (if b then 1 else 0)) 0) :: packBits n (l.drop 8)

/-- The bits a window releases, as bytes. -/
def released (raw : List (List Bool)) : Bytes :=
  let bits := interleaveRaw raw
  packBits bits.length bits

/-- The DRBG instantiated from the first 512 pool bits (R352). -/
def instantiate (s : State) : State :=
  if s.ent.pool.length < 64 then s
  else
    { s with ent := { s.ent with
        drbg := some (drbgInit (s.ent.pool.take 48) (sub s.ent.pool 48 16) (be 8 s.straps.serial ++ s.ent.perso)),
        pool := s.ent.pool.drop 64, starting := 0, reseedDue := false } }

/-! ### Consumers that wait (R354) -/

/-- The answer of a read of ENT_RAND. -/
def randAnswer (m : Master) (st : FabStatus) (b : Bytes) (s : State) : State := answerTo m st [BitVec.ofNat 32 (beNat b)] s

/-- The waiting reads are served in order while there is output. -/
def serveReads : Nat → State → State
  | 0, s => s
  | f + 1, s =>
    match s.ent.waiting with
    | [] => s
    | w :: rest =>
      match randReq false 4 s with
      | (.bytes b, t) => serveReads f (randAnswer w.1 .ok b { t with ent := { t.ent with waiting := rest } })
      | (_, t) => t

/-- New pool bits: a reseed that is due runs first, then the commands and reads that waited (R353, R354). A Den command draws with
prediction resistance and makes its own reseeds. -/
def entropyKick (s : State) : State :=
  if s.ent.drbg.isNone ∨ s.bit Reg.ENT_STAT_RAW then s
  else
    let t := match s.den.wait with
      | some _ => denRetry { s with ent := { s.ent with reseedDue := false } }
      | none => s
    let t := if t.ent.reseedDue ∨ t.bit Reg.ENT_CTL_RESEED then reseedNow t else t
    let t := cryRetry t
    serveReads t.ent.waiting.length t

/-! ### Failure (R355 to R357) -/

/-- Failures within the last 3,600 s, on the tick clock. -/
def State.recentFails (s : State) : List Nat := s.recent 3600000000 s.entAon.failAt

/-- Latch-down (R357): fault 0x4302, both Sett ports silent; the open sector is flushed once the FAULT record is in it. -/
def latchDown (s : State) : State :=
  let t := raise 0x4302 0 { s with entAon := { s.entAon with latched := true } }
  { t with sett := { t.sett with silent := true }, ent := { t.ent with flushDue := true } }

/-- The flush of a unit that has latched down. -/
def latchFlush (s : State) : State :=
  if s.ent.flushDue ∧ (s.queue .ingest).items = [] ∧ s.ledAon.programming = 0 then
    sectorProgram { s with ent := { s.ent with flushDue := false } }
  else s

/-- The waiting consumers complete with ENTROPY_FAIL (R355, step 2). -/
def entropyRefuse (s : State) : State :=
  let t := if s.den.wait.isSome then denDone .entropy [] s else s
  let t := if t.cry.wait.isSome then cryDone .entropyFail [] t else t
  t.ent.waiting.foldl (fun s w => randAnswer w.1 .entropyFail [] s) { t with ent := { t.ent with waiting := [] } }

/-- A health-test failure (R355): output stops, the failure is kept in PD_AON, the fault raised; the third within 3,600 s latches the
unit down, otherwise a unit with self-restart restarts once the record is sealed (R356). -/
def entropyFail (test : HealthTest) (latch : Nat) (s : State) : State :=
  let third := decide (2 ≤ s.recentFails.length)
  let t := { s with ent := { s.ent with pool := [], drbg := none, reseedDue := false, starting := 0 },
                    entAon := { s.entAon with failAt := (s.now :: s.entAon.failAt).take 2 } }
  let t := ((t.setBit Reg.ENT_STAT_FAIL true).put Reg.ENT_STAT_FTEST test.code).put Reg.ENT_STAT_FLATCH latch
  let t := entropyRefuse (t.setBit Reg.ENT_CTL_RESEED false)
  let again := s.entAon.selfRestart && !third
  let t := raiseAs (if again then .restart else .log) 0x4301 (test.code * 256 + latch % 4) t
  if third then latchDown t
  else if again then { t with ent := { t.ent with restartDue := some s.now } }
  else t

/-- A failure while the tests run: in raw test mode only FTEST and FLATCH show it (R359). -/
def healthFail (test : HealthTest) (latch : Nat) (s : State) : State :=
  if s.bit Reg.ENT_STAT_RAW then (s.put Reg.ENT_STAT_FTEST test.code).put Reg.ENT_STAT_FLATCH latch
  else if s.bit Reg.ENT_STAT_FAIL then s
  else entropyFail test latch s

/-- The source runs (R348). -/
def State.entropyOn (s : State) : Bool := s.domOn .vlt && s.boot.started

/-- HEALTH_WINDOW_CLOSE (R349 to R352, R359, R360): a window of 1,024 samples of each latch closes. One that passes releases its conditioned
bits; after raw test mode the first is discarded and the second fills the pool for a fresh instantiation. In raw test mode its samples
are held for ENT_RAW. -/
def execHealthWindowClose (w : Window) (s : State) : Host.Outcome State Fault Refusal :=
  if s.entropyOn = false then .next s
  else
    let t := { s with ent := { s.ent with runs := runsAfter s.ent.runs w.raw, rails := railsAfter s.ent.rails w.rails } }
    let t := if t.bit Reg.ENT_STAT_RAW then { t with ent := { t.ent with samples := w.raw } } else t
    match windowJudge s.ent.runs s.ent.rails w with
    | some (test, latch) => .next (healthFail test latch t)
    | none =>
      if t.bit Reg.ENT_STAT_RAW ∨ t.bit Reg.ENT_STAT_FAIL then .next t
      else if t.ent.starting = 2 then .next { t with ent := { t.ent with starting := 1, pool := [] } }
      else
        let u := { t with ent := { t.ent with pool := (t.ent.pool ++ released w.raw).take 128 } }
        .next (entropyKick (if u.ent.starting = 1 then instantiate u else u))

/-- HEALTH_TEST_FAIL (R350, R355 to R357): the window in progress, as far as it has come, fails a test. -/
def execHealthTestFail (w : Window) (s : State) : Host.Outcome State Fault Refusal :=
  if s.entropyOn = false then .next s
  else
    match windowJudge s.ent.runs s.ent.rails w with
    | some (test, latch) => .next (healthFail test latch s)
    | none => .next s

/-- ENTROPY_SELF_RESTART (R356): once the FAULT record has been sealed, within 10 ms in any case. -/
def execEntropySelfRestart (s : State) : Host.Outcome State Fault Refusal :=
  match s.ent.restartDue with
  | none => .next s
  | some at_ =>
    if (s.queue .ingest).items = [] ∨ s.after at_ 10000 then
      .next (requestRestart 0x4301 { s with ent := { s.ent with restartDue := none } })
    else .next s

/-! ### Registers (R353, R354, R359) -/

/-- Raw test mode begins (R359). -/
def rawEnter (s : State) : State :=
  let t := { s with ent := { s.ent with drbg := none, pool := [], reseedDue := false, starting := 0, rawAt := s.now, samples := [] } }
  (((t.setBit Reg.ENT_STAT_RAW true).setBit Reg.ENT_CTL_RAW true).setBit Reg.ENT_CTL_RESEED false)

/-- A reseed asked for (R353, R358): ignored while output is stopped or raw test mode is on. -/
def reseedAsk (s : State) : State :=
  if s.bit Reg.ENT_STAT_FAIL ∨ s.bit Reg.ENT_STAT_RAW ∨ s.ent.drbg.isNone then s
  else reseedNow (s.setBit Reg.ENT_CTL_RESEED true)

/-- A write of ENT_CTL: RAW is accepted only in BLANK and SERVICE. -/
def entCtlWrite (m : Master) (v : Nat) (s : State) : FabStatus × State :=
  let raw := decide (v / 2 ^ 30 % 2 = 1)
  if serviceMaster m = false ∨ (raw ∧ s.lc ≠ 0 ∧ s.lc ≠ 3) then (.denied, s)
  else
    let t := s.put Reg.ENT_CTL_RAWSEL (v % 8)
    let t := if raw then (if t.bit Reg.ENT_STAT_RAW then t else rawEnter t) else rawLeave t
    (.ok, if v / 2 ^ 31 % 2 = 1 then reseedAsk t else t)

/-- A write to a register of the entropy block (R361). -/
def entWrite (m : Master) (a v : Nat) (s : State) : FabStatus × State :=
  if a = Reg.ENT_CTL then entCtlWrite m v s
  else if a = Reg.ENT_CLR then (.ok, if m = .session ∧ v % 2 = 1 then (s.put Reg.ENT_CNT_RESEEDS 0).put Reg.ENT_CNT_WAITS 0 else s)
  else (.ok, s)

/-- ENTROPY_WAIT_TIMEOUT (R354): an external read, or RANDOM, that has waited 1 ms. -/
def execEntropyWaitTimeout (s : State) : Host.Outcome State Fault Refusal :=
  match s.ent.waiting.find? (fun w => serviceMaster w.1 && s.after w.2 1000) with
  | some w =>
    .next (randAnswer w.1 .entropyWait [] ({ s with ent := { s.ent with waiting := s.ent.waiting.erase w } }.count Reg.ENT_CNT_WAITS 1))
  | none =>
    match s.cry.wait with
    | some c => .next (if c.op = 9 ∧ s.after s.cry.waitAt 1000 then cryDone .entropyWait [] s else s)
    | none => .next s

/-- RAW_MODE_TIMEOUT (R360): ENT_RAW has not been read for 10 s. -/
def execRawModeTimeout (s : State) : Host.Outcome State Fault Refusal :=
  if s.bit Reg.ENT_STAT_RAW ∧ s.after s.ent.rawAt 10000000 then .next (rawLeave s) else .next s

end Sys2Proof.Machine
end

