-- ==== Sys2Proof/Machine/PowerOps.lean ====
section
/-! DEFINITION. What shedding does (19, 20): lanes, banks, sessions and domains given up at VBAT_FAIL, by the Hedgehog, at a HALT. -/

namespace Sys2Proof.Machine

/-- Sessions end without a decision, and their triggers are not replayed (R420, R241): runs, exchanges and keys go; a queued
coupled exchange with them. -/
def sessionsDrop (s : State) : State :=
  let drop := fun (s : State) (b : Nat) =>
    s.setQueue (.bank b) { s.queue (.bank b) with items := (s.queue (.bank b)).items.filter (fun i => !i.isCoupled) }
  [0, 1].foldl drop (volSweep { s with ses := { s.ses with ss := [], runs := [] }, fox := { s.fox with pair := [] } })

/-- A lane's operations end with a result, its waiting requests too, and the lane goes off (R156, R420). -/
def laneShut (r : LaneResult) (s : State) (n : Nat) : State :=
  let s := laneCut n false s
  let l := s.lane n
  let used := l.held.isSome || l.search || l.txEnd.isSome || !(s.queue (.lane n)).items.isEmpty || s.laneInUse n
  let t := clearQueue (.lane n) s
  let t := setOh n none (foxLane n t)
  let t := if used then laneResult n r t else t
  let t := t.setLane n { t.lane n with held := none, search := false, settle := none, pend := none, txEnd := none, listen := none,
                                       rx := none, wantRx := none, turn := none, loop := none, sleptAt := s.now }
  laneOff n t

/-- Both lanes and PD_FOX go off (R420, R435, R437). -/
def airDrop (r : LaneResult) (s : State) : State := laneShut r (laneShut r s 0) 1

/-- The coupled exchange, every running frame and every diagnostic run stop, without a decision (R420). -/
def fieldDrop (res : LfResult) (s : State) : State :=
  let t := testStop (fun _ => true) res (lfEndAll (fun _ => true) res { s with lf := { s.lf with retests := [], rxDue := [] } })
  if t.lf.ct.isSome then ctRelease res t else t

/-- A request that waited for a bank ends with a result (R18, R110). -/
def waiterEnds (res : LfResult) (s : State) (i : QItem) : State :=
  match i.work with
  | .lf r => lfDone r res [] none s
  | .coils cs => cs.foldl (fun s c => s.put (Reg.LF_CH_STAT_LAST c) res.code) s
  | .coupled _ => ctRefused res s
  | .burst | .trigger _ | .record _ | .frame _ | .can _ | .group _ | .tally _ | .lane _ | .diag _ => s

/-- The requests that wait for a bank end with a result (R110). -/
def bankRefuse (b : Nat) (res : LfResult) (s : State) : State :=
  (s.queue (.bank b)).items.foldl (waiterEnds res) (clearQueue (.bank b) s)

/-- What runs in a bank but the coupled exchange ends with a result. -/
def bankStop (b : Nat) (res : LfResult) (s : State) : State :=
  testStop (fun r => bankOf r.ch == b) res (lfEndAll (fun r => r.req.banks.contains b) res s)

/-- The running frames of a bank, and the coupled exchange in it, end with SHED (R110). -/
def bankDrop (b : Nat) (s : State) : State :=
  let t := bankStop b .shed s
  let t := if t.lf.ct.isSome ∧ (t.holder.map (fun h => bankOf h.channel)) = some b then ctOver .shed t else t
  bankRefuse b .shed t

/-- Every domain but PD_AON and PD_SUP off, PD_TAG on from the field alone, for a HALT of 0x1104 or 0x1107 (R435): what runs in them
ends. -/
def domainsDrop (s : State) : State :=
  let t := airDrop .shed (fieldDrop .shed (sessionsDrop s))
  let lost := (t.queue .ingest).items.length
  let qs := t.queues.map (fun (q : Queue) => { q with items := [] })
  let t := { t with queues := qs, ledAon := { t.ledAon with resetLost := t.ledAon.resetLost + lost },
                    rmc := { t.rmc with cur := none, op := none, resume := [], resubmit := [], stopped := true, buf := [] } }
  boostCheck (t.put Reg.PWR_DOM_ON (if t.tag.field then 0x803 else 0x003))

/-- The performance-level cap a code sets (R38, R433). -/
def setCap (code level : Nat) (s : State) : State :=
  relevel { s with hh := { s.hh with caps := (code, level) :: s.hh.caps.filter (fun c => c.1 != code) } }

def dropCap (code : Nat) (s : State) : State :=
  relevel { s with hh := { s.hh with caps := s.hh.caps.filter (fun c => c.1 != code) } }

/-- A temperature step is in force. -/
def State.stepOn (s : State) (code group : Nat) : Bool := s.hh.steps.any (fun x => x.code == code && x.group == group)

/-- The shed bits of SUP_HH_STAT follow the steps in force and rail 8 (R435, R437). -/
def shedBits (s : State) : State :=
  let t := s.setBit Reg.SUP_HH_STAT_SHEDP3 (s.stepOn 0x1102 0)
  let t := if s.stepOn 0x1102 0 then t else t.setBit Reg.SUP_HH_STAT_SHEDP2 false
  let t := t.setBit Reg.SUP_HH_STAT_SHEDAIR (s.stepOn 0x1103 0 || s.bitAt Reg.SUP_VMON_V 7)
  t.put Reg.SUP_HH_STAT_SHEDLF ((if s.stepOn 0x1105 1 ∨ s.stepOn 0x1106 3 then 1 else 0) +
    (if s.stepOn 0x1105 2 ∨ s.stepOn 0x1106 3 then 2 else 0))

end Sys2Proof.Machine
end

