-- ==== Sys2Proof/Machine/Waymarks.lean ====
section
/-! DEFINITION. Pulses, speed, motion state and waymarks (11). -/

namespace Sys2Proof.Machine

/-! ### Speed (R276, R277) -/

/-- |k|, at least 1. -/
def State.pulseK (s : State) : Nat := max 1 ((s.motion.cfg.map (fun c => c.k.natAbs)).getD 1)

/-- Ticks covered by the last n intervals of the edge times, newest first. -/
def spanOf (n : Nat) (edges : List Nat) : Nat := edges.headD 0 - edges.getD n (edges.headD 0)

/-- n of R276: the largest power of two of at most 256 intervals that span 250 ms or less; at least 1. -/
def windowN (edges : List Nat) : Nat :=
  ([256, 128, 64, 32, 16, 8, 4, 2].find? (fun n => decide (n < edges.length ∧ spanOf n edges * 4 ≤ 4194304))).getD 1

/-- 0.1 km/h from n intervals that span some ticks (R276). -/
def speedOf (k n span : Nat) : Nat := if span = 0 then 0xFFFF else min 0xFFFF (36000 * n * 4194304 / (k * span))

/-- The speed at a time, capped between edges (R276). -/
def State.speed (s : State) : Nat :=
  match s.wm.edges with
  | e :: _ =>
    let n := windowN s.wm.edges
    let span := spanOf n s.wm.edges
    let v := s.get Reg.WM_MSTAT_SPEED
    if span < n * (s.now - e) then min v (speedOf s.pulseK 1 (s.now - e)) else v
  | [] => s.get Reg.WM_MSTAT_SPEED

def State.speedKnown (s : State) : Bool := s.bit Reg.WM_MSTAT_KNOWN

/-- Stopped time in whole seconds: WM_STOPT (R277, R285). -/
def State.stoppedTicks (s : State) : Nat :=
  if s.speedKnown ∧ s.speed = 0 then s.now - (s.wm.lastEdge.getD (s.boot.profileAt.getD s.now)) else 0

/-- The road distance in metres (R274), not yet cut to the bits of a register. -/
def State.roadMetres (s : State) : Nat := s.motion.pulses * 1000 / s.pulseK

/-- Millimetres (R274). -/
def State.millimetres (s : State) : Nat := s.motion.pulses * 1000000 / s.pulseK

/-- A wake source is latched in PD_AON while the unit sleeps; those of one tick together (R429, R430). In a sleep round it ends the round
(R393). -/
def latchWake (code : Nat) (s : State) : State :=
  match s.power.state with
  | .sleep | .hibernate =>
    if s.powAon.wakes = [] then { s with powAon := { s.powAon with wakes := [code], wakeAt := s.now } }
    else if s.powAon.wakeAt = s.now then { s with powAon := { s.powAon with wakes := s.powAon.wakes ++ [code] } }
    else s
  | .on | .doze | .standby => ringStir s
  | .reset => s

/-! ### Waymark triggers (R280 to R284) -/

/-- One entry's evaluation: its new arming, whether it fires, multiples passed unfired. -/
structure WmEval where
  st : WmState
  fires : Bool
  skipped : Nat
  deriving DecidableEq, Repr

/-- Whether a code-3, 4 or 5 entry may fire in this ignition-on period (R281). -/
def wmMay (w : WmState) : Bool := w.entry.flags % 2 == 1 || !w.fired

/-- A threshold entry: fires when `above` holds while armed, re-armed when `below` holds (R280, R281). -/
def wmEdge (w : WmState) (known goes rearm : Bool) : WmEval :=
  if !known then ⟨w, false, 0⟩
  else if !w.seen then ⟨{ w with seen := true, armed := !goes }, false, 0⟩
  else if w.armed && goes then ⟨{ w with armed := false, fired := true }, wmMay w, 0⟩
  else ⟨{ w with armed := w.armed || rearm }, false, 0⟩

/-- An entry is evaluated on the present distance, speed and stopped time (Table 11-1). -/
def wmEval (s : State) (w : WmState) : WmEval :=
  let e := w.entry
  let m := s.roadMetres
  let v := s.speed
  let known := s.speedKnown
  if e.trigger = 1 then
    let q := m / max 1 e.param
    if w.prev < q then ⟨{ w with prev := q }, true, q - w.prev - 1⟩ else ⟨w, false, 0⟩
  else if e.trigger = 2 then
    if w.armed ∧ e.param ≤ m then ⟨{ w with armed := false }, true, 0⟩ else ⟨w, false, 0⟩
  else if e.trigger = 3 then wmEdge w known (decide (e.param < v)) (decide (v + e.param2 ≤ e.param))
  else if e.trigger = 4 then wmEdge w known (decide (v < e.param)) (decide (e.param + e.param2 ≤ v))
  else if e.trigger = 5 then
    if known ∧ v ≠ 0 then ⟨{ w with armed := true }, false, 0⟩
    else if known ∧ w.armed ∧ e.param * 4194304 ≤ s.stoppedTicks then ⟨{ w with armed := false, fired := true }, wmMay w, 0⟩
    else ⟨w, false, 0⟩
  else ⟨w, false, 0⟩

def WmResult.code : WmResult → Nat
  | .done => 0 | .merged => 1 | .noLatch => 2 | .ignored => 3 | .busy => 4

/-- WM_FIRE and WM_CNT (R283, R285). -/
def wmReport (e : WaymarkE) (r : WmResult) (s : State) : State :=
  let t := ((((s.setBit Reg.WM_FIRE_NEW true).put Reg.WM_FIRE_RES r.code).put Reg.WM_FIRE_ACTION e.action).put Reg.WM_FIRE_TRIG
    e.trigger).put Reg.WM_FIRE_WAYMARK e.waymark
  let t := match r with
    | .done | .merged => t.count Reg.WM_CNT_FIRED 1
    | .noLatch | .ignored | .busy => t
  match r with
  | .done => t
  | .merged | .noLatch | .ignored | .busy => t.count Reg.WM_CNT_SKIP 1

/-- A session of an earlier waymark action is still running (R283). -/
def State.waymarkRuns (s : State) : Bool := s.ses.runs.any (fun r => r.trig.wm != 0)

/-- An action that starts a session (R283): skipped while the latch is clear, merged with a running one. -/
def wmSession (e : WaymarkE) (code : Nat) (s : State) : State :=
  if s.bit Reg.SL_STAT_LATCH = false then wmReport e .noLatch s
  else
    match fireTrigger ⟨code, e.action, 0⟩ s with
    | (.taken, t) => wmReport e (if s.waymarkRuns then .merged else .done) t
    | (_, t) => wmReport e .busy t

/-- Whether a P2 record found a place. -/
def wmRecord (e : WaymarkE) (typ : Nat) (body : Bytes) (s : State) : State :=
  match recordRaw .p2 (s.mkRec typ body) s with
  | (.dropped, t) => wmReport e .busy (raise 0x5207 0 t)
  | (.busy, t) => wmReport e .busy t
  | (.fault, t) => wmReport e .busy t
  | (.taken, t) => wmReport e .done t

/-- An action is dispatched (Table 11-2); a PROFILE_SWITCH is noted, to take effect after the evaluation's other actions. -/
def wmAction (e : WaymarkE) (s : State) : State :=
  if e.action = 1 ∨ e.action = 3 then wmSession e 0x30 s
  else if e.action = 4 then wmSession e 0x31 s
  else if e.action = 2 then
    wmRecord e 0x21 (be 4 e.argument ++ be 1 e.waymark ++ [0] ++ be 2 (if s.speedKnown then s.speed else 0xFFFF) ++ be 4 s.metres ++
      be 6 s.motion.pulses) s
  else if e.action = 5 then
    wmRecord e 0x22 (be 2 s.speed ++ be 1 ((if s.speedKnown then 1 else 0) + (if s.bit Reg.WM_MSTAT_MOVING then 2 else 0)) ++
      be 1 e.waymark ++ be 4 s.metres) s
  else if s.profile = 4 ∨ 4 ≤ e.argument then
    wmReport e .ignored (logRec 0x44 (be 1 1 ++ be 1 e.waymark ++ be 4 e.argument) s)
  else wmReport e .done s

/-- The profile that the last PROFILE_SWITCH fired in an evaluation selects (R284). -/
def wmSwitch (s : State) (fired : List WaymarkE) : Option Nat :=
  if s.profile = 4 then none
  else ((fired.filter (fun e => e.action == 6 && decide (e.argument < 4))).getLast?).map (·.argument)

/-- The triggers are evaluated, their actions dispatched in table order (R280, R284). A change of the motion state in the same 10 ms
applies first (R284); of several PROFILE_SWITCH actions the last holds. A profile is selected where one is entered: on a head, outside HALT
(R35). -/
def wmEvaluate (s0 : State) : State :=
  let s := eventsEvaluate s0
  let evs : List WmEval := s.wm.entries.map (wmEval s)
  let t := { s with wm := { s.wm with entries := evs.map (fun (v : WmEval) => v.st), evalAt := s.now, fresh := false } }
  let t := t.count Reg.WM_CNT_SKIP (evs.map (fun (v : WmEval) => v.skipped)).sum
  let fired := (evs.filter (fun (v : WmEval) => v.fires)).map (fun (v : WmEval) => v.st.entry)
  let t := fired.foldl (fun s e => wmAction e s) t
  match wmSwitch s fired with
  | some p =>
    if t.bit Reg.SUP_HH_STAT_HALT ∨ ¬ (t.isHead ∨ t.isActing) then t
    else enterProfile p { t with boot := { t.boot with wmSelect := some p } }
  | none => t

/-- WAYMARK_EVALUATE (R280): every 10 ms while the profile is CAB, ROAD or WORKSHOP. -/
def execWaymarkEvaluate (s : State) : Host.Outcome State Fault Refusal :=
  if 2 ≤ s.profile ∧ s.profile ≤ 4 ∧ (s.wm.fresh ∨ s.after s.wm.evalAt 10000) then .next (wmEvaluate s) else .next s

/-- Evaluated also at every change of speed state (R280). -/
def wmSpeedChange (s : State) : State := if 2 ≤ s.profile ∧ s.profile ≤ 4 then wmEvaluate s else s

/-- The entries are armed at profile entry (R282). -/
def wmArm (s : State) : State :=
  { s with wm := { s.wm with entries := s.wm.entries.map (fun w =>
      { w with prev := s.roadMetres / max 1 w.entry.param,
               armed := if w.entry.trigger = 2 then decide (s.roadMetres < w.entry.param) else true, fired := false, seen := false }) } }

/-- Entries of codes 3 to 5 that fire once are re-armed when ignition comes on (R281): those of codes 3 and 4 from the present speed, as after
a start-up (log 103). -/
def wmIgnitionOn (s : State) : State :=
  let on := fun (w : WmState) =>
    if w.entry.trigger < 3 ∨ w.entry.flags % 2 = 1 then w else { w with fired := false, armed := true, seen := w.entry.trigger == 5 }
  { s with wm := { s.wm with entries := s.wm.entries.map on } }

/-! ### Edges (R272 to R275) -/

/-- The direction of an edge, true for reverse (R273). -/
def State.reverseNow (s : State) : Bool :=
  match s.motion.cfg with
  | none => false
  | some c => c.mode == 1 && !s.bit Reg.WM_MSTAT_BLOST && ((c.k < 0) != s.motion.bLevel)

/-- The speed that an edge gives (R276, R277): unknown without an edge in the last 1,024 s. -/
def speedEdge (rev : Bool) (s : State) : State :=
  let near := s.wm.lastEdge.any (fun t => decide (s.now - t ≤ 1024 * 4194304))
  let turned := s.wm.lastEdge.isSome && s.wm.lastRev != rev
  let es := if near = false then [s.now]
    else if turned then [s.now, s.wm.lastEdge.getD s.now]
    else ((s.now :: s.wm.edges).take 257)
  let t := { s with wm := { s.wm with edges := es, lastEdge := some s.now, lastRev := rev } }
  let v := if near then speedOf s.pulseK (windowN es) (spanOf (windowN es) es) else 0
  ((t.setBit Reg.WM_MSTAT_KNOWN near).put Reg.WM_MSTAT_SPEED v).setBit Reg.WM_MSTAT_REV rev

/-- The motion state becomes MOVING above v_road (R278). -/
def movingCheck (s : State) : State :=
  if s.speedKnown ∧ s.motion.vroad < s.get Reg.WM_MSTAT_SPEED ∧ s.bit Reg.WM_MSTAT_MOVING = false then
    evalEvent ((s.setBit Reg.WM_MSTAT_MOVING true).setBit Reg.WM_MSTAT_CHG true)
  else s

/-- MOTION_WAKE (R275): 16 qualified edges within 2 s wake the unit from SLEEP. -/
def motionWake (s : State) : State :=
  match s.power.state with
  | .sleep =>
    let es := (s.now :: s.recent 2000000 s.motion.wakeEdges).take 16
    let t := { s with motion := { s.motion with wakeEdges := es } }
    if 16 ≤ es.length then latchWake 6 t else t
  | .reset | .on | .doze | .standby | .hibernate => s

/-- MOTION_B silent for 32 edges of A in mode 1 (R273). -/
def bSilent (s : State) : State :=
  if (s.motion.cfg.map (·.mode)) = some 1 ∧ s.bit Reg.WM_MSTAT_BLOST = false then
    let t := { s with wm := { s.wm with aSinceB := s.wm.aSinceB + 1 } }
    if 32 ≤ t.wm.aSinceB then raise 0x0201 0 (t.setBit Reg.WM_MSTAT_BLOST true) else t
  else s

/-- Whether the motion inputs count (R274, R275): from the moment counting resumes, not on VBKP. -/
def State.motionCounts (s : State) : Bool := s.motion.counting && !s.bit Reg.CHRON_STAT_BKP

/-- Whether a level was held long enough, in ns, for an edge to be qualified (R272). -/
def State.heldEnough (s : State) (ns : Nat) : Bool := s.motion.cfg.all (fun c => decide (c.minPulse * 1000 ≤ ns))

/-- A rejected excursion (R272, R273): counted; 64 within 1 s raise fault 0x0202, at most once per second. -/
def glitch (s : State) : State :=
  let gs := (s.now :: s.recent 1000000 s.wm.glitches).take 64
  let t := { s with wm := { s.wm with glitches := gs } }.count Reg.WM_GLITCH_V 1
  let quiet := s.wm.glitchFault.all (fun f => s.after f 1000000)
  if 64 ≤ gs.length ∧ quiet then raise 0x0202 0 { t with wm := { t.wm with glitchFault := some s.now } } else t

/-- A qualified edge of MOTION_A (R273 to R278): it is counted and captured; asleep it may wake the unit, awake it gives the speed. -/
def qualifiedEdge (s : State) : State :=
  let rev := s.reverseNow
  let t := { s with motion := { s.motion with pulses := (s.motion.pulses + 1) % 2 ^ 48 } }
  let t := if rev then t.count Reg.WM_REV_V 1 else t
  let t := captureEdge 1 true (if s.captures 1 1 true then t else captureInto 1 t)
  match s.power.state with
  | .sleep | .hibernate => motionWake { t with wm := { t.wm with edges := [s.now], lastEdge := some s.now, lastRev := rev } }
  | .reset => motionWake t
  | .on | .doze | .standby =>
    let u := movingCheck (speedEdge rev (bSilent t))
    if u.speedKnown ≠ s.speedKnown ∨ (s.speedKnown ∧ s.speed = 0) then wmSpeedChange u else u

/-- MOTION_EDGE (R272 to R278): a rising edge of MOTION_A whose low level, before it, and whose high level were held so many ns: a qualified
edge, or a rejected excursion. -/
def execMotionEdge (low high : Nat) (s : State) : Host.Outcome State Fault Refusal :=
  if s.motionCounts = false then .next s
  else .next (if s.heldEnough low ∧ s.heldEnough high then qualifiedEdge s else glitch s)

/-- MOTION_B_EDGE (R272, R273): an edge of MOTION_B, with the level it leads to and how long that is held in ns. In mode 0 MOTION_B is ignored. -/
def execMotionBEdge (level : Bool) (held : Nat) (s : State) : Host.Outcome State Fault Refusal :=
  if s.motionCounts = false ∨ (s.motion.cfg.map (·.mode)) ≠ some 1 then .next s
  else if s.heldEnough held = false then .next (glitch s)
  else
    .next (captureEdge 2 level ({ s with motion := { s.motion with bLevel := level }, wm := { s.wm with aSinceB := 0 } }.setBit
      Reg.WM_MSTAT_BLOST false))

/-- MOTION_GLITCH (R272, R273): a rejected excursion. -/
def execMotionGlitch (s : State) : Host.Outcome State Fault Refusal := .next (if s.motionCounts then glitch s else s)

/-- SPEED_ZERO_TIMEOUT (R277): no qualified edge for 2.0 s, from profile entry if there has been none. -/
def execSpeedZeroTimeout (s : State) : Host.Outcome State Fault Refusal :=
  match (match s.wm.lastEdge with | some e => some e | none => s.boot.profileAt) with
  | none => .next s
  | some from_ =>
    if s.after from_ 2000000 ∧ ¬ (s.speedKnown ∧ s.get Reg.WM_MSTAT_SPEED = 0) then
      .next (wmSpeedChange { ((s.setBit Reg.WM_MSTAT_KNOWN true).put Reg.WM_MSTAT_SPEED 0) with wm := { s.wm with edges := [] } })
    else .next s

/-- MOTION_STOPPED (R278): the speed has read known 0 for t_stop without a break. The profile change comes before the actions of the
same 10 ms (R284). -/
def execMotionStopped (s : State) : Host.Outcome State Fault Refusal :=
  let zeroFrom := s.wm.lastEdge.getD (s.boot.profileAt.getD s.now) + 2 * 4194304
  if s.bit Reg.WM_MSTAT_MOVING ∧ s.speedKnown ∧ s.get Reg.WM_MSTAT_SPEED = 0 ∧ zeroFrom + s.motion.tstop * 4194304 ≤ s.now then
    let t := { s with motion := { s.motion with parkedAt := s.now } }
    .next (evalEvent ((t.setBit Reg.WM_MSTAT_MOVING false).setBit Reg.WM_MSTAT_CHG true))
  else .next s

end Sys2Proof.Machine
end

