-- ==== Sys2Proof/Machine/Touch.lean ====
section
/-! DEFINITION. Touch channels, switches and start lines (18). -/

namespace Sys2Proof.Machine

/-! ### Roles (R408, R414) -/

/-- The code of Table 9-5 that keeps a touch channel: the one bound first in table order (R414); a code without a WAKE entry gives no role (R232). -/
def capCode (i : Image) (unit n : Nat) : Option Nat :=
  ((boundPolls i.polls).find? (fun p => p.unit == unit && (p.profile == 0x10 + n || p.profile == 0x18 + n))).map (·.profile)

/-- The codes bound to a switch. -/
def swCodes (i : Image) (unit n : Nat) : List Nat :=
  [0x20 + n, 0x28 + n, 0x38 + n].filter (fun c => (boundPolls i.polls).any (fun p => p.unit == unit && p.profile == c))

/-- At image load the scanned set and the bindings are copied into PD_AON (R409); a channel that keeps its binding goes on. -/
def bindInputs (i : Image) (unit : Nat) (s : State) : State :=
  let caps := s.touch.caps.zipIdx.map (fun p =>
    let code := capCode i unit p.2
    if code.isNone then CapCh.init else { p.1 with code := code })
  let sws := s.touch.sws.zipIdx.map (fun p => { p.1 with codes := swCodes i unit p.2 })
  let held := s.touch.held.filter (fun c => caps.any (fun k => k.code == some c) || sws.any (fun w => w.codes.contains c))
  { s with touch := { s.touch with caps := caps, sws := sws, held := held } }

/-- The event word of a trigger code (Table 9-4). -/
def eventWord (code : Nat) : Nat :=
  if code < 0x20 then 2 ^ 24 + code % 8 * 2 ^ 16 else 2 * 2 ^ 24 + code % 4 * 2 ^ 16

/-- A trigger code fires: on a head or acting head for the session engine, on a satellite as its event (R230, R414). -/
def fireCode (code : Nat) (s : State) : State :=
  if s.isHead ∨ s.isActing then (fireTrigger ⟨code, 0, 0⟩ s).2 else satEvent (eventWord code) s

/-- A detection (R409, R411, R413): at once while the unit runs; held in PD_AON until step 10 of a start-up, in SLEEP and in HIBERNATE, where
it is a wake event; discarded where the start-up ended with no profile entered. -/
def inputFires (wake code : Nat) (s : State) : State :=
  match s.power.state with
  | .on | .doze | .standby =>
    if s.bit Reg.PWR_BOOT_STAT_DONE then fireCode code s
    else if s.get Reg.PWR_BOOT_STAT_FAILSTEP = 0 then { s with touch := { s.touch with held := s.touch.held ++ [code] } }
    else s
  | .reset => { s with touch := { s.touch with held := s.touch.held ++ [code] } }
  | .sleep | .hibernate => latchWake wake { s with touch := { s.touch with held := s.touch.held ++ [code] } }

/-- The held detections fire (R409): once step 10 is complete, or on the wake. -/
def fireHeld (s : State) : State :=
  s.touch.held.foldl (fun s c => fireCode c s) { s with touch := { s.touch with held := [] } }

/-! ### Touch (R409 to R411, R459) -/

/-- Channel n is scanned: an entry binds it (R408). -/
def State.scanned (s : State) (n : Nat) : Bool := (s.touch.caps.getD n CapCh.init).code.isSome

/-- A channel's ball (R408). -/
def State.capOut (s : State) (n : Nat) : CapOut := if s.scanned n then .scanned else .heldLow

/-- CAP_SHIELD follows the channel being measured, and is idle while none is scanned (R408). -/
def State.shieldOut (s : State) : ShieldOut := if (List.range 8).any s.scanned then .follows else .idle

/-- THR in 0.01 pF; values below 10 act as 10 (R418). -/
def State.touchThr (s : State) : Int := ((max 10 (s.get Reg.TSW_CAPCFG_THR) : Nat) : Int)

/-- Where the converter saturates, 0.01 pF (R459). -/
def capTop : Int := 6500

def CapCh.delta (c : CapCh) : Int := c.conv - c.base

/-- A channel's first conversion gives its baseline; a saturated one cannot grow a delta. -/
def capTake (conv : Int) (c : CapCh) : CapCh :=
  if capTop ≤ conv then { c with started := true, conv := capTop, base := if c.stuck then c.base else capTop }
  else if c.started then { c with conv := conv }
  else { c with started := true, conv := conv, base := conv }

/-- The baseline of a released channel follows its conversions by at most 0.01 pF per second (R410). -/
def capFollow (s : State) (c : CapCh) : CapCh :=
  if s.after c.baseAt 1000000 then
    { c with baseAt := s.now, base := if c.base < c.conv then c.base + 1 else if c.conv < c.base then c.base - 1 else c.base }
  else c

/-- A channel after its conversion (R409, R410). -/
def capNext (s : State) (c : CapCh) : CapCh :=
  let thr := s.touchThr
  if c.stuck then (if 2 * c.conv < 2 * c.b0 + thr then { c with stuck := false, base := c.conv } else c)
  else if c.touched then (if 2 * c.delta < thr then { c with touched := false } else c)
  else if thr ≤ c.delta then { c with touched := true, since := s.now }
  else capFollow s c

/-- Every scanned channel at or above THR, at least two of them released before (R411). -/
def isWater (s : State) (caps : List CapCh) : Bool :=
  let scanned := caps.filter (fun c => c.code.isSome)
  decide (2 ≤ scanned.length) && scanned.all (fun c => decide (s.touchThr ≤ c.delta)) &&
    decide (2 ≤ (scanned.filter (fun c => !c.touched)).length)

/-- The scan period in µs (R409). -/
def State.scanPeriod (s : State) : Nat :=
  match s.power.state with
  | .on | .doze | .standby | .reset => 5000
  | .sleep | .hibernate => 20000

/-- The codes of the channels that this scan detects, lower codes first (R241). -/
def detections (before after : List CapCh) : List (Nat × Nat) :=
  sortBy (fun (a b : Nat × Nat) => decide (a.1 ≤ b.1)) ((before.zip after).zipIdx.filterMap (fun p =>
    if !p.1.1.touched && p.1.2.touched then p.1.2.code.map (fun c => (c, p.2)) else none))

/-- TOUCH_SCAN (R408 to R411): one conversion of each scanned channel, in 0.01 pF. -/
def execTouchScan (convs : List Int) (s : State) : Host.Outcome State Fault Refusal :=
  if s.after s.touch.scanAt s.scanPeriod = false then .next s
  else
    let taken := (s.touch.caps.zipIdx).map (fun p => if p.1.code.isNone then p.1 else capTake (convs.getD p.2 p.1.conv) p.1)
    let t := enterSamples convs { s with touch := { s.touch with scanAt := s.now } }
    if isWater s taken then .next ({ t with touch := { t.touch with caps := taken } }.count Reg.TSW_CNT_WATER 1)
    else
      let caps := taken.map (fun c => if c.code.isNone then c else capNext s c)
      let t := { t with touch := { t.touch with caps := caps } }
      .next ((detections taken caps).foldl (fun s d => inputFires 1 d.1 (s.setBitAt Reg.TSW_CAPSTAT_EVT d.2)) t)

/-- TOUCH_STUCK (R410): a channel touched for 10 s. -/
def execTouchStuck (n : Nat) (s : State) : Host.Outcome State Fault Refusal :=
  let c := s.touch.caps.getD n CapCh.init
  if c.touched ∧ s.after c.since 10000000 then
    .next (raise 0x0301 n { s with touch := { s.touch with
      caps := s.touch.caps.set n { c with b0 := c.base, base := c.conv, touched := false, stuck := true } } })
  else .next s

/-! ### Switches (R412, R413) -/

/-- The configuration byte of a switch. -/
def State.swCfg (s : State) (n : Nat) : Nat := (s.rd Reg.TSW_SWCFG).toNat / 256 ^ n % 256

/-- POL: an input pulled high is active. -/
def State.swPol (s : State) (n : Nat) : Bool := s.swCfg n / 128 == 1

/-- DEB in ms (R413, R418): 0 acts as 1; whole samples of 10 ms while asleep. -/
def State.swDeb (s : State) (n : Nat) : Nat :=
  let d := max 1 (s.swCfg n % 64)
  match s.power.state with
  | .sleep | .hibernate => (d + 9) / 10 * 10
  | .on | .doze | .standby | .reset => d

def State.swPeriod (s : State) : Nat :=
  match s.power.state with
  | .on | .doze | .standby | .reset => 1000
  | .sleep | .hibernate => 10000

def State.sw (s : State) (n : Nat) : SwCh := s.touch.sws.getD n SwCh.init

def State.setSw (s : State) (n : Nat) (w : SwCh) : State := { s with touch := { s.touch with sws := s.touch.sws.set n w } }

/-- The wetting current of a switch in 0.1 mA (R412): off with POL 1, 10 mA for 2 ms after a change of raw level while awake. -/
def State.wetting (s : State) (n : Nat) : Nat :=
  if s.swPol n then 0
  else
    match s.power.state with
    | .on | .doze | .standby | .reset => if s.within (s.sw n).rawAt 2000 then 100 else 10
    | .sleep | .hibernate => 10

/-- A sample of one switch, true for an input above its high threshold. After a write of POL it sets the debounced level at once. -/
def swTake (s : State) (n : Nat) (high : Bool) (w : SwCh) : SwCh :=
  let raw := high == s.swPol n
  if w.polWritten then
    { w with polWritten := false, raw := raw, rawAt := s.now, active := raw, since := s.now, stuck := w.stuck && raw }
  else if raw = w.raw then w
  else { w with raw := raw, rawAt := s.now }

/-- An excursion that ends before DEB is a glitch. -/
def swGlitch (old new : SwCh) : Bool := !old.polWritten && old.raw != new.raw && new.raw == old.active

/-- SWITCH_SAMPLE (R412, R413): the four inputs are sampled. -/
def execSwitchSample (highs : List Bool) (s : State) : Host.Outcome State Fault Refusal :=
  if s.after s.touch.sampleAt s.swPeriod = false then .next s
  else
    let sws := (s.touch.sws.zipIdx).map (fun p => swTake s p.2 (highs.getD p.2 false) p.1)
    let glitches := (s.touch.sws.zip sws).countP (fun p => swGlitch p.1 p.2)
    .next ({ s with touch := { s.touch with sampleAt := s.now, sws := sws } }.count Reg.TSW_CNT_GLITCH glitches)

/-- The codes of a switch that fire (R413). -/
def SwCh.firing (w : SwCh) : List Nat := w.codes.filter (fun c => c < 0x38)

/-- SWITCH_DEBOUNCE (R413): a level stable for DEB ms becomes the debounced level; only a change to active fires. -/
def execSwitchDebounce (n : Nat) (s : State) : Host.Outcome State Fault Refusal :=
  let w := s.sw n
  if w.polWritten ∨ w.raw = w.active ∨ s.after w.rawAt (s.swDeb n * 1000) = false then .next s
  else if w.raw then
    let t := captureEdge (4 + n) true ((s.setSw n { w with active := true, since := s.now }).setBitAt Reg.TSW_SWSTAT_EVT n)
    .next (w.firing.foldl (fun s c => inputFires 2 c s) t)
  else .next (captureEdge (4 + n) false (s.setSw n { w with active := false, stuck := false }))

/-- SWITCH_STUCK (R413): a start button active for 60 s. -/
def execSwitchStuck (n : Nat) (s : State) : Host.Outcome State Fault Refusal :=
  let w := s.sw n
  if w.active ∧ w.stuck = false ∧ w.codes.contains (0x28 + n) ∧ s.after w.since 60000000 then
    .next (raise 0x0302 n (s.setSw n { w with stuck := true }))
  else .next s

/-- A write of TSW_CAPCFG or TSW_SWCFG (R413, R418): a changed POL takes effect at the next sample. -/
def tswWrite (m : Master) (a v : Nat) (s : State) : FabStatus × State :=
  if ¬ (m = .host ∨ m = .can ∨ m = .debug) then (.denied, s)
  else if a = Reg.TSW_CAPCFG then (.ok, s.put Reg.TSW_CAPCFG_THR v)
  else
    let t := s.wr Reg.TSW_SWCFG (BitVec.ofNat 32 v &&& 0xBFBFBFBF#32)
    let sws := (s.touch.sws.zipIdx).map (fun p =>
      if s.swPol p.2 = t.swPol p.2 then p.1 else { p.1 with polWritten := true })
    (.ok, { t with touch := { t.touch with sws := sws } })

/-- SAT_EVENT_REPEAT (R414): every 2 ms a satellite repeats its event frame until it hears from unit 1. -/
def execSatEventRepeat (s : State) : Host.Outcome State Fault Refusal :=
  match s.sett.satEvents with
  | [] => .next s
  | w :: _ =>
    if s.after s.sett.satEventAt 2000 then
      .next (settSend 0x11 false 1 .p0 (be 2 0xFFFF ++ [0, 1] ++ be 4 w) { s with sett := { s.sett with satEventAt := s.now } })
    else .next s

/-! ### Start lines (R415 to R417) -/

/-- The state of a line (Table 18-1), given its own fault protection. -/
def State.lineOut (s : State) (protected_ : Bool) : LineOut :=
  if s.bit Reg.SL_STAT_LATCH = false then .locked
  else if s.bit Reg.CHRON_STAT_BKP ∨ protected_ then .off
  else .release

/-- STARTEN_H: a high-side switch from VBAT (R415). -/
def State.startenH (s : State) : LineOut := s.lineOut (s.lines.ocH.isSome || s.lines.otH)

/-- STARTEN_L: a low-side switch to ground (R415). -/
def State.startenL (s : State) : LineOut := s.lineOut (s.lines.ocL.isSome || s.lines.otL)

/-- Whether STARTEN_H is on. -/
def State.lineH (s : State) : Bool := s.startenH == .release

def State.lineL (s : State) : Bool := s.startenL == .release

/-- START_LINE_READBACK (R416): 100 µs after the latch set, both lines are read back; a line that is off cannot read as
released. -/
def execStartLineReadback (hRel lRel : Bool) (s : State) : Host.Outcome State Fault Refusal :=
  match s.lines.setAt with
  | none => .next s
  | some t =>
    if s.after t 100 then
      let hRel := hRel && s.lineH
      let lRel := lRel && s.lineL
      let u := ({ s with lines := { s.lines with setAt := none } }.setBit Reg.SL_STAT_HREL hRel).setBit Reg.SL_STAT_LREL lRel
      .next (if hRel && lRel then u else raise 0x0303 ((if hRel then 0 else 1) + (if lRel then 0 else 2)) u)
    else .next s

/-- START_LINE_OVERCURRENT (R417): a line whose current was held at the limit for `us` switches off from 50 µs on; true names
STARTEN_H. -/
def execStartLineOvercurrent (high : Bool) (us : Nat) (s : State) : Host.Outcome State Fault Refusal :=
  if us < 50 then .next s
  else if high then
    if s.lineH then
      .next (raise 0x0303 1 (({ s with lines := { s.lines with ocH := some s.now } }.setBit Reg.SL_STAT_OCH true).setBit
        Reg.SL_STAT_HREL false))
    else .next s
  else if s.lineL then
    .next (raise 0x0303 2 (({ s with lines := { s.lines with ocL := some s.now } }.setBit Reg.SL_STAT_OCL true).setBit
      Reg.SL_STAT_LREL false))
  else .next s

/-- START_LINE_RETRY (R417): a line off for overcurrent is retried every 100 ms while the latch stays set. -/
def execStartLineRetry (high : Bool) (s : State) : Host.Outcome State Fault Refusal :=
  match (if high then s.lines.ocH else s.lines.ocL) with
  | none => .next s
  | some t =>
    if s.bit Reg.SL_STAT_LATCH ∧ s.after t 100000 then
      if high then .next ({ s with lines := { s.lines with ocH := none } }.setBit Reg.SL_STAT_HREL true)
      else .next ({ s with lines := { s.lines with ocL := none } }.setBit Reg.SL_STAT_LREL true)
    else .next s

/-- START_LINE_OVERTEMP (R417): a driver junction of `celsius`; at 150 °C its line switches off. -/
def execStartLineOvertemp (high : Bool) (celsius : Int) (s : State) : Host.Outcome State Fault Refusal :=
  if celsius < 150 then .next s
  else if high then
    .next (raise 0x0303 1 (({ s with lines := { s.lines with otH := true } }.setBit Reg.SL_STAT_OCH true).setBit Reg.SL_STAT_HREL false))
  else
    .next (raise 0x0303 2 (({ s with lines := { s.lines with otL := true } }.setBit Reg.SL_STAT_OCL true).setBit Reg.SL_STAT_LREL false))

/-- START_LINE_COOL (R417): the junction reads 135 °C or less; the line is tried again. -/
def execStartLineCool (high : Bool) (celsius : Int) (s : State) : Host.Outcome State Fault Refusal :=
  if 135 < celsius then .next s
  else if high then
    let t := { s with lines := { s.lines with otH := false } }
    .next (if s.lines.otH && t.lineH then t.setBit Reg.SL_STAT_HREL true else t)
  else
    let t := { s with lines := { s.lines with otL := false } }
    .next (if s.lines.otL && t.lineL then t.setBit Reg.SL_STAT_LREL true else t)

/-- START_LINE_OPEN_LOAD (R417): released, STARTEN_L sinking less than 2 mA for 10 ms. -/
def execStartLineOpenLoad (microamps ms : Nat) (s : State) : Host.Outcome State Fault Refusal :=
  if s.lineL ∧ microamps < 2000 ∧ 10 ≤ ms then .next (raise 0x0304 0 (s.setBit Reg.SL_STAT_OPEN true)) else .next s

/-- START_LINE_FORCED (R417): locked, with the test currents STARTEN_H above 3.0 V or STARTEN_L below 1.0 V for 10 ms. -/
def execStartLineForced (high : Bool) (mv ms : Nat) (s : State) : Host.Outcome State Fault Refusal :=
  if s.bit Reg.SL_STAT_LATCH ∨ ms < 10 ∨ (if high then mv ≤ 3000 else 1000 ≤ mv) then .next s
  else .next (raise 0x0305 (if high then 1 else 2) (s.setBit Reg.SL_STAT_FORCED true))

end Sys2Proof.Machine
end

