-- ==== Sys2Proof/Machine/Tag.lean ====
section
/-! DEFINITION. The cab tag (16): ISO/IEC 14443-3, the application, leaves and their writers. -/

namespace Sys2Proof.Machine

/-! ### Mode, identity, answers -/

/-- WIRED mode (Table 16-1, R374). -/
def State.wired (s : State) : Bool :=
  (match s.power.state with
   | .on | .doze | .standby => true
   | .reset | .sleep | .hibernate => false) && !s.bit Reg.PWR_STAT_VBATF && s.hh.haltGroup.isNone

/-- The 7-byte UID (Table 16-2). -/
def State.tagUid (s : State) : Bytes := Config.uid0 :: be 6 (s.tagAon.serial % 2 ^ 48)

/-- FWT in 10 ns (Table 16-2). -/
def State.fwt (s : State) : Nat := 30206 * 2 ^ min s.tagAon.fwi 14

/-- The tag is powered and in a field: a frame reaches it. -/
def State.tagHears (s : State) : Bool := s.tag.field && s.domOn .tag

/-- A frame answered, in whole bytes. -/
def tagSay (b : Bytes) (s : State) : State := { s with outs := { s.outs with tag := b, tagBits := [] } }

/-- No answer. -/
def tagMute (s : State) : State := tagSay [] s

/-- Bytes as bits on the air, least significant bit first. -/
def airBits (b : Bytes) : List Bool := b.flatMap (fun x => (List.range 8).map (fun i => x.getLsbD i))

/-! ### Leaves (R371, R372) -/

def State.leafHold (s : State) (leaf : Nat) : Option TagLeaf := s.tag.held.find? (fun h => h.leaf == leaf)

/-- Leaves the field holds. -/
def State.fieldLeaves (s : State) : List TagLeaf := s.tag.held.filter (fun h => h.by_.isNone)

/-- Bytes written over a copy from an offset on. -/
def overlay (old : Bytes) (off : Nat) (b : Bytes) : Bytes := old.take off ++ b ++ old.drop (off + b.length)

/-- A writer's bytes go into the working copy, which its first write fills from the committed copy. -/
def leafWrite (leaf : Nat) (by_ : Option Master) (off : Nat) (b : Bytes) (s : State) : State :=
  let old := ((s.leafHold leaf).map (·.data)).getD (s.leafStored leaf)
  { s with tag := { s.tag with held := ⟨leaf, by_, ((s.leafHold leaf).map (·.since)).getD s.now, s.now, overlay old off b⟩ :: s.tag.held.filter (fun h => h.leaf != leaf) } }

/-- Leaves no longer held. -/
def leafDrop (p : TagLeaf → Bool) (s : State) : State := { s with tag := { s.tag with held := s.tag.held.filter (fun h => !p h) } }

/-- The working copies of SRAM leaves become the committed ones in one tag clock (R373). -/
def leafSwap (l : List TagLeaf) (s0 : State) : State :=
  let s := leavesReplaced ((l.filter (fun h => h.leaf < 0x80)).map (·.leaf)) s0
  { s with tag := { s.tag with sram := (l.filter (fun h => h.leaf < 0x80)).foldl (fun m h => memSetN m (h.leaf * 64) h.data) s.tag.sram } }

/-- An access of a wired master to TAG_MEM keeps its leaves. -/
def tagAccess (m : Master) (s : State) : State :=
  let held := s.tag.held.map (fun (h : TagLeaf) => if h.by_ = some m then { h with at_ := s.now } else h)
  { s with tag := { s.tag with held := held } }

/-! ### Secured answers (R370) -/

/-- An answer to a command: data, the MAC where the command used CLA 0x84 (its counter given), SW. -/
def tagReply (ctr : Option Nat) (data : Bytes) (sw : Nat) (s : State) : State :=
  match ctr, s.tag.kts with
  | some c, some k => tagSay (data ++ (cmac k (be 2 c ++ data ++ be 2 sw)).take 8 ++ be 2 sw) s
  | _, _ => tagSay (data ++ be 2 sw) s

/-- Authentication ends (R370, R372): the session key and the leaves the field holds are gone, and a command that waits with them. -/
def authEnd (s : State) : State :=
  leafDrop (fun h => h.by_.isNone)
    { s with tag := { s.tag with kts := none, step1 := none, ctr := 0, lock := none, commit := none } }

/-- An authentication failure is noted (TAG_EVT, TAG_CNT). -/
def authFailed (s : State) : State := (s.setBit Reg.TAG_EVT_AFAIL true).count Reg.TAG_CNT_AFAIL 1

/-- A command ends 9210 BUSY. -/
def tagBusy (ctr : Option Nat) (s : State) : State := tagReply ctr [] 0x9210 (s.count Reg.TAG_CNT_BUSY 1)

/-- A COMMIT ends 9220 NOT_NOW: its leaves stay held. -/
def tagNotNow (ctr : Option Nat) (s : State) : State :=
  tagReply ctr [] 0x9220 ((s.setBit Reg.TAG_EVT_NOTNOW true).count Reg.TAG_CNT_NOTNOW 1)

/-! ### Commits (R373 to R375) -/

/-- A field COMMIT has been carried out: the SRAM leaves are swapped, every leaf is let go, 9000, and in SLEEP the unit wakes (R379). -/
def commitOk (ctr : Option Nat) (s : State) : State :=
  let t := leafDrop (fun h => h.by_.isNone) (leafSwap s.fieldLeaves s)
  let t := tagReply ctr [] 0x9000 (t.setBit Reg.TAG_EVT_FCMT true)
  match s.power.state with
  | .sleep => if s.powAon.failing then t else latchWake 5 t
  | .reset | .on | .doze | .standby | .hibernate => t

/-- How the group of a COMMIT ended. -/
inductive CommitEnd where
  | ok | notNow | fail
  deriving DecidableEq, Repr

/-- The group of a COMMIT has ended; a command whose authentication is over gets no answer. -/
def commitEnded (r : CommitEnd) (s : State) : State :=
  match s.tag.commit with
  | none => s
  | some c =>
    let t := { s with tag := { s.tag with commit := none } }
    match r with
    | .ok => commitOk (some c) t
    | .notNow => tagNotNow (some c) t
    | .fail => tagReply (some c) [] 0x9230 (leafDrop (fun h => h.by_.isNone) t)

/-- The group is a field COMMIT's (R374). -/
def Group.ofTag (g : Group) : Bool := g.owner == .tagCommit

/-- VBAT_FAIL abandons the group of a COMMIT (R314, R374). -/
def tagAbandon (s : State) : State :=
  let q := s.queue .commit
  let mine := fun (i : QItem) => match i.work with
    | .group g => g.ofTag
    | _ => false
  let cur := if s.rmc.cur.any (fun c => c.group.ofTag) then none else s.rmc.cur
  let t := { s.setQueue .commit { q with items := q.items.filter (fun i => !mine i) } with
    rmc := { s.rmc with cur := cur, resume := s.rmc.resume.filter (fun c => !c.group.ofTag) } }
  if s.tag.path.isSome then t else commitEnded .notNow t

/-! ### ISO/IEC 14443-3 (R366) -/

/-- Back to IDLE, or to HALT where the tag came from there; whatever a selection held is gone. -/
def tagFall (s : State) : State :=
  let t := authEnd s
  { t with tag := { t.tag with st := if s.tag.star then .halt else .idle, cascade := 1, iso4 := false, app := false, snap := none } }

/-- The tag enters HALT (R366, R370, R378). -/
def tagHalt (s : State) : State :=
  let t := authEnd s
  { t with tag := { t.tag with st := .halt, star := false, cascade := 1, iso4 := false, app := false, snap := none } }

/-- READY, answering ATQA. -/
def tagReady (star : Bool) (s : State) : State :=
  tagSay [0x44, 0x00] { s with tag := { s.tag with st := .ready, star := star, cascade := 1 } }

/-- FIELD_ON: a field appears and powers the tag. -/
def execFieldOn (s : State) : Host.Outcome State Fault Refusal :=
  if s.tag.field then .next s
  else .next ({ s with tag := { s.tag with field := true, st := .idle, star := false, cascade := 1, iso4 := false } }.setDom .tag true)

/-- Without field and without VSYS PD_TAG has no supply: SRAM leaves are lost (R365); a program under way ends on the reservoir. -/
def tagUnpowered (s : State) : State :=
  if s.tag.field ∨ s.wired ∨ s.tag.path.isSome then s
  else ({ s with tag := { s.tag with sram := [], held := [] } }).setDom .tag false

/-- FIELD_LOSS (R366, R370, R378). -/
def execFieldLoss (s : State) : Host.Outcome State Fault Refusal :=
  let t := authEnd s
  let t := { t with tag := { t.tag with field := false, st := .idle, star := false, cascade := 1, iso4 := false, app := false, snap := none,
                                        fails := 0 } }
  .next (tagUnpowered (tagMute t))

/-- REQA: answered in IDLE. -/
def execReqa (s : State) : Host.Outcome State Fault Refusal :=
  if s.tagHears = false ∨ s.tag.iso4 then .next s
  else
    match s.tag.st with
    | .idle => .next (tagReady false s)
    | .halt => .next (tagMute s)
    | .ready => .next (tagMute (tagFall s))
    | .active => .next (tagMute (tagFall s))

/-- WUPA: answered in IDLE and HALT. -/
def execWupa (s : State) : Host.Outcome State Fault Refusal :=
  if s.tagHears = false ∨ s.tag.iso4 then .next s
  else
    match s.tag.st with
    | .idle => .next (tagReady false s)
    | .halt => .next (tagReady true s)
    | .ready => .next (tagMute (tagFall s))
    | .active => .next (tagMute (tagFall s))

/-- The five bytes of a cascade level: cascade tag or UID bytes, and their exclusive-or. -/
def State.levelBytes (s : State) (level : Nat) : Bytes :=
  let b := if level = 1 then 0x88 :: s.tagUid.take 3 else s.tagUid.drop 3
  b ++ [b.foldl (· ^^^ ·) 0]

/-- ANTICOLLISION at a cascade level with the bits the reader knows: the tag whose UID begins so answers the rest. -/
def execAnticollision (level : Nat) (known : List Bool) (s : State) : Host.Outcome State Fault Refusal :=
  if s.tagHears = false ∨ s.tag.iso4 then .next s
  else
    match s.tag.st with
    | .ready =>
      let bits := airBits (s.levelBytes level)
      if level = s.tag.cascade ∧ known.isPrefixOf bits then
        .next { s with outs := { s.outs with tag := [], tagBits := bits.drop known.length } }
      else .next (tagMute (tagFall s))
    | .idle => .next (tagMute s)
    | .halt => .next (tagMute s)
    | .active => .next (tagMute (tagFall s))

/-- SELECT of ISO/IEC 14443-3 with the five bytes of a level: SAK 0x04 at level 1, 0x20 at level 2. -/
def execIsoSelect (level : Nat) (uid : Bytes) (s : State) : Host.Outcome State Fault Refusal :=
  if s.tagHears = false ∨ s.tag.iso4 then .next s
  else
    match s.tag.st with
    | .ready =>
      if level = s.tag.cascade ∧ uid = s.levelBytes level then
        if level = 1 then .next (tagSay [0x04] { s with tag := { s.tag with cascade := 2 } })
        else .next (tagSay [0x20] { s with tag := { s.tag with st := .active } })
      else .next (tagMute (tagFall s))
    | .idle => .next (tagMute s)
    | .halt => .next (tagMute s)
    | .active => .next (tagMute (tagFall s))

/-- RATS: the ATS of Table 16-2. -/
def execRats (s : State) : Host.Outcome State Fault Refusal :=
  if s.tagHears = false ∨ s.tag.iso4 then .next s
  else
    match s.tag.st with
    | .active => .next (tagSay [0x05, 0x78, 0x00, BitVec.ofNat 8 (s.tagAon.fwi * 16), 0x00] { s with tag := { s.tag with iso4 := true } })
    | .ready => .next (tagMute (tagFall s))
    | .idle => .next (tagMute s)
    | .halt => .next (tagMute s)

/-- PPS: answered only for DRI = DSI = 0. -/
def execPpsRequest (dri dsi : Nat) (s : State) : Host.Outcome State Fault Refusal :=
  if s.tagHears = false ∨ s.tag.iso4 = false then .next s
  else if dri = 0 ∧ dsi = 0 then .next (tagSay [0xD0] s)
  else .next (tagMute s)

/-- HLTA. -/
def execHlta (s : State) : Host.Outcome State Fault Refusal :=
  if s.tagHears = false then .next s
  else
    match s.tag.st with
    | .active => .next (tagMute (tagHalt s))
    | .ready => .next (tagMute (tagFall s))
    | .idle => .next (tagMute s)
    | .halt => .next (tagMute s)

/-- DESELECT. -/
def execDeselect (s : State) : Host.Outcome State Fault Refusal :=
  if s.tagHears = false ∨ s.tag.iso4 = false then .next s else .next (tagSay [0xC2] (tagHalt s))

/-! ### The application (R368 to R370) -/

/-- A command APDU reaches the application: the tag is activated and serves no other command. -/
def State.apduHeard (s : State) : Bool := s.tagHears && s.tag.iso4 && s.tag.lock.isNone && s.tag.commit.isNone

/-- The AID (R368). -/
def tagAid : Bytes := [0xF0, 0x43, 0x48, 0x39, 0x36, 0x38, 0x30, 0x54]

/-- APDU_SELECT (R368): the AID selects the application. A command that Table 16-3 does not list arrives here too: CLA 00, 80 and 84 answer
6D00 for its INS, once the application is selected where they need it; another CLA answers 6E00. -/
def execApduSelect (a : Apdu) (ins : Nat) (s : State) : Host.Outcome State Fault Refusal :=
  if s.apduHeard = false ∨ a.crc = false then .next s
  else if a.cla = 0x80 ∨ a.cla = 0x84 then .next (tagReply none [] (if s.tag.app then 0x6D00 else 0x6985) s)
  else if a.cla ≠ 0 then .next (tagReply none [] 0x6E00 s)
  else if ins ≠ 0xA4 then .next (tagReply none [] 0x6D00 s)
  else if a.p1 ≠ 4 ∨ a.p2 ≠ 0 then .next (tagReply none [] 0x6A86 s)
  else
    let t := authEnd { s with tag := { s.tag with snap := none } }
    if a.data.length ≠ 8 ∨ a.le ≠ some 256 then .next (tagReply none [] 0x6700 t)
    else if a.data ≠ tagAid then .next (tagReply none [] 0x6985 t)
    else
      let flags := (if s.tagAon.key.isSome then 1 else 0) + (if s.wired then 2 else 0)
      let data := be 8 s.tagAon.serial ++ be 4 s.tagAon.vehicle ++ be 2 0x0100 ++ be 1 flags ++ [0]
      .next (tagReply none data 0x9000 ({ t with tag := { t.tag with app := true } }.setBit Reg.TAG_EVT_FSEL true))

/-- What the checks before any command make of an APDU: an answer given, or the command data without its MAC and the counter that
secures its answer. -/
inductive Opened where
  | refused (s : State)
  | go (data : Bytes) (ctr : Option Nat) (s : State)

/-- The checks of R368 and R370 for a command with instruction `ins`. -/
def apduOpen (a : Apdu) (ins : Nat) (auth : Bool) (s : State) : Opened :=
  if a.cla ≠ 0x80 ∧ a.cla ≠ 0x84 then .refused (tagReply none [] 0x6E00 s)
  else if s.tag.app = false then .refused (tagReply none [] 0x6985 s)
  else if a.cla = 0x80 then (if auth then .refused (tagReply none [] 0x6982 s) else .go a.data none s)
  else
    match s.tag.kts with
    | none => .refused (tagReply none [] 0x6982 s)
    | some k =>
      let body := a.data.take (a.data.length - 8)
      let mac := (cmac k (be 2 s.tag.ctr ++ be 1 a.cla ++ be 1 ins ++ be 1 a.p1 ++ be 1 a.p2 ++ body)).take 8
      if a.data.length < 8 ∨ a.data.drop (a.data.length - 8) ≠ mac then .refused (tagReply none [] 0x6988 (authFailed (authEnd s)))
      else .go body (some s.tag.ctr) { s with tag := { s.tag with ctr := (s.tag.ctr + 1) % 65536 } }

/-- A command that passes the checks runs: its data enter the unit through the tag (R26). A frame whose CRC_A fails is not decoded
(R372). -/
def apduRun (a : Apdu) (ins : Nat) (auth : Bool) (f : Bytes → Option Nat → State → State) (s : State) : State :=
  if s.apduHeard = false ∨ a.crc = false then s
  else
    match apduOpen a ins auth s with
    | .refused t => t
    | .go data ctr t => f data ctr (enter .tag data t)

/-- AUTH_STEP_1 (R369): Nr in, Nt out. -/
def execAuthStep1 (a : Apdu) (s : State) : Host.Outcome State Fault Refusal :=
  .next (apduRun a 0x82 false (fun nr ctr t =>
    match t.tagAon.key with
    | none => tagReply ctr [] 0x6985 t
    | some k6 =>
      if 3 ≤ t.tag.fails then tagReply ctr [] 0x6983 t
      else if nr.length ≠ 16 then tagReply ctr [] 0x6700 t
      else
        let nt := cmac k6 (ascii "TNC" ++ t.tagAon.salt ++ be 8 t.chron.count.toNat ++ nr)
        tagReply ctr nt 0x9000 { t with tag := { t.tag with step1 := some (nr, nt) } }) s)

/-- AUTH_STEP_2 (R369): the reader's proof is checked, the tag's returned. -/
def execAuthStep2 (a : Apdu) (s : State) : Host.Outcome State Fault Refusal :=
  .next (apduRun a 0x82 false (fun pr ctr t =>
    match t.tagAon.key, t.tag.step1 with
    | none, _ => tagReply ctr [] 0x6985 t
    | some k6, st =>
      if 3 ≤ t.tag.fails then tagReply ctr [] 0x6983 t
      else
        match st with
        | none => tagReply ctr [] 0x6985 t
        | some (nr, nt) =>
          if pr.length ≠ 16 then tagReply ctr [] 0x6700 t
          else
            let uid := t.tagUid
            if pr = cmac k6 (ascii "TAGR" ++ uid ++ nr ++ nt) then
              let u := tagReply ctr (cmac k6 (ascii "TAGT" ++ uid ++ nt ++ nr)) 0x9000 t
              { u with tag := { u.tag with kts := some (cmac k6 (ascii "TSK" ++ uid ++ nr ++ nt)), ctr := 0, step1 := none } }
            else
              tagReply ctr [] 0x6300 (authFailed { t with tag := { t.tag with step1 := none, fails := t.tag.fails + 1 } })) s)

/-- Leaves that only an authenticated field may read (Table 16-5). -/
def leafAuth (leaf : Nat) : Bool := (0x40 ≤ leaf && leaf < 0x80) || 0x90 ≤ leaf

/-- READ_LEAF (R371): the committed bytes. -/
def execReadLeaf (a : Apdu) (s : State) : Host.Outcome State Fault Refusal :=
  .next (apduRun a 0xB0 false (fun data ctr t =>
    if 0x9F < a.p1 ∨ 63 < a.p2 then tagReply ctr [] 0x6A86 t
    else if leafAuth a.p1 ∧ ctr.isNone then tagReply ctr [] 0x6982 t
    else
      match a.le with
      | none => tagReply ctr [] 0x6700 t
      | some n =>
        if n = 0 ∨ 64 - a.p2 < n ∨ data ≠ [] then tagReply ctr [] 0x6700 t
        else tagReply ctr (sub (t.leafBytes a.p1) a.p2 n) 0x9000 t) s)

/-! ### Writing (R372) -/

/-- WTXM of a lock WTX: ceil(20 ms / FWT), at most 59 (log 107). -/
def State.lockWtxm (s : State) : Nat := min 59 ((2000000 + s.fwt - 1) / s.fwt)

/-- S(WTX) is sent. -/
def sendWtx (m : Nat) (s : State) : State := tagSay [0xF2, BitVec.ofNat 8 (min m 59)] s

/-- A wired write that started on a leaf in the same tag clock as the field's completes with BUSY, and nothing of it is written
(Table 16-6). -/
def wiredUndone (h : TagLeaf) (s : State) : State :=
  let t := leafDrop (fun x => x.leaf == h.leaf) s
  match h.by_ with
  | some m => answerTo m .busy [] t
  | none => t

/-- WRITE_LEAF (R371, R372, Table 16-6). -/
def execWriteLeaf (a : Apdu) (s : State) : Host.Outcome State Fault Refusal :=
  .next (apduRun a 0xD6 true (fun data ctr t =>
    if 0x9F < a.p1 ∨ 63 < a.p2 then tagReply ctr [] 0x6A86 t
    else if leafAuth a.p1 = false then tagReply ctr [] 0x6986 t
    else if data = [] ∨ 64 - a.p2 < data.length then tagReply ctr [] 0x6700 t
    else
      match t.leafHold a.p1 with
      | some h =>
        if h.by_.isNone then tagReply ctr [] 0x9000 (leafWrite a.p1 none a.p2 data t)
        else if 4 ≤ t.fieldLeaves.length then tagReply ctr [] 0x6A84 t
        else if t.thisTagClock h.since then tagReply ctr [] 0x9000 (leafWrite a.p1 none a.p2 data (wiredUndone h t))
        else sendWtx t.lockWtxm { t with tag := { t.tag with lock := some ⟨a.p1, a.p2, data, ctr.getD 0, 1, t.now⟩ } }
      | none =>
        if 4 ≤ t.fieldLeaves.length then tagReply ctr [] 0x6A84 t
        else tagReply ctr [] 0x9000 (leafWrite a.p1 none a.p2 data t)) s)

/-- A leaf has been freed: the WRITE_LEAF that waits for it proceeds (Table 16-6). -/
def lockKick (s : State) : State :=
  match s.tag.lock with
  | none => s
  | some l =>
    if (s.leafHold l.leaf).isSome then s
    else tagReply (some l.ctr) [] 0x9000 (leafWrite l.leaf none l.offset l.data { s with tag := { s.tag with lock := none } })

/-- LOCK_WTX_EXPIRY (R367, R372): a lock WTX ends; after the third the command ends 9210. -/
def execLockWtxExpiry (s : State) : Host.Outcome State Fault Refusal :=
  match s.tag.lock with
  | none => .next s
  | some l =>
    if s.after l.at_ (s.lockWtxm * s.fwt / 100) = false then .next s
    else if l.wtx < 3 then .next (sendWtx s.lockWtxm { s with tag := { s.tag with lock := some { l with wtx := l.wtx + 1, at_ := s.now } } })
    else .next (tagBusy (some l.ctr) { s with tag := { s.tag with lock := none } })

/-- The pages of the persistent leaves held, ascending (R375, step 3). -/
def leafPages (l : List TagLeaf) : List (Nat × Bytes) :=
  (sortBy (fun (x y : TagLeaf) => decide (x.leaf ≤ y.leaf)) (l.filter (fun h => 0x80 ≤ h.leaf))).flatMap (fun h =>
    [(0x240 + (h.leaf - 0x80) * 2, h.data.take 32), (0x241 + (h.leaf - 0x80) * 2, h.data.drop 32)])

/-- The tag clamps TAG_VRES at 3.3 V (R376). -/
def clampVres (mv : Nat) : Nat := min 3300 mv

/-- The reservoir check before each program (R375, step 2). -/
def vresOk (mv : Nat) : Bool := decide (2700 ≤ mv)

/-- TAG_COMMIT (R373 to R375): through the commit queue in WIRED mode, on the tag's own path in FIELD mode; `vres` is TAG_VRES in mV. -/
def execTagCommit (a : Apdu) (vres : Nat) (s : State) : Host.Outcome State Fault Refusal :=
  .next (apduRun a 0xC2 true (fun data ctr t =>
    let pages := leafPages t.fieldLeaves
    if a.p1 ≠ 0 ∨ a.p2 ≠ 0 then tagReply ctr [] 0x6A86 t
    else if data ≠ [] then tagReply ctr [] 0x6700 t
    else if pages = [] then commitOk ctr t
    else
      let t := { t with tag := { t.tag with vres := clampVres vres } }
      if t.wired then
        match submitGroup .p3 ⟨pages.map (fun p => (p.1 * 32, p.2)), .tagCommit⟩ t with
        | (.taken, u) => tagMute { u with tag := { u.tag with commit := ctr } }
        | (_, u) => tagBusy ctr u
      else if vresOk vres then tagMute { t with tag := { t.tag with commit := ctr, path := some ⟨pages, [], 0⟩ } }
      else tagNotNow ctr t) s)

/-- The field-path group is over; the store may take up what waits for bank 1 (R377). -/
def pathOver (r : CommitEnd) (s : State) : State :=
  tagUnpowered (tallyStart (rmcKick (commitEnded r { s with tag := { s.tag with path := none } })))

/-- FIELD_PAGE_PROGRAM_DONE (R375, R376): a program on the tag's own path ends; the next begins if TAG_VRES passes its check. With every
page programmed the program is the marker's. -/
def execFieldPageProgramDone (ok : Bool) (vres : Nat) (s : State) : Host.Outcome State Fault Refusal :=
  match s.tag.path with
  | none => .next s
  | some p =>
    let t := { s with tag := { s.tag with vres := clampVres vres } }
    let failed := decide (2 ≤ p.tries)
    match p.todo with
    | [] =>
      if ok then .next (pathOver .ok (applyShadow p.shadow t))
      else if failed then .next (pathOver .fail (raise 0x6301 0 t))
      else if vresOk vres then .next { t with tag := { t.tag with path := some { p with tries := p.tries + 1 } } }
      else .next (pathOver .notNow t)
    | x :: rest =>
      if ok = false ∧ failed then .next (pathOver .fail (raise 0x6301 x.1 t))
      else if vresOk vres = false then .next (pathOver .notNow t)
      else if ok then .next { t with tag := { t.tag with path := some ⟨rest, p.shadow ++ [x], 0⟩ } }
      else .next { t with tag := { t.tag with path := some { p with tries := p.tries + 1 } } }

/-- The programs that the COMMIT under way still needs: of its own path, or of its group in the commit queue with what is committed
before it (R310, R374). -/
def State.commitPrograms (s : State) : Nat :=
  match s.tag.path with
  | some p => p.todo.length + 1
  | none =>
    let group := fun (i : QItem) => match i.work with
      | .group g => g.pages.length + 1
      | _ => 0
    let ahead := (s.rmc.cur.toList ++ s.rmc.resume).map (fun c => c.todo.length + 1)
    (ahead ++ ((s.queue .commit).items.map group)).sum

/-- WAITING_TIME_EXTENSION (R367): a work WTX while a COMMIT is being programmed, each program taking 3.2 ms. -/
def execWaitingTimeExtension (s : State) : Host.Outcome State Fault Refusal :=
  if s.tagHears ∧ s.tag.commit.isSome then .next (sendWtx ((s.commitPrograms * 320000 + s.fwt - 1) / s.fwt) s) else .next s

/-- GET_SUMMARY (R378): four summary leaves from a snapshot, which part 0 takes. -/
def execGetSummary (a : Apdu) (s : State) : Host.Outcome State Fault Refusal :=
  .next (apduRun a 0xCA false (fun data ctr t =>
    if 3 < a.p2 ∨ a.p1 ≠ 0 then tagReply ctr [] 0x6A86 t
    else if a.le ≠ some 256 ∨ data ≠ [] then tagReply ctr [] 0x6700 t
    else
      let t := if a.p2 = 0 then { t with tag := { t.tag with snap := some ((List.range 16).flatMap (fun n => t.leafBytes (0x80 + n))) } } else t
      match t.tag.snap with
      | none => tagReply ctr [] 0x6985 t
      | some b => tagReply ctr (sub b (a.p2 * 256) 256) 0x9000 t) s)

/-! ### The wired side (R372, R380) -/

/-- A write into TAG_MEM at an offset. -/
def tagMemPut (m : Master) (off : Nat) (b : Bytes) (s : State) : FabStatus × State :=
  let leaf := off / 64
  if windowMaster m = false then (.denied, s)
  else
    match s.leafHold leaf with
    | none => (.ok, tagAccess m (leafWrite leaf (some m) (off % 64) b s))
    | some h => if h.by_ = some m then (.ok, tagAccess m (leafWrite leaf (some m) (off % 64) b s)) else (.busy, s)

/-- TAG_WCMT's operation on a leaf. -/
def wiredOp (m : Master) (op leaf : Nat) (s : State) : State :=
  match s.leafHold leaf with
  | none => s.put Reg.TAG_WCMT_RESULT 2
  | some h =>
    if h.by_ ≠ some m then s.put Reg.TAG_WCMT_RESULT 1
    else
      let t := if op = 1 then leafSwap [h] s else s
      lockKick ((leafDrop (fun x => x.leaf == leaf) t).put Reg.TAG_WCMT_RESULT 0)

/-- A write to a tag register (R380). -/
def tagWrite (m : Master) (a v : Nat) (s : State) : FabStatus × State :=
  if a = Reg.TAG_WCMT then
    if windowMaster m = false then (.denied, s)
    else
      let t := (s.put Reg.TAG_WCMT_OP (v / 128 % 4)).put Reg.TAG_WCMT_LEAF (v % 128)
      (.ok, if v / 2 ^ 31 % 2 = 1 ∧ (v / 128 % 4 = 1 ∨ v / 128 % 4 = 2) then wiredOp m (v / 128 % 4) (v % 128) t else t)
  else if a = Reg.TAG_IEN then (if windowMaster m then (.ok, s.put Reg.TAG_IEN_EN (v / 2 ^ 28)) else (.denied, s))
  else if a = Reg.TAG_EVT then
    (.ok, if windowMaster m then s.w1cAll Reg.TAG_EVT (BitVec.ofNat 32 v) else s)
  else if a = Reg.TAG_CLR then (.ok, if m = .session ∧ v % 2 = 1 then s.wr Reg.TAG_CNT 0 else s)
  else (.ok, s)

/-- TAG_WIRED_HOLD_TIMEOUT (R372): the holder has not accessed TAG_MEM for 100 ms. -/
def execTagWiredHoldTimeout (s : State) : Host.Outcome State Fault Refusal :=
  match s.tag.held.find? (fun h => h.by_.isSome && s.after h.at_ 100000) with
  | none => .next s
  | some h => .next (lockKick (leafDrop (fun x => x.by_ == h.by_) s))

end Sys2Proof.Machine
end

