-- ==== Sys2Proof/Machine/Hedgehog.lean ====
section
/-! DEFINITION. Hedgehog supervision (20): temperature, rails, process monitors, block resets, watchdogs, reports. The restart
itself stands with the resets. -/

namespace Sys2Proof.Machine

/-! ### Temperature (R435, R436) -/

/-- A row of Table 20-2: code, group (0 air, 1 bank A, 2 bank B, 3 field), sensors, threshold in 0.01 °C. -/
structure TempRow where
  code : Nat
  group : Nat
  sensors : List Nat
  limit : Int
  deriving DecidableEq, Repr

/-- Table 20-2. -/
def tempRows : List TempRow :=
  [⟨0x1101, 0, [0, 1, 2, 3], 11000⟩, ⟨0x1102, 0, [0, 1, 2, 3], 11800⟩, ⟨0x1103, 0, [0, 1, 2, 3], 12500⟩,
   ⟨0x1104, 0, [0, 1, 2, 3], 13000⟩, ⟨0x1105, 1, [4], 14000⟩, ⟨0x1105, 2, [5], 14000⟩, ⟨0x1106, 3, [4, 5, 6, 7], 15000⟩,
   ⟨0x1107, 3, [4, 5, 6, 7], 16000⟩]

/-- Twice the median: of an even number, the sum of the two in the middle (log 21). -/
def median2 (l : List Int) : Int :=
  let s := sortBy (fun a b => decide (a ≤ b)) l
  let n := s.length
  if n % 2 = 1 then 2 * s.getD (n / 2) 0 else s.getD (n / 2 - 1) 0 + s.getD (n / 2) 0

/-- Readings of the valid sensors of a list: number and value. -/
def validOf (invalid : List Nat) (r : List (Option Int)) (sensors : List Nat) : List (Nat × Int) :=
  sensors.filterMap (fun n => if invalid.contains n then none else (r.getD n none).map (fun v => (n, v)))

/-- The sensors of a die that become invalid in this sample (R436): no reading, or more than 20 °C from the median of the other
valid ones. -/
def newInvalid (invalid : List Nat) (r : List (Option Int)) (die : List Nat) : List Nat :=
  let ok := validOf invalid r die
  die.filter (fun n => !invalid.contains n &&
    (match r.getD n none with
     | none => true
     | some v =>
       let others := (ok.filter (fun p => p.1 != n)).map (·.2)
       !others.isEmpty && decide (4000 < (2 * v - median2 others).natAbs)))

/-- The highest valid reading of a group and its sensor; a group without one stands at its 118 °C or 150 °C step (R436). -/
def groupMax (invalid : List Nat) (r : List (Option Int)) (row : TempRow) : Nat × Int :=
  match validOf invalid r row.sensors with
  | [] => (row.sensors.headD 0, if row.group = 0 then 11800 else 15000)
  | p :: ps => ps.foldl (fun m q => if m.2 < q.2 then q else m) p

/-- The detail word of a temperature record: sensor number, whole degrees (R435). -/
def tempDetail (n : Nat) (v : Int) : Nat := n * 256 + ofInt 8 (v / 100)

/-- The registers of the eight sensors after a sample. -/
def tempRegs (invalid : List Nat) (r : List (Option Int)) (s : State) : State :=
  (List.range 8).foldl (fun s n =>
    let t := match r.getD n none with
      | some v => s.put (Reg.SUP_TEMP_TEMP n) (ofInt 16 v)
      | none => s
    t.setBit (Reg.SUP_TEMP_VALID n) (!invalid.contains n)) s

/-- What taking a step does (R435). -/
def stepTaken (code group : Nat) (s : State) : State :=
  if code = 0x1101 then setCap code 1 s
  else if code = 0x1103 then airDrop .shed ((List.range 64).foldl (fun s n => sessionEnd n 4 s) s)
  else if code = 0x1105 then bankDrop (group - 1) s
  else if code = 0x1106 then setCap code 0 (bankDrop 1 (bankDrop 0 s))
  else if code = 0x1104 ∨ code = 0x1107 then tagUnpowered (domainsDrop (tagAbandon { s with hh := { s.hh with haltGroup := some group } }))
  else s

/-- One row after a sample: taken at its threshold, undone when the reading has stayed 10 °C below for 1 s; P2 is shed as well where
the reading still stands at 118 °C after 1 s. -/
def stepRow (invalid : List Nat) (r : List (Option Int)) (s : State) (row : TempRow) : State :=
  let m := groupMax invalid r row
  match s.hh.steps.find? (fun x => x.code == row.code && x.group == row.group) with
  | none =>
    if m.2 < row.limit then s
    else
      let t := { s with hh := { s.hh with steps := ⟨row.code, row.group, s.now, none⟩ :: s.hh.steps } }
      stepTaken row.code row.group (shedBits (raise row.code (tempDetail m.1 m.2) t))
  | some x =>
    let rest := s.hh.steps.filter (fun y => y != x)
    if row.limit - 1000 < m.2 then
      let t := { s with hh := { s.hh with steps := { x with below := none } :: rest } }
      if row.code = 0x1102 ∧ 11800 ≤ m.2 ∧ s.after x.takenAt 1000000 then t.setBit Reg.SUP_HH_STAT_SHEDP2 true else t
    else
      let since := x.below.getD s.now
      if s.after since 1000000 then
        let t := shedBits { s with hh := { s.hh with steps := rest } }
        listenKick (if row.code = 0x1101 ∨ row.code = 0x1106 then dropCap row.code t else t)
      else { s with hh := { s.hh with steps := { x with below := some since } :: rest } }

/-- Under a temperature HALT: once every sensor of the group reads its release temperature, a restart ends it (R435). -/
def haltRelease (g : Nat) (invalid : List Nat) (r : List (Option Int)) (s : State) : State :=
  let sensors := if g = 0 then [0, 1, 2, 3] else [4, 5, 6, 7]
  let ok := validOf invalid r sensors
  if ok ≠ [] ∧ ok.all (fun p => decide (p.2 ≤ (if g = 0 then 11000 else 13500))) ∧ s.hh.restart.isNone then
    { s with hh := { s.hh with restart := some (if g = 0 then 0x1104 else 0x1107, s.now) } }
  else s

/-- TEMP_SAMPLE (R433, R435, R436): every 1 ms in ON, DOZE and STANDBY; readings in 0.01 °C, none where the recomputation was
exhausted. -/
def execTempSample (readings : List (Option Int)) (s : State) : Host.Outcome State Fault Refusal :=
  match s.power.state with
  | .reset | .sleep | .hibernate => .next s
  | .on | .doze | .standby =>
    if s.after s.hh.tempAt 1000 = false then .next s
    else if s.refBad then .next (recomputes .sup s)
    else
      let bad := newInvalid s.hh.invalid readings [0, 1, 2, 3] ++ newInvalid s.hh.invalid readings [4, 5, 6, 7]
      let inv := s.hh.invalid ++ bad
      let t := tempRegs inv readings <| enterSamples (readings.filterMap id) { s with hh := { s.hh with tempAt := s.now, invalid := inv } }
      let t := bad.foldl (fun s n => raise 0x1108 (tempDetail n ((readings.getD n none).getD 0)) s) t
      match s.hh.haltGroup with
      | some g => .next (haltRelease g inv readings t)
      | none => .next (tempRows.foldl (stepRow inv readings) t)

/-! ### Rails (R437) -/

/-- The fault code of a rail that the Hedgehog itself acts on or records; rails 1 to 4 and 13 report through their chapters. -/
def railCode (rail : Nat) : Option Nat :=
  [none, none, none, none, none, some 0x1205, some 0x1202, some 0x1201, some 0x1203, some 0x1204, some 0x1206, some 0x1207,
   some 0x1208, none, some 0x1209].getD rail none

/-- A monitored rail's window applies (R437). -/
def State.railOn (s : State) (rail : Nat) : Bool :=
  decide (1 ≤ rail) && decide (rail ≤ 14) && (rail == 1 || rail == 4 || rail == 5 ||
    (match s.power.state with
     | .on | .doze | .standby => true
     | .reset | .sleep | .hibernate => false))

/-- The window of a rail in mV (Table 20-3; for rails 1 to 4 and 13 that of the chapter named): no upper end for rails 4, 12 and 13. -/
def State.railWindow (s : State) (rail : Nat) : Int × Option Int :=
  let core : Int := (coreNominal (s.get Reg.PWR_PL_CUR) : Int) + toInt 8 (s.get Reg.PWR_PL_TRIM)
  match rail with
  | 1 => (4500, some 36000)
  | 2 => (3100, some 3500)
  | 3 => (8000, some 40000)
  | 4 => (2200, none)
  | 5 => (1100, some 1300)
  | 6 | 10 => (1700, some 1900)
  | 7 => (core - 60, some (core + 60))
  | 8 | 9 => (940, some 1060)
  | 11 => (4500, some 5500)
  | 12 => ((s.powAon.vbat : Int) + 3500, none)
  | 13 => (2700, none)
  | _ => (1188, some 1212)

/-- A rail's nominal value in mV, which the reading of a record is given in 1 % of (log 110). -/
def State.railNominal (s : State) (rail : Nat) : Nat :=
  match rail with
  | 5 => 1200
  | 6 | 10 => 1800
  | 7 => coreNominal (s.get Reg.PWR_PL_CUR)
  | 8 | 9 => 1000
  | 11 => 5000
  | 12 => s.powAon.vbat + 3500
  | _ => 1200

/-- The filter time of a rail in µs. -/
def railFilter (rail : Nat) : Nat :=
  match rail with
  | 5 | 14 => 100
  | 6 | 7 | 8 | 9 | 10 => 10
  | 11 | 12 => 50
  | _ => 0

/-- A reading lies in a rail's window. -/
def State.railIn (s : State) (rail mv : Nat) : Bool :=
  let w := s.railWindow rail
  decide (w.1 ≤ (mv : Int)) && w.2.all (fun top => decide ((mv : Int) ≤ top))

/-- A cap one level below the level running, or fault and restart at PL0 (R437, R438). -/
def railCore (detail : Nat) (s : State) : State :=
  let l := s.get Reg.PWR_PL_CUR
  if l = 0 then raiseAs .restart 0x1201 detail s else setCap 0x1201 (l - 1) (raiseAs .reduce 0x1201 detail s)

/-- RAIL_OUT_OF_RANGE (R437): a rail has stood at `mv` for `us`: out of range once it has been outside its window for its filter time. -/
def execRailOutOfRange (rail mv us : Nat) (s : State) : Host.Outcome State Fault Refusal :=
  if s.railOn rail = false ∨ s.bitAt Reg.SUP_VMON_V (rail - 1) ∨ s.railIn rail mv ∨ us < railFilter rail then .next s
  else
    let t := s.setBitAt Reg.SUP_VMON_V (rail - 1)
    let detail := rail * 256 + min (mv * 100 / s.railNominal rail) 255
    match railCode rail with
    | none => .next t
    | some code =>
      if code = 0x1201 then .next (railCore detail t)
      else if code = 0x1203 then .next (airDrop .shed (shedBits (raise code detail t)))
      else if code = 0x1207 then
        .next (fieldStop .inhibit (lfInhibit (raise code detail (allowTrack { t with power := { t.power with gateOk := false } }))))
      else .next (raise code detail t)

/-- RAIL_BACK_IN_RANGE (R433, R437): back in its window, for 1 ms where it shed; what the excursion caused ends. -/
def execRailBackInRange (rail mv us : Nat) (s : State) : Host.Outcome State Fault Refusal :=
  if s.railOn rail = false ∨ s.bitAt Reg.SUP_VMON_V (rail - 1) = false ∨ s.railIn rail mv = false ∨ rail = 8 ∧ us < 1000 then .next s
  else
    let t := s.clearBitAt Reg.SUP_VMON_V (rail - 1)
    if rail = 7 then .next (dropCap 0x1201 t)
    else if rail = 8 then .next (listenKick (shedBits t))
    else if rail = 11 then .next (allowTrack { t with power := { t.power with gateOk := true } })
    else .next t

/-! ### Process monitors (R438) -/

/-- SUP_PMON from four margins in 0.5 % steps. -/
def pmonRegs (margins : List Int) (s : State) : State :=
  s.put Reg.SUP_PMON_V (((List.range 4).map (fun q => ofInt 8 (margins.getD q 0) * 256 ^ q)).sum)

/-- The margins of the monitors that are not dropped: number and value. -/
def State.monitors (s : State) (margins : List Int) : List (Nat × Int) :=
  ((List.range 4).filter (fun q => !s.hh.pmDrop.contains q)).map (fun q => (q, margins.getD q 0))

/-- A cap one level below the level running; at PL0 there is none lower. -/
def marginLow (s : State) : State :=
  let t := raise 0x1301 0 s
  setCap 0x1301 (s.get Reg.PWR_PL_CUR - 1) { t with hh := { t.hh with trialAt := some s.now } }

/-- PROCESS_MONITOR (R438): the four monitors measured the margin at the level in force, in 0.5 % steps. -/
def execProcessMonitor (margins : List Int) (s : State) : Host.Outcome State Fault Refusal :=
  if s.runs = false then .next s
  else
    let ms := s.monitors margins
    let out := ms.filter (fun p => decide (60 < (2 * p.2 - median2 ((ms.filter (fun q => q.1 != p.1)).map (·.2))).natAbs)
      && decide (ms.length = 4))
    let t := pmonRegs margins s
    let t := { t with hh := { t.hh with pmDrop := t.hh.pmDrop ++ out.map (·.1) } }
    let t := out.foldl (fun s p => raise 0x1302 p.1 s) t
    let m := median2 ((t.monitors margins).map (·.2))
    if m < 0 ∧ s.get Reg.PWR_PL_CUR = 0 then .next (raise 0x1303 0 t)
    else if m < 32 ∧ toInt 8 (s.get Reg.PWR_PL_TRIM) = 30 then .next (marginLow t)
    else .next t

/-- A trial begins: the core rail goes to the higher level's voltage, trim included, while the clock stays (R438). -/
def trialBegin (l : Nat) (s : State) : State :=
  let t := ({ s with hh := { s.hh with trial := some s.now } }.setBit Reg.PWR_PL_BUSY true)
  t.put Reg.PWR_PL_VCORE (((coreNominal l : Int) + toInt 8 (s.get Reg.PWR_PL_TRIM)) / 5).toNat

/-- A trial ends: with a median margin of 12 % or more at the higher level the cap is lifted by one level and the clock switches, otherwise
the voltage returns (R438). -/
def trialEnd (cap : Nat) (margins : List Int) (s : State) : State :=
  let t := { (pmonRegs margins s) with hh := { s.hh with trialAt := some s.now, trial := none } }
  if median2 ((s.monitors margins).map (·.2)) < 48 then
    (t.setBit Reg.PWR_PL_BUSY false).put Reg.PWR_PL_VCORE
      (((coreNominal (s.get Reg.PWR_PL_CUR) : Int) + toInt 8 (s.get Reg.PWR_PL_TRIM)) / 5).toNat
  else
    let t := if cap + 1 < 3 then setCap 0x1301 (cap + 1) t
      else dropCap 0x1301 { t with hh := { t.hh with trialAt := none } }
    let l := min t.levelFor (cap + 1)
    let v := if s.get Reg.PWR_PL_CUR < l then runLevel l t else t
    (v.setBit Reg.PWR_PL_BUSY false).put Reg.PWR_PL_VCORE
      (((coreNominal (v.get Reg.PWR_PL_CUR) : Int) + toInt 8 (s.get Reg.PWR_PL_TRIM)) / 5).toNat

/-- PL_CAP_TRIAL (R438): 60 s after a process REDUCE or the last trial the next begins; once the voltage has settled and the monitors have
measured for 100 µs, their margins end it. -/
def execPlCapTrial (margins : List Int) (s : State) : Host.Outcome State Fault Refusal :=
  match s.hh.trialAt, s.hh.caps.find? (fun c => c.1 == 0x1301) with
  | some at_, some (_, cap) =>
    if s.runs = false ∨ s.power.ramp.isSome then .next s
    else
      match s.hh.trial with
      | none => if s.after at_ 60000000 then .next (trialBegin (cap + 1) s) else .next s
      | some t => if s.after t (rampTime cap (cap + 1) + 100) then .next (trialEnd cap margins s) else .next s
  | _, _ => .next s

/-! ### Blocks (R439, R444) -/

/-- Unavailable time since an action, in ms, joins SUP_OUTAGE (R444); a satellite is never unavailable. -/
def outageEnd (s : State) : State :=
  match s.hhAon.outageFrom with
  | none => s
  | some t0 =>
    let t := { s with hhAon := { s.hhAon with outageFrom := none } }
    if s.isHead then t.count Reg.SUP_OUTAGE_V ((s.now - t0) * 1000 / 4194304) else t

/-- The work a block had in hand is lost at its reset; its settings and counters stay (log 22). -/
def blockClear (b : Block) (s : State) : State :=
  match b with
  | .lane0 => laneShut .fault s 0
  | .lane1 => laneShut .fault s 1
  | .fox => setOh 1 none (setOh 0 none (foxLane 1 (foxLane 0 s)))
  | .lfCommon => fieldStop .fault s
  | .bankA => lfEndAll (fun r => r.req.owned.any (fun c => bankOf c == 0)) .fault s
  | .bankB => lfEndAll (fun r => r.req.owned.any (fun c => bankOf c == 1)) .fault s
  | .ct => if s.lf.ct.isSome then ctOver .fault s else s
  | .den => ({ s with den := { s.den with pair := none, nonce := none, buf := [], legacy := [], wait := none, claimed := false } }).put
    Reg.VLT_STAT_OWN 7
  | .crypto => ({ s with cry := { s.cry with buf := [], symBusy := none, symHeld := [], wait := none, claimed := false } }).put
    Reg.CRY_STAT_OWN 7
  | .rmc => windowEmpty true s
  | .can => { s with can := { s.can with rx := none, tx := none } }
  | .sett => { s with sett := { s.sett with stored := [] } }
  | .session | .zones => sessionsDrop s
  | .entropy | .ledger | .memPort | .hpt | .tag | .waymarks | .fabric | .aon | .sup => s

/-- BLOCK_RESET (R439): 20 ms after the isolation the block's reset begins. -/
def execBlockReset (b : Block) (s : State) : Host.Outcome State Fault Refusal :=
  match s.hh.iso.find? (fun i => i.block == b) with
  | none => .next s
  | some i =>
    if i.isolated ∧ i.forGood = false ∧ i.resetting.isNone ∧ s.after i.at_ 20000 then
      let t := blockClear b s
      .next { t with hh := { t.hh with iso := { i with resetting := some s.now } :: t.hh.iso.filter (fun x => x.block != b) } }
    else .next s

/-- BLOCK_RESET_DONE (R439): after 1 ms the block serves again; an essential block's interval is over (R444). -/
def execBlockResetDone (b : Block) (s : State) : Host.Outcome State Fault Refusal :=
  match s.hh.iso.find? (fun i => i.block == b) with
  | none => .next s
  | some i =>
    match i.resetting with
    | none => .next s
    | some at_ =>
      if s.after at_ 1000 = false then .next s
      else
        let rest := s.hh.iso.filter (fun x => x.block != b)
        let t := { s with hh := { s.hh with iso := { i with isolated := false, resetting := none, resetAt := some s.now } :: rest } }
        let others := t.hh.iso.any (fun x => x.isolated && t.essential x.block)
        if s.essential b ∧ others = false ∧ t.hh.restart.isNone ∧ t.hh.deferred.isNone ∧ t.bit Reg.SUP_HH_STAT_HALT = false then
          .next (outageEnd t)
        else .next t

/-! ### Watchdogs and reports (R441 to R443) -/

/-- DEFERRED_RESTART (R441): 600 s have passed since the first of the three. -/
def execDeferredRestart (s : State) : Host.Outcome State Fault Refusal :=
  match s.hh.deferred with
  | none => .next s
  | some code =>
    if 3 ≤ s.recentRestarts.length then .next s
    else .next (requestRestart code { s with hh := { s.hh with deferred := none } })

/-- SESSION_WATCHDOG (R442): a P0 event unserved at the head of the session queue for 20 ms. -/
def execSessionWatchdog (s : State) : Host.Outcome State Fault Refusal :=
  match popBest (s.queue .session).items with
  | some (i, _) => if s.runs ∧ i.cls = .p0 ∧ s.after i.at_ 20000 then .next (raise 0x1401 0 s) else .next s
  | none => .next s

/-- FAULT_REPORT_WINDOW_END (R443): the 60 s of a code end with raisings since its record. -/
def execFaultReportWindowEnd (code : Nat) (s : State) : Host.Outcome State Fault Refusal :=
  match s.repOf code with
  | none => .next s
  | some r =>
    if r.since = 0 ∨ s.after r.recAt 60000000 = false then .next s
    else
      let rest := s.hh.reports.filter (fun x => x.code != code)
      let t := { s with hh := { s.hh with reports := { r with recAt := s.now, since := 0 } :: rest } }
      .next (noteDrop (faultRecord (faultAction code) code r.since r.detail t))

end Sys2Proof.Machine
end

