-- ==== Sys2Proof/Machine/Restart.lean ====
section
/-! DEFINITION. Reset sources (R58 to R60) and what each of them clears. -/

namespace Sys2Proof.Machine

/-- Registers outside the always-on region that PD_AON keeps (R407, R444, R440, R72). -/
def keptRegs : List Nat :=
  [Reg.CAN_WAKE, Reg.CAN_SWKM0, Reg.CAN_SWKM1, Reg.HPT_IEN, Reg.SUP_RSTCODE, Reg.SUP_OUTAGE, Reg.WM_REV]

/-- A register in the always-on region, or one of those. -/
def aonReg (a : Nat) : Bool := (0x10000000 ≤ a && a < 0x18000000) || keptRegs.contains a

/-- The registers after a reset that leaves PD_AON running. -/
def regsKept (old : List (Nat × Word)) : List (Nat × Word) :=
  (old.filter (fun p => aonReg p.1)).foldl (fun m p => regSet m p.1 p.2) (regsReset.filter (fun p => !aonReg p.1))

/-- The bit of PWR_RST_CAUSE of a source. -/
def causeFld : Cause → Fld
  | .aonpor => Reg.PWR_RST_CAUSE_AONPOR | .supply => Reg.PWR_RST_CAUSE_SUPPLY | .hiber => Reg.PWR_RST_CAUSE_HIBER
  | .hedge => Reg.PWR_RST_CAUSE_HEDGE | .ecurst => Reg.PWR_RST_CAUSE_ECURST | .extrst => Reg.PWR_RST_CAUSE_EXTRST
  | .debug => Reg.PWR_RST_CAUSE_DEBUG

/-- Unsealed records that a reset loses while PD_AON runs (R300). -/
def State.unsealed (s : State) : Nat := (s.queue .ingest).items.length + s.boot.earlyRecs.length

/-- Tally counters at a reset (R317, R319): the cell being programmed reads marginal. -/
def tallyCut (s : State) : State :=
  match s.rmc.op with
  | some op => if op.cellAt.isSome then s.setTally op.req.ctr { s.tally op.req.ctr with marginal := true } else s
  | none => s

/-- A Hedgehog restart stands ready: steps 2 and 3 of R440 are over. -/
def State.hedgeReady (s : State) : Option (Nat × Nat) :=
  match s.hh.restart with
  | none => none
  | some (code, at_) =>
    if (s.rmc.cur.isSome || s.rmc.op.any (fun o => o.cellAt.isSome)) && !s.after at_ 3200 then none else some (code, at_)

/-- The next diagnostic request asks for an ECU reset (R397). -/
def State.ecuAsked (s : State) : Bool :=
  (popBest (s.queue .canCmd).items).any (fun p => match p.1.work with
    | .diag m => m.take 1 == [0x11]
    | _ => false)

/-- A reset source joins those that await the start-up, with what stood ready beside it (R60). -/
def causeAdd (cause : Cause) (s : State) (p : PowerSt) : PowerSt :=
  { p with
    state := .reset, causes := s.power.causes ++ [(cause, s.now)],
    dueHedge := if s.power.state = .reset then s.power.dueHedge else s.hedgeReady.map (fun r => (r.1, s.hh.haltGroup.isNone)),
    dueEcu := if s.power.state = .reset then s.power.dueEcu else s.ecuAsked }

/-- A reset source asserted in the present tick. -/
def State.justReset (s : State) : Bool := s.power.state == .reset && s.power.causes.any (fun p => p.2 == s.now)

/-- What a restart leaves of the CAN port: the failures of SecurityAccess within the power cycle (R398, log 108: DEDUCED). -/
def canKept (cause : Cause) (c : CanSt) : CanSt :=
  match cause with
  | .supply => CanSt.init
  | .aonpor | .hiber | .hedge | .ecurst | .extrst | .debug => { CanSt.init with authFails := c.authFails, lockout := c.lockout }

/-- A reset that leaves the always-on region running (Table 3-1): every domain but PD_AON is cleared; a group being committed reads
old (R313). PD_TAG is reset by the start-up that follows (R365, R377). -/
def restartOnly (cause : Cause) (s0 : State) : State :=
  let s := tallyCut s0
  let lost := match cause with
    | .supply => 0
    | .aonpor | .hiber | .hedge | .ecurst | .extrst | .debug => s.unsealed
  let t := { State.reset with
    pending := s.pending, now := s.now, freeCtr := s.freeCtr, regs := regsKept s.regs, chron := s.chron, timers := s.timers,
    motion := s.motion, ledAon := { s.ledAon with programming := 0, resetLost := s.ledAon.resetLost + lost }, entAon := s.entAon,
    hhAon := s.hhAon, touch := s.touch, lines := s.lines, powAon := s.powAon, straps := s.straps, imgAon := s.imgAon, nand := s.nand,
    nv := s.nv, lfAon := s.lfAon, tagAon := s.tagAon, tag := s.tag,
    can := canKept cause s.can }
  let t := { t with power := causeAdd cause s t.power }
  let t := t.setBit Reg.WM_MSTAT_MOVING (s.bit Reg.WM_MSTAT_MOVING)
  let t := (timersRestart t).setBit (causeFld cause) true
  runLevel 0 (t.put Reg.PWR_DOM_ON (if s.tag.field then 0x803 else 0x003))

/-- An always-on power-on reset (R58, Table 3-1): everything in the unit; retained memory, fuses, NOR and NAND keep their contents.
Sources of the same tick are recorded beside it (R60). -/
def porReset (s0 : State) : State :=
  let s := tallyCut s0
  let t := { State.reset with pending := s.pending, now := s.now, freeCtr := s.freeCtr, straps := s.straps, nand := s.nand, nv := s.nv,
                              tag := s.tag, chron := { ChronSt.init with porAt := s.now },
                              motion := { MotionSt.init with parkedAt := s.now } }
  let same := s.power.causes.filter (fun p => s.power.state == .reset && p.2 == s.now)
  let t := { t with power := causeAdd .aonpor { s with power := { s.power with causes := same } } t.power }
  same.foldl (fun t p => t.setBit (causeFld p.1) true) t

/-- Restart after the Hedgehog's steps (R440, R441): the restart is counted unless it ends a HALT. -/
def hedgeReset (counted : Bool) (s : State) : State :=
  let t := s.count Reg.PWR_RST_CAUSE_HCNT 1
  let times := if counted then s.now :: s.recentRestarts else s.hhAon.restarts
  restartOnly .hedge { t with hhAon := { t.hhAon with restarts := times } }

/-! ### The sources -/

/-- AONPOR. -/
def execAonpor (s : State) : Host.Outcome State Fault Refusal := .next (porReset s)

/-- SUPPLY_RETURN: VBAT returns while VBKP held the always-on region. -/
def execSupplyReturn (s : State) : Host.Outcome State Fault Refusal :=
  if s.bit Reg.PWR_STAT_BKP then .next (restartOnly .supply ((s.setBit Reg.PWR_STAT_BKP false).setBit Reg.CHRON_STAT_BKP false)) else .next s

/-- EXTRST: RESET_N held low, in 1 µs. -/
def execExtrst (low : Nat) (s : State) : Host.Outcome State Fault Refusal :=
  if low < 10 then .next s else .next (restartOnly .extrst s)

/-- The life-cycle state that fuses and tally counter 2 give (R338), which VLT_LC shows from step 4 on. -/
def State.lcFused (s : State) : Nat :=
  if s.straps.ret % 4 ≠ 0 then 4
  else if s.straps.fld % 4 ≠ 0 then (if (s.tally 2).value % 2 = 1 then 3 else 2)
  else if s.straps.prv % 4 ≠ 0 then 1 else 0

/-- DEBUG_RESET (R58, R340): where the life-cycle state allows debug control. -/
def execDebugReset (s : State) : Host.Outcome State Fault Refusal :=
  if s.lcFused = 0 ∨ s.lcFused = 1 ∨ s.lcFused = 3 then .next (restartOnly .debug s) else .next s

/-- What the wake leaves in CAN_WAKE: whether it was a pattern or a frame (R407). -/
def wakeFlags (code : Nat) (s : State) : State := (s.setBit Reg.CAN_WAKE_WAKEP (code == 3)).setBit Reg.CAN_WAKE_WAKEF (code == 4)

/-- HIBERNATE_WAKE (R428): a wake event in HIBERNATE causes a full restart with cause HIBER. -/
def execHibernateWake (s : State) : Host.Outcome State Fault Refusal :=
  match s.power.state with
  | .hibernate =>
    if s.powAon.wakes = [] then .next s
    else
      let code := listMin s.powAon.wakes 15
      let t := wakeFlags code ((s.put Reg.PWR_STAT_WSRC code).put Reg.PWR_STAT_LASTST 4)
      .next (restartOnly .hiber { t with powAon := { t.powAon with wakes := [] } })
  | .reset | .on | .doze | .standby | .sleep => .next s

/-- VSYS_RESET (R421, Table 3-1): VSYS falls through its reset threshold: every domain but PD_AON is reset. VBAT is absent or failing;
the start-up waits for SUPPLY_RETURN, or for VSYS with cause SUPPLY. -/
def execVsysReset (vsys : Nat) (s : State) : Host.Outcome State Fault Refusal :=
  let t := { s with powAon := { s.powAon with vsys := vsys } }
  if vsys < 2900 then .next (restartOnly .supply t) else .next t

/-- The causing code is stored in PD_AON (R440, step 1). -/
def hedgeStore (code : Nat) (s : State) : State :=
  let t := s.put Reg.SUP_RSTCODE_V code
  { t with hhAon := { t.hhAon with pendingCode := some code } }

/-- HEDGEHOG_RESTART (R440): once no retained-memory program is in progress, after 3.2 ms in any case: the code stored, the open sector
flushed, reset with cause HEDGE. One that stood ready when another source reset the unit in this tick is recorded beside it (R60). -/
def execHedgehogRestart (s : State) : Host.Outcome State Fault Refusal :=
  match s.hedgeReady with
  | some (code, _) =>
    .next (hedgeReset s.hh.haltGroup.isNone (sectorProgram (hedgeStore code { s with hh := { s.hh with restart := none } })))
  | none =>
    match s.power.dueHedge, s.justReset with
    | some (code, counted), true =>
      .next (hedgeReset counted (hedgeStore code { s with power := { s.power with dueHedge := none } }))
    | _, _ => .next s

/-- HEARTBEAT_WATCHDOG (R442): no Hedgehog heartbeat for 50 ms: the unit restarts with cause HEDGE, bypassing R440 and R441. -/
def execHeartbeatWatchdog (s : State) : Host.Outcome State Fault Refusal :=
  if s.domOn .sup then
    let t := s.put Reg.SUP_RSTCODE_V 0x1403
    .next (hedgeReset false { t with hhAon := { t.hhAon with pendingCode := some 0x1403,
                                                             outageFrom := some (t.hhAon.outageFrom.getD t.now) } })
  else .next s

end Sys2Proof.Machine
end

