-- ==== Sys2Proof/Machine/Power.lean ====
section
/-! DEFINITION. Supplies, domains and the shallow power states (R419 to R428). -/

namespace Sys2Proof.Machine

/-- VBAT_FAIL (R299, R314, R420, R471): drive, lanes and sessions are given up, PL0 is asked for, the ledger's open sector is flushed
and the retained-memory program stops; in SLEEP and HIBERNATE nothing needs flushing (R430). Before a START_UP only the
comparator changes. It asserts once VBAT has been below 4.5 V for 2 µs (`us`). -/
def execVbatFail (vbat us : Nat) (s : State) : Host.Outcome State Fault Refusal :=
  let t := setVbat vbat s
  if 4500 ≤ vbat ∨ us < 2 ∨ s.powAon.failing then .next t
  else
    let t := { t with powAon := { t.powAon with failing := true } }
    let t := ((t.count Reg.PWR_EVT_NFAIL 1).setBit Reg.PWR_EVT_VBATF true)
    match s.power.state with
    | .reset => .next t
    | .sleep | .hibernate => .next (t.setBit Reg.PWR_STAT_VBATF true)
    | .on | .doze | .standby =>
      let t := (awake t).setBit Reg.PWR_STAT_VBATF true
      let t := airDrop .shed (fieldDrop .inhibit (sessionsDrop t))
      let t := bankOff 1 (bankOff 0 t)
      .next (storeFail (tagAbandon (ledgerFail (relevel t))))

/-- VBAT_OVERVOLTAGE (R419, R100): above 36 V drive is inhibited with fault 0x0401, once for each excursion; above 40 V for more
than 400 ms, or above 58 V, the stress is outside the ratings. `above40` is how long VBAT has been above 40 V, in ms. -/
def execVbatOvervoltage (vbat above40 : Nat) (s : State) : Host.Outcome State Fault Refusal :=
  if 58000 < vbat ∨ 40000 < vbat ∧ 400 < above40 then .fault .beyondRatings
  else
    let t := setVbat vbat s
    if 36000 < vbat ∧ s.bit Reg.PWR_STAT_OVR = false then
      .next (fieldStop .inhibit (lfInhibit ((raise 0x0401 vbat t).setBit Reg.PWR_EVT_OV true)))
    else .next t

/-- VSYS at or below its reset threshold resets every domain except PD_AON (R421); the reset source SUPPLY asserts when VBAT returns
(Table 3-1). -/
def vsysReset (s : State) : State :=
  let t := restartOnly .supply s
  let old := if s.power.state == PowState.reset then s.power.causes else []
  let t := { t with power := { t.power with causes := old } }
  t.setBit (causeFld .supply) (s.bit (causeFld .supply))

/-- VSYS_OUT_OF_RANGE (R421): outside 3.10 V to 3.50 V for `us`, the buck at its limit for `limitUs`: fault 0x0404 from 100 µs and from 1 ms
on, with VBAT in range. At 2.90 V, the typical threshold (log 109), the unit resets. -/
def execVsysOutOfRange (vsys us limitUs : Nat) (s : State) : Host.Outcome State Fault Refusal :=
  let t := { s with powAon := { s.powAon with vsys := vsys } }
  if vsys ≤ 2900 then .next (vsysReset t)
  else if ((vsys < 3100 ∨ 3500 < vsys) ∧ 100 ≤ us ∨ 1000 ≤ limitUs) ∧ s.powAon.failing = false ∧ s.bit Reg.PWR_STAT_OVR = false then
    .next ((raise 0x0404 vsys t).setBit Reg.PWR_EVT_BUCK true)
  else .next t

/-- VBKP_SAMPLE (R422): every 60 s while VSYS is present; fault 0x0403 once for each run of low readings. -/
def execVbkpSample (vbkp : Nat) (s : State) : Host.Outcome State Fault Refusal :=
  if s.bit Reg.PWR_STAT_BKP ∨ s.after s.powAon.vbkpAt 60000000 = false then .next s
  else if s.refBad then .next (recomputes .aon s)
  else
    let t := enterSamples [(vbkp : Int)] { s with powAon := { s.powAon with vbkpAt := s.now } }
    let t := (t.put Reg.PWR_STAT_VBKP (min (vbkp / 20) 255)).setBit Reg.PWR_STAT_VBKPLO (decide (vbkp < 2200))
    if vbkp < 2200 ∧ s.powAon.vbkpArmed then
      .next ((raise 0x0403 vbkp { t with powAon := { t.powAon with vbkpArmed := false } }).setBit Reg.PWR_EVT_VBKPLO true)
    else if 2300 ≤ vbkp then .next { t with powAon := { t.powAon with vbkpArmed := true } }
    else .next t

/-- What ran or waited in a domain that failed to power: the request that needed it ends (R423). -/
def domainLost (d : Dom) (s : State) : State :=
  match d with
  | .lfa => bankRefuse 0 .fault (bankStop 0 .fault s)
  | .lfb => bankRefuse 1 .fault (bankStop 1 .fault s)
  | .ar0 => laneShut .fault s 0
  | .ar1 => laneShut .fault s 1
  | .fox => airDrop .fault s
  | .aon | .sup | .seq | .vlt | .ldg | .lnk | .tag => s

/-- The power-on time of a domain in µs (Table 19-3). -/
def Dom.onTime (d : Dom) : Nat :=
  match d with
  | .lfa | .lfb => 70
  | .ar0 | .ar1 => 60
  | .aon | .sup | .seq | .fox | .vlt | .ldg | .lnk | .tag => 20

/-- DOMAIN_POWER_FAIL (R423): a domain not at its supply `us` after it was switched on, twice its power-on time or more, is switched off;
the request that needed it ends with OFF; fault 0x0405. -/
def execDomainPowerFail (d : Dom) (us : Nat) (s : State) : Host.Outcome State Fault Refusal :=
  if d = .aon ∨ s.domOn d = false ∨ us < 2 * d.onTime then .next s
  else
    let t := boostCheck ((domainLost d s).setDom d false)
    let t := { t with outs := { t.outs with fabric := some (.off, []) } }
    .next (raise 0x0405 d.bit (t.setBitAt Reg.PWR_DOM_FAIL d.bit))

/-! ### DOZE and STANDBY -/

/-- No fabric request is pending and no block is active (R428): no queue holds a request, and no engine has work in progress. A
lane that only searches for notices does not count (log 20). -/
def State.idle (s : State) : Bool :=
  s.queues.all (fun q => q.items.isEmpty) && s.ses.ss.isEmpty && s.ses.runs.isEmpty && s.lf.runs.isEmpty && s.lf.ct.isNone &&
    s.rmc.cur.isNone && s.rmc.op.isNone && s.ledAon.programming == 0 && s.led.ckpt.isNone && s.cry.symBusy.isNone &&
    s.hh.restart.isNone && s.power.ramp.isNone &&
    (s.air.lanes.all (fun l => l.held.isNone && l.txEnd.isNone && l.pend.isNone && l.settle.isNone))

/-- DOZE_ENTRY (R428): 50 µs with nothing pending; a wake event meanwhile stops the entry (R430). -/
def execDozeEntry (s : State) : Host.Outcome State Fault Refusal :=
  match s.power.state with
  | .on => if s.idle ∧ s.after s.power.activeAt 50 ∧ s.powAon.wakes = [] then
      .next { s with power := { s.power with state := .doze } } else .next s
  | .reset | .doze | .standby | .sleep | .hibernate => .next s

/-- Ticks in 1 ms, rounded up. -/
def msTicks : Nat := 4195

/-- A compare of TIM0 to TIM3 falls due within 1 ms (R428). -/
def State.timerDue (s : State) : Bool :=
  (List.range 4).any (fun n =>
    let far := fun (c : Nat) => ((c + 4294967296 - s.get (Reg.TIM_CNT_V n)) % 4294967296) * 2 ^ s.get (Reg.TIM_CTL_PRE n)
    s.bit (Reg.TIM_CTL_RUN n) && (decide (far (s.get (Reg.TIM_CMP0_V n)) ≤ msTicks) ||
      decide (far (s.get (Reg.TIM_CMP1_V n)) ≤ msTicks)))

/-- A scheduled frame of this unit falls due within 1 ms (R109, R428). -/
def State.pollDue (s : State) : Bool :=
  ((s.img.run.map (·.polls)).getD []).zipIdx.any (fun p =>
    p.1.profile == s.profile && p.1.unit == s.unitNum && !s.lf.bad.contains p.2 &&
      (match s.lastSlot p.2 with
       | some t => s.after t (p.1.period * 1000 - 1000)
       | none => true))

/-- A waymark evaluation falls due within 1 ms (R280). -/
def State.wmDue (s : State) : Bool := decide (2 ≤ s.profile) && decide (s.profile ≤ 4) && (s.wm.fresh || s.after s.wm.evalAt 9000)

/-- A lane operation of the notice search falls due within 1 ms (R242, R428). -/
def State.searchDue (s : State) : Bool := s.profile == 1 && (s.isHead || s.isActing) && s.after s.ses.searchAt 496716

/-- STANDBY_ENTRY (R428): in DOZE, with no timed event due within 1 ms. -/
def execStandbyEntry (s : State) : Host.Outcome State Fault Refusal :=
  match s.power.state with
  | .doze => if s.timerDue ∨ s.pollDue ∨ s.wmDue ∨ s.searchDue ∨ s.powAon.wakes ≠ [] then .next s
      else .next { s with power := { s.power with state := .standby } }
  | .reset | .on | .standby | .sleep | .hibernate => .next s

end Sys2Proof.Machine
end

