-- ==== Sys2Proof/Machine/ImageLoad.lean ====
section
/-! DEFINITION. Loading an image into the blocks (R42), selecting one (R52), confirming one (R54). -/

namespace Sys2Proof.Machine

/-! ### Image load -/

/-- A channel takes its values from UNITS and COILS (R101, R103); a disabled one needs one pass of the retest (R124). -/
def loadChannel (i : Image) (unit : Nat) (s : State) (n : Nat) : State :=
  let fit := i.units.any (fun u => u.unit == unit && u.coils / 2 ^ n % 2 == 1)
  let t := { s with lf := { s.lf with chs := s.lf.chs.modify n (fun c => { c with passes := if s.disabled n then 1 else 0 }) } }
  let t := (t.setBit (Reg.LF_CH_CFG_FIT n) fit).setBit (Reg.LF_CH_CFG_EN n) (fit && !s.disabled n)
  match i.coils.find? (fun c => c.unit == unit && c.channel == n) with
  | none => t
  | some c =>
    let t := (t.put (Reg.LF_CH_CFG_ROLE n) c.role).put (Reg.LF_CH_CFG_ITGT n) c.current
    let t := t.put (Reg.LF_CH_CFG_FDRV n) (driveFreq c.res)
    if detuned c.res then raise 0x2105 n (t.setBit (Reg.LF_CH_STAT_DETUNE n) true) else t

/-- A lane takes its aerials and power codes, and ramp mode where the image asks for it (R153, R158). -/
def loadLane (i : Image) (unit : Nat) (s : State) (n : Nat) : State :=
  let mask := ((i.units.find? (fun u => u.unit == unit)).map (·.aerials)).getD 0
  let p := fun k => i.rf.power.getD k 0
  let t := (s.put (Reg.AIR_LN_CFG_AMASK n) (mask / 4 ^ n % 4)).put (Reg.AIR_LN_PWR13_V n) (p 0)
  let t := ((t.put (Reg.AIR_LN_CFG_PWR14 n) (p 1)).put (Reg.AIR_LN_CFG_PWR15 n) (p 2)).put (Reg.AIR_LN_CFG_PWR16 n) (p 3)
  t.setBit (Reg.AIR_LN_STAT_RAMP n) (i.rf.shaping == 1 || (t.lane n).coefBad)

/-- The waymark entries whose ID repeats no earlier one's (R279). -/
def uniqueMarks : List Nat → List WaymarkE → List WaymarkE
  | _, [] => []
  | seen, e :: l => if seen.contains e.waymark then uniqueMarks seen l else e :: uniqueMarks (e.waymark :: seen) l

/-- A POLLS entry that cannot be sent (R118, R470). -/
def pollBad (p : PollE) : Bool :=
  decide (2 < p.command) || (p.vector == 0 && p.mask == 0) || !(decide (p.profile ≤ 4) || triggerCode p.profile)

/-- The POLLS entries that are skipped: those that cannot be sent, and those that stand before their code's first WAKE entry (R232). -/
def pollsBad (i : Image) : List Nat :=
  (i.polls.zipIdx.filter (fun p => pollBad p.1 || unbound i.polls p.2 p.1)).map (·.2)

/-- The faults of an image load, each once: an unusable POLLS entry, a zone of a reserved kind, a repeated waymark (R118, R237, R279). -/
def loadFaults (i : Image) (s : State) : State :=
  let t := if pollsBad i = [] then s else raise 0x2106 0 s
  let t := if i.zones.any (fun z => decide (z.kind = 0 ∨ 4 < z.kind)) then raise 0x7102 0 t else t
  if (uniqueMarks [] i.waymarks).length < i.waymarks.length then raise 0x7201 0 t else t

/-- The settings that PD_AON copies at image load (R254, R274, R278, R356, R387, R388, R409). -/
def loadAon (i : Image) (unit : Nat) (s : State) : State :=
  let can := fun code => (i.canids.entries.find? (fun e => e.message == code)).map (·.ident)
  bindInputs i unit { s with
    chron := { s.chron with crystal := i.crystal.find? (fun c => c.unit == unit) },
    motion := { s.motion with cfg := some i.motion, tstop := i.profiles.tStop, vroad := i.profiles.vRoad,
                              counting := s.motion.counting || !s.isHead },
    entAon := { s.entAon with selfRestart := i.system.selfRestart % 2 == 1 },
    powAon := { s.powAon with swId := can 0x11, wakeN := i.system.wakeN, wakeWindow := i.system.wakeWindow } }

/-- The tables of an image come into use on this unit. -/
def imageLoad (i : Image) (unit : Nat) (s : State) : State :=
  let s := { s with
    img := { s.img with run := some i }, ent := { s.ent with perso := i.perso }, den := { s.den with loaded := true },
    wm := { s.wm with entries := (uniqueMarks [] i.waymarks).map (fun e => ⟨e, 0, true, false, false⟩) },
    lf := { s.lf with bad := pollsBad i } }
  let t := (List.range 16).foldl (loadChannel i unit) (engineTimers i.digest (loadAon i unit s))
  let t := loadLane i unit (loadLane i unit t 0) 1
  let t := t.setBit Reg.LF_CT_STAT_LEG (i.flags % 2 == 1)
  let t := t.put Reg.LF_CT_STAT_HOLD ((t.holder.map (·.channel)).getD 0)
  holderCheck (loadFaults i (t.setBit Reg.WM_MSTAT_QUAD (i.motion.mode == 1)))

/-! ### Selection (R52, R57) -/

/-- What the selection settles: the selector, the image, whether the intended image was given up. -/
structure Chosen where
  sel : Selector
  image : Option Image
  fallback : Bool
  deriving DecidableEq, Repr

/-- A slot's rejection code. -/
def setRej (slotB : Bool) (code : Nat) (s : State) : State := s.put (rejFld slotB) code

/-- A slot verified; a rejection's code is noted, and a slot that passes keeps the code it had (R52). -/
def tryImage (env : BootEnv) (slotB : Bool) (s : State) : Option Image × State :=
  match verifySlot slotB (if slotB then env.norB else env.norA) s with
  | (.ok i, t) => (some i, t)
  | (.rejected c, t) => (none, setRej slotB c t)

/-- The first part: a pending slot begins its trial, a trial goes on or has failed; true where the previous image stays. -/
def trialStep (env : BootEnv) (hedge : Bool) (x : Selector) (s : State) : Selector × Bool × State :=
  if x.pending ≠ 0 then
    match tryImage env (x.pending == 2) s with
    | (some _, t) => (⟨x.pending - 1, 0, 1, 0⟩, false, t)
    | (none, t) => ({ x with pending := 0 }, true, t)
  else if x.trial = 1 then
    if hedge ∨ x.tries = 3 then ({ x with active := 1 - x.active, trial := 0 }, true, setRej (x.active == 1) 0x0E s)
    else ({ x with tries := x.tries + 1 }, false, s)
  else (x, false, s)

/-- The second part: the active slot, else the other. -/
def chooseImage (env : BootEnv) (hedge : Bool) (s : State) : Chosen × State :=
  match trialStep env hedge s.selector s with
  | (x, fb, t) =>
    match tryImage env (x.active == 1) t with
    | (some i, t) => (⟨x, some i, fb⟩, t)
    | (none, t) =>
      match tryImage env (x.active == 0) t with
      | (some i, t) => (⟨{ x with active := 1 - x.active, trial := 0 }, some i, true⟩, t)
      | (none, t) => (⟨x, none, fb⟩, t)

/-- MEM_IMG_STAT, MEM_IMG_VER and MEM_IMG_ARB. -/
def imageRegs (c : Chosen) (s : State) : State :=
  let t := (s.setBit Reg.MEM_IMG_STAT_FALLBACK c.fallback).setBit Reg.MEM_IMG_STAT_TRIAL (c.image.isSome && c.sel.trial == 1)
  let t := (t.put Reg.MEM_IMG_STAT_PENDING c.sel.pending).setBit Reg.MEM_IMG_STAT_ACTIVE (c.sel.active == 1)
  match c.image with
  | some i => ((t.setBit Reg.MEM_IMG_STAT_VALID true).put Reg.MEM_IMG_VER_V i.version).put Reg.MEM_IMG_ARB_V i.arb
  | none => t

/-- The IMAGE record (Table 12-3). -/
def imageRecord (s : State) : State :=
  let bit := fun f => be 1 (if s.bit f then 1 else 0)
  logRec 0x40 (be 1 (s.get Reg.MEM_IMG_STAT_REJA) ++ be 1 (s.get Reg.MEM_IMG_STAT_REJB) ++ bit Reg.MEM_IMG_STAT_ACTIVE ++
    bit Reg.MEM_IMG_STAT_TRIAL ++ bit Reg.MEM_IMG_STAT_FALLBACK ++ zeros 3 ++ be 4 (s.get Reg.MEM_IMG_VER_V) ++
    be 4 (s.get Reg.MEM_IMG_ARB_V)) s

/-- Selection at a start-up: the selector is committed where it changed, a record written off the ordinary path; without an image fault
0x5101 (R53). -/
def imageSelect (env : BootEnv) (hedge : Bool) (s : State) : State :=
  match chooseImage env hedge s with
  | (c, t) =>
    let plain := decide (c.sel = s.selector) && c.image.isSome && !c.fallback
    let t := if c.sel = s.selector then t else putPage c.sel.write t
    let t := imageRegs c { t with boot := { t.boot with ordinary := plain } }
    let t := if plain then t else imageRecord t
    match c.image with
    | some i => imageLoad i 1 t
    | none => raise 0x5101 0 t

/-! ### Confirmation (R54) -/

/-- Step 3: the satellites raise their counters too. A unit that has yielded since confirms nothing (R83). -/
def confirmTell (s : State) : State :=
  if s.isHead = false then s else
  imageRecord (settSend 0x0C true 1 .p1 (be 4 ((s.img.run.map (·.arb)).getD 0)) { s with img := { s.img with confirming := false } })

/-- Confirmation is broken off: its next occasion begins it again. -/
def confirmStop (s : State) : State := { s with img := { s.img with confirming := false } }

/-- Step 1: TRIAL := 0 is committed; false where the commit queue refuses. -/
def confirmBegin (tester : Bool) (s : State) : Bool × State :=
  match submitGroup (if tester then .p3 else .p1) ⟨[{ s.selector with trial := 0 }.write], .confirmTrial tester⟩ s with
  | (.taken, t) => (true, { t with img := { t.img with confirming := true } })
  | (_, t) => (false, t)

/-- Step 2: counter 0 is raised to the image's ARB; where the commit queue refuses, the next occasion begins again. -/
def confirmRaise (tester : Bool) (s : State) : Bool × State :=
  if s.isHead = false then (false, confirmStop s) else
  match submitTally (if tester then .p3 else .p1) ⟨0, some ((s.img.run.map (·.arb)).getD 0), .confirmArb tester⟩ s with
  | (.taken, u) => (true, u.setBit Reg.MEM_IMG_STAT_TRIAL false)
  | (_, u) => (false, confirmStop u)

/-- TRIAL_CONFIRM_TIMEOUT (R54): the trial image has run t_confirm seconds from profile entry. -/
def execTrialConfirmTimeout (s : State) : Host.Outcome State Fault Refusal :=
  match s.img.run, s.boot.profileAt with
  | some i, some at_ =>
    if s.isHead ∧ s.bit Reg.MEM_IMG_STAT_TRIAL ∧ s.img.confirming = false ∧ s.after at_ (i.profiles.tConfirm * 1000000) then
      .next (confirmBegin false s).2
    else .next s
  | _, _ => .next s

end Sys2Proof.Machine
end

