-- ==== Sys2Proof/Machine/Ledger.lean ====
section
/-! DEFINITION. Commands of the ledger engine (12). -/

namespace Sys2Proof.Machine

/-! ### Satellites (R286) -/

/-- A satellite that reaches a head again sends what it held, in order, and a LOSS record with its drops. -/
def satFlush (s : State) : State :=
  if s.isHead ∨ s.isActing ∨ s.reachesHead = false ∨ (s.led.satHeld = [] ∧ s.led.satDrops = 0) then s
  else
    let n := s.led.satDrops
    let held := s.led.satHeld
    let t := { s with led := { s.led with satHeld := [], satDrops := 0 } }
    let t := held.foldl (fun s (r : Rec) => settSend 0x12 false 1 .p2 r.tail s) t
    if n = 0 then t else settSend 0x12 false 1 .p2 (lossRec n t.unitNum t).tail t

/-- LEDGER_INGEST (R286, R291, R294, R472): a record, if one arrives, joins the queue; the next one is sealed. -/
def execLedgerIngest (arrival : Option (Cls × Rec)) (s : State) : Host.Outcome State Fault Refusal :=
  let t := match arrival with
    | some a => ledgerPutAs a.1 a.2 s
    | none => s
  if t.isHead then .next (sealNext (lossCheck t)) else .next (satFlush t)

/-- The message a checkpoint signs (R293). -/
def ckptMessage (s : State) (num secs : Nat) : Bytes :=
  ascii "LDGC" ++ be 4 ((s.img.run.map (·.vehicle)).getD 0) ++ be 8 s.straps.serial ++ be 4 num ++ be 4 secs ++
    sha256 s.led.span.reverse.flatten

/-- The pair is sealed; a day checkpoint brings the summary up to date. -/
def sealPair (key : Bytes) (num : Nat) (sig : Bytes) (s : State) : State :=
  let day := s.led.dayDue
  let stamp := fun (typ : Nat) (body : Bytes) =>
    let r := s.mkRec typ body
    { r with flags := r.flags + (if day then 8 else 0) }
  let t := sealRec key (stamp 3 (sig.drop 32)) (sealRec key (stamp 2 (sig.take 32)) s)
  let t := { t with led := { t.led with ckpt := none, dayDue := false, span := t.led.span.take 1 } }.put Reg.LDG_CKPT_V num
  if day then summaryRewrite t else t

/-- CHECKPOINT_SEAL (R293): once its signature is computed, the pair is sealed; one that cannot be made is abandoned (R355). -/
def execCheckpointSeal (s : State) : Host.Outcome State Fault Refusal :=
  match s.led.ckpt with
  | none => .next s
  | some num =>
    match s.slotKey 3, s.slotKey 5 with
    | some d, some key =>
      match signWith (beNat d) (sha256 (ckptMessage s num s.secs)) s with
      | (.bytes sig, t) => .next (sealPair key num sig t)
      | (.wait, t) => .next t
      | (.fail, t) => .next { t with led := { t.led with ckpt := none } }
    | _, _ => .next (ledgerHalt { s with led := { s.led with ckpt := none } })

/-- SECTOR_AGE_FLUSH (R295): 120 s after the open sector's first record. -/
def execSectorAgeFlush (s : State) : Host.Outcome State Fault Refusal :=
  if s.ledAon.sector ≠ [] ∧ s.after s.ledAon.sectorAt 120000000 then .next (sectorProgram s) else .next s

/-- NAND_PROGRAM_DONE (R295, R296): the program under way ends, well or not. -/
def execNandProgramDone (ok : Bool) (s : State) : Host.Outcome State Fault Refusal :=
  match s.ledAon.programming with
  | 0 => .next s
  | p + 1 => if ok then .next (sectorWritten p s) else .next (programFailed p s)

/-- NAND_NO_ANSWER (R296): a device that stops answering is taken out of service. -/
def execNandNoAnswer (d : Nat) (s : State) : Host.Outcome State Fault Refusal :=
  if s.served d then
    let t := deviceOut d 0x5201 s
    .next (if s.ledAon.programming = d + 1 then sectorNext d t else t)
  else .next s

/-! ### Opening (R289, R300) -/

/-- The first NUM without a record, from `n` on. -/
def walkEnd (find : Nat → Option Bytes) : Nat → Nat → Nat
  | 0, n => n
  | f + 1, n =>
    match find n with
    | some _ => walkEnd find f (n + 1)
    | none => n

/-- The first NUM of a span whose MAC does not chain, or its end. -/
def walkMac (key : Bytes) (find : Nat → Option Bytes) : Nat → Nat → Bytes → Nat
  | 0, n, _ => n
  | f + 1, n, prev =>
    match find n with
    | some b => if chainMac key prev b = recMac b then walkMac key find f (n + 1) (recMac b) else n
    | none => n

/-- The NUM of the last CKPT_S below an end. -/
def lastCkptS (recs : List Bytes) (top : Nat) : Option Nat :=
  (recs.filter (fun b => recType b == 3 && decide (recNum b < top))).foldl
    (fun m b => some (max (m.getD 0) (recNum b))) none

/-- A sector without the records from an end on (R300, step 3). -/
def cutSector (top : Nat) (x : Sector) : Sector := { x with recs := x.recs.filter (fun b => recNum b < top) }

/-- What opening finds: the end, whether the MAC chain broke there. -/
def State.ledgerEnd (s : State) (key : Bytes) : Nat × Bool :=
  let recs := s.devsIn.flatMap NandDev.records ++ s.ledAon.sector
  let find := fun n => (s.findRec n).map (·.1)
  let first := s.firstNum
  let stop := walkEnd find (recs.length + 1) (if recs = [] then 0 else first)
  let from_ := match lastCkptS recs stop with
    | some c => (c + 1, ((find c).map recMac).getD [])
    | none => if first = 0 then (0, zeros 16) else (first + 1, ((find first).map recMac).getD [])
  let good := walkMac key find (stop - from_.1) from_.1 from_.2
  (if good < stop then good else stop, decide (good < stop))

/-- Records from `n` below `top`, newest first. -/
def State.recsFrom (s : State) (n top : Nat) : List Bytes :=
  ((List.range (top - n)).filterMap (fun i => (s.findRec (n + i)).map (·.1))).reverse

/-- POWER_GAP (R300): after a start-up whose own cause is AONPOR or SUPPLY. -/
def powerGap (last : Nat) (s : State) : State :=
  if 1 < s.get Reg.PWR_BOOT_STAT_CAUSE then s
  else
    let body := be 4 last ++ be 1 (s.rd Reg.PWR_RST_CAUSE).toNat ++ be 1 (if s.ledAon.flushOk then 1 else 0) ++
      be 2 (min 0xFFFF s.ledAon.failLost) ++ be 6 s.motion.pulses ++ be 1 (min 255 s.led.aborted)
    logRec 0x04 body { s with ledAon := { s.ledAon with failLost := 0, flushOk := false } }

/-- Counting resumes on a head (R274): after AONPOR the pulse count is taken from the newest record that carries one, or 0, and the
waymarks are armed again from it (Table 3-4). -/
def resumeCount (newest : List Bytes) (s : State) : State :=
  if s.get Reg.PWR_BOOT_STAT_CAUSE = 0 then
    let t := { s with motion := { s.motion with pulses := (newest.findSome? recPulses).getD 0, counting := s.motion.cfg.isSome } }
    if t.boot.profileAt.isSome then wmArm t else t
  else { s with motion := { s.motion with counting := s.motion.cfg.isSome } }

/-- The ledger is opened on the devices in service (R300). -/
def openFound (key : Bytes) (s : State) : State :=
  let e := s.ledgerEnd key
  let top := e.1
  let recs := s.recsFrom s.firstNum top
  let from_ := (lastCkptS recs top).getD s.firstNum
  let cut := fun (d : NandDev) => { d with sectors := d.sectors.map (cutSector top) }
  let lost := (s.devsIn.map (fun d => (d.sectors.filter (fun x => x.recs.any (fun b => decide (top ≤ recNum b)))).length)).foldl max 0
  let keep := s.ledAon.sector.filter (fun b => decide (recNum b < top) && !s.devsIn.all (fun d => (d.find (recNum b)).isSome))
  let stamped := recs.find? (fun b => fieldBe b 6 1 % 2 == 1)
  let kept := match s.ledAon.keptDay with
    | some k => some k
    | none => stamped.map (fun b => s.dayOf (recSecs b))
  let t := { s with
    nand := { s.nand with devs := s.nand.devs.map cut },
    ledAon := { s.ledAon with sector := keep, programming := 0, keptDay := kept },
    led := { s.led with mac := ((recs.head?).map recMac).getD (zeros 16), span := s.recsFrom from_ top, aborted := lost, dayDue := false } }
  let t := (((t.put Reg.LDG_NEXT_V top).put Reg.LDG_FIRST_V s.firstNum).put Reg.LDG_CKPT_V
    (((recs.find? (fun b => recType b == 2)).map recNum).getD 0)).put Reg.LDG_FILL_USED t.fillNow
  let t := (t.put Reg.LDG_FILL_BAD1 (min 255 (t.dev 0).bad.length)).put Reg.LDG_FILL_BAD2 (min 255 (t.dev 1).bad.length)
  let t := if e.2 then raise 0x5206 top t else t
  resumeCount recs (sectorProgram t)

/-- A device formatted (R288, R289). -/
def blankDev (s : State) (d : NandDev) : NandDev :=
  { d.writeCtrl ⟨0, s.straps.serial, (s.img.run.map (·.vehicle)).getD 0, d.page, d.blocks, [], [], 0⟩ with sectors := [] }

/-- The ledger is formatted, and GENESIS written as record 0 (R289). -/
def ledgerFormat (s : State) : State :=
  let devs := s.nand.devs.zipIdx.map (fun p => if s.served p.2 then blankDev s p.1 else p.1)
  let t := { s with nand := { s.nand with devs := devs },
                    ledAon := { s.ledAon with sector := [], programming := 0 },
                    led := { s.led with mac := zeros 16, span := [], ckpt := none, foreign := false, full95 := false, copying := none } }
  let t := (((t.put Reg.LDG_NEXT_V 0).put Reg.LDG_FIRST_V 0).put Reg.LDG_CKPT_V 0).wr Reg.LDG_FILL 0
  match s.slotKey 5 with
  | none => ledgerHalt t
  | some key =>
    let img := s.img.run
    sealRec key (s.mkRec 0x01 (be 8 s.straps.serial ++ be 4 ((img.map (·.vehicle)).getD 0) ++ be 4 ((img.map (·.version)).getD 0) ++
      be 4 ((img.map (·.arb)).getD 0) ++ be 1 s.lc)) t

/-- The mirrors as they stand in service. -/
def setMirrors (s : State) : State := (s.setBit Reg.LDG_STAT_MIR1 (s.served 0)).setBit Reg.LDG_STAT_MIR2 (s.served 1)

/-- A device at opening (R287): one that does not answer or does not meet the requirements, MEM_CS2 also one of another geometry, is out of
service. -/
def checkDevice (d : Nat) (s : State) : State :=
  if s.served d = false then s
  else if (s.dev d).fitted = false then deviceOut d 0x5201 s
  else if (s.dev d).meets = false then deviceOut d 0x5208 s
  else if d = 1 ∧ s.served 0 ∧ ((s.dev 0).page ≠ (s.dev 1).page ∨ (s.dev 0).blocks ≠ (s.dev 1).blocks) then deviceOut d 0x5208 s
  else s

/-- The newest SECS on record. -/
def State.newestSecs (s : State) : Nat :=
  if s.get Reg.PWR_BOOT_STAT_CAUSE = 0 then ((s.led.span.head?).map recSecs).getD 0 else s.ledAon.lastSecs

/-- Opening has ended (R300): READY; a unit that is not retired appends POWER_GAP. Records are accepted from now on where the start-up ended
with no profile; while it runs the record is held until step 10, and while VBAT_FAIL lasts until its end (R289, R299). -/
def openDone (s : State) : State :=
  let t := setMirrors (s.setBit Reg.LDG_STAT_READY true)
  if s.lc = 4 then ledgerClosed (t.setBit Reg.LDG_STAT_RONLY true)
  else powerGap s.newestSecs (if s.bit Reg.PWR_STAT_VBATF ∨ s.boot.step9 then t else ledgerAccept t)

/-- The device without a ledger beside one that holds it (R289). -/
def State.blankMirror (s : State) : Option Nat :=
  if s.served 0 ∧ s.served 1 then
    if (s.dev 0).blank then some 0 else if (s.dev 1).blank then some 1 else none
  else none

/-- LEDGER_OPEN (R289, R300): after start-up step 8 the head opens its ledger. -/
def execLedgerOpen (s : State) : Host.Outcome State Fault Refusal :=
  if s.isHead = false ∨ s.boot.started = false ∨ s.bit Reg.LDG_STAT_READY ∨ s.led.foreign then .next s
  else if s.lc = 0 then .next (ledgerClosed s)
  else
    let t := checkDevice 1 (checkDevice 0 { s with led := { s.led with served := [true, true] } })
    if t.led.served.all (!·) then .next (ledgerClosed (resumeCount [] t))
    else if t.devsIn.any (fun d => !d.blank && d.serial != t.straps.serial) then
      .next (ledgerClosed (resumeCount [] (raise 0x5208 0 { t with led := { t.led with foreign := true } })))
    else
      match t.slotKey 3, t.slotKey 5 with
      | some _, some key =>
        if t.devsIn.all (·.blank) then
          if t.lc = 4 then .next (openDone (resumeCount [] t)) else .next (openDone (resumeCount [] (ledgerFormat t)))
        else
          match t.blankMirror with
          | some d =>
            .next (openDone (openFound key { t with led := { t.led with copying := some d, served := t.led.served.set d false } }))
          | none => .next (openDone (openFound key t))
      | _, _ => .next (ledgerHalt (resumeCount [] t))

/-- MIRROR_COPY (R289): the copy onto the blank device is complete. -/
def execMirrorCopy (s : State) : Host.Outcome State Fault Refusal :=
  match s.led.copying with
  | none => .next s
  | some d =>
    let src := s.dev (1 - d)
    let own := blankDev s (s.dev d)
    let dst := { own with sectors := src.sectors }
    .next (setMirrors { setDev d dst s with led := { s.led with copying := none, served := s.led.served.set d true } })

/-- SUMMARY_HOURLY (R302): at most once an hour in ROAD. -/
def execSummaryHourly (s : State) : Host.Outcome State Fault Refusal :=
  if s.isHead ∧ s.profile = 3 ∧ s.after s.led.summaryAt 3600000000 then .next (summaryRewrite s) else .next s

end Sys2Proof.Machine
end

