-- ==== Sys2Proof/Machine/Boot.lean ====
section
/-! DEFINITION. The start-up (R61 to R72): START_UP runs the steps up to the chain's, which ends with the frames that answer it (log
30). -/

namespace Sys2Proof.Machine

/-- The last step reached, and the time to its end: what START_UP took and what has passed since, in 10 µs (R61). -/
def bootMark (step failStep : Nat) (s : State) : State :=
  let time := s.boot.timeBase + (s.now - s.boot.timeAt) * 100000 / 4194304
  ((s.put Reg.PWR_BOOT_STAT_STEP step).put Reg.PWR_BOOT_STAT_FAILSTEP failStep).put Reg.PWR_BOOT_STAT_TIME (min time 0xFFFF)

/-- The steps of START_UP end: PWR_BOOT_STAT, and the block runs. -/
def bootEnd (step failStep : Nat) (env : BootEnv) (s : State) : State :=
  bootMark step failStep { s with boot := { s.boot with started := true, timeAt := s.now, timeBase := env.time } }

/-- A start-up that ends with no profile entered discards held detections (R409). The steps that BLANK and RETIRED leave out end it at
step 4, which reads the life-cycle state (log 51). -/
def bootStop (step failStep : Nat) (env : BootEnv) (s : State) : State :=
  bootEnd step failStep env { s with touch := { s.touch with held := [] } }

/-! ### Steps 1 to 5 -/

/-- Supply good, always-on read: cause, domains, what the comparator of VBAT_FAIL holds (R60, R420). -/
def bootBegin (s : State) : State :=
  let cause := listMin (s.power.causes.map (fun p => p.1.code)) 6
  let t := { s with
    power := { s.power with state := .on, causes := [], activeAt := s.now, plAt := s.now },
    powAon := { s.powAon with inheritedFail := s.powAon.failing, wakes := [] },
    tag := { TagSt.init with field := s.tag.field, vres := s.tag.vres },
    hhAon := { s.hhAon with heartbeat := s.now }, boot := { s.boot with evalAt := s.now } }
  let t := (t.wr Reg.PWR_BOOT_STAT 0).put Reg.PWR_BOOT_STAT_CAUSE (if s.power.causes = [] then 0 else cause)
  (t.put Reg.PWR_DOM_ON 0xF07).setBit Reg.PWR_STAT_VBATF s.powAon.failing

/-- Step 3 for one tally counter (R318, R319): a marginal cell is completed, a stray one reported, a used set left over erased. -/
def tallyRecover (s : State) (c : Nat) : State :=
  let x := s.tally c
  let t := if x.marginal then s.setTally c { x with cells := x.cells + 1, marginal := false } else s
  let t := if x.old = 0 then t else { t with rmc := { t.rmc with erasing := (c, s.now) :: t.rmc.erasing } }
  if x.stray = 0 then t else raise 0x5303 0 t

/-- The role that R1 and R66 settle: head with the strap high and a NOR. A mismatch is recorded on the head, to which ENUM_ACK carries
it. -/
def roleSettle (s : State) : State :=
  if s.straps.chainRole ∧ s.straps.norPresent then
    ((s.setBit Reg.SETT_STAT_HEAD true).setBit Reg.SETT_STAT_CONV true).setBit Reg.LDG_STAT_HALT true
  else
    let t := (s.setBit Reg.PWR_BOOT_STAT_SAT true).setBit Reg.SETT_STAT_QUAR true
    let t := { t with sett := { t.sett with idleSent := true } }
    if s.straps.chainRole then noteFault .log 0x6102 { t with boot := { t.boot with roleFault := 0x6102 } }
    else if s.straps.norPresent then noteFault .log 0x6103 { t with boot := { t.boot with roleFault := 0x6103 } }
    else t

/-- The record of the Hedgehog restart that led here (R440). -/
def hedgeRecord (s : State) : State :=
  match s.hhAon.pendingCode with
  | none => s
  | some code =>
    let t := { s with hhAon := { s.hhAon with pendingCode := none, pendingCount := 0 } }
    (faultRecord .restart code (1 + s.hhAon.pendingCount) code t).2

/-- A fuse pair read at strict margin: partly blown is blown to completion (R338). -/
def fusePair (v : Nat) : Nat := if v % 4 = 0 then 0 else 3

/-- Step 4 (R65, R338): the life-cycle state from fuses and tally counter 2; a retirement cut short is finished. -/
def lifeCycle (s : State) : State :=
  let p := s.straps
  let t := { s with straps := { p with prv := fusePair p.prv, fld := fusePair p.fld, ret := fusePair p.ret } }
  let lc := s.lcFused
  let t := ((t.put Reg.VLT_LC_STATE lc).setBit Reg.VLT_LC_FRET (p.ret % 4 != 0)).setBit Reg.VLT_LC_FFLD (p.fld % 4 != 0)
  let t := t.setBit Reg.VLT_LC_FPRV (p.prv % 4 != 0)
  if lc = 4 then t.toErase.foldl (fun s n => putPage (n * 64, zeros 64) s) { t with tagAon := { t.tagAon with key := none } } else t

/-- The performance level of step 5: PL3, PL0 while VBAT_FAIL is asserted (R420, R425). -/
def bootLevel (env : BootEnv) (s : State) : State :=
  let l := s.levelFor
  setTrim l env.trim ((relevel (runLevel l s)).setBit Reg.PWR_PL_BUSY false)

/-- Steps 1 to 3, and the role. -/
def bootEarly (s : State) : State :=
  let t := (List.range 32).foldl tallyRecover (bootBegin s)
  hedgeRecord (roleSettle { t with rmc := { t.rmc with ready := true } })

/-! ### Steps 6 to 8 -/

/-- A satellite checks the image it retained (R70): one that fails is dropped, the personalisation string of one that passes is used. -/
def retainedCheck (s : State) : State :=
  match s.imgAon.retained with
  | none => s
  | some b =>
    match verifyImage b s with
    | (.ok i, t) => { t with ent := { t.ent with perso := i.perso } }
    | (.rejected _, t) => { t with imgAon := { t.imgAon with retained := none } }

/-- Step 6. -/
def bootImage (env : BootEnv) (hedge : Bool) (s : State) : State :=
  if s.lc = 0 then s else if s.isHead then imageSelect env hedge s else retainedCheck s

/-- The attestation key is written on a unit in BLANK whose slot 0 is empty (R322). -/
def attestWrite (s : State) : State :=
  if s.lc = 0 ∧ s.occupied 0 = false then
    match freeBytes 16 s with
    | (free, t) => putPage (t.slotWrite 0 (attestSlot t.attestKey free)) t
  else s

/-- The required slots of Table 14-5: slot 6 once something has been written there (log 33). -/
def State.requiredSlots (s : State) : List Nat :=
  [0, 1, 2, 4] ++ (if s.isHead then [3, 5] else []) ++ (if s.occupied 6 then [6] else [])

/-- The mask of R332. -/
def State.slotMask (s : State) : Nat :=
  (s.requiredSlots.map (fun n => if s.occupied n = false then 2 ^ n else if s.den.unusable.contains n then 2 ^ (n + 8) else 0)).sum

/-- Step 7's parity sweep and the fault for required slots (R68, R332). -/
def slotsCheck (s : State) : State :=
  let t := (List.range 7).foldl (fun s n => slotSweep n s) s
  if (t.lc = 2 ∨ t.lc = 3) ∧ t.slotMask ≠ 0 then raise 0x4103 t.slotMask { t with den := { t.den with requiredFault := true } } else t

/-- Step 8 (R69, R351, R352): bias loops, the start-up test, the second window, the DRBG. -/
def bootEntropy (env : BootEnv) (s : State) : State :=
  let runs := runsAfter [] env.test.raw
  let rails := railsAfter [] env.test.rails
  match biasAstray env.bias, windowJudge [] [] env.test, windowJudge runs rails env.second with
  | some n, _, _ => entropyFail .bias n s
  | none, some (x, n), _ => entropyFail x n s
  | none, none, some (x, n) => entropyFail x n s
  | none, none, none =>
    instantiate { s with ent := { s.ent with
      runs := runsAfter runs env.second.raw, rails := railsAfter rails env.second.rails, pool := (released env.second.raw).take 128 } }

/-! ### Steps 9 and 10 -/

/-- Counter 0 raised to a value at a start-up (R54). -/
def raiseNow (c v : Nat) (s : State) : State :=
  let x := s.tally c
  let d := v - x.value
  if d = 0 then s
  else if 256 < d then putPage (basePage c v (x.gen + 1)) (s.setTally c { x with base := v, gen := x.gen + 1, cells := 0 })
  else if x.cells + d ≤ 256 then s.setTally c { x with cells := x.cells + d }
  else putPage (basePage c (x.base + 256) (x.gen + 1)) (s.setTally c { x with base := x.base + 256, gen := x.gen + 1, cells := x.cells + d - 256 })

/-- A confirmed image whose ARB lies above the counter: step 2 of the confirmation is completed before profile entry. -/
def confirmResume (s : State) : State :=
  if s.bit Reg.MEM_IMG_STAT_TRIAL then s else raiseNow 0 ((s.img.run.map (·.arb)).getD 0) s

/-- Step 9 (R82): the head sends ENUM; a nonce and the epoch are drawn. -/
def bootEnum (s : State) : State :=
  match randBytes false 8 s with
  | (.bytes n, t) =>
    match randBytes false 8 t with
    | (.bytes e, t) =>
      let t := { t with sett := { t.sett with
        enumNonce := n, epoch := beNat e, enumAt := some s.now, acks := [], emittedAt := s.now, epochDay := s.dayOf s.secs } }
      let t := (t.put Reg.SETT_STAT_NUM 1).put Reg.SETT_MAP_V 1
      settSend0 0x01 false 2 .p1 (be 1 2 ++ be 8 s.straps.serial ++ n) t
    | (_, t) => t
  | (_, t) => t

/-- The tag engine's copies in PD_AON (R364). -/
def tagLoad (s : State) : State :=
  match randBytes false 16 s with
  | (.bytes salt, t) =>
    { t with tagAon := { t.tagAon with
        key := t.slotKey 6, salt := salt, serial := t.straps.serial, vehicle := t.vehicleId,
        fwi := (t.img.run.map (·.system.fwi)).getD 4 } }
  | (_, t) => t

/-- The bus starts (R385, R386): the address is claimed where the image asks for it. -/
def busStart (s : State) : State :=
  let t := { s with can := { s.can with ignAt := some s.now } }
  match s.img.run with
  | some i => if i.flags / 2 % 2 = 1 then (canSend 0x50 i.canids.name t).setBit Reg.CAN_STAT_CLAIM true else t
  | none => t

/-- The last-run page is committed where the image's values differ (R474). -/
def lastRunKeep (s : State) : State :=
  match s.img.run with
  | some i =>
    if s.isHead ∧ memGetN s.nv.mem 0xA420 32 ≠ lastRunBytes i then (submitGroup .p1 ⟨[(0xA420, lastRunBytes i)], .lastRun⟩ s).2 else s
  | none => s

/-- Step 10 in a profile (R61, R72): what the profile entry of any unit sets going. -/
def profileEntry (p : Nat) (s : State) : State :=
  let t := if s.powAon.inheritedFail ∨ s.isHead = false then s else ledgerAccept s
  let t := if t.isHead then fobsCheck t else t
  let t := enterProfile p (wmArm (tagLoad t))
  let t := { t with den := { t.den with rewrite := (List.range 256).filter t.occupied } }
  let t := outageEnd (lastRunKeep (busStart t))
  fireHeld (t.setBit Reg.PWR_BOOT_STAT_DONE true)

/-- Step 9 begins on a head whose entropy runs. -/
def bootHead (env : BootEnv) (s : State) : State :=
  let t := bootEnd 8 0 env (bootEnum s)
  { t with boot := { t.boot with step9 := true } }

/-- Step 9 has ended: step 10 on a head, but not in RETIRED (R61, R65). -/
def bootFinish (s0 : State) : State :=
  if s0.boot.step9 = false then s0
  else
    let s := { s0 with boot := { s0.boot with step9 := false } }
    if s.lc = 4 then bootMark 9 4 { s with touch := { s.touch with held := [] } }
    else
      let u := confirmResume s
      bootMark 10 0 (profileEntry u.profileFor u)

/-- From step 6 on. -/
def bootLate (env : BootEnv) (hedge : Bool) (s : State) : State :=
  let t := attestWrite (bootImage env hedge s)
  if env.kat = false then bootStop 6 7 env (raise 0x4201 0 t)
  else
    let t := slotsCheck t
    if t.entAon.latched then bootStop 7 8 env { t with sett := { t.sett with silent := true } }
    else
      let u := bootEntropy env t
      if u.bit Reg.ENT_STAT_FAIL then bootStop 7 8 env u
      else if u.lc = 0 then bootStop 8 4 env u
      else if u.isHead = false then bootEnd 8 (if u.lc = 4 then 4 else 0) env u
      else if u.img.run.isNone then bootStop 8 6 env u
      else bootHead env u

/-- The start-up from step 1, which samples CHAIN_ROLE (R450). Without two fuse reads that agree the life-cycle state stays unread:
VLT_LC keeps its reset value (log 51), and the HALT of 0x4101 leaves diagnostics (R65). -/
def startUp (env : BootEnv) (s0 : State) : State :=
  let s := { s0 with straps := { s0.straps with chainRole := env.chainRole, norPresent := env.nor, canWired := env.canWired } }
  let hedge := s.power.causes.any (fun p => p.1 == .hedge)
  let t := bootEarly s
  if env.fuses = false then bootStop 3 4 env ((raise 0x4101 0 (t.setDom .vlt false)).put Reg.CAN_STAT_XCVR 2)
  else bootLate env hedge ((bootLevel env (lifeCycle t)).put Reg.CAN_STAT_XCVR 2)

/-- START_UP (R61): runs after a reset; it waits while a field-path group of the tag runs in bank 1 (R377), while TEST is held high
(R449), and while VBAT is away (log 109). -/
def execStartUp (env : BootEnv) (s : State) : Host.Outcome State Fault Refusal :=
  match s.power.state with
  | .reset => .next (if s.tag.path.isSome ∨ env.testBall ∨ s.bit Reg.PWR_STAT_BKP then s else startUp env s)
  | .on | .doze | .standby | .sleep | .hibernate => .next s

end Sys2Proof.Machine
end

