-- ==== Sys2Proof/Machine/Ring.lean ====
section
/-! DEFINITION. The hibernation ring (R389 to R394): what the unit knows of it and the messages it sends. -/

namespace Sys2Proof.Machine

/-- The RING section in force. -/
def State.ringSec (s : State) : Option RingSec := s.img.run.map (·.ring)

/-- A node's member index. -/
def RingSec.index (r : RingSec) (node : Nat) : Option Nat := r.nodes.findIdx? (· == node)

/-- The unit's own member index. -/
def RingSec.self (r : RingSec) : Nat := (r.index r.own).getD 0

/-- A mask with every member's bit set. -/
def RingSec.full (r : RingSec) : Nat := 2 ^ r.nodes.length - 1

/-- The step time t_s in ms (R390). -/
def RingSec.step (r : RingSec) : Nat := max 3 (min 50 (100 / max 1 r.nodes.length))

/-- Takes part in the ring: the head, or an acting head whose CAN is wired, with an image, a bus that is not off, and no commit point passed. -/
def State.inRing (s : State) : Bool :=
  (s.isHead || s.isActing && s.straps.canWired) && s.img.run.isSome && s.domOn .lnk && !s.bit Reg.CAN_STAT_BOFF && !s.ring.silent

/-- Absent members, bit i for member i. -/
def State.ringAbs (s : State) : Nat := (s.rd Reg.RING_ABS).toNat

/-- The overruled member's index, 0xFF for none. -/
def State.overruled (s : State) : Nat := s.get Reg.RING_STAT_OVR

/-- The effective mask of a message (R389). -/
def State.effective (s : State) (m : RingMsg) : Nat := m.mask ||| s.ringAbs ||| (if m.ovr < 32 then 2 ^ m.ovr else 0)

def maskHas (mask i : Nat) : Bool := mask / 2 ^ i % 2 == 1

def withBit (mask i : Nat) (on : Bool) : Nat :=
  if maskHas mask i = on then mask else if on then mask + 2 ^ i else mask - 2 ^ i

def RingMsg.ready (m : RingMsg) : Bool := m.flags % 2 == 1
def RingMsg.sleepAck (m : RingMsg) : Bool := m.flags / 2 % 2 == 1
def RingMsg.join (m : RingMsg) : Bool := m.flags / 8 % 2 == 1

/-- R391: the head is ready to sleep; a group or cell being programmed still belongs to the commit queue. -/
def State.ringReady (s : State) : Bool :=
  decide (s.profile ≤ 1) && s.ses.ss.isEmpty && s.ses.runs.isEmpty && s.can.session == 1 && s.can.xfer.isNone &&
    (s.queue .ingest).items.isEmpty && (s.queue .commit).items.isEmpty && s.rmc.cur.isNone && s.rmc.op.isNone

/-- The member named next: the following one that is not absent, the unit itself where every other is. -/
def RingSec.next (r : RingSec) (abs : Nat) : Nat :=
  (((List.range (r.nodes.length - 1)).map (fun k => (r.self + 1 + k) % r.nodes.length)).find? (fun i => !maskHas abs i)).getD r.self

/-- A ring message as a frame carries it: classical, eight bytes, the identifier's bits 7:0 the sender's node (R384, R389). -/
def State.ringOf (s : State) (f : CanFrame) : Option RingMsg :=
  let b := f.data
  if f.ext ∧ f.fd = false ∧ f.remote = false ∧ b.length = 8 ∧ (s.canid 0x20).any (fun e => e.ident / 256 == f.id / 256) ∧
      f.id % 256 = fieldBe b 0 1 then
    some ⟨fieldBe b 0 1, fieldBe b 1 1, fieldBe b 2 1, fieldBe b 3 1, fieldBe b 4 4⟩
  else none

def RingMsg.bytes (m : RingMsg) : Bytes := be 1 m.sender ++ be 1 m.succ ++ be 1 m.flags ++ be 1 m.ovr ++ be 4 m.mask

/-! ### The sole missing member (R394) -/

/-- A sole-missing period ends; one of 60 s or more is recorded. -/
def soleEnd (s : State) : State :=
  match s.ring.soleAt, s.ringSec with
  | some at_, some r =>
    let i := s.get Reg.RING_STAT_SOLE
    let t := { s with ring := { s.ring with soleAt := none, circuits := 0 } }.put Reg.RING_STAT_SOLE 0xFF
    if s.after at_ 60000000 then
      logRec 0x42 (be 1 (r.nodes.getD i 0) ++ be 1 (if s.overruled = i then 1 else 0) ++ [0, 0] ++ be 4 s.ring.circuits ++
        be 4 ((s.now - at_) / 4194304)) (t.count Reg.RING_CNT_INSOMNIAC 1)
    else t
  | _, _ => s

/-- The overrule in force ends, and with it the period. -/
def overruleEnd (s : State) : State :=
  if s.overruled = 0xFF then s else (soleEnd s).put Reg.RING_STAT_OVR 0xFF

/-- A message shows which members are missing; the unit itself, and an overruled member's period, are left as they are (log 34). -/
def soleCheck (r : RingSec) (m : RingMsg) (s : State) : State :=
  if s.overruled ≠ 0xFF then s
  else
    match (List.range r.nodes.length).filter (fun i => !maskHas (s.effective m) i) with
    | [i] =>
      if i = r.self then soleEnd s
      else if s.ring.soleAt.isSome ∧ s.get Reg.RING_STAT_SOLE = i then s
      else
        let t := soleEnd s
        { t with ring := { t.ring with soleAt := some s.now, circuits := 0 } }.put Reg.RING_STAT_SOLE i
    | _ => soleEnd s

/-! ### Own messages -/

/-- The sleep round ends (R393). -/
def roundEnd (s : State) : State := { s with ring := { s.ring with initiator := none } }.setBit Reg.RING_STAT_ROUND false

/-- The unit's own message (R390): the mask last received with its own bit, its overruled index, the member named next. The first since
the start-up carries JOIN (log 34). One that names the unit itself gives it the next turn. -/
def ringSay (flags : Nat) (r : RingSec) (s0 : State) : State :=
  let s := if flags % 2 = 0 then overruleEnd s0 else s0
  let i := r.next s.ringAbs
  let old := match s.ring.last with
    | some m => m.mask
    | none => 0
  let m : RingMsg := ⟨r.own, r.nodes.getD i r.own, flags + (if s.ring.mine.isNone then 8 else 0), s.overruled,
    withBit (old % 2 ^ r.nodes.length) r.self (flags % 2 == 1)⟩
  let more := if s.ring.soleAt.isSome ∧ s.overruled = 0xFF then s.ring.circuits + 1 else s.ring.circuits
  let t := canSend 0x20 m.bytes s
  let t := { t with ring := { t.ring with mine := some m, mineAt := s.now, circuits := more } }
  if i = r.self then { t with ring := { t.ring with last := some m, lastAt := s.now, turnAt := some s.now, waitSucc := none } }
  else { t with ring := { t.ring with turnAt := none, waitSucc := some i } }

/-- READY 0, which ends a round. -/
def ringNotReady (flags : Nat) (r : RingSec) (s : State) : State := ringSay flags r (roundEnd s)

/-- A wake event noted during a round: a message with READY 0 and WAKE 1 goes at once, out of turn (R393). -/
def ringStirred (s : State) : State :=
  if s.ring.wake = false then s
  else
    let t := { s with ring := { s.ring with wake := false } }
    match t.ringSec with
    | some r => if t.inRing ∧ t.bit Reg.RING_STAT_ROUND then ringNotReady 4 r t else t
    | none => t

/-- Ring messages start again, with READY 0, on a wake (R395). -/
def ringRestart (s : State) : State :=
  let t := { s with ring := { RingSt.init with mine := s.ring.mine, lastAt := s.now } }
  let t := (t.setBit Reg.RING_STAT_ROUND false).wr Reg.RING_ABS 0
  match t.ringSec with
  | some r => if t.inRing then ringSay 0 r t else t
  | none => t

/-- All members are in the effective mask of the unit's own previous message, and of the last received (R392, step 1). -/
def State.allReady (s : State) (r : RingSec) : Bool :=
  match s.ring.mine, s.ring.last with
  | some a, some b => s.effective a % 2 ^ r.nodes.length == r.full && s.effective b % 2 ^ r.nodes.length == r.full
  | _, _ => false

end Sys2Proof.Machine
end

