-- ==== Sys2Proof/Machine/Wake.lean ====
section
/-! DEFINITION. SLEEP and HIBERNATE (R395, R428 to R430): entering, waking, internal wakes; the return of VBAT (R420). -/

namespace Sys2Proof.Machine

/-- Ticks in a time of µs, rounded up. -/
def usTicks (us : Nat) : Nat := (us * 4194304 + 999999) / 1000000

/-! ### The wake timer (R428) -/

/-- When the unit must leave SLEEP by itself in WELCOME: 1.6 ms before a poll slot of its own; on a head early enough that LANE0 receives
when its search window opens. -/
def State.wakeDue (s : State) : Option Nat :=
  if s.profile ≠ 1 then none
  else
    let slots := ((s.img.run.map (·.polls)).getD []).zipIdx.filterMap (fun p =>
      if p.1.profile = 1 ∧ p.1.unit = s.unitNum ∧ s.lf.bad.contains p.2 = false then
        some (match s.lastSlot p.2 with
          | some t => t + usTicks (p.1.period * 1000) - usTicks 1600
          | none => 0)
      else none)
    let all := if s.isHead ∨ s.isActing then (s.ses.searchAt + usTicks 500000 - usTicks 3884) :: slots else slots
    match all with
    | [] => none
    | t :: rest => some (rest.foldl min t)

/-- The notice search in WELCOME (R242): LANE0 for a window of 25 ms every 500 ms; a window that finds it in use is left out. -/
def noticeSearch (s : State) : State :=
  if s.profile ≠ 1 ∨ ¬ (s.isHead ∨ s.isActing) ∨ s.runs = false ∨ s.now + usTicks (s.laneDelay 0 14) < s.ses.searchAt + usTicks 500000 then s
  else
    let open_ := max s.now (s.ses.searchAt + usTicks 500000)
    let t := { s with ses := { s.ses with searchAt := open_ } }
    if s.laneServes 0 ∧ (s.lane 0).held.isNone then
      laneListenFrom 0 (open_ * 9375 - airTenths 40) (some ((open_ + usTicks 25000) * 9375)) (laneMove 0 14 (t.setLane 0 { t.lane 0 with search := true }))
    else t

/-! ### Entering SLEEP -/

/-- The entropy source and the engines beside it lose what they had in hand: PD_VLT goes off (R423). -/
def vaultOff (s : State) : State :=
  let t := blockClear .crypto (blockClear .den s)
  { t with ent := { t.ent with pool := [], drbg := none, runs := [], reseedDue := false, waiting := [], starting := 0 } }

/-- SLEEP, or HIBERNATE (R395, R428): what runs ends, the domains go off; PD_LDG stays until the open sector is flushed and the store is
idle; the wake timer is set. -/
def sleepNow (hibernate : Bool) (s : State) : State :=
  let t := vaultOff (airDrop .shed (fieldDrop .shed (sessionsDrop s)))
  let t := sectorProgram (t.put Reg.CAN_STAT_XCVR 0)
  let t := { t with
    power := { t.power with state := if hibernate then .hibernate else .sleep, internalWake := false, ramp := none },
    powAon := { t.powAon with wakes := [], wakePats := [], swErr := 0, wakeTimer := t.wakeDue },
    motion := { t.motion with wakeEdges := [] }, ring := { t.ring with silent := true } }
  let t := boostCheck (t.put Reg.PWR_DOM_ON (if t.tag.field then 0xA01 else 0x201))
  tagUnpowered ((runLevel 0 t).setBit Reg.PWR_PL_BUSY false)

/-- PD_LDG is still needed: records to seal, a sector to program, a group or cell under way. -/
def State.ldgBusy (s : State) : Bool :=
  !(s.queue .ingest).items.isEmpty || s.led.ckpt.isSome || s.ledAon.programming != 0 || s.rmc.cur.isSome || s.rmc.op.isSome ||
    !(s.queue .commit).items.isEmpty

/-- What follows the power-down: the flush of a sector sealed meanwhile, then PD_LDG off. -/
def sleepTail (s : State) : State :=
  if s.runs ∨ s.domOn .ldg = false ∨ s.powAon.wakes ≠ [] ∨ s.power.state = .reset then s
  else if s.ldgBusy then s
  else if s.ledAon.sector ≠ [] ∧ s.served 0 ∨ s.ledAon.sector ≠ [] ∧ s.served 1 then sectorProgram s
  else s.setDom .ldg false

/-- The commit point (R395): satellites are told, the sector is flushed, the head sleeps; in FRUGAL for 24 h without a session, with
selective wake off, it hibernates (R428). -/
def ringCommit (s : State) : State :=
  let deep := (match s.power.frugalSince with
    | some t => s.profile == 0 && s.after t 86400000000
    | none => false) && !s.bit Reg.CAN_WAKE_SWKEN
  let t := roundEnd (overruleEnd (soleEnd s))
  let t := if t.isHead then settSend 0x0D true 1 .p1 (be 1 (t.profile + 128 + (if deep then 64 else 0))) t else t
  sleepNow deep t

/-! ### Waking -/

/-- The bus takes part again: PD_LNK, the transceiver, the ring, the IGNITION timeout (R385, R395, R429). -/
def fullWake (s : State) : State :=
  let t := ((s.setDom .lnk true).put Reg.CAN_STAT_XCVR 2)
  let t := { t with power := { t.power with internalWake := false }, can := { t.can with ignAt := some s.now },
                    ring := { t.ring with silent := false } }
  ringRestart t

/-- A wake (Table 19-7): PD_SUP, PD_SEQ, PD_LDG, PD_VLT, PD_TAG on, the entropy start (R351), the profile's level, ON. -/
def wakeUp (code : Nat) (env : BootEnv) (s : State) : State :=
  let t := { s with
    power := { s.power with state := .on, internalWake := true, activeAt := s.now, plAt := s.now },
    powAon := { s.powAon with wakes := [], wakeTimer := none }, hhAon := { s.hhAon with heartbeat := s.now } }
  let t := ((t.put Reg.PWR_DOM_ON 0xB07).put Reg.PWR_STAT_WSRC code).put Reg.PWR_STAT_LASTST 3
  let t := bootLevel env (wakeFlags code t)
  if t.entAon.latched then t else bootEntropy env t

/-- WAKE_EVENT (R429, R430): a latched event ends SLEEP; while VBAT_FAIL is asserted the wake stops at step 3 and the event stays latched.
Of `env` the entropy samples and the trim are used. -/
def execWakeEvent (env : BootEnv) (s : State) : Host.Outcome State Fault Refusal :=
  match s.power.state with
  | .sleep =>
    if s.powAon.wakes = [] then .next s
    else if s.powAon.failing then .next (s.put Reg.PWR_DOM_ON (if s.tag.field then 0xF07 else 0x707))
    else
      let t := fullWake (wakeUp (listMin s.powAon.wakes 15) env s)
      let t := if t.isHead then settSend 0x0D true 1 .p1 (be 1 t.profile) { t with sett := { t.sett with profAt := s.now } } else t
      .next (fireHeld (evalProfile true t))
  | .reset | .on | .doze | .standby | .hibernate => .next s

/-- INTERNAL_WAKE (R428): the wake timer falls due; PD_LNK and the transceiver stay off. -/
def execInternalWake (env : BootEnv) (s : State) : Host.Outcome State Fault Refusal :=
  match s.power.state, s.powAon.wakeTimer with
  | .sleep, some t => if t ≤ s.now ∧ s.powAon.failing = false ∧ s.powAon.wakes = [] then .next (wakeUp 8 env s) else .next s
  | _, _ => .next s

/-- An internal wake goes on, at each tick: a session or an accepted notice makes it a full wake; with nothing left to handle the unit
returns to SLEEP (R428). -/
def internalTick (s : State) : State :=
  if s.power.internalWake = false ∨ s.runs = false then s
  else if s.ses.ss ≠ [] ∨ s.ses.notices.any (fun n => n.wait.isSome) then fullWake s
  else if s.idle ∧ (s.lane 0).search = false ∧ s.wakeDue.all (fun t => decide (s.now < t)) then sleepNow false s
  else s

/-- A wake event from the bus or the chain: latched while the unit sleeps; it makes an internal wake a full one. -/
def busWakes (code : Nat) (s : State) : State :=
  if s.power.internalWake ∧ s.runs then wakeFlags code (fullWake (s.put Reg.PWR_STAT_WSRC code)) else latchWake code s

/-! ### The return of VBAT (R314, R420, R471) -/

/-- The store goes on: a marginal cell is completed first, an operation stopped in a base page ends ABORTED or begins again, the groups
abandoned are submitted again. -/
def storeRecover (s : State) : State :=
  let t := { s with rmc := { s.rmc with stopped := false, resubmit := [] } }
  let t : State := match t.rmc.op with
    | none => t
    | some op =>
      let c := t.tally op.req.ctr
      let cut := match op.goal with
        | none => false
        | some g => match tallyNext c g with
          | .roll | .baseTo _ => op.cellAt.isNone
          | .done | .saturated | .waitErase | .cell => false
      if c.marginal then { t with rmc := { t.rmc with op := some { op with cellAt := some s.now } } }
      else if cut = false then t
      else if op.req.owner = .tcmd then tcmdDone op.req.ctr .aborted { t with rmc := { t.rmc with op := none } }
      else { t with rmc := { t.rmc with op := some { op with goal := none } } }
  let t := resubmitGroups { t with rmc := { t.rmc with resubmit := s.rmc.resubmit } }
  if t.rmc.op.any (fun o => (t.tally o.req.ctr).marginal) then t else tallyStart (rmcKick t)

/-- VBAT_FAIL_DEASSERT (R420, R430): VBAT at or above 5.0 V for 1 ms (`us`). Domains are powered again on their next request. -/
def execVbatFailDeassert (vbat us : Nat) (s : State) : Host.Outcome State Fault Refusal :=
  if vbat < 5000 ∨ us < 1000 ∨ s.powAon.failing = false then .next s
  else
    let t := { setVbat vbat s with powAon := { (setVbat vbat s).powAon with failing := false, inheritedFail := false } }
    match s.power.state with
    | .reset => .next t
    | .sleep | .hibernate =>
      .next (latchWake 9 (raise 0x0402 vbat ((t.setBit Reg.PWR_STAT_VBATF false).setBit Reg.PWR_EVT_RECOV true)))
    | .on | .doze | .standby =>
      let t := t.setBit Reg.PWR_STAT_VBATF false
      if s.powAon.inheritedFail then
        .next (relevel (if t.isHead ∧ t.bit Reg.PWR_BOOT_STAT_DONE ∧ t.led.opened = false then ledgerAccept t else t))
      else
        let t := relevel (ledgerReopen t)
        .next (storeRecover (raise 0x0402 vbat (t.setBit Reg.PWR_EVT_RECOV true)))

end Sys2Proof.Machine
end

