-- ==== Sys2Proof/Machine/Bus.lean ====
section
/-! DEFINITION. The CAN port's messages, its wake detector and the ring's commands (R381 to R395). -/

namespace Sys2Proof.Machine

/-- The controller takes part in the bus (R381, R383). -/
def State.canOn (s : State) : Bool :=
  s.runs && s.domOn .lnk && s.straps.canWired && !s.bit Reg.CAN_STAT_BOFF && s.get Reg.CAN_STAT_XCVR == 2 && !s.isIsolated .can

/-- A frame that the port takes: identifiers of 11 bits and remote frames are ignored (R381). -/
def CanFrame.taken (f : CanFrame) : Bool := f.ext && !f.remote

/-- The unit's port carries session messages: a head or acting head. -/
def State.leads (s : State) : Bool := s.isHead || s.isActing

/-! ### IGNITION (R244, R385) -/

/-- What an ignition change does: the record, a profile evaluation, waymarks re-armed; off clears the latch, flushes the open sector,
rewrites the summary and starts the parked time of R34 afresh (R244, R281, R295, R302; log 64: DEDUCED). -/
def ignitionChange (on : Bool) (s : State) : State :=
  let rider := s.led.rider
  let t := { s with lines := { s.lines with ignition := on } }
  let t := logRec 0x10 (be 1 (if on then 1 else 0) ++ be 1 rider.1 ++ be 6 s.motion.pulses ++ be 8 rider.2) t
  if on then
    let t := { t with lines := { t.lines with ignWindow := none } }.setBit Reg.SL_STAT_IGNW false
    evalEvent (wmIgnitionOn t)
  else
    let t := { (latchClear t) with motion := { t.motion with parkedAt := s.now } }
    evalEvent (summaryRewrite (if t.isHead then sectorProgram t else t))

/-- IGNITION (R385): a received frame; one without data carries no state. It bypasses the command queue. -/
def execIgnitionFrame (f : CanFrame) (s : State) : Host.Outcome State Fault Refusal :=
  if s.canOn = false ∨ s.leads = false ∨ f.taken = false ∨ (s.canid 0x10).any (fun e => e.ident == f.id) = false then .next s
  else
    match f.data with
    | [] => .next s
    | b :: _ =>
      let t := awake (enter .can f.data { s with can := { s.can with ignAt := some s.now } })
      .next (if b.getLsbD 0 = s.lines.ignition then t else ignitionChange (b.getLsbD 0) t)

/-- IGNITION_TIMEOUT (R385): five periods of the entry, 1 s where it is 0; the state holds. -/
def execIgnitionTimeout (s : State) : Host.Outcome State Fault Refusal :=
  match s.can.ignAt, s.canid 0x10 with
  | some t, some e =>
    if s.domOn .lnk ∧ s.bit Reg.CAN_STAT_BOFF = false ∧ s.leads ∧
        s.after t (if e.period = 0 then 1000000 else 5000 * e.period) then
      .next (raise 0x6203 0 { s with can := { s.can with ignAt := none } })
    else .next s
  | _, _ => .next s

/-! ### Transmission (R382 to R384) -/

/-- The frame of a message: its identifier and format; RING carries the own node, Cannot Claim the null address. -/
def State.canFrame (s : State) (m : CanMsg) : Option CanFrame :=
  let brs := s.dataRate.isSome
  if m.code = 3 then (s.diagIdent 3).map (fun p => ⟨p.1, true, p.2 % 2 == 1, p.2 % 2 == 1 && brs, false, m.data⟩)
  else
    (s.canid m.code).map (fun e =>
      let own := if m.code = 0x20 then (s.ringSec.map (·.own)).getD 0 else if s.bit Reg.CAN_STAT_LOST then 0xFE else e.ident % 256
      let fd := e.flags % 2 == 1 && m.code != 0x20
      ⟨e.ident / 256 * 256 + own, true, fd, fd && brs, false, m.data⟩)

/-- The error counts after a change: error passive from 128 on in either (ISO 11898-1, log 36). -/
def errorCounts (tec rec : Nat) (s : State) : State :=
  ((s.put Reg.CAN_STAT_TEC (min 255 tec)).put Reg.CAN_STAT_REC (min 255 rec)).setBit Reg.CAN_STAT_EPASS (decide (128 ≤ tec ∨ 128 ≤ rec))

/-- The controller goes off the bus (R383): fault 0x6201; the IGNITION timeout is held. -/
def goBusOff (s : State) : State :=
  let t := { s with can := { s.can with offAt := some s.now, offFault := false, ignAt := none } }
  raise 0x6201 0 (((t.setBit Reg.CAN_STAT_BOFF true).put Reg.CAN_STAT_TEC 255).count Reg.CAN_CNT_BOFF 1)

/-- The frame offered leaves the unit. -/
def frameSent (i : QItem) (s : State) : State :=
  match i.work with
  | .can m =>
    match s.canFrame m with
    | some f => diagPump { s with can := { s.can with sent := (f :: s.can.sent).take 16 } }
    | none => s
  | _ => s

/-- CAN_FRAME_TRANSMIT (R382, R383): the oldest frame of the highest class is offered; one that meets a bus error, or loses the bus, keeps its
place. The error counts follow ISO 11898-1 (log 36). -/
def execCanFrameTransmit (turn : BusTurn) (s : State) : Host.Outcome State Fault Refusal :=
  if s.canOn = false then .next s
  else
    let tec := s.get Reg.CAN_STAT_TEC
    let rec_ := s.get Reg.CAN_STAT_REC
    match turn with
    | .heard => .next (errorCounts tec (if 127 < rec_ then 119 else rec_ - 1) s)
    | .heardError => .next (errorCounts tec (rec_ + 1) s)
    | .error =>
      if (popQueue .canTx s).isNone then .next s
      else if 255 < tec + 8 then .next (goBusOff s)
      else .next (errorCounts (tec + 8) rec_ s)
    | .sent =>
      match popQueue .canTx s with
      | none => .next s
      | some (i, t) => .next (frameSent i (errorCounts (tec - 1) rec_ t))

/-- BUS_OFF (R383). -/
def execBusOff (s : State) : Host.Outcome State Fault Refusal := if s.canOn = false then .next s else .next (goBusOff s)

/-- The time of 128 occurrences of 11 recessive bits, in µs. -/
def State.recoverTime (s : State) : Nat := 1408000 / s.arbRate

/-- BUS_OFF_RECOVERY (R383): after 128 occurrences of 11 recessive bits; the IGNITION timeout starts afresh; frames queued kept their places. -/
def execBusOffRecovery (s : State) : Host.Outcome State Fault Refusal :=
  if s.bit Reg.CAN_STAT_BOFF ∧ s.can.offAt.all (fun t => s.after t s.recoverTime) then
    let t := { s with can := { s.can with offAt := none, ignAt := some s.now } }
    .next ((((t.setBit Reg.CAN_STAT_BOFF false).setBit Reg.CAN_STAT_EPASS false).put Reg.CAN_STAT_TEC 0).put Reg.CAN_STAT_REC 0)
  else .next s

/-- BUS_OFF_LONG (R383): longer than 1 s. -/
def execBusOffLong (s : State) : Host.Outcome State Fault Refusal :=
  match s.can.offAt with
  | none => .next s
  | some t =>
    if s.bit Reg.CAN_STAT_BOFF ∧ s.can.offFault = false ∧ s.after t 1000000 then
      .next (raise 0x6202 0 { s with can := { s.can with offFault := true } })
    else .next s

/-- A NAME as SAE J1939-81 compares it: the first byte is the least significant (log 37). -/
def nameValue (b : Bytes) : Nat := beNat b.reverse

/-- J1939_ADDRESS_CLAIM (R386): a request for address claim (none), or another node's claim of the unit's address with its NAME. A
claim of higher priority takes the address: Cannot Claim, then nothing else. -/
def execJ1939AddressClaim (claim : Option Bytes) (s : State) : Host.Outcome State Fault Refusal :=
  match s.img.run with
  | none => .next s
  | some i =>
    if i.flags / 2 % 2 = 0 ∨ s.canOn = false ∨ s.leads = false ∨ s.bit Reg.CAN_STAT_LOST then .next s
    else
      match claim with
      | none => .next ((canSend 0x50 i.canids.name s).setBit Reg.CAN_STAT_CLAIM true)
      | some other =>
        if nameValue i.canids.name ≤ nameValue other then .next (canSend 0x50 i.canids.name s)
        else
          let t := canSend 0x50 i.canids.name (clearQueue .canTx s)
          .next (raise 0x6204 0 ((t.setBit Reg.CAN_STAT_LOST true).setBit Reg.CAN_STAT_CLAIM false))

/-! ### Waking from the bus (R387, R388) -/

/-- The unit sleeps, or wakes only internally. -/
def State.busAsleep (s : State) : Bool :=
  match s.power.state with
  | .sleep | .hibernate => true
  | .reset => false
  | .on | .doze | .standby => s.power.internalWake

/-- Selective wake is armed: the decoder runs (R388). -/
def State.selective (s : State) : Bool := s.bit Reg.CAN_WAKE_SWKEN && s.powAon.swId.isSome

/-- t_Filter in 0.1 µs. -/
def State.wakeFilter (s : State) : Nat := max 5 (min 50 (s.get Reg.CAN_WAKE_FILT))

/-- CAN_WAKE_PATTERN (R387): a wake-up pattern whose shorter dominant phase lasted `phase` (0.1 µs) and which took `span` µs; the unit
wakes once SYSTEM's N have arrived within its window. -/
def execCanWakePattern (phase span : Nat) (s : State) : Host.Outcome State Fault Refusal :=
  if s.busAsleep = false ∨ s.bit Reg.CAN_WAKE_SWKEN ∨ phase < s.wakeFilter ∨ 1000 < span then .next s
  else
    let pats := s.now :: s.recent (s.powAon.wakeWindow * 1000) s.powAon.wakePats
    if s.powAon.wakeN ≤ pats.length then .next (busWakes 3 { s with powAon := { s.powAon with wakePats := [] } })
    else .next { s with powAon := { s.powAon with wakePats := pats } }

/-- CAN_SWKM0 and CAN_SWKM1 as eight bytes. -/
def State.wakeMask (s : State) : Bytes := be 4 (s.rd Reg.CAN_SWKM0).toNat ++ be 4 (s.rd Reg.CAN_SWKM1).toNat

/-- WAKE_FRAME (R388): a classical frame with the identifier whose data meet the mask wakes the unit; FD frames are ignored. -/
def execWakeFrame (f : CanFrame) (s : State) : Host.Outcome State Fault Refusal :=
  let hit := (f.data.zip s.wakeMask).any (fun p => p.1 &&& p.2 != 0)
  if s.busAsleep ∧ s.selective ∧ f.taken ∧ f.fd = false ∧ s.powAon.swId = some f.id ∧ hit then .next (busWakes 4 s) else .next s

/-- SELECTIVE_WAKE_ERRORS (R388): `n` more frames met an error in the decoder; at 32 the unit wakes with fault 0x6205. -/
def execSelectiveWakeErrors (n : Nat) (s : State) : Host.Outcome State Fault Refusal :=
  if s.busAsleep = false ∨ s.selective = false then .next s
  else if s.powAon.swErr + n < 32 then .next { s with powAon := { s.powAon with swErr := s.powAon.swErr + n } }
  else .next (raise 0x6205 0 (busWakes 4 { s with powAon := { s.powAon with swErr := 0 } }))

/-! ### The ring (R389 to R394) -/

/-- A message's part in the sleep round: the first SLEEP_ACK names its initiator; one without it, but from the overruled member, ends
the round. -/
def roundHeard (i : Nat) (m : RingMsg) (s : State) : State :=
  if m.sleepAck then
    let t := s.setBit Reg.RING_STAT_ROUND true
    if s.ring.initiator.isNone then { t with ring := { t.ring with initiator := some i } } else t
  else if i = s.overruled then s else roundEnd s

/-- A SLEEP_ACK names the round's initiator as its successor: the commit point (R392). -/
def State.commits (s : State) (r : RingSec) (m : RingMsg) : Bool :=
  m.sleepAck && (match s.ring.initiator with
    | some k => r.nodes.getD k 256 == m.succ
    | none => false)

/-- RING (R389, R390, R392 to R394): a message of another member. -/
def execRingMessage (f : CanFrame) (s : State) : Host.Outcome State Fault Refusal :=
  match s.ringSec, s.ringOf f with
  | none, _ => .next s
  | some _, none => .next s
  | some r, some m =>
    match r.index m.sender with
    | none => .next s
    | some i =>
      if s.inRing = false ∨ s.canOn = false ∨ m.sender = r.own then .next s
      else
        let t := awake (enter .can f.data s)
        let t := if m.join ∧ maskHas t.ringAbs i then t.put Reg.RING_ABS_V (withBit t.ringAbs i false) else t
        let t := if t.overruled = i ∧ m.ready ∨ t.overruled ≠ i ∧ m.ready = false then overruleEnd t else t
        let mine := decide (m.succ = r.own) || s.ring.mine.isNone
        let t := { t with ring := { t.ring with
          last := some m, lastAt := s.now, waitSucc := none, turnAt := if mine then some s.now else none } }
        let t := soleCheck r m (roundHeard i m (t.put Reg.RING_MASK_V (t.effective m)))
        .next (if t.commits r m then ringCommit t else t)

/-- The flags of the unit's next message in turn (R392): SLEEP_ACK as the initiator of a new round, or in a round under way. -/
def turnFlags (r : RingSec) (s : State) : Nat :=
  if s.ringReady = false then 0
  else if s.ring.initiator.isSome then 3
  else if s.allReady r then 3 else 1

/-- The unit's message in its turn; the round and its commit point with it. -/
def ringTurn (r : RingSec) (s : State) : State :=
  let f := turnFlags r s
  if f = 3 then
    let t := if s.ring.initiator.isNone then { s with ring := { s.ring with initiator := some r.self } } else s
    let started := s.ring.initiator.isNone
    let t := ringSay 3 r (t.setBit Reg.RING_STAT_ROUND true)
    match t.ring.mine with
    | some m => if t.commits r m ∧ ¬ (started ∧ m.succ ≠ r.own) then ringCommit t else t
    | none => t
  else ringSay f r (roundEnd s)

/-- RING_TURN (R390): t_s after a message that named it as successor. -/
def execRingTurn (s : State) : Host.Outcome State Fault Refusal :=
  match s.ringSec, s.ring.turnAt with
  | some r, some t =>
    if s.inRing ∧ s.after t ((r.step - 1) * 1000) then .next (ringTurn r (awake s)) else .next s
  | _, _ => .next s

/-- RING_SUCCESSOR_TIMEOUT (R390): 2 t_s without a message from the member named: absent, the next one is named. -/
def execRingSuccessorTimeout (s : State) : Host.Outcome State Fault Refusal :=
  match s.ringSec, s.ring.waitSucc with
  | some r, some i =>
    if s.inRing ∧ s.after s.ring.mineAt (2000 * r.step) then
      let t := awake (s.put Reg.RING_ABS_V (withBit s.ringAbs i true))
      let f := (s.ring.mine.map (fun m => m.flags % 4)).getD 0
      .next (ringSay (if s.ringReady then f else 0) r t)
    else .next s
  | _, _ => .next s

/-- RING_START_TIMEOUT (R390): no ring message for 250 ms + 10 ms × its index. -/
def execRingStartTimeout (s : State) : Host.Outcome State Fault Refusal :=
  match s.ringSec with
  | none => .next s
  | some r =>
    if s.inRing ∧ s.canOn ∧ s.profile ≠ 7 ∧ s.ring.waitSucc.isNone ∧ s.ring.turnAt.isNone ∧
        s.after s.ring.lastAt (250000 + 10000 * r.self) then
      .next (ringSay (if s.ringReady then 1 else 0) r (awake { s with ring := { s.ring with lastAt := s.now, last := none } }))
    else .next s

/-- RING_OVERRULE (R394): a member has been the only one missing for T_awake_max. -/
def execRingOverrule (s : State) : Host.Outcome State Fault Refusal :=
  match s.ringSec, s.ring.soleAt with
  | some r, some t =>
    if s.inRing ∧ r.awakeMax ≠ 0 ∧ s.overruled = 0xFF ∧ s.after t (r.awakeMax * 1000000) then
      .next ((s.put Reg.RING_STAT_OVR (s.get Reg.RING_STAT_SOLE)).count Reg.RING_CNT_OVERRULES 1)
    else .next s
  | _, _ => .next s

/-- RING_WAKE_EVENT (R393): a wake event during a sleep round: READY 0, WAKE 1, at once and out of turn. -/
def execRingWakeEvent (s : State) : Host.Outcome State Fault Refusal :=
  match s.ringSec with
  | none => .next s
  | some r =>
    if s.inRing ∧ s.bit Reg.RING_STAT_ROUND then .next (ringNotReady 4 r (awake s)) else .next s

end Sys2Proof.Machine
end

