-- ==== Sys2Proof/Machine/Retained.lean ====
section
/-! DEFINITION. Commands of the retained-memory controller (13) that no completion follows, and the writes of its registers. -/

namespace Sys2Proof.Machine

/-- WINDOW_BUFFER_TIMEOUT (R308): the owner has made no access for 100 ms. -/
def execWindowBufferTimeout (s : State) : Host.Outcome State Fault Refusal :=
  if s.get Reg.RMC_STAT_OWN ≠ 7 ∧ s.after s.rmc.touchedAt 100000 then .next (windowEmpty true s) else .next s

/-- Whether an engine may write a run (R305): inside one area whose writers it is among. -/
def engineMay (e : Engine) (w : Nat × Bytes) : Bool :=
  match areaOf w.1 with
  | none => false
  | some a => a.engines.contains e && decide (w.1 + w.2.length ≤ a.hi)

/-- COMMIT_GROUP_SUBMIT (R305, R307, R309): an internal engine's group of up to 256 bytes; outside its rights nothing changes. -/
def execCommitGroupSubmit (e : Engine) (cls : Cls) (writes : List (Nat × Bytes)) (s : State) : Host.Outcome State Fault Refusal :=
  let g : Group := ⟨writes, .none⟩
  if 256 < g.bytes ∨ ¬ writes.all (engineMay e) ∨ s.rmc.ready = false then .next s
  else .next (submitGroup cls g s).2

/-- An engine's tally operation (R316, R317); one on a counter that is not its own changes nothing. -/
def engineTally (e : Engine) (cls : Cls) (c : Nat) (raise : Option Nat) (s : State) : State :=
  if tallyRight (.engine e) c then (submitTally cls ⟨c, raise, .none⟩ s).2 else s

/-- TALLY_SET_ERASE_DONE (R318): 0.4 ms after a rollover the old set of a counter reads erased again; a rollover that waited for it goes on. -/
def execTallySetEraseDone (c : Nat) (s : State) : Host.Outcome State Fault Refusal :=
  if s.rmc.erasing.any (fun p => p.1 == c && s.after p.2 400) then
    let t := { s with rmc := { s.rmc with erasing := s.rmc.erasing.filter (fun p => p.1 != c) } }
    let t := t.setTally c { t.tally c with old := 0 }
    .next (if t.rmc.cur.isNone ∧ t.rmc.stopped = false ∧ t.rmc.op.any (fun o => o.req.ctr == c && o.cellAt.isNone) then tallyStart t else t)
  else .next s

/-- A write of RMC_TCMD (R316, R321). -/
def tcmdWrite (v : Nat) (m : Master) (s : State) : FabStatus × State :=
  let c := v % 32
  let op := v / 256 % 4
  if v / 2 ^ 31 % 2 = 1 ∧ s.bit Reg.RMC_TSTAT_BUSY then (.busy, s)
  else
    let t := (s.put Reg.RMC_TCMD_OP op).put Reg.RMC_TCMD_CNT c
    if v / 2 ^ 31 % 2 = 0 ∨ op = 0 ∨ op = 3 then (.ok, t)
    else if tallyRight (.master m) c = false then (.ok, tcmdDone c .denied t)
    else
      let t := ((t.setBit Reg.RMC_TCMD_GO true).setBit Reg.RMC_TSTAT_BUSY true).put Reg.RMC_TSTAT_CNT c
      match submitTally .p3 ⟨c, if op = 1 then none else some (s.get Reg.RMC_TARG_V), .tcmd⟩ t with
      | (.taken, u) => (.ok, u)
      | (_, u) => (.ok, tcmdDone c .busy u)

/-- A write of RMC_CMD (R308, R321): COMMIT or ABORT by the buffer's owner; a COMMIT with nothing buffered reports why. -/
def rmcCmdWrite (v : Nat) (m : Master) (s : State) : FabStatus × State :=
  let own := s.get Reg.RMC_STAT_OWN
  if own ≠ 7 ∧ own ≠ m.id then (.busy, s)
  else if v % 4 = 1 then (.ok, windowCommit s)
  else if v % 4 = 2 then (.ok, if own = 7 then s else windowEmpty true s)
  else (.ok, s)

/-- A write to a register of the controller that a chapter rule restricts (R321). -/
def rmcWrite (m : Master) (a v : Nat) (s : State) : FabStatus × State :=
  if windowMaster m = false then (.denied, s)
  else if a = Reg.RMC_CMD then rmcCmdWrite v m s
  else if a = Reg.RMC_TARG then (.ok, s.put Reg.RMC_TARG_V v)
  else tcmdWrite v m s

end Sys2Proof.Machine
end

