-- ==== Sys2Proof/Machine/Views.lean ====
section
/-! DEFINITION. Register fields that show what the state holds elsewhere: computed when they are read. -/

namespace Sys2Proof.Machine

def b2n (b : Bool) : Nat := if b then 1 else 0

/-- A bit mask: bit i set where the i-th of a list is true. -/
def maskOf (l : List Bool) : Nat := (l.zipIdx.map (fun p => if p.1 then 2 ^ p.2 else 0)).sum

/-! ### Field and air -/

/-- The channels that a running frame drives in the part it has reached, its off halves included (R104, R117). -/
def LfRun.driving (r : LfRun) (s : State) : List Nat :=
  let p := s.periodsSince r.startAt
  if p < dataLen then r.req.data.map (·.1)
  else (r.carrier.filter (fun c => decide (dataLen ≤ c.off ∧ c.off ≤ p ∧ p < c.off + c.len))).map (·.ch)

/-- A diagnostic run drives: after the off-state part, for as many periods as it has. -/
def TestRun.driving (r : TestRun) (s : State) : Bool :=
  let from_ := r.startAt + Config.offStateTicks
  decide (from_ ≤ s.now) && decide (s.periodsSince from_ < r.test.drive.1)

/-- The channels that drive now. -/
def State.drivingChans (s : State) : List Nat :=
  s.lf.runs.flatMap (fun r => r.driving s) ++ (s.lf.test.filter (fun r => r.driving s)).toList.map (·.ch) ++
    (if s.lf.ct.isSome then s.holder.toList.map (·.channel) else [])

def State.driving (s : State) : Nat := s.drivingChans.length

/-- LFn_P and LFn_N (R95, R96): high impedance where the bank is off, the channel not fitted, disabled, or drive inhibited; under test the
test current, the drive, or high impedance for the ring-down; else driving, or idle with the coil shorted. -/
def State.coilOut (s : State) (c : Nat) : CoilOut :=
  if s.domOn (bankDom (bankOf c)) = false ∨ s.fitted c = false then .highZ
  else
    match s.lf.test.filter (fun r => r.ch == c) with
    | some r => if s.now < r.startAt + Config.offStateTicks then .testCurrent else if r.driving s then .driving else .highZ
    | none =>
      if s.disabled c ∨ s.inhibited then .highZ
      else if s.drivingChans.contains c then .driving
      else .idle

/-- Coupled exchanges are enabled, their holder fitted and enabled. -/
def State.coupledReady (s : State) : Bool :=
  s.coupledOn && (match s.holder with
    | some h => s.fitted h.channel && !s.disabled h.channel
    | none => false)

/-- The age of a lane's calibration data in s; 0 where it holds none (R158). -/
def State.calAge (s : State) (n : Nat) : Nat :=
  (s.lane n).calAt.elim 0 (fun c => min 255 ((s.now - c) / 4194304))

/-! ### The host's interrupt line (R406) -/

/-- HOST_IRQ_N is low. -/
def State.irqLow (s : State) : Bool :=
  let src := fun (d : Dom) (p e : Fld) => s.domOn d && s.bit p && s.bit e
  src .seq Reg.HPT_IRQ_SES Reg.HPT_IEN_SES || src .ldg Reg.HPT_IRQ_RMC Reg.HPT_IEN_RMC || src .vlt Reg.HPT_IRQ_VLT Reg.HPT_IEN_VLT ||
    src .vlt Reg.HPT_IRQ_CRY Reg.HPT_IEN_CRY || src .ldg Reg.HPT_IRQ_LDG Reg.HPT_IEN_LDG || s.timerIrq ||
    (s.domOn .tag && (s.rd Reg.TAG_EVT &&& s.rd Reg.TAG_IEN) != 0)

/-! ### Trackers -/

/-- SES_TRKn. -/
def State.trackFields (s : State) (n : Nat) : List (Fld × Nat) :=
  let t := s.tracker n
  let st := match t.st with
    | .unknown => 0
    | .held => 1
    | .stale => 2
  let known := st != 0
  [(Reg.SES_TRK_STATE n, st), (Reg.SES_TRK_BAR n, b2n (s.isBarred n)),
   (Reg.SES_TRK_LFIN n, b2n (t.lfin.any (fun p => p.1))), (Reg.SES_TRK_GRADE n, if known then t.grade else 0),
   (Reg.SES_TRK_ZONE n, if known then lowestZone (s.zones.filter (fun z => t.zones.contains z.zone)) else 0),
   (Reg.SES_TRK_AGE n, if known then min 0xFFFF ((s.now - t.at_) * 100 / 4194304) else 0xFFFF)]

/-- SES_TRKn_X, _Y and _Z. -/
def State.trackPos (s : State) (n i : Nat) : Nat :=
  let t := s.tracker n
  match t.st with
  | .unknown => 0
  | .held | .stale => ofInt 32 (if i = 0 then t.pos.1 else if i = 1 then t.pos.2.1 else t.pos.2.2)

/-! ### By region -/

def State.viewsAon (s : State) (a : Nat) : List (Fld × Nat) :=
  if a = Reg.CHRON_LO then [(Reg.CHRON_LO_V, s.chron.count.toNat % 2 ^ 32)]
  else if a = Reg.CHRON_HI then [(Reg.CHRON_HI_V, s.chron.count.toNat / 2 ^ 32)]
  else if a = Reg.CHRON_COMP then [(Reg.CHRON_COMP_CORR, ofInt 16 (s.chron.corr.tdiv 10))]
  else if a = Reg.CHRON_SLEW then [(Reg.CHRON_SLEW_V, ofInt 32 s.chron.slew)]
  else if a = Reg.TIM_RUN then [(Reg.TIM_RUN_RUN, maskOf ((List.range 8).map (fun n => s.bit (Reg.TIM_CTL_RUN n))))]
  else if a = Reg.TSW_CAPSTAT then
    [(Reg.TSW_CAPSTAT_TOUCH, maskOf (s.touch.caps.map (·.touched))), (Reg.TSW_CAPSTAT_EN, maskOf (s.touch.caps.map (·.code.isSome))),
     (Reg.TSW_CAPSTAT_STUCK, maskOf (s.touch.caps.map (·.stuck)))]
  else if a = Reg.TSW_SWSTAT then
    [(Reg.TSW_SWSTAT_STUCK, maskOf (s.touch.sws.map (·.stuck))), (Reg.TSW_SWSTAT_LVL, maskOf (s.touch.sws.map (·.active)))]
  else if Reg.TSW_CAPD 0 ≤ a ∧ a < Reg.TSW_CAPD 4 then
    let n := (a - Reg.TSW_CAPD 0) / 4
    let c := s.touch.caps.getD n CapCh.init
    [(Reg.TSW_CAPD_BASE n, (c.base / 10).toNat), (Reg.TSW_CAPD_DELTA n, ofInt 16 c.delta)]
  else []

def State.viewsSup (s : State) (a : Nat) : List (Fld × Nat) :=
  let iso := s.hh.iso.filter (fun i => i.isolated)
  if a = Reg.SUP_HH_STAT then
    [(Reg.SUP_HH_STAT_DEFER, b2n s.hh.deferred.isSome), (Reg.SUP_HH_STAT_CAP, listMin (s.hh.caps.map (·.2)) 3),
     (Reg.SUP_HH_STAT_NRST, min 31 s.recentRestarts.length)]
  else if a = Reg.SUP_RGN_STAT then [(Reg.SUP_RGN_STAT_ISO, maskOf ((List.range 8).map (fun r => iso.any (fun i => i.block.region == r))))]
  else if a = Reg.SUP_ISO then [(Reg.SUP_ISO_V, maskOf ((List.range 21).map (fun n => iso.any (fun i => i.block.num == n))))]
  else []

def State.viewsField (s : State) (a : Nat) : List (Fld × Nat) :=
  if a = Reg.LF_STAT then
    [(Reg.LF_STAT_PWRA, b2n (s.domOn .lfa)), (Reg.LF_STAT_PWRB, b2n (s.domOn .lfb)), (Reg.LF_STAT_SHEDA, b2n (s.bankShed 0)),
     (Reg.LF_STAT_SHEDB, b2n (s.bankShed 1)), (Reg.LF_STAT_NDRV, min 3 s.driving), (Reg.LF_STAT_DIS, s.lfAon.disabled)]
  else if a = Reg.LF_BUD then [(Reg.LF_BUD_USEDA, s.budgetUsed 0), (Reg.LF_BUD_USEDB, s.budgetUsed 1)]
  else if a = Reg.LF_WID then [(Reg.LF_WID_WID, (s.img.run.map (fun i => wakeId i.vehicle)).getD 0)]
  else if Reg.LF_CH_STAT 0 ≤ a ∧ a < Reg.LF_CH_STAT 16 ∧ (a - Reg.LF_CH_STAT 0) % 0x100 = 0 then
    let n := (a - Reg.LF_CH_STAT 0) / 0x100
    [(Reg.LF_CH_STAT_DRV n, b2n (s.drivingChans.contains n))]
  else if a = Reg.LF_CT_STAT then [(Reg.LF_CT_STAT_EN, b2n s.coupledReady)]
  else []

def State.viewsAir (s : State) (a : Nat) : List (Fld × Nat) :=
  if a = Reg.FOX_STAT then
    [(Reg.FOX_STAT_ISO, b2n (s.isIsolated .fox)), (Reg.FOX_STAT_RUN, maskOf [(s.exOn 0).isSome, (s.exOn 1).isSome])]
  else
    let n := a / 0x100000 % 2
    if a = Reg.AIR_LN_STAT n then [(Reg.AIR_LN_STAT_ISO n, b2n (s.isIsolated (laneBlock n)))]
    else if a = Reg.AIR_LN_CAL n then [(Reg.AIR_LN_CAL_AGE n, s.calAge n)]
    else []

def State.viewsVault (s : State) (a : Nat) : List (Fld × Nat) :=
  if a = Reg.VLT_LC then [(Reg.VLT_LC_SVC, (s.tally 2).value % 256)]
  else if a = Reg.VLT_ATTR then
    let n := s.get Reg.VLT_CMD_SLOT
    [(Reg.VLT_ATTR_V, if s.occupied n then (s.slot n).attr else 0)]
  else if a = Reg.VLT_INFO then
    let n := s.get Reg.VLT_CMD_SLOT
    let t := s.slot n
    if s.occupied n then [(Reg.VLT_INFO_MODE, t.mode), (Reg.VLT_INFO_ENGINE, t.engine), (Reg.VLT_INFO_LEN, t.len), (Reg.VLT_INFO_FLAGS, t.flags)]
    else []
  else if Reg.VLT_OCC 0 ≤ a ∧ a < Reg.VLT_OCC 8 then
    let w := (a - Reg.VLT_OCC 0) / 4
    [(Reg.VLT_OCC_V w, maskOf ((List.range 32).map (fun b => s.occupied (32 * w + b))))]
  else if Reg.VLT_UNU 0 ≤ a ∧ a < Reg.VLT_UNU 8 then
    let w := (a - Reg.VLT_UNU 0) / 4
    [(Reg.VLT_UNU_V w, maskOf ((List.range 32).map (fun b => s.den.unusable.contains (32 * w + b))))]
  else if a = Reg.ENT_STAT then
    [(Reg.ENT_STAT_READY, b2n s.ent.drbg.isSome), (Reg.ENT_STAT_LATCH, b2n s.entAon.latched), (Reg.ENT_STAT_RESEED, b2n s.ent.reseedDue),
     (Reg.ENT_STAT_NFAIL, min 3 (s.recentFails.length + b2n (s.entAon.latched && s.recentFails.length == 2))), (Reg.ENT_STAT_POOL, 8 * s.ent.pool.length)]
  else if a = Reg.ENT_REQ then [(Reg.ENT_REQ_V, (s.ent.drbg.map (·.reqs)).getD 0)]
  else []

def State.viewsLedger (s : State) (a : Nat) : List (Fld × Nat) :=
  if a = Reg.LDG_STAT then [(Reg.LDG_STAT_QUEUE, (s.queue .ingest).items.length + s.led.satHeld.length)]
  else if a = Reg.RMC_STAT then
    [(Reg.RMC_STAT_BUSY, b2n (s.rmc.cur.isSome || s.rmc.op.isSome)), (Reg.RMC_STAT_FILL, s.rmc.buf.length)]
  else if Reg.RMC_TALLY 0 ≤ a ∧ a < Reg.RMC_TALLY 32 then
    let n := (a - Reg.RMC_TALLY 0) / 4
    [(Reg.RMC_TALLY_V n, (s.tally n).value)]
  else []

def State.viewsLinks (s : State) (a : Nat) : List (Fld × Nat) :=
  let hold := fun (field : Bool) (leaf : Nat) => s.tag.held.any (fun (h : TagLeaf) => h.leaf == leaf && h.by_.isNone == field)
  if a = Reg.CAN_STAT then [(Reg.CAN_STAT_IGN, b2n s.lines.ignition)]
  else if a = Reg.RING_STAT then [(Reg.RING_STAT_OWNRDY, b2n s.ringReady)]
  else if a = Reg.SETT_DELAY then
    [(Reg.SETT_DELAY_PATH, min 0xFFFF (s.sett.path / 64).toNat), (Reg.SETT_DELAY_SEG, min 0xFFFF (s.sett.upS / 64).toNat)]
  else if a = Reg.HPT_IRQ then [(Reg.HPT_IRQ_LOW, b2n s.irqLow)]
  else if a = Reg.TAG_STAT then
    let st := match s.tag.st with
      | .idle => 0
      | .ready => 1
      | .active => 2
      | .halt => 3
    [(Reg.TAG_STAT_FLD, b2n s.tag.field), (Reg.TAG_STAT_SEL, b2n s.tag.app), (Reg.TAG_STAT_AUTH, b2n s.tag.kts.isSome),
     (Reg.TAG_STAT_KEY, b2n s.tagAon.key.isSome), (Reg.TAG_STAT_SNAP, b2n s.tag.snap.isSome), (Reg.TAG_STAT_STATE, st)]
  else if Reg.TAG_FHLD 0 ≤ a ∧ a < Reg.TAG_FHLD 4 then
    let w := (a - Reg.TAG_FHLD 0) / 4
    [(Reg.TAG_FHLD_V w, maskOf ((List.range 32).map (fun b => hold true (32 * w + b))))]
  else if a = Reg.TAG_FHLDP then [(Reg.TAG_FHLDP_V, maskOf ((List.range 16).map (fun b => hold true (0x90 + b))))]
  else if Reg.TAG_WHLD 0 ≤ a ∧ a < Reg.TAG_WHLD 4 then
    let w := (a - Reg.TAG_WHLD 0) / 4
    [(Reg.TAG_WHLD_V w, maskOf ((List.range 32).map (fun b => hold false (32 * w + b))))]
  else if a = Reg.TAG_UIDH then [(Reg.TAG_UIDH_V, fieldBe s.tagUid 0 4)]
  else if a = Reg.TAG_UIDL then [(Reg.TAG_UIDL_V, fieldBe s.tagUid 4 3)]
  else []

def State.viewsSessions (s : State) (a : Nat) : List (Fld × Nat) :=
  if a = Reg.SES_STAT then
    [(Reg.SES_STAT_LATCH, s.get Reg.SL_STAT_LATCH), (Reg.SES_STAT_ACTING, b2n s.isActing),
     (Reg.SES_STAT_LISTEN, b2n ((s.lane 0).search || (s.lane 1).search)), (Reg.SES_STAT_NSES, s.ses.ss.length)]
  else if Reg.SES_TRK 0 ≤ a ∧ a < Reg.SES_TRK 64 then
    let n := (a - Reg.SES_TRK 0) / 16
    let i := (a - Reg.SES_TRK 0) % 16 / 4
    if i = 0 then s.trackFields n
    else if i = 1 then [(Reg.SES_TRK_X_V n, s.trackPos n 0)]
    else if i = 2 then [(Reg.SES_TRK_Y_V n, s.trackPos n 1)]
    else [(Reg.SES_TRK_Z_V n, s.trackPos n 2)]
  else if a = Reg.WM_PLSLO then [(Reg.WM_PLSLO_V, s.motion.pulses % 2 ^ 32)]
  else if a = Reg.WM_PLSHI then [(Reg.WM_PLSHI_V, s.motion.pulses / 2 ^ 32)]
  else if a = Reg.WM_METRE then [(Reg.WM_METRE_V, s.millimetres / 1000 % 2 ^ 32)]
  else if a = Reg.WM_STOPT then [(Reg.WM_STOPT_V, s.stoppedTicks / 4194304)]
  else if a = Reg.WM_MSTAT then [(Reg.WM_MSTAT_SPEED, if s.speedKnown then s.speed else 0)]
  else []

/-- The fields of a register that are computed, with their values. -/
def State.views (s : State) (a : Nat) : List (Fld × Nat) :=
  if a < 0x18000000 then s.viewsAon a
  else if a < 0x20000000 then s.viewsSup a
  else if a < 0x30000000 then s.viewsField a
  else if a < 0x40000000 then s.viewsAir a
  else if a < 0x50000000 then s.viewsVault a
  else if a < 0x60000000 then s.viewsLedger a
  else if a < 0x70000000 then s.viewsLinks a
  else s.viewsSessions a

/-- The word a register shows: its stored word with the computed fields. -/
def State.shown (s : State) (a : Nat) : Word := (s.views a).foldl (fun w p => p.1.put p.2 w) (s.rd a)

end Sys2Proof.Machine
end

