-- ==== Sys2Proof/Machine/Fabric.lean ====
section
/-! DEFINITION. Accesses across the chip fabric (R9, R10, R24, R25, R40): one read and one write that every master's commands share. -/

namespace Sys2Proof.Machine

/-! ### Reach (R24, R340) -/

/-- Regions of Table 1-11. -/
inductive Region where
  | aon | sup | field | air | vault | ledger | links | sessions | sram
  deriving DecidableEq, Repr

def regionOf (a : Nat) : Option Region :=
  if 0x10000000 ≤ a ∧ a < 0x18000000 then some .aon
  else if 0x18000000 ≤ a ∧ a < 0x20000000 then some .sup
  else if 0x20000000 ≤ a ∧ a < 0x30000000 then some .field
  else if 0x30000000 ≤ a ∧ a < 0x40000000 then some .air
  else if 0x40000000 ≤ a ∧ a < 0x50000000 then some .vault
  else if 0x50000000 ≤ a ∧ a < 0x60000000 then some .ledger
  else if 0x60000000 ≤ a ∧ a < 0x70000000 then some .links
  else if 0x70000000 ≤ a ∧ a < 0x80000000 then some .sessions
  else if 0x80000000 ≤ a ∧ a < 0x80200000 then some .sram
  else none

/-- The host's and the CAN service channel's reach. -/
def hostReach (r : Region) (write : Bool) : Bool :=
  match r with
  | .aon | .vault | .ledger | .links => true
  | .sup | .field | .air | .sessions => !write
  | .sram => false

/-- What the debug port may write in SERVICE. -/
def debugWrites (a : Nat) : Bool :=
  [Reg.VLT_CMD, Reg.VLT_STAT, Reg.CRY_CMD, Reg.CRY_LEN, Reg.CRY_STAT, Reg.ENT_CTL].contains (a / 4 * 4) ||
    (0x40000100 ≤ a && a < 0x40000200) || (0x40010800 ≤ a && a < 0x40011000)

/-- Table 1-5, and R340 for the debug port. -/
def State.reaches (s : State) (m : Master) (a : Nat) (r : Region) (write : Bool) : Bool :=
  match m with
  | .session | .sett => r != .sup || !write
  | .ledger => match r with
    | .aon => !write
    | .vault | .ledger | .links | .sram => true
    | .sup | .field | .air | .sessions => false
  | .can | .host => hostReach r write
  | .tag => 0x60030000 ≤ a && a < 0x60042000
  | .debug =>
    if s.lc = 0 then true
    else if s.lc = 1 then hostReach r write
    else if s.lc = 3 then r != .sram && (!write || debugWrites a)
    else if s.lc = 4 then r == .ledger && !write
    else false

/-! ### What lies at an address -/

/-- Memory windows, with an offset. -/
inductive Target where
  | reg (a : Nat)
  | sram (off : Nat)
  | vltBuf (off : Nat)
  | cryBuf (off : Nat)
  | retained (off : Nat)
  | tagMem (off : Nat)
  | relay (off : Nat)
  deriving DecidableEq, Repr

def isReg (a : Nat) : Bool := regRows.any (fun r => r.addr ≤ a && (a - r.addr) % r.stride == 0 && (a - r.addr) / r.stride < r.count)

/-- The register or window at an address; a narrow access finds the register it would cut. -/
def targetOf (a n : Nat) : Option Target :=
  let win := fun (lo hi : Nat) (t : Nat → Target) => if lo ≤ a ∧ a + n ≤ hi then some (t (a - lo)) else none
  if 0x80000000 ≤ a then win 0x80000000 0x80200000 .sram
  else if 0x70000800 ≤ a ∧ a < 0x70001000 then win 0x70000800 0x70001000 .relay
  else if 0x60040000 ≤ a ∧ a < 0x60042000 then win 0x60040000 0x60042000 .tagMem
  else if 0x50100000 ≤ a ∧ a < 0x50110000 then win 0x50100000 0x50110000 .retained
  else if 0x40010800 ≤ a ∧ a < 0x40011000 then win 0x40010800 0x40011000 .cryBuf
  else if 0x40000100 ≤ a ∧ a < 0x40000200 then win 0x40000100 0x40000200 .vltBuf
  else if isReg (if n = 4 then a else a / 4 * 4) then some (.reg (if n = 4 then a else a / 4 * 4)) else none

/-- The block behind an address (Table 1-11). -/
def blockAt (a : Nat) : Block :=
  if a < 0x18000000 then .aon
  else if a < 0x20000000 then .sup
  else if a < 0x20001000 then .lfCommon
  else if a < 0x20001800 then .bankA
  else if a < 0x20002000 then .bankB
  else if a < 0x30000000 then .ct
  else if a < 0x30100000 then .lane0
  else if a < 0x30200000 then .lane1
  else if a < 0x40000000 then .fox
  else if a < 0x40010000 then .den
  else if a < 0x40020000 then .crypto
  else if a < 0x50000000 then .entropy
  else if a < 0x50010000 then .ledger
  else if a < 0x50020000 then .memPort
  else if a < 0x60000000 then .rmc
  else if a < 0x60010000 then .can
  else if a < 0x60020000 then .sett
  else if a < 0x60030000 then .hpt
  else if a < 0x70000000 then .tag
  else if a < 0x70010000 then .session
  else if a < 0x70020000 then .zones
  else if a < 0x80000000 then .waymarks
  else .fabric

/-- The class of a master's bursts (R21): of the session engine and the Sett link, which issue several, P1 (log 8). -/
def Master.cls : Master → Cls
  | .session => .p1 | .ledger => .p2 | .can => .p3 | .sett => .p1 | .host => .p3 | .tag => .p3 | .debug => .p3

/-- The power domain behind an address is off, the tag works in FIELD mode, which has no wired access (Table 16-1), or the retained window
is not yet open (R40, R64). -/
def State.targetOff (s : State) (a : Nat) (x : Target) : Bool :=
  (blockAt a).dom != .aon && !s.domOn (blockAt a).dom || blockAt a == .tag && !s.wired ||
    (match x with
      | .retained _ => !s.rmc.ready
      | .reg _ | .sram _ | .vltBuf _ | .cryBuf _ | .tagMem _ | .relay _ => false)

/-- The queue that an access crosses on its way, in a burst of its own; the later words of a burst cross it with the first (R22). -/
def fabCross (first : Bool) (cls : Cls) (m : Master) (a : Nat) (s : State) : Admit × State :=
  if first then enqueue (.fabric (blockAt a).region) cls m .burst s else (.taken, s)

/-- The checks of R40 in their order: reach; the queue crossed; then, at the target, mapping, power, isolation, width. A burst that is
dropped at the queue gets no answer (R33). -/
def fabCheckAs (first : Bool) (cls : Cls) (m : Master) (a : Nat) (w : Width) (write : Bool) (s : State) : FabStatus × Option Target × State :=
  match regionOf a with
  | none => if m = .tag then (.denied, none, s) else (.unmapped, none, s)
  | some r =>
    if s.reaches m a r write = false then (.denied, none, s)
    else
      match fabCross first cls m a s with
      | (.taken, t) =>
        match targetOf a w.bytes with
        | none => (.unmapped, none, s)
        | some x =>
          if s.targetOff a x then (.off, none, s)
          else if s.isIsolated (blockAt a) then (.fault, none, s)
          else
            match x with
            | .reg _ => if w = .b32 then (.ok, some x, t) else (.width, none, s)
            | .sram _ | .vltBuf _ | .cryBuf _ | .retained _ | .tagMem _ | .relay _ => (.ok, some x, t)
      | (.busy, t) => (.busy, none, t)
      | (.dropped, t) => (.silent, none, t)
      | (.fault, t) => (.fault, none, t)

/-- The same for a master's own access of one word. -/
def fabCheck (m : Master) (a : Nat) (w : Width) (write : Bool) (s : State) : FabStatus × Option Target × State :=
  fabCheckAs true m.cls m a w write s

/-! ### Reading -/

/-- A value as the bytes of a window, lowest first. -/
def leBytes (n v : Nat) : Bytes := (be n (v % 256 ^ n)).reverse

/-- A read of ENT_RAND that cannot wait (log 24): output, or the reason there is none. -/
def randNow (s : State) : FabStatus × Nat × State :=
  match randReq false 4 s with
  | (.bytes b, t) => (.ok, beNat b, t)
  | (.fail, t) => (.entropyFail, 0, t)
  | (.wait, t) => (.entropyWait, 0, t.count Reg.ENT_CNT_WAITS 1)

/-- The oldest samples held of the source that ENT_CTL.RAWSEL chooses: 32 of a latch, or 8 of each latch, interleaved in latch order. -/
def State.rawHeld (s : State) : List Bool :=
  let sel := s.get Reg.ENT_CTL_RAWSEL
  if sel < 4 then (s.ent.samples.getD sel []).take 32
  else (List.range 8).flatMap (fun i => (List.range 4).filterMap (fun n => ((s.ent.samples.getD n []).drop i).head?))

/-- A read of ENT_RAW: 32 raw samples of the source chosen, the oldest in bit 0; 0 outside raw test mode (R359, R360). Where the windows have
given no 32 samples, those that the source makes within the 4 µs are free (log 4). -/
def rawRead (s : State) : Nat × State :=
  if s.bit Reg.ENT_STAT_RAW then
    let t := { s with ent := { s.ent with rawAt := s.now } }
    let l := s.rawHeld
    if l.length = 32 then
      let used := if s.get Reg.ENT_CTL_RAWSEL < 4 then 32 else 8
      (l.foldr (fun b a => a * 2 + (if b then 1 else 0)) 0,
        { t with ent := { t.ent with samples := t.ent.samples.map (fun (x : List Bool) => x.drop used) } })
    else
      match freeBytes 4 t with
      | (b, u) => (beNat b, u)
  else (0, s)

/-- A byte of a relay slot. -/
def State.relayByte (s : State) (off : Nat) : Byte :=
  if s.bitAt Reg.SES_RELAYV_VALID (off / 256) then (s.ses.relay.getD (off / 256) []).getD (off % 256) 0 else 0

/-- The bytes of a window as a master reads them. -/
def windowRead (m : Master) (n : Nat) (x : Target) (s : State) : FabStatus × Nat × State :=
  match x with
  | .sram off => (.ok, leNat (memGetN s.sram off n), s)
  | .vltBuf off =>
    if s.get Reg.VLT_STAT_OWN = m.id then (.ok, leNat (s.vltBuf off n), { s with den := { s.den with touchedAt := s.now } }) else (.ok, 0, s)
  | .cryBuf off =>
    if s.get Reg.CRY_STAT_OWN = m.id then (.ok, leNat (s.cryBuf off n), { s with cry := { s.cry with touchedAt := s.now } }) else (.ok, 0, s)
  | .retained off =>
    if (List.range n).all (fun i => windowReadable m (off + i)) then (.ok, leNat ((List.range n).map (fun i => windowByte s (off + i))), windowAccess m ((List.range n).map (fun i => windowByte s (off + i))) s)
    else (.denied, 0, s)
  | .tagMem off => (.ok, leNat (sub (s.leafBytes (off / 64)) (off % 64) n), tagAccess m s)
  | .relay off => (.ok, leNat ((List.range n).map (fun i => s.relayByte (off + i))), s)
  | .reg _ => (.ok, 0, s)

/-- A register read (R10): WO fields read 0, computed fields are computed. -/
def regRead (a : Nat) (s : State) : FabStatus × Nat × State :=
  if a = Reg.ENT_RAND then randNow s
  else if a = Reg.ENT_RAW then
    match rawRead s with
    | (v, t) => (.ok, v, t)
  else (.ok, (s.shown a).toNat, s)

/-- A fabric read in a class, as a burst of its own or within one. -/
def fabReadAs (first : Bool) (cls : Cls) (m : Master) (a : Nat) (w : Width) (s : State) : FabStatus × Nat × State :=
  match fabCheckAs first cls m a w false s with
  | (.ok, some (.reg r), t) => regRead r t
  | (.ok, some x, t) => windowRead m w.bytes x t
  | (st, _, t) => (st, 0, t)

/-- A fabric read of a master. -/
def fabRead (m : Master) (a : Nat) (w : Width) (s : State) : FabStatus × Nat × State := fabReadAs true m.cls m a w s

/-! ### Writing -/

/-- What each bit of a clear-control register clears (R10 WO). -/
def clears : List (Nat × Nat × List Nat) :=
  [(Reg.TSW_CLR, 0, [Reg.TSW_CNT]), (Reg.LF_CLR, 0, [Reg.LF_DROP]), (Reg.LF_CLR, 1, [Reg.LF_SKIP]),
   (Reg.AIR_LN_CLR 0, 0, [Reg.AIR_LN_DROP 0]), (Reg.AIR_LN_CLR 0, 1, [Reg.AIR_LN_TXCNT 0]),
   (Reg.AIR_LN_CLR 1, 0, [Reg.AIR_LN_DROP 1]), (Reg.AIR_LN_CLR 1, 1, [Reg.AIR_LN_TXCNT 1]),
   (Reg.AIR_LN_RXCLR 0, 0, [Reg.AIR_LN_RXERR0 0, Reg.AIR_LN_RXERR1 0, Reg.AIR_LN_RXERR2 0]),
   (Reg.AIR_LN_RXCLR 1, 0, [Reg.AIR_LN_RXERR0 1, Reg.AIR_LN_RXERR1 1, Reg.AIR_LN_RXERR2 1]),
   (Reg.FOX_CLR, 0, [Reg.FOX_CNT, Reg.FOX_REJ0, Reg.FOX_REJ1]), (Reg.VLT_CLR, 0, [Reg.VLT_DROP]), (Reg.VLT_CLR, 1, [Reg.VLT_DENY]),
   (Reg.CRY_CLR, 0, [Reg.CRY_DROP]), (Reg.ENT_CLR, 0, [Reg.ENT_CNT]), (Reg.LDG_CLR, 0, [Reg.LDG_DROP]), (Reg.LDG_CLR, 1, [Reg.LDG_ERR]),
   (Reg.RMC_CLR, 0, [Reg.RMC_DROP]), (Reg.RMC_CLR, 1, [Reg.RMC_ERR]), (Reg.CAN_CLR, 0, [Reg.CAN_DROP]),
   (Reg.CAN_CLR, 1, [Reg.CAN_CNT, Reg.RING_CNT]), (Reg.SETT_CLR, 0, [Reg.SETT_DROP]), (Reg.SETT_CLR, 1, [Reg.SETT_ERR]),
   (Reg.HPT_CLR, 0, [Reg.HPT_CNT]), (Reg.TAG_CLR, 0, [Reg.TAG_CNT]), (Reg.SES_CLR, 0, [Reg.SES_CNT, Reg.SES_STRK]),
   (Reg.WM_CLR, 0, [Reg.WM_CNT, Reg.WM_GLITCH])]

def isClear (a : Nat) : Bool := clears.any (fun c => c.1 == a)

/-- A write of a clear-control register. -/
def clearWrite (a v : Nat) (s : State) : State :=
  (clears.filter (fun c => c.1 == a && v / 2 ^ c.2.1 % 2 == 1)).foldl (fun s c => c.2.2.foldl (fun s r => s.wr r 0) s) s

/-- Whether a master's writes to the RW, W1C and W1S bits of a register take effect, where its chapter says who may (R248, R303, R407,
R418, R431); everything else is read-only to it. -/
def State.mayWrite (s : State) (m : Master) (a : Nat) : Bool :=
  if a = Reg.SES_LFAT ∨ a = Reg.SES_LFRUN ∨ a = Reg.SES_RELAYV then m == .sett && !s.isHead
  else if a < 0x10001000 then true
  else if 0x60010000 ≤ a ∧ a < 0x60020000 ∨ 0x70000000 ≤ a then true
  else serviceMaster m

/-- A register after a write of its RW, W1C and W1S bits (R10); a bit that the hardware has set in this tick, `hw`, is not cleared
(R12). -/
def rowWrite (r : RegRow) (old hw v : Word) : Word :=
  let m := fun (n : Nat) => BitVec.ofNat 32 n
  (((old &&& ~~~(m r.rw)) ||| (v &&& m r.rw)) &&& ~~~(v &&& m r.w1c &&& ~~~hw)) ||| (v &&& m r.w1s)

def plainWrite (m : Master) (a v : Nat) (s : State) : State :=
  match regRows.find? (fun r => r.addr ≤ a && (a - r.addr) % r.stride == 0 && (a - r.addr) / r.stride < r.count) with
  | none => s
  | some r => if s.mayWrite m a then s.wr a (rowWrite r (s.rd a) (regGet s.hwSet a) (BitVec.ofNat 32 v)) else s

/-- A register write, by the rules of the register's chapter. -/
def regWrite (m : Master) (a v : Nat) (s : State) : FabStatus × State :=
  if Reg.TIM_CTL 0 ≤ a ∧ a < Reg.TIM_CTL 8 then timRegWrite m ((a - Reg.TIM_CTL 0) / 32) ((a - Reg.TIM_CTL 0) % 32) v s
  else if a = Reg.TIM_GO then timGoWrite m v s
  else if a = Reg.TIM_STOP then timStopWrite m v s
  else if a = Reg.TSW_CAPCFG ∨ a = Reg.TSW_SWCFG then tswWrite m a v s
  else if isClear a then
    if m = .session then (.ok, clearWrite a v s) else if a = Reg.LDG_CLR then (.denied, s) else (.ok, s)
  else if 0x40000070 ≤ a ∧ a < 0x40000080 then legacyWrite m ((a - 0x40000070) / 4) v s
  else if a < 0x40010000 ∧ 0x40000000 ≤ a then vltWrite m a v s
  else if a < 0x40020000 ∧ 0x40010000 ≤ a then cryWrite m a v s
  else if a < 0x50000000 ∧ 0x40020000 ≤ a then entWrite m a v s
  else if a = Reg.LDG_STAT then (if serviceMaster m then (.ok, plainWrite m a v s) else (.denied, s))
  else if a = Reg.RMC_CMD ∨ a = Reg.RMC_TARG ∨ a = Reg.RMC_TCMD then rmcWrite m a v s
  else if 0x60030000 ≤ a ∧ a < 0x60040000 then tagWrite m a v s
  else (.ok, plainWrite m a v s)

/-- A write into a window. -/
def windowPut (m : Master) (b : Bytes) (x : Target) (s : State) : FabStatus × State :=
  match x with
  | .sram off => (.ok, { s with sram := memSetN s.sram off b })
  | .vltBuf off => vltBufWrite m off b s
  | .cryBuf off => cryBufWrite m off b s
  | .retained off => windowWrite m off b s
  | .tagMem off => tagMemPut m off b s
  | .relay _ => (.denied, s)
  | .reg _ => (.ok, s)

/-- A fabric write in a class, as a burst of its own or within one. -/
def fabWriteAs (first : Bool) (cls : Cls) (m : Master) (a : Nat) (w : Width) (v : Nat) (s : State) : FabStatus × State :=
  match fabCheckAs first cls m a w true s with
  | (.ok, some (.reg r), t) => regWrite m r v t
  | (.ok, some x, t) => windowPut m (leBytes w.bytes v) x t
  | (st, _, t) => (st, t)

/-- A fabric write of a master. -/
def fabWrite (m : Master) (a : Nat) (w : Width) (v : Nat) (s : State) : FabStatus × State := fabWriteAs true m.cls m a w v s

/-! ### Several words -/

/-- The words of an access from the `i`-th on; sixteen words, 64 bytes, are one burst (R22). The first word that fails ends it. -/
def fabReadFrom (i : Nat) (cls : Cls) (m : Master) (a : Nat) : Nat → State → FabStatus × List Nat × State
  | 0, s => (.ok, [], s)
  | n + 1, s =>
    match fabReadAs (i % 16 == 0) cls m (a + 4 * i) .b32 s with
    | (.ok, v, t) =>
      match fabReadFrom (i + 1) cls m a n t with
      | (.ok, vs, u) => (.ok, v :: vs, u)
      | (st, _, u) => (st, [], u)
    | (st, _, t) => (st, [], t)

/-- Words read in a class. -/
def fabReadN (cls : Cls) (m : Master) (a n : Nat) (s : State) : FabStatus × List Nat × State := fabReadFrom 0 cls m a n s

/-- The same for a write. -/
def fabWriteFrom (i : Nat) (cls : Cls) (m : Master) (a : Nat) : List Nat → State → FabStatus × State
  | [], s => (.ok, s)
  | v :: vs, s =>
    match fabWriteAs (i % 16 == 0) cls m (a + 4 * i) .b32 v s with
    | (.ok, t) => fabWriteFrom (i + 1) cls m a vs t
    | r => r

/-- Words written in a class. -/
def fabWriteN (cls : Cls) (m : Master) (a : Nat) (vs : List Nat) (s : State) : FabStatus × State := fabWriteFrom 0 cls m a vs s

/-- The answer of a command that is one fabric access. -/
def fabAnswer (m : Master) (r : FabStatus × State) : State := answerTo m r.1 [] r.2

end Sys2Proof.Machine
end

