-- ==== Sys2Proof/Machine/Diag.lean ====
section
/-! DEFINITION. The diagnostic transport, the command port and the services of Table 17-2 (R396 to R402). -/

namespace Sys2Proof.Machine

/-! ### What is refused before a service runs (R53, R91, R397) -/

/-- Services of Table 17-2 with the sessions each is supported in. -/
def diagServices : List (Nat × List Nat) :=
  [(0x10, [1, 2, 3]), (0x11, [2, 3]), (0x22, [1, 2, 3]), (0x23, [3]), (0x3D, [3]), (0x27, [2, 3]), (0x31, [3]), (0x34, [2]), (0x35, [3]),
   (0x36, [2, 3]), (0x37, [2, 3]), (0x3E, [1, 2, 3])]

/-- Services that need an authenticated session. -/
def diagAuth (sid : Nat) : Bool := [0x11, 0x31, 0x34, 0x35, 0x36, 0x37].contains sid

/-- Only the services that R53 names are offered: a head without an image, or in HALT (Table 20-1). -/
def State.diagMinimal (s : State) : Bool := s.img.run.isNone || s.bit Reg.SUP_HH_STAT_HALT

/-- The services a unit answers at all, with the NRC for the others (R53, R381). -/
def State.diagRole (s : State) (sid : Nat) : Option Nat :=
  if s.isHead then
    if s.diagMinimal ∧ [0x10, 0x11, 0x22, 0x27, 0x34, 0x36, 0x37, 0x3E].contains sid = false then some 0x22
    else if diagServices.any (fun p => p.1 == sid) then none else some 0x11
  else if [0x10, 0x22, 0x3E].contains sid ∨ s.isActing ∧ [0x27, 0x31].contains sid then none
  else some 0x11

/-- Data identifiers of Table 17-3: their content. -/
def State.did (s : State) (id : Nat) : Option Bytes :=
  match id with
  | 0xF18C => some (be 8 s.straps.serial)
  | 0xF195 => some (be 4 (s.shown Reg.MEM_IMG_VER).toNat)
  | 0xF1A0 => some (be 4 (s.shown Reg.DEVICE_ID).toNat)
  | 0xF1A1 => some (be 4 (s.shown Reg.MEM_IMG_STAT).toNat)
  | 0xF1A2 => some (be 4 (s.shown Reg.VLT_LC).toNat)
  | _ => none

/-- Lengths of the option records of Table 17-4. -/
def routineLen (rid : Nat) : Option Nat :=
  match rid with
  | 0xF001 => some 0
  | 0xF002 => some 30
  | 0xF003 => some 2
  | 0xF004 => some 1
  | 0xF005 => some 0
  | 0xF006 => some 3
  | 0xF007 => some 10
  | 0xF008 => some 4
  | 0xF009 => some 8
  | 0xF00A => some 16
  | _ => none

/-- Option records that name something that is not there. -/
def routineRange (rid : Nat) (o : Bytes) : Bool :=
  match rid with
  | 0xF003 => decide (fieldBe o 0 1 < 64 ∧ fieldBe o 1 1 < 2)
  | 0xF002 => decide (fieldBe o 0 4 ≠ 0 ∧ fieldBe o 28 2 < 32)
  | 0xF004 => decide (fieldBe o 0 1 < 64)
  | 0xF008 => fieldBe o 0 4 == 0x464D5400
  | _ => true

/-- RoutineControl: start only; the acting head has routine 0xF007 alone. -/
def State.routineForm (s : State) (m : Bytes) : Option Nat :=
  let rid := fieldBe m 2 2
  if m.length < 4 then some 0x13
  else if fieldBe m 1 1 ≠ 1 then some 0x12
  else
    match routineLen rid with
    | none => some 0x31
    | some n =>
      if s.isActing ∧ rid ≠ 0xF007 then some 0x31
      else if m.length ≠ 4 + n then some 0x13
      else if routineRange rid (m.drop 4) then none else some 0x31

/-- A service 0x23 or 0x3D with addressAndLengthFormatIdentifier 0x44 (R399). -/
def memoryForm (write : Bool) (m : Bytes) : Option Nat :=
  let n := fieldBe m 6 4
  if m.length < 10 then some 0x13
  else if fieldBe m 1 1 ≠ 0x44 ∨ n = 0 ∨ 64 < n ∨ n % 4 ≠ 0 then some 0x31
  else if m.length ≠ 10 + (if write then n else 0) then some 0x13
  else none

/-- RequestDownload and RequestUpload (R400, R401). -/
def transferForm (upload : Bool) (m : Bytes) : Option Nat :=
  let dfi := fieldBe m 1 1
  let addr := fieldBe m 3 4
  let size := fieldBe m 7 4
  if m.length ≠ 11 then some 0x13
  else if fieldBe m 2 1 ≠ 0x44 then some 0x31
  else if upload then
    if dfi = 0 ∧ 0 < size ∧ size % 64 = 0 ∨ dfi = 1 ∧ size = 0x100000 then none else some 0x31
  else if dfi = 0 ∧ addr = 0 ∧ 0 < size ∧ size ≤ 0x100000 then none else some 0x31

/-- Lengths and sub-functions; bit 7 of a sub-function suppresses the positive response (ISO 14229-1, log 40). -/
def State.diagForm (s : State) (m : Bytes) : Option Nat :=
  let sub := fieldBe m 1 1 % 128
  let simple := fun (ok : Bool) => if m.length ≠ 2 then some 0x13 else if ok then none else some 0x12
  match fieldBe m 0 1 with
  | 0x10 => simple (decide (1 ≤ sub ∧ sub ≤ 3))
  | 0x11 => simple (sub == 1)
  | 0x3E => simple (sub == 0)
  | 0x22 => if m.length ≠ 3 then some 0x13 else if (s.did (fieldBe m 1 2)).isSome then none else some 0x31
  | 0x23 => memoryForm false m
  | 0x3D => memoryForm true m
  | 0x27 =>
    if m.length < 2 then some 0x13
    else if fieldBe m 1 1 = 1 then (if m.length = 2 then none else some 0x13)
    else if fieldBe m 1 1 = 2 then (if m.length = 66 then none else some 0x13)
    else some 0x12
  | 0x31 => s.routineForm m
  | 0x34 => transferForm false m
  | 0x35 => transferForm true m
  | 0x36 => if m.length < 2 then some 0x13 else none
  | 0x37 => if m.length = 1 then none else some 0x13
  | _ => none

/-- The NRC of a message that no service takes (R397): the service, the session, the authentication, the form. -/
def State.diagRefusal (s : State) (m : Bytes) : Option Nat :=
  let sid := fieldBe m 0 1
  match s.diagRole sid with
  | some n => some n
  | none =>
    if diagServices.any (fun p => p.1 == sid && !p.2.contains s.can.session) then some 0x7F
    else if diagAuth sid ∧ s.can.authed = false then some 0x33
    else s.diagForm m

/-- Messages at the head of the queue that no service takes are answered. -/
def diagSettleN : Nat → State → State
  | 0, s => s
  | n + 1, s =>
    match diagPop s with
    | none => s
    | some (m, _, t) =>
      match s.diagRefusal m with
      | none => s
      | some nrc => diagSettleN n (diagNeg (fieldBe m 0 1) nrc t)

def diagSettle (s : State) : State := diagSettleN 32 s

/-- The next message, if `pick` says that it is this service's: served with its bytes from the sub-function or format on. -/
def diagServe (pick : Bytes → Bool) (f : Nat → Bytes → State → State) (s : State) : State :=
  let s := diagSettle s
  match diagPop s with
  | none => s
  | some (m, at_, t) => if pick m then diagSettle (f at_ (m.drop 1) t) else s

/-- The same for a service that draws random bytes: where there are none yet (false) the message stays, and a reseed asked for stays due. -/
def diagServeRand (pick : Bytes → Bool) (f : Bytes → State → Bool × State) (s : State) : State :=
  let s := diagSettle s
  match diagPop s with
  | none => s
  | some (m, _, t) =>
    if pick m then
      match f (m.drop 1) t with
      | (true, u) => diagSettle u
      | (false, u) => { s with ent := u.ent }
    else s

/-- A service by its identifier. -/
def isService (sid : Nat) (m : Bytes) : Bool := fieldBe m 0 1 == sid

/-- A start of a routine. -/
def isRoutine (rid : Nat) (m : Bytes) : Bool := fieldBe m 0 1 == 0x31 && fieldBe m 2 2 == rid

/-! ### The transport (R396, R402) -/

/-- Which diagnostic request a frame belongs to: some true where it is addressed to this unit, some false where functionally. -/
def State.diagTarget (s : State) (f : CanFrame) : Option Bool :=
  if (s.diagIdent 1).any (fun p => p.1 == f.id) then some true
  else if (s.diagIdent 2).any (fun p => p.1 == f.id && p.1 != 0) then some false
  else none

/-- A complete message restarts the S3 timeout (R397). -/
def diagHeard (s : State) : State := diagSettle { s with can := { s.can with lastReq := s.now } }

/-- A message begins: a place in the command port's queue, at P3; refused with NRC 0x21 while the answer budget lasts (R402). True where
it was taken. -/
def diagAdmit (sid : Nat) (m : Bytes) (s : State) : Bool × State :=
  match enqueue .canCmd .p3 .can (.diag m) s with
  | (.taken, t) => (true, t)
  | (.busy, t) => (false, diagNeg sid 0x21 (t.count Reg.CAN_CNT_BUSY 1))
  | (.dropped, t) => (false, t)
  | (.fault, t) => (false, diagNeg sid 0x22 t)

/-- The place of a message that is still being received. -/
def partPlace (i : QItem) : Bool :=
  match i.work with
  | .diag [] => true
  | _ => false

/-- A message being received is given up: its place in the queue is free again. -/
def rxAbandon (s : State) : State :=
  if s.can.rx.isNone then s
  else
    let q := s.queue .canCmd
    let t := { s with can := { s.can with rx := none } }
    t.setQueue .canCmd { q with items := q.items.eraseP partPlace }

/-- A single frame's message: its length in the first byte, or in the second of a longer FD frame. -/
def singleMsg (f : CanFrame) : Option Bytes :=
  let n := fieldBe f.data 0 1
  if n = 0 then
    let k := fieldBe f.data 1 1
    if f.fd ∧ 8 < f.data.length ∧ 8 ≤ k ∧ k + 2 ≤ f.data.length then some (sub f.data 2 k) else none
  else if n ≤ 7 ∧ n + 1 ≤ f.data.length then some (sub f.data 1 n)
  else none

/-- A single frame: a new message gives up one being received. -/
def singleFrame (phys : Bool) (f : CanFrame) (s : State) : State :=
  match singleMsg f with
  | none => s
  | some m =>
    match diagAdmit (fieldBe m 0 1) m (if phys then rxAbandon s else s) with
    | (true, t) => diagHeard t
    | (false, t) => t

/-- A first frame: the message's length and first bytes; flow control with BS 0 and STmin 0 answers it, an overflow one of more than
4,095 bytes. One whose message fits a single frame is ignored (ISO 15765-2, log 40). -/
def firstFrame (f : CanFrame) (s : State) : State :=
  let len := fieldBe f.data 0 2 % 4096
  let got := f.data.drop 2
  if f.data.length < 8 then s
  else if len = 0 then (if 4095 < fieldBe f.data 2 4 then diagFrame [0x32, 0, 0] s else s)
  else if len ≤ (if f.data.length = 8 then 7 else got.length) then s
  else
    match diagAdmit (fieldBe got 0 1) [] (rxAbandon s) with
    | (true, t) => diagFrame [0x30, 0, 0] { t with can := { t.can with rx := some ⟨len, got, 1, s.now⟩ } }
    | (false, t) => t

/-- A message has arrived whole: it takes the place kept for it. -/
def messageWhole (m : Bytes) (s : State) : State :=
  let q := s.queue .canCmd
  let t := { s with can := { s.can with rx := none } }
  diagHeard (t.setQueue .canCmd { q with items := q.items.map (fun i => if partPlace i then { i with work := .diag m, at_ := s.now } else i) })

/-- A consecutive frame: in sequence it goes on, otherwise the message is given up. -/
def consecutiveFrame (f : CanFrame) (s : State) : State :=
  match s.can.rx with
  | none => s
  | some x =>
    if fieldBe f.data 0 1 % 16 ≠ x.sn then rxAbandon s
    else
      let got := (x.got ++ f.data.drop 1).take x.len
      if x.len ≤ got.length then messageWhole got s
      else { s with can := { s.can with rx := some { x with got := got, sn := (x.sn + 1) % 16, at_ := s.now } } }

/-- STmin in µs (ISO 15765-2): 0 to 127 ms, 0xF1 to 0xF9 100 to 900 µs; a reserved value acts as 127 ms (log 40). -/
def stminUs (v : Nat) : Nat := if v < 128 then v * 1000 else if 0xF1 ≤ v ∧ v ≤ 0xF9 then (v - 0xF0) * 100 else 127000

/-- Flow control of the receiver of a response: 0 goes on for BS frames (0: all that are left), 1 waits again, 2 gives up. -/
def flowControl (f : CanFrame) (s : State) : State :=
  match s.can.tx with
  | none => s
  | some x =>
    match fieldBe f.data 0 1 % 16 with
    | 0 =>
      let bs := fieldBe f.data 1 1
      diagPump { s with can := { s.can with tx := some { x with block := if bs = 0 then x.rest.length else bs, stmin := stminUs (fieldBe f.data 2 1), last := none } } }
    | 1 => { s with can := { s.can with tx := some { x with at_ := s.now } } }
    | _ => diagSettle { s with can := { s.can with tx := none } }

/-- ISO_TP_FRAME (R396, R402): a frame of DIAG_REQ or DIAG_FUNC; functional requests are single frames. A satellite without an image
knows no identifiers (R474). -/
def execIsoTpFrame (f : CanFrame) (s : State) : Host.Outcome State Fault Refusal :=
  if s.canOn = false ∨ f.taken = false ∨ s.isHead = false ∧ s.img.run.isNone then .next s
  else
    match s.diagTarget f with
    | none => .next s
    | some phys =>
      let t := awake (enter .can f.data s)
      match fieldBe f.data 0 1 / 16, phys with
      | 0, _ => .next (singleFrame phys f t)
      | 1, true => .next (firstFrame f t)
      | 2, true => .next (consecutiveFrame f t)
      | 3, true => .next (flowControl f t)
      | _, _ => .next t

/-- NCR_TIMEOUT (R396): no next consecutive frame within 150 ms. -/
def execNcrTimeout (s : State) : Host.Outcome State Fault Refusal :=
  match s.can.rx with
  | none => .next s
  | some x => if s.after x.at_ 150000 then .next (rxAbandon s) else .next s

/-- NBS_TIMEOUT (R396): no flow control within 1,000 ms. -/
def execNbsTimeout (s : State) : Host.Outcome State Fault Refusal :=
  match s.can.tx with
  | none => .next s
  | some x =>
    if x.block = 0 ∧ s.after x.at_ 1000000 then .next (diagSettle { s with can := { s.can with tx := none } }) else .next s

/-! ### Sessions (R397, R398) -/

/-- A change of session ends a transfer; the default session ends authentication. -/
def sessionTo (n : Nat) (s : State) : State :=
  let t := if n = s.can.session then s else { s with can := { s.can with xfer := none } }.setBit Reg.LDG_STAT_EXPORT false
  { t with can := { t.can with session := n, authed := t.can.authed && n != 1, seed := if n = s.can.session then t.can.seed else none } }

/-- S3_TIMEOUT (R397). -/
def execS3Timeout (s : State) : Host.Outcome State Fault Refusal :=
  if s.can.session ≠ 1 ∧ s.can.routine = none ∧ s.after s.can.lastReq 5000000 then .next (diagSettle (sessionTo 1 s)) else .next s

/-- A positive response unless it is suppressed. -/
def diagPosUnless (quiet : Bool) (sid : Nat) (data : Bytes) (s : State) : State := if quiet then s else diagPos sid data s

/-- DIAGNOSTIC_SESSION_CONTROL (R397): the answer gives P2 in 1 ms and P2* in 10 ms. -/
def execDiagnosticSessionControl (s : State) : Host.Outcome State Fault Refusal :=
  .next (diagServe (isService 0x10) (fun _ b t =>
    let sub := fieldBe b 0 1
    diagPosUnless (decide (128 ≤ sub)) 0x10 (be 1 (sub % 128) ++ be 2 50 ++ be 2 500) (sessionTo (sub % 128) t)) s)

/-- ECU_RESET (R397): answered, then a reset with cause ECURST. One that stood ready when another source reset the unit in this tick is
recorded beside it (R60). -/
def execEcuReset (s : State) : Host.Outcome State Fault Refusal :=
  if s.justReset ∧ s.power.dueEcu then .next (restartOnly .ecurst { s with power := { s.power with dueEcu := false } }) else
  .next (diagServe (isService 0x11) (fun _ b t =>
    let u := diagPosUnless (decide (128 ≤ fieldBe b 0 1)) 0x11 [1] t
    let v := restartOnly .ecurst u
    { v with outs := { v.outs with diag := u.outs.diag } }) s)

/-- TESTER_PRESENT (R397). -/
def execTesterPresent (s : State) : Host.Outcome State Fault Refusal :=
  .next (diagServe (isService 0x3E) (fun _ b t => diagPosUnless (decide (128 ≤ fieldBe b 0 1)) 0x3E [0] t) s)

/-- READ_DATA_BY_IDENTIFIER (R397, Table 17-3). -/
def execReadDataByIdentifier (s : State) : Host.Outcome State Fault Refusal :=
  .next (diagServe (isService 0x22) (fun _ b t => diagPos 0x22 (b.take 2 ++ (t.did (fieldBe b 0 2)).getD []) t) s)

/-- The NRC of a fabric status (R399). -/
def fabNrc : FabStatus → Nat
  | .busy => 0x21
  | .denied => 0x33
  | .unmapped | .width => 0x31
  | .ok | .off | .fault | .escort | .preempted | .entropyWait | .entropyFail | .silent => 0x22

/-- The negative response of an access that did not complete OK; a dropped one gets no answer (R33). -/
def diagRefused (sid : Nat) (st : FabStatus) (s : State) : State := if st = .silent then diagSettle s else diagNeg sid (fabNrc st) s

/-- READ_MEMORY_BY_ADDRESS (R399). -/
def execReadMemoryByAddress (s : State) : Host.Outcome State Fault Refusal :=
  .next (diagServe (isService 0x23) (fun _ b t =>
    match fabReadN .p3 .can (fieldBe b 1 4) (fieldBe b 5 4 / 4) t with
    | (.ok, vs, u) => diagPos 0x23 (vs.flatMap (leBytes 4)) u
    | (st, _, u) => diagRefused 0x23 st u) s)

/-- The words that bytes spell, the lowest byte first (R9, R399). -/
def leWords (b : Bytes) : List Nat := (chunks 4 b).map leNat

/-- WRITE_MEMORY_BY_ADDRESS (R399). -/
def execWriteMemoryByAddress (s : State) : Host.Outcome State Fault Refusal :=
  .next (diagServe (isService 0x3D) (fun _ b t =>
    match fabWriteN .p3 .can (fieldBe b 1 4) (leWords (b.drop 9)) t with
    | (.ok, u) => diagPos 0x3D (b.take 9) u
    | (st, u) => diagRefused 0x3D st u) s)

/-- SECURITY_ACCESS_SEED (R398): a new seed replaces an older one; the request waits while the DRBG has none to give (R354). -/
def execSecurityAccessSeed (s : State) : Host.Outcome State Fault Refusal :=
  .next (diagServeRand (fun m => isService 0x27 m && fieldBe m 1 1 == 1) (fun _ t =>
    if t.can.lockout.isSome then (true, diagNeg 0x27 0x37 t)
    else
      match randReq false 16 t with
      | (.bytes b, u) => (true, diagPos 0x27 (1 :: b) { u with can := { u.can with seed := some b } })
      | (.fail, u) => (true, diagNeg 0x27 0x22 u)
      | (.wait, u) => (false, u)) s)

/-- A failure of SecurityAccess: the third within the power cycle, and each further one, locks out for 10 s (R398, log 40). -/
def securityFailed (s : State) : State :=
  let n := s.can.authFails + 1
  let t := { s with can := { s.can with authFails := n, seed := none, lockout := if 3 ≤ n then some s.now else none } }
  diagNeg 0x27 (if 3 ≤ n then 0x36 else 0x35) (t.count Reg.CAN_CNT_AUTHF 1)

/-- The signature of a key message against slot 4 (R398). -/
def securityKey (seed sig : Bytes) (s : State) : Bool × State :=
  match keyCheck 4 [5] (some 12) 6 .session .internal s with
  | (some _, t) => (false, t)
  | (none, t) =>
    let m := ascii "DENT" ++ be 8 t.straps.serial ++ be 4 t.vehicleId ++ seed
    ((t.publicPoint 4).any (fun p => ecdsaVerify p (sha256 m) sig), t)

/-- SECURITY_ACCESS_KEY (R398): a seed is used once. -/
def execSecurityAccessKey (s : State) : Host.Outcome State Fault Refusal :=
  .next (diagServe (fun m => isService 0x27 m && fieldBe m 1 1 == 2) (fun _ b t =>
    if t.can.lockout.isSome then diagNeg 0x27 0x37 t
    else
      match t.can.seed with
      | none => diagNeg 0x27 0x24 t
      | some seed =>
        match securityKey seed (b.drop 1) t with
        | (true, u) => diagPos 0x27 [2] { u with can := { u.can with seed := none, authed := u.can.session != 1 } }
        | (false, u) => securityFailed u) s)

/-- SECURITY_DELAY_EXPIRY (R398). -/
def execSecurityDelayExpiry (s : State) : Host.Outcome State Fault Refusal :=
  match s.can.lockout with
  | none => .next s
  | some t => if s.after t 10000000 then .next { s with can := { s.can with lockout := none } } else .next s

/-! ### Transfers (R55, R56, R400, R401) -/

/-- The slot a download goes to: the one that is not ACTIVE (true B). -/
def State.stagedSlot (s : State) : Bool := s.selector.active == 0

/-- A download is refused (R55). -/
def State.downloadRefused (s : State) : Bool :=
  s.selector.trial == 1 || s.lc != 2 && s.lc != 3 || (match s.can.xfer with
    | some (.download _ _ _ _) => true
    | _ => false)

/-- REQUEST_DOWNLOAD (R55, R400): PENDING := none is committed first; the answer follows it. -/
def execRequestDownload (s : State) : Host.Outcome State Fault Refusal :=
  .next (diagServe (isService 0x34) (fun _ b t =>
    if t.downloadRefused then diagNeg 0x34 0x22 t
    else
      match submitGroup .p3 ⟨[{ t.selector with pending := 0 }.write], .downloadOpen⟩ t with
      | (.taken, u) => { u with can := { u.can with routine := some (.downloadOpen (fieldBe b 6 4)) } }
      | (_, u) => diagNeg 0x34 0x21 u) s)

/-- A slot of the NOR with bytes appended. -/
def norAppend (slotB : Bool) (b : Bytes) (s : State) : State :=
  if slotB then { s with straps := { s.straps with norB := s.straps.norB ++ b } }
  else { s with straps := { s.straps with norA := s.straps.norA ++ b } }

/-- A block of a transfer. -/
def transferBlock (b : Bytes) (s : State) : State :=
  let ctr := fieldBe b 0 1
  let data := b.drop 1
  match s.can.xfer with
  | none => diagNeg 0x36 0x24 s
  | some (.download slotB size got next) =>
    if ctr ≠ next then diagNeg 0x36 0x73 s
    else if data = [] ∨ 2048 < data.length ∨ size < got + data.length then diagNeg 0x36 0x31 s
    else
      let t := norAppend slotB data s
      diagPos 0x36 (be 1 ctr) { t with can := { t.can with xfer := some (.download slotB size (got + data.length) ((next + 1) % 256)) } }
  | some (.upload rest next) =>
    if ctr ≠ next then diagNeg 0x36 0x73 s
    else if rest = [] then diagNeg 0x36 0x24 s
    else
      diagPos 0x36 (be 1 ctr ++ rest.take 2048) { s with can := { s.can with xfer := some (.upload (rest.drop 2048) ((next + 1) % 256)) } }

/-- TRANSFER_DATA (R400, R401). -/
def execTransferData (s : State) : Host.Outcome State Fault Refusal := .next (diagServe (isService 0x36) (fun _ b t => transferBlock b t) s)

/-- The staged image passes, or its rejection code (R56): R49, then VEHICLE unless the last-run page is blank. `held` says whether the
reads of the slot held. -/
def stagedVerdict (slotB held : Bool) (s : State) : Option Nat × State :=
  match verifySlot slotB held s with
  | (.rejected c, t) => (some c, t)
  | (.ok i, t) => if (t.img.run.isSome ∨ t.lastRun.isSome) ∧ i.vehicle ≠ t.vehicleId then (some 0x0D, t) else (none, t)

/-- The end of a download: verification, then the slot is marked pending (R56). -/
def downloadEnd (slotB held : Bool) (s0 : State) : State :=
  let s := { s0 with can := { s0.can with xfer := none } }
  match stagedVerdict slotB held s with
  | (some c, t) => diagNeg 0x37 0x72 (t.put (rejFld slotB) c)
  | (none, t) =>
    match submitGroup .p3 ⟨[{ t.selector with pending := if slotB then 2 else 1 }.write], .markPending⟩ (t.put (rejFld slotB) 0) with
    | (.taken, u) => { u with can := { u.can with routine := some .transferExit } }
    | (_, u) => diagNeg 0x37 0x21 u

/-- REQUEST_TRANSFER_EXIT (R56, R400): `held` says whether the escorts of the NOR reads of the staged slot held, at once or within their
recomputations. -/
def execRequestTransferExit (held : Bool) (s : State) : Host.Outcome State Fault Refusal :=
  .next (diagServe (isService 0x37) (fun _ _ t =>
    match t.can.xfer with
    | none => diagNeg 0x37 0x24 t
    | some (.download slotB size got _) => if got < size then diagNeg 0x37 0x24 t else downloadEnd slotB held t
    | some (.upload _ _) => diagPos 0x37 [] ({ t with can := { t.can with xfer := none } }.setBit Reg.LDG_STAT_EXPORT false)) s)

/-- Records from a NUM on, as an export delivers them (R301). -/
def readRecs : Nat → Nat → State → Bytes × State
  | 0, _, s => ([], s)
  | n + 1, num, s =>
    match readRec num s with
    | (b, t) =>
      match readRecs n (num + 1) t with
      | (bs, u) => (b ++ bs, u)

/-- The first NUM past the records sealed. -/
def State.nextNum (s : State) : Nat := s.get Reg.LDG_NEXT_V

/-- An export begins: the flush of R295, LDG_STAT.EXPORT. -/
def exportBegin (data : Bytes) (s : State) : State :=
  diagPos 0x35 [0x20, 0x08, 0x02]
    ({ s with can := { s.can with xfer := some (.upload data 1) } }.setBit Reg.LDG_STAT_EXPORT true)

/-- REQUEST_UPLOAD (R301, R401): records of a NUM range, or an archive frame. -/
def execRequestUpload (s : State) : Host.Outcome State Fault Refusal :=
  .next (diagServe (isService 0x35) (fun _ b t =>
    let addr := fieldBe b 2 4
    let n := fieldBe b 6 4 / 64
    if t.can.xfer.isSome then diagNeg 0x35 0x22 t
    else if fieldBe b 0 1 = 1 then
      match t.nand.archive[addr]? with
      | some img => exportBegin (img ++ List.replicate (0x100000 - img.length) 0xFF) t
      | none => diagNeg 0x35 0x31 t
    else if t.bit Reg.LDG_STAT_READY = false then diagNeg 0x35 0x22 t
    else if t.nextNum < addr + n then diagNeg 0x35 0x31 t
    else
      match readRecs n addr (sectorProgram t) with
      | (data, u) => exportBegin data u) s)

end Sys2Proof.Machine
end

