-- ==== Sys2Proof/Machine/Routines.lean ====
section
/-! DEFINITION. The routines of Table 17-4 (R401). -/

namespace Sys2Proof.Machine

/-- A routine served: its option record, and when its message ended. -/
def routineServe (rid : Nat) (f : Nat → Bytes → State → State) (s : State) : State :=
  diagServe (isRoutine rid) (fun at_ b t => f at_ (b.drop 3) t) s

/-- CONFIRM_IMAGE (R54): the answer follows once the image is confirmed. -/
def execConfirmImage (s : State) : Host.Outcome State Fault Refusal :=
  .next (routineServe 0xF001 (fun _ _ t =>
    if t.bit Reg.MEM_IMG_STAT_TRIAL = false then diagNeg 0x31 0x22 t
    else if t.img.confirming then diagNeg 0x31 0x21 t
    else
      match confirmBegin true t with
      | (true, u) => { u with can := { u.can with routine := some .confirm } }
      | (false, u) => diagNeg 0x31 0x21 u) s)

/-- FOBPOL.enrol lets the life-cycle state enrol (R225). -/
def State.enrolAllowed (s : State) : Bool := (s.img.run.map (fun i => i.fobpol.enrol / 2 ^ s.lc % 2 == 1)).getD false && !s.isActing

/-- ENROL_FOB (R225): ENROL goes out; the answer, after NRC 0x78, follows ENROLLED. -/
def execEnrolFob (s : State) : Host.Outcome State Fault Refusal :=
  .next (routineServe 0xF002 (fun _ o t =>
    if t.enrolAllowed = false ∨ t.ses.enrol.isSome then diagNeg 0x31 0x22 t
    else
      match enrolStart (fieldBe o 0 4) (fieldBe o 20 8) (fieldBe o 28 2) (sub o 4 16) t with
      | none => diagNeg 0x31 0x22 t
      | some u => diagNeg 0x31 0x78 { u with can := { u.can with routine := some .enrol } }) s)

/-- The BODY of a FOB_EVENT (Table 12-3). -/
def fobEvent (event : Nat) (record : Nat) (r : FobRec) : Bytes :=
  be 1 event ++ be 1 record ++ be 1 r.gen ++ [0] ++ be 4 r.fobId ++ be 8 r.driver

/-- An empty record. -/
def FobRec.empty : FobRec := ⟨0, 0, 0, 0, 0, 0, 0⟩

/-- A fob record is rewritten for the tester; the answer and the FOB_EVENT follow the commit. -/
def fobRewrite (rid record : Nat) (r : FobRec) (event : Bytes) (s : State) : State :=
  match fobCommit .p3 record r.bytes (.fobRoutine rid record) s with
  | (.taken, t) => { t with can := { t.can with routine := some (.fob rid event) } }
  | (_, t) => diagNeg 0x31 0x21 t

/-- Routine 0xF003 with one value of its second byte. -/
def isBar (v : Nat) (m : Bytes) : Bool := isRoutine 0xF003 m && fieldBe m 5 1 == v

/-- BAR_FOB (R401). -/
def execBarFob (s : State) : Host.Outcome State Fault Refusal :=
  .next (diagServe (isBar 1) (fun _ b t =>
    let n := fieldBe b 3 1
    match t.fob n with
    | none => diagNeg 0x31 0x22 t
    | some r => fobRewrite 0xF003 n { r with state := 2 } (fobEvent 3 n r) t) s)

/-- UNBAR_FOB (R401): the record is active again. Table 12-3 gives an unbarring no event code: it is free (log 41). -/
def execUnbarFob (s : State) : Host.Outcome State Fault Refusal :=
  .next (diagServe (isBar 0) (fun _ b t =>
    let n := fieldBe b 3 1
    match t.fob n with
    | none => diagNeg 0x31 0x22 t
    | some r =>
      match freeBytes 1 t with
      | (e, u) => fobRewrite 0xF003 n { r with state := 1 } (e ++ (fobEvent 0 n r).drop 1) u) s)

/-- EMPTY_FOB_RECORD (R401). -/
def execEmptyFobRecord (s : State) : Host.Outcome State Fault Refusal :=
  .next (routineServe 0xF004 (fun _ o t =>
    let n := fieldBe o 0 1
    fobRewrite 0xF004 n FobRec.empty (fobEvent 4 n ((t.fob n).getD FobRec.empty)) t) s)

/-- CLEAR_COUNTERS (R401, R446): every clear-control register is written; the Hedgehog clears SUP_RGN_STAT. -/
def execClearCounters (s : State) : Host.Outcome State Fault Refusal :=
  .next (routineServe 0xF005 (fun _ _ t =>
    let u := (clears.map (·.1)).dedup.foldl (fun s a => clearWrite a 0xFFFFFFFF s) t
    routineOk 0xF005 [] ((u.put Reg.SUP_RGN_STAT_REFUSED 0).put Reg.SUP_RGN_STAT_ESC 0)) s)

/-- One channel of a coil test's status record. -/
def coilStatus (s : State) (c : Nat) : Bytes :=
  be 1 (s.get (Reg.LF_CH_STAT_LAST c)) ++ be 4 (s.get (Reg.LF_CH_RES_FRES c)) ++ be 1 (s.get (Reg.LF_CH_RES_QF c))

/-- COIL_TEST_ROUTINE (R123): NRC 0x78, then the tests run at P3 and the answer follows the last. The results of another unit's coils,
which that unit measures, are an operand (log 42). -/
def execCoilTestRoutine (remote : List (Nat × Nat × Nat)) (s : State) : Host.Outcome State Fault Refusal :=
  .next (routineServe 0xF006 (fun _ o t =>
    let unit := fieldBe o 0 1
    let chans := maskChans (fieldBe o 1 2)
    if unit = t.unitNum then
      match askTests chans .p3 .can t with
      | (true, u) => diagNeg 0x31 0x78 { u with can := { u.can with routine := some (.coil chans) } }
      | (false, u) => diagNeg 0x31 0x21 u
    else if unit = 0 ∨ 16 < unit ∨ t.bitAt Reg.SETT_MAP_V (unit - 1) = false then diagNeg 0x31 0x22 t
    else routineOk 0xF006 (((List.range chans.length).map (fun i => remote.getD i (0, 0, 0))).flatMap
      (fun r => be 1 r.1 ++ be 4 r.2.1 ++ be 1 r.2.2)) t) s)

/-- A coil test of the tester's is complete: no test of class P3 is left. -/
def coilRoutineEnd (s : State) : State :=
  match s.can.routine with
  | some (.coil chans) =>
    let waits := [0, 1].any (fun b => (s.queue (.bank b)).items.any (fun i => match i.work with
      | .coils _ => i.cls == .p3
      | .lf _ | .coupled _ | .burst | .trigger _ | .record _ | .frame _ | .can _ | .group _ | .tally _ | .lane _ | .diag _ => false))
    if waits || s.lf.test.any (fun x => x.cls == .p3) then s else diagSettle (routineOk 0xF006 (chans.flatMap (coilStatus s)) s)
  | _ => s

/-- SET_TIME (R256, R257): the Chronicle is sampled at the end of the message's last frame. -/
def execSetTime (s : State) : Host.Outcome State Fault Refusal :=
  .next (routineServe 0xF007 (fun at_ o t =>
    match t.img.run with
    | none => diagNeg 0x31 0x22 t
    | some i =>
      if fieldBe o 0 8 < i.built * 4194304 then diagNeg 0x31 0x31 t
      else routineOk 0xF007 [] (applyTimeSet (fieldBe o 0 8 + (t.now - at_)) (toInt 16 (fieldBe o 8 2)) t)) s)

/-- The ledger is formatted on the devices that meet R287, and opened where it was not open. -/
def formatNow (s : State) : State :=
  let t := checkDevice 1 (checkDevice 0 { s with led := { s.led with served := [true, true] } })
  if t.led.served.all (!·) then diagNeg 0x31 0x22 t
  else
    let u := ledgerFormat t
    routineOk 0xF008 [] (if s.bit Reg.LDG_STAT_READY ∧ s.bit Reg.LDG_STAT_HALT = false then setMirrors u else openDone { u with led := { u.led with opened := false } })

/-- FORMAT_LEDGER (R289): in SERVICE. -/
def execFormatLedger (s : State) : Host.Outcome State Fault Refusal :=
  .next (routineServe 0xF008 (fun _ _ t => if t.lc ≠ 3 then diagNeg 0x31 0x22 t else formatNow t) s)

/-- The first NUM of a range whose MAC does not chain or which cannot be read (R301). Where the record before the range is gone, the
first one's MAC stands as given. -/
def State.verifyRange (s : State) (key : Bytes) (first last : Nat) : Nat :=
  let find := fun n => (s.findRec n).map (·.1)
  let r :=
    if first = 0 then walkMac key find (last + 1) 0 (zeros 16)
    else
      match find (first - 1), find first with
      | some p, _ => walkMac key find (last + 1 - first) first (recMac p)
      | none, some b => walkMac key find (last - first) (first + 1) (recMac b)
      | none, none => first
  if r ≤ last then r else 0xFFFFFFFF

/-- VERIFY_LEDGER (R301). -/
def execVerifyLedger (s : State) : Host.Outcome State Fault Refusal :=
  .next (routineServe 0xF009 (fun _ o t =>
    let first := fieldBe o 0 4
    let last := fieldBe o 4 4
    match t.slotKey 5 with
    | none => diagNeg 0x31 0x22 t
    | some key =>
      if t.bit Reg.LDG_STAT_READY = false ∨ t.nextNum ≤ last then diagNeg 0x31 0x22 t
      else if last < first then diagNeg 0x31 0x31 t
      else routineOk 0xF009 (be 4 (t.verifyRange key first last)) t) s)

/-- ATTEST_SLOT3 (R337): refused where slot 0, or slot 3 itself, is unusable. -/
def execAttestSlot3 (s : State) : Host.Outcome State Fault Refusal :=
  .next (diagServeRand (isRoutine 0xF00A) (fun b t =>
    match keyCheck 0 [4] (some 10) 8 .session .internal t with
    | (some _, u) => (true, diagNeg 0x31 0x22 u)
    | (none, u) =>
      let nonce := sub b 3 16
      if u.den.unusable.contains 3 ∨ slotCrcOk (u.slotBytes 3) = false then (true, diagNeg 0x31 0x22 (slotSweep 3 u))
      else
        match attest 3 nonce u with
        | (.bytes sig, v) => (true, routineOk 0xF00A (u.statement 3 nonce ++ sig) v)
        | (.fail, v) => (true, diagNeg 0x31 0x22 v)
        | (.wait, v) => (false, v)) s)

end Sys2Proof.Machine
end

