-- ==== Sys2Proof/Machine/SettOps.lean ====
section
/-! DEFINITION. Reception on the Sett chain (R75 to R81): what a unit does with any frame before its type matters. -/

namespace Sys2Proof.Machine

/-! ### Headers (Tables 4-2 and 4-3) -/

def SettFrame.typ (f : SettFrame) : Nat := f.hdr / 2048 % 32
def SettFrame.bc (f : SettFrame) : Bool := f.hdr / 1024 % 2 == 1

/-- Destination and source by unit number. -/
def SettFrame.dst (f : SettFrame) : Nat := f.hdr / 64 % 16 + 1
def SettFrame.src (f : SettFrame) : Nat := f.hdr / 4 % 16 + 1

def SettFrame.cls (f : SettFrame) : Cls := Cls.ofCode (f.hdr % 4)

/-- The types of Table 4-3, with the class where the table fixes it. -/
def settTypes : List (Nat × Option Cls) :=
  [(0x01, some .p1), (0x02, some .p1), (0x03, some .p1), (0x04, some .p1), (0x05, some .p1), (0x06, some .p1), (0x07, some .p1),
   (0x08, some .p1), (0x09, some .p3), (0x0A, some .p3), (0x0B, some .p1), (0x0C, some .p1), (0x0D, some .p1), (0x0E, some .p0),
   (0x0F, some .p0), (0x10, none), (0x11, none), (0x12, some .p2), (0x13, some .p1), (0x14, some .p1), (0x15, none), (0x16, some .p1),
   (0x17, some .p1), (0x18, some .p1), (0x19, some .p1), (0x1A, some .p1), (0x1B, some .p1)]

/-- Chain-control traffic (R93). -/
def chainControl : List Nat := [0x02, 0x05, 0x06, 0x07, 0x08, 0x09, 0x0A, 0x0B, 0x0C, 0x16, 0x17, 0x19, 0x1A]

/-- Types that go no further than one segment. -/
def linkLocal : List Nat := [0x01, 0x06, 0x07, 0x16, 0x17]

/-- The direction in which a frame travels (R74, R78): frames of the head and broadcasts go down, frames to the head up, the types of one
segment as Table 4-3 says. -/
def SettFrame.goesDown (f : SettFrame) : Bool :=
  f.bc || [0x01, 0x06, 0x16, 0x19].contains f.typ || ([0x07, 0x17].contains f.typ == false && decide (f.src < f.dst))

/-! ### Access to a segment (R74) -/

def State.port (s : State) (down : Bool) : SettPort := if down then s.sett.down else s.sett.up

def setPort (down : Bool) (p : SettPort) (s : State) : State :=
  if down then { s with sett := { s.sett with down := p } } else { s with sett := { s.sett with up := p } }

/-- A segment has been silent for a time. -/
def SettPort.silent (p : SettPort) (us at_ : Nat) : Bool := p.quietAt.all (fun q => decide (q * 1000000 + us * 4194304 ≤ at_ * 1000000))

/-- This unit may start a frame: as upstream end after 1 µs of silence, after 3 µs once it has sent eight back to back; as downstream end
after 2 µs. -/
def SettPort.opens (p : SettPort) (down : Bool) (at_ : Nat) : Bool := p.silent (if down then (if 8 ≤ p.burst then 3 else 1) else 2) at_

/-- A frame of this unit's is on a segment from a tick on. -/
def portBusy (down : Bool) (from_ ticks : Nat) (s : State) : State :=
  let p := s.port down
  setPort down ⟨some (from_ + ticks), if p.silent 3 from_ then 1 else p.burst + 1⟩ s

/-- A frame of the other end's has just ended on a segment: this unit has deferred to it. -/
def portHeard (down : Bool) (s : State) : State := setPort down ⟨some (max s.now ((s.port down).quietAt.getD 0)), 0⟩ s

/-! ### Forwarding (R79, R90, R93) -/

/-- ABSENT (R90): the splice end answers a frame addressed to a unit beyond it. -/
def settAbsent (f : SettFrame) (s : State) : State :=
  settSend 0x15 false f.src f.cls (be 1 (f.src - 1) ++ be 4 f.ctr ++ be 1 f.typ) s

/-- An outgoing copy ends with an abort delimiter. -/
def cutCopy (down : Bool) (f : SettFrame) (s : State) : State :=
  { s with sett := { s.sett with cut := ((down, f.hdr) :: s.sett.cut).take 16 } }

/-- A frame waits for a direction. -/
def State.settWaits (s : State) (down : Bool) : Bool := (s.sett.stored ++ s.sett.late).any (fun p => p.1 == down)

/-- The outgoing segment was free when a frame that has just come began: its copy has been cut through. -/
def State.cutThrough (s : State) (down : Bool) (f : SettFrame) : Bool :=
  !s.settWaits down && (s.port down).opens down (s.now - settTicks f)

/-- A frame goes on to the next segment: cut through, or from the store of two frames a direction; a TIME_SYNC is never stored. A frame
that finds both places taken keeps its turn behind them (R81, log 47). -/
def settPass (down : Bool) (f : SettFrame) (s : State) : State :=
  if s.cutThrough down f then
    portBusy down (s.now - settTicks f) (settTicks f + s.sett.fwd.toNat / 9375 + 1)
      { s with sett := { s.sett with forwarded := ((down, f) :: s.sett.forwarded).take 16 } }
  else if f.typ = 0x05 then cutCopy down f s
  else if (s.sett.stored.filter (fun p => p.1 == down)).length < 2 then { s with sett := { s.sett with stored := s.sett.stored ++ [(down, f)] } }
  else { s with sett := { s.sett with late := s.sett.late ++ [(down, f)] } }

/-- A frame that the unit does not consume, or a broadcast (R79): nothing goes beyond a splice end, only chain control onto a segment
that is being spliced; an unnumbered unit forwards nothing (R82). -/
def settForward (f : SettFrame) (s : State) : State :=
  if s.unitNum = 0 then s
  else if f.goesDown then
    let shut := if s.sett.restricted then !chainControl.contains f.typ else s.bit Reg.SETT_STAT_LAST
    if shut then (if f.bc then s else settAbsent f s) else settPass true f s
  else if s.bit Reg.SETT_STAT_UPUP then settPass false f s
  else s

/-- The copy of a frame that is not carried on ends with an abort delimiter, where one has begun (R79). -/
def copyCut (f : SettFrame) (s : State) : State :=
  let down := f.goesDown
  if s.unitNum ≠ 0 ∧ (if down then s.bit Reg.SETT_STAT_LAST = false else s.bit Reg.SETT_STAT_UPUP) ∧ s.cutThrough down f then cutCopy down f s
  else s

/-- What a unit sees in the frames that it passes upward (R86, R91): units below that come into service, or go out of it. -/
def settWatch (f : SettFrame) (s : State) : State :=
  if f.goesDown ∨ f.src ≤ s.unitNum then s
  else if f.typ = 0x1A ∨ f.typ = 0x0B ∧ fieldBe f.payload 0 1 = 0 then
    { s with sett := { s.sett with below := s.sett.below ||| 2 ^ (f.src - 1), downQuar := s.sett.downQuar && f.src != s.unitNum + 1 } }
  else if f.typ = 0x13 ∧ fieldBe f.payload 0 2 = 0x6106 then { s with sett := { s.sett with below := s.sett.below % 2 ^ f.src } }
  else s

/-- The frame is for this unit: SPLICE_ASSIGN also for every unit beyond the splice end (R93). -/
def SettFrame.forMe (f : SettFrame) (s : State) : Bool :=
  linkLocal.contains f.typ || f.bc || f.dst == s.unitNum || (s.isActing && f.dst == 1) || (f.typ == 0x19 && (s.unitNum == 0 || s.sett.idleSent))

/-! ### Checks -/

/-- A mismatch on the link counts towards the 16 of R29. -/
def settMismatch (s : State) : State :=
  match escMismatch .sett s with
  | (true, t) => reportFault .sett Block.sett.faultCode 0 t
  | (false, t) => t

/-- RETX sent so far for the frame of a source and type that is awaited again: it comes under a new CTR (R80, log 94). -/
def State.retxTimes (s : State) (src typ : Nat) : Nat :=
  ((s.sett.retxs.find? (fun p => p.1 == src && p.2.1 == typ && s.within p.2.2.2 5000)).map (·.2.2.1)).getD 0

/-- The frame of a source and type is no longer awaited. -/
def retxOver (src typ : Nat) (s : State) : State :=
  { s with sett := { s.sett with retxs := s.sett.retxs.filter (fun p => !(p.1 == src && p.2.1 == typ)) } }

/-- RETX for a frame (R28, R80): naming its source and counter, and counted. -/
def retxAsk (src typ ctr : Nat) (s : State) : State :=
  let t := retxOver src typ (recomputes .sett s)
  settSend 0x14 false src .p1 (be 1 (src - 1) ++ be 4 ctr)
    { t with sett := { t.sett with retxs := ((src, typ, s.retxTimes src typ + 1, s.now) :: t.sett.retxs).take 16 } }

/-- A RESPONSE (R78). -/
def settRespond (to_ : Nat) (cls : Cls) (tag : Nat) (st : FabStatus) (words : List Nat) (s : State) : State :=
  settSend 0x11 false to_ cls (be 2 tag ++ be 1 st.code ++ be 1 words.length ++ words.flatMap (be 4)) s

/-- A REQUEST of this unit's completes without data. -/
def reqComplete (p : SettReq → Bool) (st : FabStatus) (s : State) : State :=
  match s.sett.reqs.reverse.find? p with
  | none => s
  | some r =>
    { s with sett := { s.sett with reqs := s.sett.reqs.filter (fun q => q.tag != r.tag),
                                   rsps := ((r.tag, st.code, []) :: s.sett.rsps).take 16 } }

/-- A frame whose PCRC fails (R80): RETX, at most twice for one frame; then the request completes with ESCORT. An unnumbered unit sends
nothing but link-local types and frames under EPOCH = 0 (Table 4-2), and so no RETX. -/
def settPcrcFail (f : SettFrame) (s : State) : State :=
  let t := settMismatch (s.count Reg.SETT_ERR_PCRC 1)
  if s.unitNum = 0 then t
  else if s.retxTimes f.src f.typ < 2 then retxAsk f.src f.typ f.ctr t
  else
    let t := retxOver f.src f.typ t
    if f.typ = 0x10 then settRespond f.src f.cls (fieldBe f.payload 0 2) .escort [] t
    else if f.typ = 0x11 then reqComplete (fun r => r.unit == f.src) .escort t
    else t

/-- A frame whose MAC fails (R80): counted; the sixteenth within 1 s is fault 0x6107. -/
def settMacFail (s : State) : State :=
  let ts := s.now :: s.recent 1000000 s.sett.macFails
  let t := { s with sett := { s.sett with macFails := if 16 ≤ ts.length then [] else ts } }.count Reg.SETT_ERR_MAC 1
  if 16 ≤ ts.length then raise 0x6107 0 t else t

/-- Whether a frame's MAC holds under an epoch. -/
def SettFrame.macOk (f : SettFrame) (key : Bytes) (epoch : Nat) : Bool := settMac key epoch f.hdr f.ctr f.payload == f.mac

/-- An acting head hands its records over to this head, which enumerates (R92). -/
def State.handingOver (s : State) : Bool := s.isHead && s.sett.enumAt.isSome && s.sett.acks.any (·.acting)

/-- Types that come under EPOCH = 0 (R76), and the records of an acting head, which shares no epoch with the head that has started
(R92, log 44). -/
def State.zeroType (s : State) (typ : Nat) : Bool := [0x01, 0x02, 0x03, 0x16, 0x17, 0x19].contains typ || (typ == 0x12 && s.handingOver)

/-- Under which epoch a frame is authentic (R76): 0; the one in force; the one it replaced, for 1 ms. The second part is where the
counters of the source are kept. No epoch is 0 for any other type. -/
def State.settEpoch (s : State) (key : Bytes) (f : SettFrame) : Option (Nat × Nat) :=
  if s.zeroType f.typ ∧ f.ctr = 0 ∧ f.macOk key 0 then some (0, 0)
  else if s.zeroType f.typ ∧ f.typ ≠ 0x03 then none
  else if s.sett.epoch ≠ 0 ∧ f.macOk key s.sett.epoch then some (s.sett.epoch, f.src)
  else
    match s.sett.oldEpoch with
    | some (e, at_) => if e ≠ 0 ∧ s.within at_ 1000 ∧ f.macOk key e then some (e, f.src + 16) else none
    | none => none

/-- The head-silence timer restarts (R88). -/
def silenceRestart (s : State) : State := { s with sett := { s.sett with silenceAt := s.now, silenceDone := false } }

/-- What an authentic frame of unit 1, or of the acting head, does whatever it says (R88, R414). -/
def settAlive (f : SettFrame) (s : State) : State :=
  if s.isHead then s
  else if f.src = 1 then silenceRestart { s with sett := { s.sett with satEvents := [] } }
  else if f.src = 2 ∧ s.sett.actingUnit then silenceRestart s
  else s

/-- The last counter accepted from a source, none before the first. -/
def State.lastCtr (s : State) (src : Nat) : Option Nat := (s.sett.lastCtr.find? (fun p => p.1 == src)).map (·.2)

/-- A frame that a unit without a chain key receives counts as a MAC failure, because it cannot be checked (log 95). -/
def settKeyless (s : State) : State := settMacFail s

/-- A frame with a right PCRC: MAC, counter, opening; its payload, which enters the unit (R26), and whether it came under EPOCH = 0. -/
def settOpen (f : SettFrame) (s : State) : Option (Bytes × Bool) × State :=
  match s.slotKey 2 with
  | none => (none, settKeyless s)
  | some key =>
    match s.settEpoch key f with
    | none => (none, settMacFail s)
    | some (_, 0) => (some (f.payload, true), enter .sett f.payload (retxOver f.src f.typ s))
    | some (e, src) =>
      if (s.lastCtr src).any (fun c => decide (f.ctr ≤ c)) then (none, s)
      else
        let ctrs := (src, f.ctr) :: s.sett.lastCtr.filter (fun p => p.1 != src)
        let p := if settSealed f.typ then settCrypt key e (f.src - 1) f.ctr f.payload else f.payload
        (some (p, false), settAlive f (enter .sett p (retxOver f.src f.typ { s with sett := { s.sett with lastCtr := ctrs } })))

/-- A frame is discarded and counted (R78), in SETT_DROP: R78 names no counter (log 95). -/
def settDiscard (s : State) : State := s.count Reg.SETT_DROP_V 1

/-- A frame that R78 discards: of a type or a class that Table 4-3 does not give, or a REQUEST of neither the head nor the acting head. -/
def settBad (f : SettFrame) (s : State) : Bool :=
  !settTypes.any (fun p => p.1 == f.typ && p.2.all (· == f.cls)) || (f.typ == 0x10 && f.src != 1 && !(f.src == 2 && s.sett.actingUnit))

/-- The consume queue (R81): a refused REQUEST is answered BUSY while the answer budget lasts, any other refused frame dropped and
counted. -/
def settTake (f : SettFrame) (s : State) : Bool × State :=
  match enqueue .settRx f.cls .sett (.frame f) s with
  | (.taken, t) => (true, t)
  | (.busy, t) => (false, if f.typ = 0x10 then settRespond f.src f.cls (fieldBe f.payload 0 2) .busy [] t else settDiscard t)
  | (.dropped, t) => (false, t)
  | (.fault, t) => (false, t)

/-- The types a unit in quarantine receives (R93): chain control, ENUM and CHAIN_READY, which start the numbering afresh (R82), and the
plans that it answers with LATE (R89). -/
def quarTypes : List Nat := chainControl ++ [0x01, 0x03, 0x0E]

/-- The frame of a type for this unit: quarantine (R93), the queue, PCRC, MAC. -/
def settConsume (f : SettFrame) (s : State) : Option (Bytes × Bool) × State :=
  if s.bit Reg.SETT_STAT_QUAR ∧ quarTypes.contains f.typ = false then (none, s)
  else
    match settTake f s with
    | (false, t) => (none, t)
    | (true, t) => if crc32c (be 4 f.ctr ++ f.payload) = f.pcrc then settOpen f t else (none, settPcrcFail f t)

/-- The receiver: asleep, or in an internal wake, line activity is a wake (R414, R429); a frame that ends in an abort delimiter is
discarded uncounted (R73); HCRC; R78; forwarding; what is for this unit. -/
def settHear (typ : Nat) (f : SettFrame) (aborted : Bool) (s : State) : Option (Bytes × Bool) × State :=
  if s.power.state = .reset then (none, s)
  else if s.runs = false ∨ s.domOn .lnk = false then (none, busWakes 7 s)
  else if s.isIsolated .sett then (none, s)
  else
    let t := portHeard (!f.goesDown) (awake s)
    if aborted then (none, copyCut f t)
    else if crc16 (be 2 f.hdr) ≠ f.hcrc then (none, copyCut f (t.count Reg.SETT_ERR_HCRC 1))
    else if settBad f t then (none, copyCut f (settDiscard t))
    else if f.typ ≠ typ then (none, s)
    else
      let u := settWatch f t
      let u := if f.bc ∨ f.forMe u = false then settForward f u else copyCut f u
      if f.forMe u then settConsume f u else (none, u)

/-- What a type does with its payload. -/
def settRx (typ : Nat) (f : SettFrame) (aborted : Bool) (act : Bytes → Bool → State → State) (s : State) : State :=
  match settHear typ f aborted s with
  | (some (p, zero), t) => act p zero t
  | (none, t) => t

/-! ### The transmitter (R74, R76, R81) -/

/-- TIME_SYNC's payload at a start delimiter that leaves now: 0.8 µs of preamble lie before it (R73, R87; log 43). -/
def syncBytes (s : State) : Bytes :=
  let at_ := s.chron.count.toNat * 9375 + s.chron.frac * 9375 / 4294967296 + 31457
  be 8 (at_ / 9375) ++ be 2 (at_ % 9375) ++ be 2 (s.rd Reg.CHRON_UTCOFF).toNat ++ be 1 (if s.timeValid then 1 else 0)

/-- The payload as the frame leaves: TIME_SYNC and DELAY_REQ carry the time of their start delimiter (R86, R87). -/
def settStamp (f : SettFrame) (s : State) : Bytes :=
  if f.typ = 0x05 then syncBytes s
  else if f.typ = 0x06 then be 8 (s.airNow / 64 * 64) ++ f.payload.drop 8
  else f.payload

/-- A frame goes onto the line: counter, seal, PCRC and MAC of the epoch in force, unless it was made under EPOCH = 0; the last 16 are kept
for 5 ms (R76, R80). -/
def settLeave (down : Bool) (f : SettFrame) (s : State) : State :=
  match s.slotKey 2 with
  | none => s
  | some key =>
    let zero := decide (f.mac ≠ [])
    let g := if zero then f else settBuild key s.sett.epoch f.hdr s.sett.myCtr (s.unitNum - 1) (settStamp f s)
    portBusy down s.now (settTicks g) { s with sett := { s.sett with
      sent := ((s.now, g) :: s.sett.sent.filter (fun p => s.within p.1 5000)).take 16, emittedAt := s.now,
      myCtr := if zero then s.sett.myCtr else s.sett.myCtr + 1, t1 := if f.typ = 0x06 then s.airNow / 64 * 64 else s.sett.t1 } }

/-- A request of the transmit queue goes in a direction. -/
def QItem.goesDown (i : QItem) : Bool :=
  match i.work with
  | .frame f => f.goesDown
  | .burst | .trigger _ | .record _ | .can _ | .group _ | .tally _ | .lf _ | .coils _ | .coupled _ | .lane _ | .diag _ => true

/-- The next frame of the transmit queue leaves in a direction once the segment is free to this unit; forwarded frames go before it. -/
def lineSend (down : Bool) (s : State) : State :=
  if s.runs = false ∨ s.domOn .lnk = false ∨ s.sett.silent ∨ s.isIsolated .sett ∨ s.settWaits down ∨ (s.port down).opens down s.now = false then s
  else
    let q := s.queue .settTx
    match popBest (q.items.filter (fun i => i.goesDown == down)) with
    | none => s
    | some (i, _) =>
      let t := s.setQueue .settTx { q with items := q.items.erase i }
      match i.work with
      | .frame f => settLeave down f t
      | .burst | .trigger _ | .record _ | .can _ | .group _ | .tally _ | .lf _ | .coils _ | .coupled _ | .lane _ | .diag _ => t

/-- Both ports at a tick. -/
def lineTick (s : State) : State := lineSend false (lineSend true s)

/-! ### Numbers and bindings (R82, R93, Table 13-1) -/

/-- SETT_MAP of a head or acting head. -/
def State.mapHas (s : State) (unit : Nat) : Bool := s.get Reg.SETT_MAP_V / 2 ^ (unit - 1) % 2 == 1

/-- A unit is in service, or numbered and in quarantine. -/
def State.present (s : State) (unit : Nat) : Bool := s.mapHas unit || s.sett.quarMask / 2 ^ (unit - 1) % 2 == 1

/-- SETT_MAP changes: SETT_STAT.MAPCHG. -/
def setMap (v : Nat) (s : State) : State :=
  if s.get Reg.SETT_MAP_V = v then s else (s.put Reg.SETT_MAP_V v).setBit Reg.SETT_STAT_MAPCHG true

def maskWith (m unit : Nat) : Nat := m ||| 2 ^ (unit - 1)
def maskWithout (m unit : Nat) : Nat := if m / 2 ^ (unit - 1) % 2 = 1 then m - 2 ^ (unit - 1) else m

/-- The 32 bytes of a binding: state 1 in service, 2 absent (log 43). -/
def Binding.bytes (b : Binding) : Bytes :=
  let p := be 8 b.serial ++ be 1 b.num ++ be 1 (if b.inService then 1 else 2) ++ zeros 2 ++ be 4 b.lost ++ zeros 12
  p ++ be 4 (crc32c p)

/-- The bindings in retained memory; an entry that was never written, or whose CRC fails, is none. -/
def State.bindings (s : State) : List Binding :=
  (List.range 16).filterMap (fun i =>
    let b := memGetN s.nv.mem (0x6000 + 32 * i) 32
    let serial := fieldBe b 0 8
    let lost := ((s.sett.lossAt.find? (fun p => p.1 == serial)).map (·.2)).getD (fieldBe b 12 4)
    if fieldBe b 8 1 = 0 ∨ fieldBe b 28 4 ≠ crc32c (b.take 28) then none
    else some ⟨serial, fieldBe b 8 1, s.present (fieldBe b 8 1), lost⟩)

/-- The table's 512 bytes: the binding of number n in entry n - 1. -/
def bindingTable (l : List Binding) : Bytes :=
  (List.range 16).flatMap (fun i =>
    match l.find? (fun b => b.num == i + 1) with
    | some b => b.bytes
    | none => zeros 32)

/-- The table is committed as one group where it has changed. -/
def bindingCommit (l : List Binding) (s : State) : State :=
  let b := bindingTable l
  if memGetN s.nv.mem 0x6000 512 = b then s else (submitGroup .p1 ⟨[(0x6000, b)], .binding⟩ s).2

end Sys2Proof.Machine
end

