-- ==== Sys2Proof/Machine/SettChain.lean ====
section
/-! DEFINITION. Enumeration, epochs and time on the chain (R76, R82, R83, R86 to R88). -/

namespace Sys2Proof.Machine

/-! ### Faults of satellites, loss of a segment (R90, R443) -/

/-- A satellite's fault as the head records it: a FAULT record with SRC the satellite. -/
def faultFrom (unit : Nat) (body : Bytes) (s : State) : State :=
  let r := { s.mkRec 0x41 body with src := unit }
  if s.isActing then (actBuffer r s).2 else ledgerPut r s

/-- The head takes every unit beyond one out of service (R90). -/
def dropBeyond (unit : Nat) (s : State) : State :=
  let gone := s.bindings.filter (fun b => decide (unit < b.num) && s.present b.num)
  let keep := 2 ^ unit
  let t := { s with sett := { s.sett with
    lossAt := gone.map (fun (b : Binding) => (b.serial, s.secs)) ++
      s.sett.lossAt.filter (fun (p : Nat × Nat) => gone.all (fun (b : Binding) => b.serial != p.1)),
    quarMask := s.sett.quarMask % keep, spliced := s.sett.spliced % keep, acks := s.sett.acks.filter (fun a => decide (a.unit ≤ unit)) } }
  setMap (s.get Reg.SETT_MAP_V % keep) { t with img := { t.img with confirms := t.img.confirms.filter (fun p => decide (p.1 ≤ unit)) } }

/-- A unit becomes the splice end: SETT_STAT.SPLICE. -/
def spliceEndNow (s : State) : State :=
  if s.sett.spliceEnd then s else { s with sett := { s.sett with spliceEnd := true } }.setBit Reg.SETT_STAT_SPLICE true

/-- The downstream segment is lost: the unit becomes the splice end (R90); a splice in progress is abandoned (R94). -/
def segmentLost (s : State) : State :=
  let t := { spliceEndNow s with sett := { (spliceEndNow s).sett with
    restricted := false, probe := none, replies := [], unanswered := 0, segs := [], downS := 0, below := 0, downQuar := false } }
  let t := (t.setBit Reg.SETT_STAT_DNUP false).setBit Reg.SETT_STAT_LAST true
  let t := if t.isHead ∨ t.isActing then dropBeyond t.unitNum t else t
  raise 0x6106 0 t

/-! ### Enumeration (R82, R83) -/

/-- The running image's bytes: the active slot's, on a satellite the retained ones. -/
def State.imageBytes (s : State) : Bytes :=
  match s.img.run with
  | none => []
  | some i => if s.isHead then norSub (if s.selector.active = 0 then s.straps.norA else s.straps.norB) 0 i.size else s.imgAon.retained.getD []

/-- IMAGE_OFFER (R84): SIZE and digest of the running image. -/
def imageOffer (s : State) : State :=
  match s.img.run with
  | none => s
  | some i =>
    settSend 0x08 true 1 .p1 (be 4 i.size ++ i.digest)
      { s with sett := { s.sett with offerAt := some s.now, dataOut := [] }, img := { s.img with confirms := [] } }

/-- Work of a confirmation or of a change to the slot selector. -/
def Owner.ofImage : Owner → Bool
  | .confirmTrial _ => true
  | .confirmArb _ => true
  | .downloadOpen => true
  | .markPending => true
  | .none | .window | .tcmd | .tallyRoll _ | .tallyBase _ _ | .denCmd | .cryCmd | .denRepair _ | .denRewrite _ | .denLegacy | .lcSet _ _
  | .denRetire | .arbRaise | .binding | .notice _ | .enrol _ | .fobRoutine _ _ | .startToken | .actBuf | .summary | .tagCommit
  | .lastRun => false

/-- Such a request in the commit queue. -/
def QItem.ofImage (i : QItem) : Bool :=
  match i.work with
  | .group g => g.owner.ofImage
  | .tally t => t.owner.ofImage
  | .burst | .trigger _ | .record _ | .frame _ | .can _ | .lf _ | .coils _ | .coupled _ | .lane _ | .diag _ => false

/-- A head that yields confirms no image, raises no counter for one and leaves its slot selector (R83): what waits or runs for that is
dropped, as a reset would (R313, R317). -/
def imageWorkDrop (s : State) : State :=
  let runs := s.rmc.op.any (fun o => o.req.owner.ofImage)
  let t := if runs then tallyCut s else s
  let q := t.queue .commit
  let t := t.setQueue .commit { q with items := q.items.filter (fun i => !i.ofImage) }
  rmcKick { t with rmc := { t.rmc with
    cur := t.rmc.cur.filter (fun c => !c.group.owner.ofImage), resume := t.rmc.resume.filter (fun c => !c.group.owner.ofImage),
    resubmit := t.rmc.resubmit.filter (fun c => !c.2.owner.ofImage), op := if runs then none else t.rmc.op } }

/-- A head that receives ENUM yields (R83): its enumeration, its image, its sessions and its ledger end. -/
def headYield (s : State) : State :=
  let held := (s.queue .ingest).items.filterMap (fun i => match i.work with
    | .record r => some r
    | _ => none)
  let t := imageWorkDrop (clearQueue .ingest (sessionsDrop s))
  let t := { t with
    sett := { t.sett with
      enumAt := none, acks := [], offerAt := none, dataOut := [], quarMask := 0, spliced := 0, copyDue := [], conv := 0, handed := [], absent := true },
    img := { t.img with run := none, confirming := false, confirms := [] },
    boot := { t.boot with profileAt := none, roleFault := 0x6104, step9 := false },
    can := { t.can with xfer := none, routine := none },
    led := { t.led with satHeld := (t.led.satHeld ++ held ++ t.boot.earlyRecs).take 32, opened := true, ckpt := none } }
  let t := { t with boot := { t.boot with earlyRecs := [] } }
  let t := (((t.setBit Reg.SETT_STAT_HEAD false).setBit Reg.SETT_STAT_CONV false).setBit Reg.SETT_STAT_QUAR true).put Reg.SETT_MAP_V 0
  let t := ((t.setBit Reg.MEM_IMG_STAT_VALID false).put Reg.MEM_IMG_VER_V 0).put Reg.MEM_IMG_ARB_V 0
  let t := (((t.setBit Reg.LDG_STAT_READY false).setBit Reg.LDG_STAT_HALT true).put Reg.SES_PROF_CUR 7).setBit Reg.PWR_BOOT_STAT_SAT true
  noteFault .log 0x6104 t

/-- ENUM_ACK (R82). -/
def enumAck (acting : Bool) (nonce : Bytes) (s : State) : State :=
  settSend0 0x02 false 1 .p1 (be 8 s.straps.serial ++ be 2 s.boot.roleFault ++ be 1 (if acting then 1 else 0) ++ [0] ++ nonce) s

/-- A unit takes the number offered, answers, and offers the next one; an acting head answers, keeps its number, and its records follow
(R92). -/
def enumTake (p : Bytes) (s0 : State) : State :=
  let n := fieldBe p 0 1
  let nonce := sub p 9 8
  if n < 2 ∨ 16 < n then s0
  else if s0.isActing then enumAck true nonce { s0 with sett := { s0.sett with nonce := some nonce, actOut := some 0 } }
  else
    let s := if s0.isHead then headYield s0 else s0
    let t := { s with sett := { s.sett with
      nonce := some nonce, idleSent := false, spliceEnd := false, restricted := false, probe := none, replies := [],
      enumAt := if n < 16 then some s.now else none, assignedAt := none, downQuar := true, below := 0 } }
    let t := ((t.put Reg.SETT_STAT_NUM n).setBit Reg.SETT_STAT_UPUP true).setBit Reg.SETT_STAT_LAST (n == 16)
    let t := enumAck false nonce t
    if n < 16 then settSend0 0x01 false (n + 1) .p1 (be 1 (n + 1) ++ sub p 1 8 ++ nonce) t else t

/-- ENUM (R82, R83). -/
def execEnumFrame (f : SettFrame) (aborted : Bool) (s : State) : Host.Outcome State Fault Refusal :=
  .next (settRx 0x01 f aborted (fun p zero t => if zero then enumTake p t else t) s)

/-- The head takes down a unit that answered (R82); from an acting head whose time is valid it adopts the Chronicle where its own is not
(R92): `time` is that Chronicle, for which R92 names no frame (log 44). -/
def ackTake (f : SettFrame) (p : Bytes) (time : Option Nat) (s : State) : State :=
  if s.isHead = false ∨ s.sett.enumAt.isNone ∨ sub p 12 8 ≠ s.sett.enumNonce ∨ s.sett.acks.any (fun a => a.unit == f.src) then s
  else
    let a : EnumAck := ⟨f.src, fieldBe p 0 8, fieldBe p 8 2, fieldBe p 10 1 % 2 == 1⟩
    let t := { s with sett := { s.sett with acks := s.sett.acks ++ [a], enumAt := some s.now, unanswered := 0 } }
    let t := (t.setBit Reg.SETT_STAT_DNUP true).setBit Reg.SETT_STAT_LAST false
    let t := if a.fault = 0 then t else faultFrom a.unit (faultBody .log a.fault 1 (Config.faultDetail a.fault a.unit).toNat) t
    match a.acting, time with
    | true, some c => if t.timeValid then t else chronStep c 1 (t.setBit Reg.CHRON_STAT_TVALID true)
    | _, _ => t

/-- ENUM_ACK (R82): on its way up it also shows the unit above that a unit follows it. -/
def execEnumAck (f : SettFrame) (aborted : Bool) (time : Option Nat) (s : State) : Host.Outcome State Fault Refusal :=
  let t := settRx 0x02 f aborted (fun p zero t => if zero then ackTake f p time t else t) s
  if s.isHead = false ∧ s.runs ∧ s.unitNum ≠ 0 ∧ f.typ = 0x02 ∧ f.src = s.unitNum + 1 ∧ s.sett.enumAt.isSome then
    .next (({ t with sett := { t.sett with enumAt := none, unanswered := 0 } }.setBit Reg.SETT_STAT_DNUP true).setBit Reg.SETT_STAT_LAST false)
  else .next t

/-- CHAIN_READY (R76, R82): the epoch, the unit count, the tick, and at the end of an enumeration the nonce of its ENUM (log 43). -/
def readyBytes (epoch count tick : Nat) (nonce : Bytes) : Bytes := be 8 epoch ++ be 1 count ++ be 8 tick ++ nonce

/-- The bindings after an enumeration: the units that answered, and the absent ones whose number is still free. -/
def State.newBindings (s : State) : List Binding :=
  let here := ⟨s.straps.serial, 1, true, 0⟩ :: s.sett.acks.map (fun a => (⟨a.serial, a.unit, true, 0⟩ : Binding))
  here ++ (s.bindings.filter (fun b => here.all (fun h => h.num != b.num && h.serial != b.serial))).map (fun b => { b with inService := false })

/-- Enumeration ends on the head (R82, R92): the binding table, CHAIN_READY, the offer of the image. An acting head's chain keeps the
numbering of the table. Without another unit step 9 is over. -/
def enumEnd (s : State) : State :=
  let acting := s.sett.acks.any (·.acting)
  let old := s.bindings.filter (fun b => b.num != 1)
  let mask := if acting then old.foldl (fun m b => maskWith m b.num) 0 else s.sett.acks.foldl (fun m a => maskWith m a.unit) 0
  let count := 1 + (if acting then old.length else s.sett.acks.length)
  let t := { s with sett := { s.sett with enumAt := none, quarMask := if acting then 0 else mask } }
  let t := setMap (if acting then mask ||| 1 else 1) (t.setBit Reg.SETT_STAT_LAST (s.sett.acks == []))
  let t := if acting then t else bindingCommit s.newBindings t
  let t := imageOffer (settSend0 0x03 true 1 .p1 (readyBytes t.sett.epoch count t.chron.count.toNat t.sett.enumNonce) t)
  if s.sett.acks = [] then bootFinish t else t

/-- ENUM_ACK_TIMEOUT (R82): no ENUM_ACK for 100 µs, and none of an acting head's records (R92). -/
def execEnumAckTimeout (s : State) : Host.Outcome State Fault Refusal :=
  match s.sett.enumAt with
  | none => .next s
  | some t =>
    if s.runs = false ∨ s.after t 100 = false then .next s
    else if s.isHead then .next (enumEnd s)
    else .next (({ s with sett := { s.sett with enumAt := none } }.setBit Reg.SETT_STAT_LAST true).setBit Reg.SETT_STAT_DNUP false)

/-! ### Epochs (R76) -/

/-- An epoch takes effect: counters start afresh; the old epoch's are kept beside them for its last 1 ms. -/
def epochTake (e : Nat) (s : State) : State :=
  let old := (s.sett.lastCtr.filter (fun p => decide (p.1 ≤ 16))).map (fun p => (p.1 + 16, p.2))
  { s with sett := { s.sett with
      epoch := e, oldEpoch := some (s.sett.epoch, s.now), nextEpoch := none, lastCtr := old, myCtr := 0 } }

/-- An acting head's role ends (R92); a record that came after the handover follows under the new epoch. -/
def actingEnd (s : State) : State :=
  if s.isActing then
    let left := decide (0 < s.sett.actSeq ∨ 0 < s.sett.actDrops)
    let t := { s with sett := { s.sett with actingUnit := false, idleSent := false, actOut := if left then some 0 else none } }
    ((t.setBit Reg.SETT_STAT_ACTING false).setBit Reg.SETT_STAT_UPUP true).put Reg.SETT_MAP_V 0
  else s

/-- An announced epoch takes effect at the tick it names. A unit that does not keep the head's time takes one that ends an enumeration at
once (log 43). -/
def epochFrom (e tick : Nat) (zero : Bool) (s : State) : State :=
  if e = 0 then s
  else if tick ≤ s.chron.count.toNat ∨ zero ∧ s.bit Reg.SETT_STAT_CONV = false then epochTake e s
  else { s with sett := { s.sett with nextEpoch := some (e, tick) } }

/-- CHAIN_READY on a satellite: one under EPOCH = 0 counts once for its nonce. -/
def readyTake (p : Bytes) (zero : Bool) (s : State) : State :=
  let e := fieldBe p 0 8
  let tick := fieldBe p 9 8
  if s.isHead then s
  else if zero = false then epochFrom e tick false s
  else if s.sett.nonce = some (sub p 17 8) then actingEnd (epochFrom e tick true { s with sett := { s.sett with nonce := none } })
  else s

/-- CHAIN_READY (R76). -/
def execChainReady (f : SettFrame) (aborted : Bool) (s : State) : Host.Outcome State Fault Refusal :=
  .next (settRx 0x03 f aborted readyTake s)

/-- EPOCH_EFFECT (R76). -/
def execEpochEffect (s : State) : Host.Outcome State Fault Refusal :=
  match s.sett.nextEpoch with
  | some (e, t) => if t ≤ s.chron.count.toNat then .next (epochTake e s) else .next s
  | none => .next s

/-- EPOCH_RENEW (R76): at the Chronicle day boundary; the tick named lies 5 ms ahead (log 43). The offer follows CHAIN_READY (R84). -/
def execEpochRenew (s : State) : Host.Outcome State Fault Refusal :=
  if s.isHead = false ∨ s.runs = false ∨ s.unitNum = 0 ∨ s.sett.enumAt.isSome ∨ s.dayOf s.secs = s.sett.epochDay then .next s
  else
    match randBytes false 8 s with
    | (.bytes e, t) =>
      let tick := t.chron.count.toNat + 20972
      let units := ((List.range 16).filter (fun i => t.mapHas (i + 1))).length
      .next (imageOffer (settSend 0x03 true 1 .p1 (readyBytes (beNat e) units tick [])
        { t with sett := { t.sett with nextEpoch := some (beNat e, tick), epochDay := s.dayOf s.secs } }))
    | (_, t) => .next t

/-! ### Heartbeat (R88) -/

/-- A beat of unit 1 or of unit 2 tells a unit whether there is an acting head; of another source it tells nothing. -/
def actingSeen (f : SettFrame) (s : State) : State :=
  if s.isHead ∨ s.isActing ∨ 2 < f.src then s else silenceRestart { s with sett := { s.sett with actingUnit := f.src == 2 } }

/-- HEARTBEAT (R88). -/
def execHeartbeat (f : SettFrame) (aborted : Bool) (s : State) : Host.Outcome State Fault Refusal :=
  .next (settRx 0x04 f aborted (fun _ _ t => actingSeen f t) s)

/-- The unit leads the chain: a head that has enumerated, or an acting head. -/
def State.chainLead (s : State) : Bool := s.runs && s.domOn .lnk && (s.isHead || s.isActing) && s.unitNum != 0 && s.sett.enumAt.isNone

/-- HEARTBEAT_PERIOD (R88): nothing emitted for 10 ms. -/
def execHeartbeatPeriod (s : State) : Host.Outcome State Fault Refusal :=
  if s.chainLead ∧ s.after s.sett.emittedAt 10000 then .next (settSend 0x04 true 1 .p1 [] s) else .next s

/-! ### Time (R86, R87, R259) -/

/-- The unit runs the image that the head offers (R93). -/
def State.runsOffered (s : State) : Bool := s.img.run.any (fun i => i.digest == s.img.rxDigest)

/-- A unit in quarantine whose image is the head's and which has converged sends JOIN (R93, R259). -/
def joinCheck (s : State) : State :=
  if s.bit Reg.SETT_STAT_QUAR ∧ s.bit Reg.SETT_STAT_CONV ∧ s.runsOffered ∧ s.unitNum ≠ 0 ∧ s.isHead = false then
    let t := { s with sett := { s.sett with assignedAt := none } }.setBit Reg.SETT_STAT_QUAR false
    satFlush (settSend 0x1A false 1 .p1 [] t)
  else s

/-- The steering that takes an offset in air ticks away by the next TIME_SYNC, at most 200 ppm (log 45). -/
def steerFor (off : Int) (quar : Bool) : Int := clampInt (-200) 200 (-(off / (if quar then 39 else 3932)))

/-- A satellite's Chronicle against the head's (R87, R259): `off` in air ticks, the head's time at this moment in ticks. -/
def timeTake (off : Int) (target : Nat) (s : State) : State :=
  let s := (s.put Reg.SETT_TOFF_V (ofInt 32 (clampInt (-2147483648) 2147483647 off))).setBit Reg.CHRON_STAT_CHAIN true
  let far := decide (39321600 < off.natAbs)
  let quar := s.bit Reg.SETT_STAT_QUAR
  let conv := if off.natAbs ≤ 786 then s.sett.conv + 1 else 0
  let t := { s with sett := { s.sett with conv := min 3 conv } }
  let t := if far ∧ quar = false then
      ({ t with sett := { t.sett with downQuar := true } }.setBit Reg.SETT_STAT_QUAR true).setBit Reg.SETT_STAT_CONV false
    else t
  if (quar ∨ far) ∧ 9375 ≤ off.natAbs then
    { t with chron := { t.chron with count := BitVec.ofNat 64 target, steer := 0 }, sett := { t.sett with conv := 0 } }.setBit
      Reg.CHRON_STAT_STEPPED true
  else
    let t := { t with chron := { t.chron with steer := steerFor off quar } }
    joinCheck (if 3 ≤ conv then t.setBit Reg.SETT_STAT_CONV true else t)

/-- TIME_SYNC (R87): `phase` is how far into its tick the unit's Chronicle was at the start delimiter, in air ticks. -/
def execTimeSync (f : SettFrame) (aborted : Bool) (phase : Nat) (s : State) : Host.Outcome State Fault Refusal :=
  .next (settRx 0x05 f aborted (fun p _ t =>
    if t.isHead ∨ t.isActing ∨ 2 < f.src then t
    else
      let there : Int := (fieldBe p 0 8 * 9375 + fieldBe p 8 2 : Nat) + t.sett.path
      let own : Int := (t.chron.count.toNat * 9375 + phase % 9375 : Nat)
      let u := (t.wr Reg.CHRON_UTCOFF (BitVec.ofInt 32 (toInt 16 (fieldBe p 10 2)))).setBit Reg.CHRON_STAT_TVALID (fieldBe p 12 1 % 2 == 1)
      timeTake (own - there) (there / 9375).toNat (actingSeen f u)) s)

/-- Any unit is in quarantine as far as the head knows; a step of its Chronicle sends every satellite there (R259). -/
def State.quarKnown (s : State) : Nat :=
  if s.get Reg.CHRON_STAT_SEQ = s.sett.syncSeq then s.sett.quarMask else s.sett.quarMask ||| maskWithout (s.get Reg.SETT_MAP_V) s.unitNum

/-- TIME_SYNC_PERIOD (R87): every 100 ms, every 1 ms while any unit is in quarantine; its times are those of its start delimiter
(`settStamp`). -/
def execTimeSyncPeriod (s : State) : Host.Outcome State Fault Refusal :=
  if s.chainLead ∧ s.after s.sett.syncAt (if s.quarKnown = 0 then 100000 else 1000) then
    .next (settSend 0x05 true 1 .p1 []
      { s with sett := { s.sett with syncAt := s.now, quarMask := s.quarKnown, syncSeq := s.get Reg.CHRON_STAT_SEQ } })
  else .next s

/-- DELAY_REQ's payload (R86; log 43). -/
def delayBytes (t1 : Nat) (seg path fwd : Int) : Bytes :=
  be 8 t1 ++ be 4 (ofInt 32 seg) ++ be 4 (ofInt 32 path) ++ be 4 (ofInt 32 fwd)

/-- The period of DELAY_REQ in µs: by the quarantine of the unit at the downstream end. -/
def State.delayPeriod (s : State) : Nat :=
  let quar := if s.isHead then s.present (s.unitNum + 1) && !s.mapHas (s.unitNum + 1) else s.sett.downQuar
  if s.sett.restricted ∨ quar then 1000 else 10000

/-- DELAY_REQ_PERIOD (R86, R90): the segment is lost after three without an answer. `fwd` is the unit's own forwarding delay F as it
measures it, at most 2 µs (R79); t1 is stamped at the start delimiter (`settStamp`). -/
def execDelayReqPeriod (fwd : Nat) (s : State) : Host.Outcome State Fault Refusal :=
  if s.runs = false ∨ s.domOn .lnk = false ∨ s.unitNum = 0 ∨ s.bit Reg.SETT_STAT_DNUP = false ∨ s.after s.sett.delayAt s.delayPeriod = false then
    .next s
  else if 3 ≤ s.sett.unanswered then .next (segmentLost s)
  else
    let f := min fwd 78643
    let t := { s with sett := { s.sett with delayAt := s.now, unanswered := s.sett.unanswered + 1, fwd := f } }
    .next (settSend 0x06 false (s.unitNum + 1) .p1 (delayBytes 0 s.sett.downS s.sett.path f) t)

/-- SETT_DELAY. -/
def delayRegs (s : State) : State :=
  let v := fun (d : Int) => (clampInt 0 65535 (d / 64)).toNat
  (s.put Reg.SETT_DELAY_PATH (v s.sett.path)).put Reg.SETT_DELAY_SEG (v s.sett.upS)

/-- DELAY_REQ (R86): answered with its receive and send timestamps; the own path delay follows. -/
def execDelayReq (f : SettFrame) (aborted : Bool) (t2 t3 : Nat) (s : State) : Host.Outcome State Fault Refusal :=
  .next (settRx 0x06 f aborted (fun p _ t =>
    let seg := toInt 32 (fieldBe p 8 4)
    let path := toInt 32 (fieldBe p 12 4) + toInt 32 (fieldBe p 16 4) + seg
    let u := delayRegs { t with sett := { t.sett with path := path, upS := seg } }
    settSend 0x07 false (u.unitNum - 1) .p1 (be 8 t2 ++ be 8 t3) (u.setBit Reg.SETT_STAT_UPUP true)) s)

/-- DELAY_RESP (R86): t4 recorded, the segment delay the mean of the last eight. -/
def execDelayResp (f : SettFrame) (aborted : Bool) (t4 : Nat) (s : State) : Host.Outcome State Fault Refusal :=
  .next (settRx 0x07 f aborted (fun p _ t =>
    let wrap := fun (a b : Nat) => (((a + 2 ^ 40 - b % 2 ^ 40) % 2 ^ 40 : Nat) : Int)
    let new := (wrap t4 t.sett.t1 - wrap (fieldBe p 8 8) (fieldBe p 0 8)) / 2
    let segs := (new :: t.sett.segs).take 8
    { t with sett := { t.sett with segs := segs, downS := segs.sum / (segs.length : Int), unanswered := 0 } }.setBit
      Reg.SETT_STAT_DNUP true) s)

end Sys2Proof.Machine
end

