-- ==== Sys2Proof/Machine/SettLink.lean ====
section
/-! DEFINITION. What the chain carries: the image, profiles, overhearing, fabric requests, records and faults (R78 to R80, R84, R85, R89,
R91, R215 to R218, R230, R286, R443). -/

namespace Sys2Proof.Machine

/-! ### The image on a satellite (R84, R85) -/

/-- The offsets of an image's IMAGE_DATA frames. -/
def imageOffsets (size : Nat) : List Nat := (List.range ((size + 1019) / 1020)).map (· * 1020)

/-- IMAGE_CONFIRM. A satellite's first OK is the end of its step 9 (R61, R70). -/
def sendConfirm (code : Nat) (s : State) : State :=
  let t := settSend 0x0B false 1 .p1 (be 1 code) s
  if code = 0 ∧ t.profile = 7 ∧ t.get Reg.PWR_BOOT_STAT_FAILSTEP = 0 then bootMark 9 0 t else t

/-- A satellite raises its counter 0 to a value (R85). -/
def raiseArb (v : Nat) (s : State) : State := (submitTally .p1 ⟨0, some v, .arbRaise⟩ s).2

/-- A unit that may have missed an ARB_RAISE raises its counter once it has confirmed the head's image (R85; log 43). -/
def raiseMissed (arb : Nat) (s : State) : State :=
  if s.sett.absent then raiseArb arb { s with sett := { s.sett with absent := false } } else s

/-- A unit that was enumerated is in service with its confirmation; one that was spliced in joins once it has converged (R93). -/
def serviceCheck (s : State) : State := if s.sett.assignedAt.isNone then satFlush (s.setBit Reg.SETT_STAT_QUAR false) else joinCheck s

/-- A verified image is confirmed and comes into use. -/
def satLoad (i : Image) (s : State) : State :=
  let t := imageLoad i s.unitNum (sendConfirm 0 s)
  let t := ((t.setBit Reg.MEM_IMG_STAT_VALID true).put Reg.MEM_IMG_VER_V i.version).put Reg.MEM_IMG_ARB_V i.arb
  serviceCheck (raiseMissed i.arb t)

/-- An image that the checks refuse: the code goes to the head, the unit stays in quarantine (R84). -/
def satRefuse (code : Nat) (s : State) : State := raise 0x610A 0 (sendConfirm code (s.setBit Reg.SETT_STAT_QUAR true))

/-- IMAGE_OFFER (R84). A unit without the image awaits the frames from here on, so that it names all of them where none comes. -/
def offerTake (p : Bytes) (s0 : State) : State :=
  let size := fieldBe p 0 4
  let digest := sub p 4 32
  let s := { s0 with img := { s0.img with rxDigest := digest, rxSize := 0, rxData := [], rxAt := none } }
  if s.isHead then s0
  else
    match s.imgAon.retained.filter (fun b => b.length == size && sub b (size - 96) 32 == digest) with
    | none => { s with img := { s.img with rxSize := size, rxAt := some s.now } }.setBit Reg.SETT_STAT_QUAR true
    | some b =>
      if s.runsOffered then serviceCheck (raiseMissed ((s.img.run.map (·.arb)).getD 0) (sendConfirm 0 s))
      else
        match verifyImage b s with
        | (.ok i, t) => satLoad i t
        | (.rejected c, t) => satRefuse c t

/-- IMAGE_OFFER (R84). -/
def execImageOffer (f : SettFrame) (aborted : Bool) (s : State) : Host.Outcome State Fault Refusal :=
  .next (settRx 0x08 f aborted (fun p _ t => offerTake p t) s)

/-- A fragment received. -/
def State.fragment (s : State) (off : Nat) : Option Bytes :=
  ((s.img.rxData.find? (fun d => d.1 == off)).map (·.2)).filter (fun b => b.length == min 1020 (s.img.rxSize - off))

/-- The offsets that are missing. -/
def State.imageMissing (s : State) : List Nat := (imageOffsets s.img.rxSize).filter (fun o => (s.fragment o).isNone)

/-- All fragments are there: the image is verified by steps 1 to 10 alone and confirmed (R50); one that is refused is not kept (R84). -/
def imageWhole (s0 : State) : State :=
  let b := (imageOffsets s0.img.rxSize).flatMap (fun o => (s0.fragment o).getD [])
  let s := { s0 with img := { s0.img with rxSize := 0, rxData := [], rxAt := none } }
  match verifyImage b s with
  | (.ok i, t) => satLoad i { t with imgAon := { t.imgAon with retained := some b } }
  | (.rejected c, t) => satRefuse c t

/-- IMAGE_DATA (R84): a fragment of the image offered; the last one missing completes the image. -/
def dataTake (p : Bytes) (s : State) : State :=
  let off := fieldBe p 0 4
  if s.isHead ∨ s.img.rxSize = 0 ∨ ¬ (imageOffsets s.img.rxSize).contains off then s
  else
    let t := { s with img := { s.img with
      rxData := (off, p.drop 4) :: s.img.rxData.filter (fun d => d.1 != off), rxAt := some s.now } }
    if t.imageMissing = [] then imageWhole t else t

/-- IMAGE_DATA (R84). -/
def execImageData (f : SettFrame) (aborted : Bool) (s : State) : Host.Outcome State Fault Refusal :=
  .next (settRx 0x09 f aborted (fun p _ t => dataTake p t) s)

/-- IMAGE_NAK_WINDOW_END (R84): 2 ms after the last IMAGE_DATA, or after an offer that none followed, the unit names what it lacks. -/
def execImageNakWindowEnd (s : State) : Host.Outcome State Fault Refusal :=
  match s.img.rxAt with
  | none => .next s
  | some t =>
    if s.runs = false ∨ s.after t 2000 = false then .next s
    else
      .next (settSend 0x0A false 1 .p3 ((s.imageMissing.take 255).flatMap (be 4)) { s with img := { s.img with rxAt := some s.now } })

/-- IMAGE_NAK (R84): the head resends to the unit alone. -/
def execImageNak (f : SettFrame) (aborted : Bool) (s : State) : Host.Outcome State Fault Refusal :=
  .next (settRx 0x0A f aborted (fun p _ t =>
    if t.isHead = false then t
    else
      let offs := (List.range (p.length / 4)).map (fun k => (some f.src, fieldBe p (4 * k) 4))
      { t with sett := { t.sett with dataOut := t.sett.dataOut ++ offs } }) s)

/-- Every other unit that holds a number has confirmed the image. -/
def State.allConfirmed (s : State) : Bool :=
  ((List.range 16).map (· + 1)).all (fun u => u == s.unitNum || !s.present u || s.img.confirms.any (fun c => c.1 == u && c.2 == 0))

/-- IMAGE_CONFIRM on the head (R84): a unit that enumerated comes into service with its image; unit 2 then gets the fob records (R91). Once no
unit lacks the image, none is broadcast, and step 9 is over (R61). -/
def confirmTake (unit code : Nat) (s : State) : State :=
  if s.isHead = false then s
  else
    let t := { s with img := { s.img with confirms := (unit, code) :: s.img.confirms.filter (fun p => p.1 != unit) } }
    let t :=
      if code = 0 ∧ t.mapHas unit = false ∧ t.present unit ∧ t.sett.spliced / 2 ^ (unit - 1) % 2 = 0 then
        setMap (maskWith (t.get Reg.SETT_MAP_V) unit)
          { t with sett := { t.sett with
              quarMask := maskWithout t.sett.quarMask unit,
              copyDue := if unit = 2 then (List.range 64).filter (fun n => (s.fob n).isSome) else t.sett.copyDue } }
      else t
    if t.allConfirmed then
      bootFinish { t with sett := { t.sett with offerAt := none, dataOut := t.sett.dataOut.filter (fun d => d.1.isSome) } }
    else t

/-- IMAGE_CONFIRM (R84). -/
def execImageConfirm (f : SettFrame) (aborted : Bool) (s : State) : Host.Outcome State Fault Refusal :=
  .next (settRx 0x0B f aborted (fun p _ t => confirmTake f.src (fieldBe p 0 1) t) s)

/-- ARB_RAISE (R54, R85). -/
def execArbRaise (f : SettFrame) (aborted : Bool) (s : State) : Host.Outcome State Fault Refusal :=
  .next (settRx 0x0C f aborted (fun p _ t =>
    if t.isHead then t else raiseArb (fieldBe p 0 4) { t with sett := { t.sett with absent := false } }) s)

/-! ### Profiles (R35, R61, R85, R428) -/

/-- A satellite runs the profile named; the first one completes its start-up, unless a step of it failed (R61, R69); bits 7 and 6 put it to
sleep (R428). -/
def profileTake (code : Nat) (s : State) : State :=
  if s.isHead ∨ s.isActing ∨ s.bit Reg.SUP_HH_STAT_HALT then s
  else if 128 ≤ code % 256 then sleepNow (64 ≤ code % 128) s
  else if 7 ≤ code then s
  else if s.profile = 7 then
    if s.img.run.isSome ∧ s.lc ≠ 4 ∧ s.get Reg.PWR_BOOT_STAT_FAILSTEP = 0 then bootMark 10 0 (profileEntry code s) else s
  else enterProfile code s

/-- PROFILE (R85). -/
def execProfileFrame (f : SettFrame) (aborted : Bool) (s : State) : Host.Outcome State Fault Refusal :=
  .next (settRx 0x0D f aborted (fun p _ t => profileTake (fieldBe p 0 1) t) s)

/-- PROFILE_REBROADCAST (R85): every 1 s. -/
def execProfileRebroadcast (s : State) : Host.Outcome State Fault Refusal :=
  if s.chainLead ∧ s.profile ≠ 7 ∧ s.after s.sett.profAt 1000000 then
    .next (settSend 0x0D true 1 .p1 (be 1 s.profile) { s with sett := { s.sett with profAt := s.now } })
  else .next s

/-! ### Overhearing (R89, R215 to R218) -/

/-- OVERHEAR_REPORT with a status only. -/
def reportOnly (p : Plan) (status : Nat) (s : State) : State :=
  settSend 0x0F false 1 .p0 (be 2 p.exch ++ be 1 status ++ zeros 11) s

/-- OVERHEAR_PLAN on a listed unit: late or in quarantine, no lane free, or a lane listens on channel 14. -/
def planTake (p : Plan) (s : State) : State :=
  if s.isHead ∨ p.mask / 2 ^ (s.unitNum - 1) % 2 = 0 then s
  else if s.bit Reg.SETT_STAT_QUAR ∨ p.start ≤ s.chron.count.toNat then reportOnly p 1 s
  else
    match [0, 1].find? (fun n => s.laneServes n && (s.lane n).held.isNone && (s.ohOn n).isNone) with
    | none => reportOnly p 6 s
    | some n =>
      let ends := s.now + (p.start - s.chron.count.toNat) + exchangeLen p.grade 1 / 9375 + 1
      let t := listenPass n 14 (s.airAbs + (p.start - s.chron.count.toNat) * 9375 + p.air) none
        (setOh n (some ⟨p, false, s.firstAerial n, none, [], []⟩) (laneHold n .p0 14 s))
      { t with sett := { t.sett with plans := (p, ends) :: t.sett.plans } }

/-- OVERHEAR_PLAN (R89, R215). -/
def execOverhearPlan (f : SettFrame) (aborted : Bool) (s : State) : Host.Outcome State Fault Refusal :=
  .next (settRx 0x0E f aborted (fun p _ t => planTake (Plan.of p) t) s)

/-- A report of an exchange that has passed joins its session's newest fix (R218, R236), and the position is solved again. -/
def reportLate (d : FoxDone) (o : OhDist) (s : State) : State :=
  match s.sessionOf d.record, s.listenerMm d.lane d.aerial d.turn d.tof o with
  | some x, some dist =>
    match x.fixes with
    | f :: rest =>
      if f.at_ ≠ d.at_ ∨ (f.anchors.drop 1).any (fun p => p.unit == dist.unit) then s
      else
        let g := { solvedFix s d.record f.grade f.dist (f.anchors ++ [dist]) f.view with at_ := f.at_ }
        judgeAll (trackerFix d.record g (modifySession d.record (fun x => { x with fixes := g :: rest }) s))
    | [] => s
  | _, _ => s

/-- OVERHEAR_REPORT on the head (R89, R218): kept by the exchange that runs, or used by the one that ended, within 150 µs (R219). -/
def reportTake (src : Nat) (p : Bytes) (s : State) : State :=
  let e := fieldBe p 0 2
  let o : OhDist := ⟨src, fieldBe p 3 1, toInt 32 (fieldBe p 4 4)⟩
  if fieldBe p 2 1 ≠ 0 then s
  else
    match [0, 1].find? (fun n => (s.exOn n).any (fun x => x.q1 % 65536 == e)) with
    | some n => setEx n ((s.exOn n).map (fun x => { x with reports := x.reports ++ [o] })) s
    | none =>
      match s.fox.done.find? (fun d => d.exch == e && s.within d.at_ 150) with
      | some d => reportLate d o s
      | none => s

/-- OVERHEAR_REPORT (R218). -/
def execOverhearReport (f : SettFrame) (aborted : Bool) (s : State) : Host.Outcome State Fault Refusal :=
  .next (settRx 0x0F f aborted (fun p _ t => if t.isHead ∨ t.isActing then reportTake f.src p t else t) s)

/-! ### Fabric requests (R22, R78, R230) -/

/-- A REQUEST is one fabric access of master 3, in the class its originator stamped (R21). One that is not of R78's layout, with a count of 0 or
above 16, another op or the wrong length, gets no RESPONSE: it is discarded and counted (log 95: DESIGN CHOICE). -/
def requestTake (f : SettFrame) (p : Bytes) (s : State) : State :=
  let tag := fieldBe p 0 2
  let op := fieldBe p 2 1
  let n := fieldBe p 3 1
  let a := fieldBe p 4 4
  if n = 0 ∨ 16 < n ∨ 1 < op ∨ p.length ≠ 8 + (if op = 1 then 4 * n else 0) then settDiscard s
  else if op = 0 then
    match fabReadN f.cls .sett a n s with
    | (.ok, ws, t) => settRespond f.src f.cls tag .ok ws t
    | (.silent, _, t) => t
    | (st, _, t) => settRespond f.src f.cls tag st [] t
  else
    match fabWriteN f.cls .sett a ((List.range n).map (fun k => fieldBe p (8 + 4 * k) 4)) s with
    | (.silent, t) => t
    | (st, t) => settRespond f.src f.cls tag st [] t

/-- SETT_REQUEST (R78). -/
def execSettRequest (f : SettFrame) (aborted : Bool) (s : State) : Host.Outcome State Fault Refusal :=
  .next (settRx 0x10 f aborted (fun p _ t => requestTake f p t) s)

/-- The next 64 bytes of a satellite's relay slot are asked for. -/
def relayAsk (unit slot at_ : Nat) (s : State) : State := settAsk unit false (0x70000800 + 256 * slot + at_) 16 [] .p0 s

/-- An event word of a satellite (Table 9-4): its trigger fires here as if it were local, or its relay slot is read. -/
def eventTake (unit word : Nat) (s : State) : State :=
  let kind := word / 2 ^ 24
  let chan := word / 2 ^ 16 % 256
  match s.img.run with
  | none => s
  | some i =>
    if kind = 1 then
      match capCode i unit chan with
      | some c => (fireTrigger ⟨c, 0, 0⟩ s).2
      | none => s
    else if kind = 2 then
      ((swCodes i unit chan).filter (fun c => c < 0x38)).foldl (fun s c => (fireTrigger ⟨c, 0, 0⟩ s).2) s
    else if kind = 3 ∧ chan < 8 then
      if s.sett.relayIn.any (fun r => r.1 == unit && r.2.1 == chan) then s
      else relayAsk unit chan 0 { s with sett := { s.sett with relayIn := (unit, chan, []) :: s.sett.relayIn } }
    else s

/-- 64 bytes of a relay slot have come: the rest is asked for, or the frame goes to the session engine and the slot is cleared. -/
def relayTake (unit slot : Nat) (part : Bytes) (s : State) : State :=
  match s.sett.relayIn.find? (fun r => r.1 == unit && r.2.1 == slot) with
  | none => s
  | some (_, _, got) =>
    let all := got ++ part
    let h := AirHdr.of (fieldBe all 0 8)
    let rest := s.sett.relayIn.filter (fun r => !(r.1 == unit && r.2.1 == slot))
    if all.length < min 256 (8 + h.len) then
      relayAsk unit slot all.length { s with sett := { s.sett with relayIn := (unit, slot, all) :: rest } }
    else
      let t := settAsk unit true Reg.SES_RELAYV 1 [2 ^ slot] .p0 { s with sett := { s.sett with relayIn := rest } }
      if h.typ = 1 then replyDelivered unit 0 h.cls h.src (sub all 8 h.len) t else t

/-- A RESPONSE: an event, or the answer to a REQUEST. -/
def responseTake (unit : Nat) (p : Bytes) (s : State) : State :=
  let tag := fieldBe p 0 2
  let st := fieldBe p 2 1
  let ws := (List.range (fieldBe p 3 1)).map (fun k => fieldBe p (4 + 4 * k) 4)
  if tag = 0xFFFF then eventTake unit (ws.headD 0) s
  else
    match s.sett.reqs.find? (fun r => r.tag == tag && r.unit == unit) with
    | none => s
    | some r =>
      let t := { s with sett := { s.sett with
        reqs := s.sett.reqs.filter (fun q => q.tag != tag), rsps := ((tag, st, p.drop 4) :: s.sett.rsps).take 16 } }
      if st = 0 ∧ r.count = 16 ∧ 0x70000800 ≤ r.addr ∧ r.addr < 0x70001000 then
        relayTake unit ((r.addr - 0x70000800) / 256) (ws.flatMap (leBytes 4)) t
      else t

/-- SETT_RESPONSE (R78, R230). -/
def execSettResponse (f : SettFrame) (aborted : Bool) (s : State) : Host.Outcome State Fault Refusal :=
  .next (settRx 0x11 f aborted (fun p _ t => if t.isHead ∨ t.isActing then responseTake f.src p t else t) s)

/-! ### Records and faults of satellites (R91, R286, R443) -/

/-- A record that comes to the head or acting head; those an acting head hands over wait for the ledger (R92). -/
def recTake (p : Bytes) (zero : Bool) (s : State) : State :=
  let r := Rec.ofTail (p.take 40)
  if s.isHead ∧ zero then { s with sett := { s.sett with handed := s.sett.handed ++ [r], enumAt := some s.now } }
  else if s.isHead then ledgerPut r s
  else if s.isActing then (actBuffer r s).2
  else s

/-- The ledger takes the records handed over, in order, once it accepts any and has a place (R92). -/
def handedTick (s : State) : State :=
  match s.sett.handed with
  | [] => s
  | r :: rest =>
    if s.bit Reg.LDG_STAT_HALT ∨ (placeFor .ingest r.cls false (s.found .ingest)).isNone then s
    else ledgerPut r { s with sett := { s.sett with handed := rest } }

/-- LEDGER_REC (R92, R286). -/
def execLedgerRec (f : SettFrame) (aborted : Bool) (s : State) : Host.Outcome State Fault Refusal :=
  .next (settRx 0x12 f aborted recTake s)

/-- FAULT_REPORT (R90, R443); 0x6106 is the loss of every unit beyond the one that reports. -/
def execFaultReport (f : SettFrame) (aborted : Bool) (s : State) : Host.Outcome State Fault Refusal :=
  .next (settRx 0x13 f aborted (fun p _ t =>
    if t.isHead ∨ t.isActing then
      let u := faultFrom f.src p t
      if fieldBe p 0 2 = 0x6106 then dropBeyond f.src u else u
    else t) s)

/-! ### RETX, ABSENT, stored frames (R79, R80, R90) -/

/-- RETX (R80): the frame named goes out again under a new CTR, a broadcast to the unit that asks alone. -/
def retxTake (unit ctr : Nat) (s : State) : State :=
  match s.sett.sent.find? (fun q => q.2.ctr == ctr && s.within q.1 5000), s.slotKey 2 with
  | some (_, g), some key =>
    let p := if settSealed g.typ then settCrypt key s.sett.epoch (s.unitNum - 1) g.ctr g.payload else g.payload
    let dst := if g.bc then unit else g.dst
    if ctr = 0 ∧ g.macOk key 0 then settSend0 g.typ false dst g.cls p s else settSend g.typ false dst g.cls p s
  | _, _ => s

/-- RETX (R80). -/
def execRetxFrame (f : SettFrame) (aborted : Bool) (s : State) : Host.Outcome State Fault Refusal :=
  .next (settRx 0x14 f aborted (fun p _ t => if fieldBe p 0 1 + 1 = t.unitNum then retxTake f.src (fieldBe p 1 4) t else t) s)

/-- ABSENT (R90): a REQUEST of this unit's completes OFF. -/
def absentTake (ctr typ : Nat) (s : State) : State :=
  if typ ≠ 0x10 then s
  else
    match s.sett.sent.find? (fun q => q.2.ctr == ctr && q.2.typ == 0x10) with
    | some (_, g) => reqComplete (fun r => r.tag == fieldBe g.payload 0 2) .off s
    | none => s

/-- ABSENT (R90). -/
def execAbsentFrame (f : SettFrame) (aborted : Bool) (s : State) : Host.Outcome State Fault Refusal :=
  .next (settRx 0x15 f aborted (fun p _ t =>
    if fieldBe p 0 1 + 1 = t.unitNum then absentTake (fieldBe p 1 4) (fieldBe p 5 1) t else t) s)

/-- The oldest frame stored for a direction goes onto the line, and the next one that waits takes its place. -/
def storedLeave (down : Bool) (x : Bool × SettFrame) (s : State) : State :=
  let next := s.sett.late.find? (fun p => p.1 == down)
  portBusy down s.now (settTicks x.2) { s with sett := { s.sett with
    stored := s.sett.stored.erase x ++ next.toList, late := next.elim s.sett.late s.sett.late.erase,
    forwarded := (x :: s.sett.forwarded).take 16 } }

/-- STORED_FRAME_FORWARD (R74, R79): the oldest frame stored for a direction goes on when the segment allows. -/
def execStoredFrameForward (down : Bool) (s : State) : Host.Outcome State Fault Refusal :=
  match s.sett.stored.find? (fun p => p.1 == down) with
  | none => .next s
  | some x =>
    if s.runs = false ∨ s.domOn .lnk = false ∨ s.isIsolated .sett ∨ (s.port down).opens down s.now = false then .next s
    else .next (storedLeave down x s)

/-- FOB_COPY on unit 2 (R91). -/
def execFobCopy (f : SettFrame) (aborted : Bool) (s : State) : Host.Outcome State Fault Refusal :=
  .next (settRx 0x1B f aborted (fun p _ t =>
    let n := fieldBe p 0 1
    if t.unitNum = 2 ∧ t.isHead = false ∧ n < 64 then
      fobPageCheck n (p.drop 1) { t with sett := { t.sett with fobCopy := (n, p.drop 1) :: t.sett.fobCopy.filter (fun q => q.1 != n) } }
    else t) s)

/-! ### What the chain's engines send by themselves (R84, R91, R92) -/

/-- The head begins IMAGE_DATA 100 µs after its offer where a unit has not confirmed (R84; DESIGN CHOICE, log 43): such a unit is in
quarantine until it does. Step 9 is over (R61). -/
def offerTick (s : State) : State :=
  match s.sett.offerAt, s.img.run with
  | some t, some i =>
    if s.after t 100 = false then s
    else
      let lacks := fun u => u != s.unitNum && s.mapHas u && !s.img.confirms.any (fun c => c.1 == u && c.2 == 0)
      let gone := ((List.range 16).map (· + 1)).filter lacks
      let u := { s with sett := { s.sett with
        offerAt := none, quarMask := gone.foldl maskWith s.sett.quarMask,
        dataOut := if s.allConfirmed then [] else (imageOffsets i.size).map (fun o => (none, o)) } }
      bootFinish (setMap (gone.foldl maskWithout (s.get Reg.SETT_MAP_V)) u)
  | _, _ => s

/-- The next IMAGE_DATA frame. -/
def dataSend (unit : Option Nat) (off : Nat) (s : State) : State :=
  let b := s.imageBytes
  settSend 0x09 unit.isNone (unit.getD 1) .p3 (be 4 off ++ sub b off (min 1020 (b.length - off))) s

/-- A record of an acting head for the head: under EPOCH = 0 while the role lasts, because the two share no epoch yet (log 44). -/
def actRecord (b : Bytes) (s : State) : State := if s.isActing then settSend0 0x12 false 1 .p2 b s else settSend 0x12 false 1 .p2 b s

/-- The next record an acting head hands over, then a LOSS record with its drops (R92). -/
def actSend (n : Nat) (s : State) : State :=
  if n < s.sett.actSeq then actRecord (memGetN s.nv.mem (0x7000 + 48 * n) 40) { s with sett := { s.sett with actOut := some (n + 1) } }
  else
    let d := s.sett.actDrops
    let t := { s with sett := { s.sett with actOut := none, actSeq := 0, actDrops := 0 } }
    if d = 0 then t else actRecord (lossRec d t.unitNum t).tail t

/-- One frame a tick, while the transmit queue is empty. -/
def chainPump (s0 : State) : State :=
  let s := offerTick s0
  let q := s.found .settTx
  if s.runs = false ∨ s.domOn .lnk = false ∨ q.items ≠ [] then s
  else
    match s.sett.dataOut, s.sett.copyDue, s.sett.actOut with
    | (u, o) :: rest, _, _ => dataSend u o { s with sett := { s.sett with dataOut := rest } }
    | [], n :: rest, _ => fobCopySend n (s.fobPage n) { s with sett := { s.sett with copyDue := rest } }
    | [], [], some n => if s.sett.nextEpoch.isSome then s else actSend n s
    | [], [], none => s

end Sys2Proof.Machine
end

