-- ==== Sys2Proof/Machine/SettSplice.lean ====
section
/-! DEFINITION. Loss of the head, the acting head, and splices (R90, R91, R93, R94). -/

namespace Sys2Proof.Machine

/-! ### Silence (R88, R90, R91) -/

/-- Unit 2 becomes acting head (R91): it keeps HEARTBEAT, TIME_SYNC and sessions going for the units beyond it. A splice in progress is
abandoned (R94). -/
def actingBegin (s : State) : State :=
  let t := { s with sett := { s.sett with
    idleSent := true, actingUnit := true, actSeq := 0, actDrops := 0, restricted := false, probe := none, replies := [], assignedAt := none } }
  let t := ((t.setBit Reg.SETT_STAT_UPUP false).setBit Reg.SETT_STAT_ACTING true).setBit Reg.CHRON_STAT_CHAIN false
  let t := { t.setBit Reg.SETT_STAT_CONV false with chron := { t.chron with steer := 0 } }
  evalProfile true (raise 0x6109 0 (setMap (maskWith s.sett.below 2) t))

/-- A unit without a head drops its session role, its Chronicle runs freely, and idle pattern goes out upstream (R90). A splice in progress is
abandoned (R94). -/
def headLost (upLost : Bool) (s : State) : State :=
  let t := airDrop .shed (sessionsDrop s)
  let t := { t with
    chron := { t.chron with steer := 0 },
    sett := { t.sett with
      idleSent := true, assignedAt := none, restricted := false, probe := none, replies := [], conv := 0, absent := true } }
  ((t.setBit Reg.SETT_STAT_UPUP (!upLost)).setBit Reg.SETT_STAT_CONV false).setBit Reg.CHRON_STAT_CHAIN false

/-- The head-silence timer reaches 50 ms (R88). -/
def State.silenceOver (s : State) : Bool := !s.sett.silenceDone && s.after s.sett.silenceAt 50000

/-- HEAD_SILENCE_TIMEOUT (R90, R91): the timer at 50 ms, or the loss of the upstream segment, which `upLost` says the unit finds. Unit 2
is acting head from the first moment at which both hold; R91 asks nothing else of it, neither an image nor that it is in service. -/
def execHeadSilenceTimeout (upLost : Bool) (s : State) : Host.Outcome State Fault Refusal :=
  if s.runs = false ∨ s.isHead ∨ s.isActing ∨ s.unitNum = 0 then .next s
  else
    let up := upLost || !s.bit Reg.SETT_STAT_UPUP
    let t := if s.silenceOver then { s with sett := { s.sett with silenceDone := true } } else s
    if s.silenceOver ∧ s.unitNum = 2 ∧ up then .next (actingBegin t)
    else if s.sett.idleSent then .next t
    else if s.silenceOver ∨ upLost then .next (headLost up t)
    else .next s

/-! ### The splice end (R93) -/

/-- IDLE_PATTERN_DETECT (R93): 200 µs of idle pattern on the downstream port of the last unit. The head refuses a unit beyond unit 16 with fault
0x6108, as it does any that finds no number (R82). -/
def execIdlePatternDetect (s : State) : Host.Outcome State Fault Refusal :=
  if s.runs = false ∨ s.domOn .lnk = false then .next (busWakes 7 s)
  else if s.unitNum = 0 ∨ s.bit Reg.SETT_STAT_LAST = false ∨ s.sett.restricted then .next s
  else
    match randBytes false 8 s with
    | (.bytes n, t) =>
      .next (settSend0 0x16 false (t.unitNum + 1) .p1 n
        { spliceEndNow t with sett := { (spliceEndNow t).sett with
            restricted := true, probe := some (n, t.now), replies := [], idleSeen := some t.now } })
    | (_, t) => .next t

/-- The digest of the retained image; zeros where there is none. -/
def State.retainedDigest (s : State) : Bytes :=
  match s.imgAon.retained with
  | some b => sub b (b.length - 96) 32
  | none => zeros 32

/-- SPLICE_PROBE on a unit without a number, or one that has lost its head: answered, and passed on. -/
def probeTake (f : SettFrame) (nonce : Bytes) (s : State) : State :=
  if s.isHead ∨ (s.unitNum ≠ 0 ∧ s.sett.idleSent = false) then s
  else
    let t := settPass true f { s with sett := { s.sett with nonce := some nonce } }
    settSend0 0x17 false 1 .p1 (be 8 t.straps.serial ++ t.retainedDigest ++ nonce) t

/-- SPLICE_PROBE (R93). -/
def execSpliceProbe (f : SettFrame) (aborted : Bool) (s : State) : Host.Outcome State Fault Refusal :=
  .next (settRx 0x16 f aborted (fun p zero t => if zero then probeTake f (p.take 8) t else t) s)

/-- SPLICE_REPLY: collected by the splice end whose probe it answers, relayed upstream by any other unit. -/
def replyTake (f : SettFrame) (p : Bytes) (s : State) : State :=
  match s.sett.probe with
  | some (n, _) =>
    if sub p 40 8 ≠ n ∨ 16 ≤ s.sett.replies.length then s
    else { s with sett := { s.sett with replies := s.sett.replies ++ [⟨fieldBe p 0 8, sub p 8 32⟩] } }
  | none => settPass false f s

/-- SPLICE_REPLY (R93). -/
def execSpliceReply (f : SettFrame) (aborted : Bool) (s : State) : Host.Outcome State Fault Refusal :=
  .next (settRx 0x17 f aborted (fun p zero t => if zero then replyTake f p t else t) s)

/-! ### The head assigns numbers (R93) -/

/-- A number for a serial: its own; the lowest free; that of the unit absent longest; none where all are in service. -/
def numberFor (serial : Nat) (l : List Binding) : Option Nat :=
  match l.find? (fun b => b.serial == serial) with
  | some b => some b.num
  | none =>
    match ((List.range 16).map (· + 1)).find? (fun n => l.all (fun b => b.num != n) && n != 1) with
    | some n => some n
    | none =>
      match l.filter (fun b => !b.inService && b.num != 1) with
      | [] => none
      | b :: rest => some (rest.foldl (fun a c => if c.lost < a.lost then c else a) b).num

/-- Numbers for the serials in chain order, with the bindings that result and those refused. -/
def numbersFor : List Nat → List Binding → List (Nat × Nat) × List Binding × List Nat
  | [], l => ([], l, [])
  | serial :: rest, l =>
    match numberFor serial l with
    | none =>
      match numbersFor rest l with
      | (ns, l', no) => (ns, l', serial :: no)
    | some n =>
      match numbersFor rest (l.filter (fun b => b.num != n) ++ [⟨serial, n, true, 0⟩]) with
      | (ns, l', no) => ((serial, n) :: ns, l', no)

/-- SPLICE_ASSIGN's payload (log 43): EPOCH, the probe's nonce, serials with numbers. -/
def assignBytes (epoch : Nat) (nonce : Bytes) (ns : List (Nat × Nat)) : Bytes :=
  be 8 epoch ++ nonce.take 8 ++ ns.flatMap (fun p => be 8 p.1 ++ be 1 p.2)

/-- A splice end whose splice has come to nothing, or to JOIN, lifts its restriction; the chain goes on beyond it after a JOIN (R93, R94). -/
def spliceOver (joined : Bool) (s : State) : State :=
  let t := { s with sett := { s.sett with restricted := false, spliceEnd := s.sett.spliceEnd && !joined } }
  if joined then (t.setBit Reg.SETT_STAT_SPLICE true).setBit Reg.SETT_STAT_LAST false else t

/-- The splice end sees numbers given beyond it, or that every serial is refused; counters of a unit that starts afresh count from 0
(R76, R94; log 43). -/
def spliceGiven (nums : List Nat) (s : State) : State :=
  if nums = [] then spliceOver false s
  else
    let t := { s with sett := { s.sett with
      downQuar := true, unanswered := 0, lastCtr := s.sett.lastCtr.filter (fun p => !nums.contains p.1) } }
    t.setBit Reg.SETT_STAT_DNUP true

/-- A SPLICE_REPORT served: a binding is committed where a serial is new; the units named are in quarantine until they JOIN. -/
def spliceServe (endUnit : Nat) (nonce : Bytes) (serials : List Nat) (s : State) : State :=
  match numbersFor serials s.bindings with
  | (ns, l, refused) =>
    let fresh := ns.any (fun p => !s.bindings.any (fun b => b.serial == p.1))
    let t := if fresh then bindingCommit l s else s
    let nums := ns.map (·.2)
    let t := { t with
      sett := { t.sett with
        quarMask := nums.foldl maskWith t.sett.quarMask, spliced := nums.foldl maskWith t.sett.spliced,
        lastCtr := t.sett.lastCtr.filter (fun p => !nums.contains p.1), acks := t.sett.acks.filter (fun a => !nums.contains a.unit) },
      img := { t.img with confirms := t.img.confirms.filter (fun c => !nums.contains c.1) } }
    let t := if refused = [] then t else raise 0x6108 0 t
    let t := if endUnit = t.unitNum then spliceGiven nums t else t
    let t := settSend0 0x19 false endUnit .p1 (assignBytes t.sett.epoch nonce ns) t
    if ns = [] then t else imageOffer t

/-- SPLICE_COLLECT_END (R93): 500 µs after the probe. A head that is the splice end serves its own report. -/
def execSpliceCollectEnd (s : State) : Host.Outcome State Fault Refusal :=
  match s.sett.probe with
  | none => .next s
  | some (n, at_) =>
    if s.after at_ 500 = false then .next s
    else
      let rs := s.sett.replies
      let t := { s with sett := { s.sett with probe := none, replies := [] } }
      if rs = [] then .next (spliceOver false t)
      else if t.isHead then .next (spliceServe t.unitNum n (rs.map (·.serial)) t)
      else .next (settSend 0x18 false 1 .p1 (n ++ rs.flatMap (fun r => be 8 r.serial ++ r.digest)) t)

/-- SPLICE_REPORT (R93, R94). -/
def execSpliceReport (f : SettFrame) (aborted : Bool) (s : State) : Host.Outcome State Fault Refusal :=
  .next (settRx 0x18 f aborted (fun p _ t =>
    if t.isHead then spliceServe f.src (p.take 8) ((List.range ((p.length - 8) / 40)).map (fun k => fieldBe p (8 + 40 * k) 8)) t else t) s)

/-! ### SPLICE_ASSIGN on the units (R76, R93) -/

/-- The number a SPLICE_ASSIGN gives a serial. -/
def assigned (p : Bytes) (serial : Nat) : Option Nat :=
  (((List.range ((p.length - 16) / 9)).map (fun k => (fieldBe p (16 + 9 * k) 8, fieldBe p (24 + 9 * k) 1))).find? (fun q => q.1 == serial)).map
    (·.2)

/-- The numbers that a SPLICE_ASSIGN gives. -/
def assignedNums (p : Bytes) : List Nat := (List.range ((p.length - 16) / 9)).map (fun k => fieldBe p (24 + 9 * k) 1)

/-- A unit takes the EPOCH of its SPLICE_ASSIGN; the counters of an epoch that it has been in all along go on (R76). -/
def assignEpoch (e : Nat) (s : State) : State :=
  if e = s.sett.epoch then { s with sett := { s.sett with nextEpoch := none } }
  else { s with sett := { s.sett with epoch := e, oldEpoch := none, nextEpoch := none, lastCtr := [], myCtr := 0 } }

/-- A unit takes its number and enters quarantine; an acting head's role ends with it. -/
def assignTake (n : Nat) (p : Bytes) (s : State) : State :=
  let t := assignEpoch (fieldBe p 0 8) (actingEnd s)
  let t := { t with sett := { t.sett with
    nonce := none, idleSent := false, assignedAt := some t.now, convFault := false, conv := 0, restricted := false, downQuar := true } }
  (((t.put Reg.SETT_STAT_NUM n).setBit Reg.SETT_STAT_QUAR true).setBit Reg.SETT_STAT_CONV false).setBit Reg.SETT_STAT_UPUP true

/-- SPLICE_ASSIGN: the splice end passes it down; a unit accepts it once for the probe it answered, and passes it on where it names a
further unit. -/
def assignFrame (f : SettFrame) (p : Bytes) (s : State) : State :=
  if s.sett.restricted ∧ s.unitNum ≠ 0 ∧ s.sett.idleSent = false then settPass true f (spliceGiven (assignedNums p) s)
  else if s.sett.nonce = some (sub p 8 8) ∧ s.isHead = false then
    match assigned p s.straps.serial with
    | some n =>
      let last := (assignedNums p).getLast? == some n
      settPass true f ((assignTake n p s).setBit Reg.SETT_STAT_LAST last |>.setBit Reg.SETT_STAT_DNUP (!last))
    | none => s
  else s

/-- SPLICE_ASSIGN (R93). -/
def execSpliceAssign (f : SettFrame) (aborted : Bool) (s : State) : Host.Outcome State Fault Refusal :=
  .next (settRx 0x19 f aborted (fun p zero t => if zero then assignFrame f p t else t) s)

/-! ### JOIN (R93) -/

/-- JOIN on the head: the unit is in service, is told the profile, and unit 2 gets the fob records (R91). -/
def joinTake (unit : Nat) (s : State) : State :=
  let back := s.bindings.filter (fun b => b.num == unit)
  let t := { s with sett := { s.sett with
    quarMask := maskWithout s.sett.quarMask unit, spliced := maskWithout s.sett.spliced unit,
    lossAt := s.sett.lossAt.filter (fun p => back.all (fun b => b.serial != p.1)),
    copyDue := if unit = 2 then (List.range 64).filter (fun n => (s.fob n).isSome) else s.sett.copyDue } }
  let t := setMap (maskWith (t.get Reg.SETT_MAP_V) unit) t
  let t := if t.sett.restricted then spliceOver true t else t
  settSend 0x0D true 1 .p1 (be 1 t.profile) { t with sett := { t.sett with profAt := t.now } }

/-- JOIN (R93): the splice end it passes lifts its restriction. -/
def execJoinFrame (f : SettFrame) (aborted : Bool) (s : State) : Host.Outcome State Fault Refusal :=
  let t := settRx 0x1A f aborted (fun _ _ t => if t.isHead then joinTake f.src t else t) s
  if f.typ = 0x1A ∧ aborted = false ∧ s.runs ∧ s.isHead = false ∧ s.sett.restricted ∧ s.unitNum < f.src then .next (spliceOver true t)
  else .next t

/-- CONVERGE_TIMEOUT (R93): 20 ms after SPLICE_ASSIGN. -/
def execConvergeTimeout (s : State) : Host.Outcome State Fault Refusal :=
  match s.sett.assignedAt with
  | none => .next s
  | some t =>
    if s.bit Reg.SETT_STAT_CONV ∨ s.sett.convFault ∨ s.after t 20000 = false then .next s
    else .next (raise 0x6105 0 { s with sett := { s.sett with convFault := true } })

end Sys2Proof.Machine
end

