-- ==== Sys2Proof/Machine/Writes.lean ====
section
/-! DEFINITION. Commands that are one fabric access with an effect of its own: timers, retained memory, the Den, crypto, entropy, the tag,
switches. -/

namespace Sys2Proof.Machine

/-- A 32-bit write of a master. -/
def wordWrite (m : Master) (a v : Nat) (s : State) : Host.Outcome State Fault Refusal := .next (fabAnswer m (fabWrite m a .b32 v s))

/-! ### Timers, switches (R265, R413) -/

/-- TIM_GO (R263, R265). -/
def execTimGo (m : Master) (mask : Nat) (s : State) : Host.Outcome State Fault Refusal := wordWrite m Reg.TIM_GO mask s

/-- TIM_STOP (R263, R265). -/
def execTimStop (m : Master) (mask : Nat) (s : State) : Host.Outcome State Fault Refusal := wordWrite m Reg.TIM_STOP mask s

/-- SWITCH_POL_WRITE (R413, R418). -/
def execSwitchPolWrite (m : Master) (v : Nat) (s : State) : Host.Outcome State Fault Refusal := wordWrite m Reg.TSW_SWCFG v s

/-! ### Retained memory (R308, R310, R316, R317) -/

/-- RETAINED_WINDOW_WRITE (R308). -/
def execRetainedWindowWrite (m : Master) (off : Nat) (w : Width) (v : Nat) (s : State) : Host.Outcome State Fault Refusal :=
  .next (fabAnswer m (fabWrite m (0x50100000 + off % 65536) w v s))

/-- RMC_COMMIT (R308, R310). -/
def execRmcCommit (m : Master) (s : State) : Host.Outcome State Fault Refusal := wordWrite m Reg.RMC_CMD 1 s

/-- RMC_ABORT (R308). -/
def execRmcAbort (m : Master) (s : State) : Host.Outcome State Fault Refusal := wordWrite m Reg.RMC_CMD 2 s

/-- TALLY_INCREMENT (R316, R317): by a master through RMC_TCMD, or by an engine. -/
def execTallyIncrement (by_ : TallyBy) (cls : Cls) (c : Nat) (s : State) : Host.Outcome State Fault Refusal :=
  match by_ with
  | .master m => wordWrite m Reg.RMC_TCMD (0x80000100 + c % 32) s
  | .engine e => .next (engineTally e cls c none s)

/-- TALLY_RAISE (R316, R317): RMC_TARG, then RMC_TCMD; or by an engine. -/
def execTallyRaise (by_ : TallyBy) (cls : Cls) (c v : Nat) (s : State) : Host.Outcome State Fault Refusal :=
  match by_ with
  | .master m =>
    match fabWrite m Reg.RMC_TARG .b32 v s with
    | (.ok, t) => wordWrite m Reg.RMC_TCMD (0x80000200 + c % 32) t
    | r => .next (fabAnswer m r)
  | .engine e => .next (engineTally e cls c (some v) s)

/-! ### The Den (R333 to R342) -/

/-- VLT_CMD with GO. -/
def denGo (op : Nat) (m : Master) (slot : Nat) (s : State) : Host.Outcome State Fault Refusal :=
  wordWrite m Reg.VLT_CMD (0x80000000 + op * 256 + slot % 256) s

/-- GENERATE (R333). -/
def execGenerate (m : Master) (slot : Nat) (s : State) : Host.Outcome State Fault Refusal := denGo 1 m slot s

/-- IMPORT_OPEN (R334). -/
def execImportOpen (m : Master) (slot : Nat) (s : State) : Host.Outcome State Fault Refusal := denGo 2 m slot s

/-- IMPORT (R334). -/
def execImportKey (m : Master) (slot : Nat) (s : State) : Host.Outcome State Fault Refusal := denGo 3 m slot s

/-- ERASE (R335). -/
def execEraseSlot (m : Master) (slot : Nat) (s : State) : Host.Outcome State Fault Refusal := denGo 4 m slot s

/-- ATTEST (R337). -/
def execAttest (m : Master) (slot : Nat) (s : State) : Host.Outcome State Fault Refusal := denGo 5 m slot s

/-- PUBLIC (R342). -/
def execPublicPoint (m : Master) (slot : Nat) (s : State) : Host.Outcome State Fault Refusal := denGo 6 m slot s

/-- LC_NONCE (R339). -/
def execLcNonce (m : Master) (s : State) : Host.Outcome State Fault Refusal := denGo 7 m 0 s

/-- LC_SET (R338, R339). -/
def execLcSet (m : Master) (s : State) : Host.Outcome State Fault Refusal := denGo 8 m 0 s

/-- EXPORT (R336). -/
def execExportKey (m : Master) (slot : Nat) (s : State) : Host.Outcome State Fault Refusal := denGo 9 m slot s

/-- LEGACY_KEY_WRITE (R341). -/
def execLegacyKeyWrite (m : Master) (i v : Nat) (s : State) : Host.Outcome State Fault Refusal := wordWrite m (0x40000070 + 4 * (i % 4)) v s

/-! ### Crypto (R347) -/

/-- CRY_CMD with GO. -/
def cryGo (op : Nat) (m : Master) (slot dst mode : Nat) (s : State) : Host.Outcome State Fault Refusal :=
  wordWrite m Reg.CRY_CMD (0x80000000 + slot % 256 * 65536 + dst % 256 * 256 + op * 16 + mode % 16) s

/-- ENCRYPT (R347). -/
def execEncrypt (m : Master) (slot mode : Nat) (s : State) : Host.Outcome State Fault Refusal := cryGo 1 m slot 0 mode s

/-- DECRYPT (R347). -/
def execDecrypt (m : Master) (slot mode : Nat) (s : State) : Host.Outcome State Fault Refusal := cryGo 2 m slot 0 mode s

/-- MAC (R347). -/
def execMacTag (m : Master) (slot mode : Nat) (s : State) : Host.Outcome State Fault Refusal := cryGo 3 m slot 0 mode s

/-- HASH (R347). -/
def execHashSha (m : Master) (s : State) : Host.Outcome State Fault Refusal := cryGo 4 m 0 0 0 s

/-- SIGN (R347). -/
def execSignDigest (m : Master) (slot : Nat) (s : State) : Host.Outcome State Fault Refusal := cryGo 5 m slot 0 0 s

/-- VERIFY (R347): MODE 1 takes the point from the buffer. -/
def execVerifySig (m : Master) (slot mode : Nat) (s : State) : Host.Outcome State Fault Refusal := cryGo 6 m slot 0 mode s

/-- AGREE (R347). -/
def execAgree (m : Master) (slot dst : Nat) (s : State) : Host.Outcome State Fault Refusal := cryGo 7 m slot dst 0 s

/-- DERIVE (R347). -/
def execDerive (m : Master) (slot dst : Nat) (s : State) : Host.Outcome State Fault Refusal := cryGo 8 m slot dst 0 s

/-- RANDOM (R347). -/
def execRandomBytes (m : Master) (s : State) : Host.Outcome State Fault Refusal := cryGo 9 m 0 0 0 s

/-! ### Entropy (R353, R354, R359, R360) -/

/-- A read of ENT_RAND that has passed the fabric's checks is a request of its master in the DRBG's queue (R352, R354). -/
def randRead (m : Master) (s : State) : State :=
  match enqueue .drbg m.cls m .burst s with
  | (.taken, s) =>
    match randReq false 4 s with
    | (.bytes b, t) => randAnswer m .ok b t
    | (.fail, t) => randAnswer m .entropyFail [] t
    | (.wait, t) => { t with ent := { t.ent with waiting := t.ent.waiting ++ [(m, s.now)] } }
  | (r, t) => randAnswer m r.status [] t

/-- ENT_RAND_READ (R354): one DRBG request, waiting up to 1 ms where a master outside waits. -/
def execEntRandRead (m : Master) (s : State) : Host.Outcome State Fault Refusal :=
  match fabCheck m Reg.ENT_RAND .b32 false s with
  | (.ok, _, t) => .next (randRead m t)
  | (st, _, t) => .next (fabAnswer m (st, t))

/-- RESEED (R353): ENT_CTL.RESEED, RAW and RAWSEL as they are. -/
def execReseed (m : Master) (s : State) : Host.Outcome State Fault Refusal :=
  wordWrite m Reg.ENT_CTL ((s.rd Reg.ENT_CTL).toNat % 2147483648 + 0x80000000) s

/-- RAW_MODE_ENTER (R359): ENT_CTL.RAW set, with the source to read. -/
def execRawModeEnter (m : Master) (sel : Nat) (s : State) : Host.Outcome State Fault Refusal :=
  wordWrite m Reg.ENT_CTL (0x40000000 + sel % 8) s

/-- RAW_MODE_EXIT (R360): RAW written 0. -/
def execRawModeExit (m : Master) (s : State) : Host.Outcome State Fault Refusal := wordWrite m Reg.ENT_CTL 0 s

/-- ENT_RAW_READ (R359): 32 raw samples. -/
def execEntRawRead (m : Master) (s : State) : Host.Outcome State Fault Refusal :=
  match fabRead m Reg.ENT_RAW .b32 s with
  | (st, v, t) => .next (answerTo m st [BitVec.ofNat 32 v] t)

/-! ### The tag (R372, R380) -/

/-- TAG_MEM_WRITE (R372). -/
def execTagMemWrite (m : Master) (off : Nat) (w : Width) (v : Nat) (s : State) : Host.Outcome State Fault Refusal :=
  .next (fabAnswer m (fabWrite m (0x60040000 + off % 8192) w v s))

/-- TAG_WIRED_COMMIT (R372, R373). -/
def execTagWiredCommit (m : Master) (leaf : Nat) (s : State) : Host.Outcome State Fault Refusal :=
  wordWrite m Reg.TAG_WCMT (0x80000000 + 128 + leaf % 128) s

/-- TAG_WIRED_DISCARD (R372). -/
def execTagWiredDiscard (m : Master) (leaf : Nat) (s : State) : Host.Outcome State Fault Refusal :=
  wordWrite m Reg.TAG_WCMT (0x80000000 + 256 + leaf % 128) s

end Sys2Proof.Machine
end

