-- ==== Sys2Proof/Machine/Complete.lean ====
section
/-! DEFINITION. Programs of the retained memory that end (13), and what waits for them. -/

namespace Sys2Proof.Machine

/-! ### What follows a commit group -/

/-- A Den command's group: a slot written anew is usable again (R331); an erased slot 6 takes the tag's key with it (R364). -/
def denGroupDone (r : RmcResult) (g : Group) (s : State) : State :=
  let slots := (g.writes.filter (fun w => decide (w.1 < 0x4000))).map (fun w => w.1 / 64)
  let t := if r = .ok then
      { s with den := { s.den with unusable := s.den.unusable.filter (fun n => !slots.contains n) },
               tagAon := { s.tagAon with key := if slots.contains 6 ∧ s.occupied 6 = false then none else s.tagAon.key } }
    else s
  denDone (rmcDen r) [] t

/-- TRIAL := 0 is committed: step 2 of the confirmation (R54). -/
def trialCleared (tester ok : Bool) (s : State) : State :=
  if ok then
    match confirmRaise tester s with
    | (true, t) => t
    | (false, t) => if tester then routineFail 0x21 t else t
  else
    let t := confirmStop s
    if tester then routineFail 0x72 t else t

/-- PENDING := none is committed: the image it named is superseded, the staged slot is erased, the download is open (R55, R56, R400). -/
def downloadReady (ok : Bool) (s : State) : State :=
  match s.can.routine with
  | some (.downloadOpen size) =>
    let t := { s with can := { s.can with routine := none } }
    if ok = false then diagNeg 0x34 0x72 t
    else
      let slotB := t.stagedSlot
      let was := t.get Reg.MEM_IMG_STAT_PENDING
      let t := if was = 0 then t else (setRej (was == 2) 0x0F t).put Reg.MEM_IMG_STAT_PENDING 0
      let t := { t with straps := if slotB then { t.straps with norB := [] } else { t.straps with norA := [] } }
      diagPos 0x34 [0x20, 0x08, 0x02] { t with can := { t.can with xfer := some (.download slotB size 0 1) } }
  | _ => s

/-- How many 1 MiB frames the image archive holds: the rest of the first 128 MiB of the first NAND (R288). -/
def State.archiveSize (s : State) : Nat := (134217728 - 8 * 64 * (s.dev 0).page) / 1048576

/-- The staged slot is pending: its copy enters the archive, the tester is answered (R56, R288). -/
def pendingMarked (ok : Bool) (s : State) : State :=
  match s.can.routine with
  | some .transferExit =>
    let t := { s with can := { s.can with routine := none } }
    if ok = false then diagNeg 0x37 0x72 t
    else
      let p := t.selector.pending
      let nor := if p = 2 then t.straps.norB else t.straps.norA
      let all := t.nand.archive ++ [nor.take (norField nor 0x0C 4)]
      diagPos 0x37 [] ({ t with nand := { t.nand with archive := all.drop (all.length - t.archiveSize) } }.put Reg.MEM_IMG_STAT_PENDING p)
  | _ => s

/-- A notice whose commit fails is never acted on (R242). -/
def noticeGroupDone (record : Nat) (ok : Bool) (s : State) : State :=
  if ok then s else setNotice { (s.noticeOf record) with wait := none } s

/-- An enrolled record is committed: a session under the old keys ends, FOB_EVENT, and the routine's answer (R225, R401). -/
def enrolDone (record : Nat) (ok : Bool) (s : State) : State :=
  let t := laneFree 1 (laneFree 0 s)
  if ok = false then routineFail 0x72 t
  else
    let t := sesKick (sessionEnd record 2 (recordWritten record t))
    let t := { t with ses := { t.ses with notices := t.ses.notices.filter (fun v => v.record != record) } }
    routineOk 0xF002 (be 1 record) (logRec 0x15 (fobEvent 1 record ((t.fob record).getD FobRec.empty)) t)

/-- A fob record is rewritten for the tester: FOB_EVENT and the answer; a fob barred or emptied loses its session (R231, R401). -/
def fobRoutineDone (rid record : Nat) (ok : Bool) (s : State) : State :=
  match s.can.routine with
  | some (.fob _ event) =>
    if ok = false then routineFail 0x72 s
    else
      let t := recordWritten record s
      let t := if (t.activeFob record).isSome then t else sesKick (sessionEnd record 9 t)
      routineOk rid [] (logRec 0x15 event t)
  | _ => s

/-- The requester of a group is told (R310, step 3). -/
def groupTold (r : RmcResult) (g : Group) (s : State) : State :=
  let ok := decide (r = .ok)
  match g.owner with
  | .none | .tcmd | .tallyRoll _ | .tallyBase _ _ | .lcSet _ _ | .confirmArb _ | .arbRaise | .startToken => s
  | .binding | .actBuf | .summary | .lastRun | .denRewrite _ => s
  | .window => windowDone r s
  | .denCmd => denGroupDone r g s
  | .denLegacy => denGroupDone r g s
  | .cryCmd => cryDone (rmcCry r) [] s
  | .denRepair n => if ok then { s with den := { s.den with unusable := s.den.unusable.filter (· != n) } } else s
  | .denRetire => if ok then retireNext s else if s.bit Reg.VLT_STAT_BUSY then denDone .fail [] s else s
  | .confirmTrial tester => trialCleared tester ok s
  | .downloadOpen => downloadReady ok s
  | .markPending => pendingMarked ok s
  | .notice record => noticeGroupDone record ok s
  | .enrol record => enrolDone record ok s
  | .fobRoutine rid record => fobRoutineDone rid record ok s
  | .tagCommit => commitEnded (if ok then .ok else .fail) s

/-! ### What follows a tally operation -/

/-- The requester of a tally operation is told (R317). -/
def tallyTold (op : TallyRun) (r : RmcResult) (s : State) : State :=
  let ok := decide (r = .ok)
  match op.req.owner with
  | .tcmd => tcmdDone op.req.ctr r s
  | .startToken => if ok then startTokenSend s else s
  | .lcSet to_ m => if ok then denDone .ok [] (lcEnter to_ m s) else denDone .fail [] s
  | .confirmArb tester =>
    if ok then
      let t := confirmTell s
      if tester then routineOk 0xF001 [] t else t
    else
      let t := confirmStop s
      if tester then routineFail 0x72 t else t
  | .arbRaise => if ok then sendConfirm 0 s else s
  | _ => s

/-- The operation ends; the store goes on. -/
def tallyOver (op : TallyRun) (r : RmcResult) (s : State) : State := tallyTold op r (tallyEnd s)

/-- The base page of a counter is committed: the other set is active, the old one is erased in the background (R317, R318). -/
def baseDone (c base : Nat) (s : State) : State :=
  let x := s.tally c
  let t := s.setTally c { x with base := base, gen := x.gen + 1, cells := 0, old := x.cells }
  { t with rmc := { t.rmc with erasing := if x.cells = 0 then t.rmc.erasing else (c, s.now) :: t.rmc.erasing } }

/-! ### The programs (R310) -/

/-- A group ends: its marker stands, or it has failed (fault 0x5302). -/
def groupEnd (c : Commit) (r : RmcResult) (s0 : State) : State :=
  let ok := decide (r = .ok)
  let s := if ok then applyShadow c.shadow (markerUsed c.group s0) else raise 0x5302 0 s0
  match c.group.owner, s.rmc.op with
  | .tallyRoll n, some op => if ok then storeNext (baseDone n ((s.tally n).base + 256) s) else tallyOver op .fail s
  | .tallyBase n v, some op => if ok then tallyOver op .ok (baseDone n v s) else tallyOver op .fail s
  | _, _ => groupTold r c.group (storeNext s)

/-- PAGE_PROGRAM_DONE (R310, R311): a shadow page's program has ended, 3.2 ms after it began; `ok` says whether it verified. -/
def execPageProgramDone (ok : Bool) (s : State) : Host.Outcome State Fault Refusal :=
  match s.rmc.cur with
  | none => .next s
  | some c =>
    match c.todo with
    | [] => .next s
    | p :: rest =>
      if s.rmc.stopped ∨ s.after c.startAt 3200 = false then .next s
      else if ok then .next (pageDone c p rest s)
      else if c.tries < 2 then .next (reprogram c s)
      else .next (groupEnd c .fail s)

/-- MARKER_PROGRAM_DONE (R310): the marker's program has ended. -/
def execMarkerProgramDone (ok : Bool) (s : State) : Host.Outcome State Fault Refusal :=
  match s.rmc.cur with
  | none => .next s
  | some c =>
    if c.todo ≠ [] ∨ s.rmc.stopped ∨ s.after c.startAt 3200 = false then .next s
    else if ok then .next (groupEnd c .ok s)
    else if c.tries < 2 then .next (reprogram c s)
    else .next (groupEnd c .fail s)

/-- A cell is programmed: the value has risen by one; a cell VBAT_FAIL caught is complete, and its operation ends (R317, R471). -/
def cellOver (op : TallyRun) (s : State) : State :=
  let c := op.req.ctr
  let x := s.tally c
  let t := s.setTally c { x with cells := x.cells + 1, marginal := false }
  let goal := op.goal.getD (op.req.target x.value)
  if x.marginal ∧ op.req.raise.isSome ∧ op.req.owner = .tcmd then tallyOver op .aborted t
  else if goal ≤ (t.tally c).value then tallyOver op .ok t
  else tallyStart t

/-- TALLY_CELL_DONE (R317, R471): a cell program has ended, 3.2 ms after it began; an operation with nothing to program ends. -/
def execTallyCellDone (s : State) : Host.Outcome State Fault Refusal :=
  match s.rmc.op with
  | none => .next s
  | some op =>
    match op.cellAt with
    | some at_ => if s.rmc.stopped ∨ s.after at_ 3200 = false then .next s else .next (cellOver op s)
    | none =>
      let x := s.tally op.req.ctr
      if s.rmc.stopped ∨ s.rmc.cur.isSome then .next s
      else
        match tallyNext x (op.goal.getD (op.req.target x.value)) with
        | .done => .next (tallyOver op .ok s)
        | .saturated => .next (tallyOver op .saturated s)
        | .cell | .roll | .baseTo _ | .waitErase => .next s

end Sys2Proof.Machine
end

