-- ==== Sys2Proof/Machine/Clock.lean ====
section
/-! DEFINITION. One tick of the clock (R5): what happens by itself as time passes, and the commands that are a tick's events (10). -/

namespace Sys2Proof.Machine

/-! ### The Chronicle (R87, R254, R257) -/

/-- The correction of the coming tick in ppb: crystal compensation, slew, steering. -/
def State.correction (s : State) : Int :=
  s.chron.corr + (if 0 < s.chron.slew then 150000 else if s.chron.slew < 0 then -150000 else 0) +
    (if s.isHead ∨ s.isActing then 0 else s.chron.steer * 1000)

/-- The slew is used up by one count in a million over 150 ticks. -/
def slewTick (c : ChronSt) : ChronSt :=
  if c.slew = 0 then c
  else if c.slewAcc + 150 < 1000000 then { c with slewAcc := c.slewAcc + 150 }
  else { c with slewAcc := c.slewAcc + 150 - 1000000, slew := if 0 < c.slew then c.slew - 1 else c.slew + 1 }

/-- The Chronicle after one tick: it advances by 0, 1 or 2. -/
def State.chronNext (s : State) : ChronSt :=
  let f : Int := s.chron.frac + s.correction * 4294967296 / 1000000000
  slewTick { s.chron with count := s.chron.count + BitVec.ofInt 64 (1 + f / 4294967296), frac := (f % 4294967296).toNat }

/-- The coming tick carries into the Chronicle seconds (R260). -/
def State.secondDue (s : State) : Bool := s.chron.count.toNat / 4194304 != s.chronNext.count.toNat / 4194304

/-! ### Whole seconds (R260, R261, R278) -/

/-- FLAGS of Table 10-1. -/
def State.timeFlags (s : State) : Nat :=
  (if s.timeValid then 1 else 0) + (if s.bit Reg.CHRON_STAT_SLEW then 2 else 0) + (if s.bit Reg.CHRON_STAT_DEGR then 4 else 0) +
    (if s.chron.stepSinceMsg then 8 else 0)

/-- The snapshot, and on a head whose CAN port is awake the TIME message. -/
def snapshot (s : State) : State :=
  let off := (s.rd Reg.CHRON_UTCOFF).toNat % 65536
  let seq := s.get Reg.CHRON_STAT_SEQ
  let fl := s.timeFlags
  let t := s.put Reg.CHRON_SNAP_V s.secs
  let t := ((t.put Reg.CHRON_SNAPX_UTCOFF off).put Reg.CHRON_SNAPX_FLAGS fl).put Reg.CHRON_SNAPX_SEQ seq
  if s.isHead ∧ s.get Reg.CAN_STAT_XCVR = 2 then
    canSend 0x40 (be 4 s.secs ++ be 2 off ++ be 1 fl ++ be 1 seq) { t with chron := { t.chron with stepSinceMsg := false } }
  else t

/-- Whether TIME_PPS may be high, and snapshots are taken. -/
def State.ppsAllowed (s : State) : Bool := s.runs && !s.bit Reg.CHRON_STAT_BKP

/-- TIME_PPS rises, unless its last rise lies less than 500 ms back; the snapshot goes with it. -/
def ppsSecond (s : State) : State :=
  if s.ppsAllowed = false then s
  else if s.timeValid = false then snapshot s
  else if s.chron.ppsRose.any (fun r => decide (s.now < r + 2097152)) then s
  else captureEdge 3 true (snapshot { s with chron := { s.chron with ppsHigh := true, ppsRose := some s.now } })

/-- TIME_PPS falls after 2^19 ticks, or at once where it may not be high. -/
def State.ppsEnds (s : State) : Bool :=
  s.chron.ppsHigh && (!s.ppsAllowed || !s.timeValid || s.chron.ppsRose.all (fun r => decide (r + 524288 ≤ s.now)))

def ppsFall (s : State) : State :=
  if s.ppsEnds then captureEdge 3 false { s with chron := { s.chron with ppsHigh := false } } else s

/-- Road metres between two pulse counts. -/
def State.metresAt (s : State) (pulses : Nat) : Nat := pulses * 1000 / s.pulseK

/-- The sample of a second that has ended joins the block. -/
def MotionBlk.sample (b : MotionBlk) (s : State) : MotionBlk :=
  let gain := s.metresAt s.motion.pulses - s.metresAt b.pulses - b.metres.sum
  let known := s.speedKnown
  { b with speeds := b.speeds ++ [if known then s.speed else 0xFFFF], metres := b.metres ++ [min 255 gain],
           known := b.known + (if known then 2 ^ b.speeds.length else 0),
           flags := b.flags ||| ((if s.bit Reg.WM_MSTAT_REV then 1 else 0) + (if s.lines.ignition then 0 else 2)) }

/-- A block begins with the second that begins. -/
def State.newBlock (s : State) : MotionBlk := ⟨s.secs, s.tsub, (s.mkRec 0x20 []).flags, s.motion.pulses, [], [], 0, 0⟩

/-- Once a second in ROAD the head's ledger takes the sample of the second just ended; eight samples are a MOTION record. -/
def motionSecond (s : State) : State :=
  if s.profile ≠ 3 ∨ ¬ (s.isHead ∨ s.isActing) then s
  else
    match s.led.motion with
    | none => { s with led := { s.led with motion := some s.newBlock } }
    | some b =>
      let c := b.sample s
      let t := { s with led := { s.led with motion := some c } }
      if c.speeds.length < 8 then t
      else
        let u := motionFlush t
        { u with led := { u.led with motion := some u.newBlock } }

/-- The Chronicle seconds have increased by counting. -/
def secondCounted (s : State) : State := dayCheck (motionSecond (ppsSecond s))

/-! ### The lanes, the Hedgehog -/

/-- An emission that has lasted its time ends (R145). -/
def laneEmitted (n : Nat) (s : State) : State :=
  match (s.lane n).txEnd with
  | some t => if t ≤ s.airAbs then laneDone n (laneTxEnd n s) else s
  | none => s

/-- A lane at a tick: a loopback, a transition or an emission ends, a window makes way for a transmit, a transmit that comes too late is
cancelled; a run that was given the lane goes on. -/
def laneTick (n : Nat) (s : State) : State :=
  let waiting := fun (s : State) => s.ses.runs.countP (fun r => r.lane == 2)
  let t := txDeadline n (windowYield n (laneEmitted n (laneTurn n (loopTick n s))))
  if waiting t < waiting s then sesKick t else t

/-- A session that waits for its CHALLENGE while the source has failed ends with POLICY (R355). -/
def entropyTick (s : State) : State :=
  if s.bit Reg.ENT_STAT_FAIL then
    (s.ses.ss.filter (fun x => x.challenges == 0)).foldl (fun s x => sessionEnd x.record 0xA s) (latchFlush s)
  else s

/-- A decision that waited for an earlier one of the same millisecond is judged again (R241). -/
def sesTick (s : State) : State :=
  if s.ses.ss.any (·.authed) && s.ses.runs.any (fun r => s.ses.runs.any (fun q => r.firedAt != q.firedAt || r.id != q.id)) then judgeAll s else s

/-- The Hedgehog's heartbeat to PD_AON, every 5 ms while PD_SUP is on (R442). -/
def hedgeBeat (s : State) : State :=
  if s.domOn .sup ∧ s.after s.hhAon.heartbeat 5000 then { s with hhAon := { s.hhAon with heartbeat := s.now } } else s

/-! ### One tick -/

/-- The clock, the timers, the Chronicle. -/
def clockTick (s : State) : State :=
  let due := s.secondDue
  let c := s.chronNext
  let t := timersTick { s with now := s.now + 1, hwSet := [], chron := c }
  let t := if s.chron.slew ≠ 0 ∧ c.slew = 0 then t.setBit Reg.CHRON_STAT_SLEW false else t
  let t := ppsFall t
  if due then secondCounted t else t

/-- A commit group that lost its place in the queue comes back in the next tick (R23). -/
def storeTick (s : State) : State := if s.rmc.stopped ∨ s.rmc.resubmit = [] then s else resubmitGroups s

/-- What the engines do by themselves at a tick. -/
def enginesTick (s : State) : State :=
  diagPump (ringStirred (sesTick (entropyTick (lineTick (handedTick (chainPump (storeTick (coilRoutineEnd (symRelease (hedgeBeat (fieldTick (sleepTail (internalTick (noticeSearch (laneTick 1 (laneTick 0 s))))))))))))))))

/-- One tick. -/
def tick (s : State) : State := enginesTick (clockTick (eventsEvaluate s))

/-! ### Commands that are a tick's events -/

/-- A tick that brings an event; where it does not, the command has no effect. -/
def tickIf (b : Bool) (s : State) : Host.Outcome State Fault Refusal := .next (if b then tick s else s)

/-- SECOND_TICK (R260, R261, R278). -/
def execSecondTick (s : State) : Host.Outcome State Fault Refusal := tickIf s.secondDue s

/-- PPS_FALL (R260): 125 ms after the rise. -/
def execPpsFall (s : State) : Host.Outcome State Fault Refusal :=
  tickIf (s.chron.ppsHigh && s.chron.ppsRose.any (fun r => decide (r + 524288 ≤ s.now + 1))) s

/-- SLEW_DONE (R257). -/
def execSlewDone (s : State) : Host.Outcome State Fault Refusal := tickIf (s.chron.slew != 0 && s.chronNext.slew == 0) s

/-- TIMER_COMPARE_MATCH (R264, R266): compare channel x of timer n. -/
def execTimerCompareMatch (n x : Nat) (s : State) : Host.Outcome State Fault Refusal := tickIf (decide (n < 8 ∧ x < 2) && s.timerMatches n x) s

/-- TIMER_OVERFLOW (R264). -/
def execTimerOverflow (n : Nat) (s : State) : Host.Outcome State Fault Refusal := tickIf (decide (n < 8) && s.timerOverflows n) s

end Sys2Proof.Machine
end

