-- ==== Sys2Proof/Machine/HostPort.lean ====
section
/-! DEFINITION. The host SPI port (R403 to R405): a transaction is the bits that the host sends on HOST_MOSI while HOST_CS_N is
low, sampled at the rising edges of HOST_SCK in mode 0 as in mode 3. -/

namespace Sys2Proof.Machine

/-- A transaction of the host: command, length, address, and the words of a write. -/
structure HostReq where
  cmd : Nat
  len : Nat
  addr : Nat
  words : List Nat
  deriving DecidableEq, Repr

/-- The transaction that the bytes spell; none where R404 answers FRAME. -/
def hostParse (b : Bytes) : Option HostReq :=
  let cmd := fieldBe b 0 1
  let len := fieldBe b 1 1
  let data := sub b 8 (4 * len)
  if b.length < 8 ∨ crc16 (b.take 6) ≠ fieldBe b 6 2 ∨ [1, 2, 4].contains cmd = false ∨ len = 0 ∨ 16 < len then none
  else if cmd = 2 ∧ (b.length < 10 + 4 * len ∨ crc16 data ≠ fieldBe b (8 + 4 * len) 2) then none
  else some ⟨cmd, len, fieldBe b 2 4, if cmd = 2 then wordsOf data else []⟩

/-- The bytes of a transaction, MSB first. -/
def hostBytes (bits : List Bool) : Bytes := bytesOfMsb (bits.length / 8) bits

/-- The answer on HOST_MISO: the marker, STATUS, the data of a read, CRC-16. -/
def hostAnswer (status : Nat) (data : Bytes) (s : State) : State :=
  let b := be 1 status ++ data
  { s with outs := { s.outs with host := 0x5A :: b ++ be 2 (crc16 b) } }

/-- The answer of an access: every transaction is answered (R405), one whose burst a target's queue dropped with BUSY (log 108). -/
def hostStatus (st : FabStatus) (data : Bytes) (s : State) : State := hostAnswer (if st = .silent then FabStatus.busy else st).code data s

/-- A FRAME status is counted; the sixteenth within 1 s raises fault 0x6401. -/
def hostFrameError (s : State) : State :=
  let ts := s.now :: s.recent 1000000 s.hpt.frames
  let t := { s with hpt := { s.hpt with frames := if 16 ≤ ts.length then [] else ts } }.count Reg.HPT_CNT_FRAME 1
  if 16 ≤ ts.length then raise 0x6401 0 t else t

/-- The port answers: its domain is on. -/
def State.hostOn (s : State) : Bool := s.runs && s.domOn .lnk

/-- A transaction of one command: FRAME, FAULT from an isolated port (R18), or what `f` does. A frame that spells another command is that
command's. -/
def hostServe (cmd : Nat) (bits : List Bool) (f : HostReq → State → State) (s : State) : State :=
  if s.hostOn = false then s
  else
    match hostParse (hostBytes bits) with
    | none => hostAnswer 0xE [] (hostFrameError (awake s))
    | some r =>
      if r.cmd ≠ cmd then s
      else if s.isIsolated .hpt then hostAnswer FabStatus.fault.code (if cmd = 2 then [] else zeros ((if cmd = 4 then 64 else 4) * r.len)) s
      else f r (awake (enter .host (hostBytes bits) s))

/-- HOST_READ_WORDS (R404). -/
def execHostReadWords (bits : List Bool) (s : State) : Host.Outcome State Fault Refusal :=
  .next (hostServe 1 bits (fun r t =>
    match fabReadN .p3 .host r.addr r.len t with
    | (.ok, vs, u) => hostAnswer 0 (vs.flatMap (be 4)) u
    | (st, _, u) => hostStatus st (zeros (4 * r.len)) u) s)

/-- HOST_WRITE_WORDS (R404). -/
def execHostWriteWords (bits : List Bool) (s : State) : Host.Outcome State Fault Refusal :=
  .next (hostServe 2 bits (fun r t =>
    match fabWriteN .p3 .host r.addr r.words t with
    | (st, u) => hostStatus st [] u) s)

/-- HOST_LEDGER_READ (R301, R404): an access to the ledger's block; the export starts with the flush of R295. -/
def execHostLedgerRead (bits : List Bool) (s : State) : Host.Outcome State Fault Refusal :=
  .next (hostServe 4 bits (fun r t =>
    match fabCheck .host Reg.LDG_STAT .b32 false t with
    | (.ok, _, u) =>
      match readRecs r.len r.addr (sectorProgram u) with
      | (data, v) => hostAnswer 0 data v
    | (st, _, u) => hostStatus st (zeros (64 * r.len)) u) s)

/-- HOST_CS_ABORT (R404): HOST_CS_N rises before the marker: a write still completes, a read is discarded. No answer is driven. -/
def execHostCsAbort (bits : List Bool) (s : State) : Host.Outcome State Fault Refusal :=
  if s.hostOn = false then .next s
  else
    let t := (awake s).count Reg.HPT_CNT_ABORT 1
    match hostParse (hostBytes bits) with
    | none => .next (hostFrameError t)
    | some r => if r.cmd = 2 ∧ t.isIsolated .hpt = false then .next (fabWriteN .p3 .host r.addr r.words t).2 else .next t

end Sys2Proof.Machine
end

