-- ==== Sys2Proof/Machine/Shared.lean ====
section
/-! DEFINITION. Commands of the unit's architecture (01): a register write, a request at a queue, preemption of a cell, an escort
mismatch. -/

namespace Sys2Proof.Machine

/-- REGISTER_WRITE (R9, R10, R24, R25, R40): one fabric write. -/
def execRegisterWrite (m : Master) (a : Nat) (w : Width) (v : Nat) (s : State) : Host.Outcome State Fault Refusal :=
  .next (fabAnswer m (fabWrite m a w v s))

/-! ### A request at a queue (R30 to R33) -/

/-- The work a queue holds; any other request is a burst without content here. -/
def QueueId.takes (q : QueueId) (w : Work) : Work :=
  match q, w with
  | .session, .trigger t => .trigger t
  | .ingest, .record r => .record r
  | .settTx, .frame f => .frame f
  | .settRx, .frame f => .frame f
  | .canTx, .can m => .can m
  | .commit, .group g => .group g
  | .commit, .tally t => .tally t
  | .bank _, .lf r => .lf r
  | .lane _, .lane r => .lane r
  | .canCmd, .diag m => .diag m
  | _, _ => .burst

/-- The class of a request that arrives at a queue (R21): a record's at the ingest queue is that of R472, every other the origin's. -/
def arrivalCls (q : QueueId) (cls : Cls) (m : Master) (w : Work) : Cls :=
  match q, w with
  | .ingest, .record r => r.cls
  | _, _ => m.stamp cls

/-- QUEUE_REQUEST_ARRIVAL (R17, R18, R21 to R23, R30 to R33): accepted, answered BUSY, or dropped and counted. -/
def execQueueRequestArrival (q : QueueId) (cls : Cls) (m : Master) (w : Work) (s : State) : Host.Outcome State Fault Refusal :=
  match enqueue q (arrivalCls q cls m (q.takes w)) m (q.takes w) s with
  | (r, t) => .next { t with outs := { t.outs with enqueue := some r } }

/-! ### Preemption (R16, R98, R123, R156) -/

/-- The polls of a run's schedule that still wait in a bank: a preempted schedule loses its remaining frames (R98). -/
def State.sameSchedule (s : State) (run : LfRun) (i : QItem) : Bool :=
  match run.req.by_, i.work with
  | .poll e, .lf r =>
    (match r.by_ with
      | .poll e' => (s.pollE e).map (·.schedule) == (s.pollE e').map (·.schedule)
      | .trig _ _ => false
      | .lfrun _ => false)
  | _, _ => false

/-- A P0 request waits in one of the banks for the channel; a coupled exchange waits for every one (R106). -/
def State.p0Waits (s : State) (c : Nat) : Bool :=
  [0, 1].any (fun b => (s.queue (.bank b)).items.any (fun i => i.cls == .p0 && i.demand.2.2.contains c))

/-- A bank's queue loses the frames of a schedule, which end PREEMPTED (R98). -/
def scheduleDrop (run : LfRun) (s : State) (b : Nat) : State :=
  let q := s.queue (.bank b)
  let gone := q.items.filter (s.sameSchedule run)
  gone.foldl (waiterEnds .preempted) (s.setQueue (.bank b) { q with items := q.items.filter (fun i => !s.sameSchedule run i) })

/-- A P0 request that waits for a channel takes it from an owner of lower class at the end of its frame: the frame ends PREEMPTED where
frames of its schedule remain, and these with it. A run of coil tests yields at the end of the present coil, as `fieldTick` and the order of
the queues have it (R98, R123). -/
def channelPreempt (c : Nat) (s : State) : State :=
  match s.runOn c with
  | none => s
  | some run =>
    if s.p0Waits c = false ∨ run.cls = .p0 ∨ s.now < run.startAt + periodTicks run.req.periods then s
    else
      let left := [0, 1].any (fun b => (s.queue (.bank b)).items.any (s.sameSchedule run))
      [0, 1].foldl (scheduleDrop run) (lfEnd run (if left then .preempted else .ok) [] s)

/-- A P0 request that waits for a lane takes it from an owner of lower class at the end of the symbol. -/
def lanePreempt (n : Nat) (s : State) : State :=
  let waits := (s.queue (.lane n)).items.any (fun i => i.cls == .p0)
  match (s.lane n).held with
  | some cls => if waits ∧ cls ≠ .p0 then laneServe n (laneRelease n (laneDrop n .preempted s)) else s
  | none => s

/-- A P0 request waits in an engine's queue. -/
def State.p0Queued (s : State) (q : QueueId) : Bool := (s.queue q).items.any (fun i => i.cls == .p0)

/-- The operation that held a cell of the vault ends PREEMPTED: its master is told (Table 1-6). -/
def slotTold (m : Master) (s : State) : State := answerTo m .preempted [] s

/-- A P0 request takes a key slot at the end of the current engine operation: a command of a lower class that holds the slot while it
waits for random bytes ends (log 89). -/
def slotPreempt (n : Nat) (s : State) : State :=
  match s.den.wait, s.cry.wait with
  | some c, _ =>
    if c.slot = n ∧ s.p0Queued .den ∧ c.master ≠ .session then slotTold c.master (denDone .busy [] { s with den := { s.den with wait := none } })
    else s
  | none, some c =>
    if (c.slot = n ∨ c.dst = n) ∧ s.p0Queued .crypto ∧ c.master ≠ .session then
      slotTold c.master (cryDone .busy [] { s with cry := { s.cry with wait := none } })
    else s
  | none, none => s

/-- CELL_PREEMPT (R16): at the owner's next operation boundary. -/
def execCellPreempt (c : Cell) (s : State) : Host.Outcome State Fault Refusal :=
  match c with
  | .channel n => .next (channelPreempt n s)
  | .lane n => .next (lanePreempt n s)
  | .slot n => .next (slotPreempt n s)

/-! ### Escorts (R15, R26 to R29) -/

/-- Whether a source is computed or read again on a mismatch (Table 1-7). -/
def Source.again : Source → Bool
  | .stored | .measured | .computed => true
  | .sett _ _ | .air _ | .can | .host | .tag => false

/-- A datum discarded for its escorts is counted by its entry point, because no chapter names a register for it (log 90). -/
def discard (e : Entry) (s : State) : State :=
  let n := ((s.data.discards.find? (fun p => p.1 == e)).map (·.2)).getD 0
  { s with data := { s.data with discards := (e, n + 1) :: s.data.discards.filter (fun p => p.1 != e),
                                 last := s.data.last.filter (fun p => p.1 != e) } }

/-- What a datum that is neither computed nor read again leads to (Table 1-7): a retransmission on the chain, the loss of the frame on
a lane, of the message on the bus, of the access at the host port or the tag. -/
def Source.lost (src : Source) (s : State) : State :=
  match src with
  | .sett n ctr => retxAsk n 0 ctr s
  | .air n =>
    let l := s.lane n
    discard .air (((s.setLane n { l with rx := l.rx.map (fun w => { w with detected := none }) }).count (Reg.AIR_LN_RXERR2_LOST n) 1).put
      (Reg.AIR_LN_RXLAST_STATUS n) RxStatus.escort.code)
  | .can => discard .can { s with can := { s.can with rx := none } }
  | .host => discard .host { s with outs := { s.outs with host := [] } }
  | .tag => discard .tag { s with outs := { s.outs with tag := [] } }
  | .stored | .measured | .computed => s

/-- The code of a stored datum whose re-reads all mismatch, where its chapter names one (R29). -/
def storedCode (b : Block) : Option Nat := if b = .rmc then some 0x5301 else if b = .den then some 0x4102 else if b = .tag then some 0x6302 else none

/-- A request that waited in a block when it was isolated completes with FAULT (R18). -/
def faultItem (s : State) (i : QItem) : State :=
  match i.work with
  | .lf _ => waiterEnds .fault s i
  | .coils _ => waiterEnds .fault s i
  | .coupled _ => waiterEnds .fault s i
  | .group g => groupTold .fail g s
  | .tally t => tallyTold ⟨i.cls, t, none, none⟩ .fail s
  | .record _ => { s with led := { s.led with drops := s.led.drops + 1 } }
  | .burst | .trigger _ | .frame _ | .can _ | .lane _ | .diag _ => s

/-- A block reports a fault: it is isolated, and what waits in its queues completes (R18, R29). -/
def reportBlock (b : Block) (code : Nat) (s : State) : State :=
  let t := reportFault b code 0 s
  if s.isIsolated b = false ∧ t.isIsolated b then (b.queues.flatMap (fun q => (s.queue q).items)).foldl faultItem t else t

/-- `n` mismatches of a block; the sixteenth within 1 s is reported. -/
def mismatches (b : Block) : Nat → State → State
  | 0, s => s
  | n + 1, s =>
    match escMismatch b s with
    | (true, t) => mismatches b n (reportBlock b b.faultCode t)
    | (false, t) => mismatches b n t

/-- The datum's request completes. -/
def escAnswer (st : FabStatus) (s : State) : State := { s with outs := { s.outs with fabric := some (st, []) } }

/-- A leaf whose re-reads all mismatch is not given to the reader in the field: the command ends 6F00 (Tables 16-4, 16-8). -/
def leafRefused (b : Block) (s : State) : State :=
  if b = .tag ∧ s.tag.app ∧ s.outs.tag ≠ [] then { s with outs := { s.outs with tag := [0x6F, 0x00], tagBits := [] } } else s

/-- A mismatch and the recomputations that follow it: `recs` says of each whether it matched; those of retained memory are counted (R312). -/
def escortRun (b : Block) (src : Source) (recs : List Bool) (s : State) : State :=
  if src.again = false then src.lost (mismatches b 1 s)
  else
    let tries := recs.take 2
    let reread := if b = .rmc ∧ src = .stored then (tries.takeWhile (!·)).length + (if tries.contains true then 1 else 0) else 0
    let s := (recomputes b s).count Reg.RMC_ERR_REREAD reread
    if tries.contains true then escAnswer .ok (mismatches b (1 + (tries.takeWhile (!·)).length) s)
    else if tries.length < 2 then mismatches b (1 + tries.length) s
    else if src = .stored then
      escAnswer .escort (leafRefused b <| match storedCode b with
        | some c => raise c 0 s
        | none => s)
    else
      let code := if b = .crypto then 0x4202 else b.faultCode
      escAnswer .escort (reportBlock b code (mismatches b 3 s))

/-- A cell's word as read, and as its immediate repeat read it: the report of a cell whose repeat fails too counts as an escort mismatch
(R15). -/
def cellFails (cell : Option (CellWord × CellWord)) : Bool := cell.any (fun p => !p.1.holds && !p.2.holds)

/-- ESCORT_RECOMPUTE (R15, R26 to R29): a block checks a datum of a source, as it holds it with its escorts, and the words of a cell;
`recs` are what the recomputations gave. -/
def execEscortRecompute (b : Block) (src : Source) (cell : Option (CellWord × CellWord)) (held : Datum) (recs : List Datum) (s : State) :
    Host.Outcome State Fault Refusal :=
  if held.holds ∧ cellFails cell = false then .next (escAnswer .ok s) else .next (escortRun b src (recs.map Datum.holds) s)

end Sys2Proof.Machine
end

