-- ==== Sys2Proof/Machine/Dispatch.lean ====
section
/-! DEFINITION. The dispatch: one arm per command. -/

namespace Sys2Proof.Machine

def exec (i : Instr) (s : State) : Host.Outcome State Fault Refusal :=
  match i with
  | .registerWrite m a w v => Sys2Proof.Machine.execRegisterWrite m a w v s
  | .queueRequestArrival q cls m w => Sys2Proof.Machine.execQueueRequestArrival q cls m w s
  | .cellPreempt c => Sys2Proof.Machine.execCellPreempt c s
  | .escortRecompute b src cell held recs => Sys2Proof.Machine.execEscortRecompute b src cell held recs s
  | .profileEvaluate event => Sys2Proof.Machine.execProfileEvaluate event s
  | .aonpor => Sys2Proof.Machine.execAonpor s
  | .supplyReturn => Sys2Proof.Machine.execSupplyReturn s
  | .extrst low => Sys2Proof.Machine.execExtrst low s
  | .debugReset => Sys2Proof.Machine.execDebugReset s
  | .startUp env => Sys2Proof.Machine.execStartUp env s
  | .trialConfirmTimeout => Sys2Proof.Machine.execTrialConfirmTimeout s
  | .enumFrame f aborted => Sys2Proof.Machine.execEnumFrame f aborted s
  | .enumAck f aborted time => Sys2Proof.Machine.execEnumAck f aborted time s
  | .enumAckTimeout => Sys2Proof.Machine.execEnumAckTimeout s
  | .chainReady f aborted => Sys2Proof.Machine.execChainReady f aborted s
  | .epochEffect => Sys2Proof.Machine.execEpochEffect s
  | .epochRenew => Sys2Proof.Machine.execEpochRenew s
  | .heartbeat f aborted => Sys2Proof.Machine.execHeartbeat f aborted s
  | .heartbeatPeriod => Sys2Proof.Machine.execHeartbeatPeriod s
  | .timeSync f aborted phase => Sys2Proof.Machine.execTimeSync f aborted phase s
  | .timeSyncPeriod => Sys2Proof.Machine.execTimeSyncPeriod s
  | .delayReqPeriod fwd => Sys2Proof.Machine.execDelayReqPeriod fwd s
  | .delayReq f aborted t2 t3 => Sys2Proof.Machine.execDelayReq f aborted t2 t3 s
  | .delayResp f aborted t4 => Sys2Proof.Machine.execDelayResp f aborted t4 s
  | .imageOffer f aborted => Sys2Proof.Machine.execImageOffer f aborted s
  | .imageData f aborted => Sys2Proof.Machine.execImageData f aborted s
  | .imageNakWindowEnd => Sys2Proof.Machine.execImageNakWindowEnd s
  | .imageNak f aborted => Sys2Proof.Machine.execImageNak f aborted s
  | .imageConfirm f aborted => Sys2Proof.Machine.execImageConfirm f aborted s
  | .arbRaise f aborted => Sys2Proof.Machine.execArbRaise f aborted s
  | .profileFrame f aborted => Sys2Proof.Machine.execProfileFrame f aborted s
  | .profileRebroadcast => Sys2Proof.Machine.execProfileRebroadcast s
  | .overhearPlan f aborted => Sys2Proof.Machine.execOverhearPlan f aborted s
  | .overhearReport f aborted => Sys2Proof.Machine.execOverhearReport f aborted s
  | .settRequest f aborted => Sys2Proof.Machine.execSettRequest f aborted s
  | .settResponse f aborted => Sys2Proof.Machine.execSettResponse f aborted s
  | .ledgerRec f aborted => Sys2Proof.Machine.execLedgerRec f aborted s
  | .faultReport f aborted => Sys2Proof.Machine.execFaultReport f aborted s
  | .retxFrame f aborted => Sys2Proof.Machine.execRetxFrame f aborted s
  | .absentFrame f aborted => Sys2Proof.Machine.execAbsentFrame f aborted s
  | .storedFrameForward down => Sys2Proof.Machine.execStoredFrameForward down s
  | .headSilenceTimeout upLost => Sys2Proof.Machine.execHeadSilenceTimeout upLost s
  | .idlePatternDetect => Sys2Proof.Machine.execIdlePatternDetect s
  | .spliceProbe f aborted => Sys2Proof.Machine.execSpliceProbe f aborted s
  | .spliceReply f aborted => Sys2Proof.Machine.execSpliceReply f aborted s
  | .spliceCollectEnd => Sys2Proof.Machine.execSpliceCollectEnd s
  | .spliceReport f aborted => Sys2Proof.Machine.execSpliceReport f aborted s
  | .spliceAssign f aborted => Sys2Proof.Machine.execSpliceAssign f aborted s
  | .joinFrame f aborted => Sys2Proof.Machine.execJoinFrame f aborted s
  | .convergeTimeout => Sys2Proof.Machine.execConvergeTimeout s
  | .fobCopy f aborted => Sys2Proof.Machine.execFobCopy f aborted s
  | .pollSlot e => Sys2Proof.Machine.execPollSlot e s
  | .lfFrameStart b => Sys2Proof.Machine.execLfFrameStart b s
  | .lfFrameEnd c meas => Sys2Proof.Machine.execLfFrameEnd c meas s
  | .bankIdleOff b => Sys2Proof.Machine.execBankIdleOff b s
  | .boostTimeout => Sys2Proof.Machine.execBoostTimeout s
  | .driveInhibit vbat vlf gate => Sys2Proof.Machine.execDriveInhibit vbat vlf gate s
  | .driveAllow vbat vlf gate => Sys2Proof.Machine.execDriveAllow vbat vlf gate s
  | .inhibitLong => Sys2Proof.Machine.execInhibitLong s
  | .bridgeShort c toGround => Sys2Proof.Machine.execBridgeShort c toGround s
  | .bridgeOvertemp c => Sys2Proof.Machine.execBridgeOvertemp c s
  | .bridgeCool c => Sys2Proof.Machine.execBridgeCool c s
  | .coilTest m => Sys2Proof.Machine.execCoilTest m s
  | .coilTest24h => Sys2Proof.Machine.execCoilTest24h s
  | .disabledRetest passed => Sys2Proof.Machine.execDisabledRetest passed s
  | .coupledExchangeStart => Sys2Proof.Machine.execCoupledExchangeStart s
  | .ctIdReceived delay ok bits => Sys2Proof.Machine.execCtIdReceived delay ok bits s
  | .ctResponseReceived delay ok bits => Sys2Proof.Machine.execCtResponseReceived delay ok bits s
  | .ctReplyTimeout => Sys2Proof.Machine.execCtReplyTimeout s
  | .ctDriveCap => Sys2Proof.Machine.execCtDriveCap s
  | .laneRequest sel cls chan => Sys2Proof.Machine.execLaneRequest sel cls chan s
  | .synthLocked n temp coefs => Sys2Proof.Machine.execSynthLocked n temp coefs s
  | .lockCheckTimeout n => Sys2Proof.Machine.execLockCheckTimeout n s
  | .lockLost n => Sys2Proof.Machine.execLockLost n s
  | .txCommand n cmd => Sys2Proof.Machine.execTxCommand n cmd s
  | .txStart n => Sys2Proof.Machine.execTxStart n s
  | .txLateDeadline n => Sys2Proof.Machine.execTxLateDeadline n s
  | .rxCommand n window => Sys2Proof.Machine.execRxCommand n window s
  | .rxWindowEnd n => Sys2Proof.Machine.execRxWindowEnd n s
  | .laneIdleSleep n => Sys2Proof.Machine.execLaneIdleSleep n s
  | .laneDomainOff n => Sys2Proof.Machine.execLaneDomainOff n s
  | .laneTempSample n temp => Sys2Proof.Machine.execLaneTempSample n temp s
  | .calAgeExpiry n => Sys2Proof.Machine.execCalAgeExpiry n s
  | .loopback n m => Sys2Proof.Machine.execLoopback n m s
  | .syncDetect n m => Sys2Proof.Machine.execSyncDetect n m s
  | .wakeReply n r => Sys2Proof.Machine.execWakeReply n r s
  | .airResponse n r => Sys2Proof.Machine.execAirResponse n r s
  | .rangePoll n r m => Sys2Proof.Machine.execRangePoll n r m s
  | .rangeReply n r m => Sys2Proof.Machine.execRangeReply n r m s
  | .rangeReport n r mismatches => Sys2Proof.Machine.execRangeReport n r mismatches s
  | .rangeReplyTimeout n => Sys2Proof.Machine.execRangeReplyTimeout n s
  | .rangeReportTimeout n => Sys2Proof.Machine.execRangeReportTimeout n s
  | .rangingExchange record => Sys2Proof.Machine.execRangingExchange record s
  | .guardSecondExchange record => Sys2Proof.Machine.execGuardSecondExchange record s
  | .overhearExchangeEnd n => Sys2Proof.Machine.execOverhearExchangeEnd n s
  | .noticeFrame n r => Sys2Proof.Machine.execNoticeFrame n r s
  | .nctrCommitDone record => Sys2Proof.Machine.execNctrCommitDone record s
  | .serviceFrame n r => Sys2Proof.Machine.execServiceFrame n r s
  | .ackFrame n r => Sys2Proof.Machine.execAckFrame n r s
  | .sessionTrigger => Sys2Proof.Machine.execSessionTrigger s
  | .replyWindowClose => Sys2Proof.Machine.execReplyWindowClose s
  | .responseTimeout record => Sys2Proof.Machine.execResponseTimeout record s
  | .sessionTimeout record => Sys2Proof.Machine.execSessionTimeout record s
  | .barExpiry record => Sys2Proof.Machine.execBarExpiry record s
  | .trackerStale record => Sys2Proof.Machine.execTrackerStale record s
  | .trackerForget record => Sys2Proof.Machine.execTrackerForget record s
  | .enrolTimeout => Sys2Proof.Machine.execEnrolTimeout s
  | .ignitionWindowExpiry => Sys2Proof.Machine.execIgnitionWindowExpiry s
  | .sesLfrunGo => Sys2Proof.Machine.execSesLfrunGo s
  | .crystalLost => Sys2Proof.Machine.execCrystalLost s
  | .fllLock => Sys2Proof.Machine.execFllLock s
  | .degrClear => Sys2Proof.Machine.execDegrClear s
  | .fllLockTimeout => Sys2Proof.Machine.execFllLockTimeout s
  | .backupSwitch onVbkp => Sys2Proof.Machine.execBackupSwitch onVbkp s
  | .compSample reading => Sys2Proof.Machine.execCompSample reading s
  | .setTime => Sys2Proof.Machine.execSetTime s
  | .deferredStep => Sys2Proof.Machine.execDeferredStep s
  | .slewDone => Sys2Proof.Machine.execSlewDone s
  | .secondTick => Sys2Proof.Machine.execSecondTick s
  | .ppsFall => Sys2Proof.Machine.execPpsFall s
  | .timGo m mask => Sys2Proof.Machine.execTimGo m mask s
  | .timStop m mask => Sys2Proof.Machine.execTimStop m mask s
  | .timerCompareMatch n x => Sys2Proof.Machine.execTimerCompareMatch n x s
  | .timerOverflow n => Sys2Proof.Machine.execTimerOverflow n s
  | .timerCapture src rising => Sys2Proof.Machine.execTimerCapture src rising s
  | .motionEdge low high => Sys2Proof.Machine.execMotionEdge low high s
  | .motionGlitch => Sys2Proof.Machine.execMotionGlitch s
  | .speedZeroTimeout => Sys2Proof.Machine.execSpeedZeroTimeout s
  | .motionStopped => Sys2Proof.Machine.execMotionStopped s
  | .waymarkEvaluate => Sys2Proof.Machine.execWaymarkEvaluate s
  | .ledgerIngest arrival => Sys2Proof.Machine.execLedgerIngest arrival s
  | .checkpointSeal => Sys2Proof.Machine.execCheckpointSeal s
  | .sectorAgeFlush => Sys2Proof.Machine.execSectorAgeFlush s
  | .nandProgramDone ok => Sys2Proof.Machine.execNandProgramDone ok s
  | .ledgerOpen => Sys2Proof.Machine.execLedgerOpen s
  | .mirrorCopy => Sys2Proof.Machine.execMirrorCopy s
  | .summaryHourly => Sys2Proof.Machine.execSummaryHourly s
  | .retainedWindowWrite m off w v => Sys2Proof.Machine.execRetainedWindowWrite m off w v s
  | .windowBufferTimeout => Sys2Proof.Machine.execWindowBufferTimeout s
  | .rmcCommit m => Sys2Proof.Machine.execRmcCommit m s
  | .rmcAbort m => Sys2Proof.Machine.execRmcAbort m s
  | .commitGroupSubmit e cls writes => Sys2Proof.Machine.execCommitGroupSubmit e cls writes s
  | .pageProgramDone ok => Sys2Proof.Machine.execPageProgramDone ok s
  | .markerProgramDone ok => Sys2Proof.Machine.execMarkerProgramDone ok s
  | .tallyIncrement by_ cls c => Sys2Proof.Machine.execTallyIncrement by_ cls c s
  | .tallyRaise by_ cls c v => Sys2Proof.Machine.execTallyRaise by_ cls c v s
  | .tallyCellDone => Sys2Proof.Machine.execTallyCellDone s
  | .tallySetEraseDone c => Sys2Proof.Machine.execTallySetEraseDone c s
  | .generate m slot => Sys2Proof.Machine.execGenerate m slot s
  | .importOpen m slot => Sys2Proof.Machine.execImportOpen m slot s
  | .importKey m slot => Sys2Proof.Machine.execImportKey m slot s
  | .importPairExpiry => Sys2Proof.Machine.execImportPairExpiry s
  | .eraseSlot m slot => Sys2Proof.Machine.execEraseSlot m slot s
  | .attest m slot => Sys2Proof.Machine.execAttest m slot s
  | .publicPoint m slot => Sys2Proof.Machine.execPublicPoint m slot s
  | .lcNonce m => Sys2Proof.Machine.execLcNonce m s
  | .lcNonceExpiry => Sys2Proof.Machine.execLcNonceExpiry s
  | .lcSet m => Sys2Proof.Machine.execLcSet m s
  | .exportKey m slot => Sys2Proof.Machine.execExportKey m slot s
  | .vltBufIdle => Sys2Proof.Machine.execVltBufIdle s
  | .legacyKeyWrite m word v => Sys2Proof.Machine.execLegacyKeyWrite m word v s
  | .legacyKeyGap => Sys2Proof.Machine.execLegacyKeyGap s
  | .protectionRewrite => Sys2Proof.Machine.execProtectionRewrite s
  | .encrypt m slot mode => Sys2Proof.Machine.execEncrypt m slot mode s
  | .decrypt m slot mode => Sys2Proof.Machine.execDecrypt m slot mode s
  | .macTag m slot mode => Sys2Proof.Machine.execMacTag m slot mode s
  | .hashSha m => Sys2Proof.Machine.execHashSha m s
  | .signDigest m slot => Sys2Proof.Machine.execSignDigest m slot s
  | .verifySig m slot mode => Sys2Proof.Machine.execVerifySig m slot mode s
  | .agree m slot dst => Sys2Proof.Machine.execAgree m slot dst s
  | .derive m slot dst => Sys2Proof.Machine.execDerive m slot dst s
  | .randomBytes m => Sys2Proof.Machine.execRandomBytes m s
  | .cryBufIdle => Sys2Proof.Machine.execCryBufIdle s
  | .symmetricStepPreempt => Sys2Proof.Machine.execSymmetricStepPreempt s
  | .entRandRead m => Sys2Proof.Machine.execEntRandRead m s
  | .entropyWaitTimeout => Sys2Proof.Machine.execEntropyWaitTimeout s
  | .reseed m => Sys2Proof.Machine.execReseed m s
  | .healthWindowClose w => Sys2Proof.Machine.execHealthWindowClose w s
  | .rawModeEnter m sel => Sys2Proof.Machine.execRawModeEnter m sel s
  | .rawModeExit m => Sys2Proof.Machine.execRawModeExit m s
  | .entRawRead m => Sys2Proof.Machine.execEntRawRead m s
  | .rawModeTimeout => Sys2Proof.Machine.execRawModeTimeout s
  | .healthTestFail w => Sys2Proof.Machine.execHealthTestFail w s
  | .entropySelfRestart => Sys2Proof.Machine.execEntropySelfRestart s
  | .fieldOn => Sys2Proof.Machine.execFieldOn s
  | .fieldLoss => Sys2Proof.Machine.execFieldLoss s
  | .reqa => Sys2Proof.Machine.execReqa s
  | .wupa => Sys2Proof.Machine.execWupa s
  | .anticollision level known => Sys2Proof.Machine.execAnticollision level known s
  | .isoSelect level uid => Sys2Proof.Machine.execIsoSelect level uid s
  | .rats => Sys2Proof.Machine.execRats s
  | .ppsRequest dri dsi => Sys2Proof.Machine.execPpsRequest dri dsi s
  | .hlta => Sys2Proof.Machine.execHlta s
  | .deselect => Sys2Proof.Machine.execDeselect s
  | .apduSelect a ins => Sys2Proof.Machine.execApduSelect a ins s
  | .authStep1 a => Sys2Proof.Machine.execAuthStep1 a s
  | .authStep2 a => Sys2Proof.Machine.execAuthStep2 a s
  | .readLeaf a => Sys2Proof.Machine.execReadLeaf a s
  | .writeLeaf a => Sys2Proof.Machine.execWriteLeaf a s
  | .lockWtxExpiry => Sys2Proof.Machine.execLockWtxExpiry s
  | .tagCommit a vres => Sys2Proof.Machine.execTagCommit a vres s
  | .fieldPageProgramDone ok vres => Sys2Proof.Machine.execFieldPageProgramDone ok vres s
  | .getSummary a => Sys2Proof.Machine.execGetSummary a s
  | .tagMemWrite m off w v => Sys2Proof.Machine.execTagMemWrite m off w v s
  | .tagWiredCommit m leaf => Sys2Proof.Machine.execTagWiredCommit m leaf s
  | .tagWiredDiscard m leaf => Sys2Proof.Machine.execTagWiredDiscard m leaf s
  | .tagWiredHoldTimeout => Sys2Proof.Machine.execTagWiredHoldTimeout s
  | .ignitionFrame f => Sys2Proof.Machine.execIgnitionFrame f s
  | .ignitionTimeout => Sys2Proof.Machine.execIgnitionTimeout s
  | .wakeFrame f => Sys2Proof.Machine.execWakeFrame f s
  | .canWakePattern phase span => Sys2Proof.Machine.execCanWakePattern phase span s
  | .canFrameTransmit turn => Sys2Proof.Machine.execCanFrameTransmit turn s
  | .busOff => Sys2Proof.Machine.execBusOff s
  | .busOffRecovery => Sys2Proof.Machine.execBusOffRecovery s
  | .busOffLong => Sys2Proof.Machine.execBusOffLong s
  | .j1939AddressClaim claim => Sys2Proof.Machine.execJ1939AddressClaim claim s
  | .ringMessage f => Sys2Proof.Machine.execRingMessage f s
  | .ringTurn => Sys2Proof.Machine.execRingTurn s
  | .ringSuccessorTimeout => Sys2Proof.Machine.execRingSuccessorTimeout s
  | .ringStartTimeout => Sys2Proof.Machine.execRingStartTimeout s
  | .ringOverrule => Sys2Proof.Machine.execRingOverrule s
  | .ringWakeEvent => Sys2Proof.Machine.execRingWakeEvent s
  | .isoTpFrame f => Sys2Proof.Machine.execIsoTpFrame f s
  | .ncrTimeout => Sys2Proof.Machine.execNcrTimeout s
  | .s3Timeout => Sys2Proof.Machine.execS3Timeout s
  | .diagnosticSessionControl => Sys2Proof.Machine.execDiagnosticSessionControl s
  | .ecuReset => Sys2Proof.Machine.execEcuReset s
  | .readDataByIdentifier => Sys2Proof.Machine.execReadDataByIdentifier s
  | .readMemoryByAddress => Sys2Proof.Machine.execReadMemoryByAddress s
  | .writeMemoryByAddress => Sys2Proof.Machine.execWriteMemoryByAddress s
  | .securityAccessSeed => Sys2Proof.Machine.execSecurityAccessSeed s
  | .securityAccessKey => Sys2Proof.Machine.execSecurityAccessKey s
  | .securityDelayExpiry => Sys2Proof.Machine.execSecurityDelayExpiry s
  | .requestDownload => Sys2Proof.Machine.execRequestDownload s
  | .transferData => Sys2Proof.Machine.execTransferData s
  | .requestTransferExit held => Sys2Proof.Machine.execRequestTransferExit held s
  | .requestUpload => Sys2Proof.Machine.execRequestUpload s
  | .testerPresent => Sys2Proof.Machine.execTesterPresent s
  | .confirmImage => Sys2Proof.Machine.execConfirmImage s
  | .enrolFob => Sys2Proof.Machine.execEnrolFob s
  | .barFob => Sys2Proof.Machine.execBarFob s
  | .unbarFob => Sys2Proof.Machine.execUnbarFob s
  | .emptyFobRecord => Sys2Proof.Machine.execEmptyFobRecord s
  | .clearCounters => Sys2Proof.Machine.execClearCounters s
  | .coilTestRoutine remote => Sys2Proof.Machine.execCoilTestRoutine remote s
  | .formatLedger => Sys2Proof.Machine.execFormatLedger s
  | .verifyLedger => Sys2Proof.Machine.execVerifyLedger s
  | .attestSlot3 => Sys2Proof.Machine.execAttestSlot3 s
  | .hostReadWords bits => Sys2Proof.Machine.execHostReadWords bits s
  | .hostWriteWords bits => Sys2Proof.Machine.execHostWriteWords bits s
  | .hostLedgerRead bits => Sys2Proof.Machine.execHostLedgerRead bits s
  | .hostCsAbort bits => Sys2Proof.Machine.execHostCsAbort bits s
  | .touchScan convs => Sys2Proof.Machine.execTouchScan convs s
  | .touchStuck n => Sys2Proof.Machine.execTouchStuck n s
  | .switchSample highs => Sys2Proof.Machine.execSwitchSample highs s
  | .switchDebounce n => Sys2Proof.Machine.execSwitchDebounce n s
  | .switchStuck n => Sys2Proof.Machine.execSwitchStuck n s
  | .switchPolWrite m v => Sys2Proof.Machine.execSwitchPolWrite m v s
  | .satEventRepeat => Sys2Proof.Machine.execSatEventRepeat s
  | .startLineReadback hRel lRel => Sys2Proof.Machine.execStartLineReadback hRel lRel s
  | .startLineOvercurrent high us => Sys2Proof.Machine.execStartLineOvercurrent high us s
  | .startLineRetry high => Sys2Proof.Machine.execStartLineRetry high s
  | .startLineOvertemp high celsius => Sys2Proof.Machine.execStartLineOvertemp high celsius s
  | .startLineOpenLoad microamps ms => Sys2Proof.Machine.execStartLineOpenLoad microamps ms s
  | .startLineForced high mv ms => Sys2Proof.Machine.execStartLineForced high mv ms s
  | .vbatFail vbat us => Sys2Proof.Machine.execVbatFail vbat us s
  | .vbatFailDeassert vbat us => Sys2Proof.Machine.execVbatFailDeassert vbat us s
  | .vbatOvervoltage vbat above40 => Sys2Proof.Machine.execVbatOvervoltage vbat above40 s
  | .vsysOutOfRange vsys us limitUs => Sys2Proof.Machine.execVsysOutOfRange vsys us limitUs s
  | .vbkpSample vbkp => Sys2Proof.Machine.execVbkpSample vbkp s
  | .domainPowerFail d us => Sys2Proof.Machine.execDomainPowerFail d us s
  | .plChange => Sys2Proof.Machine.execPlChange s
  | .plChangeDone trim => Sys2Proof.Machine.execPlChangeDone trim s
  | .processTrim trim => Sys2Proof.Machine.execProcessTrim trim s
  | .dozeEntry => Sys2Proof.Machine.execDozeEntry s
  | .standbyEntry => Sys2Proof.Machine.execStandbyEntry s
  | .wakeEvent env => Sys2Proof.Machine.execWakeEvent env s
  | .internalWake env => Sys2Proof.Machine.execInternalWake env s
  | .tempSample readings => Sys2Proof.Machine.execTempSample readings s
  | .railOutOfRange rail mv us => Sys2Proof.Machine.execRailOutOfRange rail mv us s
  | .processMonitor margins => Sys2Proof.Machine.execProcessMonitor margins s
  | .plCapTrial margins => Sys2Proof.Machine.execPlCapTrial margins s
  | .blockReset b => Sys2Proof.Machine.execBlockReset b s
  | .blockResetDone b => Sys2Proof.Machine.execBlockResetDone b s
  | .hedgehogRestart => Sys2Proof.Machine.execHedgehogRestart s
  | .deferredRestart => Sys2Proof.Machine.execDeferredRestart s
  | .sessionWatchdog => Sys2Proof.Machine.execSessionWatchdog s
  | .heartbeatWatchdog => Sys2Proof.Machine.execHeartbeatWatchdog s
  | .faultReportWindowEnd code => Sys2Proof.Machine.execFaultReportWindowEnd code s
  | .hibernateWake => Sys2Proof.Machine.execHibernateWake s
  | .vsysReset vsys => Sys2Proof.Machine.execVsysReset vsys s
  | .motionBEdge level held => Sys2Proof.Machine.execMotionBEdge level held s
  | .pollSkipDeadline e => Sys2Proof.Machine.execPollSkipDeadline e s
  | .selectiveWakeErrors n => Sys2Proof.Machine.execSelectiveWakeErrors n s
  | .startLineCool high celsius => Sys2Proof.Machine.execStartLineCool high celsius s
  | .railBackInRange rail mv us => Sys2Proof.Machine.execRailBackInRange rail mv us s
  | .nbsTimeout => Sys2Proof.Machine.execNbsTimeout s
  | .waitingTimeExtension => Sys2Proof.Machine.execWaitingTimeExtension s
  | .nandNoAnswer d => Sys2Proof.Machine.execNandNoAnswer d s
  | .vbatBoostThreshold vbat => Sys2Proof.Machine.execVbatBoostThreshold vbat s
  | .debugHalt halt => Sys2Proof.Machine.execDebugHalt halt s

end Sys2Proof.Machine
end

