-- ==== Sys2Proof/Safety.lean ====
section
/-! DEFINITION. What a safe state and a safe step are, in the terms the statements use. -/

namespace Sys2Proof.Machine

/-- Every sparse memory and the register map are in their canonical form. -/
def State.wf (s : State) : Bool :=
  regsWf s.regs && Memory.wf s.sram && Memory.wf s.nv.mem && Memory.wf s.den.buf && Memory.wf s.cry.buf && Memory.wf s.tag.sram

/-- A step that answers a next state. -/
def State.goesOn (s : State) : Prop := ∃ t, step s = .next t

end Sys2Proof.Machine
end

