-- ==== Sys2Proof/WellFormed.lean ====
section
/-! DEFINITION. Well-formed commands: operands within the widths and counts the spec gives what they name. Meanings are total: an
ill-formed command is one nothing outside the unit can send. -/

namespace Sys2Proof

open Machine

/-- A 32-bit address or value (R9). -/
def fitsWord (v : Nat) : Bool := decide (v < 2 ^ 32)

/-- A timestamp of the 40-bit counter in air ticks (R145). -/
def airTime (t : Nat) : Bool := decide (t < 2 ^ 40)

end Sys2Proof

namespace Sys2Proof.Machine

/-- A Sett frame as Table 4-1 lays it out. -/
def SettFrame.wf (f : SettFrame) : Bool :=
  decide (f.hdr < 2 ^ 16) && decide (f.hcrc < 2 ^ 16) && decide (f.ctr < 2 ^ 32) && decide (f.payload.length ≤ 1024) &&
    decide (f.pcrc < 2 ^ 32) && decide (f.mac.length = 16)

/-- An air frame: a 64-bit header (R172), at most 2,047 payload bytes with MIC and CRC-32C after them (R175). -/
def AirFrame.wf (f : AirFrame) : Bool := decide (f.hdr < 2 ^ 64) && decide (f.body.length ≤ 2059)

/-- A transmit command (R145). -/
def TxCmd.wf (c : TxCmd) : Bool := c.frame.wf && decide (c.aerial < 2) && c.start.all airTime

/-- A classical frame of eight bytes or an FD frame of up to 64, a 29-bit identifier at most (R382). -/
def CanFrame.wf (f : CanFrame) : Bool := decide (f.id < 2 ^ 29) && decide (f.data.length ≤ if f.fd then 64 else 8)

/-- The samples of four latches, so many of each (R348). -/
def fourLatches (n : Nat) (l : List (List Bool)) : Bool := decide (l.length = 4) && l.all (fun x => decide (x.length = n))

/-- A window of at most 1,024 samples of each latch, each with its state of the bias trim (R348, R350). -/
def Window.wf (w : Window) : Bool :=
  decide (w.raw.length = 4) && w.raw.all (fun l => decide (l.length ≤ 1024)) && decide (w.rails.map List.length = w.raw.map List.length)

/-- The search sees at most 12 short symbols before the turn, each with four correlations, and up to 48 in all (R164, R166). -/
def SyncMeas.wf (m : SyncMeas) : Bool := decide (m.syms.length ≤ 48) && m.syms.all (fun x => decide (x.corr.length = 4))

/-- A reception: two long symbols of 852 used tones (R168). -/
def AirRx.wf (r : AirRx) : Bool := r.frame.wf && airTime r.endAt && decide (r.train.length = 2) && r.train.all (fun t => decide (t.length = 852))

/-- Eight ranging symbols of 852 used tones (R198). -/
def RangeRx.wf (m : RangeRx) : Bool := airTime m.win && decide (m.syms.length = 8) && m.syms.all (fun t => decide (t.length = 852))

/-- A command APDU in the short form of ISO/IEC 7816-4 (Table 16-3). -/
def Apdu.wf (a : Apdu) : Bool :=
  decide (a.cla < 256) && decide (a.p1 < 256) && decide (a.p2 < 256) && decide (a.data.length ≤ 255) && a.le.all (fun n => decide (n ≤ 256))

/-- A channel of the sixteen (R95), a lane of the two (R133), a key slot of the 256 (R323). -/
def Cell.wf : Cell → Bool
  | .channel n => decide (n < 16)
  | .lane n => decide (n < 2)
  | .slot n => decide (n < 256)

/-- A queue that exists: eight regions, two lanes, two banks. -/
def QueueId.wf : QueueId → Bool
  | .fabric r => decide (r < 8)
  | .lane n | .bank n => decide (n < 2)
  | .session | .crypto | .den | .settTx | .settRx | .ingest | .commit | .canTx | .canCmd | .host | .drbg => true

/-- A start-up's samples: windows of 1,024 of each latch (R351). -/
def BootEnv.wf (e : BootEnv) : Bool := fourLatches 256 e.bias && e.test.wf && e.second.wf

end Sys2Proof.Machine

namespace Sys2Proof

/-- The well-formedness check of every command. -/
def Instr.wf : Instr → Bool
  | .registerWrite _ a w v => fitsWord a && decide (v < 2 ^ (8 * w.bytes))
  | .queueRequestArrival q _ _ w => q.wf && decide (q.takes w = w)
  | .cellPreempt c => c.wf
  | .startUp env => env.wf
  | .enumFrame f _ => f.wf
  | .enumAck f _ time => f.wf && time.all (fun t => decide (t < 2 ^ 64))
  | .chainReady f _ => f.wf
  | .heartbeat f _ => f.wf
  | .timeSync f _ phase => f.wf && decide (phase < 9375)
  | .delayReqPeriod fwd => airTime fwd
  | .delayReq f _ t2 t3 => f.wf && airTime t2 && airTime t3
  | .delayResp f _ t4 => f.wf && airTime t4
  | .imageOffer f _ => f.wf
  | .imageData f _ => f.wf
  | .imageNak f _ => f.wf
  | .imageConfirm f _ => f.wf
  | .arbRaise f _ => f.wf
  | .profileFrame f _ => f.wf
  | .overhearPlan f _ => f.wf
  | .overhearReport f _ => f.wf
  | .settRequest f _ => f.wf
  | .settResponse f _ => f.wf
  | .ledgerRec f _ => f.wf
  | .faultReport f _ => f.wf
  | .retxFrame f _ => f.wf
  | .absentFrame f _ => f.wf
  | .spliceProbe f _ => f.wf
  | .spliceReply f _ => f.wf
  | .spliceReport f _ => f.wf
  | .spliceAssign f _ => f.wf
  | .joinFrame f _ => f.wf
  | .fobCopy f _ => f.wf
  | .pollSlot e => decide (e < 256)
  | .lfFrameStart b => decide (b < 2)
  | .lfFrameEnd c meas => decide (c < 16) && meas.all (fun m => decide (m.ch < 16))
  | .bankIdleOff b => decide (b < 2)
  | .bridgeShort c _ => decide (c < 16)
  | .bridgeOvertemp c => decide (c < 16)
  | .bridgeCool c => decide (c < 16)
  | .disabledRetest passed => passed.all (fun c => decide (c < 16))
  | .ctIdReceived _ _ bits => decide (bits.length ≤ 75)
  | .ctResponseReceived _ _ bits => decide (bits.length ≤ 75)
  | .laneRequest sel _ chan => decide (sel < 3) && decide (13 ≤ chan ∧ chan ≤ 16)
  | .synthLocked n _ _ => decide (n < 2)
  | .lockCheckTimeout n => decide (n < 2)
  | .lockLost n => decide (n < 2)
  | .txCommand n cmd => decide (n < 2) && cmd.wf
  | .txStart n => decide (n < 2)
  | .txLateDeadline n => decide (n < 2)
  | .rxCommand n _ => decide (n < 2)
  | .rxWindowEnd n => decide (n < 2)
  | .laneIdleSleep n => decide (n < 2)
  | .laneDomainOff n => decide (n < 2)
  | .laneTempSample n _ => decide (n < 2)
  | .calAgeExpiry n => decide (n < 2)
  | .loopback n _ => decide (n < 2)
  | .syncDetect n m => decide (n < 2) && m.wf
  | .wakeReply n r => decide (n < 2) && r.wf
  | .airResponse n r => decide (n < 2) && r.wf
  | .rangePoll n r m => decide (n < 2) && r.wf && m.wf
  | .rangeReply n r m => decide (n < 2) && r.wf && m.wf
  | .rangeReport n r _ => decide (n < 2) && r.wf
  | .rangeReplyTimeout n => decide (n < 2)
  | .rangeReportTimeout n => decide (n < 2)
  | .rangingExchange record => decide (record < 64)
  | .guardSecondExchange record => decide (record < 64)
  | .overhearExchangeEnd n => decide (n < 2)
  | .noticeFrame n r => decide (n < 2) && r.wf
  | .nctrCommitDone record => decide (record < 64)
  | .serviceFrame n r => decide (n < 2) && r.wf
  | .ackFrame n r => decide (n < 2) && r.wf
  | .responseTimeout record => decide (record < 64)
  | .sessionTimeout record => decide (record < 64)
  | .barExpiry record => decide (record < 64)
  | .trackerStale record => decide (record < 64)
  | .trackerForget record => decide (record < 64)
  | .timGo _ mask => decide (mask < 256)
  | .timStop _ mask => decide (mask < 256)
  | .timerCompareMatch n x => decide (n < 8) && decide (x < 2)
  | .timerOverflow n => decide (n < 8)
  | .retainedWindowWrite _ off w v => decide (off < 65536) && decide (v < 2 ^ (8 * w.bytes))
  | .commitGroupSubmit _ _ writes => writes.all (fun p => decide (p.1 + p.2.length ≤ 65536))
  | .tallyIncrement _ _ c => decide (c < 32)
  | .tallyRaise _ _ c v => decide (c < 32) && fitsWord v
  | .tallySetEraseDone c => decide (c < 32)
  | .generate _ slot => decide (slot < 256)
  | .importOpen _ slot => decide (slot < 256)
  | .importKey _ slot => decide (slot < 256)
  | .eraseSlot _ slot => decide (slot < 256)
  | .attest _ slot => decide (slot < 256)
  | .publicPoint _ slot => decide (slot < 256)
  | .exportKey _ slot => decide (slot < 256)
  | .legacyKeyWrite _ i v => decide (i < 4) && fitsWord v
  | .encrypt _ slot mode => decide (slot < 256) && decide (mode < 16)
  | .decrypt _ slot mode => decide (slot < 256) && decide (mode < 16)
  | .macTag _ slot mode => decide (slot < 256) && decide (mode < 16)
  | .signDigest _ slot => decide (slot < 256)
  | .verifySig _ slot mode => decide (slot < 256) && decide (mode < 16)
  | .agree _ slot dst => decide (slot < 256) && decide (dst < 256)
  | .derive _ slot dst => decide (slot < 256) && decide (dst < 256)
  | .healthWindowClose w => w.wf
  | .rawModeEnter _ sel => decide (sel < 8)
  | .healthTestFail w => w.wf
  | .anticollision level known => decide (level = 1 ∨ level = 2) && decide (known.length ≤ 40)
  | .isoSelect level uid => decide (level = 1 ∨ level = 2) && decide (uid.length = 5)
  | .ppsRequest dri dsi => decide (dri < 4) && decide (dsi < 4)
  | .apduSelect a ins => a.wf && decide (ins < 256)
  | .authStep1 a => a.wf
  | .authStep2 a => a.wf
  | .readLeaf a => a.wf
  | .writeLeaf a => a.wf
  | .tagCommit a _ => a.wf
  | .getSummary a => a.wf
  | .tagMemWrite _ off w v => decide (off < 8192) && decide (v < 2 ^ (8 * w.bytes))
  | .tagWiredCommit _ leaf => decide (leaf < 128)
  | .tagWiredDiscard _ leaf => decide (leaf < 128)
  | .ignitionFrame f => f.wf
  | .wakeFrame f => f.wf
  | .j1939AddressClaim claim => claim.all (fun b => decide (b.length = 8))
  | .ringMessage f => f.wf
  | .isoTpFrame f => f.wf
  | .touchScan convs => decide (convs.length = 8)
  | .touchStuck n => decide (n < 8)
  | .switchSample highs => decide (highs.length = 4)
  | .switchDebounce n => decide (n < 4)
  | .switchStuck n => decide (n < 4)
  | .switchPolWrite _ v => fitsWord v
  | .wakeEvent env => env.wf
  | .internalWake env => env.wf
  | .tempSample readings => decide (readings.length = 8)
  | .railOutOfRange rail _ _ => decide (1 ≤ rail ∧ rail ≤ 14)
  | .processMonitor margins => decide (margins.length = 4)
  | .plCapTrial margins => decide (margins.length = 4)
  | .pollSkipDeadline e => decide (e < 256)
  | .railBackInRange rail _ _ => decide (1 ≤ rail ∧ rail ≤ 14)
  | .nandNoAnswer d => decide (d < 2)
  | .escortRecompute .. | .profileEvaluate .. | .aonpor | .supplyReturn | .extrst .. | .debugReset | .trialConfirmTimeout
  | .enumAckTimeout | .epochEffect | .epochRenew | .heartbeatPeriod | .timeSyncPeriod | .imageNakWindowEnd | .profileRebroadcast
  | .storedFrameForward .. | .headSilenceTimeout .. | .idlePatternDetect | .spliceCollectEnd | .convergeTimeout | .boostTimeout
  | .driveInhibit .. | .driveAllow .. | .inhibitLong | .coilTest .. | .coilTest24h | .coupledExchangeStart | .ctReplyTimeout | .ctDriveCap
  | .sessionTrigger | .replyWindowClose | .enrolTimeout | .ignitionWindowExpiry | .sesLfrunGo | .crystalLost | .fllLock | .degrClear
  | .fllLockTimeout | .backupSwitch .. | .compSample .. | .setTime | .deferredStep | .slewDone | .secondTick | .ppsFall | .timerCapture ..
  | .motionEdge .. | .motionGlitch | .speedZeroTimeout | .motionStopped | .waymarkEvaluate | .ledgerIngest .. | .checkpointSeal
  | .sectorAgeFlush | .nandProgramDone .. | .ledgerOpen | .mirrorCopy | .summaryHourly | .windowBufferTimeout | .rmcCommit ..
  | .rmcAbort .. | .pageProgramDone .. | .markerProgramDone .. | .tallyCellDone | .importPairExpiry | .lcNonce .. | .lcNonceExpiry
  | .lcSet .. | .vltBufIdle | .legacyKeyGap | .protectionRewrite | .hashSha .. | .randomBytes .. | .cryBufIdle | .symmetricStepPreempt
  | .entRandRead .. | .entropyWaitTimeout | .reseed .. | .rawModeExit .. | .entRawRead .. | .rawModeTimeout | .entropySelfRestart
  | .fieldOn | .fieldLoss | .reqa | .wupa | .rats | .hlta | .deselect | .lockWtxExpiry | .fieldPageProgramDone .. | .tagWiredHoldTimeout
  | .ignitionTimeout | .canWakePattern .. | .canFrameTransmit .. | .busOff | .busOffRecovery | .busOffLong | .ringTurn
  | .ringSuccessorTimeout | .ringStartTimeout | .ringOverrule | .ringWakeEvent | .ncrTimeout | .s3Timeout | .diagnosticSessionControl
  | .ecuReset | .readDataByIdentifier | .readMemoryByAddress | .writeMemoryByAddress | .securityAccessSeed | .securityAccessKey
  | .securityDelayExpiry | .requestDownload | .transferData | .requestTransferExit .. | .requestUpload | .testerPresent | .confirmImage
  | .enrolFob | .barFob | .unbarFob | .emptyFobRecord | .clearCounters | .coilTestRoutine .. | .formatLedger | .verifyLedger
  | .attestSlot3 | .hostReadWords .. | .hostWriteWords .. | .hostLedgerRead .. | .hostCsAbort .. | .satEventRepeat | .startLineReadback ..
  | .startLineOvercurrent .. | .startLineRetry .. | .startLineOvertemp .. | .startLineOpenLoad .. | .startLineForced .. | .vbatFail ..
  | .vbatFailDeassert .. | .vbatOvervoltage .. | .vsysOutOfRange .. | .vbkpSample .. | .domainPowerFail .. | .plChange | .plChangeDone ..
  | .processTrim .. | .dozeEntry | .standbyEntry | .blockReset .. | .blockResetDone .. | .hedgehogRestart | .deferredRestart
  | .sessionWatchdog | .heartbeatWatchdog | .faultReportWindowEnd .. | .hibernateWake | .vsysReset .. | .motionBEdge ..
  | .selectiveWakeErrors .. | .startLineCool .. | .nbsTimeout | .waitingTimeExtension | .vbatBoostThreshold .. | .debugHalt .. => true

/-- A well-formed command. -/
abbrev Instr.WellFormed (i : Instr) : Prop := i.wf = true

end Sys2Proof
end

