-- ==== Sys2Proof/Certificates/Slice0/Obligations.lean ====
section
/-! DEFINITION. The statements about the machine: what each family of commands does, frames and invariants. Each cites the rules of the
specification it formalises; where it rests on a choice of the model's own it names the log entry. -/

open Sys2Proof Sys2Proof.Machine

/-- The block takes its commands from the front of its queue: a step with command c in front is exec of c on the state with the queue's rest; with an
empty queue one tick of the clock passes (the model's choice, log 46). -/
def Obligations.StepTakesTheFront : Prop :=
  (∀ (c : Instr) (rest : List Instr) (s : State), step { s with pending := c :: rest } = exec c { s with pending := rest }) ∧
  (∀ s : State, s.pending = [] → step s = .next (tick s)) ∧
  (State.reset.pending = [] ∧ ∀ nbits w, State.reset.withFetchWord nbits w = State.reset)

/-- The memories and the register map of the state after reset are in their canonical form. -/
def Obligations.ResetIsWellFormed : Prop :=
  State.reset.wf = true

/-- Every step keeps the canonical form: sparse memories and the register map stay sorted, without entries that an unlisted address reads as. -/
def Obligations.StepsKeepTheForm : Prop :=
  ∀ s t : State, s.wf = true → step s = .next t → t.wf = true

/-- No command is ever refused, and the one that ends in a fault is a battery voltage beyond the ratings (R419); whatever a command does, the queue of
waiting commands stays as it is. -/
def Obligations.CommandsAnswer : Prop :=
  ∀ (c : Instr) (s : State),
    (∃ t, exec c s = .next t ∧ t.pending = s.pending) ∨
    (∃ vbat ms, c = .vbatOvervoltage vbat ms ∧ (58000 < vbat ∨ 40000 < vbat ∧ 400 < ms) ∧ exec c s = .fault .beyondRatings)

/-- R30, R40: what an access meets, in this order: DENIED, then BUSY at the fabric queue (no answer at all where it is dropped, R33), then at the target
UNMAPPED, OFF, FAULT, WIDTH; but for what a refusal at the queue counts, none of them changes anything but the answer given. A write that passes all
six is the target's own. An address outside every region is UNMAPPED, or DENIED for the tag port. R10, R12, R24: a plain register written by a
master that may write it: the read-write bits take the written value, a W1C bit written 1 clears unless the hardware has set it in the same tick, a
W1S bit written 1 sets, every other bit and every other register stays; a write by another master changes nothing. -/
def Obligations.AccessStatusOrder : Prop :=
  ((∀ (m : Master) (a v : Nat) (w : Width) (s : State) (r : Region), regionOf a = some r →
     (s.reaches m a r true = false → exec (.registerWrite m a w v) s = .next (fabAnswer m (.denied, s))) ∧
     (∀ u, s.reaches m a r true = true → enqueue (.fabric (blockAt a).region) m.cls m .burst s = (.busy, u) →
       exec (.registerWrite m a w v) s = .next (fabAnswer m (.busy, u))) ∧
     (∀ u, s.reaches m a r true = true → enqueue (.fabric (blockAt a).region) m.cls m .burst s = (.dropped, u) →
       ∃ t, exec (.registerWrite m a w v) s = .next t ∧ t.outs.fabric = none ∧ t.outs.busError = false ∧ t.regs = u.regs ∧ t.nv = u.nv) ∧
     (∀ u, s.reaches m a r true = true → enqueue (.fabric (blockAt a).region) m.cls m .burst s = (.taken, u) →
       (targetOf a w.bytes = none → exec (.registerWrite m a w v) s = .next (fabAnswer m (.unmapped, s))) ∧
       (∀ x, targetOf a w.bytes = some x →
         (s.targetOff a x = true → exec (.registerWrite m a w v) s = .next (fabAnswer m (.off, s))) ∧
         (s.targetOff a x = false → s.isIsolated (blockAt a) = true → exec (.registerWrite m a w v) s = .next (fabAnswer m (.fault, s))) ∧
         (s.targetOff a x = false → s.isIsolated (blockAt a) = false →
           (∀ n, x = .reg n → w ≠ .b32 → exec (.registerWrite m a w v) s = .next (fabAnswer m (.width, s))) ∧
           (∀ n, x = .reg n → w = .b32 → exec (.registerWrite m a w v) s = .next (fabAnswer m (regWrite m n v u))) ∧
           ((∀ n, x ≠ .reg n) → exec (.registerWrite m a w v) s = .next (fabAnswer m (windowPut m (leBytes w.bytes v) x u))))))) ∧
   (∀ (m : Master) (a v : Nat) (w : Width) (s : State), regionOf a = none →
     exec (.registerWrite m a w v) s = .next (fabAnswer m (if m = .tag then .denied else .unmapped, s))) ∧
   (∀ (m : Master) (r : FabStatus × State), r.1 ≠ .silent →
     (m ≠ .debug ∨ r.1 = .ok → (fabAnswer m r).outs.fabric = some (r.1, []) ∧ (fabAnswer m r).outs.busError = false) ∧
     (m = .debug → r.1 ≠ .ok → (fabAnswer m r).outs.fabric = none ∧ (fabAnswer m r).outs.busError = true))) ∧
  ((∀ (m : Master) (a v : Nat) (s : State) (row : RegRow), regsWf s.regs = true → s.mayWrite m a = true →
     regRows.find? (fun r => r.addr ≤ a && (a - r.addr) % r.stride == 0 && (a - r.addr) / r.stride < r.count) = some row →
     (∀ i, i < 32 →
       ((plainWrite m a v s).rd a).getLsbD i =
         (if row.w1s.testBit i && v.testBit i then true
          else if row.w1c.testBit i && v.testBit i && !(regGet s.hwSet a).getLsbD i then false
          else if row.rw.testBit i then v.testBit i
          else (s.rd a).getLsbD i)) ∧
     (∀ b, b ≠ a → (plainWrite m a v s).rd b = s.rd b) ∧
     { plainWrite m a v s with regs := s.regs } = s) ∧
   (∀ (m : Master) (a v : Nat) (s : State), s.mayWrite m a = false → plainWrite m a v s = s))

/-- R23, R30, R32, R33: a request that reaches the queue of a block that is not isolated is taken into a reserved place (P0 first), else a general one,
else the place of a request of the same tick and lower class (or of equal class and a higher master ID); a P0 request that finds none is answered
BUSY without touching the answer budget, with the region's fault; another is answered BUSY while the budget lasts, else dropped. -/
def Obligations.OverloadContract : Prop :=
  ∀ (q : QueueId) (cls0 : Cls) (m : Master) (w : Work) (s : State),
    let a := awake s
    let cls := arrivalCls q cls0 m (q.takes w)
    let v := a.found q
    let place := placeFor q cls (a.shedding cls) v
    let answer (r : Admit) (t : State) : State := { t with outs := { t.outs with enqueue := some r } }
    (q.block.any a.isIsolated = true → exec (.queueRequestArrival q cls0 m w) s = .next (answer .fault a)) ∧
    (q.block.any a.isIsolated = false →
      (∀ b, place = some b → exec (.queueRequestArrival q cls0 m w) s =
        .next (answer .taken (a.setQueue q { v with items := v.items ++ [⟨cls, m, b, a.now, q.takes w⟩] }))) ∧
      (∀ i, place = none → a.loserTo q cls m = some i → s.queues.length = 23 →
        ∃ t, exec (.queueRequestArrival q cls0 m w) s = .next t ∧ t.outs.enqueue = some .taken ∧
          (i.cls ≠ .p0 → (t.queue q).items = v.items.erase i ++ [⟨cls, m, i.reserved, a.now, q.takes w⟩])) ∧
      (place = none → a.loserTo q cls m = none →
        (cls = .p0 → exec (.queueRequestArrival q cls0 m w) s =
          .next (answer .busy (raise (q.region * 0x1000 + 1) q.idx ((a.setQueue q v).setBitAt Reg.SUP_RGN_STAT_REFUSED q.region)))) ∧
        (cls ≠ .p0 → v.deficit + answerUnit ≤ q.depth * answerUnit → exec (.queueRequestArrival q cls0 m w) s =
          .next (answer .busy ((a.setQueue q { v with deficit := v.deficit + answerUnit }).setBitAt Reg.SUP_RGN_STAT_REFUSED q.region))) ∧
        (cls ≠ .p0 → q.depth * answerUnit < v.deficit + answerUnit →
          ∃ t, exec (.queueRequestArrival q cls0 m w) s = .next t ∧ t.outs.enqueue = some .dropped ∧
            (s.queues.length = 23 → (t.queue q).items = v.items ∧ (t.queue q).deficit = v.deficit))))

/-- R31, R32: however requests arrive, a queue holds no more than its depth, and requests of the other classes never stand in a place reserved for P0. -/
def Obligations.QueueNeverOverfills : Prop :=
  ∀ (q : QueueId) (cls : Cls) (m : Master) (w : Work) (s : State), s.queues.length = 23 →
    (s.queue q).held true ≤ q.reserved → (s.queue q).held false ≤ q.depth - q.reserved →
    (∀ i ∈ (s.queue q).items, i.reserved = true → i.cls = .p0) →
    let t := (admitCore q cls m w s).2
    (t.queue q).held true ≤ q.reserved ∧ (t.queue q).held false ≤ q.depth - q.reserved ∧ (t.queue q).items.length ≤ q.depth ∧
      (∀ i ∈ (t.queue q).items, i.reserved = true → i.cls = .p0)

/-- R16, R26, R28, R35, R98: a waiting P0 request takes a lane from its lower-class owner, a channel from a finished lower-class frame, a key slot from
a command that waits on it; a datum whose escorts hold completes OK; one whose first recomputation matches completes OK and counts one mismatch; a
profile evaluation makes the single transition that R34 selects. -/
def Obligations.ArchitectureCommands : Prop :=
  (∀ (n : Nat) (cls : Cls) (s : State), (s.lane n).held = some cls → cls ≠ .p0 → (s.queue (.lane n)).items.any (fun i => i.cls == .p0) = true →
    exec (.cellPreempt (.lane n)) s = .next (laneServe n (laneRelease n (laneDrop n .preempted s)))) ∧
  (∀ (c : Nat) (run : LfRun) (s : State), s.runOn c = some run → run.cls ≠ .p0 → run.startAt + periodTicks run.req.periods ≤ s.now →
    s.p0Waits c = true → (∀ b, (s.queue (.bank b)).items.any (s.sameSchedule run) = false) →
    exec (.cellPreempt (.channel c)) s = .next ([0, 1].foldl (scheduleDrop run) (lfEnd run .ok [] s))) ∧
  (∀ (c : Nat) (run : LfRun) (s : State), s.runOn c = some run → run.cls ≠ .p0 → run.startAt + periodTicks run.req.periods ≤ s.now →
    s.p0Waits c = true → (s.queue (.bank 0)).items.any (s.sameSchedule run) = true →
    exec (.cellPreempt (.channel c)) s = .next ([0, 1].foldl (scheduleDrop run) (lfEnd run .preempted [] s))) ∧
  (∀ (c : DenCmd) (s : State), s.den.wait = some c → s.p0Queued .den = true → c.master ≠ .session →
    exec (.cellPreempt (.slot c.slot)) s = .next (slotTold c.master (denDone .busy [] { s with den := { s.den with wait := none } }))) ∧
  (∀ (b : Block) (src : Source) (bytes : Bytes) (recs : List Datum) (s : State),
    ∃ t, exec (.escortRecompute b src none (Datum.of bytes) recs) s = .next t ∧ t.outs.fabric = some (.ok, []) ∧ t.hh = s.hh ∧ t.regs = s.regs) ∧
  (∀ (b : Block) (src : Source) (held d : Datum) (recs : List Datum) (s : State), src.again = true → (s.escTimes b).length < 15 →
    held.holds = false → d.holds = true →
    ∃ t, exec (.escortRecompute b src none held (d :: recs)) s = .next t ∧ t.outs.fabric = some (.ok, []) ∧
      t.hh.esc.head? = some (b, s.now :: s.escTimes b) ∧ t.hh.iso = s.hh.iso) ∧
  (∀ b : Bytes, (Datum.of b).escorts.length = (b.length + 63) / 64 ∧ (Datum.of b).holds = true) ∧
  (∀ (s : State), s.profile ≠ 7 → s.bit Reg.SUP_HH_STAT_HALT = false → s.isHead = true → s.boot.evalSec ≠ some (s.now / 4194304) →
    exec (.profileEvaluate true) s = .next (enterProfile s.profileFor
      { s with boot := { s.boot with evalAt := s.now, wmSelect := none, evalDue := false, evalSec := some (s.now / 4194304) } })) ∧
  (∀ (s : State), s.lc = 3 → s.profileFor = 4) ∧
  (∀ (s : State), s.lc ≠ 3 → s.bit Reg.WM_MSTAT_MOVING = true → s.profileFor = 3) ∧
  (∀ (s : State), s.lc ≠ 3 → s.bit Reg.WM_MSTAT_MOVING = false → s.lines.ignition = true → s.profileFor = 2)

/-- R58, R60, R300: each reset source and what the step makes of the state. -/
def Obligations.ResetSources : Prop :=
  (∀ s : State, s.power.state ≠ .reset → ∃ t, exec .aonpor s = .next t ∧ t.regs = regsReset ∧ t.chron = { ChronSt.init with porAt := s.now } ∧
    t.power.state = .reset ∧ t.power.causes = [(.aonpor, s.now)] ∧ t.lines = LinesSt.init ∧ t.touch = TouchSt.init ∧ t.straps = s.straps ∧
    t.nand = s.nand ∧ t.nv = (tallyCut s).nv ∧ t.pending = s.pending) ∧
  (∀ (c : Cause) (s : State), s.power.state = .reset → s.power.causes = [(c, s.now)] →
    ∃ t, exec .aonpor s = .next t ∧ t.power.causes = [(c, s.now), (.aonpor, s.now)] ∧ t.bit (causeFld c) = true ∧ t.bit Reg.PWR_RST_CAUSE_AONPOR = true) ∧
  (∀ s : State, s.bit Reg.PWR_STAT_BKP = true →
    exec .supplyReturn s = .next (restartOnly .supply ((s.setBit Reg.PWR_STAT_BKP false).setBit Reg.CHRON_STAT_BKP false))) ∧
  (∀ (low : Nat) (s : State), exec (.extrst low) s = .next (if low < 10 then s else restartOnly .extrst s)) ∧
  (∀ s : State, s.lcFused = 0 ∨ s.lcFused = 1 ∨ s.lcFused = 3 → exec .debugReset s = .next (restartOnly .debug s)) ∧
  (∀ s : State, s.lcFused = 2 ∨ s.lcFused = 4 → exec .debugReset s = .next s) ∧
  (∀ (vsys : Nat) (s : State), exec (.vsysReset vsys) s =
    .next (if vsys < 2900 then restartOnly .supply { s with powAon := { s.powAon with vsys := vsys } }
      else { s with powAon := { s.powAon with vsys := vsys } })) ∧
  (∀ s : State, s.power.state = .hibernate → s.powAon.wakes ≠ [] →
    ∃ t, exec .hibernateWake s = .next t ∧ t.power.state = .reset ∧ t.power.causes = s.power.causes ++ [(.hiber, s.now)] ∧ t.chron = s.chron ∧
      t.powAon = { s.powAon with wakes := [] }) ∧
  (∀ (code at_ : Nat) (s : State), s.hh.restart = some (code, at_) → s.rmc.cur = none → s.rmc.op = none →
    ∃ t, exec .hedgehogRestart s = .next t ∧ t.power.state = .reset ∧ (t.power.causes.map (·.1)).getLast? = some .hedge) ∧
  (∀ (code at_ : Nat) (s : State), s.hh.restart = some (code, at_) → s.rmc.cur.isSome = true → s.after at_ 3200 = false → s.power.dueHedge = none →
    exec .hedgehogRestart s = .next s) ∧
  (∀ s : State, s.domOn .sup = true →
    ∃ t, exec .heartbeatWatchdog s = .next t ∧ t.power.state = .reset ∧ t.power.causes = s.power.causes ++ [(.hedge, s.now)] ∧
      t.hhAon.pendingCode = some 0x1403 ∧ t.hhAon.restarts = s.hhAon.restarts)

/-- Table 3-1, Table 3-4: a reset that leaves the always-on region running keeps the Chronicle, the timers' settings, the motion counter, touch and
switches, the start lines, the entropy failure count, what the coils were disabled for, retained memory, fuses, NOR and NAND; sessions, trackers,
lanes, the ranging engine, the chain, the bus, every queue and every unfinished commit begin afresh. R59: a restart of any source but AONPOR leaves
the start-line latch, and every other register of the always-on region that it does not name, as it was; after AONPOR the latch is clear. -/
def Obligations.RestartKeepsAndClears : Prop :=
  (∀ (c : Cause) (s : State), let t := restartOnly c s
     (t.chron = s.chron ∧ t.motion = s.motion ∧ t.touch = s.touch ∧ t.lines = s.lines ∧ t.tag = s.tag ∧ t.tagAon = s.tagAon ∧ t.entAon = s.entAon ∧ t.hhAon = s.hhAon ∧
       t.lfAon = s.lfAon ∧ t.imgAon = s.imgAon ∧ t.nand = s.nand ∧ t.straps = s.straps ∧ t.now = s.now ∧ t.pending = s.pending) ∧
     t.timers.cmpHeld = s.timers.cmpHeld ∧ t.nv.mem = s.nv.mem ∧
     (t.ses = SesSt.init ∧ t.lf = LfSt.init ∧ t.air = AirSt.init ∧ t.fox = FoxSt.init ∧ t.sett = SettSt.init ∧ t.can = canKept c s.can ∧
       t.ring = RingSt.init ∧ t.wm = WmSt.init ∧ t.den = DenSt.init ∧ t.cry = CrySt.init ∧ t.ent = EntSt.init ∧ t.rmc = RmcSt.init ∧
       t.led = LedSt.init ∧ t.hh = HhSt.init ∧ t.queues = List.replicate 23 Queue.init) ∧
     t.power.state = .reset ∧ t.power.causes = s.power.causes ++ [(c, s.now)]) ∧
  ((∀ (c : Cause) (s : State), regsWf s.regs = true →
     (restartOnly c s).get Reg.SL_STAT_LATCH = s.get Reg.SL_STAT_LATCH ∧
     (restartOnly c s).get Reg.CHRON_STAT_TVALID = s.get Reg.CHRON_STAT_TVALID ∧
     (restartOnly c s).get Reg.SUP_RSTCODE_V = s.get Reg.SUP_RSTCODE_V ∧
     (restartOnly c s).get (causeFld c) = 1) ∧
   ∀ s t : State, exec .aonpor s = .next t → t.get Reg.SL_STAT_LATCH = 0 ∧ t.get Reg.PWR_RST_CAUSE_AONPOR = 1)

/-- R65, R377, R449, R450: the start-up samples CHAIN_ROLE; two disagreeing fuse reads end it at step 4 with no profile entered: fault 0x4101, FAILSTEP
4 after step 3. A start-up never runs outside the time between a reset and the next; while TEST is held high, and while a group of the field path
runs in bank 1, the unit stays in reset. R52: the selection of an image by the slot selector: a pending slot that verifies begins a trial; one that
does not leaves the previous image; a trial ended by a Hedgehog restart or after three tries goes back to the other slot with TRIAL_FAILED; another
restart counts a try. -/
def Obligations.StartUpAndSlotSelection : Prop :=
  ((∀ (env : BootEnv) (s : State), s.power.state = .reset → s.tag.path = none → env.testBall = false → s.bit Reg.PWR_STAT_BKP = false →
     (∃ t, exec (.startUp env) s = .next t ∧ t.boot.started = true) ∧
     (env.fuses = false →
       let u := { s with straps := { s.straps with chainRole := env.chainRole, norPresent := env.nor, canWired := env.canWired } }
       exec (.startUp env) s = .next (bootStop 3 4 env ((raise 0x4101 0 ((bootEarly u).setDom .vlt false)).put Reg.CAN_STAT_XCVR 2)))) ∧
   (∀ (env : BootEnv) (s : State), s.power.state ≠ .reset → exec (.startUp env) s = .next s) ∧
   (∀ (env : BootEnv) (s : State), s.power.state = .reset → s.tag.path.isSome = true ∨ env.testBall = true ∨ s.bit Reg.PWR_STAT_BKP = true →
     exec (.startUp env) s = .next s) ∧
   (∀ (i : Image) (at_ : Nat) (s u : State), s.img.run = some i → s.boot.profileAt = some at_ → s.isHead = true →
     s.bit Reg.MEM_IMG_STAT_TRIAL = true → s.img.confirming = false → s.after at_ (i.profiles.tConfirm * 1000000) = true →
     submitGroup .p1 ⟨[{ s.selector with trial := 0 }.write], .confirmTrial false⟩ s = (.taken, u) →
     exec .trialConfirmTimeout s = .next { u with img := { u.img with confirming := true } })) ∧
  (∀ (env : BootEnv) (hedge : Bool) (x : Selector) (s : State),
     (x.pending ≠ 0 →
       let r := tryImage env (x.pending == 2) s
       trialStep env hedge x s = if r.1.isSome then (⟨x.pending - 1, 0, 1, 0⟩, false, r.2) else ({ x with pending := 0 }, true, r.2)) ∧
     (x.pending = 0 → x.trial = 1 → hedge = true ∨ x.tries = 3 →
       trialStep env hedge x s = ({ x with active := 1 - x.active, trial := 0 }, true, setRej (x.active == 1) 0x0E s)) ∧
     (x.pending = 0 → x.trial = 1 → hedge = false → x.tries ≠ 3 → trialStep env hedge x s = ({ x with tries := x.tries + 1 }, false, s)) ∧
     (x.pending = 0 → x.trial ≠ 1 → trialStep env hedge x s = (x, false, s)) ∧
     (let r := trialStep env hedge s.selector s
      let y := r.1
      let a := tryImage env (y.active == 1) r.2.2
      let b := tryImage env (y.active == 0) a.2
      chooseImage env hedge s =
        if a.1.isSome then (⟨y, a.1, r.2.1⟩, a.2)
        else if b.1.isSome then (⟨{ y with active := 1 - y.active, trial := 0 }, b.1, true⟩, b.2)
        else (⟨y, none, r.2.1⟩, b.2)))

/-- R73, R75 to R80: what a running unit with a chain key hears. A frame that ends in an abort delimiter is discarded uncounted; a wrong HCRC is counted
and stops the frame; a type or class of Table 4-3's other than it gives, and a REQUEST of neither the head nor the acting head, is discarded and
counted. A whole frame for it, under the epoch in force, its PCRC and MAC right, its CTR above the last from its source and its queue open, is
opened; a wrong PCRC and a wrong MAC are counted; a CTR not above the last from its source opens nothing. -/
def Obligations.ChainFrameAccepted : Prop :=
  ∀ (typ : Nat) (f : SettFrame) (aborted : Bool) (key : Bytes) (s : State),
    s.power.state ≠ .reset → s.runs = true → s.domOn .lnk = true → s.isIsolated .sett = false → s.slotKey 2 = some key →
    let t := portHeard (!f.goesDown) (awake s)
    let u := copyCut f (settWatch f t)
    (aborted = true → settHear typ f aborted s = (none, copyCut f t)) ∧
    (aborted = false → crc16 (be 2 f.hdr) ≠ f.hcrc → settHear typ f aborted s = (none, copyCut f (t.count Reg.SETT_ERR_HCRC 1))) ∧
    (aborted = false → crc16 (be 2 f.hdr) = f.hcrc → settBad f t = true → settHear typ f aborted s = (none, copyCut f (settDiscard t))) ∧
    (∀ w : State, aborted = false → crc16 (be 2 f.hdr) = f.hcrc → settBad f t = false → f.typ = typ → f.bc = false →
      f.forMe (settWatch f t) = true → f.forMe u = true → u.bit Reg.SETT_STAT_QUAR = false →
      enqueue .settRx f.cls .sett (.frame f) u = (.taken, w) → w.slotKey 2 = some key →
      (crc32c (be 4 f.ctr ++ f.payload) ≠ f.pcrc → settHear typ f aborted s = (none, settPcrcFail f w)) ∧
      (crc32c (be 4 f.ctr ++ f.payload) = f.pcrc → w.zeroType f.typ = false → w.sett.epoch ≠ 0 →
        (settMac key w.sett.epoch f.hdr f.ctr f.payload = f.mac → w.lastCtr f.src = none ∨ (∃ c, w.lastCtr f.src = some c ∧ c < f.ctr) →
          (settHear typ f aborted s).1 =
            some (if settSealed f.typ then settCrypt key w.sett.epoch (f.src - 1) f.ctr f.payload else f.payload, false) ∧
          (settHear typ f aborted s).2.lastCtr f.src = some f.ctr) ∧
        (settMac key w.sett.epoch f.hdr f.ctr f.payload = f.mac → (∃ c, w.lastCtr f.src = some c ∧ f.ctr ≤ c) →
          settHear typ f aborted s = (none, w)) ∧
        (settMac key w.sett.epoch f.hdr f.ctr f.payload ≠ f.mac → w.sett.oldEpoch = none → settHear typ f aborted s = (none, settMacFail w))))

/-- R76, R82: enumeration. A satellite without a role takes the offered number and offers the next; the head takes down a unit that answers with its
nonce; 100 µs without an answer end it. An epoch takes effect at its tick, and the epoch it replaces is kept for 1 ms; it is drawn anew at the day
boundary. R86 to R88: HEARTBEAT restarts the head-silence timer and goes out after 10 ms without a frame; TIME_SYNC goes out every 100 ms, every 1
ms while a unit is in quarantine, and steers or steps the satellite that hears it; a delay measurement costs one unanswered request until its answer
comes, and three unanswered lose the segment. -/
def Obligations.ChainEnumerationAndTime : Prop :=
  ((∀ (f : SettFrame) (aborted : Bool) (p : Bytes) (s t : State), settHear 0x01 f aborted s = (some (p, true), t) →
     t.isHead = false → t.isActing = false → 2 ≤ fieldBe p 0 1 → fieldBe p 0 1 ≤ 15 →
     let n := fieldBe p 0 1
     let u : State := { t with sett := { t.sett with
       nonce := some (sub p 9 8), idleSent := false, spliceEnd := false, restricted := false, probe := none, replies := [],
       enumAt := some t.now, assignedAt := none, downQuar := true, below := 0 } }
     let v := ((u.put Reg.SETT_STAT_NUM n).setBit Reg.SETT_STAT_UPUP true).setBit Reg.SETT_STAT_LAST false
     exec (.enumFrame f aborted) s = .next
       (settSend0 0x01 false (n + 1) .p1 (be 1 (n + 1) ++ sub p 1 8 ++ sub p 9 8) (enumAck false (sub p 9 8) v))) ∧
   (∀ (f : SettFrame) (aborted : Bool) (p : Bytes) (s t : State), settHear 0x02 f aborted s = (some (p, true), t) → s.isHead = true →
     t.isHead = true → t.sett.enumAt.isSome = true → sub p 12 8 = t.sett.enumNonce → t.sett.acks.any (fun a => a.unit == f.src) = false →
     fieldBe p 8 2 = 0 → fieldBe p 10 1 % 2 = 0 →
     exec (.enumAck f aborted none) s = .next (({ t with sett := { t.sett with
         acks := t.sett.acks ++ [(⟨f.src, fieldBe p 0 8, 0, false⟩ : EnumAck)], enumAt := some t.now, unanswered := 0 } }.setBit
       Reg.SETT_STAT_DNUP true).setBit Reg.SETT_STAT_LAST false)) ∧
   (∀ (at_ : Nat) (s : State), s.sett.enumAt = some at_ → s.runs = true → s.isHead = false → s.after at_ 100 = true →
     exec .enumAckTimeout s =
       .next (({ s with sett := { s.sett with enumAt := none } }.setBit Reg.SETT_STAT_LAST true).setBit Reg.SETT_STAT_DNUP false)) ∧
   (∀ (at_ : Nat) (s : State), s.sett.enumAt = some at_ → s.runs = true → s.isHead = true → s.after at_ 100 = true →
     s.sett.acks = [] → s.boot.step9 = false → memGetN s.nv.mem 0x6000 512 = bindingTable s.newBindings →
     ∃ t, exec .enumAckTimeout s = .next t ∧ t.sett.enumAt = none ∧ t.sett.quarMask = 0 ∧ t.nv = s.nv ∧ t.rmc = s.rmc) ∧
   (∀ (f : SettFrame) (aborted : Bool) (p : Bytes) (s t : State), settHear 0x03 f aborted s = (some (p, false), t) → t.isHead = false →
     t.chron.count.toNat < fieldBe p 9 8 → fieldBe p 0 8 ≠ 0 →
     exec (.chainReady f aborted) s = .next { t with sett := { t.sett with nextEpoch := some (fieldBe p 0 8, fieldBe p 9 8) } }) ∧
   (∀ (f : SettFrame) (aborted : Bool) (p : Bytes) (s t : State), settHear 0x03 f aborted s = (some (p, true), t) → t.isHead = false →
     t.isActing = false → t.sett.nonce = some (sub p 17 8) → fieldBe p 0 8 ≠ 0 →
     fieldBe p 9 8 ≤ t.chron.count.toNat ∨ t.bit Reg.SETT_STAT_CONV = false →
     ∃ u, exec (.chainReady f aborted) s = .next u ∧ u.sett.epoch = fieldBe p 0 8 ∧ u.sett.nonce = none ∧ u.sett.silenceAt = t.sett.silenceAt) ∧
   (∀ (e tick : Nat) (s : State), s.sett.nextEpoch = some (e, tick) → tick ≤ s.chron.count.toNat →
     ∃ t, exec .epochEffect s = .next t ∧ t.sett.epoch = e ∧ t.sett.oldEpoch = some (s.sett.epoch, s.now) ∧ t.sett.nextEpoch = none ∧
       t.sett.myCtr = 0 ∧ t.regs = s.regs) ∧
   (∀ (e tick : Nat) (s : State), s.sett.nextEpoch = some (e, tick) → s.chron.count.toNat < tick → exec .epochEffect s = .next s) ∧
   (∀ (e : Bytes) (s t : State), s.isHead = true → s.runs = true → s.unitNum ≠ 0 → s.sett.enumAt = none → s.dayOf s.secs ≠ s.sett.epochDay →
     randBytes false 8 s = (.bytes e, t) →
     let units := ((List.range 16).filter (fun i => t.mapHas (i + 1))).length
     let tick := t.chron.count.toNat + 20972
     exec .epochRenew s = .next (imageOffer (settSend 0x03 true 1 .p1 (readyBytes (beNat e) units tick [])
       { t with sett := { t.sett with nextEpoch := some (beNat e, tick), epochDay := s.dayOf s.secs } })))) ∧
  ((∀ (f : SettFrame) (aborted : Bool) (p : Bytes) (z : Bool) (s t : State), settHear 0x04 f aborted s = (some (p, z), t) → t.isHead = false →
     t.isActing = false → f.src ≤ 2 →
     exec (.heartbeat f aborted) s = .next { t with sett := { t.sett with actingUnit := f.src == 2, silenceAt := t.now, silenceDone := false } }) ∧
   (∀ s : State, s.chainLead = true → s.after s.sett.emittedAt 10000 = true →
     exec .heartbeatPeriod s = .next (settSend 0x04 true 1 .p1 [] s)) ∧
   (∀ s : State, s.after s.sett.emittedAt 10000 = false → exec .heartbeatPeriod s = .next s) ∧
   (∀ (f : SettFrame) (aborted : Bool) (phase : Nat) (p : Bytes) (z : Bool) (s t : State), settHear 0x05 f aborted s = (some (p, z), t) →
     t.isHead = false → t.isActing = false → f.src ≤ 2 →
     let there : Int := (fieldBe p 0 8 * 9375 + fieldBe p 8 2 : Nat) + t.sett.path
     let off := ((t.chron.count.toNat * 9375 + phase % 9375 : Nat) : Int) - there
     let u := (t.wr Reg.CHRON_UTCOFF (BitVec.ofInt 32 (toInt 16 (fieldBe p 10 2)))).setBit Reg.CHRON_STAT_TVALID (fieldBe p 12 1 % 2 == 1)
     exec (.timeSync f aborted phase) s = .next (timeTake off (there / 9375).toNat (actingSeen f u))) ∧
   (∀ (off : Int) (target : Nat) (s : State), regsWf s.regs = true → s.bit Reg.SETT_STAT_QUAR = true → 9375 ≤ off.natAbs →
     (timeTake off target s).chron.count = BitVec.ofNat 64 target ∧ (timeTake off target s).bit Reg.CHRON_STAT_STEPPED = true ∧
       (timeTake off target s).sett.conv = 0) ∧
   (∀ (off : Int) (target : Nat) (s : State), regsWf s.regs = true → s.bit Reg.SETT_STAT_QUAR = false → off.natAbs ≤ 39321600 →
     (timeTake off target s).chron.count = s.chron.count ∧
       -200 ≤ (timeTake off target s).chron.steer ∧ (timeTake off target s).chron.steer ≤ 200) ∧
   (∀ s : State, s.chainLead = true → s.after s.sett.syncAt (if s.quarKnown = 0 then 100000 else 1000) = true →
     exec .timeSyncPeriod s = .next (settSend 0x05 true 1 .p1 []
       { s with sett := { s.sett with syncAt := s.now, quarMask := s.quarKnown, syncSeq := s.get Reg.CHRON_STAT_SEQ } })) ∧
   (∀ (fwd : Nat) (s : State), s.runs = true → s.domOn .lnk = true → s.unitNum ≠ 0 → s.bit Reg.SETT_STAT_DNUP = true →
     s.after s.sett.delayAt s.delayPeriod = true →
     let fwdMost := min fwd 78643
     (s.sett.unanswered < 3 → exec (.delayReqPeriod fwd) s = .next
       (settSend 0x06 false (s.unitNum + 1) .p1 (delayBytes 0 s.sett.downS s.sett.path fwdMost)
         { s with sett := { s.sett with delayAt := s.now, unanswered := s.sett.unanswered + 1, fwd := fwdMost } })) ∧
     (3 ≤ s.sett.unanswered → exec (.delayReqPeriod fwd) s = .next (segmentLost s))) ∧
   (∀ (f : SettFrame) (aborted : Bool) (t2 t3 : Nat) (p : Bytes) (z : Bool) (s t : State), settHear 0x06 f aborted s = (some (p, z), t) →
     let seg := toInt 32 (fieldBe p 8 4)
     let path := toInt 32 (fieldBe p 12 4) + toInt 32 (fieldBe p 16 4) + seg
     let u := delayRegs { t with sett := { t.sett with path := path, upS := seg } }
     exec (.delayReq f aborted t2 t3) s =
       .next (settSend 0x07 false (u.unitNum - 1) .p1 (be 8 t2 ++ be 8 t3) (u.setBit Reg.SETT_STAT_UPUP true))) ∧
   (∀ (f : SettFrame) (aborted : Bool) (t4 : Nat) (p : Bytes) (z : Bool) (s t : State), settHear 0x07 f aborted s = (some (p, z), t) →
     ∃ u, exec (.delayResp f aborted t4) s = .next u ∧ u.sett.unanswered = 0 ∧ u.sett.segs.length = min 8 (t.sett.segs.length + 1) ∧
       u.sett.downS = u.sett.segs.sum / (u.sett.segs.length : Int) ∧
       (t.sett.t1 ≤ t4 → t4 < 2 ^ 40 → fieldBe p 0 8 ≤ fieldBe p 8 8 → fieldBe p 8 8 < 2 ^ 40 →
         u.sett.segs.head? = some (((t4 - t.sett.t1 : Int) - ((fieldBe p 8 8 : Int) - fieldBe p 0 8)) / 2))))

/-- R54, R61, R84, R85: images and profiles over the chain. A satellite that retains the image offered confirms at once, another collects its fragments
and asks for those that lack 2 ms after the last; the head resends them, counts what is confirmed, and takes a confirmed unit into service.
ARB_RAISE raises counter 0; PROFILE selects the satellite's profile and is broadcast again every 1 s. R78 to R80, R89 to R91, R215, R286, R443: what
the chain carries in service. A plan too late or in quarantine is reported LATE; a report joins the exchange that runs; a REQUEST is one access of
master 3, answered with its status; a RESPONSE ends the request it answers; records and faults of satellites reach the ledger; RETX sends the frame
again, ABSENT ends a request OFF; a stored frame goes on; unit 2 keeps the fob copies. -/
def Obligations.ChainImagesAndTraffic : Prop :=
  ((∀ (f : SettFrame) (aborted : Bool) (p : Bytes) (z : Bool) (b : Bytes) (i : Image) (s t : State), settHear 0x08 f aborted s = (some (p, z), t) →
     t.isHead = false → t.imgAon.retained = some b → b.length = fieldBe p 0 4 → sub b (b.length - 96) 32 = sub p 4 32 →
     t.img.run = some i → i.digest = sub p 4 32 →
     exec (.imageOffer f aborted) s = .next (serviceCheck (raiseMissed i.arb (sendConfirm 0
       { t with img := { t.img with rxDigest := sub p 4 32, rxSize := 0, rxData := [], rxAt := none } })))) ∧
   (∀ (f : SettFrame) (aborted : Bool) (p : Bytes) (z : Bool) (s t : State), settHear 0x08 f aborted s = (some (p, z), t) →
     t.isHead = false → t.imgAon.retained = none →
     exec (.imageOffer f aborted) s = .next
       ({ t with img := { t.img with rxSize := fieldBe p 0 4, rxDigest := sub p 4 32, rxData := [], rxAt := some t.now } }.setBit
         Reg.SETT_STAT_QUAR true)) ∧
   (∀ (f : SettFrame) (aborted : Bool) (p : Bytes) (z : Bool) (s t : State), settHear 0x09 f aborted s = (some (p, z), t) →
     t.isHead = false → t.img.rxSize ≠ 0 → fieldBe p 0 4 ∈ imageOffsets t.img.rxSize →
     let u : State := { t with img := { t.img with
       rxData := (fieldBe p 0 4, p.drop 4) :: t.img.rxData.filter (fun d => d.1 != fieldBe p 0 4), rxAt := some t.now } }
     exec (.imageData f aborted) s = .next (if u.imageMissing = [] then imageWhole u else u)) ∧
   (∀ (at_ : Nat) (s : State), s.img.rxAt = some at_ → s.runs = true → s.after at_ 2000 = true →
     exec .imageNakWindowEnd s = .next (settSend 0x0A false 1 .p3
       ((((imageOffsets s.img.rxSize).filter (fun o => (s.fragment o).isNone)).take 255).flatMap (be 4))
       { s with img := { s.img with rxAt := some s.now } })) ∧
   (∀ (f : SettFrame) (aborted : Bool) (p : Bytes) (z : Bool) (s t : State), settHear 0x0A f aborted s = (some (p, z), t) → t.isHead = true →
     exec (.imageNak f aborted) s = .next { t with sett := { t.sett with
       dataOut := t.sett.dataOut ++ (List.range (p.length / 4)).map (fun k => (some f.src, fieldBe p (4 * k) 4)) } }) ∧
   (∀ (f : SettFrame) (aborted : Bool) (p : Bytes) (z : Bool) (s t : State), settHear 0x0B f aborted s = (some (p, z), t) → t.isHead = true →
     let u : State := { t with img := { t.img with confirms := (f.src, fieldBe p 0 1) :: t.img.confirms.filter (fun q => q.1 != f.src) } }
     (fieldBe p 0 1 ≠ 0 ∨ t.mapHas f.src = true → u.allConfirmed = false → exec (.imageConfirm f aborted) s = .next u) ∧
     (fieldBe p 0 1 = 0 → t.mapHas f.src = false → t.present f.src = true → t.sett.spliced / 2 ^ (f.src - 1) % 2 = 0 → f.src ≠ 2 →
       let v := setMap (maskWith (u.get Reg.SETT_MAP_V) f.src) { u with sett := { u.sett with quarMask := maskWithout u.sett.quarMask f.src } }
       v.allConfirmed = false → exec (.imageConfirm f aborted) s = .next v)) ∧
   (∀ (f : SettFrame) (aborted : Bool) (p : Bytes) (z : Bool) (s t : State), settHear 0x0C f aborted s = (some (p, z), t) → t.isHead = false →
     exec (.arbRaise f aborted) s =
       .next (submitTally .p1 ⟨0, some (fieldBe p 0 4), .arbRaise⟩ { t with sett := { t.sett with absent := false } }).2) ∧
   (∀ (f : SettFrame) (aborted : Bool) (p : Bytes) (z : Bool) (s t : State), settHear 0x0D f aborted s = (some (p, z), t) → t.isHead = false →
     t.isActing = false → t.bit Reg.SUP_HH_STAT_HALT = false → fieldBe p 0 1 < 7 → t.profile ≠ 7 →
     exec (.profileFrame f aborted) s = .next (enterProfile (fieldBe p 0 1) t)) ∧
   (∀ s : State, s.chainLead = true → s.profile ≠ 7 → s.after s.sett.profAt 1000000 = true →
     exec .profileRebroadcast s = .next (settSend 0x0D true 1 .p1 (be 1 s.profile) { s with sett := { s.sett with profAt := s.now } })) ∧
   (∀ s : State, s.after s.sett.profAt 1000000 = false → exec .profileRebroadcast s = .next s)) ∧
  ((∀ (f : SettFrame) (aborted : Bool) (p : Bytes) (z : Bool) (s t : State), settHear 0x0E f aborted s = (some (p, z), t) → t.isHead = false →
     (Plan.of p).mask / 2 ^ (t.unitNum - 1) % 2 = 1 → t.bit Reg.SETT_STAT_QUAR = true ∨ (Plan.of p).start ≤ t.chron.count.toNat →
     exec (.overhearPlan f aborted) s = .next (settSend 0x0F false 1 .p0 (be 2 (Plan.of p).exch ++ be 1 1 ++ zeros 11) t)) ∧
   (∀ (f : SettFrame) (aborted : Bool) (p : Bytes) (z : Bool) (n : Nat) (s t : State), settHear 0x0E f aborted s = (some (p, z), t) → t.isHead = false →
     (Plan.of p).mask / 2 ^ (t.unitNum - 1) % 2 = 1 → t.bit Reg.SETT_STAT_QUAR = false → t.chron.count.toNat < (Plan.of p).start →
     [0, 1].find? (fun n => t.laneServes n && (t.lane n).held.isNone && (t.ohOn n).isNone) = some n →
     let q := Plan.of p
     let wait := q.start - t.chron.count.toNat
     let u := listenPass n 14 (t.airAbs + wait * 9375 + q.air) none
       (setOh n (some ⟨q, false, t.firstAerial n, none, [], []⟩) (laneHold n .p0 14 t))
     exec (.overhearPlan f aborted) s =
       .next { u with sett := { u.sett with plans := (q, t.now + wait + exchangeLen q.grade 1 / 9375 + 1) :: u.sett.plans } }) ∧
   (∀ (f : SettFrame) (aborted : Bool) (p : Bytes) (z : Bool) (x : Exch) (s t : State),
     settHear 0x0F f aborted s = (some (p, z), t) → t.isHead = true → fieldBe p 2 1 = 0 → t.exOn 0 = some x → x.q1 % 65536 = fieldBe p 0 2 →
     exec (.overhearReport f aborted) s = .next
       (setEx 0 (some { x with reports := x.reports ++ [⟨f.src, fieldBe p 3 1, toInt 32 (fieldBe p 4 4)⟩] }) t)) ∧
   (∀ (f : SettFrame) (aborted : Bool) (p : Bytes) (z : Bool) (s t : State), settHear 0x10 f aborted s = (some (p, z), t) →
     1 ≤ fieldBe p 3 1 → fieldBe p 3 1 ≤ 16 →
     (p.length = 8 → fieldBe p 2 1 = 0 →
       let r := fabReadN f.cls .sett (fieldBe p 4 4) (fieldBe p 3 1) t
       exec (.settRequest f aborted) s = .next (if r.1 = .silent then r.2.2 else
         settRespond f.src f.cls (fieldBe p 0 2) r.1 (if r.1 = .ok then r.2.1 else []) r.2.2)) ∧
     (p.length = 8 + 4 * fieldBe p 3 1 → fieldBe p 2 1 = 1 →
       let r := fabWriteN f.cls .sett (fieldBe p 4 4) ((List.range (fieldBe p 3 1)).map (fun k => fieldBe p (8 + 4 * k) 4)) t
       exec (.settRequest f aborted) s = .next (if r.1 = .silent then r.2 else settRespond f.src f.cls (fieldBe p 0 2) r.1 [] r.2))) ∧
   (∀ (f : SettFrame) (aborted : Bool) (p : Bytes) (z : Bool) (r : SettReq) (s t : State), settHear 0x11 f aborted s = (some (p, z), t) →
     t.isHead = true → fieldBe p 0 2 ≠ 0xFFFF → fieldBe p 2 1 ≠ 0 →
     t.sett.reqs.find? (fun q => q.tag == fieldBe p 0 2 && q.unit == f.src) = some r →
     exec (.settResponse f aborted) s = .next { t with sett := { t.sett with
       reqs := t.sett.reqs.filter (fun q => q.tag != fieldBe p 0 2),
       rsps := ((fieldBe p 0 2, fieldBe p 2 1, p.drop 4) :: t.sett.rsps).take 16 } }) ∧
   (∀ (f : SettFrame) (aborted : Bool) (p : Bytes) (z : Bool) (s t : State), settHear 0x12 f aborted s = (some (p, z), t) → t.isHead = true →
     exec (.ledgerRec f aborted) s = .next (if z then { t with sett := { t.sett with
       handed := t.sett.handed ++ [Rec.ofTail (p.take 40)], enumAt := some t.now } } else ledgerPut (Rec.ofTail (p.take 40)) t)) ∧
   (∀ (f : SettFrame) (aborted : Bool) (p : Bytes) (z : Bool) (s t : State), settHear 0x13 f aborted s = (some (p, z), t) → t.isHead = true →
     t.isActing = false → fieldBe p 0 2 ≠ 0x6106 →
     exec (.faultReport f aborted) s = .next (ledgerPut { t.mkRec 0x41 p with src := f.src } t)) ∧
   (∀ (f : SettFrame) (aborted : Bool) (p : Bytes) (z : Bool) (at_ : Nat) (g : SettFrame) (key : Bytes) (s t : State),
     settHear 0x14 f aborted s = (some (p, z), t) → fieldBe p 0 1 + 1 = t.unitNum →
     t.sett.sent.find? (fun q => q.2.ctr == fieldBe p 1 4 && t.within q.1 5000) = some (at_, g) → t.slotKey 2 = some key →
     settSealed g.typ = false → fieldBe p 1 4 ≠ 0 →
     exec (.retxFrame f aborted) s = .next (settSend g.typ false (if g.bc then f.src else g.dst) g.cls g.payload t)) ∧
   (∀ (f : SettFrame) (aborted : Bool) (p : Bytes) (z : Bool) (at_ : Nat) (g : SettFrame) (s t : State),
     settHear 0x15 f aborted s = (some (p, z), t) → fieldBe p 0 1 + 1 = t.unitNum → fieldBe p 5 1 = 0x10 →
     t.sett.sent.find? (fun q => q.2.ctr == fieldBe p 1 4 && q.2.typ == 0x10) = some (at_, g) →
     exec (.absentFrame f aborted) s = .next (reqComplete (fun r => r.tag == fieldBe g.payload 0 2) .off t)) ∧
   (∀ (down : Bool) (f : SettFrame) (s : State), s.sett.stored.find? (fun q => q.1 == down) = some (down, f) → s.runs = true → s.domOn .lnk = true → s.isIsolated .sett = false → (s.port down).opens down s.now = true →
     ∃ t, exec (.storedFrameForward down) s = .next t ∧ t.sett.forwarded = ((down, f) :: s.sett.forwarded).take 16 ∧
       (s.sett.late = [] → t.sett.stored = s.sett.stored.erase (down, f)) ∧ t.regs = s.regs ∧ t.queues = s.queues) ∧
   (∀ (down : Bool) (s : State), (s.port down).opens down s.now = false → exec (.storedFrameForward down) s = .next s) ∧
   (∀ (f : SettFrame) (aborted : Bool) (p : Bytes) (z : Bool) (s t : State), settHear 0x1B f aborted s = (some (p, z), t) → t.unitNum = 2 →
     t.isHead = false → fieldBe p 0 1 < 64 →
     exec (.fobCopy f aborted) s = .next (fobPageCheck (fieldBe p 0 1) (p.drop 1) { t with sett := { t.sett with
       fobCopy := (fieldBe p 0 1, p.drop 1) :: t.sett.fobCopy.filter (fun q => q.1 != fieldBe p 0 1) } })))

/-- R90, R91, R93: loss and splices. 50 ms of silence, or the loss of the upstream segment, end a unit's session role, or make unit 2 acting head; 200
µs of idle pattern start a splice; probe, replies, report and assignment follow; JOIN brings the unit into service; 20 ms without convergence are
fault 0x6105. -/
def Obligations.ChainSplice : Prop :=
  (∀ (up : Bool) (s : State), s.runs = true → s.isHead = false → s.isActing = false → s.unitNum ≠ 0 → s.sett.idleSent = false →
    s.sett.silenceDone = false → s.after s.sett.silenceAt 50000 = true →
    let u : State := { s with sett := { s.sett with silenceDone := true } }
    (s.unitNum = 2 → up = true ∨ s.bit Reg.SETT_STAT_UPUP = false → exec (.headSilenceTimeout up) s = .next (actingBegin u)) ∧
    (s.unitNum ≠ 2 ∨ up = false ∧ s.bit Reg.SETT_STAT_UPUP = true →
      ∃ t, exec (.headSilenceTimeout up) s = .next t ∧ t.sett.idleSent = true ∧ t.chron.steer = 0 ∧ t.sett.restricted = false ∧
        t.sett.probe = none)) ∧
  (∀ s : State, s.runs = true → s.isHead = false → s.isActing = false → s.unitNum ≠ 0 → s.sett.idleSent = false → s.silenceOver = false →
    exec (.headSilenceTimeout true) s = .next (headLost true s)) ∧
  (∀ (n : Bytes) (s t : State), s.runs = true → s.domOn .lnk = true → s.unitNum ≠ 0 → s.bit Reg.SETT_STAT_LAST = true →
    s.sett.restricted = false → randBytes false 8 s = (.bytes n, t) →
    let e := spliceEndNow t
    exec .idlePatternDetect s = .next (settSend0 0x16 false (t.unitNum + 1) .p1 n { e with sett := { e.sett with
      restricted := true, probe := some (n, t.now), replies := [], idleSeen := some t.now } })) ∧
  (∀ (f : SettFrame) (aborted : Bool) (p : Bytes) (s t : State), settHear 0x16 f aborted s = (some (p, true), t) → t.isHead = false →
    t.unitNum = 0 ∨ t.sett.idleSent = true →
    let u := settPass true f { t with sett := { t.sett with nonce := some (p.take 8) } }
    exec (.spliceProbe f aborted) s = .next (settSend0 0x17 false 1 .p1 (be 8 u.straps.serial ++ u.retainedDigest ++ p.take 8) u)) ∧
  (∀ (f : SettFrame) (aborted : Bool) (p n : Bytes) (at_ : Nat) (s t : State), settHear 0x17 f aborted s = (some (p, true), t) →
    t.sett.probe = some (n, at_) → sub p 40 8 = n → t.sett.replies.length < 16 →
    exec (.spliceReply f aborted) s = .next { t with sett := { t.sett with replies := t.sett.replies ++ [⟨fieldBe p 0 8, sub p 8 32⟩] } }) ∧
  (∀ (n : Bytes) (at_ : Nat) (s : State), s.sett.probe = some (n, at_) → s.after at_ 500 = true → s.isHead = false → s.sett.replies ≠ [] →
    exec .spliceCollectEnd s = .next (settSend 0x18 false 1 .p1 (n ++ s.sett.replies.flatMap (fun r => be 8 r.serial ++ r.digest))
      { s with sett := { s.sett with probe := none, replies := [] } })) ∧
  (∀ (f : SettFrame) (aborted : Bool) (p : Bytes) (z : Bool) (s t : State), settHear 0x18 f aborted s = (some (p, z), t) → t.isHead = true →
    exec (.spliceReport f aborted) s =
      .next (spliceServe f.src (p.take 8) ((List.range ((p.length - 8) / 40)).map (fun k => fieldBe p (8 + 40 * k) 8)) t)) ∧
  (∀ (serial n : Nat) (l : List Binding) (b : Binding), l.find? (fun b => b.serial == serial) = some b → b.num = n →
    numberFor serial l = some n) ∧
  (∀ (f : SettFrame) (aborted : Bool) (p : Bytes) (n : Nat) (s t : State), settHear 0x19 f aborted s = (some (p, true), t) → t.unitNum = 0 →
    t.isHead = false → t.isActing = false → t.sett.nonce = some (sub p 8 8) → assigned p t.straps.serial = some n → n < 32 →
    regsWf t.regs = true →
    ∃ u, exec (.spliceAssign f aborted) s = .next u ∧ u.unitNum = n ∧ u.bit Reg.SETT_STAT_QUAR = true ∧ u.sett.epoch = fieldBe p 0 8 ∧
      u.sett.assignedAt = some t.now) ∧
  (∀ (f : SettFrame) (aborted : Bool) (p : Bytes) (z : Bool) (s t : State), settHear 0x1A f aborted s = (some (p, z), t) → s.isHead = true →
    t.isHead = true → exec (.joinFrame f aborted) s = .next (joinTake f.src t)) ∧
  (∀ (at_ : Nat) (s : State), s.sett.assignedAt = some at_ → s.bit Reg.SETT_STAT_CONV = false → s.sett.convFault = false →
    s.after at_ 20000 = true →
    exec .convergeTimeout s = .next (raise 0x6105 0 { s with sett := { s.sett with convFault := true } }))

/-- R97, R98, R104 to R109, R118, R119, R121: a due slot of a scheduled poll is requested; a frame starts when its banks are ready, its demand and
charge fit and the other bank's request does not come first; it waits or is skipped when they do not; it ends with what its drives measured, OK
after its last part or OPEN. R99 to R101, R110, R121 to R124: supply conditions inhibit drive and let it come back after 10 ms; a short disables its
channel and ends its frame; a hot bridge stops until it is cool; a coil's test starts when it may and sets the drive frequency within 3 % of the
carrier; two retests passed in a row enable a channel. -/
def Obligations.FieldFramesAndSupply : Prop :=
  ((∀ (e : Nat) (p : PollE) (s : State), s.pollE e = some p →
     s.lastSlot e = none ∨ (∃ t, s.lastSlot e = some t ∧ t * 1000 + p.period * 4194304 ≤ s.chron.count.toNat * 1000) →
     p.profile = s.profile → p.unit = s.unitNum → s.lf.bad.contains e = false → s.runs = true →
     let t := { s with lf := { s.lf with slots := (e, s.chron.count.toNat) :: s.lf.slots.filter (fun x => x.1 != e) } }
     exec (.pollSlot e) s = .next (lfRequest (t.lfReq (.poll e) p) t)) ∧
   (∀ (e : Nat) (s : State), s.queues.length = 23 →
     ∃ t, exec (.pollSkipDeadline e) s = .next t ∧
       (∀ b, b < 2 → (t.queue (.bank b)).items = (s.queue (.bank b)).items.filter (fun i => !pollOverdue s e i)) ∧ t.lf = s.lf) ∧
   (∀ (b : Nat) (i : QItem) (r : LfReq) (s : State), s.bankFront b = some i → i.work = .lf r →
     let t := bankTake b i s
     (∀ res, s.lfRefusal r = some res → exec (.lfFrameStart b) s = .next (lfDone r res [] none t)) ∧
     (s.lfRefusal r = none → r.banks.all s.bankReady = true →
       (s.lfFits r = false ∨ s.givesWay b i = true → exec (.lfFrameStart b) s = .next s) ∧
       (s.lfFits r = true → s.givesWay b i = false → s.lfAffordable r = false →
         (∀ e, r.by_ = .poll e → exec (.lfFrameStart b) s = .next (t.count Reg.LF_SKIP_V 1)) ∧
         ((∀ e, r.by_ ≠ .poll e) → exec (.lfFrameStart b) s = .next s)) ∧
       (s.lfFits r = true → s.givesWay b i = false → s.lfAffordable r = true → exec (.lfFrameStart b) s = .next (lfStart i.cls r t)))) ∧
   (∀ (c : Nat) (run : LfRun) (s : State), s.runOn c = some run → run.startAt + periodTicks run.req.periods ≤ s.now →
     exec (.lfFrameEnd c []) s = .next (lfEnd run .ok [] s)) ∧
   (∀ (c : Nat) (run : LfRun) (m : DriveMeas) (s : State), s.runOn c = some run → run.req.owned.contains m.ch = true →
     let t := ipkReport m.ch (run.req.currentOf m.ch) m.ipk m.full s
     (m.full = true → m.ipk * 10 < run.req.currentOf m.ch →
       exec (.lfFrameEnd c [m]) s = .next (lfEnd run .open_ [(m.ch, m.ipk)] (disableChannel m.ch 0x2101 t))) ∧
     (m.full = false ∨ run.req.currentOf m.ch ≤ m.ipk * 10 → run.startAt + periodTicks run.req.periods ≤ s.now →
       exec (.lfFrameEnd c [m]) s = .next (lfEnd run .ok [(m.ch, m.ipk)] t))) ∧
   (∀ (c : Nat) (x : CtRun) (h : CoilE) (m : DriveMeas) (s : State), s.runOn h.channel = none → s.lf.ct = some x → s.holder = some h →
     m.ch = h.channel → c = h.channel →
     let t := ipkReport c (min h.current 50) m.ipk m.full { s with lf := { s.lf with ct := some { x with seen := true } } }
     exec (.lfFrameEnd c [m]) s =
       .next (if coilOpen (min h.current 50) m.ipk m.full = true then ctOver .open_ (disableChannel c 0x2101 t) else t)) ∧
   (∀ (b : Nat) (s : State), s.profile ≤ 1 → s.domOn (bankDom b) = true → s.lf.ct = none → s.lf.runs = [] → s.lf.test = none →
     (s.queue (.bank b)).items = [] → s.after (s.bank b).usedAt 10000 = true → exec (.bankIdleOff b) s = .next (bankOff b s)) ∧
   (∀ (b : Nat) (s : State), 2 ≤ s.profile → exec (.bankIdleOff b) s = .next s)) ∧
  ((∀ (at_ : Nat) (s : State), s.lf.boostAt = some at_ → s.after at_ 2000 = true → s.power.vlf < 8000 →
     exec .boostTimeout s = .next (fieldStop .inhibit
       (lfInhibit (raise 0x2108 s.power.vlf { s with lf := { s.lf with boostAt := none, boostFail := true } })))) ∧
   (∀ (vbat : Nat) (s : State), regsWf s.regs = true →
     ∃ t, exec (.vbatBoostThreshold vbat) s = .next t ∧
       t.bit Reg.LF_STAT_BOOST = ((s.domOn .lfa || s.domOn .lfb) && decide (0 < vbat ∧ vbat < 16000)) ∧ t.powAon.vbat = vbat) ∧
   (∀ (vbat vlf : Nat) (gate : Bool) (s : State), 36000 < vbat ∨ vlf < 7500 ∨ 40500 < vlf ∨ gate = false →
     exec (.driveInhibit vbat vlf gate) s = .next (fieldStop .inhibit (lfInhibit (measured vbat vlf gate s)))) ∧
   (∀ (vbat vlf : Nat) (gate : Bool) (s : State), vbat ≤ 35000 → 8000 ≤ vlf → vlf ≤ 40000 → gate = true → regsWf s.regs = true →
     (∀ a, s.lf.allowSince = some a → s.after a 10000 = true →
       ∃ t, exec (.driveAllow vbat vlf gate) s = .next t ∧ t.bit Reg.LF_STAT_INH = false ∧ t.lf.inhSince = none ∧ t.lf.runs = s.lf.runs) ∧
     (s.lf.allowSince = none →
       ∃ t, exec (.driveAllow vbat vlf gate) s = .next t ∧ t.bit Reg.LF_STAT_INH = s.bit Reg.LF_STAT_INH ∧ t.lf.allowSince = some s.now)) ∧
   (∀ s : State, s.bit Reg.LF_STAT_INH = false → s.lf.runs = [] → s.lf.test = none → regsWf s.regs = true →
     (lfInhibit s).bit Reg.LF_STAT_INH = true ∧ (lfInhibit s).lf.inhSince = some s.now) ∧
   (∀ (at_ : Nat) (s : State), s.lf.inhSince = some at_ → s.lf.inhFault = false → s.after at_ 1000000 = true →
     exec .inhibitLong s = .next (raise 0x2107 0 { s with lf := { s.lf with inhFault := true } })) ∧
   (∀ (c : Nat) (g : Bool) (s : State),
     let code := if g then 0x2103 else 0x2102
     let res : LfResult := if g then .shortGnd else .shortVbat
     let t := testStop (fun r => r.ch == c) res (disableChannel c code s)
     (∀ run, s.runOn c = some run → (lfEnd run res [] t).lf.ct = none → exec (.bridgeShort c g) s = .next (lfEnd run res [] t)) ∧
     (s.runOn c = none → t.lf.ct = none → exec (.bridgeShort c g) s = .next (t.put (Reg.LF_CH_STAT_LAST c) res.code))) ∧
   (∀ (c : Nat) (s : State),
     let u := { s with lf := { s.lf with chs := s.lf.chs.modify c (fun x => { x with hot := true }) } }
     let t := testStop (fun r => r.ch == c) .overtemp (raise 0x2104 c (u.count (Reg.LF_CH_STAT_NFLT c) 1))
     (s.runOn c = none → t.lf.ct = none → exec (.bridgeOvertemp c) s = .next t) ∧
     (s.runOn c = none → t.lf.ct.isSome = true → (t.holder.map (·.channel)) = some c → exec (.bridgeOvertemp c) s = .next (ctOver .overtemp t)) ∧
     (∀ run, s.runOn c = some run → (lfEnd run .overtemp [] t).lf.ct = none → exec (.bridgeOvertemp c) s = .next (lfEnd run .overtemp [] t)) ∧
     exec (.bridgeCool c) s = .next { s with lf := { s.lf with chs := s.lf.chs.modify c (fun x => { x with hot := false }) } }) ∧
   (∀ (i : QItem) (c : Nat) (rest : List Nat) (m : CoilMeas) (s : State), s.bankFront 0 = some i → i.work = .coils (c :: rest) →
     s.testRefusal c = none → s.bankReady 0 = true →
     (s.diagFits c (16, 10) = true → s.givesWay 0 i = false →
       exec (.coilTest m) s = .next (testStart c i.cls (.full m) (coilsNext 0 i rest s))) ∧
     (s.diagFits c (16, 10) = false ∨ s.givesWay 0 i = true → s.bankFront 1 = none → exec (.coilTest m) s = .next s)) ∧
   (∀ (r : TestRun) (m : CoilMeas) (s : State), s.lf.test = some r → r.test = .full m → s.after r.startAt 1500 = true →
     fieldTick s = repliesTick (fullDone r.ch m (testRelease s))) ∧
   (∀ (c : Nat) (m : CoilMeas) (s : State), c < 16 → regsWf s.regs = true → 121250 ≤ m.fres → m.fres ≤ 128750 →
     (setResonance c m s).get (Reg.LF_CH_CFG_FDRV c) = m.fres ∧ (setResonance c m s).get (Reg.LF_CH_RES_FRES c) = m.fres ∧
     (setResonance c m s).bit (Reg.LF_CH_STAT_DETUNE c) = false) ∧
   (∀ s : State, s.profile ≤ 1 → s.after s.lf.test24At 86400000000 = true →
     exec .coilTest24h s = .next (askTests (List.range 16) .p1 .session { s with lf := { s.lf with test24At := s.now } }).2) ∧
   (∀ (passed : List Nat) (s : State),
     ∃ t, exec (.disabledRetest passed) s = .next t ∧
       t.lf.retests = s.lf.retests ++ ((List.range 16).filter s.retestDue).map (fun c => (c, passed.contains c)) ∧
       t.regs = s.regs ∧ t.queues = s.queues) ∧
   (∀ (c : Nat) (s : State), s.disabled c = true →
     ((s.lf.chs.getD c LfCh.init).passes = 1 → (retestDone c true s).lfAon.disabled = s.lfAon.disabled - 2 ^ c) ∧
     ((s.lf.chs.getD c LfCh.init).passes = 0 → (retestDone c true s).lfAon = s.lfAon) ∧
     (retestDone c false s).lfAon = s.lfAon))

/-- R104: whatever frame or coil test starts, at most three channels drive at once and their currents sum to at most 6.00 A. -/
def Obligations.FieldPeakLimit : Prop :=
  ∀ (b : Nat) (m : CoilMeas) (s t : State), s.demand.1 ≤ 3 → s.demand.2 ≤ 600 →
    exec (.lfFrameStart b) s = .next t ∨ exec (.coilTest m) s = .next t →
    t.demand.1 ≤ 3 ∧ t.demand.2 ≤ 600

/-- R106, R125 to R129: a coupled exchange waits for every drive to end and then owns every fitted channel and sends SELECT; each outcome of the ID and
of the RESPONSE ends it with its result, and an answer in time that matches ends it OK. -/
def Obligations.CoupledExchange : Prop :=
  (∀ (i : QItem) (h : CoilE) (s : State), s.holder = some h → s.bankFront (bankOf h.channel) = some i → i.isCoupled = true →
    (s.inhibited = true → exec .coupledExchangeStart s = .next (ctRefused .inhibit (bankTake (bankOf h.channel) i s))) ∧
    (s.inhibited = false → s.bankShed (bankOf h.channel) = false → s.coupledOn = true → s.usable h.channel = true →
      s.isIsolated (bankBlock (bankOf h.channel)) = false → s.isIsolated .ct = false → s.isIsolated .lfCommon = false →
      s.bankReady (bankOf h.channel) = true →
      (s.lf.runs ≠ [] → exec .coupledExchangeStart s = .next s) ∧
      (s.ctFits h = true → s.givesWay (bankOf h.channel) i = false → regsWf s.regs = true →
        ∃ t, exec .coupledExchangeStart s = .next t ∧ t.bit Reg.LF_CT_STAT_BUSY = true ∧ t.lf.runs = s.lf.runs ∧
          t.lf.ct = some ⟨s.now, .awaitId, s.now + periodTicks (625 + downLen ctSelectFrame), 0, 0xFF, [], [], false⟩ ∧
          t.lf.sent.head? = some (s.now, ctSelectFrame)))) ∧
  downLen ctSelectFrame = 452 ∧
  (∀ (delay : Nat) (bits : List Bool) (c : CtRun) (s : State), s.lf.ct = some c → c.phase = .awaitId →
    (delay < 56 ∨ 72 < delay → ∀ ok, exec (.ctIdReceived delay ok bits) s = .next (ctOver .noReply s)) ∧
    (56 ≤ delay → delay ≤ 72 → exec (.ctIdReceived delay false bits) s = .next (ctOver .uplink s)) ∧
    (56 ≤ delay → delay ≤ 72 → bits.length ≠ 43 → exec (.ctIdReceived delay true bits) s = .next (ctOver .uplink s)) ∧
    (56 ≤ delay → delay ≤ 72 → ∀ d, uplink 4 true bits = some d → (s.put Reg.LF_CT_FOB_V (fieldBe d 0 4)).fobOf (fieldBe d 0 4) = none →
      exec (.ctIdReceived delay true bits) s = .next (ctOver .unknownFob (s.put Reg.LF_CT_FOB_V (fieldBe d 0 4)))) ∧
    (56 ≤ delay → delay ≤ 72 → ∀ d n f key ch u, uplink 4 true bits = some d →
      (s.put Reg.LF_CT_FOB_V (fieldBe d 0 4)).fobOf (fieldBe d 0 4) = some n →
      (s.put Reg.LF_CT_FOB_V (fieldBe d 0 4)).activeFob n = some f → (s.put Reg.LF_CT_FOB_V (fieldBe d 0 4)).ctKey f = some key →
      randBytes false 16 (s.put Reg.LF_CT_FOB_V (fieldBe d 0 4)) = (.bytes ch, u) →
      let w := if u.bit Reg.LF_CT_STAT_LEG = true then u else volPut ⟨.kCt, n, key⟩ u
      exec (.ctIdReceived delay true bits) s = .next (lfSent (ctChallengeFrame ch) { w with lf := { w.lf with ct := some { c with
        phase := .awaitResponse, from_ := s.now + periodTicks (64 + downLen (ctChallengeFrame ch)), fob := f.fobId, record := n,
        challenge := ch, expected := (cmac key ch).take 8 } } }))) ∧
  (∀ (delay : Nat) (bits : List Bool) (c : CtRun) (s : State), s.lf.ct = some c → c.phase = .awaitResponse →
    (delay < 56 ∨ 1750 < delay → ∀ ok, exec (.ctResponseReceived delay ok bits) s = .next (ctOver .noReply s)) ∧
    (1500 < delay → delay ≤ 1750 → ∀ ok, exec (.ctResponseReceived delay ok bits) s = .next (ctOver .late s)) ∧
    (56 ≤ delay → delay ≤ 1500 → exec (.ctResponseReceived delay false bits) s = .next (ctOver .uplink s)) ∧
    (56 ≤ delay → delay ≤ 1500 → uplink 8 true bits = some c.expected →
      exec (.ctResponseReceived delay true bits) s = .next (ctOver .ok s)) ∧
    (56 ≤ delay → delay ≤ 1500 → ∀ d, uplink 8 true bits = some d → d ≠ c.expected →
      exec (.ctResponseReceived delay true bits) s = .next (ctOver .mismatch s))) ∧
  (∀ (c : CtRun) (s : State), s.lf.ct = some c →
    (c.phase = .awaitId → c.from_ + periodTicks 72 < s.now → exec .ctReplyTimeout s = .next (ctOver .noReply s)) ∧
    (c.phase = .awaitResponse → c.from_ + periodTicks 1750 < s.now → exec .ctReplyTimeout s = .next (ctOver .noReply s)) ∧
    (s.after c.startAt 200000 = true → exec .ctDriveCap s = .next (ctOver .timeout s)) ∧
    (s.after c.startAt 200000 = false → exec .ctDriveCap s = .next s)) ∧
  (∀ (res : LfResult) (s : State), (ctRelease res s).lf.ct = none)

/-- R135, R141 to R144, R156: a request holds a free lane and moves it towards SYNTH, or ends SHED; the checks passed bring it to SYNTH, a calibrating
move with the lane's temperature; a lane not locked in twice its time is calibrated again, at most twice, then isolated with fault 0x3101; lock lost
in RX or TX ends the operation UNLOCK. R138, R140, R143, R148 to R150, R154, R155, R165, R166: in FRUGAL and WELCOME an idle lane sleeps after 2 ms
and loses its domain after 10 ms more; the calibration ends with a change of more than 15 °C, and in ROAD with 60 s of age; a loopback out of limits
three times isolates the lane; a detection followed by its turn chooses the aerial, one without ends LOST, and a class is declared only above its
threshold. -/
def Obligations.LaneStates : Prop :=
  ((∀ (sel chan : Nat) (cls : Cls) (s : State), s.airShed = true →
     exec (.laneRequest sel cls chan) s = .next (s.put (Reg.AIR_LN_STAT_LAST (if sel = 1 then 1 else 0)) 8)) ∧
   (∀ (chan : Nat) (cls : Cls) (s : State), s.airShed = false → s.barred chan = false → s.isIsolated .lane0 = false → s.laneFitted 0 = true →
     (s.lane 0).held = none → exec (.laneRequest 0 cls chan) s = .next (laneHold 0 cls chan s)) ∧
   (∀ (n chan : Nat) (cls : Cls) (s : State), n < 2 → s.air.lanes.length = 2 →
     ((laneHold n cls chan s).lane n).held = some cls ∧ ((laneHold n cls chan s).lane n).rx = none ∧
       (laneHold n cls chan s).lane (1 - n) = s.lane (1 - n) ∧ (laneHold n cls chan s).queues = s.queues) ∧
   (∀ (n : Nat) (temp : Int) (coefs : List Bool) (st : Settle) (s : State), n < 2 → s.air.lanes.length = 2 → regsWf s.regs = true →
     (s.lane n).settle = some st → (s.lane n).wantRx = none → (s.lane n).pend = none → st.maxUs ≠ 12 ∨ s.after st.at_ 12 = true →
     coefs.headD true = true →
     ∃ t, exec (.synthLocked n temp coefs) s = .next t ∧ (t.lane n).settle = none ∧ t.laneState n = 2 ∧ t.bit (Reg.AIR_LN_STAT_LOCK n) = true ∧
       (st.cold = true → t.bit (Reg.AIR_LN_STAT_CALV n) = true ∧ (t.lane n).calAt = some s.now ∧ (t.lane n).temp = temp)) ∧
   (∀ (n : Nat) (temp : Int) (coefs : List Bool) (st : Settle) (s : State), (s.lane n).settle = some st → st.maxUs = 12 →
     s.after st.at_ 12 = false → exec (.synthLocked n temp coefs) s = .next s) ∧
   (∀ (n : Nat) (st : Settle) (s : State), (s.lane n).settle = some st → s.after st.at_ (st.lead + 2 * st.maxUs) = true →
     (st.tries < 2 → exec (.lockCheckTimeout n) s = .next ((recomputes (laneBlock n) (s.setBit (Reg.AIR_LN_STAT_CALV n) false)).setLane n
       { s.lane n with settle := some { st with at_ := s.now, lead := 0, maxUs := 220, cold := true, tries := st.tries + 1 } })) ∧
     (2 ≤ st.tries → exec (.lockCheckTimeout n) s = .next (reportFault (laneBlock n) 0x3101 n
       (laneDrop n .noLock ((s.setLane n { s.lane n with settle := none }).put (Reg.AIR_LN_STAT_STATE n) 1))))) ∧
   (∀ (n : Nat) (s : State), s.laneState n = 3 ∨ s.laneState n = 4 →
     let t := laneDrop n .unlock ((s.setBit (Reg.AIR_LN_STAT_LOCK n) false).put (Reg.AIR_LN_STAT_STATE n) 1)
     let u := raise 0x3104 n (t.setLane n { t.lane n with settle := some ⟨s.now, 0, 220, true, 2, true⟩ })
     exec (.lockLost n) s = .next (if (escMismatch (laneBlock n) u).1 = true then isolate (laneBlock n) 0x3104 (escMismatch (laneBlock n) u).2
       else (escMismatch (laneBlock n) u).2)) ∧
   (∀ (n : Nat) (s : State), s.laneState n ≠ 3 → s.laneState n ≠ 4 → exec (.lockLost n) s = .next s)) ∧
  ((∀ (n : Nat) (s : State), s.profile ≤ 1 → (s.lane n).held = none → (s.lane n).search = false → (s.lane n).rx = none →
     (s.lane n).txEnd = none → (s.lane n).settle = none → (s.lane n).loop = none → s.domOn (laneDom n) = true → s.laneState n ≠ 0 →
     s.after (s.lane n).lastOp 2000 = true →
     exec (.laneIdleSleep n) s = .next ((((s.setLane n { s.lane n with sleptAt := s.now, wantRx := none, turn := none }).put
       (Reg.AIR_LN_STAT_STATE n) 0).setBit (Reg.AIR_LN_STAT_LOCK n) false).put (Reg.AIR_LN_STAT_CHAN n) 0)) ∧
   (∀ (n : Nat) (s : State), n < 2 → regsWf s.regs = true → s.profile ≤ 1 → s.domOn (laneDom n) = true → s.laneState n = 0 →
     (s.lane n).settle = none → (s.lane n).held = none → s.after (s.lane n).sleptAt 10000 = true →
     ∃ t, exec (.laneDomainOff n) s = .next t ∧ t.domOn (laneDom n) = false ∧ t.bit (Reg.AIR_LN_STAT_CALV n) = false ∧ t.laneState n = 0 ∧
       t.domOn (laneDom (1 - n)) = s.domOn (laneDom (1 - n)) ∧ (s.domOn (laneDom (1 - n)) = false → t.domOn .fox = false)) ∧
   (∀ (n : Nat) (temp : Int) (s : State), s.domOn (laneDom n) = true → s.after (s.lane n).tempAt 10000 = true → s.refBad = false →
     let t := enterSamples [temp] (s.setLane n { s.lane n with temp := temp, tempAt := s.now })
     (∀ a, (s.lane n).calAt = some a → 1500 < (temp - toInt 16 (s.get (Reg.AIR_LN_CAL_TCAL n))).natAbs →
       exec (.laneTempSample n temp) s = .next (t.setBit (Reg.AIR_LN_STAT_CALV n) false)) ∧
     ((temp - toInt 16 (s.get (Reg.AIR_LN_CAL_TCAL n))).natAbs ≤ 1500 → exec (.laneTempSample n temp) s = .next t)) ∧
   (∀ (n a : Nat) (s : State), s.profile = 3 → (s.lane n).calAt = some a → s.after a 60000000 = true →
     exec (.calAgeExpiry n) s = .next (s.setBit (Reg.AIR_LN_STAT_CALV n) false)) ∧
   (∀ (n : Nat) (s : State), s.profile ≠ 3 → exec (.calAgeExpiry n) s = .next s) ∧
   (∀ (n : Nat) (m : LoopMeas) (s : State), 2 ≤ s.laneState n → (s.lane n).settle = none → s.bit (Reg.AIR_LN_STAT_LOCK n) = true →
     (s.lane n).txEnd = none → (s.lane n).loop = none → (s.lane n).rx = none →
     exec (.loopback n m) s = .next (s.setLane n { s.lane n with
       loop := some ⟨s.airAbs, m⟩, turn := some (5, s.airAbs + airTenths 20), rx := none, wantRx := (s.lane n).wantRx })) ∧
   (∀ (n : Nat) (r : LoopRun) (s : State),
     let t := s.setLane n { s.lane n with loop := none, turn := some (2, s.airAbs + airTenths 20), txFrom := s.airAbs + airTenths 80 }
     (∀ d, r.meas.attempts.head? = some d → d.natAbs ≤ 60 → t.exOn n = none → loopEnd n r s = laneResult n .ok t) ∧
     (∀ a b c, r.meas.attempts = [a, b, c] → 60 < a.natAbs → 60 < b.natAbs → 60 < c.natAbs →
       loopEnd n r s = reportFault (laneBlock n) 0x3103 n (laneDrop n .fault (recomputes (laneBlock n) t)))) ∧
   (∀ (n : Nat) (m : SyncMeas) (w : RxWin) (d cls : Nat) (s : State), n < 2 → s.air.lanes.length = 2 → regsWf s.regs = true →
     (s.lane n).rx = some w → w.detected = none → s.laneState n = 3 →
     detectFrom (if s.searchAerial n = 1 then m.noiseB else m.noiseA) m.syms = some (d, cls) →
     (∀ k, turnAfter cls d m.syms = some k →
       ∃ t, exec (.syncDetect n m) s = .next t ∧ (t.lane n).rx = some { w with detected := some cls } ∧
         (s.soleAerial n = none → t.get (Reg.AIR_LN_STAT_AER n) = (rxDiversity (s.lane n).gain cls d k m).aerial)) ∧
     (turnAfter cls d m.syms = none →
       ∃ t, exec (.syncDetect n m) s = .next t ∧ (t.lane n).rx = some w ∧ t.get (Reg.AIR_LN_RXLAST_STATUS n) = 8)) ∧
   (∀ (noise : Rat) (l : List ShortSym) (cls : Nat), declared noise l = some cls → threshold noise < (bestCode (codeSums l)).2) ∧
   (∀ (g cls d t : Nat) (m : SyncMeas), (rxDiversity g cls d t m).aerial = 1 ↔
     (rxDiversity g cls d t m).settledB = true ∧ (rxDiversity g cls d t m).qA + 4 ≤ (rxDiversity g cls d t m).qB))

/-- R133, R134, R136, R145 to R147: a transmit command is queued on channel 14, or refused TX_BUSY beside another, or cancelled TX_LATE after its start
less 6 µs; a frame leaves at the first sample at or after its time, never before the checks have passed, nor while a detected frame is being
received; a window without a detection ends NO_DETECT. -/
def Obligations.LaneCommands : Prop :=
  (∀ (n : Nat) (c : TxCmd) (s : State), s.laneFitted n = true → s.airShed = false → s.isIsolated (laneBlock n) = false →
    ((s.lane n).pend.isSome = true → exec (.txCommand n c) s =
      .next ((s.put (Reg.AIR_LN_STAT_LAST n) 3).count (Reg.AIR_LN_TXCNT_BUSY n) 1)) ∧
    ((s.lane n).pend = none → (AirHdr.of c.frame.hdr).typ < 4 ∨ 7 < (AirHdr.of c.frame.hdr).typ →
      exec (.txCommand n c) s = .next (laneTx n c (laneMove n 14 s)).2)) ∧
  (∀ (n t0 : Nat) (c : TxCmd) (s : State), (s.lane n).pend = none → c.start = some t0 →
    (s.airReached (t0 + 2 ^ 40 - 235929) = true → s.airNow ≠ (t0 + 2 ^ 40 - 235929) % 2 ^ 40 →
      laneTx n c s = (false, (s.put (Reg.AIR_LN_STAT_LAST n) 2).count (Reg.AIR_LN_TXCNT_LATE n) 1)) ∧
    (s.airReached (t0 + 2 ^ 40 - 235929) = false → n < 2 → s.air.lanes.length = 2 →
      (laneTx n c s).1 = true ∧ (laneTx n c s).2.air.out = s.air.out ∧
        ∃ w, ((laneTx n c s).2.lane n).pend = some { c with aerial := s.fitAerial n c.aerial, listen := w } ∧
          (∀ x, c.listen = some x → w = some x))) ∧
  (∀ (n : Nat) (s : State), (s.lane n).pend = none → exec (.txStart n) s = .next s) ∧
  (∀ (n : Nat) (c : TxCmd) (s : State), (s.lane n).pend = some c → s.txMissed n = false →
    (s.airAbs < s.txFirst n c → exec (.txStart n) s = .next s) ∧
    (s.overhears = false →
      (s.lane n).settle.isSome = true ∨ s.bit (Reg.AIR_LN_STAT_LOCK n) = false ∨ (s.lane n).txEnd.isSome = true ∨
        ((s.lane n).rx.bind (·.detected)).isSome = true → exec (.txStart n) s = .next s) ∧
    (s.txFirst n c ≤ s.airAbs → s.overhears = false → (s.lane n).settle = none → s.bit (Reg.AIR_LN_STAT_LOCK n) = true →
      (s.lane n).txEnd = none → (s.lane n).loop = none → (s.lane n).rx.bind (·.detected) = none →
      exec (.txStart n) s = .next (pollEmitted n c.frame c.aerial (s.txFirst n c) (laneEmit n c s)))) ∧
  (∀ (n t0 : Nat) (c : TxCmd) (s : State), c.start = some t0 → s.txFirst n c % 64 = 0 ∧ s.airOf t0 ≤ s.txFirst n c ∧
    s.txFirst n c < s.airOf t0 + 64) ∧
  (∀ (n : Nat) (c : TxCmd) (s : State), n < 2 → s.air.lanes.length = 2 →
    (laneEmit n c s).air.out.head? =
      some ⟨n, c.aerial, s.get (Reg.AIR_LN_STAT_CHAN n), c.frame, c.range, s.txFirst n c, s.shaping n, none⟩ ∧
    ((laneEmit n c s).lane n).pend = none ∧
    ((laneEmit n c s).lane n).txEnd = some (s.txFirst n c + (AirHdr.of c.frame.hdr).units * airUnit)) ∧
  (∀ (n t0 : Nat) (s : State), (s.lane n).pend.bind (·.start) = some t0 →
    ((s.lane n).settle.isSome = true ∨ s.bit (Reg.AIR_LN_STAT_LOCK n) = false → s.airReached (t0 + 2 ^ 40 - airTenths 60) = true →
      exec (.txLateDeadline n) s = .next (foxLane n (laneResult n .txLate (s.setLane n { s.lane n with pend := none })))) ∧
    ((s.lane n).settle = none → s.bit (Reg.AIR_LN_STAT_LOCK n) = true → s.txMissed n = false → exec (.txLateDeadline n) s = .next s)) ∧
  (∀ (n w : Nat) (s : State), n < 2 → s.air.lanes.length = 2 → s.laneFitted n = true → s.airShed = false → s.isIsolated (laneBlock n) = false →
    ((s.lane n).settle = none → s.bit (Reg.AIR_LN_STAT_LOCK n) = true → (s.lane n).txEnd = none → (s.lane n).loop = none →
      ∃ t, exec (.rxCommand n (some w)) s = .next t ∧ (t.lane n).rx = some ⟨some (s.airAbs + w), none⟩ ∧ (t.lane n).wantRx = none ∧
        t.queues = s.queues) ∧
    ((s.lane n).settle.isSome = true ∨ (s.lane n).txEnd.isSome = true →
      exec (.rxCommand n none) s = .next (s.setLane n { s.lane n with wantRx := some (s.airAbs, none) }))) ∧
  (∀ (n u : Nat) (s : State), (s.lane n).rx = some ⟨some u, none⟩ →
    (s.airAbs < u → exec (.rxWindowEnd n) s = .next s) ∧
    (u ≤ s.airAbs → exec (.rxWindowEnd n) s = .next (laneDone n (windowOver n s)))) ∧
  (∀ (n : Nat) (s : State), n < 2 → s.air.lanes.length = 2 → regsWf s.regs = true →
    ((windowOver n s).lane n).rx = none ∧ (windowOver n s).get (Reg.AIR_LN_STAT_LAST n) = 6 ∧ (windowOver n s).laneState n = 2)

/-- R172, R175, R178, R179: a header word gives back the fields it was made from and its HCRC holds; the scrambler undoes itself; a sealed frame whose
counter lies at most 255 above the last accepted opens to its payload under the key it was sealed with, and one without a key, or whose counter lies
further away, does not open. -/
def Obligations.AirFrameRoundTrip : Prop :=
  (∀ h : AirHdr, h.typ < 32 → h.cls < 8 → h.len < 2048 → h.seq < 256 → h.src < 256 → h.dst < 256 → h.flags < 32 →
    AirHdr.of h.word = h ∧ hdrOk h.word = true) ∧
  (∀ (seq : Nat) (bits : List Bool), scramble seq (scramble seq bits) = bits) ∧
  (∀ (h : AirHdr) (key payload : Bytes) (fob dir last ctr endAt clip : Nat) (adv : Cx) (train pilots : List (List Cx)) (parity : List Nat),
    h.typ < 32 → h.cls < 8 → h.len = payload.length → h.len < 2048 → h.seq = ctr % 256 → h.src < 256 → h.dst < 256 → h.flags < 32 →
    h.typ ≠ 4 → h.typ ≠ 5 →
    let r : AirRx := ⟨airFrame h (some key) fob dir ctr payload, endAt, adv, train, pilots, parity, clip⟩
    (last < ctr → ctr ≤ last + 255 → openSealed (some key) fob dir last r = (.ok, ctr, payload)) ∧
    (openSealed none fob dir last r = (.noKey, last, [])) ∧
    (ctr % 256 = last % 256 → openSealed (some key) fob dir last r = (.replay, last, [])))

/-- R173, R184, R186: the receive checks in the order of Table 7-9: HCRC, CLASS, TYPE, address, a cell fault, tracking, CRC-32C, the T of a WAKE_REPLY;
the first that fails gives the status. -/
def Obligations.AirReceiveChecks : Prop :=
  ∀ (me cls : Nat) (r : AirRx),
    let h := AirHdr.of r.frame.hdr
    let b := r.frame.body
    let whole := b.length = h.len + 4 + (if h.sec then 8 else 0) ∧ fieldBe b (b.length - 4) 4 = crc32c (b.take (b.length - 4))
    (hdrOk r.frame.hdr = false → rxChecks me cls false r = .hdrCrc) ∧
    (hdrOk r.frame.hdr = true →
      (h.cls ≠ cls → rxChecks me cls false r = .cls) ∧
      (h.cls = cls →
        (typeOk h = false → rxChecks me cls false r = .type) ∧
        (typeOk h = true →
          (h.dst ≠ me → h.dst ≠ 0 → h.dst ≠ 0xFF → rxChecks me cls false r = .notAddressed) ∧
          (h.dst = me ∨ h.dst = 0 ∨ h.dst = 0xFF →
            (r.cellOk = false → rxChecks me cls false r = .escort) ∧
            (r.cellOk = true → r.tracked = false → rxChecks me cls false r = .lost) ∧
            (r.cellOk = true → r.tracked = true → h.typ = 4 ∨ h.typ = 5 → rxChecks me cls false r = .ok) ∧
            (r.cellOk = true → r.tracked = true → h.typ ≠ 4 → h.typ ≠ 5 →
              (¬ whole → rxChecks me cls false r = .pcrc) ∧
              (whole → h.typ = 1 → fieldBe b 7 1 % 32 ≠ fieldBe b 8 1 → rxChecks me cls false r = .type) ∧
              (whole → h.typ ≠ 1 → rxChecks me cls false r = .ok))))))

/-- R208: an exchange is accepted exactly where its report names it with status OK, every reply is consistent and of quality 48 or more at both ends,
every turnaround lies within 0.5 µs, the two clock ratios within 0.5 ppm, every time of flight in -40 to 13,116 air ticks, and, for the stitched
grades, the passes within 39 air ticks, the joins within a twelfth of a turn and the offset within 20 air ticks; for GUARD the angles in view within
10°. -/
def Obligations.FoxAcceptsExactly : Prop :=
  ∀ (ex : Exch) (rep : RangeRep) (c : FoxCalc) (sm : StitchMeas),
    foxChecks ex rep c sm = .ok ↔
      rep.exch = ex.q1 % 65536 ∧ rep.n = passesOf ex.grade ∧ rep.status = 0 ∧ (∀ m ∈ ex.replies, m.spread ≤ 19) ∧
      (∀ m ∈ ex.replies, 48 ≤ m.quality) ∧ (∀ q ∈ rep.quals, 48 ≤ q) ∧
      (∀ t ∈ c.turns, absRat (t - ((rangeLen ex.cls + airTenths 300 : Nat) : Rat)) ≤ 196608 / 10) ∧
      absRat (c.rho - c.rhoCfo) ≤ 5 / 10000000 ∧ (∀ t ∈ c.tofs, -40 ≤ t ∧ t ≤ 13116) ∧
      (ex.grade ≠ 0 → maxRat c.tofs - minRat c.tofs ≤ 39 ∧ sm.join ≤ 1 / 12 ∧ absRat sm.delta ≤ 20) ∧
      (ex.grade = 2 → inView sm = true → maxRat sm.angles - minRat sm.angles ≤ 10)

/-- R191, R195, R199, R201, R213, R216, R217, R219, R220: a session that wants a fix starts an exchange at the next poll number with a seed of its own;
a reply brings the next pass or RANGE_FINAL; a report is opened, evaluated and delivered, or counted; silence ends the exchange NO_REPLY or
NO_REPORT; a listener reports once it has heard every pass. -/
def Obligations.FoxExchange : Prop :=
  (∀ (record : Nat) (x : Session) (s : State), s.sessionOf record = some x → s.wantsFix x = false →
    exec (.rangingExchange record) s = .next s) ∧
  (∀ (record : Nat) (x : Session) (s : State), s.sessionOf record = some x → s.wantsFix x = true → s.isIsolated .fox = false →
    s.exchangeLane x false = x.lane → s.exOn x.lane = none → (s.lane x.lane).pend = none → (exchangeStart x.lane x none s).1 = true →
    exec (.rangingExchange record) s = .next (exchangeStart x.lane x none s).2) ∧
  (∀ (n : Nat) (x : Session) (s : State), n < 2 → s.fox.ex.length = 2 → s.air.lanes.length = 2 → (exchangeStart n x none s).1 = true →
    ∃ ex c, (exchangeStart n x none s).2.exOn n = some ex ∧ ex.q1 = x.polls + 1 ∧ ex.record = x.record ∧ ex.pass = 0 ∧ ex.polls = [] ∧
      ex.seed = exchangeSeed (s.volKey x.record .kR) x.fobId (x.polls + 1) ∧
      ((exchangeStart n x none s).2.lane n).pend = some c ∧ c.range = some (ex.seed, 1) ∧ c.start.isSome = true) ∧
  (∀ (record : Nat) (g : GuardWait) (x : Session) (s : State), s.fox.pair.find? (fun g => g.record == record) = some g →
    s.sessionOf record = some x → [0, 1].any (fun n => (s.exOn n).any (fun e => e.record == record)) = false →
    exec (.guardSecondExchange record) s =
      .next (exchangeBegin (s.exchangeLane { x with lane := g.lane } true) x (some (airAdd g.at_ (airTenths 500))) s)) ∧
  (∀ (n : Nat) (r : AirRx) (m : RangeRx) (o : Overhear) (cls : Nat) (h : AirHdr) (s : State), s.ohOn n = some o →
    frameAt n 4 true r s = some (cls, h, .ok) → o.polls.length = o.replies.length → o.cls.getD cls = cls → o.own = true →
    exec (.rangePoll n r m) s = .next (setOh n (some { o with
      polls := o.polls ++ [s.rangeMeas n o.plan.seed (o.replies.length + 1) 4 false r m], cls := some cls }) (rxReport n cls r .ok s))) ∧
  (∀ (n : Nat) (r : AirRx) (m : RangeRx) (ex : Exch) (cls : Nat) (h : AirHdr) (s : State), s.exOn n = some ex →
    exchangeFrame n 5 ex r s = some (cls, h, .ok) → ex.finalAt = none →
    exec (.rangeReply n r m) s = .next
      (passOver n ex (s.rangeMeas n ex.seed (ex.pass + 1) 5 (ex.grade == 2) r m) (rxReport n cls r .ok s))) ∧
  (∀ (n : Nat) (r : AirRx) (m : RangeRx) (o : Overhear) (cls : Nat) (h : AirHdr) (s : State), s.exOn n = none → s.ohOn n = some o →
    frameAt n 5 true r s = some (cls, h, .ok) → o.replies.length < o.polls.length → o.cls = some cls →
    exec (.rangeReply n r m) s = .next (listenNext n { o with
      replies := o.replies ++ [s.rangeMeas n o.plan.seed (o.replies.length + 1) 5 false r m] } (rxReport n cls r .ok s))) ∧
  (∀ (n : Nat) (ex : Exch) (m : RangeMeas) (s : State),
    let e := replyEnd ex.cls m
    let ex' := { ex with replies := ex.replies ++ [m], pass := ex.pass + 1, aerial := some (ex.aerial.getD (s.get (Reg.AIR_LN_STAT_AER n))) }
    (ex.pass + 1 < passesOf ex.grade → (sendPoll n ex' (airAdd e (airTenths 250)) s).1 = true →
      passOver n ex m s = (sendPoll n ex' (airAdd e (airTenths 250)) s).2) ∧
    (passesOf ex.grade ≤ ex.pass + 1 → (sendFinal n ex' (airAdd e (airTenths 200)) s).1 = true →
      passOver n ex m s = (sendFinal n ex' (airAdd e (airTenths 200)) s).2)) ∧
  (∀ (n : Nat) (r : AirRx) (mismatches : Nat) (ex : Exch) (cls ctr : Nat) (h : AirHdr) (x : Session) (p : Bytes) (s : State),
    s.exOn n = some ex → exchangeFrame n 7 ex r s = some (cls, h, .ok) → s.sessionOf ex.record = some x → ex.finalAt.isSome = true →
    openSealed (some (s.volKey x.record .kS)) x.fobId 1 x.rxCtr r = (.ok, ctr, p) →
    let t := rxReport n cls r .ok (modifySession ex.record (fun y => { y with rxCtr := ctr, lastAt := s.now }) s)
    (mismatches = 0 → exec (.rangeReport n r mismatches) s = .next (exchangeJudge n ex (RangeRep.of p) r.endAt t)) ∧
    (2 < mismatches → exec (.rangeReport n r mismatches) s = .next (foxEscort n ex (recomputes .fox t)))) ∧
  (∀ (n : Nat) (ex : Exch) (rep : RangeRep) (endAt : Nat) (s : State), airDiff rep.finalAt (rep.polls.headD 0) ≠ 0 →
    let c := foxCalc ex rep s.freeCtr
    let sm := stitchMeas ex c (s.aerialPair n)
    (foxChecks ex rep c sm = .ok → exchangeJudge n ex rep endAt s = foxOk n ex rep c sm endAt s) ∧
    (foxChecks ex rep c sm ≠ .ok → exchangeJudge n ex rep endAt s = foxFailed n ex (foxChecks ex rep c sm) (foxQual n ex rep s))) ∧
  (∀ (n : Nat) (ex : Exch) (s : State), s.exOn n = some ex → exchangeSilent n ex s = true →
    (ex.finalAt = none → exec (.rangeReplyTimeout n) s = .next (foxFailed n ex .noReply s)) ∧
    (ex.finalAt.isSome = true → exec (.rangeReportTimeout n) s = .next (foxFailed n ex .noReport s))) ∧
  (∀ (n : Nat) (o : Overhear) (s : State), s.ohOn n = some o → o.own = false → passesOf o.plan.grade ≤ o.replies.length →
    let t := settSend 0x0F false 1 .p0 (listenReport n o) (setOh n none (listenRes n o s))
    exec (.overhearExchangeEnd n) s =
      .next (laneFree n (planOver o.plan.exch (t.setLane n { t.lane n with rx := none, wantRx := none }))))

/-- R186, R188, R225, R227, R228, R230, R242: what a frame that passes its checks does: a WAKE_REPLY reaches the session engine, or a satellite's relay
slot; a right proof authenticates the session, a wrong one is a strike; an ACK only ends its reception; a sealed SERVICE frame of a session advances
its counter and is acknowledged where it asks; a NOTICE is acknowledged, held and committed, and acted on once its counter is committed. R225 to
R228, R231, R239, R244: the session engine's triggers and times: a waiting trigger is served unless four sessions run; windows close after 4.3 ms, a
CHALLENGE is repeated once, a session ends after 10 s, a bar after 60 s, a tracker goes stale and is forgotten, an enrolment ends after 500 ms, the
ignition window after 30 s clears the latch. -/
def Obligations.SessionReceptionAndTimes : Prop :=
  ((∀ (n : Nat) (r : AirRx) (cls : Nat) (h : AirHdr) (s : State), frameAt n 1 false r s = some (cls, h, .ok) →
     let t := rxReport n cls r .ok s
     (s.isHead = true → exec (.wakeReply n r) s = .next (replyDelivered t.unitNum n cls h.src (plainPayload r) t)) ∧
     (s.isHead = false → s.isActing = false → h.dst = 0 → exec (.wakeReply n r) s = .next (relayStore r.frame t))) ∧
   (∀ (n : Nat) (r : AirRx) (cls : Nat) (h : AirHdr) (st : RxStatus) (s : State), st ≠ .ok →
     (frameAt n 1 false r s = some (cls, h, st) → exec (.wakeReply n r) s = .next (rxReport n cls r st s)) ∧
     (frameAt n 3 false r s = some (cls, h, st) → exec (.airResponse n r) s = .next (rxReport n cls r st s))) ∧
   (∀ (n : Nat) (r : AirRx) (cls : Nat) (h : AirHdr) (x : Session) (f : FobRec) (kf : Bytes) (s : State),
     frameAt n 3 false r s = some (cls, h, .ok) →
     let t := rxReport n cls r .ok s
     let p := plainPayload r
     t.sessionOf (h.src - 0x40) = some x → 0x40 ≤ h.src → x.lane = n → x.authed = false → x.challenges ≠ 0 → fieldBe p 0 4 = x.fobId →
     t.activeFob (h.src - 0x40) = some f → t.kf f.fobId f.gen = some kf →
     (sub p 4 16 = proofOf kf x.fobId t.vehicle x.nu x.nf x.grade x.stitch →
       exec (.airResponse n r) s = .next (authenticated (h.src - 0x40) kf t)) ∧
     (sub p 4 16 ≠ proofOf kf x.fobId t.vehicle x.nu x.nf x.grade x.stitch →
       exec (.airResponse n r) s = .next (sesKick (strike (h.src - 0x40) 2 t)))) ∧
   (∀ (n : Nat) (r : AirRx) (cls : Nat) (h : AirHdr) (st : RxStatus) (s : State), frameAt n 9 false r s = some (cls, h, st) →
     st ≠ .ok ∨ h.dst ≠ 0 ∨ s.isHead = true → exec (.ackFrame n r) s = .next (rxReport n cls r st s)) ∧
   (∀ (n : Nat) (r : AirRx) (cls ctr : Nat) (h : AirHdr) (x : Session) (p : Bytes) (s : State), frameAt n 10 false r s = some (cls, h, .ok) →
     s.isHead = true → s.ses.enrol = none → s.sessionOf (h.src - 0x40) = some x → x.authed = true → openSealed (some (s.volKey (h.src - 0x40) .kS)) x.fobId 1 x.rxCtr r = (.ok, ctr, p) →
     exec (.serviceFrame n r) s = .next (modifySession (h.src - 0x40) (fun y => { y with rxCtr := ctr, lastAt := s.now })
       (sendAck n cls h r.endAt (rxReport n cls r .ok s)))) ∧
   (∀ (n : Nat) (r : AirRx) (cls ctr : Nat) (h : AirHdr) (e : Enrol) (p : Bytes) (s : State), frameAt n 10 false r s = some (cls, h, .ok) →
     s.isHead = true → s.ses.enrol = some e → s.sessionOf (h.src - 0x40) = none → openSealed (some e.ktp) e.fobId 1 0 r = (.ok, ctr, p) →
     exec (.serviceFrame n r) s = .next (enrolled e h.src p (sendAck n cls h r.endAt (rxReport n cls r .ok s)))) ∧
   (∀ (n : Nat) (r : AirRx) (cls ctr : Nat) (h : AirHdr) (f : FobRec) (kf p : Bytes) (s u : State), frameAt n 8 false r s = some (cls, h, .ok) →
     let v := s.noticeOf (h.src - 0x40)
     let t := sendAck n cls h r.endAt (rxReport n cls r .ok s)
     let w := setNotice { v with nctr := ctr, buttons := fieldBe p 0 1 % 4, at_ := s.now,
                                 wait := some (fieldBe p 0 1 % 4, sub r.frame.body h.len 8, n, cls) } t
     s.isHead = true → s.profile ≠ 0 → s.activeFob (h.src - 0x40) = some f → s.kf f.fobId f.gen = some kf →
     (openNotice (kNotice kf f.fobId) f.fobId v.nctr r = none →
       exec (.noticeFrame n r) s = .next (rxStrike h.src .replay (rxReport n cls r .replay s))) ∧
     (openNotice (kNotice kf f.fobId) f.fobId v.nctr r = some (ctr, p) → h.retry = false →
       fobCommit .p0 (h.src - 0x40) { f with nctr := ctr }.bytes (.notice (h.src - 0x40)) w = (.taken, u) →
       exec (.noticeFrame n r) s = .next u)) ∧
   (∀ (record n cls : Nat) (mic : Bytes) (f : FobRec) (s : State),
     let v := s.noticeOf record
     v.wait = some (1, mic, n, cls) → s.activeFob record = some f →
     (fieldBe (memGetN s.nv.mem (fobOffset record) 32) 16 4 = v.nctr →
       exec (.nctrCommitDone record) s = .next (remoteLock record f (setNotice { v with wait := none } s))) ∧
     (fieldBe (memGetN s.nv.mem (fobOffset record) 32) 16 4 ≠ v.nctr → exec (.nctrCommitDone record) s = .next s))) ∧
  ((∀ (i : QItem) (g : Trigger) (s t : State), s.profile ≠ 7 → s.isHead = true → s.ses.ss.length < 4 → nextTrigger s = some (i, t) →
     i.work = .trigger g → exec .sessionTrigger s = .next (serveTrigger g i.at_ t)) ∧
   (∀ s : State, 4 ≤ s.ses.ss.length → exec .sessionTrigger s = .next s) ∧
   (∀ (r : TrigRun) (s : State), s.ses.runs.find? (fun r => r.windowAt.any (fun t => s.after t 4300)) = some r →
     let t := modifyRun r.id (fun r => { r with windowAt := none }) s
     (r.todo ≠ [] → exec .replyWindowClose s = .next (runNext r.id t)) ∧
     (r.todo = [] → r.opened = true → exec .replyWindowClose s = .next (judgeAll t)) ∧
     (r.todo = [] → r.opened = false → exec .replyWindowClose s = .next (wakeOver { r with windowAt := none } t))) ∧
   (∀ (record : Nat) (x : Session) (s : State), s.sessionOf record = some x → x.authed = false → (s.lane x.lane).pend = none →
     (s.lane x.lane).txEnd = none → s.after x.sentAt (frameUnits 2 x.cls 24 false * 625 / 1000 + 400) = true →
     (x.challenges = 1 → exec (.responseTimeout record) s = .next (sendChallenge x s)) ∧
     (2 ≤ x.challenges → exec (.responseTimeout record) s = .next (sesKick (sessionEnd record 2 s)))) ∧
   (∀ (record : Nat) (x : Session) (s : State), s.sessionOf record = some x →
     (s.after x.lastAt 10000000 = true → exec (.sessionTimeout record) s = .next (sesKick (sessionEnd record (if x.authed then 4 else 2) s))) ∧
     (s.after x.lastAt 10000000 = false → exec (.sessionTimeout record) s = .next s)) ∧
   (∀ (record : Nat) (s : State), ∃ t, exec (.barExpiry record) s = .next t ∧
     (∀ b ∈ t.ses.bars, b.1 = record → s.after b.2 60000000 = false) ∧ (∀ b ∈ s.ses.bars, b.1 ≠ record → b ∈ t.ses.bars) ∧ t.regs = s.regs) ∧
   (∀ (record : Nat) (i : Image) (s : State), s.img.run = some i → (s.tracker record).st = .held →
     i.fobpol.stale * 1000 * 4194304 < (s.now - (s.tracker record).at_) * 1000000 →
     exec (.trackerStale record) s = .next (setTracker record { s.tracker record with st := .stale, staleAt := s.now } s)) ∧
   (∀ (record : Nat) (s : State), (s.tracker record).st = .stale → s.after (s.tracker record).staleAt 60000000 = true →
     exec (.trackerForget record) s = .next (setTracker record Tracker.init s)) ∧
   (∀ (e : Enrol) (s : State), s.ses.enrol = some e → s.after e.at_ 500000 = true →
     exec .enrolTimeout s = .next (laneFree 1 (laneFree 0 (routineFail 0x72 { s with ses := { s.ses with enrol := none } })))) ∧
   (∀ (at_ : Nat) (s : State), s.lines.ignWindow = some at_ → s.lines.ignition = false →
     (s.after at_ 30000000 = true → exec .ignitionWindowExpiry s = .next (latchClear s)) ∧
     (s.after at_ 30000000 = false → exec .ignitionWindowExpiry s = .next s)) ∧
   (∀ (p : PollE) (s : State), s.bit Reg.SES_LFRUN_GO = true → s.lf.runs = [] → s.lf.bad = [] →
     (s.chron.count.toNat + 2 ^ 32 - s.get Reg.SES_LFAT_V) % 2 ^ 32 < 2 ^ 31 → s.pollE (s.get Reg.SES_LFRUN_ENTRY) = some p →
     exec .sesLfrunGo s = .next (lfRequest (s.lfReq (.lfrun (s.get Reg.SES_LFRUN_ENTRY)) p) s)))

/-- R238, R240, Table 9-7: what a grant rests on. No unlock, lock, welcome, remote unlock or start is granted without a fix; an unlock has a position in
a door or load zone and none in the cab, and no authenticated LF-inside; a lock has none in the cab and no reply that shows LF-inside; a remote
unlock lies within 30,000 mm; a start has two fixes within 200 mm and 300 ms, all of them in the cab, and an authenticated LF-inside. -/
def Obligations.GrantsRestOnEvidence : Prop :=
  ∀ (s : State) (x : Session) (r : TrigRun) (zone : Nat), s.judge x r = some (0, zone) →
    (r.trig.kind = some 0 ∨ r.trig.kind = some 1 ∨ r.trig.kind = some 2 ∨ r.trig.kind = some 4 ∨ r.trig.kind = some 5 → x.fixes ≠ []) ∧
    (r.trig.kind = some 0 → ∃ f rest, x.fixes = f :: rest ∧ f.pos.isSome = true ∧
      ((s.fixZones f).any (fun z => z.kind == 2 || z.kind == 3)) = true ∧ (s.fixZones f).any (fun z => z.kind == 1) = false ∧
      (∀ v, x.lf = some v → v.1 = false)) ∧
    (r.trig.kind = some 1 → ∃ f rest, x.fixes = f :: rest ∧ f.pos.isSome = true ∧ (s.fixZones f).any (fun z => z.kind == 1) = false ∧
      r.inside = false) ∧
    (r.trig.kind = some 4 → ∃ f rest, x.fixes = f :: rest ∧ f.dist ≤ 30000) ∧
    (r.trig.kind = some 5 → ∃ f g rest v p q, x.fixes = f :: g :: rest ∧ f.pos = some p ∧ g.pos = some q ∧ pointSq p q ≤ 200 * 200 ∧
      (∀ a ∈ [f.at_, g.at_, v.2], ∀ b ∈ [f.at_, g.at_, v.2], (a - b) * 1000 ≤ 300 * 4194304) ∧ x.lf = some v ∧ v.1 = true ∧ ∀ h ∈ x.fixes, (s.fixZones h).any (fun z => z.kind == 1) = true)

/-- R231, R243, R244: a fourth strike within 60 s bars the fob; a granted start sets the latch and both lines before anything else, and opens the 30 s
window where ignition is off; clearing the latch locks both lines. -/
def Obligations.StrikesAndLatch : Prop :=
  (∀ (record reason : Nat) (s : State), s.sessionOf record = none → (s.tracker record).st = .unknown →
    let ts := s.now :: s.recent 60000000 (((s.ses.strikes.find? (fun p => p.1 == record)).map (·.2)).getD [])
    (ts.length < 4 → (strike record reason s).ses.strikes.head? = some (record, ts) ∧ (strike record reason s).ses.bars = s.ses.bars) ∧
    (4 ≤ ts.length → (record, s.now) ∈ (strike record reason s).ses.bars)) ∧
  (∀ s : State, regsWf s.regs = true → (latchSet s).bit Reg.SL_STAT_LATCH = true ∧ (latchSet s).lines.setAt = some s.now ∧
    (latchSet s).bit Reg.SL_STAT_IGNW = !s.lines.ignition ∧
    (latchSet s).lines.ignWindow = (if s.lines.ignition then none else some s.now)) ∧
  (∀ s : State, regsWf s.regs = true → (latchClear s).bit Reg.SL_STAT_LATCH = false ∧ (latchClear s).bit Reg.SL_STAT_HREL = false ∧
    (latchClear s).bit Reg.SL_STAT_LREL = false ∧ (latchClear s).lines.ignWindow = none) ∧
  (∀ (record kind : Nat) (s u : State),
    submitTally .p0 ⟨1, none, .startToken⟩ (latchSet (noteDecision (if kind = 0 then 5 else 6) 0 record 0 s)) = (.taken, u) →
    startRelease record kind s = { u with ses := { u.ses with startWait := some ⟨record, kind⟩ } })

/-- R254, R257: in one tick the Chronicle gains 0, 1 or 2 counts, its fraction stays a 32-bit fraction, and a slew only comes nearer to 0, by at most
one count; a clock tick adds one tick to the model's time and leaves the Chronicle as that advance gives it; with no correction it gains exactly 1. -/
def Obligations.ChronicleAdvance : Prop :=
  (∀ s : State, s.chron.frac < 4294967296 → s.correction.natAbs ≤ 1000000000 →
    ∃ k : Nat, k ≤ 2 ∧ s.chronNext.count = s.chron.count + BitVec.ofNat 64 k ∧ s.chronNext.frac < 4294967296) ∧
  (∀ s : State, s.chronNext.slew.natAbs ≤ s.chron.slew.natAbs ∧ s.chron.slew.natAbs ≤ s.chronNext.slew.natAbs + 1 ∧
    (s.chron.slewAcc < 1000000 → s.chronNext.slewAcc < 1000000)) ∧
  (∀ s : State, s.chron.frac < 4294967296 → s.correction = 0 → s.chronNext.count = s.chron.count + 1#64) ∧
  (∀ s : State, (clockTick s).chron.count = s.chronNext.count ∧ (clockTick s).now = s.now + 1)

/-- R250, R252, R254: losing the crystal while locked starts holdover with fault 0x0101 and a CLOCK record and keeps TIME_VALID; a relock is recorded;
DEGR clears after 10 s of lock; no lock within 1 s of AONPOR is fault 0x0103, once; the switch to VBKP loses no tick; CORR is the negative of the
crystal's error, frozen in holdover, and held with fault 0x0102 where the reading fails. The division toward zero of R254 is the model's reading
(log 10). R256, R257, R258, R261: a time set later than the image's BUILT is applied at its message's end: a slew where TIME_VALID is set and the
error is at most 1 s, otherwise a step, deferred while an overhearing plan is outstanding; an earlier one, or one without an image, changes nothing
but its answer; a step loads the Chronicle in one tick, drops the slew, counts SEQ and sets STEPPED; whole seconds, the end of TIME_PPS and of a
slew are ticks. -/
def Obligations.ClockSourcesAndTimeSetting : Prop :=
  ((∀ s : State, s.bit Reg.CHRON_STAT_LOCK = true →
     exec .crystalLost s = .next (logRec 0x31 [1] (raise 0x0101 0 ((s.setBit Reg.CHRON_STAT_DEGR true).setBit Reg.CHRON_STAT_LOCK false)))) ∧
   (∀ s : State, s.bit Reg.CHRON_STAT_LOCK = false → exec .crystalLost s = .next s) ∧
   (∀ s : State,
     let t := { s with chron := { s.chron with lockAt := some s.now } }.setBit Reg.CHRON_STAT_LOCK true
     (s.bit Reg.CHRON_STAT_LOCK = true → exec .fllLock s = .next s) ∧
     (s.bit Reg.CHRON_STAT_LOCK = false → s.bit Reg.CHRON_STAT_DEGR = false → exec .fllLock s = .next t) ∧
     (s.bit Reg.CHRON_STAT_LOCK = false → s.bit Reg.CHRON_STAT_DEGR = true → exec .fllLock s = .next (logRec 0x31 [2] t))) ∧
   (∀ (u : Nat) (s : State), s.bit Reg.CHRON_STAT_LOCK = true → s.chron.lockAt = some u →
     (s.after u 10000000 = true → exec .degrClear s = .next (s.setBit Reg.CHRON_STAT_DEGR false)) ∧
     (s.after u 10000000 = false → exec .degrClear s = .next s)) ∧
   (∀ s : State, s.bit Reg.CHRON_STAT_LOCK = false → s.chron.lockAt = none → s.after s.chron.porAt 1000000 = true →
     (s.chron.lockFault = false →
       exec .fllLockTimeout s = .next (logRec 0x31 [3] (raise 0x0103 0 { s with chron := { s.chron with lockFault := true } }))) ∧
     (s.chron.lockFault = true → exec .fllLockTimeout s = .next s)) ∧
   (∀ (b : Bool) (s : State), ∃ t, exec (.backupSwitch b) s = .next t ∧ t.chron.count = s.chron.count ∧ t.chron.frac = s.chron.frac ∧
     t.now = s.now ∧ (regsWf s.regs = true → t.bit Reg.CHRON_STAT_BKP = b ∧
       t.bit Reg.CHRON_STAT_BKPSEEN = (b || s.bit Reg.CHRON_STAT_BKPSEEN) ∧ t.timeValid = s.timeValid) ∧ (b = true → t.chron.ppsHigh = false)) ∧
   (∀ (temp : Int) (c : CrystalE) (s : State), s.after s.chron.compAt s.compPeriod = true → s.refBad = false →
     (s.holdover = true → exec (.compSample (some temp)) s = .next s) ∧
     (s.holdover = false → exec (.compSample none) s = .next (raise 0x0102 0 { s with chron := { s.chron with compAt := s.now } })) ∧
     (s.holdover = false → s.chron.crystal = some c → exec (.compSample (some temp)) s =
       .next ((enterSamples [temp] { s with chron := { s.chron with compAt := s.now, corr := corrFor c temp } }).put Reg.CHRON_COMP_TEMP
         (ofInt 16 temp)))) ∧
   corrFor ⟨1, 2500, -34000, 1500⟩ (-1000) = 40150) ∧
  ((∀ (m : Bytes) (at_ : Nat) (i : Image) (s t : State), diagPop (diagSettle s) = some (m, at_, t) → isRoutine 0xF007 m = true →
     let tset := fieldBe (m.drop 4) 0 8
     (t.img.run = none → exec .setTime s = .next (diagSettle (diagNeg 0x31 0x22 t))) ∧
     (t.img.run = some i → tset < i.built * 4194304 → exec .setTime s = .next (diagSettle (diagNeg 0x31 0x31 t))) ∧
     (t.img.run = some i → i.built * 4194304 ≤ tset → exec .setTime s =
       .next (diagSettle (routineOk 0xF007 [] (applyTimeSet (tset + (t.now - at_)) (toInt 16 (fieldBe (m.drop 4) 8 2)) t))))) ∧
   (∀ (tset : Nat) (off : Int) (s : State),
     let err : Int := (tset : Int) - s.chron.count.toNat
     let t := applyTimeSet tset off s
     (s.timeValid = true → err.natAbs ≤ 4194304 → t.chron.count = s.chron.count ∧ t.chron.slew = err ∧
       (regsWf s.regs = true → t.rd Reg.CHRON_UTCOFF = BitVec.ofInt 32 off)) ∧
     (s.timeValid = false ∨ 4194304 < err.natAbs → s.planOutstanding = true →
       t = { s with chron := { s.chron with deferred := some ⟨tset, s.now, off⟩ } }) ∧
     (s.timeValid = false ∨ 4194304 < err.natAbs → s.planOutstanding = false →
       t = timeSetStep tset off { s with chron := { s.chron with deferred := none } })) ∧
   (∀ (target : Nat) (off : Int) (s : State), s.led.motion = none →
     let t := timeSetStep target off s
     t.chron.count = BitVec.ofNat 64 target ∧ t.chron.slew = 0 ∧ t.chron.stepSinceMsg = true ∧
     (regsWf s.regs = true → t.bit Reg.CHRON_STAT_STEPPED = true ∧ t.timeValid = true ∧
       t.get Reg.CHRON_STAT_SEQ = (s.get Reg.CHRON_STAT_SEQ + 1) % 256 ∧ t.rd Reg.CHRON_UTCOFF = BitVec.ofInt 32 off)) ∧
   (∀ (d : DeferredStep) (s : State), s.chron.deferred = some d →
     (s.planOutstanding = false ∨ s.after d.sampledAt 5000 = true → exec .deferredStep s =
       .next (timeSetStep (d.target + (s.now - d.sampledAt)) d.utcoff { s with chron := { s.chron with deferred := none } })) ∧
     (s.planOutstanding = true → s.after d.sampledAt 5000 = false → exec .deferredStep s = .next s)) ∧
   (∀ s : State, s.secondDue = true → exec .secondTick s = .next (tick s)) ∧
   (∀ s : State, s.secondDue = false → exec .secondTick s = .next s) ∧
   (∀ s : State, s.chron.slew ≠ 0 → s.chronNext.slew = 0 → exec .slewDone s = .next (tick s)) ∧
   (∀ (r : Nat) (s : State), s.chron.ppsHigh = true → s.chron.ppsRose = some r → r + 524288 ≤ s.now + 1 → exec .ppsFall s = .next (tick s)) ∧
   (∀ s : State, s.ppsAllowed = true → s.timeValid = true →
     (s.chron.ppsRose.all (fun r => decide (r + 2097152 ≤ s.now)) = true →
       (ppsSecond s).chron.ppsHigh = true ∧ (ppsSecond s).chron.ppsRose = some s.now) ∧
     (∀ r, s.chron.ppsRose = some r → s.now < r + 2097152 → ppsSecond s = s)))

/-- R264, R266, R267: in one tick a timer that steps counts on, through 0xFFFF_FFFF to 0 and, in period mode after its match, to 0; it steps every 2^PRE
ticks; a match is against the compare value held at the start of the tick and stops a one-shot timer; flags are set, never cleared; a capture takes
the counter, sets CAPF, and OVR where CAPF stood. Other timers and all other state stay. R263, R265, R267: TIM_GO and TIM_STOP by a master that owns
every timer named take effect at the next tick; one that names another's timer is DENIED and changes nothing; a due match or overflow is that tick;
an edge reaches every timer that selects it; debug halt holds the timers that ask for it. -/
def Obligations.TimersCountOnCommand : Prop :=
  ((∀ (n : Nat) (s : State), n < 8 → regsWf s.regs = true →
     let t := timerTick n s
     (t.get (Reg.TIM_CNT_V n) = if s.timerSteps n then s.timerNext n else s.get (Reg.TIM_CNT_V n)) ∧
     t.bit (Reg.TIM_FLG_M0 n) = (s.bit (Reg.TIM_FLG_M0 n) || s.timerMatches n 0) ∧
     t.bit (Reg.TIM_FLG_M1 n) = (s.bit (Reg.TIM_FLG_M1 n) || s.timerMatches n 1) ∧
     t.bit (Reg.TIM_FLG_OVF n) = (s.bit (Reg.TIM_FLG_OVF n) || s.timerOverflows n) ∧
     t.bit (Reg.TIM_FLG_CAPF n) = s.bit (Reg.TIM_FLG_CAPF n) ∧
     (s.timers.goNext / 2 ^ n % 2 = 0 → s.timers.stopNext / 2 ^ n % 2 = 0 →
       t.bit (Reg.TIM_CTL_RUN n) = (s.bit (Reg.TIM_CTL_RUN n) && !(s.timerMatches n 0 && s.get (Reg.TIM_CTL_MODE n) == 2))) ∧
     (s.timers.goNext / 2 ^ n % 2 = 1 → s.bit (Reg.TIM_CTL_RUN n) = false → s.timers.phase.length = 8 →
       t.bit (Reg.TIM_CTL_RUN n) = true ∧ t.timers.phase.getD n 1 = 0) ∧
     (s.timers.goNext / 2 ^ n % 2 = 0 → s.timers.stopNext / 2 ^ n % 2 = 1 → t.bit (Reg.TIM_CTL_RUN n) = false) ∧
     (∀ k, k < 8 → k ≠ n → t.rd (Reg.TIM_CNT k) = s.rd (Reg.TIM_CNT k) ∧ t.rd (Reg.TIM_CTL k) = s.rd (Reg.TIM_CTL k) ∧
       t.rd (Reg.TIM_FLG k) = s.rd (Reg.TIM_FLG k)) ∧
     (∀ k, k < 8 → t.rd (Reg.TIM_CMP0 k) = s.rd (Reg.TIM_CMP0 k) ∧ t.rd (Reg.TIM_CMP1 k) = s.rd (Reg.TIM_CMP1 k)) ∧
     { t with regs := s.regs, hwSet := s.hwSet, timers := s.timers } = s) ∧
   (∀ (n : Nat) (s : State), s.timerNext n =
     if s.get (Reg.TIM_CTL_MODE n) = 1 ∧ s.timers.wrap.getD n false = true then 0 else (s.get (Reg.TIM_CNT_V n) + 1) % 2 ^ 32) ∧
   (∀ (n : Nat) (s : State), n < 8 → s.bit (Reg.TIM_CTL_RUN n) = false → s.timerSteps n = false ∧ s.timerMatches n 0 = false ∧ s.timerOverflows n = false) ∧
   (∀ (n : Nat) (s : State), n < 8 → s.timers.debugHalt = true → s.bit (Reg.TIM_CTL_DHALT n) = true → s.timerSteps n = false) ∧
   (∀ (n : Nat) (s : State), n < 8 → regsWf s.regs = true →
     let t := captureInto n s
     t.get (Reg.TIM_CAP_V n) = s.get (Reg.TIM_CNT_V n) ∧ t.bit (Reg.TIM_FLG_CAPF n) = true ∧
     t.bit (Reg.TIM_FLG_OVR n) = (s.bit (Reg.TIM_FLG_OVR n) || s.bit (Reg.TIM_FLG_CAPF n)) ∧ { t with regs := s.regs, hwSet := s.hwSet } = s)) ∧
  ((∀ (m : Master) (mask : Nat) (s t : State), fabCheck m Reg.TIM_GO .b32 true s = (.ok, some (.reg Reg.TIM_GO), t) →
     (timersOwned m mask = true → exec (.timGo m mask) s =
       .next (fabAnswer m (.ok, { t with timers := { t.timers with goNext := t.timers.goNext ||| mask % 256 } }))) ∧
     (timersOwned m mask = false → exec (.timGo m mask) s = .next (fabAnswer m (.denied, t)))) ∧
   (∀ (m : Master) (mask : Nat) (s t : State), fabCheck m Reg.TIM_STOP .b32 true s = (.ok, some (.reg Reg.TIM_STOP), t) →
     (timersOwned m mask = true → exec (.timStop m mask) s =
       .next (fabAnswer m (.ok, { t with timers := { t.timers with stopNext := t.timers.stopNext ||| mask % 256 } }))) ∧
     (timersOwned m mask = false → exec (.timStop m mask) s = .next (fabAnswer m (.denied, t)))) ∧
   (∀ (n : Nat), timerOwner .session n = decide (n < 2) ∧ (timerOwner .host n = true ↔ 4 ≤ n ∧ n < 8) ∧ timerOwner .ledger n = false) ∧
   (∀ (n x : Nat) (s : State), n < 8 → x < 2 →
     (s.timerMatches n x = true → exec (.timerCompareMatch n x) s = .next (tick s)) ∧
     (s.timerMatches n x = false → exec (.timerCompareMatch n x) s = .next s)) ∧
   (∀ (n : Nat) (s : State), n < 8 →
     (s.timerOverflows n = true → exec (.timerOverflow n) s = .next (tick s)) ∧
     (s.timerOverflows n = false → exec (.timerOverflow n) s = .next s)) ∧
   (∀ (src : Nat) (rising : Bool) (s : State), ∃ t, exec (.timerCapture src rising) s = .next t ∧
     ((∀ n, n < 8 → s.captures n src rising = false) → t = s) ∧ { t with regs := s.regs, hwSet := s.hwSet } = s ∧
     (∀ n, n < 8 → regsWf s.regs = true → t.get (Reg.TIM_CAP_V n) =
       if s.captures n src rising then s.get (Reg.TIM_CNT_V n) else s.get (Reg.TIM_CAP_V n))) ∧
   (∀ (h : Bool) (s : State), exec (.debugHalt h) s = .next { s with timers := { s.timers with debugHalt := h } }))

/-- R272 to R278: a qualified edge, once counting has resumed and VBAT is present, adds 1 to the pulse count whatever its direction, where the levels
before and after it were held for the least pulse width, and is a rejected excursion otherwise; asleep it is only counted and may wake the unit at
16 within 2 s; awake the speed of the last intervals follows, unknown where the previous edge is more than 1,024 s back. In mode 1 an edge of B sets
its level and ends B's silence; a rejected excursion is counted; 2.0 s without an edge make the speed known 0; known 0 for t_stop makes the motion
state STOPPED, a motion event. R280, R281, R283, R284: the triggers are evaluated every 10 ms in CAB, ROAD and WORKSHOP and in no other profile. A
distance trigger fires once for all the multiples passed; a target distance once; a threshold never on an unknown speed and only while armed; a
session action is skipped while the start-line latch is clear. -/
def Obligations.PulsesSpeedAndTriggers : Prop :=
  ((∀ (low high : Nat) (s : State), s.motion.counting = false ∨ s.bit Reg.CHRON_STAT_BKP = true → exec (.motionEdge low high) s = .next s) ∧
   (∀ (low high : Nat) (c : MotionSec) (s : State), s.motion.counting = true → s.bit Reg.CHRON_STAT_BKP = false → s.motion.cfg = some c →
     (c.minPulse * 1000 ≤ low → c.minPulse * 1000 ≤ high → ∃ t, exec (.motionEdge low high) s = .next t ∧
       t.motion.pulses = (s.motion.pulses + 1) % 2 ^ 48) ∧
     (low < c.minPulse * 1000 ∨ high < c.minPulse * 1000 → exec (.motionEdge low high) s = exec .motionGlitch s)) ∧
   (∀ (low high : Nat) (s : State), s.motion.counting = true → s.bit Reg.CHRON_STAT_BKP = false → s.heldEnough low = true → s.heldEnough high = true →
     s.power.state = .sleep → regsWf s.regs = true → ∃ t, exec (.motionEdge low high) s = .next t ∧
       t.wm = { s.wm with edges := [s.now], lastEdge := some s.now, lastRev := s.reverseNow } ∧ t.rd Reg.WM_MSTAT = s.rd Reg.WM_MSTAT ∧ t.power = s.power ∧
       ((s.recent 2000000 s.motion.wakeEdges).length < 15 → t.powAon = s.powAon) ∧
       (15 ≤ (s.recent 2000000 s.motion.wakeEdges).length → s.powAon.wakes = [] → t.powAon.wakes = [6] ∧ t.powAon.wakeAt = s.now)) ∧
   (∀ (rev : Bool) (s : State), regsWf s.regs = true →
     let t := speedEdge rev s
     t.wm.lastEdge = some s.now ∧ t.wm.lastRev = rev ∧ t.bit Reg.WM_MSTAT_REV = rev ∧
     ((∀ e, s.wm.lastEdge = some e → e + 4294967296 < s.now) → t.speedKnown = false ∧ t.wm.edges = [s.now]) ∧
     (∀ e, s.wm.lastEdge = some e → s.now ≤ e + 4294967296 → t.speedKnown = true ∧
       (s.wm.lastRev ≠ rev → t.wm.edges = [s.now, e] ∧ t.get Reg.WM_MSTAT_SPEED = speedOf s.pulseK 1 (s.now - e)) ∧
       (s.wm.lastRev = rev → t.wm.edges = (s.now :: s.wm.edges).take 257 ∧
         t.get Reg.WM_MSTAT_SPEED = speedOf s.pulseK (windowN t.wm.edges) (spanOf (windowN t.wm.edges) t.wm.edges)))) ∧
   (speedOf 8000 1 1048576 = 18 ∧ speedOf 8000 1 629146 = 29 ∧ speedOf 8000 32 754974 = 800) ∧
   (∀ (b : Bool) (held : Nat) (s : State), s.motion.counting = true → s.bit Reg.CHRON_STAT_BKP = false →
     (s.motion.cfg.map (·.mode)) = some 1 → s.heldEnough held = true → exec (.motionBEdge b held) s = .next
     (captureEdge 2 b ({ s with motion := { s.motion with bLevel := b }, wm := { s.wm with aSinceB := 0 } }.setBit Reg.WM_MSTAT_BLOST false))) ∧
   (∀ (b : Bool) (held : Nat) (s : State), s.motion.counting = true → s.bit Reg.CHRON_STAT_BKP = false →
     (s.motion.cfg.map (·.mode)) = some 1 → s.heldEnough held = false → exec (.motionBEdge b held) s = exec .motionGlitch s) ∧
   (∀ (b : Bool) (held : Nat) (s : State), s.motion.counting = false ∨ (s.motion.cfg.map (·.mode)) = some 0 →
     exec (.motionBEdge b held) s = .next s) ∧
   (∀ s : State, s.motion.counting = false ∨ s.bit Reg.CHRON_STAT_BKP = true → exec .motionGlitch s = .next s) ∧
   (∀ s : State, s.motion.counting = true → s.bit Reg.CHRON_STAT_BKP = false →
     let gs := (s.now :: s.recent 1000000 s.wm.glitches).take 64
     let t := { s with wm := { s.wm with glitches := gs } }.count Reg.WM_GLITCH_V 1
     (gs.length < 64 → exec .motionGlitch s = .next t) ∧
     (64 ≤ gs.length → s.wm.glitchFault = none →
       exec .motionGlitch s = .next (raise 0x0202 0 { t with wm := { t.wm with glitchFault := some s.now } })) ∧
     (∀ f, s.wm.glitchFault = some f → s.after f 1000000 = false → exec .motionGlitch s = .next t)) ∧
   (∀ (e : Nat) (s : State), s.wm.lastEdge = some e →
     (s.after e 2000000 = false → exec .speedZeroTimeout s = .next s) ∧
     (s.after e 2000000 = true → s.speedKnown = false ∨ s.get Reg.WM_MSTAT_SPEED ≠ 0 → exec .speedZeroTimeout s = .next
       (wmSpeedChange { ((s.setBit Reg.WM_MSTAT_KNOWN true).put Reg.WM_MSTAT_SPEED 0) with wm := { s.wm with edges := [] } }))) ∧
   (∀ (e : Nat) (s : State), s.wm.lastEdge = some e → s.bit Reg.WM_MSTAT_MOVING = true → s.speedKnown = true → s.get Reg.WM_MSTAT_SPEED = 0 →
     (e + (2 + s.motion.tstop) * 4194304 ≤ s.now → exec .motionStopped s = .next (evalEvent
       (({ s with motion := { s.motion with parkedAt := s.now } }.setBit Reg.WM_MSTAT_MOVING false).setBit Reg.WM_MSTAT_CHG true))) ∧
     (s.now < e + (2 + s.motion.tstop) * 4194304 → exec .motionStopped s = .next s)) ∧
   (∀ s : State, s.speedKnown = false → exec .motionStopped s = .next s)) ∧
  ((∀ s : State, s.profile < 2 ∨ 4 < s.profile → exec .waymarkEvaluate s = .next s) ∧
   (∀ s : State, s.wm.fresh = false → s.after s.wm.evalAt 10000 = false → exec .waymarkEvaluate s = .next s) ∧
   (∀ s : State, 2 ≤ s.profile → s.profile ≤ 4 → s.wm.fresh = true ∨ s.after s.wm.evalAt 10000 = true →
     exec .waymarkEvaluate s = .next (wmEvaluate s)) ∧
   (∀ (w : WmState) (s : State), w.entry.trigger = 1 → 0 < w.entry.param →
     ((wmEval s w).fires = true ↔ w.prev < s.roadMetres / w.entry.param) ∧
     (w.prev < s.roadMetres / w.entry.param → (wmEval s w).st.prev = s.roadMetres / w.entry.param ∧
       (wmEval s w).skipped = s.roadMetres / w.entry.param - w.prev - 1)) ∧
   (∀ (w : WmState) (s : State), w.entry.trigger = 2 →
     ((wmEval s w).fires = true ↔ w.armed = true ∧ w.entry.param ≤ s.roadMetres) ∧ ((wmEval s w).fires = true → (wmEval s w).st.armed = false) ∧
     (w.armed = false → (wmEval s w).st.armed = false)) ∧
   (∀ (w : WmState) (s : State), 3 ≤ w.entry.trigger → w.entry.trigger ≤ 4 → s.speedKnown = false → wmEval s w = ⟨w, false, 0⟩) ∧
   (∀ (w : WmState) (s : State), w.entry.trigger = 3 ∨ w.entry.trigger = 4 → (wmEval s w).fires = true →
     s.speedKnown = true ∧ w.armed = true ∧ w.seen = true ∧ (wmEval s w).st.armed = false ∧ (wmEval s w).st.fired = true ∧
     (w.entry.trigger = 3 → w.entry.param < s.speed) ∧ (w.entry.trigger = 4 → s.speed < w.entry.param) ∧
     (w.entry.flags % 2 = 0 → w.fired = false)) ∧
   (∀ (w : WmState) (s : State), w.entry.trigger = 5 → (wmEval s w).fires = true →
     s.speedKnown = true ∧ s.speed = 0 ∧ w.armed = true ∧ w.entry.param * 4194304 ≤ s.stoppedTicks) ∧
   (∀ (e : WaymarkE) (s : State), e.action = 1 ∨ e.action = 3 ∨ e.action = 4 → s.bit Reg.SL_STAT_LATCH = false → wmAction e s = wmReport e .noLatch s) ∧
   (∀ (e : WaymarkE) (s t : State), e.action = 1 ∨ e.action = 3 → s.bit Reg.SL_STAT_LATCH = true → fireTrigger ⟨0x30, e.action, 0⟩ s = (.taken, t) →
     (s.waymarkRuns = false → wmAction e s = wmReport e .done t) ∧ (s.waymarkRuns = true → wmAction e s = wmReport e .merged t)))

/-- R290 to R292: a sealed record is 64 bytes: its number, the 40 bytes of the record, the MAC that chains it to the record before it, and a CRC over
the rest; the next number is one more, the chain goes on from its MAC, and it lies behind the others in the open sector. -/
def Obligations.RecordSealing : Prop :=
  ∀ (key : Bytes) (r : Rec) (s : State), regsWf s.regs = true →
    let t := sealRec key r s
    let num := s.get Reg.LDG_NEXT_V
    let b := be 4 num ++ r.tail
    let full := b ++ chainMac key s.led.mac b ++ be 4 (crc32c (b ++ chainMac key s.led.mac b))
    t.ledAon.sector = s.ledAon.sector ++ [full] ∧ full.length = 64 ∧ recCrcOk full = true ∧ recMac full = chainMac key s.led.mac full ∧
    (num < 2 ^ 32 - 1 → recNum full = num ∧ t.get Reg.LDG_NEXT_V = num + 1) ∧ t.led.mac = chainMac key s.led.mac full ∧
    t.led.span = full :: s.led.span ∧ t.ledAon.lastSecs = r.secs ∧
    (s.ledAon.sector.length < 7 → t.ledAon.programming = s.ledAon.programming) ∧
    (7 ≤ s.ledAon.sector.length → s.ledAon.programming = 0 → s.served 0 = true → t.ledAon.programming = 1) ∧
    (r.flags % 2 = 0 → t.ledAon.keptDay = s.ledAon.keptDay) ∧ (r.flags % 2 = 1 → t.ledAon.keptDay = some (s.dayOf r.secs))

/-- R286, R289, R291, R293, R294, R300: a head seals the oldest waiting record when the ledger is open, no checkpoint is due and no sector is being
programmed; at a checkpoint's place the pair comes first, signed with slot 3; a signature that must wait keeps it pending. A unit that is no head
opens no ledger; in BLANK it is not opened; a foreign serial keeps it shut with fault 0x5208; two erased devices are formatted, one erased device is
copied from the other. A header written is the one in force from then on. R289, R295, R296, R302: the open sector is programmed 120 s after its
first record, on MEM_CS1 and then on MEM_CS2; a failed program retires the block to a spare with fault 0x5202, a device without one or that stops
answering leaves service with fault 0x5201; a finished mirror copy puts the second device into service; the summary is rewritten at most once an
hour in ROAD. -/
def Obligations.LedgerSealsAndKeepsDevices : Prop :=
  ((∀ s : State, s.isHead = false → exec (.ledgerIngest none) s = .next (satFlush s)) ∧
   (∀ (c : Cls) (r : Rec) (s : State), (ledgerPutAs c r s).isHead = true →
     exec (.ledgerIngest (some (c, r))) s = .next (sealNext (lossCheck (ledgerPutAs c r s)))) ∧
   (∀ (i : QItem) (r : Rec) (key : Bytes) (s t : State), s.isHead = true → s.led.drops = 0 → s.ledAon.keptDay = none →
     s.bit Reg.LDG_STAT_READY = true → s.bit Reg.LDG_STAT_RONLY = false → s.bit Reg.LDG_STAT_HALT = false → s.led.ckpt = none →
     s.ledAon.programming = 0 →
     (s.ckptDue = true → exec (.ledgerIngest none) s = .next { s with led := { s.led with ckpt := some (s.get Reg.LDG_NEXT_V) } }) ∧
     (s.ckptDue = false → s.slotKey 5 = some key → popQueue .ingest s = some (i, t) → i.work = .record r →
       exec (.ledgerIngest none) s = .next (sealRec key r t)) ∧
     (s.ckptDue = false → s.slotKey 5 = some key → popQueue .ingest s = none → exec (.ledgerIngest none) s = .next s)) ∧
   (∀ s : State, s.get Reg.LDG_NEXT_V % 1024 = 1022 → s.ckptDue = true) ∧
   (∀ s : State, s.led.ckpt = none → exec .checkpointSeal s = .next s) ∧
   (∀ (num : Nat) (d key sig : Bytes) (s t : State), s.led.ckpt = some num → s.slotKey 3 = some d → s.slotKey 5 = some key →
     (signWith (beNat d) (sha256 (ckptMessage s num s.secs)) s = (.bytes sig, t) → exec .checkpointSeal s = .next (sealPair key num sig t)) ∧
     (signWith (beNat d) (sha256 (ckptMessage s num s.secs)) s = (.wait, t) → exec .checkpointSeal s = .next t)) ∧
   (∀ s : State, s.isHead = false ∨ s.boot.started = false ∨ s.bit Reg.LDG_STAT_READY = true → exec .ledgerOpen s = .next s) ∧
   (∀ s : State, s.isHead = true → s.boot.started = true → s.bit Reg.LDG_STAT_READY = false → s.led.foreign = false →
     (s.lc = 0 → exec .ledgerOpen s = .next (ledgerClosed s)) ∧
     (let t := checkDevice 1 (checkDevice 0 { s with led := { s.led with served := [true, true] } })
      s.lc ≠ 0 → t.led.served.any id = true →
       (t.devsIn.any (fun d => !d.blank && d.serial != t.straps.serial) = true → exec .ledgerOpen s =
         .next (ledgerClosed (resumeCount [] (raise 0x5208 0 { t with led := { t.led with foreign := true } })))) ∧
       (∀ d key, t.devsIn.any (fun d => !d.blank && d.serial != t.straps.serial) = false → t.slotKey 3 = some d → t.slotKey 5 = some key →
         (t.devsIn.all (·.blank) = true → t.lc ≠ 4 → exec .ledgerOpen s = .next (openDone (resumeCount [] (ledgerFormat t)))) ∧
         (t.devsIn.all (·.blank) = false → t.blankMirror = none → exec .ledgerOpen s = .next (openDone (openFound key t))) ∧
         (∀ m, t.devsIn.all (·.blank) = false → t.blankMirror = some m → exec .ledgerOpen s = .next (openDone (openFound key
           { t with led := { t.led with copying := some m, served := t.led.served.set m false } })))))) ∧
   (∀ (d : NandDev) (c : NandCtrl), (d.writeCtrl c).control = some { c with
     gen := d.control.elim 0 (fun x => x.gen) + 1, crc := crc32c { c with gen := d.control.elim 0 (fun x => x.gen) + 1 }.bytes })) ∧
  ((∀ s : State, s.ledAon.sector = [] ∨ s.after s.ledAon.sectorAt 120000000 = false → exec .sectorAgeFlush s = .next s) ∧
   (∀ s : State, s.ledAon.sector ≠ [] → s.after s.ledAon.sectorAt 120000000 = true → s.ledAon.programming = 0 →
     (s.served 0 = true → exec .sectorAgeFlush s = .next { s with ledAon := { s.ledAon with programming := 1 } }) ∧
     (s.served 0 = false → s.served 1 = true → exec .sectorAgeFlush s = .next { s with ledAon := { s.ledAon with programming := 2 } })) ∧
   (∀ (ok : Bool) (s : State), s.ledAon.programming = 0 → exec (.nandProgramDone ok) s = .next s) ∧
   (∀ s : State, s.ledAon.programming = 1 → s.served 1 = true →
     let v := s.dev 0
     exec (.nandProgramDone true) s = .next { setDev 0 { v with sectors := v.sectors ++ [⟨v.nextBlock, s.ledAon.sector.take 8⟩] } s with
       ledAon := { s.ledAon with programming := 2 } }) ∧
   (∀ s : State, s.ledAon.programming = 2 → exec (.nandProgramDone true) s = .next (sectorWritten 1 s)) ∧
   (∀ s : State, let t := sectorClose s; s.ledAon.sector.length ≤ 8 → s.devsIn = [] → t.ledAon.sector = [] ∧ t.ledAon.programming = 0) ∧
   (∀ (d : Nat) (s : State), s.ledAon.programming = d + 1 →
     ((s.dev d).spares = 0 → exec (.nandProgramDone false) s = .next (sectorNext d (deviceOut d 0x5201 (s.count Reg.LDG_ERR_PFAIL 1)))) ∧
     ((s.dev d).spares ≠ 0 → exec (.nandProgramDone false) s = .next (programFailed d s))) ∧
   (∀ (d : Nat) (s : State), s.served d = false → exec (.nandNoAnswer d) s = .next s) ∧
   (∀ (d : Nat) (s : State), s.served d = true →
     (s.ledAon.programming ≠ d + 1 → exec (.nandNoAnswer d) s = .next (deviceOut d 0x5201 s)) ∧
     (s.ledAon.programming = d + 1 → exec (.nandNoAnswer d) s = .next (sectorNext d (deviceOut d 0x5201 s)))) ∧
   (∀ (d : Nat) (s : State), s.led.copying = some d →
     let dst := { blankDev s (s.dev d) with sectors := (s.dev (1 - d)).sectors }
     exec .mirrorCopy s = .next (setMirrors { setDev d dst s with led := { s.led with copying := none, served := s.led.served.set d true } })) ∧
   (∀ s : State, s.isHead = true → s.profile = 3 →
     (s.after s.led.summaryAt 3600000000 = true → exec .summaryHourly s = .next (summaryRewrite s)) ∧
     (s.after s.led.summaryAt 3600000000 = false → exec .summaryHourly s = .next s)) ∧
   (∀ s : State, s.profile ≠ 3 → exec .summaryHourly s = .next s))

/-- R307, R308: the window buffer gathers one run for the master that claimed it: the first write claims it, the next must begin at the byte after its
end; another master finds BUSY; the first error is kept. COMMIT submits the run or reports the error, EMPTY or ABORTED; ABORT and 100 ms without an
access empty it. Committed bytes do not change with any of these. -/
def Obligations.WindowBuffer : Prop :=
  (∀ (m : Master) (off v : Nat) (w : Width) (s t : State),
    fabCheck m (0x50100000 + off % 65536) w true s = (.ok, some (.retained (off % 65536)), t) →
    exec (.retainedWindowWrite m off w v) s = .next (fabAnswer m (windowWrite m (off % 65536) (leBytes w.bytes v) t))) ∧
  (∀ (m : Master) (x : Nat) (b : Bytes) (s : State), windowMaster m = false → windowWrite m x b s = (.denied, s)) ∧
  (∀ (m : Master) (x : Nat) (b : Bytes) (s : State), windowMaster m = true → regsWf s.regs = true → x < 65536 →
    (s.get Reg.RMC_STAT_OWN = 7 → ∃ t, windowWrite m x b s = (.ok, t) ∧ t.rmc.buf = b ∧ t.get Reg.RMC_STAT_OWN = m.id ∧
      t.get Reg.RMC_RUN_V = x ∧ t.rmc.err = runError m x b.length ∧ t.nv = s.nv ∧ t.queues = s.queues) ∧
    (s.get Reg.RMC_STAT_OWN ≠ 7 → s.get Reg.RMC_STAT_OWN ≠ m.id → windowWrite m x b s = (.busy, s)) ∧
    (s.get Reg.RMC_STAT_OWN = m.id → s.rmc.err = none → ∃ t, windowWrite m x b s = (.ok, t) ∧ t.nv = s.nv ∧ t.regs = s.regs ∧
      (x ≠ s.get Reg.RMC_RUN_V + s.rmc.buf.length → t.rmc.err = some .sequence ∧ t.rmc.buf = s.rmc.buf) ∧
      (x = s.get Reg.RMC_RUN_V + s.rmc.buf.length →
        t.rmc.err = runError m (s.get Reg.RMC_RUN_V) (s.rmc.buf.length + b.length) ∧
        (t.rmc.err = none → t.rmc.buf = s.rmc.buf ++ b)))) ∧
  (∀ (m : Master) (x n : Nat), windowMaster m = true → 0 < n →
    (256 < n → runError m x n = some .bufferFull) ∧
    (n ≤ 256 → 0xC000 ≤ x → x + n ≤ 0x10000 → runError m x n = none) ∧
    (n ≤ 256 → 0xC000 ≤ x → x < 0x10000 → 0x10000 < x + n → runError m x n = some .area) ∧
    (n ≤ 256 → x + n ≤ 0x4000 → runError m x n = some .denied)) ∧
  (∀ (m : Master) (s t : State), fabCheck m Reg.RMC_CMD .b32 true s = (.ok, some (.reg Reg.RMC_CMD), t) → windowMaster m = true →
    (t.get Reg.RMC_STAT_OWN = 7 ∨ t.get Reg.RMC_STAT_OWN = m.id →
      exec (.rmcCommit m) s = .next (fabAnswer m (.ok, windowCommit t))) ∧
    (t.get Reg.RMC_STAT_OWN = m.id → m.id ≠ 7 → exec (.rmcAbort m) s = .next (fabAnswer m (.ok, windowEmpty true t))) ∧
    (t.get Reg.RMC_STAT_OWN = 7 → exec (.rmcAbort m) s = .next (fabAnswer m (.ok, t))) ∧
    (t.get Reg.RMC_STAT_OWN ≠ 7 → t.get Reg.RMC_STAT_OWN ≠ m.id → exec (.rmcCommit m) s = .next (fabAnswer m (.busy, t)))) ∧
  (∀ s : State,
    (s.get Reg.RMC_STAT_OWN = 7 → windowCommit s = windowDone (if s.rmc.aborted then .aborted else .empty) (windowEmpty false s)) ∧
    (∀ e, s.get Reg.RMC_STAT_OWN ≠ 7 → s.rmc.err = some e → windowCommit s = windowDone e (windowEmpty false s)) ∧
    (∀ u, s.get Reg.RMC_STAT_OWN ≠ 7 → s.rmc.err = none →
      submitGroup .p3 ⟨[(s.get Reg.RMC_RUN_V, s.rmc.buf)], .window⟩ (windowEmpty false s) = (.taken, u) → windowCommit s = u)) ∧
  (∀ s : State, s.get Reg.RMC_STAT_OWN ≠ 7 →
    (s.after s.rmc.touchedAt 100000 = true → exec .windowBufferTimeout s = .next (windowEmpty true s)) ∧
    (s.after s.rmc.touchedAt 100000 = false → exec .windowBufferTimeout s = .next s)) ∧
  (∀ s : State, s.get Reg.RMC_STAT_OWN = 7 → exec .windowBufferTimeout s = .next s)

/-- R305, R307, R310 to R314: an engine's group outside its rights or beyond 256 bytes changes nothing; a page program changes no committed byte, a
failed verify is programmed again at most twice and then ends the group with fault 0x5302; only a verified marker puts the group's pages into the
committed copies, and those bytes alone. -/
def Obligations.GroupsAreAtomic : Prop :=
  (∀ (e : Engine) (cls : Cls) (ws : List (Nat × Bytes)) (s : State),
    (256 < (⟨ws, .none⟩ : Group).bytes ∨ ws.all (engineMay e) = false → exec (.commitGroupSubmit e cls ws) s = .next s) ∧
    ((⟨ws, .none⟩ : Group).bytes ≤ 256 → ws.all (engineMay e) = true → s.rmc.ready = true →
      exec (.commitGroupSubmit e cls ws) s = .next (submitGroup cls ⟨ws, .none⟩ s).2)) ∧
  (∀ (ok : Bool) (s : State), s.rmc.cur = none → exec (.pageProgramDone ok) s = .next s ∧ exec (.markerProgramDone ok) s = .next s) ∧
  (∀ (c : Commit) (p : Nat) (rest : List Nat) (s : State), s.rmc.cur = some c → c.todo = p :: rest → s.rmc.stopped = false →
    s.after c.startAt 3200 = true →
    exec (.pageProgramDone true) s = .next (pageDone c p rest s) ∧ (pageDone c p rest s).nv = s.nv ∧
    (c.tries < 2 → exec (.pageProgramDone false) s = .next (reprogram c s) ∧ (reprogram c s).nv = s.nv) ∧
    (2 ≤ c.tries → exec (.pageProgramDone false) s = .next (groupEnd c .fail s))) ∧
  (∀ (c : Commit) (s : State), s.rmc.cur = some c → c.todo = [] → s.rmc.stopped = false → s.after c.startAt 3200 = true → s.rmc.op = none →
    exec (.markerProgramDone true) s = .next (groupTold .ok c.group (storeNext (applyShadow c.shadow (markerUsed c.group s)))) ∧
    (2 ≤ c.tries → exec (.markerProgramDone false) s = .next (groupTold .fail c.group (storeNext (raise 0x5302 0 s))))) ∧
  (∀ (shadow : List (Nat × Bytes)) (s : State), Memory.wf s.nv.mem = true → (shadow.map (·.1)).Nodup → (∀ q ∈ shadow, q.2.length = 32) →
    Memory.wf (applyShadow shadow s).nv.mem = true ∧
    (∀ x, x / 32 ∉ shadow.map (·.1) → memGet (applyShadow shadow s).nv.mem x = memGet s.nv.mem x) ∧
    (∀ q ∈ shadow, memGetN (applyShadow shadow s).nv.mem (q.1 * 32) 32 = q.2)) ∧
  (∀ (g : Group) (p : Nat) (s : State), (shadowPage s g p).length = 32 ∧
    (g.writes = [] → shadowPage s g p = memGetN s.nv.mem (p * 32) 32))

/-- R316 to R319, R471: who may change a counter; an increment or raise joins the commit queue; a cell that completes adds exactly one, a rollover
leaves the value as it was with the next generation, a raise by more than 256 commits the base, a target past 0xFFFF_FFFF is SATURATED; the old set
is erased after 0.4 ms. -/
def Obligations.TallyCounters : Prop :=
  (∀ (c : Nat), tallyRight (.engine .memPort) c = (c == 0) ∧ tallyRight (.engine .session) c = (c == 1) ∧
    (tallyRight (.master .host) c = true ↔ 16 ≤ c ∧ c < 32) ∧ tallyRight (.master .ledger) c = false) ∧
  (∀ (e : Engine) (cls : Cls) (c v : Nat) (s : State),
    (tallyRight (.engine e) c = false → exec (.tallyIncrement (.engine e) cls c) s = .next s ∧ exec (.tallyRaise (.engine e) cls c v) s = .next s) ∧
    (tallyRight (.engine e) c = true → exec (.tallyIncrement (.engine e) cls c) s = .next (submitTally cls ⟨c, none, .none⟩ s).2 ∧
      exec (.tallyRaise (.engine e) cls c v) s = .next (submitTally cls ⟨c, some v, .none⟩ s).2)) ∧
  (∀ (m : Master) (cls : Cls) (c : Nat) (s t : State), fabCheck m Reg.RMC_TCMD .b32 true s = (.ok, some (.reg Reg.RMC_TCMD), t) →
    windowMaster m = true → exec (.tallyIncrement (.master m) cls c) s = .next (fabAnswer m (tcmdWrite (0x80000100 + c % 32) m t))) ∧
  (∀ (m : Master) (cls : Cls) (c v : Nat) (s t u : State), fabWrite m Reg.RMC_TARG .b32 v s = (.ok, u) →
    fabCheck m Reg.RMC_TCMD .b32 true u = (.ok, some (.reg Reg.RMC_TCMD), t) → windowMaster m = true →
    exec (.tallyRaise (.master m) cls c v) s = .next (fabAnswer m (tcmdWrite (0x80000200 + c % 32) m t))) ∧
  (∀ (m : Master) (c : Nat) (s : State), c < 32 → s.bit Reg.RMC_TSTAT_BUSY = false → tallyRight (.master m) c = false →
    tcmdWrite (0x80000100 + c) m s = (.ok, tcmdDone c .denied ((s.put Reg.RMC_TCMD_OP 1).put Reg.RMC_TCMD_CNT c))) ∧
  (∀ (t : TallyCtr) (goal : Nat), t.marginal = false →
    (0xFFFFFFFF < goal → tallyNext t goal = .saturated) ∧
    (goal ≤ 0xFFFFFFFF → goal ≤ t.value → tallyNext t goal = .done) ∧
    (goal ≤ 0xFFFFFFFF → t.value < goal → goal ≤ t.value + 256 → t.cells < 256 → tallyNext t goal = .cell) ∧
    (goal ≤ 0xFFFFFFFF → t.value < goal → goal ≤ t.value + 256 → t.cells = 256 → t.old = 0 → tallyNext t goal = .roll) ∧
    (goal ≤ 0xFFFFFFFF → t.value + 256 < goal → t.old = 0 → tallyNext t goal = .baseTo goal)) ∧
  (∀ (c v : Nat) (s : State), c < s.nv.tally.length → (s.tally c).marginal = false →
    ((s.tally c).cells = 256 → ((baseDone c ((s.tally c).base + 256) s).tally c).value = (s.tally c).value) ∧
    ((baseDone c v s).tally c).value = v ∧ ((baseDone c v s).tally c).gen = (s.tally c).gen + 1 ∧
    (∀ k, k ≠ c → (baseDone c v s).tally k = s.tally k)) ∧
  (∀ (op : TallyRun) (at_ : Nat) (s : State), s.rmc.op = some op → op.cellAt = some at_ → s.rmc.stopped = false →
    (s.after at_ 3200 = true → exec .tallyCellDone s = .next (cellOver op s)) ∧
    (s.after at_ 3200 = false → exec .tallyCellDone s = .next s)) ∧
  (∀ (op : TallyRun) (goal : Nat) (s : State), op.req.ctr < s.nv.tally.length → (s.tally op.req.ctr).marginal = false → op.goal = some goal →
    goal = (s.tally op.req.ctr).value + 1 →
    cellOver op s = tallyOver op .ok
      (s.setTally op.req.ctr { s.tally op.req.ctr with cells := (s.tally op.req.ctr).cells + 1, marginal := false })) ∧
  (∀ s : State, s.rmc.op = none → exec .tallyCellDone s = .next s) ∧
  (∀ (c : Nat) (s : State), (s.rmc.erasing.any (fun p => p.1 == c && s.after p.2 400) = false → exec (.tallySetEraseDone c) s = .next s) ∧
    (s.rmc.erasing.any (fun p => p.1 == c && s.after p.2 400) = true → s.rmc.op = none →
      exec (.tallySetEraseDone c) s = .next ({ s with rmc := { s.rmc with erasing := s.rmc.erasing.filter (fun p => p.1 != c) } }.setTally c
        { s.tally c with old := 0 })))

/-- R327: the checks before any key material moves, in their order; a use that passes none of the failures is allowed, and one that fails is counted and
changes no slot. -/
def Obligations.KeyUseChecks : Prop :=
  (∀ (n u e : Nat) (types : List Nat) (m : Master) (w : World) (s : State), types ≠ [] →
    let a := (s.slot n).attr
    let r := s.keyRefusal n types (some u) e m w
    let sound := s.occupied n = true ∧ s.den.unusable.contains n = false ∧ slotCrcOk (s.slotBytes n) = true
    (s.occupied n = false → r = some .empty) ∧
    (s.occupied n = true → s.den.unusable.contains n = true ∨ slotCrcOk (s.slotBytes n) = false → r = some .unusable) ∧
    (sound → types.contains (attrType a) = false → r = some .type) ∧
    (sound → types.contains (attrType a) = true →
      attrBit a u = false ∨ (s.slot n).engine ≠ e ∨ attrBit a (13 + m.id) = false ∨ attrBit a w.bit = false ∨ attrBit a (24 + s.lc) = false →
      r = some .denied) ∧
    (r = none ↔ sound ∧ types.contains (attrType a) = true ∧ attrBit a u = true ∧ (s.slot n).engine = e ∧ attrBit a (13 + m.id) = true ∧
      attrBit a w.bit = true ∧ attrBit a (24 + s.lc) = true)) ∧
  (∀ (n e : Nat) (types : List Nat) (usage : Option Nat) (m : Master) (w : World) (s : State) (r : DenResult),
    s.keyRefusal n types usage e m w = some r → s.occupied n = false ∨ slotCrcOk (s.slotBytes n) = true →
    keyCheck n types usage e m w s = (some r, s.count Reg.VLT_DENY_V 1)) ∧
  (∀ (n e : Nat) (types : List Nat) (usage : Option Nat) (m : Master) (w : World) (s : State),
    s.keyRefusal n types usage e m w = none → keyCheck n types usage e m w s = (none, enter .slot (s.slotBytes n) s)) ∧
  (∀ (n : Nat) (s : State), let t := enter .slot (s.slotBytes n) s
    t.nv = s.nv ∧ t.den = s.den ∧ t.regs = s.regs ∧ t.entered .slot = some (s.slotBytes n))

/-- R323, R330, R331: a slot that is written reads back as it was, whatever its protection mode; its CRC, in the modes that have one, holds; every other
slot reads as before. How K_perm orders the words of SCRAMBLE and BOTH is left open (log 7); this holds for every order. -/
def Obligations.SlotReadsBack : Prop :=
  ∀ (n : Nat) (t : Slot) (s : State), Memory.wf s.nv.mem = true → t.key.length = 32 → t.label.length = 16 → t.attr < 2 ^ 32 → t.engine < 256 →
    t.flags < 256 → t.len < 256 → t.mode < 4 →
    let u : State := { s with nv := { s.nv with mem := memSetN s.nv.mem (n * 64) (s.storedSlot n t) } }
    u.slot n = t ∧ slotCrcOk (u.slotBytes n) = true ∧ (u.occupied n = true ↔ t.mode ≠ 0) ∧ (∀ k, k ≠ n → u.slotBytes k = s.slotBytes k) ∧
    (t.mode = 1 → s.storedSlot n t = t.body ++ be 4 (crc32c t.body)) ∧ Memory.wf u.nv.mem = true

/-- R342: a command that a master with reach writes while no command runs and no other master has the buffer is taken into the vault queue and run;
while one runs, or another has the buffer, the write completes BUSY and nothing runs. R347, R361: a crypto command that a master with reach writes
while none runs and no other master has the buffer is taken and run; otherwise the write completes BUSY. -/
def Obligations.VaultAndCryptoCommandsTaken : Prop :=
  ((∀ (m : Master) (slot : Nat) (s t u : State), fabCheck m Reg.VLT_CMD .b32 true s = (.ok, some (.reg Reg.VLT_CMD), t) → serviceMaster m = true →
     t.bit Reg.VLT_STAT_BUSY = false → t.denBusy m = false → enqueue .den .p3 m .burst t = (.taken, u) → slot < 256 →
     exec (.generate m slot) s = .next (fabAnswer m (.ok, denRun ⟨1, m, slot⟩ (denAccepted m 1 slot u))) ∧
     exec (.importOpen m slot) s = .next (fabAnswer m (.ok, denRun ⟨2, m, slot⟩ (denAccepted m 2 slot u))) ∧
     exec (.importKey m slot) s = .next (fabAnswer m (.ok, denRun ⟨3, m, slot⟩ (denAccepted m 3 slot u))) ∧
     exec (.eraseSlot m slot) s = .next (fabAnswer m (.ok, denRun ⟨4, m, slot⟩ (denAccepted m 4 slot u))) ∧
     exec (.attest m slot) s = .next (fabAnswer m (.ok, denRun ⟨5, m, slot⟩ (denAccepted m 5 slot u))) ∧
     exec (.publicPoint m slot) s = .next (fabAnswer m (.ok, denRun ⟨6, m, slot⟩ (denAccepted m 6 slot u))) ∧
     exec (.lcNonce m) s = .next (fabAnswer m (.ok, denRun ⟨7, m, 0⟩ (denAccepted m 7 0 u))) ∧
     exec (.lcSet m) s = .next (fabAnswer m (.ok, denRun ⟨8, m, 0⟩ (denAccepted m 8 0 u))) ∧
     exec (.exportKey m slot) s = .next (fabAnswer m (.ok, denRun ⟨9, m, slot⟩ (denAccepted m 9 slot u)))) ∧
   (∀ (m : Master) (slot : Nat) (s t : State), fabCheck m Reg.VLT_CMD .b32 true s = (.ok, some (.reg Reg.VLT_CMD), t) → serviceMaster m = true →
     t.bit Reg.VLT_STAT_BUSY = true ∨ t.denBusy m = true →
     exec (.generate m slot) s = .next (fabAnswer m (.busy, t)) ∧ exec (.eraseSlot m slot) s = .next (fabAnswer m (.busy, t)) ∧
     exec (.lcSet m) s = .next (fabAnswer m (.busy, t))) ∧
   (∀ (m : Master) (op slot : Nat) (s : State), regsWf s.regs = true → op < 16 → slot < 256 →
     let t := denAccepted m op slot s
     t.bit Reg.VLT_STAT_BUSY = true ∧ t.bit Reg.VLT_CMD_GO = true ∧ t.get Reg.VLT_STAT_OWN = m.id ∧ t.get Reg.VLT_CMD_SLOT = slot ∧ t.den.claimed = true ∧
     (s.get Reg.VLT_STAT_OWN = m.id → t.den.buf = s.den.buf) ∧ (s.get Reg.VLT_STAT_OWN ≠ m.id → t.den.buf = []))) ∧
  ((∀ (m : Master) (slot dst mode : Nat) (s t u : State), fabCheck m Reg.CRY_CMD .b32 true s = (.ok, some (.reg Reg.CRY_CMD), t) →
     serviceMaster m = true → t.bit Reg.CRY_STAT_BUSY = false → t.cryBusy m = false → enqueue .crypto .p3 m .burst t = (.taken, u) →
     slot < 256 → dst < 256 → mode < 16 →
     let v := fun (op sl d md : Nat) => 0x80000000 + sl * 65536 + d * 256 + op * 16 + md
     exec (.encrypt m slot mode) s = .next (fabAnswer m (.ok, cryRun ⟨1, mode, m, slot, 0⟩ (cryAccepted m (v 1 slot 0 mode) u))) ∧
     exec (.decrypt m slot mode) s = .next (fabAnswer m (.ok, cryRun ⟨2, mode, m, slot, 0⟩ (cryAccepted m (v 2 slot 0 mode) u))) ∧
     exec (.macTag m slot mode) s = .next (fabAnswer m (.ok, cryRun ⟨3, mode, m, slot, 0⟩ (cryAccepted m (v 3 slot 0 mode) u))) ∧
     exec (.hashSha m) s = .next (fabAnswer m (.ok, cryRun ⟨4, 0, m, 0, 0⟩ (cryAccepted m (v 4 0 0 0) u))) ∧
     exec (.signDigest m slot) s = .next (fabAnswer m (.ok, cryRun ⟨5, 0, m, slot, 0⟩ (cryAccepted m (v 5 slot 0 0) u))) ∧
     exec (.verifySig m slot mode) s = .next (fabAnswer m (.ok, cryRun ⟨6, mode, m, slot, 0⟩ (cryAccepted m (v 6 slot 0 mode) u))) ∧
     exec (.agree m slot dst) s = .next (fabAnswer m (.ok, cryRun ⟨7, 0, m, slot, dst⟩ (cryAccepted m (v 7 slot dst 0) u))) ∧
     exec (.derive m slot dst) s = .next (fabAnswer m (.ok, cryRun ⟨8, 0, m, slot, dst⟩ (cryAccepted m (v 8 slot dst 0) u))) ∧
     exec (.randomBytes m) s = .next (fabAnswer m (.ok, cryRun ⟨9, 0, m, 0, 0⟩ (cryAccepted m (v 9 0 0 0) u)))) ∧
   (∀ (m : Master) (slot mode : Nat) (s t : State), fabCheck m Reg.CRY_CMD .b32 true s = (.ok, some (.reg Reg.CRY_CMD), t) →
     serviceMaster m = true → t.bit Reg.CRY_STAT_BUSY = true ∨ t.cryBusy m = true →
     exec (.encrypt m slot mode) s = .next (fabAnswer m (.busy, t)) ∧ exec (.randomBytes m) s = .next (fabAnswer m (.busy, t))) ∧
   (∀ (m : Master) (v : Nat) (s : State), regsWf s.regs = true →
     let t := cryAccepted m v s
     t.bit Reg.CRY_STAT_BUSY = true ∧ t.get Reg.CRY_STAT_OWN = m.id ∧ t.cry.claimed = true ∧ t.get Reg.CRY_CMD_SLOT = v / 65536 % 256 ∧
     (s.get Reg.CRY_STAT_OWN = m.id → t.cry.buf = s.cry.buf) ∧ (s.get Reg.CRY_STAT_OWN ≠ m.id → t.cry.buf = [])))

/-- R333 to R338, R342: what an accepted command does: slots are filled only while empty and only in the states that allow it; an erasure needs the
master's bit in a general slot; PUBLIC and ATTEST answer with the point and the signed statement; only the transitions of R338 exist. -/
def Obligations.DenCommandResults : Prop :=
  (∀ (op n : Nat) (m : Master) (s : State), 7 ≤ n → n < 16 → op ≠ 7 → op ≠ 8 → denRun ⟨op, m, n⟩ s = denDone .format [] s) ∧
  (∀ (n : Nat) (m : Master) (r : DenResult) (s : State), n < 7 ∨ 16 ≤ n → s.slotRefusal n = some r →
    denRun ⟨1, m, n⟩ s = denDone r [] s ∧ denRun ⟨3, m, n⟩ s = denDone r [] { s with den := { s.den with pair := none } } ∧ denRun ⟨4, m, n⟩ s = denDone r [] s) ∧
  (∀ s : State, s.slotRefusal 0 = some .state ∧ (∀ n, 1 ≤ n → n < 7 → s.lc ≠ 1 → s.lc ≠ 3 → s.slotRefusal n = some .state) ∧
    (∀ n, 16 ≤ n → n < 255 → s.lc = 0 ∨ 4 ≤ s.lc → s.slotRefusal n = some .state) ∧
    (∀ n, 16 ≤ n → n < 255 → 1 ≤ s.lc → s.lc ≤ 3 → s.slotRefusal n = none)) ∧
  (∀ (n : Nat) (m : Master) (k : Bytes) (s t u : State), 16 ≤ n → s.slotRefusal n = none →
    let attr := fieldBe (s.vltBuf 0 4) 0 4
    attrsFit n attr (fieldBe (s.vltBuf 4 1) 0 1) 0 (if attrType attr = 1 then 16 else 32) false = true → attrType attr ≠ 5 → s.vltBuf 5 3 = zeros 3 →
    (s.occupied n = true → denRun ⟨1, m, n⟩ s = denDone .occupied [] s) ∧
    (s.occupied n = false → drawKey (attrType attr) s = (.bytes k, t) →
      submitGroup .p3 ⟨[t.slotWrite n ⟨k, attrStored n attr 0, fieldBe (s.vltBuf 4 1) 0 1, 0, (if attrType attr = 1 then 16 else 32), s.vltBuf 8 16, 0⟩],
        .denCmd⟩ t = (.taken, u) → denRun ⟨1, m, n⟩ s = u) ∧
    (s.occupied n = false → drawKey (attrType attr) s = (.wait, t) → denRun ⟨1, m, n⟩ s = { t with den := { t.den with wait := some ⟨1, m, n⟩ } })) ∧
  (∀ (n : Nat) (m : Master) (s u : State), 16 ≤ n → n < 255 → s.slotRefusal n = none →
    (s.occupied n = false → denRun ⟨4, m, n⟩ s = denDone .empty [] s) ∧
    (s.occupied n = true → attrBit (s.slot n).attr (13 + m.id) = false → denRun ⟨4, m, n⟩ s = denDone .denied [] s) ∧
    (s.occupied n = true → attrBit (s.slot n).attr (13 + m.id) = true → submitGroup .p3 ⟨[(n * 64, zeros 64)], .denCmd⟩ s = (.taken, u) →
      denRun ⟨4, m, n⟩ s = u)) ∧
  (∀ (n : Nat) (m : Master) (s : State), n < 7 ∨ 16 ≤ n → s.slotRefusal n = none → s.den.pair = none →
    denRun ⟨3, m, n⟩ s = denDone .auth [] { s with den := { s.den with pair := none } }) ∧
  (∀ (n : Nat) (m : Master) (p : Bytes) (s : State), n < 7 ∨ 16 ≤ n → s.occupied n = true → s.den.unusable.contains n = false →
    slotCrcOk (s.slotBytes n) = true → s.publicPoint n = some p → denRun ⟨6, m, n⟩ s = denDone .ok p s) ∧
  (∀ (n : Nat) (m : Master) (r : DenResult) (s t : State), n < 7 ∨ 16 ≤ n → keyCheck 0 [4] (some 10) 8 .session .internal s = (some r, t) →
    denRun ⟨5, m, n⟩ s = denDone .unusable [] t) ∧
  (∀ (n : Nat) (m : Master) (r : DenResult) (s t : State), n < 7 ∨ 16 ≤ n → s.den.pair = none →
    keyCheck 0 [4] (some 10) 8 .session .internal s = (some r, t) → denRun ⟨2, m, n⟩ s = denDone .unusable [] t) ∧
  (∀ (n : Nat) (m : Master) (s t : State), 16 ≤ n → keyCheck n [] none 0 m (s.world m) s = (none, t) →
    attrExport (t.slot n).attr = false → denRun ⟨9, m, n⟩ s = denDone .denied [] (t.count Reg.VLT_DENY_V 1)) ∧
  (∀ (m : Master) (b : Bytes) (s t : State), randBytes false 16 s = (.bytes b, t) →
    denRun ⟨7, m, 0⟩ s = denDone .ok b { t with den := { t.den with nonce := some (b, t.now) } }) ∧
  (∀ (m : Master) (s : State), let target := fieldBe (s.vltBuf 0 1) 0 1
    (s.lc = 0 → target = 1 → s.occupied 0 = true →
      denRun ⟨8, m, 0⟩ s = denDone .ok [] (lcEnter 1 m { s with straps := { s.straps with prv := 3 } })) ∧
    (s.lc = 1 → target = 2 → s.slotsGood [0, 1, 2, 4] = true →
      denRun ⟨8, m, 0⟩ s = denDone .ok [] (lcEnter 2 m { s with straps := { s.straps with fld := 3 } })) ∧
    (s.lc = 1 → target = 2 → s.slotsGood [0, 1, 2, 4] = false → denRun ⟨8, m, 0⟩ s = denDone .state [] s) ∧
    (s.lc = 2 ∧ target = 3 ∨ s.lc = 3 ∧ target = 2 ∨ 1 ≤ s.lc ∧ s.lc ≤ 3 ∧ target = 4 → s.img.run = none →
      denRun ⟨8, m, 0⟩ s = denDone .state [] s) ∧
    (∀ i, s.lc = 2 → target = 3 → s.img.run = some i → s.den.nonce = none → denRun ⟨8, m, 0⟩ s = denDone .nonce [] s) ∧
    (target = 0 ∨ 4 < target ∨ target = s.lc ∨ s.lc = 4 → denRun ⟨8, m, 0⟩ s = denDone .state [] s))

/-- R330, R334, R339, R341, R342: the deadlines of the Den, the CH4410 window's key registers and the protection rewrite. -/
def Obligations.DenTimesAndWindow : Prop :=
  (∀ (p : ImportPair) (s : State), s.den.pair = some p →
    (s.after p.openedAt 10000000 = true → exec .importPairExpiry s = .next { s with den := { s.den with pair := none } }) ∧
    (s.after p.openedAt 10000000 = false → exec .importPairExpiry s = .next s)) ∧
  (∀ (b : Bytes) (at_ : Nat) (s : State), s.den.nonce = some (b, at_) →
    (s.after at_ 60000000 = true → exec .lcNonceExpiry s = .next { s with den := { s.den with nonce := none } }) ∧
    (s.after at_ 60000000 = false → exec .lcNonceExpiry s = .next s)) ∧
  (∀ s : State, s.get Reg.VLT_STAT_OWN ≠ 7 → s.bit Reg.VLT_STAT_BUSY = false →
    (s.after s.den.touchedAt 100000 = true →
      exec .vltBufIdle s = .next ({ s with den := { s.den with claimed := false, buf := [] } }.put Reg.VLT_STAT_OWN 7)) ∧
    (s.after s.den.touchedAt 100000 = false → exec .vltBufIdle s = .next s)) ∧
  (∀ (m : Master) (i v : Nat) (s t : State), i < 4 →
    fabCheck m (0x40000070 + 4 * i) .b32 true s = (.ok, some (.reg (0x40000070 + 4 * i)), t) →
    exec (.legacyKeyWrite m i v) s = .next (fabAnswer m (legacyWrite m i v t))) ∧
  (∀ (m : Master) (i v : Nat) (s : State), s.legacyOn = false ∨ (m ≠ .host ∧ m ≠ .can) ∨ (s.lc ≠ 1 ∧ s.lc ≠ 3) → legacyWrite m i v s = (.denied, s)) ∧
  (∀ (m : Master) (a b c d : Nat) (s : State), s.legacyOn = true → m = .host ∨ m = .can → s.lc = 1 ∨ s.lc = 3 →
    legacyWrite m 0 a s = (.ok, { s with den := { s.den with legacy := [a], legacyAt := s.now } }) ∧
    (s.den.legacy = [a] → s.after s.den.legacyAt 100000 = false →
      legacyWrite m 1 b s = (.ok, { s with den := { s.den with legacy := [a, b], legacyAt := s.now } })) ∧
    (s.den.legacy = [a, b, c] → s.after s.den.legacyAt 100000 = false → s.bit Reg.VLT_STAT_BUSY = false →
      legacyWrite m 3 d s = (.ok, denCommit [({ s with den := { s.den with legacy := [] } }).slotWrite 255 (legacySlot [a, b, c, d])] .denLegacy
        ({ s with den := { s.den with legacy := [] } }.setBit Reg.VLT_STAT_BUSY true))) ∧
    (s.den.legacy.length ≠ 3 → s.bit Reg.VLT_STAT_BUSY = false →
      legacyWrite m 3 d s = (.ok, denDone .sequence [] { s with den := { s.den with legacy := [] } }))) ∧
  (∀ s : State, s.den.legacy ≠ [] →
    (s.after s.den.legacyAt 100000 = true → exec .legacyKeyGap s = .next { s with den := { s.den with legacy := [] } }) ∧
    (s.after s.den.legacyAt 100000 = false → exec .legacyKeyGap s = .next s)) ∧
  (∀ s : State, s.boot.profileAt = none ∨ s.den.rewrite = [] → exec .protectionRewrite s = .next s) ∧
  (∀ (at_ n : Nat) (rest : List Nat) (s u : State), s.boot.profileAt = some at_ → s.den.rewrite = n :: rest →
    (s.occupied n = false ∨ (s.slot n).mode = s.slotMode → exec .protectionRewrite s = .next { s with den := { s.den with rewrite := rest } }) ∧
    (s.occupied n = true → (s.slot n).mode ≠ s.slotMode → s.den.unusable.contains n = false → s.slotPending n = false →
      submitGroup .p3 ⟨[s.slotWrite n (s.slot n)], .denRewrite n⟩ s = (.taken, u) →
      exec .protectionRewrite s = .next { u with den := { u.den with rewrite := rest } }))

/-- R345, R347: what an accepted command computes: a slot that fails a check gives the Den's result; a length or option outside Table 15-1 ends FORMAT;
otherwise the standard function of the key and the buffer's data, a tag that fails ends AUTH with an output of zeros, and a derived key goes into an
empty general slot and nowhere else. -/
def Obligations.CryptoCommandResults : Prop :=
  (∀ (op : Nat) (c : CryCmd) (r : DenResult) (s t : State), c.op = op → 16 ≤ c.slot → 1 ≤ op → op ≤ 2 →
    keyCheck c.slot [1, 2] (some (5 + op)) 0 c.master (s.world c.master) s = (some r, t) → cryRun c s = cryDone (denCry r) [] t) ∧
  (∀ (c : CryCmd) (s t : State), c.op = 1 → cryKey c [1, 2] 6 s = (none, t) →
    (t.cipherOk c.mode = false → cryRun c s = cryDone .format [] t) ∧
    (t.cipherOk c.mode = true → c.mode = 0 →
      cryRun c s = cryDone .ok (cbcEnc (t.keyBytes c.slot) (t.cryBuf 0 16) (t.cryBuf 16 t.dlen)) (symTake t.dlen t)) ∧
    (t.cipherOk c.mode = true → c.mode = 1 →
      cryRun c s = cryDone .ok (ctrCrypt (t.keyBytes c.slot) (t.cryBuf 0 16) (t.cryBuf 16 t.dlen)) (symTake t.dlen t)) ∧
    (t.cipherOk c.mode = true → c.mode = 2 →
      let w := ccmEnc (t.keyBytes c.slot) ((t.cryBuf 0 16).take 13) (t.cryBuf 16 t.alen) (t.cryBuf (16 + t.alen) t.dlen) t.tagLen
      cryRun c s = cryDone .ok (w.1 ++ w.2) (symTake t.dlen t))) ∧
  (∀ (c : CryCmd) (s t : State), c.op = 2 → c.mode = 2 → cryKey c [1, 2] 7 s = (none, t) → t.cipherOk 2 = true →
    let r := ccmDec (t.keyBytes c.slot) ((t.cryBuf 0 16).take 13) (t.cryBuf 16 t.alen) (t.cryBuf (16 + t.alen) t.dlen)
      (t.cryBuf (16 + t.alen + t.dlen) t.tagLen)
    (r = none → cryRun c s = cryDone .auth (zeros t.dlen) (symTake t.dlen t)) ∧
    (∀ b, r = some b → cryRun c s = cryDone .ok b (symTake t.dlen t))) ∧
  (∀ (c : CryCmd) (s t : State), c.op = 3 → c.mode = 1 → cryKey c [3] 8 s = (none, t) → t.lengthOk = true → 4 ≤ t.tagLen → t.tagLen ≤ 32 →
    cryRun c s = cryDone .ok ((hmac (t.keyBytes c.slot) (t.cryBuf 0 t.dlen)).take t.tagLen) (symTake t.dlen t)) ∧
  (∀ (c : CryCmd) (s : State), c.op = 4 → c.mode = 0 →
    (s.lengthOk = true → cryRun c s = cryDone .ok (sha256 (s.cryBuf 0 s.dlen)) (symTake s.dlen s)) ∧
    (s.lengthOk = false → cryRun c s = cryDone .format [] s)) ∧
  (∀ (c : CryCmd) (sig : Bytes) (s t u : State), c.op = 5 → c.mode = 0 → cryKey c [4] 10 s = (none, t) →
    (signWith (beNat (fit 32 (t.slot c.slot).key)) (t.cryBuf 0 32) t = (.bytes sig, u) → cryRun c s = cryDone .ok sig u) ∧
    (signWith (beNat (fit 32 (t.slot c.slot).key)) (t.cryBuf 0 32) t = (.fail, u) → cryRun c s = cryDone .entropyFail [] u)) ∧
  (∀ (c : CryCmd) (s : State), c.op = 6 → c.mode = 1 →
    (ecdsaVerify (s.cryBuf 96 64) (s.cryBuf 0 32) (s.cryBuf 32 64) = true → cryRun c s = cryDone .ok [] s) ∧
    (ecdsaVerify (s.cryBuf 96 64) (s.cryBuf 0 32) (s.cryBuf 32 64) = false → cryRun c s = cryDone .auth [] s)) ∧
  (∀ (c : CryCmd) (s t : State), c.op = 7 → c.mode = 0 → cryKey c [4] 11 s = (none, t) → t.derivedFits [6] = true →
    (c.dst < 16 → cryRun c s = cryDone .format [] t) ∧
    (16 ≤ c.dst → t.slotRefusal c.dst = none → t.occupied c.dst = true → cryRun c s = cryDone .occupied [] t) ∧
    (∀ z, t.dstRefusal c.dst = none → ecdh (beNat (fit 32 (t.slot c.slot).key)) (t.cryBuf 20 64) = some z → cryRun c s = cryCommit c z t) ∧
    (t.dstRefusal c.dst = none → ecdh (beNat (fit 32 (t.slot c.slot).key)) (t.cryBuf 20 64) = none → cryRun c s = cryDone .auth [] t)) ∧
  (∀ (c : CryCmd) (s t : State), c.op = 8 → c.mode = 0 → cryKey c [3, 6] 9 s = (none, t) → fieldBe (t.cryBuf 20 2) 0 2 = 256 →
    t.derivedFits [2, 3] = true → t.dstRefusal c.dst = none →
    let n := fieldBe (t.cryBuf 22 1) 0 1
    cryRun c s = cryCommit c (kdf (t.keyBytes c.slot) (t.cryBuf 24 n) (t.cryBuf (24 + n) (fieldBe (t.cryBuf 23 1) 0 1)) 256) t) ∧
  (∀ (c : CryCmd) (b : Bytes) (s t : State), c.op = 9 → c.mode = 0 → 0 < s.dlen → s.dlen ≤ 2048 →
    (randBytes false s.dlen s = (.bytes b, t) → cryRun c s = cryDone .ok b t) ∧
    (randBytes false s.dlen s = (.fail, t) → cryRun c s = cryDone .entropyFail [] t)) ∧
  (∀ s : State, s.get Reg.CRY_STAT_OWN ≠ 7 → s.bit Reg.CRY_STAT_BUSY = false →
    (s.after s.cry.touchedAt 100000 = true →
      exec .cryBufIdle s = .next ({ s with cry := { s.cry with claimed := false, buf := [] } }.put Reg.CRY_STAT_OWN 7)) ∧
    (s.after s.cry.touchedAt 100000 = false → exec .cryBufIdle s = .next s)) ∧
  (∀ (c : Cls) (i : QItem) (s t : State), s.cry.symBusy = some c → popQueue .crypto s = some (i, t) →
    (i.cls = .p0 → c ≠ .p0 → exec .symmetricStepPreempt s =
      .next { t with cry := { t.cry with symBusy := some .p0, symHeld := c :: t.cry.symHeld } }) ∧
    (i.cls ≠ .p0 ∨ c = .p0 → exec .symmetricStepPreempt s = .next s))

/-- R349, R350, R352 to R360: the entropy source: a window that passes releases its conditioned bits to the pool, one that fails stops all output, keeps
the time of the failure and refuses every waiting consumer; raw test mode is entered only in BLANK and SERVICE, blocks all output and ends by a
write of 0 or after 10 s; an external read waits 1 ms at most; a self-restart follows the sealed record. -/
def Obligations.EntropySource : Prop :=
  (∀ (w : Window) (s : State), s.entropyOn = true →
    let t := { s with ent := { s.ent with runs := runsAfter s.ent.runs w.raw, rails := railsAfter s.ent.rails w.rails } }
    let u := { t with ent := { t.ent with samples := w.raw } }
    (∀ test latch, windowJudge s.ent.runs s.ent.rails w = some (test, latch) →
      (s.bit Reg.ENT_STAT_RAW = false → exec (.healthWindowClose w) s = .next (healthFail test latch t)) ∧
      (s.bit Reg.ENT_STAT_RAW = true → exec (.healthWindowClose w) s = .next ((u.put Reg.ENT_STAT_FTEST test.code).put Reg.ENT_STAT_FLATCH latch)) ∧
      exec (.healthTestFail w) s = .next (healthFail test latch s)) ∧
    (windowJudge s.ent.runs s.ent.rails w = none → exec (.healthTestFail w) s = .next s ∧
      (s.bit Reg.ENT_STAT_RAW = true → exec (.healthWindowClose w) s = .next u) ∧
      (s.bit Reg.ENT_STAT_RAW = false → s.bit Reg.ENT_STAT_FAIL = false →
        let v := { t with ent := { t.ent with pool := (s.ent.pool ++ released w.raw).take 128 } }
        (s.ent.starting = 0 → exec (.healthWindowClose w) s = .next (entropyKick v)) ∧
        (s.ent.starting = 1 → exec (.healthWindowClose w) s = .next (entropyKick (instantiate v))) ∧
        (s.ent.starting = 2 → exec (.healthWindowClose w) s = .next { t with ent := { t.ent with starting := 1, pool := [] } })))) ∧
  (∀ (w : Window) (s : State), s.entropyOn = false → exec (.healthWindowClose w) s = .next s ∧ exec (.healthTestFail w) s = .next s) ∧
  (∀ (runs : List (Bool × Nat)) (rails : List Nat) (w : Window),
    (∀ n, n < 4 → windowFails (runs.getD n (false, 0)) (rails.getD n 0) (w.raw.getD n []) (w.rails.getD n []) = none) ↔
    windowJudge runs rails w = none) ∧
  (windowFails (true, 1) 0 (List.replicate 40 true ++ List.replicate 40 false) [] = some .repetition ∧
    windowFails (true, 0) 0 (List.replicate 40 true ++ List.replicate 40 false) [] = none ∧
    windowFails (true, 0) 200 [] (List.replicate 56 true) = some .bias ∧ windowFails (true, 0) 200 [] (List.replicate 55 true ++ [false]) = none) ∧
  (∀ (test : HealthTest) (latch : Nat) (s : State), s.bit Reg.ENT_STAT_RAW = true →
    healthFail test latch s = (s.put Reg.ENT_STAT_FTEST test.code).put Reg.ENT_STAT_FLATCH latch) ∧
  (∀ (test : HealthTest) (latch : Nat) (s : State), s.bit Reg.ENT_STAT_RAW = false → s.bit Reg.ENT_STAT_FAIL = false → regsWf s.regs = true →
    latch < 4 → let t := healthFail test latch s
    t.ent.drbg = none ∧ t.ent.pool = [] ∧ t.bit Reg.ENT_STAT_FAIL = true ∧ t.entAon.failAt = (s.now :: s.entAon.failAt).take 2 ∧
    t.ent.waiting = [] ∧ (s.recentFails.length < 2 → t.entAon.latched = s.entAon.latched) ∧ (2 ≤ s.recentFails.length → t.entAon.latched = true)) ∧
  (∀ (pr : Bool) (n : Nat) (s : State), s.bit Reg.ENT_STAT_FAIL = true → randReq pr n s = (.fail, s)) ∧
  (∀ (n : Nat) (d : Drbg) (s : State), s.bit Reg.ENT_STAT_FAIL = false → s.ent.drbg = some d → s.ent.reseedDue = false → d.reqs < 1048575 →
    randReq false n s = (.bytes (drbgGen d n).1, { s with ent := { s.ent with drbg := some (drbgGen d n).2 } })) ∧
  (∀ (m : Master) (st : FabStatus) (x : Option Target) (s t : State), fabCheck m Reg.ENT_RAND .b32 false s = (st, x, t) →
    (st = .ok → exec (.entRandRead m) s = .next (randRead m t)) ∧ (st ≠ .ok → exec (.entRandRead m) s = .next (fabAnswer m (st, t)))) ∧
  (∀ (w : Master × Nat) (s : State), s.ent.waiting.find? (fun w => serviceMaster w.1 && s.after w.2 1000) = some w →
    exec .entropyWaitTimeout s = .next (randAnswer w.1 .entropyWait []
      ({ s with ent := { s.ent with waiting := s.ent.waiting.erase w } }.count Reg.ENT_CNT_WAITS 1))) ∧
  (∀ (m : Master) (sel : Nat) (s t : State), fabCheck m Reg.ENT_CTL .b32 true s = (.ok, some (.reg Reg.ENT_CTL), t) → serviceMaster m = true →
    sel < 8 → t.bit Reg.ENT_STAT_RAW = false →
    (t.lc = 0 ∨ t.lc = 3 → exec (.rawModeEnter m sel) s = .next (fabAnswer m (.ok, rawEnter (t.put Reg.ENT_CTL_RAWSEL sel)))) ∧
    (t.lc ≠ 0 → t.lc ≠ 3 → exec (.rawModeEnter m sel) s = .next (fabAnswer m (.denied, t))) ∧
    (exec (.rawModeExit m) s = .next (fabAnswer m (.ok, rawLeave (t.put Reg.ENT_CTL_RAWSEL 0))))) ∧
  (∀ (m : Master) (s t : State), fabCheck m Reg.ENT_CTL .b32 true s = (.ok, some (.reg Reg.ENT_CTL), t) → serviceMaster m = true →
    (s.rd Reg.ENT_CTL).toNat = 0 → exec (.reseed m) s = .next (fabAnswer m (.ok, reseedAsk (rawLeave (t.put Reg.ENT_CTL_RAWSEL 0))))) ∧
  (∀ s : State, regsWf s.regs = true → let t := rawEnter s
    t.ent.drbg = none ∧ t.ent.pool = [] ∧ t.bit Reg.ENT_STAT_RAW = true ∧ t.ent.rawAt = s.now) ∧
  (∀ (m : Master) (st : FabStatus) (v : Nat) (s t : State), fabRead m Reg.ENT_RAW .b32 s = (st, v, t) → exec (.entRawRead m) s =
    .next (answerTo m st [BitVec.ofNat 32 v] t)) ∧
  (∀ s : State, s.bit Reg.ENT_STAT_RAW = true →
    (s.after s.ent.rawAt 10000000 = true → exec .rawModeTimeout s = .next (rawLeave s)) ∧
    (s.after s.ent.rawAt 10000000 = false → exec .rawModeTimeout s = .next s)) ∧
  (∀ (at_ : Nat) (s : State), s.ent.restartDue = some at_ →
    ((s.queue .ingest).items = [] ∨ s.after at_ 10000 = true →
      exec .entropySelfRestart s = .next (requestRestart 0x4301 { s with ent := { s.ent with restartDue := none } })) ∧
    ((s.queue .ingest).items ≠ [] → s.after at_ 10000 = false → exec .entropySelfRestart s = .next s))

/-- R366, R368: the tag as an ISO/IEC 14443-3 Type A card: the field powers it into IDLE; REQA is answered in IDLE only, WUPA also in HALT; two cascade
levels of anticollision and SELECT give SAK 0x04 and 0x20; RATS gives the ATS with FWI; PPS is answered only for DRI = DSI = 0; HLTA and DESELECT
lead to HALT; a lost field ends everything; the AID selects the application; other commands of ISO/IEC 7816-4 get the status words of R368. What a
frame out of place does follows ISO/IEC 14443-3 (log 40). R368 to R371, R378: the application: the checks before a command, the AUTH proofs, reading
committed leaves, the summary from one snapshot. Each statement is for a command that has passed the checks, whose data and answer counter they
give. -/
def Obligations.TagActivationAndApplication : Prop :=
  ((∀ s : State, (s.tag.field = true → exec .fieldOn s = .next s) ∧ (s.tag.field = false → exec .fieldOn s =
     .next ({ s with tag := { s.tag with field := true, st := .idle, star := false, cascade := 1, iso4 := false } }.setDom .tag true))) ∧
   (∀ s : State, ∃ t, exec .fieldLoss s = .next t ∧ t.tag.field = false ∧ t.tag.st = .idle ∧ t.tag.kts = none ∧ t.tag.snap = none ∧
     t.tag.app = false ∧ t.tag.fails = 0 ∧ t.tag.held.all (fun h => h.by_.isSome) = true) ∧
   (∀ s : State, s.tagHears = true → s.tag.iso4 = false →
     (s.tag.st = .idle → exec .reqa s = .next (tagReady false s) ∧ exec .wupa s = .next (tagReady false s)) ∧
     (s.tag.st = .halt → exec .reqa s = .next (tagMute s) ∧ exec .wupa s = .next (tagReady true s)) ∧
     (s.tag.st = .ready → exec .reqa s = .next (tagMute (tagFall s)) ∧ exec .wupa s = .next (tagMute (tagFall s)))) ∧
   (∀ s : State, s.tagHears = false → exec .reqa s = .next s ∧ exec .wupa s = .next s ∧ exec .rats s = .next s ∧ exec .hlta s = .next s) ∧
   (∀ s : State, (s.levelBytes 1).length = 5 ∧ (s.levelBytes 2).length = 5 ∧ (s.levelBytes 1).head? = some 0x88 ∧
     s.tagUid = (s.levelBytes 1).tail.take 3 ++ (s.levelBytes 2).take 4) ∧
   (∀ (level : Nat) (known : List Bool) (s : State), s.tagHears = true → s.tag.iso4 = false → s.tag.st = .ready →
     (level = s.tag.cascade → known.isPrefixOf (airBits (s.levelBytes level)) = true → exec (.anticollision level known) s =
       .next { s with outs := { s.outs with tag := [], tagBits := (airBits (s.levelBytes level)).drop known.length } }) ∧
     (level ≠ s.tag.cascade ∨ known.isPrefixOf (airBits (s.levelBytes level)) = false →
       exec (.anticollision level known) s = .next (tagMute (tagFall s)))) ∧
   (∀ s : State, s.tagHears = true → s.tag.iso4 = false → s.tag.st = .ready →
     (s.tag.cascade = 1 → exec (.isoSelect 1 (s.levelBytes 1)) s = .next (tagSay [0x04] { s with tag := { s.tag with cascade := 2 } })) ∧
     (s.tag.cascade = 2 → exec (.isoSelect 2 (s.levelBytes 2)) s = .next (tagSay [0x20] { s with tag := { s.tag with st := .active } })) ∧
     (∀ level uid, uid ≠ s.levelBytes level → exec (.isoSelect level uid) s = .next (tagMute (tagFall s)))) ∧
   (∀ s : State, s.tagHears = true → s.tag.iso4 = false → s.tag.st = .active →
     exec .rats s = .next (tagSay [0x05, 0x78, 0x00, BitVec.ofNat 8 (s.tagAon.fwi * 16), 0x00] { s with tag := { s.tag with iso4 := true } })) ∧
   (∀ (dri dsi : Nat) (s : State), s.tagHears = true → s.tag.iso4 = true →
     exec (.ppsRequest 0 0) s = .next (tagSay [0xD0] s) ∧ (dri ≠ 0 ∨ dsi ≠ 0 → exec (.ppsRequest dri dsi) s = .next (tagMute s)) ∧
     exec .deselect s = .next (tagSay [0xC2] (tagHalt s))) ∧
   (∀ s : State, s.tagHears = true → s.tag.st = .active → exec .hlta s = .next (tagMute (tagHalt s))) ∧
   (∀ s : State, (tagHalt s).tag.st = .halt ∧ (tagHalt s).tag.kts = none ∧ (tagHalt s).tag.snap = none ∧ (tagHalt s).tag.app = false) ∧
   (∀ (a : Apdu) (ins : Nat) (s : State), s.apduHeard = true → a.crc = true →
     let t := authEnd { s with tag := { s.tag with snap := none } }
     (a.cla = 0x80 ∨ a.cla = 0x84 → exec (.apduSelect a ins) s = .next (tagReply none [] (if s.tag.app then 0x6D00 else 0x6985) s)) ∧
     (a.cla ≠ 0 → a.cla ≠ 0x80 → a.cla ≠ 0x84 → exec (.apduSelect a ins) s = .next (tagReply none [] 0x6E00 s)) ∧
     (a.cla = 0 → ins ≠ 0xA4 → exec (.apduSelect a ins) s = .next (tagReply none [] 0x6D00 s)) ∧
     (a.cla = 0 → a.p1 ≠ 4 ∨ a.p2 ≠ 0 → exec (.apduSelect a 0xA4) s = .next (tagReply none [] 0x6A86 s)) ∧
     (a.cla = 0 → a.p1 = 4 → a.p2 = 0 → a.data.length ≠ 8 → exec (.apduSelect a 0xA4) s = .next (tagReply none [] 0x6700 t)) ∧
     (a.cla = 0 → a.p1 = 4 → a.p2 = 0 → a.le = some 256 → a.data.length = 8 → a.data ≠ tagAid →
       exec (.apduSelect a 0xA4) s = .next (tagReply none [] 0x6985 t)) ∧
     (a.cla = 0 → a.p1 = 4 → a.p2 = 0 → a.le = some 256 → a.data = tagAid →
       exec (.apduSelect a 0xA4) s = .next (tagReply none (be 8 s.tagAon.serial ++ be 4 s.tagAon.vehicle ++ be 2 0x0100 ++
         be 1 ((if s.tagAon.key.isSome then 1 else 0) + (if s.wired then 2 else 0)) ++ [0]) 0x9000
         ({ t with tag := { t.tag with app := true } }.setBit Reg.TAG_EVT_FSEL true)))) ∧
   (∀ (a : Apdu) (ins : Nat) (s : State), s.apduHeard = false ∨ a.crc = false →
     exec (.apduSelect a ins) s = .next s ∧ exec (.readLeaf a) s = .next s ∧ exec (.writeLeaf a) s = .next s)) ∧
  ((∀ (a : Apdu) (ins : Nat) (auth : Bool) (s : State),
     (a.cla ≠ 0x80 → a.cla ≠ 0x84 → apduOpen a ins auth s = .refused (tagReply none [] 0x6E00 s)) ∧
     (a.cla = 0x80 ∨ a.cla = 0x84 → s.tag.app = false → apduOpen a ins auth s = .refused (tagReply none [] 0x6985 s)) ∧
     (a.cla = 0x80 → s.tag.app = true → auth = true → apduOpen a ins auth s = .refused (tagReply none [] 0x6982 s)) ∧
     (a.cla = 0x80 → s.tag.app = true → auth = false → apduOpen a ins auth s = .go a.data none s) ∧
     (∀ k, a.cla = 0x84 → s.tag.app = true → s.tag.kts = some k →
       let body := a.data.take (a.data.length - 8)
       let mac := (cmac k (be 2 s.tag.ctr ++ be 1 a.cla ++ be 1 ins ++ be 1 a.p1 ++ be 1 a.p2 ++ body)).take 8
       (8 ≤ a.data.length → a.data.drop (a.data.length - 8) = mac →
         apduOpen a ins auth s = .go body (some s.tag.ctr) { s with tag := { s.tag with ctr := (s.tag.ctr + 1) % 65536 } }) ∧
       (a.data.drop (a.data.length - 8) ≠ mac → apduOpen a ins auth s = .refused (tagReply none [] 0x6988 (authFailed (authEnd s)))))) ∧
   (∀ (a : Apdu) (nr k6 : Bytes) (ctr : Option Nat) (s t0 t : State), s.apduHeard = true → a.crc = true → apduOpen a 0x82 false s = .go nr ctr t0 → t = enter .tag nr t0 →
     t.tagAon.key = some k6 →
     (t.tag.fails < 3 → nr.length = 16 →
       let nt := cmac k6 (ascii "TNC" ++ t.tagAon.salt ++ be 8 t.chron.count.toNat ++ nr)
       exec (.authStep1 a) s = .next (tagReply ctr nt 0x9000 { t with tag := { t.tag with step1 := some (nr, nt) } })) ∧
     (3 ≤ t.tag.fails → exec (.authStep1 a) s = .next (tagReply ctr [] 0x6983 t) ∧ exec (.authStep2 a) s = .next (tagReply ctr [] 0x6983 t))) ∧
   (∀ (a : Apdu) (pr k6 nr nt : Bytes) (ctr : Option Nat) (s t0 t : State), s.apduHeard = true → a.crc = true → apduOpen a 0x82 false s = .go pr ctr t0 → t = enter .tag pr t0 →
     t.tagAon.key = some k6 → t.tag.fails < 3 → t.tag.step1 = some (nr, nt) → pr.length = 16 →
     (pr = cmac k6 (ascii "TAGR" ++ t.tagUid ++ nr ++ nt) → ∃ u, exec (.authStep2 a) s = .next u ∧
       u.tag.kts = some (cmac k6 (ascii "TSK" ++ t.tagUid ++ nr ++ nt)) ∧ u.tag.ctr = 0 ∧ u.tag.step1 = none ∧
       u.outs = (tagReply ctr (cmac k6 (ascii "TAGT" ++ t.tagUid ++ nt ++ nr)) 0x9000 t).outs) ∧
     (pr ≠ cmac k6 (ascii "TAGR" ++ t.tagUid ++ nr ++ nt) → exec (.authStep2 a) s =
       .next (tagReply ctr [] 0x6300 (authFailed { t with tag := { t.tag with step1 := none, fails := t.tag.fails + 1 } })))) ∧
   (∀ (a : Apdu) (n : Nat) (ctr : Option Nat) (s t0 t : State), s.apduHeard = true → a.crc = true → apduOpen a 0xB0 false s = .go [] ctr t0 → t = enter .tag [] t0 → a.p2 < 64 →
     (0x9F < a.p1 → exec (.readLeaf a) s = .next (tagReply ctr [] 0x6A86 t)) ∧
     (a.p1 ≤ 0x9F → leafAuth a.p1 = true → ctr = none → exec (.readLeaf a) s = .next (tagReply ctr [] 0x6982 t)) ∧
     (a.p1 ≤ 0x9F → leafAuth a.p1 = false ∨ ctr.isSome = true → a.le = some n → 0 < n → n ≤ 64 - a.p2 →
       exec (.readLeaf a) s = .next (tagReply ctr (sub (t.leafBytes a.p1) a.p2 n) 0x9000 t))) ∧
   (∀ (a : Apdu) (ctr : Option Nat) (s t0 t : State), s.apduHeard = true → a.crc = true → apduOpen a 0xCA false s = .go [] ctr t0 → t = enter .tag [] t0 → a.p1 = 0 → a.le = some 256 →
     let leaves := (List.range 16).flatMap (fun n => t.leafBytes (0x80 + n))
     (a.p2 = 0 → exec (.getSummary a) s = .next (tagReply ctr (sub leaves 0 256) 0x9000 { t with tag := { t.tag with snap := some leaves } })) ∧
     (∀ b, 0 < a.p2 → a.p2 ≤ 3 → t.tag.snap = some b → exec (.getSummary a) s = .next (tagReply ctr (sub b (a.p2 * 256) 256) 0x9000 t)) ∧
     (0 < a.p2 → a.p2 ≤ 3 → t.tag.snap = none → exec (.getSummary a) s = .next (tagReply ctr [] 0x6985 t))))

/-- R367, R371 to R377: who writes a leaf: the first writer holds it until it commits or discards; the field holds at most four; a leaf held by a wired
master makes WRITE_LEAF wait for three lock WTX, but gives way where both start in one tick of the tag clock; COMMIT goes through the commit queue
in WIRED mode and page by page on the reservoir in FIELD mode, where only a verified marker makes the leaves new. -/
def Obligations.TagLeaves : Prop :=
  (∀ (a : Apdu) (data : Bytes) (ctr : Option Nat) (s t0 t : State), s.apduHeard = true → a.crc = true → apduOpen a 0xD6 true s = .go data ctr t0 → t = enter .tag data t0 → a.p1 ≤ 0x9F →
    a.p2 < 64 → data ≠ [] → data.length ≤ 64 - a.p2 →
    (leafAuth a.p1 = false → exec (.writeLeaf a) s = .next (tagReply ctr [] 0x6986 t)) ∧
    (leafAuth a.p1 = true → t.leafHold a.p1 = none → t.fieldLeaves.length < 4 →
      exec (.writeLeaf a) s = .next (tagReply ctr [] 0x9000 (leafWrite a.p1 none a.p2 data t))) ∧
    (leafAuth a.p1 = true → t.leafHold a.p1 = none → 4 ≤ t.fieldLeaves.length → exec (.writeLeaf a) s = .next (tagReply ctr [] 0x6A84 t)) ∧
    (∀ h, leafAuth a.p1 = true → t.leafHold a.p1 = some h → h.by_ = none →
      exec (.writeLeaf a) s = .next (tagReply ctr [] 0x9000 (leafWrite a.p1 none a.p2 data t))) ∧
    (∀ h, leafAuth a.p1 = true → t.leafHold a.p1 = some h → h.by_.isSome = true → t.fieldLeaves.length < 4 → t.thisTagClock h.since = true →
      exec (.writeLeaf a) s = .next (tagReply ctr [] 0x9000 (leafWrite a.p1 none a.p2 data (wiredUndone h t)))) ∧
    (∀ h, leafAuth a.p1 = true → t.leafHold a.p1 = some h → h.by_.isSome = true → t.fieldLeaves.length < 4 → t.thisTagClock h.since = false →
      exec (.writeLeaf a) s = .next (sendWtx t.lockWtxm { t with tag := { t.tag with lock := some ⟨a.p1, a.p2, data, ctr.getD 0, 1, t.now⟩ } }))) ∧
  (∀ (l : TagLock) (s : State), s.tag.lock = some l → s.after l.at_ (s.lockWtxm * s.fwt / 100) = true →
    (l.wtx < 3 → exec .lockWtxExpiry s = .next (sendWtx s.lockWtxm { s with tag := { s.tag with lock := some { l with wtx := l.wtx + 1, at_ := s.now } } })) ∧
    (3 ≤ l.wtx → exec .lockWtxExpiry s = .next (tagBusy (some l.ctr) { s with tag := { s.tag with lock := none } }))) ∧
  (∀ (a : Apdu) (vres : Nat) (ctr : Option Nat) (s t0 t : State), s.apduHeard = true → a.crc = true → apduOpen a 0xC2 true s = .go [] ctr t0 → t = enter .tag [] t0 → a.p1 = 0 → a.p2 = 0 →
    let pages := leafPages t.fieldLeaves
    let u := { t with tag := { t.tag with vres := min 3300 vres } }
    (pages = [] → exec (.tagCommit a vres) s = .next (commitOk ctr t)) ∧
    (∀ v, pages ≠ [] → t.wired = true → submitGroup .p3 ⟨pages.map (fun p => (p.1 * 32, p.2)), .tagCommit⟩ u = (.taken, v) →
      exec (.tagCommit a vres) s = .next (tagMute { v with tag := { v.tag with commit := ctr } })) ∧
    (pages ≠ [] → t.wired = false → 2700 ≤ vres →
      exec (.tagCommit a vres) s = .next (tagMute { u with tag := { u.tag with commit := ctr, path := some ⟨pages, [], 0⟩ } })) ∧
    (pages ≠ [] → t.wired = false → vres < 2700 → exec (.tagCommit a vres) s = .next (tagNotNow ctr u))) ∧
  (∀ (p : TagPath) (x : Nat × Bytes) (rest : List (Nat × Bytes)) (vres : Nat) (s : State), s.tag.path = some p → p.todo = x :: rest →
    let t := { s with tag := { s.tag with vres := min 3300 vres } }
    (2700 ≤ vres → exec (.fieldPageProgramDone true vres) s =
      .next { t with tag := { t.tag with path := some ⟨rest, p.shadow ++ [x], 0⟩ } }) ∧
    (vres < 2700 → exec (.fieldPageProgramDone true vres) s = .next (pathOver .notNow t)) ∧
    (2 ≤ p.tries → exec (.fieldPageProgramDone false vres) s = .next (pathOver .fail (raise 0x6301 x.1 t)))) ∧
  (∀ (p : TagPath) (vres : Nat) (s : State), s.tag.path = some p → p.todo = [] →
    let t := { s with tag := { s.tag with vres := min 3300 vres } }
    exec (.fieldPageProgramDone true vres) s = .next (pathOver .ok (applyShadow p.shadow t))) ∧
  (∀ (ok : Bool) (vres : Nat) (s : State), s.tag.path = none → exec (.fieldPageProgramDone ok vres) s = .next s) ∧
  (∀ s : State, (s.tagHears = true → s.tag.commit.isSome = true →
      exec .waitingTimeExtension s = .next (sendWtx ((s.commitPrograms * 320000 + s.fwt - 1) / s.fwt) s)) ∧
    (s.tag.commit = none → exec .waitingTimeExtension s = .next s)) ∧
  (∀ (m : Master) (off v : Nat) (w : Width) (s t : State), fabCheck m (0x60040000 + off % 8192) w true s = (.ok, some (.tagMem (off % 8192)), t) →
    exec (.tagMemWrite m off w v) s = .next (fabAnswer m (tagMemPut m (off % 8192) (leBytes w.bytes v) t))) ∧
  (∀ (m : Master) (off : Nat) (b : Bytes) (s : State), windowMaster m = true →
    (s.leafHold (off / 64) = none → tagMemPut m off b s = (.ok, tagAccess m (leafWrite (off / 64) (some m) (off % 64) b s))) ∧
    (∀ h, s.leafHold (off / 64) = some h → h.by_ = some m → tagMemPut m off b s = (.ok, tagAccess m (leafWrite (off / 64) (some m) (off % 64) b s))) ∧
    (∀ h, s.leafHold (off / 64) = some h → h.by_ ≠ some m → tagMemPut m off b s = (.busy, s))) ∧
  (∀ (m : Master) (leaf : Nat) (s t : State), fabCheck m Reg.TAG_WCMT .b32 true s = (.ok, some (.reg Reg.TAG_WCMT), t) → windowMaster m = true →
    leaf < 128 →
    exec (.tagWiredCommit m leaf) s = .next (fabAnswer m (.ok, wiredOp m 1 leaf ((t.put Reg.TAG_WCMT_OP 1).put Reg.TAG_WCMT_LEAF leaf))) ∧
    exec (.tagWiredDiscard m leaf) s = .next (fabAnswer m (.ok, wiredOp m 2 leaf ((t.put Reg.TAG_WCMT_OP 2).put Reg.TAG_WCMT_LEAF leaf)))) ∧
  (∀ (m : Master) (op leaf : Nat) (h : TagLeaf) (s : State),
    (s.leafHold leaf = none → wiredOp m op leaf s = s.put Reg.TAG_WCMT_RESULT 2) ∧
    (s.leafHold leaf = some h → h.by_ ≠ some m → wiredOp m op leaf s = s.put Reg.TAG_WCMT_RESULT 1) ∧
    (s.leafHold leaf = some h → h.by_ = some m → s.tag.lock = none →
      (wiredOp m op leaf s).leafHold leaf = none ∧ (wiredOp m op leaf s).nv = s.nv ∧
      (op = 2 → (wiredOp m op leaf s).tag.sram = s.tag.sram) ∧
      (op = 1 → leaf < 128 → (wiredOp m op leaf s).tag.sram = memSetN s.tag.sram (leaf * 64) h.data))) ∧
  (∀ (h : TagLeaf) (s : State), s.tag.held.find? (fun h => h.by_.isSome && s.after h.at_ 100000) = some h →
    exec .tagWiredHoldTimeout s = .next (lockKick (leafDrop (fun x => x.by_ == h.by_) s))) ∧
  (∀ s : State, s.tag.held.all (fun h => h.by_.isNone) = true → exec .tagWiredHoldTimeout s = .next s)

/-- R382, R383, R385 to R388: the bus: an IGNITION frame sets the state its byte 0 bit 0 carries and restarts the timeout, one without data carries
none; the timeout is five periods or 1 s, holds the state and raises 0x6203; the controller offers the oldest frame of the highest class; bus-off,
its recovery and its length; the J1939 address is answered or lost; N wake-up patterns, a selective-wake frame or 32 decoder errors wake the unit.
The error counts follow ISO 11898-1 (log 36), the comparison of NAMEs SAE J1939-81 (log 37). -/
def Obligations.VehicleBus : Prop :=
  (∀ (f : CanFrame) (e : CanidE) (s : State), s.canOn = true → s.leads = true → f.taken = true → s.canid 0x10 = some e → e.ident = f.id →
    let t := awake (enter .can f.data { s with can := { s.can with ignAt := some s.now } })
    (f.data = [] → exec (.ignitionFrame f) s = .next s) ∧
    (∀ b rest, f.data = b :: rest → (b.getLsbD 0 = s.lines.ignition → exec (.ignitionFrame f) s = .next t) ∧
      (b.getLsbD 0 ≠ s.lines.ignition → exec (.ignitionFrame f) s = .next (ignitionChange (b.getLsbD 0) t)))) ∧
  (∀ (f : CanFrame) (s : State), f.taken = false ∨ s.canid 0x10 = none → exec (.ignitionFrame f) s = .next s) ∧
  (∀ f : CanFrame, f.taken = true ↔ f.ext = true ∧ f.remote = false) ∧
  (∀ (t : Nat) (e : CanidE) (s : State), s.can.ignAt = some t → s.canid 0x10 = some e → s.domOn .lnk = true → s.bit Reg.CAN_STAT_BOFF = false →
    s.leads = true →
    let limit := if e.period = 0 then 1000000 else 5000 * e.period
    (s.after t limit = true → exec .ignitionTimeout s = .next (raise 0x6203 0 { s with can := { s.can with ignAt := none } })) ∧
    (s.after t limit = false → exec .ignitionTimeout s = .next s)) ∧
  (∀ (items rest : List QItem) (i : QItem), popBest items = some (i, rest) → ∃ pre post, items = pre ++ i :: post ∧ rest = pre ++ post ∧
    (∀ j ∈ pre, i.cls.code < j.cls.code) ∧ (∀ j ∈ post, i.cls.code ≤ j.cls.code)) ∧
  (∀ (i : QItem) (m : CanMsg) (s t : State), s.canOn = true → popQueue .canTx s = some (i, t) → i.work = .can m →
    let tec := s.get Reg.CAN_STAT_TEC
    let rec_ := s.get Reg.CAN_STAT_REC
    let u := errorCounts (tec - 1) rec_ t
    (∀ f, u.canFrame m = some f → exec (.canFrameTransmit .sent) s = .next (diagPump { u with can := { u.can with sent := (f :: u.can.sent).take 16 } })) ∧
    (u.canFrame m = none → exec (.canFrameTransmit .sent) s = .next u) ∧
    (tec + 8 ≤ 255 → exec (.canFrameTransmit .error) s = .next (errorCounts (tec + 8) rec_ s)) ∧
    (255 < tec + 8 → exec (.canFrameTransmit .error) s = exec .busOff s) ∧
    (127 < rec_ → exec (.canFrameTransmit .heard) s = .next (errorCounts tec 119 s)) ∧
    (rec_ ≤ 127 → exec (.canFrameTransmit .heard) s = .next (errorCounts tec (rec_ - 1) s)) ∧
    exec (.canFrameTransmit .heardError) s = .next (errorCounts tec (rec_ + 1) s)) ∧
  (∀ (tec rec_ : Nat) (s : State), regsWf s.regs = true → let t := errorCounts tec rec_ s
    t.queues = s.queues ∧ t.can = s.can ∧ t.get Reg.CAN_STAT_TEC = min 255 tec ∧ t.get Reg.CAN_STAT_REC = min 255 rec_ ∧
    (t.bit Reg.CAN_STAT_EPASS = true ↔ 128 ≤ tec ∨ 128 ≤ rec_)) ∧
  (∀ s : State, s.canOn = true →
    let t := { s with can := { s.can with offAt := some s.now, offFault := false, ignAt := none } }
    exec .busOff s = .next (raise 0x6201 0 (((t.setBit Reg.CAN_STAT_BOFF true).put Reg.CAN_STAT_TEC 255).count Reg.CAN_CNT_BOFF 1))) ∧
  (∀ (at_ : Nat) (s : State), s.can.offAt = some at_ → s.after at_ s.recoverTime = false → exec .busOffRecovery s = .next s) ∧
  (∀ (at_ : Nat) (s : State), s.bit Reg.CAN_STAT_BOFF = true → s.can.offAt = some at_ → s.after at_ s.recoverTime = true →
    ∃ t, exec .busOffRecovery s = .next t ∧ t.queues = s.queues ∧ t.can.offAt = none ∧
    t.can.ignAt = some s.now ∧ (regsWf s.regs = true → t.bit Reg.CAN_STAT_BOFF = false)) ∧
  (∀ (t : Nat) (s : State), s.can.offAt = some t → s.bit Reg.CAN_STAT_BOFF = true → s.can.offFault = false →
    (s.after t 1000000 = true → exec .busOffLong s = .next (raise 0x6202 0 { s with can := { s.can with offFault := true } })) ∧
    (s.after t 1000000 = false → exec .busOffLong s = .next s)) ∧
  (∀ (i : Image) (other : Bytes) (s : State), s.img.run = some i → i.flags / 2 % 2 = 1 → s.canOn = true → s.leads = true →
    s.bit Reg.CAN_STAT_LOST = false →
    exec (.j1939AddressClaim none) s = .next ((canSend 0x50 i.canids.name s).setBit Reg.CAN_STAT_CLAIM true) ∧
    (nameValue i.canids.name ≤ nameValue other → exec (.j1939AddressClaim (some other)) s = .next (canSend 0x50 i.canids.name s)) ∧
    (nameValue other < nameValue i.canids.name → exec (.j1939AddressClaim (some other)) s =
      .next (raise 0x6204 0 (((canSend 0x50 i.canids.name (clearQueue .canTx s)).setBit Reg.CAN_STAT_LOST true).setBit Reg.CAN_STAT_CLAIM false)))) ∧
  (∀ (code : Nat) (data : Bytes) (s : State), s.bit Reg.CAN_STAT_LOST = true → canSend code data s = s ∧ diagFrame data s = s) ∧
  (∀ (phase span : Nat) (s : State), s.busAsleep = true → s.bit Reg.CAN_WAKE_SWKEN = false → s.wakeFilter ≤ phase → span ≤ 1000 →
    let pats := s.now :: s.recent (s.powAon.wakeWindow * 1000) s.powAon.wakePats
    (s.powAon.wakeN ≤ pats.length →
      exec (.canWakePattern phase span) s = .next (busWakes 3 { s with powAon := { s.powAon with wakePats := [] } })) ∧
    (pats.length < s.powAon.wakeN → exec (.canWakePattern phase span) s = .next { s with powAon := { s.powAon with wakePats := pats } })) ∧
  (∀ (phase span : Nat) (s : State), s.busAsleep = false ∨ s.bit Reg.CAN_WAKE_SWKEN = true ∨ phase < s.wakeFilter ∨ 1000 < span →
    exec (.canWakePattern phase span) s = .next s) ∧
  (∀ s : State, 5 ≤ s.wakeFilter ∧ s.wakeFilter ≤ 50) ∧
  (∀ (f : CanFrame) (s : State), s.busAsleep = true → s.selective = true →
    (f.taken = true → f.fd = false → s.powAon.swId = some f.id → (f.data.zip s.wakeMask).any (fun p => p.1 &&& p.2 != 0) = true →
      exec (.wakeFrame f) s = .next (busWakes 4 s)) ∧
    (f.fd = true ∨ s.powAon.swId ≠ some f.id → exec (.wakeFrame f) s = .next s) ∧
    ∀ n, (s.powAon.swErr + n < 32 → exec (.selectiveWakeErrors n) s = .next { s with powAon := { s.powAon with swErr := s.powAon.swErr + n } }) ∧
      (32 ≤ s.powAon.swErr + n →
        exec (.selectiveWakeErrors n) s = .next (raise 0x6205 0 (busWakes 4 { s with powAon := { s.powAon with swErr := 0 } }))))

/-- R389 to R395: the Hibernation ring: a message names sender, successor, flags, overruled index and ready mask; a message that names the unit gives it
the turn t_s later; a silent successor is absent after 2 t_s; silence of 250 ms + 10 ms × index starts the ring; the effective mask holds the absent
and the overruled; READY 0 while the unit is not ready; the SLEEP_ACK that names the initiator is the commit point; a wake event ends the round with
READY 0 and WAKE 1; T_awake_max overrules the sole missing member, never where it is 0. The model's choices on the first message and on members the
unit hears late are log 34. -/
def Obligations.HibernationRing : Prop :=
  (∀ (f : CanFrame) (m : RingMsg) (r : RingSec) (i : Nat) (s : State), s.ringSec = some r → s.ringOf f = some m → r.index m.sender = some i → s.inRing = true → s.canOn = true →
    m.sender ≠ r.own →
    let t := awake (enter .can f.data s)
    let t := if m.join ∧ maskHas t.ringAbs i then t.put Reg.RING_ABS_V (withBit t.ringAbs i false) else t
    let t := if t.overruled = i ∧ m.ready ∨ t.overruled ≠ i ∧ m.ready = false then overruleEnd t else t
    let mine := decide (m.succ = r.own) || s.ring.mine.isNone
    let t := { t with ring := { t.ring with last := some m, lastAt := s.now, waitSucc := none, turnAt := if mine then some s.now else none } }
    let t := soleCheck r m (roundHeard i m (t.put Reg.RING_MASK_V (t.effective m)))
    (t.commits r m = true → exec (.ringMessage f) s = .next (ringCommit t)) ∧ (t.commits r m = false → exec (.ringMessage f) s = .next t)) ∧
  (∀ (f : CanFrame) (s : State), s.inRing = false ∨ s.ringOf f = none → exec (.ringMessage f) s = .next s) ∧
  (∀ (m : RingMsg) (e : CanidE) (s : State), s.canid 0x20 = some e → m.sender < 256 → m.succ < 256 → m.flags < 256 → m.ovr < 256 → m.mask < 2 ^ 32 →
    s.ringOf ⟨e.ident / 256 * 256 + m.sender, true, false, false, false, m.bytes⟩ = some m) ∧
  (∀ (m : RingMsg) (i : Nat) (s : State), i < 32 → maskHas (s.effective m) i = (maskHas m.mask i || maskHas s.ringAbs i || decide (m.ovr = i))) ∧
  (∀ (r : RingSec) (t : Nat) (s : State), s.ringSec = some r → s.ring.turnAt = some t → s.inRing = true →
    (s.after t ((r.step - 1) * 1000) = true → exec .ringTurn s = .next (ringTurn r (awake s))) ∧
    (s.after t ((r.step - 1) * 1000) = false → exec .ringTurn s = .next s)) ∧
  (∀ r : RingSec, 3 ≤ r.step ∧ r.step ≤ 50) ∧
  (∀ (r : RingSec) (s : State), (s.ringReady = false → turnFlags r s = 0) ∧
    (s.ringReady = true → s.ring.initiator.isSome = true ∨ s.allReady r = true → turnFlags r s = 3) ∧
    (s.ringReady = true → s.ring.initiator = none → s.allReady r = false → turnFlags r s = 1)) ∧
  (∀ s : State, s.ringReady = true → s.profile ≤ 1 ∧ s.ses.ss = [] ∧ s.can.session = 1 ∧ s.can.xfer = none ∧ (s.queue .ingest).items = [] ∧
    (s.queue .commit).items = [] ∧ s.rmc.cur = none ∧ s.rmc.op = none) ∧
  (∀ (r : RingSec) (f : Nat) (s : State), turnFlags r s = f → f ≠ 3 → ringTurn r s = ringSay f r (roundEnd s)) ∧
  (∀ (f : Nat) (r : RingSec) (s : State), f < 8 → ∃ m, (ringSay f r s).ring.mine = some m ∧ m.sender = r.own ∧ maskHas m.mask r.self = (f % 2 == 1) ∧
    m.flags % 8 = f ∧ (f % 2 = 1 → m.ovr = s.overruled)) ∧
  (∀ (r : RingSec) (i : Nat) (s : State), s.ringSec = some r → s.ring.waitSucc = some i → s.inRing = true →
    (s.after s.ring.mineAt (2000 * r.step) = true → exec .ringSuccessorTimeout s =
      .next (ringSay (if s.ringReady then (s.ring.mine.map (fun m => m.flags % 4)).getD 0 else 0) r
        (awake (s.put Reg.RING_ABS_V (withBit s.ringAbs i true))))) ∧
    (s.after s.ring.mineAt (2000 * r.step) = false → exec .ringSuccessorTimeout s = .next s)) ∧
  (∀ (abs : Nat) (r : RingSec), maskHas abs (r.next abs) = false ∨ r.next abs = r.self) ∧
  (∀ (r : RingSec) (s : State), s.ringSec = some r → s.inRing = true → s.canOn = true → s.profile ≠ 7 → s.ring.waitSucc = none → s.ring.turnAt = none →
    (s.after s.ring.lastAt (250000 + 10000 * r.self) = true → exec .ringStartTimeout s =
      .next (ringSay (if s.ringReady then 1 else 0) r (awake { s with ring := { s.ring with lastAt := s.now, last := none } }))) ∧
    (s.after s.ring.lastAt (250000 + 10000 * r.self) = false → exec .ringStartTimeout s = .next s)) ∧
  (∀ (r : RingSec) (t : Nat) (s : State), s.ringSec = some r → s.ring.soleAt = some t → s.inRing = true → s.overruled = 0xFF →
    (r.awakeMax ≠ 0 → s.after t (r.awakeMax * 1000000) = true → exec .ringOverrule s =
      .next ((s.put Reg.RING_STAT_OVR (s.get Reg.RING_STAT_SOLE)).count Reg.RING_CNT_OVERRULES 1)) ∧
    (r.awakeMax = 0 → exec .ringOverrule s = .next s)) ∧
  (∀ (r : RingSec) (s : State), s.ringSec = some r → s.inRing = true →
    (s.bit Reg.RING_STAT_ROUND = true → exec .ringWakeEvent s = .next (ringSay 4 r (roundEnd (awake s)))) ∧
    (s.bit Reg.RING_STAT_ROUND = false → exec .ringWakeEvent s = .next s))

/-- R396 to R399, R402: the diagnostic transport and sessions. A request takes a place of the command port or gets NRC 0x21, or is dropped and counted;
a consecutive frame of an accepted message is never refused; a message missing its next frame for 150 ms is given up, a response without flow
control for 1,000 ms; 5 s without a request end the session. An unsupported service gets NRC 0x11, one in the wrong session 0x7F, one not
authenticated 0x33; services 0x23 and 0x3D are fabric accesses of master 2; SecurityAccess checks a signature over the seed, and its third failure
in a power cycle locks out for 10 s. What ISO 14229 and ISO 15765 add is log 40. -/
def Obligations.DiagnosticSessions : Prop :=
  (∀ (f : CanFrame) (phys : Bool) (s : State), s.canOn = true → s.isHead = true → f.taken = true → s.diagTarget f = some phys →
    let t := awake (enter .can f.data s)
    let pci := fieldBe f.data 0 1 / 16
    (pci = 0 → exec (.isoTpFrame f) s = .next (singleFrame phys f t)) ∧
    (pci = 1 → phys = true → exec (.isoTpFrame f) s = .next (firstFrame f t)) ∧
    (pci = 2 → phys = true → exec (.isoTpFrame f) s = .next (consecutiveFrame f t)) ∧
    (pci = 3 → phys = true → exec (.isoTpFrame f) s = .next (flowControl f t))) ∧
  (∀ (f : CanFrame) (s : State), s.diagTarget f = none → exec (.isoTpFrame f) s = .next s) ∧
  (∀ (f : CanFrame) (m : Bytes) (s t : State), singleMsg f = some m →
    (enqueue .canCmd .p3 .can (.diag m) (rxAbandon s) = (.taken, t) → singleFrame true f s = diagHeard t) ∧
    (enqueue .canCmd .p3 .can (.diag m) (rxAbandon s) = (.busy, t) →
      singleFrame true f s = diagNeg (fieldBe m 0 1) 0x21 (t.count Reg.CAN_CNT_BUSY 1)) ∧
    (enqueue .canCmd .p3 .can (.diag m) (rxAbandon s) = (.dropped, t) → singleFrame true f s = t)) ∧
  (∀ (f : CanFrame) (x : TpRx) (s : State), s.can.rx = some x →
    let got := (x.got ++ f.data.drop 1).take x.len
    (fieldBe f.data 0 1 % 16 = x.sn → x.len ≤ got.length → consecutiveFrame f s = messageWhole got s) ∧
    (fieldBe f.data 0 1 % 16 = x.sn → got.length < x.len →
      consecutiveFrame f s = { s with can := { s.can with rx := some { x with got := got, sn := (x.sn + 1) % 16, at_ := s.now } } }) ∧
    (fieldBe f.data 0 1 % 16 ≠ x.sn → consecutiveFrame f s = rxAbandon s) ∧
    (s.after x.at_ 150000 = true → exec .ncrTimeout s = .next (rxAbandon s)) ∧ (s.after x.at_ 150000 = false → exec .ncrTimeout s = .next s)) ∧
  (∀ (x : TpTx) (s : State), s.can.tx = some x → x.block = 0 → s.after x.at_ 1000000 = true →
    exec .nbsTimeout s = .next (diagSettle { s with can := { s.can with tx := none } })) ∧
  (∀ s : State, s.can.session ≠ 1 → s.can.routine = none →
    (s.after s.can.lastReq 5000000 = true → exec .s3Timeout s = .next (diagSettle (sessionTo 1 s))) ∧
    (s.after s.can.lastReq 5000000 = false → exec .s3Timeout s = .next s)) ∧
  (∀ (n : Nat) (s : State), (sessionTo n s).can.session = n ∧ (n = 1 → (sessionTo n s).can.authed = false) ∧
    (n ≠ s.can.session → (sessionTo n s).can.xfer = none ∧ (sessionTo n s).can.seed = none)) ∧
  (∀ (m : Bytes) (s : State), s.isHead = true → s.img.run.isSome = true → s.bit Reg.SUP_HH_STAT_HALT = false →
    let sid := fieldBe m 0 1
    (diagServices.all (fun p => p.1 != sid) = true → s.diagRefusal m = some 0x11) ∧
    (diagServices.any (fun p => p.1 == sid && !p.2.contains s.can.session) = true → s.diagRefusal m = some 0x7F) ∧
    (diagServices.any (fun p => p.1 == sid && !p.2.contains s.can.session) = false → diagServices.any (fun p => p.1 == sid) = true → diagAuth sid = true →
      s.can.authed = false → s.diagRefusal m = some 0x33)) ∧
  (∀ (m : Bytes) (at_ : Nat) (s t : State), diagPop (diagSettle s) = some (m, at_, t) →
    let b := m.drop 1
    let quiet := decide (128 ≤ fieldBe b 0 1)
    (isService 0x10 m = true → exec .diagnosticSessionControl s = .next (diagSettle
      (diagPosUnless quiet 0x10 (be 1 (fieldBe b 0 1 % 128) ++ be 2 50 ++ be 2 500) (sessionTo (fieldBe b 0 1 % 128) t)))) ∧
    (isService 0x3E m = true → exec .testerPresent s = .next (diagSettle (diagPosUnless quiet 0x3E [0] t))) ∧
    (isService 0x22 m = true → exec .readDataByIdentifier s =
      .next (diagSettle (diagPos 0x22 (b.take 2 ++ (t.did (fieldBe b 0 2)).getD []) t))) ∧
    (isService 0x11 m = true → s.power.dueEcu = false → exec .ecuReset s = .next (diagSettle
      { restartOnly .ecurst (diagPosUnless quiet 0x11 [1] t) with
        outs := { (restartOnly .ecurst (diagPosUnless quiet 0x11 [1] t)).outs with diag := (diagPosUnless quiet 0x11 [1] t).outs.diag } })) ∧
    (isService 0x23 m = true → ∀ st vs u, fabReadN .p3 .can (fieldBe b 1 4) (fieldBe b 5 4 / 4) t = (st, vs, u) →
      (st = .ok → exec .readMemoryByAddress s = .next (diagSettle (diagPos 0x23 (vs.flatMap (leBytes 4)) u))) ∧
      (st ≠ .ok → exec .readMemoryByAddress s = .next (diagSettle (diagRefused 0x23 st u)))) ∧
    (isService 0x3D m = true → ∀ st u, fabWriteN .p3 .can (fieldBe b 1 4) (leWords (b.drop 9)) t = (st, u) →
      (st = .ok → exec .writeMemoryByAddress s = .next (diagSettle (diagPos 0x3D (b.take 9) u))) ∧
      (st ≠ .ok → exec .writeMemoryByAddress s = .next (diagSettle (diagRefused 0x3D st u))))) ∧
  (∀ (sid : Nat) (st : FabStatus) (s : State), (st ≠ .silent → diagRefused sid st s = diagNeg sid (fabNrc st) s) ∧
    diagRefused sid .silent s = diagSettle s) ∧
  (∀ (m : Bytes) (at_ : Nat) (s t : State), diagPop (diagSettle s) = some (m, at_, t) → isService 0x27 m = true → fieldBe m 1 1 = 1 →
    (t.can.lockout.isSome = true → exec .securityAccessSeed s = .next (diagSettle (diagNeg 0x27 0x37 t))) ∧
    (t.can.lockout = none → ∀ b u, randReq false 16 t = (.bytes b, u) →
      exec .securityAccessSeed s = .next (diagSettle (diagPos 0x27 (1 :: b) { u with can := { u.can with seed := some b } })))) ∧
  (∀ (m : Bytes) (at_ : Nat) (s t : State), diagPop (diagSettle s) = some (m, at_, t) → isService 0x27 m = true → fieldBe m 1 1 = 2 →
    (t.can.lockout.isSome = true → exec .securityAccessKey s = .next (diagSettle (diagNeg 0x27 0x37 t))) ∧
    (t.can.lockout = none → ∀ seed u, t.can.seed = some seed →
      (securityKey seed (m.drop 2) t = (true, u) → exec .securityAccessKey s =
        .next (diagSettle (diagPos 0x27 [2] { u with can := { u.can with seed := none, authed := u.can.session != 1 } }))) ∧
      (securityKey seed (m.drop 2) t = (false, u) → exec .securityAccessKey s = .next (diagSettle (securityFailed u))))) ∧
  (∀ s : State, (s.can.authFails < 2 → ∃ t, securityFailed s = diagNeg 0x27 0x35 t ∧ t.can.lockout = none ∧ t.can.authFails = s.can.authFails + 1) ∧
    (2 ≤ s.can.authFails → ∃ t, securityFailed s = diagNeg 0x27 0x36 t ∧ t.can.lockout = some s.now)) ∧
  (∀ (t : Nat) (s : State), s.can.lockout = some t →
    (s.after t 10000000 = true → exec .securityDelayExpiry s = .next { s with can := { s.can with lockout := none } }) ∧
    (s.after t 10000000 = false → exec .securityDelayExpiry s = .next s)) ∧
  fabNrc .busy = 0x21 ∧ fabNrc .denied = 0x33 ∧ fabNrc .unmapped = 0x31 ∧ fabNrc .width = 0x31 ∧ fabNrc .off = 0x22 ∧ fabNrc .fault = 0x22 ∧
  fabNrc .escort = 0x22 ∧ fabNrc .preempted = 0x22 ∧ fabNrc .entropyWait = 0x22 ∧ fabNrc .entropyFail = 0x22

/-- R54 to R56, R123, R225, R289, R301, R337, R400, R401: transfers and routines. A download opens by committing PENDING := none, its counter starts at
1 and a wrong one gets NRC 0x73; its end verifies the slot and marks it pending, or answers 0x72 with the rejection code kept; an upload delivers
records or an archive frame in blocks of 2,048 bytes; the routines of Table 17-4. The event code of an unbarring (log 41) and the results of another
unit's coils (log 42) are not the specification's. -/
def Obligations.DiagnosticTransfers : Prop :=
  (∀ (m : Bytes) (at_ : Nat) (s t : State), diagPop (diagSettle s) = some (m, at_, t) → isService 0x34 m = true →
    (t.downloadRefused = true → exec .requestDownload s = .next (diagSettle (diagNeg 0x34 0x22 t))) ∧
    (∀ u, t.downloadRefused = false → submitGroup .p3 ⟨[{ t.selector with pending := 0 }.write], .downloadOpen⟩ t = (.taken, u) →
      exec .requestDownload s = .next (diagSettle { u with can := { u.can with routine := some (.downloadOpen (fieldBe (m.drop 1) 6 4)) } }))) ∧
  (∀ s : State, s.downloadRefused = true ↔ s.selector.trial = 1 ∨ (s.lc ≠ 2 ∧ s.lc ≠ 3) ∨ ∃ b size got n, s.can.xfer = some (.download b size got n)) ∧
  (∀ (m : Bytes) (at_ : Nat) (s t : State), diagPop (diagSettle s) = some (m, at_, t) → isService 0x36 m = true →
    exec .transferData s = .next (diagSettle (transferBlock (m.drop 1) t))) ∧
  (∀ (b : Bytes) (s : State), s.can.xfer = none → transferBlock b s = diagNeg 0x36 0x24 s) ∧
  (∀ (b : Bytes) (slotB : Bool) (size got next : Nat) (s : State), s.can.xfer = some (.download slotB size got next) →
    (fieldBe b 0 1 ≠ next → transferBlock b s = diagNeg 0x36 0x73 s) ∧
    (fieldBe b 0 1 = next → b.drop 1 ≠ [] → (b.drop 1).length ≤ 2048 → got + (b.drop 1).length ≤ size →
      transferBlock b s = diagPos 0x36 (be 1 next)
        { norAppend slotB (b.drop 1) s with
          can := { s.can with xfer := some (.download slotB size (got + (b.drop 1).length) ((next + 1) % 256)) } })) ∧
  (∀ (b rest : Bytes) (next : Nat) (s : State), s.can.xfer = some (.upload rest next) → fieldBe b 0 1 = next → rest ≠ [] →
    transferBlock b s = diagPos 0x36 (be 1 next ++ rest.take 2048) { s with can := { s.can with xfer := some (.upload (rest.drop 2048) ((next + 1) % 256)) } }) ∧
  (∀ (held : Bool) (m : Bytes) (at_ : Nat) (s t : State), diagPop (diagSettle s) = some (m, at_, t) → isService 0x37 m = true →
    (∀ slotB size got n, t.can.xfer = some (.download slotB size got n) →
      (got < size → exec (.requestTransferExit held) s = .next (diagSettle (diagNeg 0x37 0x24 t))) ∧
      (size ≤ got → exec (.requestTransferExit held) s = .next (diagSettle (downloadEnd slotB held t)))) ∧
    (∀ rest n, t.can.xfer = some (.upload rest n) → exec (.requestTransferExit held) s =
      .next (diagSettle (diagPos 0x37 [] ({ t with can := { t.can with xfer := none } }.setBit Reg.LDG_STAT_EXPORT false))))) ∧
  (∀ (slotB held : Bool) (s t u : State), (∀ c, stagedVerdict slotB held { s with can := { s.can with xfer := none } } = (some c, t) →
      downloadEnd slotB held s = diagNeg 0x37 0x72 (t.put (rejFld slotB) c)) ∧
    (stagedVerdict slotB held { s with can := { s.can with xfer := none } } = (none, t) →
      submitGroup .p3 ⟨[{ t.selector with pending := if slotB then 2 else 1 }.write], .markPending⟩ (t.put (rejFld slotB) 0) = (.taken, u) →
      downloadEnd slotB held s = { u with can := { u.can with routine := some .transferExit } })) ∧
  (∀ (m : Bytes) (at_ : Nat) (s t : State), diagPop (diagSettle s) = some (m, at_, t) → isService 0x35 m = true → t.can.xfer = none →
    let b := m.drop 1
    (fieldBe b 0 1 = 1 → ∀ img, t.nand.archive[fieldBe b 2 4]? = some img →
      exec .requestUpload s = .next (diagSettle (exportBegin (img ++ List.replicate (0x100000 - img.length) 0xFF) t))) ∧
    (fieldBe b 0 1 ≠ 1 → t.bit Reg.LDG_STAT_READY = true → fieldBe b 2 4 + fieldBe b 6 4 / 64 ≤ t.nextNum →
      let r := readRecs (fieldBe b 6 4 / 64) (fieldBe b 2 4) (sectorProgram t)
      exec .requestUpload s = .next (diagSettle (exportBegin r.1 r.2)))) ∧
  (∀ (rid : Nat) (m : Bytes) (at_ : Nat) (s t : State), diagPop (diagSettle s) = some (m, at_, t) → isRoutine rid m = true →
    let o := m.drop 4
    (rid = 0xF001 → t.bit Reg.MEM_IMG_STAT_TRIAL = false → exec .confirmImage s = .next (diagSettle (diagNeg 0x31 0x22 t))) ∧
    (rid = 0xF001 → t.bit Reg.MEM_IMG_STAT_TRIAL = true → t.img.confirming = false → ∀ u, confirmBegin true t = (true, u) →
      exec .confirmImage s = .next (diagSettle { u with can := { u.can with routine := some .confirm } })) ∧
    (rid = 0xF002 → t.enrolAllowed = false → exec .enrolFob s = .next (diagSettle (diagNeg 0x31 0x22 t))) ∧
    (rid = 0xF002 → t.enrolAllowed = true → t.ses.enrol = none →
      ∀ u, enrolStart (fieldBe o 0 4) (fieldBe o 20 8) (fieldBe o 28 2) (sub o 4 16) t = some u →
      exec .enrolFob s = .next (diagSettle (diagNeg 0x31 0x78 { u with can := { u.can with routine := some .enrol } }))) ∧
    (rid = 0xF003 → ∀ r, t.fob (fieldBe o 0 1) = some r →
      (fieldBe m 5 1 = 1 → exec .barFob s =
        .next (diagSettle (fobRewrite 0xF003 (fieldBe o 0 1) { r with state := 2 } (fobEvent 3 (fieldBe o 0 1) r) t))) ∧
      (fieldBe m 5 1 = 0 → ∃ e u, freeBytes 1 t = (e, u) ∧ exec .unbarFob s =
        .next (diagSettle (fobRewrite 0xF003 (fieldBe o 0 1) { r with state := 1 } (e ++ (fobEvent 0 (fieldBe o 0 1) r).drop 1) u)))) ∧
    (rid = 0xF003 → t.fob (fieldBe o 0 1) = none → fieldBe m 5 1 = 1 → exec .barFob s = .next (diagSettle (diagNeg 0x31 0x22 t))) ∧
    (rid = 0xF004 → exec .emptyFobRecord s = .next (diagSettle (fobRewrite 0xF004 (fieldBe o 0 1) FobRec.empty
      (fobEvent 4 (fieldBe o 0 1) ((t.fob (fieldBe o 0 1)).getD FobRec.empty)) t))) ∧
    (rid = 0xF005 → exec .clearCounters s = .next (diagSettle (routineOk 0xF005 []
      (((((clears.map (·.1)).dedup.foldl (fun s a => clearWrite a 0xFFFFFFFF s) t)).put Reg.SUP_RGN_STAT_REFUSED 0).put Reg.SUP_RGN_STAT_ESC 0)))) ∧
    (rid = 0xF006 → fieldBe o 0 1 = t.unitNum → ∀ rs ok u, askTests (maskChans (fieldBe o 1 2)) .p3 .can t = (ok, u) →
      (ok = true → exec (.coilTestRoutine rs) s = .next (diagSettle (diagNeg 0x31 0x78
        { u with can := { u.can with routine := some (.coil (maskChans (fieldBe o 1 2))) } }))) ∧
      (ok = false → exec (.coilTestRoutine rs) s = .next (diagSettle (diagNeg 0x31 0x21 u)))) ∧
    (rid = 0xF008 → (t.lc ≠ 3 → exec .formatLedger s = .next (diagSettle (diagNeg 0x31 0x22 t))) ∧
      (t.lc = 3 → exec .formatLedger s = .next (diagSettle (formatNow t)))) ∧
    (rid = 0xF009 → ∀ key, t.slotKey 5 = some key → t.bit Reg.LDG_STAT_READY = true → fieldBe o 0 4 ≤ fieldBe o 4 4 →
      (fieldBe o 4 4 < t.nextNum → exec .verifyLedger s =
        .next (diagSettle (routineOk 0xF009 (be 4 (t.verifyRange key (fieldBe o 0 4) (fieldBe o 4 4))) t))) ∧
      (t.nextNum ≤ fieldBe o 4 4 → exec .verifyLedger s = .next (diagSettle (diagNeg 0x31 0x22 t)))) ∧
    (rid = 0xF00A → ∀ u, keyCheck 0 [4] (some 10) 8 .session .internal t = (none, u) → u.den.unusable.contains 3 = false →
      slotCrcOk (u.slotBytes 3) = true → ∀ sig v, attest 3 (sub (m.drop 1) 3 16) u = (.bytes sig, v) →
      exec .attestSlot3 s = .next (diagSettle (routineOk 0xF00A (u.statement 3 (sub (m.drop 1) 3 16) ++ sig) v))))

/-- R403 to R405: the host port. A transaction whose CRC is wrong, whose command is unknown or whose LEN is out of range is answered FRAME and does
nothing else; words are read and written as master 4 and answered with the status of the access, the data of a failed read being 0; ledger records
come 64 bytes each; HOST_CS_N rising before the marker is counted, completes a write and discards a read. -/
def Obligations.HostPort : Prop :=
  (∀ (b : Bytes) (r : HostReq), hostParse b = some r → 1 ≤ r.len ∧ r.len ≤ 16 ∧ crc16 (b.take 6) = fieldBe b 6 2 ∧ (r.cmd = 1 ∨ r.cmd = 2 ∨ r.cmd = 4) ∧
    r.addr = fieldBe b 2 4) ∧
  (∀ (bits : List Bool) (s : State), s.hostOn = true → hostParse (hostBytes bits) = none →
    let t := hostAnswer 0xE [] (hostFrameError (awake s))
    exec (.hostReadWords bits) s = .next t ∧ exec (.hostWriteWords bits) s = .next t ∧ exec (.hostLedgerRead bits) s = .next t) ∧
  (∀ (bits : List Bool) (r : HostReq) (s : State), s.hostOn = true → hostParse (hostBytes bits) = some r → s.isIsolated .hpt = false →
    let t := awake (enter .host (hostBytes bits) s)
    (r.cmd = 1 → ∀ st vs u, fabReadN .p3 .host r.addr r.len t = (st, vs, u) →
      (st = .ok → exec (.hostReadWords bits) s = .next (hostAnswer 0 (vs.flatMap (be 4)) u)) ∧
      (st ≠ .ok → exec (.hostReadWords bits) s = .next (hostStatus st (zeros (4 * r.len)) u))) ∧
    (r.cmd = 2 → ∀ st u, fabWriteN .p3 .host r.addr r.words t = (st, u) →
      exec (.hostWriteWords bits) s = .next (hostStatus st [] u)) ∧
    (r.cmd = 4 → ∀ tgt u, fabCheck .host Reg.LDG_STAT .b32 false t = (.ok, tgt, u) →
      let x := readRecs r.len r.addr (sectorProgram u)
      exec (.hostLedgerRead bits) s = .next (hostAnswer 0 x.1 x.2)) ∧
    (r.cmd = 2 → ((awake s).count Reg.HPT_CNT_ABORT 1).isIsolated .hpt = false →
      exec (.hostCsAbort bits) s = .next (fabWriteN .p3 .host r.addr r.words ((awake s).count Reg.HPT_CNT_ABORT 1)).2) ∧
    (r.cmd ≠ 2 → exec (.hostCsAbort bits) s = .next ((awake s).count Reg.HPT_CNT_ABORT 1))) ∧
  (∀ (bits : List Bool) (r : HostReq) (s : State), s.hostOn = true → hostParse (hostBytes bits) = some r → s.isIsolated .hpt = true →
    (r.cmd = 1 → exec (.hostReadWords bits) s = .next (hostAnswer FabStatus.fault.code (zeros (4 * r.len)) s)) ∧
    (r.cmd = 2 → exec (.hostWriteWords bits) s = .next (hostAnswer FabStatus.fault.code [] s)) ∧
    (r.cmd = 4 → exec (.hostLedgerRead bits) s = .next (hostAnswer FabStatus.fault.code (zeros (64 * r.len)) s))) ∧
  (∀ (bits : List Bool) (s : State), s.hostOn = false → exec (.hostReadWords bits) s = .next s ∧ exec (.hostCsAbort bits) s = .next s) ∧
  (∀ b : Bytes, hostBytes (msbBits b) = b) ∧
  (∀ (st : FabStatus) (d : Bytes) (s : State), st ≠ .silent → hostStatus st d s = hostAnswer st.code d s) ∧
  (∀ (st : Nat) (d : Bytes) (s : State), (hostAnswer st d s).outs.host = 0x5A :: be 1 st ++ d ++ be 2 (crc16 (be 1 st ++ d)) ∧
    (hostAnswer st d s).regs = s.regs) ∧
  FabStatus.ok.code = 0 ∧ FabStatus.busy.code = 1 ∧ FabStatus.fault.code = 2 ∧ FabStatus.off.code = 3 ∧ FabStatus.denied.code = 4 ∧
  FabStatus.unmapped.code = 5 ∧ FabStatus.escort.code = 6 ∧ FabStatus.entropyWait.code = 7 ∧ FabStatus.entropyFail.code = 8 ∧ FabStatus.width.code = 9

/-- R408 to R414: touch channels and switches. A scan converts each scanned channel: a delta that reaches THR is a touch, one below THR / 2 a release;
every scanned channel at THR with two newly so is water, which detects nothing; a touch of 10 s is stuck, keeps its old baseline as B0 and ends
below B0 + THR / 2; a released channel's baseline follows by at most 0.01 pF per second. A switch level stable for DEB becomes the debounced level
and fires only on active, a shorter excursion is a glitch, a start button active for 60 s is stuck; a write of POL takes effect at the next sample
without firing. A detection fires at once while the unit runs, and is held during a start-up and in SLEEP, where it wakes the unit. A first
conversion as baseline is the model's choice. -/
def Obligations.TouchAndSwitches : Prop :=
  (∀ (convs : List Int) (s : State), s.after s.touch.scanAt s.scanPeriod = true →
    let taken := (s.touch.caps.zipIdx).map (fun p => if p.1.code.isNone then p.1 else capTake (convs.getD p.2 p.1.conv) p.1)
    let t := enterSamples convs { s with touch := { s.touch with scanAt := s.now } }
    let caps := taken.map (fun c => if c.code.isNone then c else capNext s c)
    (isWater s taken = true → exec (.touchScan convs) s = .next ({ t with touch := { t.touch with caps := taken } }.count Reg.TSW_CNT_WATER 1)) ∧
    (isWater s taken = false → exec (.touchScan convs) s = .next ((detections taken caps).foldl
      (fun s d => inputFires 1 d.1 (s.setBitAt Reg.TSW_CAPSTAT_EVT d.2)) { t with touch := { t.touch with caps := caps } }))) ∧
  (∀ (convs : List Int) (s : State), s.after s.touch.scanAt s.scanPeriod = false → exec (.touchScan convs) s = .next s) ∧
  (∀ (c : CapCh) (s : State), 10 ≤ s.touchThr ∧
    (c.stuck = false → c.touched = false → s.touchThr ≤ c.delta → (capNext s c).touched = true ∧ (capNext s c).base = c.base ∧ (capNext s c).since = s.now) ∧
    (c.stuck = false → c.touched = false → c.delta < s.touchThr → (capNext s c).touched = false ∧ ((capNext s c).base - c.base).natAbs ≤ 1) ∧
    (c.stuck = false → c.touched = true → (capNext s c).base = c.base ∧ ((capNext s c).touched = false ↔ 2 * c.delta < s.touchThr)) ∧
    (c.stuck = true → (capNext s c).touched = c.touched ∧ ((capNext s c).stuck = false ↔ 2 * c.conv < 2 * c.b0 + s.touchThr) ∧
      (2 * c.conv < 2 * c.b0 + s.touchThr → (capNext s c).base = c.conv))) ∧
  (∀ (caps : List CapCh) (s : State), isWater s caps = true ↔ 2 ≤ (caps.filter (fun c => c.code.isSome)).length ∧
    (∀ c ∈ caps, c.code.isSome = true → s.touchThr ≤ c.delta) ∧ 2 ≤ ((caps.filter (fun c => c.code.isSome)).filter (fun c => !c.touched)).length) ∧
  (∀ (n : Nat) (s : State), n < s.touch.caps.length →
    let c := s.touch.caps.getD n CapCh.init
    (c.touched = true → s.after c.since 10000000 = true → exec (.touchStuck n) s = .next (raise 0x0301 n { s with touch := { s.touch with
      caps := s.touch.caps.set n { c with b0 := c.base, base := c.conv, touched := false, stuck := true } } })) ∧
    (c.touched = false ∨ s.after c.since 10000000 = false → exec (.touchStuck n) s = .next s)) ∧
  (∀ (wake code : Nat) (s : State),
    (s.runs = true → s.bit Reg.PWR_BOOT_STAT_DONE = true → inputFires wake code s = fireCode code s) ∧
    (s.runs = true → s.bit Reg.PWR_BOOT_STAT_DONE = false → s.get Reg.PWR_BOOT_STAT_FAILSTEP = 0 →
      inputFires wake code s = { s with touch := { s.touch with held := s.touch.held ++ [code] } }) ∧
    (s.runs = true → s.bit Reg.PWR_BOOT_STAT_DONE = false → s.get Reg.PWR_BOOT_STAT_FAILSTEP ≠ 0 → inputFires wake code s = s) ∧
    (s.power.state = .reset → inputFires wake code s = { s with touch := { s.touch with held := s.touch.held ++ [code] } }) ∧
    (s.power.state = .sleep ∨ s.power.state = .hibernate →
      inputFires wake code s = latchWake wake { s with touch := { s.touch with held := s.touch.held ++ [code] } })) ∧
  (∀ (highs : List Bool) (s : State), s.after s.touch.sampleAt s.swPeriod = true →
    let sws := (s.touch.sws.zipIdx).map (fun p => swTake s p.2 (highs.getD p.2 false) p.1)
    exec (.switchSample highs) s = .next ({ s with touch := { s.touch with sampleAt := s.now, sws := sws } }.count Reg.TSW_CNT_GLITCH
      ((s.touch.sws.zip sws).countP (fun (p : SwCh × SwCh) => swGlitch p.1 p.2)))) ∧
  (∀ (n : Nat) (high : Bool) (w : SwCh) (s : State),
    (w.polWritten = true → (swTake s n high w).active = (high == s.swPol n) ∧ (swTake s n high w).polWritten = false) ∧
    (w.polWritten = false → (swTake s n high w).active = w.active ∧ (swTake s n high w).raw = (high == s.swPol n)) ∧
    (w.polWritten = false → (swGlitch w (swTake s n high w) = true ↔ (high == s.swPol n) ≠ w.raw ∧ (high == s.swPol n) = w.active))) ∧
  (∀ (n : Nat) (s : State), s.after (s.sw n).rawAt (s.swDeb n * 1000) = true → (s.sw n).polWritten = false →
    ((s.sw n).raw = true → (s.sw n).active = false → exec (.switchDebounce n) s = .next ((s.sw n).firing.foldl (fun s c => inputFires 2 c s)
      (captureEdge (4 + n) true ((s.setSw n { s.sw n with active := true, since := s.now }).setBitAt Reg.TSW_SWSTAT_EVT n)))) ∧
    ((s.sw n).raw = false → (s.sw n).active = true →
      exec (.switchDebounce n) s = .next (captureEdge (4 + n) false (s.setSw n { s.sw n with active := false, stuck := false })))) ∧
  (∀ (n : Nat) (s : State), s.after (s.sw n).rawAt (s.swDeb n * 1000) = false ∨ (s.sw n).raw = (s.sw n).active ∨ (s.sw n).polWritten = true →
    exec (.switchDebounce n) s = .next s) ∧
  (∀ (n c : Nat) (s : State), 1 ≤ s.swDeb n ∧ (c ∈ (s.sw n).firing → c < 0x38)) ∧
  (∀ (n : Nat) (s : State), (s.sw n).active = true → (s.sw n).stuck = false → (s.sw n).codes.contains (0x28 + n) = true →
    (s.after (s.sw n).since 60000000 = true → exec (.switchStuck n) s = .next (raise 0x0302 n (s.setSw n { s.sw n with stuck := true }))) ∧
    (s.after (s.sw n).since 60000000 = false → exec (.switchStuck n) s = .next s)) ∧
  (∀ (m : Master) (v : Nat) (s t : State), fabCheck m Reg.TSW_SWCFG .b32 true s = (.ok, some (.reg Reg.TSW_SWCFG), t) →
    exec (.switchPolWrite m v) s = .next (fabAnswer m (tswWrite m Reg.TSW_SWCFG v t))) ∧
  (∀ (m : Master) (v : Nat) (s : State), m = .host ∨ m = .can ∨ m = .debug → (tswWrite m Reg.TSW_SWCFG v s).1 = .ok ∧
    (tswWrite m Reg.TSW_SWCFG v s).2.outs = s.outs ∧ (tswWrite m Reg.TSW_SWCFG v s).2.queues = s.queues) ∧
  (∀ (w : Nat) (ws : List Nat) (s : State), s.sett.satEvents = w :: ws →
    (s.after s.sett.satEventAt 2000 = true → exec .satEventRepeat s = .next (settSend 0x11 false 1 .p0 (be 2 0xFFFF ++ [0, 1] ++ be 4 w)
      { s with sett := { s.sett with satEventAt := s.now } })) ∧
    (s.after s.sett.satEventAt 2000 = false → exec .satEventRepeat s = .next s))

/-- R415 to R417: the start lines: off while the latch is clear, without VBAT and in protection; read back 100 µs after the latch sets; overcurrent and
overtemperature switch a line off and end as Table 18-1 says, open load and a forced line are reported; no event of the lines, and no command but
the latch's own, changes the latch. -/
def Obligations.StartLines : Prop :=
  (∀ s : State, (s.lineH = true ↔ s.bit Reg.SL_STAT_LATCH = true ∧ s.bit Reg.CHRON_STAT_BKP = false ∧ s.lines.ocH = none ∧ s.lines.otH = false) ∧
    (s.lineL = true ↔ s.bit Reg.SL_STAT_LATCH = true ∧ s.bit Reg.CHRON_STAT_BKP = false ∧ s.lines.ocL = none ∧ s.lines.otL = false)) ∧
  (∀ (h l : Bool) (t : Nat) (s : State), s.lines.setAt = some t →
    let hr := h && s.lineH
    let lr := l && s.lineL
    let u := ({ s with lines := { s.lines with setAt := none } }.setBit Reg.SL_STAT_HREL hr).setBit Reg.SL_STAT_LREL lr
    (s.after t 100 = true → hr = true ∧ lr = true → exec (.startLineReadback h l) s = .next u) ∧
    (s.after t 100 = true → hr = false ∨ lr = false → exec (.startLineReadback h l) s =
      .next (raise 0x0303 ((if hr then 0 else 1) + (if lr then 0 else 2)) u)) ∧
    (s.after t 100 = false → exec (.startLineReadback h l) s = .next s)) ∧
  (∀ (us : Nat) (s : State), (50 ≤ us → s.lineH = true → exec (.startLineOvercurrent true us) s = .next (raise 0x0303 1
      (({ s with lines := { s.lines with ocH := some s.now } }.setBit Reg.SL_STAT_OCH true).setBit Reg.SL_STAT_HREL false))) ∧
    (50 ≤ us → s.lineL = true → exec (.startLineOvercurrent false us) s = .next (raise 0x0303 2
      (({ s with lines := { s.lines with ocL := some s.now } }.setBit Reg.SL_STAT_OCL true).setBit Reg.SL_STAT_LREL false))) ∧
    (us < 50 ∨ s.lineH = false → exec (.startLineOvercurrent true us) s = .next s)) ∧
  (∀ (t : Nat) (s : State), s.lines.ocH = some t →
    (s.bit Reg.SL_STAT_LATCH = true → s.after t 100000 = true →
      exec (.startLineRetry true) s = .next ({ s with lines := { s.lines with ocH := none } }.setBit Reg.SL_STAT_HREL true)) ∧
    (s.bit Reg.SL_STAT_LATCH = false ∨ s.after t 100000 = false → exec (.startLineRetry true) s = .next s)) ∧
  (∀ (c : Int) (s : State), (150 ≤ c → exec (.startLineOvertemp true c) s = .next (raise 0x0303 1
      (({ s with lines := { s.lines with otH := true } }.setBit Reg.SL_STAT_OCH true).setBit Reg.SL_STAT_HREL false)) ∧
    exec (.startLineOvertemp false c) s = .next (raise 0x0303 2
      (({ s with lines := { s.lines with otL := true } }.setBit Reg.SL_STAT_OCL true).setBit Reg.SL_STAT_LREL false))) ∧
    (c < 150 → ∀ b, exec (.startLineOvertemp b c) s = .next s)) ∧
  (∀ (c : Int) (s : State), (c ≤ 135 → (∃ t, exec (.startLineCool true c) s = .next t ∧ t.lines.otH = false ∧ t.lines.otL = s.lines.otL) ∧
      (∃ t, exec (.startLineCool false c) s = .next t ∧ t.lines.otL = false ∧ t.lines.otH = s.lines.otH)) ∧
    (135 < c → ∀ b, exec (.startLineCool b c) s = .next s)) ∧
  (∀ (ua ms : Nat) (s : State), (s.lineL = true → ua < 2000 → 10 ≤ ms →
      exec (.startLineOpenLoad ua ms) s = .next (raise 0x0304 0 (s.setBit Reg.SL_STAT_OPEN true))) ∧
    (s.lineL = false ∨ 2000 ≤ ua ∨ ms < 10 → exec (.startLineOpenLoad ua ms) s = .next s)) ∧
  (∀ (mv ms : Nat) (s : State), s.bit Reg.SL_STAT_LATCH = false → 10 ≤ ms →
    (3000 < mv → exec (.startLineForced true mv ms) s = .next (raise 0x0305 1 (s.setBit Reg.SL_STAT_FORCED true))) ∧
    (mv < 1000 → exec (.startLineForced false mv ms) s = .next (raise 0x0305 2 (s.setBit Reg.SL_STAT_FORCED true)))) ∧
  (∀ (b : Bool) (mv ms : Nat) (s : State), s.bit Reg.SL_STAT_LATCH = true ∨ ms < 10 → exec (.startLineForced b mv ms) s = .next s) ∧
  (∀ (b : Bool) (s t : State), regsWf s.regs = true → (exec (.startLineRetry b) s = .next t ∨ ∃ c, exec (.startLineCool b c) s = .next t) →
    t.bit Reg.SL_STAT_LATCH = s.bit Reg.SL_STAT_LATCH ∧ t.pending = s.pending ∧ t.nv = s.nv ∧ t.queues = s.queues)

/-- R419, R420: VBAT below 4.5 V for 2 µs asserts VBAT_FAIL once: it is counted, and while the unit runs drive, lanes, sessions, both banks, the
ledger's open sector and the retained-memory work are given up in one step and PL0 is asked for; in SLEEP and HIBERNATE only the status changes.
Sessions given up leave no session, no run, no ranging and no waiting coupled exchange, and write no register. 5.0 V for 1 ms ends it, with fault
0x0402 where it was asserted since the last start-up and without it where the start-up began with it. VBAT as measured shows in PWR_STAT and leaves
the start-line latch. -/
def Obligations.VbatFailAndReturn : Prop :=
  (∀ (vbat us : Nat) (s : State), vbat < 4500 → 2 ≤ us → s.powAon.failing = false →
    let t := { setVbat vbat s with powAon := { (setVbat vbat s).powAon with failing := true } }
    let u := (t.count Reg.PWR_EVT_NFAIL 1).setBit Reg.PWR_EVT_VBATF true
    (s.runs = true →
      let v := airDrop .shed (fieldDrop .inhibit (sessionsDrop ((awake u).setBit Reg.PWR_STAT_VBATF true)))
      exec (.vbatFail vbat us) s = .next (storeFail (tagAbandon (ledgerFail (relevel (bankOff 1 (bankOff 0 v))))))) ∧
    (s.power.state = .sleep ∨ s.power.state = .hibernate → exec (.vbatFail vbat us) s = .next (u.setBit Reg.PWR_STAT_VBATF true)) ∧
    (s.power.state = .reset → exec (.vbatFail vbat us) s = .next u)) ∧
  (∀ (vbat us : Nat) (s : State), 4500 ≤ vbat ∨ us < 2 ∨ s.powAon.failing = true → exec (.vbatFail vbat us) s = .next (setVbat vbat s)) ∧
  (∀ s : State, (sessionsDrop s).ses.ss = [] ∧ (sessionsDrop s).ses.runs = [] ∧ (sessionsDrop s).fox.pair = [] ∧ (sessionsDrop s).regs = s.regs ∧
    (s.queues.length = 23 → ∀ i ∈ ((sessionsDrop s).queue (.bank 0)).items ++ ((sessionsDrop s).queue (.bank 1)).items, i.isCoupled = false)) ∧
  (∀ (b : Nat) (s : State), regsWf s.regs = true → (bankOff b s).domOn (bankDom b) = false) ∧
  (∀ s : State, (storeFail s).rmc.stopped = true ∧ (storeFail s).rmc.cur = none) ∧
  (∀ (vbat us : Nat) (s : State), 5000 ≤ vbat → 1000 ≤ us → s.powAon.failing = true →
    let t := { setVbat vbat s with powAon := { (setVbat vbat s).powAon with failing := false, inheritedFail := false } }
    let v := t.setBit Reg.PWR_STAT_VBATF false
    (s.runs = true → s.powAon.inheritedFail = false → exec (.vbatFailDeassert vbat us) s =
      .next (storeRecover (raise 0x0402 vbat ((relevel (ledgerReopen v)).setBit Reg.PWR_EVT_RECOV true)))) ∧
    (s.runs = true → s.powAon.inheritedFail = true → exec (.vbatFailDeassert vbat us) s =
      .next (relevel (if v.isHead ∧ v.bit Reg.PWR_BOOT_STAT_DONE ∧ v.led.opened = false then ledgerAccept v else v))) ∧
    (s.power.state = .sleep ∨ s.power.state = .hibernate → exec (.vbatFailDeassert vbat us) s =
      .next (latchWake 9 (raise 0x0402 vbat (v.setBit Reg.PWR_EVT_RECOV true)))) ∧
    (s.power.state = .reset → exec (.vbatFailDeassert vbat us) s = .next t)) ∧
  (∀ (vbat us : Nat) (s : State), vbat < 5000 ∨ us < 1000 ∨ s.powAon.failing = false → exec (.vbatFailDeassert vbat us) s = .next s) ∧
  (∀ (vbat : Nat) (s : State), regsWf s.regs = true → (setVbat vbat s).bit Reg.PWR_STAT_OVR = decide (36000 < vbat) ∧
    (setVbat vbat s).get Reg.PWR_STAT_VBAT = min (vbat / 250) 255 ∧
    (setVbat vbat s).bit Reg.SL_STAT_LATCH = s.bit Reg.SL_STAT_LATCH ∧ (setVbat vbat s).powAon.vbat = vbat)

/-- R419, R421 to R423: VBAT above 36 V inhibits drive with fault 0x0401, once for each excursion, and stress beyond the ratings has no effect the
specification gives; VSYS out of range for 100 µs, or the buck at its limit for 1 ms, with VBAT in range is fault 0x0404, and at 2.90 V (the typical
threshold: the model's choice, log 109) the unit resets; VBKP is sampled every 60 s, a low run reported once; a domain not at its supply after twice
its power-on time is switched off. -/
def Obligations.SupplyLimits : Prop :=
  (∀ (vbat ms : Nat) (s : State), vbat ≤ 40000 ∨ vbat ≤ 58000 ∧ ms ≤ 400 →
    (36000 < vbat → s.bit Reg.PWR_STAT_OVR = false → exec (.vbatOvervoltage vbat ms) s =
      .next (fieldStop .inhibit (lfInhibit ((raise 0x0401 vbat (setVbat vbat s)).setBit Reg.PWR_EVT_OV true)))) ∧
    (vbat ≤ 36000 ∨ s.bit Reg.PWR_STAT_OVR = true → exec (.vbatOvervoltage vbat ms) s = .next (setVbat vbat s))) ∧
  (∀ (vbat ms : Nat) (s : State), 58000 < vbat ∨ 40000 < vbat ∧ 400 < ms → exec (.vbatOvervoltage vbat ms) s = .fault .beyondRatings) ∧
  (∀ (vsys us lim : Nat) (s : State),
    let t := { s with powAon := { s.powAon with vsys := vsys } }
    (2900 < vsys → (vsys < 3100 ∨ 3500 < vsys) ∧ 100 ≤ us ∨ 1000 ≤ lim → s.powAon.failing = false → s.bit Reg.PWR_STAT_OVR = false →
      exec (.vsysOutOfRange vsys us lim) s = .next ((raise 0x0404 vsys t).setBit Reg.PWR_EVT_BUCK true)) ∧
    (2900 < vsys → (3100 ≤ vsys ∧ vsys ≤ 3500 ∨ us < 100) ∧ lim < 1000 ∨ s.powAon.failing = true ∨ s.bit Reg.PWR_STAT_OVR = true →
      exec (.vsysOutOfRange vsys us lim) s = .next t) ∧
    (vsys ≤ 2900 → exec (.vsysOutOfRange vsys us lim) s = .next (vsysReset t))) ∧
  (∀ (v : Nat) (s : State), s.bit Reg.PWR_STAT_BKP = false → s.after s.powAon.vbkpAt 60000000 = true →
    let t := enterSamples [(v : Int)] { s with powAon := { s.powAon with vbkpAt := s.now } }
    let t := (t.put Reg.PWR_STAT_VBKP (min (v / 20) 255)).setBit Reg.PWR_STAT_VBKPLO (decide (v < 2200))
    (s.refBad = false → v < 2200 → s.powAon.vbkpArmed = true → exec (.vbkpSample v) s =
      .next ((raise 0x0403 v { t with powAon := { t.powAon with vbkpArmed := false } }).setBit Reg.PWR_EVT_VBKPLO true)) ∧
    (s.refBad = false → v < 2300 → 2200 ≤ v ∨ s.powAon.vbkpArmed = false → exec (.vbkpSample v) s = .next t) ∧
    (s.refBad = false → 2300 ≤ v → exec (.vbkpSample v) s = .next { t with powAon := { t.powAon with vbkpArmed := true } }) ∧
    (s.refBad = true → exec (.vbkpSample v) s = .next (recomputes .aon s))) ∧
  (∀ (v : Nat) (s : State), s.bit Reg.PWR_STAT_BKP = true ∨ s.after s.powAon.vbkpAt 60000000 = false → exec (.vbkpSample v) s = .next s) ∧
  (∀ (d : Dom) (us : Nat) (s : State), d ≠ .aon → s.domOn d = true → 2 * d.onTime ≤ us →
    let t := boostCheck ((domainLost d s).setDom d false)
    let t := { t with outs := { t.outs with fabric := some (.off, []) } }
    exec (.domainPowerFail d us) s = .next (raise 0x0405 d.bit (t.setBitAt Reg.PWR_DOM_FAIL d.bit))) ∧
  (∀ (d : Dom) (us : Nat) (s : State), d = .aon ∨ s.domOn d = false ∨ us < 2 * d.onTime → exec (.domainPowerFail d us) s = .next s) ∧
  (Dom.onTime .lfa = 70 ∧ Dom.onTime .lfb = 70 ∧ Dom.onTime .ar0 = 60 ∧ Dom.onTime .ar1 = 60 ∧
    ∀ d ∈ [Dom.sup, .seq, .fox, .vlt, .ldg, .lnk], Dom.onTime d = 20)

/-- R425, R426, R428 to R430: the level in force is the lowest of the profile's, the caps' and PL0 under VBAT_FAIL; a change downward switches the clock
first, one upward the voltage first, at 10 mV/µs, and a level asked for meanwhile follows; PWR_PL.CHG sets when CUR changes; the trim stays within
30 mV; DOZE after 50 µs with nothing pending, STANDBY with nothing due within 1 ms, no entry with a wake event latched; a wake from SLEEP ends in
ON, an internal one leaves PD_LNK and the transceiver alone; under VBAT_FAIL a wake stops at step 3 with its event latched. -/
def Obligations.LevelsAndPowerStates : Prop :=
  (∀ s : State, s.bit Reg.PWR_STAT_VBATF = true → s.levelFor = 0) ∧
  (∀ s : State, s.levelFor ≤ s.profileLevel ∧ s.hh.caps.all (fun c => decide (s.levelFor ≤ c.2)) = true) ∧
  (∀ (l : Nat) (s : State), s.get Reg.PWR_PL_CUR ≠ l → regsWf s.regs = true → l < 4 →
    (runLevel l s).get Reg.PWR_PL_CUR = l ∧ (runLevel l s).bit Reg.PWR_PL_CHG = true) ∧
  (∀ s : State, s.runs = true → s.power.ramp = none → s.hh.trial = none →
    let t := { relevel s with power := { (relevel s).power with ramp := some s.levelFor, plAt := s.now, plFrom := s.get Reg.PWR_PL_CUR } }
    (s.levelFor = s.get Reg.PWR_PL_CUR → exec .plChange s = .next (relevel s)) ∧
    (s.levelFor < s.get Reg.PWR_PL_CUR → exec .plChange s = .next (runLevel s.levelFor t)) ∧
    (s.get Reg.PWR_PL_CUR < s.levelFor → exec .plChange s = .next t)) ∧
  (∀ s : State, s.runs = true → s.power.ramp.isSome = true ∨ s.hh.trial.isSome = true → exec .plChange s = .next (relevel s)) ∧
  (∀ s : State, s.runs = false → exec .plChange s = .next s) ∧
  (∀ (l : Nat) (trim : Int) (s : State), s.power.ramp = some l →
    let t := runLevel l (setTrim l trim { s with power := { s.power with ramp := none } })
    (s.after s.power.plAt (rampTime s.power.plFrom l) = true → t.levelFor = l → exec (.plChangeDone trim) s = .next ((relevel t).setBit Reg.PWR_PL_BUSY false)) ∧
    (s.after s.power.plAt (rampTime s.power.plFrom l) = true → t.levelFor ≠ l → ∃ u, exec (.plChangeDone trim) s = .next u ∧ u.power.ramp = some t.levelFor) ∧
    (s.after s.power.plAt (rampTime s.power.plFrom l) = false → exec (.plChangeDone trim) s = .next s)) ∧
  (rampTime 0 3 = 25 ∧ rampTime 3 0 = 25) ∧
  (∀ (trim : Int) (s : State), s.runs = true → s.power.ramp = none →
    (s.after s.power.trimAt 1000000 = true → exec (.processTrim trim) s = .next (setTrim (s.get Reg.PWR_PL_CUR) trim s)) ∧
    (s.after s.power.trimAt 1000000 = false → exec (.processTrim trim) s = .next s)) ∧
  (∀ trim : Int, -30 ≤ clampInt (-30) 30 trim ∧ clampInt (-30) 30 trim ≤ 30) ∧
  (∀ s : State, s.power.state = .on →
    (s.idle = true → s.after s.power.activeAt 50 = true → s.powAon.wakes = [] → exec .dozeEntry s = .next { s with power := { s.power with state := .doze } }) ∧
    (s.idle = false ∨ s.after s.power.activeAt 50 = false ∨ s.powAon.wakes ≠ [] → exec .dozeEntry s = .next s)) ∧
  (∀ s : State, s.power.state = .doze →
    (s.timerDue = false → s.pollDue = false → s.wmDue = false → s.searchDue = false → s.powAon.wakes = [] →
      exec .standbyEntry s = .next { s with power := { s.power with state := .standby } }) ∧
    (s.timerDue = true ∨ s.pollDue = true ∨ s.wmDue = true ∨ s.searchDue = true ∨ s.powAon.wakes ≠ [] → exec .standbyEntry s = .next s)) ∧
  (∀ s : State, s.power.state = .doze ∨ s.power.state = .standby → (awake s).power.state = .on ∧ (awake s).power.activeAt = s.now) ∧
  (∀ (env : BootEnv) (s : State), s.power.state = .sleep → s.powAon.wakes ≠ [] →
    (s.powAon.failing = true → exec (.wakeEvent env) s = .next (s.put Reg.PWR_DOM_ON (if s.tag.field then 0xF07 else 0x707))) ∧
    (s.powAon.failing = false →
      let t := fullWake (wakeUp (listMin s.powAon.wakes 15) env s)
      let u := if t.isHead then settSend 0x0D true 1 .p1 (be 1 t.profile) { t with sett := { t.sett with profAt := s.now } } else t
      exec (.wakeEvent env) s = .next (fireHeld (evalProfile true u)))) ∧
  (∀ (env : BootEnv) (t : Nat) (s : State), s.power.state = .sleep → s.powAon.wakeTimer = some t →
    (t ≤ s.now → s.powAon.failing = false → s.powAon.wakes = [] → exec (.internalWake env) s = .next (wakeUp 8 env s)) ∧
    (s.now < t → exec (.internalWake env) s = .next s)) ∧
  (∀ (env : BootEnv) (s : State), s.power.state ≠ .sleep → exec (.wakeEvent env) s = .next s ∧ exec (.internalWake env) s = .next s)

/-- R435 to R438: what the Hedgehog measures. A sample of the eight sensors drops those without a reading or 20 °C from the median of their die, raises
0x1108 for each, and takes or undoes the steps of Table 20-2: a step at its threshold, undone after 1 s at 10 °C below; a rail outside its window
for its filter time is noted once and takes its action, one back in its window ends what it caused; a margin below 8 % at the clamped trim lowers
the cap, below 0 % at PL0 restarts; a trial raises the voltage alone, ends when the margins have been measured for 100 µs, and lifts the cap only at
12 % or more. Samples while the reference is out of range are not taken but measured again. The median of an even number of readings is the model's
(log 21). -/
def Obligations.Monitors : Prop :=
  (∀ (r : List (Option Int)) (s : State), s.runs = true → s.after s.hh.tempAt 1000 = true → s.refBad = false →
    let bad := newInvalid s.hh.invalid r [0, 1, 2, 3] ++ newInvalid s.hh.invalid r [4, 5, 6, 7]
    let inv := s.hh.invalid ++ bad
    let t := bad.foldl (fun s n => raise 0x1108 (tempDetail n ((r.getD n none).getD 0)) s)
      (tempRegs inv r (enterSamples (r.filterMap id) { s with hh := { s.hh with tempAt := s.now, invalid := inv } }))
    (s.hh.haltGroup = none → exec (.tempSample r) s = .next (tempRows.foldl (stepRow inv r) t)) ∧
    (∀ g, s.hh.haltGroup = some g → exec (.tempSample r) s = .next (haltRelease g inv r t))) ∧
  (∀ (r : List (Option Int)) (s : State), s.runs = true → s.after s.hh.tempAt 1000 = true → s.refBad = true →
    exec (.tempSample r) s = .next (recomputes .sup s)) ∧
  (∀ (r : List (Option Int)) (s : State), s.runs = false ∨ s.after s.hh.tempAt 1000 = false → exec (.tempSample r) s = .next s) ∧
  (∀ (inv : List Nat) (r : List (Option Int)) (row : TempRow) (s : State), s.stepOn row.code row.group = false →
    ((groupMax inv r row).2 < row.limit → stepRow inv r s row = s) ∧
    (row.limit ≤ (groupMax inv r row).2 → stepRow inv r s row = stepTaken row.code row.group (shedBits (raise row.code
      (tempDetail (groupMax inv r row).1 (groupMax inv r row).2) { s with hh := { s.hh with steps := ⟨row.code, row.group, s.now, none⟩ :: s.hh.steps } })))) ∧
  (∀ (inv : List Nat) (r : List (Option Int)) (row : TempRow), validOf inv r row.sensors = [] →
    (groupMax inv r row).2 = (if row.group = 0 then 11800 else 15000)) ∧
  (∀ (inv : List Nat) (r : List (Option Int)) (n : Nat) (v : Int), (n, v) ∈ validOf inv r [0, 1, 2, 3] → v ≤ (groupMax inv r ⟨0x1101, 0, [0, 1, 2, 3], 11000⟩).2) ∧
  (tempRows.map (fun t => (t.code, t.limit)) = [(0x1101, 11000), (0x1102, 11800), (0x1103, 12500), (0x1104, 13000), (0x1105, 14000), (0x1105, 14000),
    (0x1106, 15000), (0x1107, 16000)]) ∧
  (∀ (rail mv us code : Nat) (s : State), s.railOn rail = true → s.bitAt Reg.SUP_VMON_V (rail - 1) = false → s.railIn rail mv = false →
    railFilter rail ≤ us → railCode rail = some code →
    let t := s.setBitAt Reg.SUP_VMON_V (rail - 1)
    let d := rail * 256 + min (mv * 100 / s.railNominal rail) 255
    (code = 0x1201 → exec (.railOutOfRange rail mv us) s = .next (railCore d t)) ∧
    (code = 0x1203 → exec (.railOutOfRange rail mv us) s = .next (airDrop .shed (shedBits (raise code d t)))) ∧
    (code = 0x1207 → exec (.railOutOfRange rail mv us) s =
      .next (fieldStop .inhibit (lfInhibit (raise code d (allowTrack { t with power := { t.power with gateOk := false } }))))) ∧
    (code ≠ 0x1201 → code ≠ 0x1203 → code ≠ 0x1207 → exec (.railOutOfRange rail mv us) s = .next (raise code d t))) ∧
  (∀ (rail mv us : Nat) (s : State), s.railOn rail = true → s.bitAt Reg.SUP_VMON_V (rail - 1) = false → s.railIn rail mv = false →
    railFilter rail ≤ us → railCode rail = none → exec (.railOutOfRange rail mv us) s = .next (s.setBitAt Reg.SUP_VMON_V (rail - 1))) ∧
  (∀ (rail mv us : Nat) (s : State), s.railOn rail = false ∨ s.bitAt Reg.SUP_VMON_V (rail - 1) = true ∨ s.railIn rail mv = true ∨ us < railFilter rail →
    exec (.railOutOfRange rail mv us) s = .next s) ∧
  (∀ (rail mv us : Nat) (s : State), s.railOn rail = true → s.bitAt Reg.SUP_VMON_V (rail - 1) = true → s.railIn rail mv = true →
    let t := s.clearBitAt Reg.SUP_VMON_V (rail - 1)
    (rail = 7 → exec (.railBackInRange rail mv us) s = .next (dropCap 0x1201 t)) ∧
    (rail = 8 → 1000 ≤ us → exec (.railBackInRange rail mv us) s = .next (listenKick (shedBits t))) ∧
    (rail = 11 → exec (.railBackInRange rail mv us) s = .next (allowTrack { t with power := { t.power with gateOk := true } })) ∧
    (rail ≠ 7 → rail ≠ 8 → rail ≠ 11 → exec (.railBackInRange rail mv us) s = .next t)) ∧
  (∀ (rail mv us : Nat) (s : State), s.railOn rail = false ∨ s.bitAt Reg.SUP_VMON_V (rail - 1) = false ∨ s.railIn rail mv = false ∨ rail = 8 ∧ us < 1000 →
    exec (.railBackInRange rail mv us) s = .next s) ∧
  (∀ (mv : Nat) (s : State), (s.railIn 5 mv = true ↔ 1100 ≤ mv ∧ mv ≤ 1300) ∧ (s.railIn 6 mv = true ↔ 1700 ≤ mv ∧ mv ≤ 1900) ∧
    (s.railIn 8 mv = true ↔ 940 ≤ mv ∧ mv ≤ 1060) ∧ (s.railIn 11 mv = true ↔ 4500 ≤ mv ∧ mv ≤ 5500) ∧
    (s.railIn 12 mv = true ↔ s.powAon.vbat + 3500 ≤ mv) ∧ (s.railIn 14 mv = true ↔ 1188 ≤ mv ∧ mv ≤ 1212)) ∧
  (∀ (d : Nat) (s : State), (s.get Reg.PWR_PL_CUR = 0 → railCore d s = raiseAs .restart 0x1201 d s) ∧
    (∀ l, s.get Reg.PWR_PL_CUR = l + 1 → railCore d s = setCap 0x1201 l (raiseAs .reduce 0x1201 d s))) ∧
  (∀ (ms : List Int) (s : State), s.runs = true → s.hh.pmDrop = [] → ms.length = 4 → ms.all (fun a => ms.all (fun b => decide ((a - b).natAbs ≤ 30))) = true →
    let t := pmonRegs ms s
    let m := median2 ms
    (m < 0 → s.get Reg.PWR_PL_CUR = 0 → exec (.processMonitor ms) s = .next (raise 0x1303 0 t)) ∧
    (m < 32 → ¬ (m < 0 ∧ s.get Reg.PWR_PL_CUR = 0) → toInt 8 (s.get Reg.PWR_PL_TRIM) = 30 → exec (.processMonitor ms) s = .next (marginLow t)) ∧
    (32 ≤ m → exec (.processMonitor ms) s = .next t)) ∧
  (∀ (ms : List Int) (at_ code cap : Nat) (s : State), s.runs = true → s.hh.trialAt = some at_ → s.hh.caps.find? (fun c => c.1 == 0x1301) = some (code, cap) →
    s.power.ramp = none →
    (s.hh.trial = none → s.after at_ 60000000 = true → exec (.plCapTrial ms) s = .next (trialBegin (cap + 1) s)) ∧
    (s.hh.trial = none → s.after at_ 60000000 = false → exec (.plCapTrial ms) s = .next s) ∧
    (∀ t, s.hh.trial = some t → s.after t (rampTime cap (cap + 1) + 100) = true → exec (.plCapTrial ms) s = .next (trialEnd cap ms s)) ∧
    (∀ t, s.hh.trial = some t → s.after t (rampTime cap (cap + 1) + 100) = false → exec (.plCapTrial ms) s = .next s)) ∧
  (∀ (l : Nat) (s : State), regsWf s.regs = true → (trialBegin l s).bit Reg.PWR_PL_BUSY = true ∧ (trialBegin l s).get Reg.PWR_PL_CUR = s.get Reg.PWR_PL_CUR) ∧
  (∀ (ms : List Int) (cap : Nat) (s : State),
    (median2 ((s.monitors ms).map (·.2)) < 48 → (trialEnd cap ms s).hh.caps = s.hh.caps ∧ (trialEnd cap ms s).get Reg.PWR_PL_CUR = s.get Reg.PWR_PL_CUR) ∧
    (48 ≤ median2 ((s.monitors ms).map (·.2)) → (cap + 1 < 3 → (0x1301, cap + 1) ∈ (trialEnd cap ms s).hh.caps) ∧
      (3 ≤ cap + 1 → ∀ c ∈ (trialEnd cap ms s).hh.caps, c.1 ≠ 0x1301)))

/-- R432, R439 to R444: isolation ends in a reset of the block alone 20 ms later, which takes 1 ms; an essential block that reports again within 60 s of
its reset asks for a restart, any other stays isolated; a fourth RESTART within 600 s is deferred with fault 0x1402 until the first is 600 s old; a
P0 event unserved for 20 ms restarts; beside a HALT of the same tick a RESTART does not run, whichever is raised first (R433); a code's record comes
at once or when its 60 s end, with the raisings counted; no raising changes the start-line latch's hold on the lines. -/
def Obligations.BlocksAndReports : Prop :=
  (∀ (b : Block) (i : IsoBlk) (s : State), s.hh.iso.find? (fun i => i.block == b) = some i →
    (i.isolated = true → i.forGood = false → i.resetting = none → s.after i.at_ 20000 = true →
      exec (.blockReset b) s = .next { blockClear b s with
        hh := { (blockClear b s).hh with iso := { i with resetting := some s.now } :: (blockClear b s).hh.iso.filter (fun x => x.block != b) } }) ∧
    (i.isolated = false ∨ i.forGood = true ∨ i.resetting.isSome = true ∨ s.after i.at_ 20000 = false → exec (.blockReset b) s = .next s)) ∧
  (∀ (b : Block) (i : IsoBlk) (at_ : Nat) (s : State), s.hh.iso.find? (fun i => i.block == b) = some i → i.resetting = some at_ →
    (s.after at_ 1000 = true → ∃ t, exec (.blockResetDone b) s = .next t ∧ t.isIsolated b = false) ∧
    (s.after at_ 1000 = false → exec (.blockResetDone b) s = .next s)) ∧
  (∀ (b : Block) (s : State), s.hh.iso.find? (fun i => i.block == b) = none → exec (.blockReset b) s = .next s ∧ exec (.blockResetDone b) s = .next s) ∧
  (∀ (b : Block) (code : Nat) (s : State), 2 ≤ b.region → b ≠ .entropy → (isolate b code s).isIsolated b = true) ∧
  (∀ (b : Block) (code : Nat) (s : State), b.region < 2 → isolate b code s = s) ∧
  (∀ (b : Block) (code : Nat) (s : State), 2 ≤ b.region → b ≠ .entropy → b ≠ .lane0 → b ≠ .lane1 → s.isIsolated b = false →
    s.hh.iso.any (fun i => i.block == b && (i.resetAt.any (fun t => s.within t 60000000))) = true →
    (isolate b code s).hh.iso.any (fun i => i.block == b && i.isolated && i.forGood) = true) ∧
  (∀ (code : Nat) (s : State), s.hh.restart = none → s.hh.haltGroup = none → s.hh.haltAt ≠ some s.now →
    (s.recentRestarts.length < 3 → (requestRestart code s).hh.restart = some (code, s.now)) ∧
    (3 ≤ s.recentRestarts.length → s.hh.deferred = none → (requestRestart code s).hh.restart = none ∧ (requestRestart code s).hh.deferred = some code)) ∧
  (∀ (code : Nat) (s : State), (s.hh.haltAt = some s.now → requestRestart code s = s) ∧
    (s.hh.restart = some (code, s.now) → (enterHalt s).hh.restart = none ∧ (enterHalt s).hh.haltAt = some s.now)) ∧
  (∀ (code : Nat) (s : State), s.hh.deferred = some code →
    (s.recentRestarts.length < 3 → exec .deferredRestart s = .next (requestRestart code { s with hh := { s.hh with deferred := none } })) ∧
    (3 ≤ s.recentRestarts.length → exec .deferredRestart s = .next s)) ∧
  (∀ (i : QItem) (rest : List QItem) (s : State), s.runs = true → popBest (s.queue .session).items = some (i, rest) → i.cls = .p0 →
    (s.after i.at_ 20000 = true → exec .sessionWatchdog s = .next (raise 0x1401 0 s)) ∧
    (s.after i.at_ 20000 = false → exec .sessionWatchdog s = .next s)) ∧
  (∀ (code : Nat) (r : FltRep) (s : State), s.repOf code = some r →
    (r.since ≠ 0 → s.after r.recAt 60000000 = true → exec (.faultReportWindowEnd code) s =
      .next (noteDrop (faultRecord (faultAction code) code r.since r.detail { s with
        hh := { s.hh with reports := { r with recAt := s.now, since := 0 } :: s.hh.reports.filter (fun x => x.code != code) } }))) ∧
    (r.since = 0 ∨ s.after r.recAt 60000000 = false → exec (.faultReportWindowEnd code) s = .next s)) ∧
  (∀ (code d : Nat) (s : State), (s.repOf code = none → ⟨code, s.now, 0, d⟩ ∈ s.reportsAfter code d) ∧
    (∀ r, s.repOf code = some r → s.after r.recAt 60000000 = false → { r with since := r.since + 1, detail := d } ∈ s.reportsAfter code d)) ∧
  (faultAction 0x1101 = .reduce ∧ faultAction 0x1102 = .shed ∧ faultAction 0x1104 = .halt ∧ faultAction 0x1202 = .restart ∧ faultAction 0x1401 = .restart ∧
    faultAction 0x3101 = .isolate ∧ faultAction 0x4101 = .halt ∧ faultAction 0x4302 = .halt ∧ faultAction 0x5101 = .halt ∧ faultAction 0x6201 = .log ∧
    faultAction 0x5F0B = .isolate)

/-- R161, R179, R181: the 9-bit generator with its seeds and its period, the scrambler of a frame's payload bits from 0x7FFF xor SEQ with the header
left alone, and the interleaver's place for every coded bit of a symbol. -/
def Obligations.GeneratorScramblerInterleaver : Prop :=
  (∀ (seed : Nat) (st : Nat → Nat), 0 < seed → seed < 512 → st 0 = seed →
    (∀ i, st (i + 1) = ((st i <<< 1) &&& 0x1FF) ||| ((st i).testBit 8 ^^ (st i).testBit 4).toNat) →
    ∀ n, (gen9 n seed).length = n ∧ (∀ i, i < n → (gen9 n seed)[i]? = some ((st i).testBit 8)) ∧
      (∀ i, i + 511 < n → (gen9 n seed)[i + 511]? = (gen9 n seed)[i]?)) ∧
  ((∀ b : Bool, sign b = 1 - 2 * (b.toNat : Int)) ∧
    syncCode 1 = (gen9 212 0x1FF).map sign ∧ syncCode 2 = (gen9 212 0x0F0).map sign ∧ syncCode 3 = (gen9 212 0x133).map sign ∧
    syncCode 4 = (gen9 212 0x0AA).map sign ∧ longSymbol = (gen9 852 0x1A5).map sign ∧
    (∀ i n, pilot i n = sign ((gen9 511 0x0C7).getD ((i + 7 * n) % 511) false)) ∧
    (∀ inter n m, slotValue inter n m = sign (inter.getD (m % n) false) * sign ((gen9 1536 0x155).getD m false)) ∧
    gen9 16 0x1FF = [true, true, true, true, true, true, true, true, true, false, false, false, false, false, true, true]) ∧
  (∀ (f : AirFrame) (st : Nat → Nat) (s : Nat → Bool),
    let seq := (AirHdr.of f.hdr).seq
    let bits := bitsOf f.body
    st 0 = 0x7FFF ^^^ seq → (∀ i, s i = ((st i).testBit 14 ^^ (st i).testBit 13)) →
    (∀ i, st (i + 1) = ((st i <<< 1) ||| (s i).toNat) &&& 0x7FFF) →
    ∃ sent : List Bool, sent.length = bits.length ∧ (∀ i x, bits[i]? = some x → sent[i]? = some (x ^^ s i)) ∧
      payloadSymbols f = fillSymbols (codedN (AirHdr.of f.hdr).cls) ((cutBits (blockSizes sent.length) sent).flatMap convCode) ∧
      headerSymbols f = fillSymbols (codedN (AirHdr.of f.hdr).cls) (convCode (bitsOf (be 8 f.hdr)))) ∧
  (∀ (sym : List Bool) (j : Nat), sym.length ∈ [24, 96, 384] → j < sym.length →
    let n := sym.length
    (interleaved n sym)[j % 8 * (n / 8) + j / 8]? = sym[j]? ∧
    (j + 1 < n → n / 8 ≤ ((j % 8 * (n / 8) + j / 8 : Int) - ((j + 1) % 8 * (n / 8) + (j + 1) / 8 : Int)).natAbs)) ∧
  (∀ sym : List Bool, sym.length = 6 → interleaved 6 sym = sym)

/-- R116: the check byte of a wake frame is the CRC-8 of R8 over the three wake ID bytes and the command byte as they are sent, the preamble left out: a
register of eight bits from 0, shifted left for each bit of the message from the highest on, 0x07 added where the bit leaving it differs from the
message's; so a whole frame after its preamble leaves the register at 0. -/
def Obligations.WakeFrameCheckByte : Prop :=
  (∀ vehicle command tones : Nat,
    let sent := be 3 (wakeId vehicle) ++ be 1 (command * 32 + tones)
    ∃ crc : Byte, wakeBytes vehicle command tones = [0xAB] ++ sent ++ [crc] ∧
      crc.toNat = (sent.flatMap (fun x => (byteBits x).reverse)).foldl
        (fun r b => if r.testBit 7 ^^ b then (r * 2) % 256 ^^^ 0x07 else (r * 2) % 256) 0 ∧
      crc8 (sent ++ [crc]) = 0) ∧
  crc8 [0x31, 0x32, 0x33, 0x34, 0x35, 0x36, 0x37, 0x38, 0x39] = 0xF4

/-- R40, R342: a write into the shared SRAM stores its bytes, lowest first, at its address; one into VLT_BUF by the master that has it stores them
there; every other byte of that memory and every byte of the other memories stays. A write that fails one of the six checks stores nothing anywhere. -/
def Obligations.MemoryWrites : Prop :=
  (∀ (m : Master) (a v off : Nat) (w : Width) (s t : State), fabCheck m a w true s = (.ok, some (.sram off), t) → s.wf = true →
    ∃ u, exec (.registerWrite m a w v) s = .next u ∧
      (∀ x, memGet u.sram x = if off ≤ x ∧ x < off + w.bytes then BitVec.ofNat 8 (v / 256 ^ (x - off)) else memGet s.sram x) ∧
      u.nv.mem = s.nv.mem ∧ u.den.buf = s.den.buf ∧ u.cry.buf = s.cry.buf ∧ u.tag.sram = s.tag.sram) ∧
  (∀ (m : Master) (a v off : Nat) (w : Width) (s t : State), fabCheck m a w true s = (.ok, some (.vltBuf off), t) → s.wf = true →
    t.denBusy m = false → t.get Reg.VLT_STAT_OWN = m.id →
    ∃ u, exec (.registerWrite m a w v) s = .next u ∧
      (∀ x, memGet u.den.buf x = if off ≤ x ∧ x < off + w.bytes then BitVec.ofNat 8 (v / 256 ^ (x - off)) else memGet t.den.buf x) ∧
      u.nv.mem = s.nv.mem ∧ u.sram = s.sram ∧ u.cry.buf = s.cry.buf ∧ u.tag.sram = s.tag.sram) ∧
  (∀ (m : Master) (a v : Nat) (w : Width) (s t : State) (st : FabStatus) (x : Option Target), fabCheck m a w true s = (st, x, t) → st ≠ .ok →
    ∃ u, exec (.registerWrite m a w v) s = .next u ∧ u.sram = s.sram ∧ u.nv.mem = s.nv.mem ∧ u.den.buf = s.den.buf ∧ u.cry.buf = s.cry.buf ∧
      u.tag.sram = s.tag.sram)
end

