-- ==== Sys2Proof/Laws/Cipher.lean ====
section
/-! SUPPORT. Lengths of what the block cipher and the codes built on it answer. -/

namespace Sys2Proof.Machine

/-- A string of `n` whole blocks falls into `n` of them. -/
theorem chunksAux_length (k : Nat) (hk : 0 < k) : ∀ (n f : Nat) (b : Bytes), b.length = k * n → n ≤ f → (chunksAux k f b).length = n
  | 0, 0, b, _, _ => by simp [chunksAux]
  | 0, f + 1, b, h, _ => by
    have hb : b = [] := List.eq_nil_of_length_eq_zero (by simpa using h)
    simp [chunksAux, hb]
  | n + 1, 0, _, _, h => absurd h (by omega)
  | n + 1, f + 1, b, h, hf => by
    have hb : b ≠ [] := by
      intro e; subst e; simp at h; omega
    rw [chunksAux, if_neg hb, List.length_cons]
    rw [chunksAux_length k hk n f (b.drop k) (by rw [List.length_drop, h, Nat.mul_succ]; omega) (by omega)]

theorem wordsOf_length (n : Nat) (b : Bytes) (h : b.length = 4 * n) : (wordsOf b).length = n := by
  rw [wordsOf, List.length_map, chunks, chunksAux_length 4 (by omega) n b.length b h (by omega)]

theorem aesExpandAux_length (nk : Nat) : ∀ (f i : Nat) (ws : List Nat), (aesExpandAux nk f i ws).length = ws.length + f
  | 0, _, _ => rfl
  | f + 1, i, ws => by
    rw [aesExpandAux, aesExpandAux_length nk f, List.length_cons]; omega

@[simp] theorem fit_length (n : Nat) (b : Bytes) : (fit n b).length = n := by
  simp [fit, zeros]

/-- Every round key has 16 bytes. -/
theorem aesSchedule_keys (key : Bytes) : ∀ k ∈ aesSchedule key, k.length = 16 := by
  intro k hk
  simp only [aesSchedule, List.mem_map, List.mem_range] at hk
  obtain ⟨r, hr, rfl⟩ := hk
  generalize hn : (if 16 < key.length then 8 else 4) = nk at *
  have hnk : nk = 8 ∨ nk = 4 := by split at hn <;> omega
  have hl : ((aesExpandAux nk (4 * (nk + 7) - nk) nk (wordsOf (fit (4 * nk) key)).reverse).reverse).length = 4 * (nk + 7) := by
    rw [List.length_reverse, aesExpandAux_length, List.length_reverse, wordsOf_length nk _ (fit_length _ _)]; omega
  rw [List.length_take, List.length_drop, List.length_flatMap]
  have hm : ∀ l : List Nat, (l.map (fun w : Nat => [w / 0x1000000 % 256, w / 0x10000 % 256, w / 0x100 % 256, w % 256].length)).sum = 4 * l.length := by
    intro l; induction l with
    | nil => rfl
    | cons a l ih => rw [List.map_cons, List.sum_cons, ih, List.length_cons]; simp only [List.length_cons, List.length_nil]; omega
  rw [hm, hl]; omega

theorem aesSchedule_tail (key : Bytes) : (aesSchedule key).tail ≠ [] := by
  intro h
  have : (aesSchedule key).tail.length = 0 := by rw [h]; rfl
  simp only [aesSchedule, List.length_tail, List.length_map, List.length_range] at this
  split at this <;> omega

theorem aesRounds_length : ∀ (ks : List (List Nat)) (s : List Nat), ks ≠ [] → (∀ k ∈ ks, k.length = 16) → (aesRounds ks s).length = 16
  | [], _, h, _ => absurd rfl h
  | [k], s, _, h => by simp [aesRounds, xorNats, aesShiftRows, h]
  | k :: l :: ks, s, _, h => aesRounds_length (l :: ks) _ (by simp) (fun x hx => h x (List.mem_cons_of_mem _ hx))

/-- The cipher answers a block whatever it is given (FIPS 197). -/
theorem aesWith_length (key b : Bytes) : (aesWith (aesSchedule key) b).length = 16 := by
  rw [aesWith, List.length_map]
  exact aesRounds_length _ _ (aesSchedule_tail key) (fun k hk => aesSchedule_keys key k (List.mem_of_mem_tail hk))

theorem cbcMac_length (key : Bytes) (bs : List Bytes) : (cbcMac (aesSchedule key) bs).length = 16 := by
  have : ∀ (bs : List Bytes) (a : Bytes), a.length = 16 →
      (bs.foldl (fun acc b => aesWith (aesSchedule key) (xorBytes acc b)) a).length = 16 := by
    intro bs; induction bs with
    | nil => exact fun _ h => h
    | cons b bs ih => exact fun a _ => ih _ (aesWith_length key _)
  exact this bs (zeros 16) rfl

/-- A CMAC has 16 bytes (SP 800-38B). -/
@[simp] theorem cmac_length (key m : Bytes) : (cmac key m).length = 16 := cbcMac_length key _

end Sys2Proof.Machine
end

