-- ==== Sys2Proof/Laws/Mem.lean ====
section
/-! SUPPORT. What the reads and writes of the sparse memories and of the register map do, and that every write keeps the canonical form. -/

namespace Sys2Proof.Machine

/-! ### Byte memories -/

theorem memWfFrom_mono {lo lo' : Nat} (h : lo' ≤ lo) : ∀ {m : List Host.Cell}, memWfFrom lo m = true → memWfFrom lo' m = true
  | [], _ => rfl
  | (a, v) :: m, hm => by simp only [memWfFrom, Bool.and_eq_true, decide_eq_true_eq] at hm ⊢; exact ⟨⟨by omega, hm.1.2⟩, hm.2⟩

theorem memGet_below : ∀ {m : List Host.Cell} {lo a : Nat}, memWfFrom lo m = true → a < lo → memGet m a = 0
  | [], _, _, _, _ => rfl
  | (b, v) :: m, lo, a, hm, ha => by
    simp only [memWfFrom, Bool.and_eq_true, decide_eq_true_eq] at hm
    simp only [memGet]; rw [if_neg (by omega), if_pos (by omega)]

theorem memSet_wfFrom : ∀ {m : List Host.Cell} {lo a : Nat} {v : Byte}, memWfFrom lo m = true → lo ≤ a →
    memWfFrom lo (memSet m a v) = true
  | [], lo, a, v, _, ha => by
    simp only [memSet]
    split
    · rfl
    · rename_i h; simp only [memWfFrom, Bool.and_eq_true, decide_eq_true_eq]; exact ⟨⟨ha, h⟩, trivial⟩
  | (b, w) :: m, lo, a, v, hm, ha => by
    have hm' := hm
    simp only [memWfFrom, Bool.and_eq_true, decide_eq_true_eq] at hm
    simp only [memSet]
    split
    · split
      · exact hm'
      · rename_i h hv
        simp only [memWfFrom, Bool.and_eq_true, decide_eq_true_eq]
        exact ⟨⟨ha, hv⟩, ⟨by omega, hm.1.2⟩, hm.2⟩
    · split
      · split
        · exact memWfFrom_mono (by omega) hm.2
        · rename_i h e hv
          simp only [memWfFrom, Bool.and_eq_true, decide_eq_true_eq]
          exact ⟨⟨ha, hv⟩, by rw [e]; exact hm.2⟩
      · simp only [memWfFrom, Bool.and_eq_true, decide_eq_true_eq]
        exact ⟨hm.1, memSet_wfFrom hm.2 (by omega)⟩

/-- A read after a write: the byte written at its address, every other byte as before. -/
theorem memGet_memSet : ∀ {m : List Host.Cell} {lo : Nat} (a b : Nat) (v : Byte), memWfFrom lo m = true →
    memGet (memSet m a v) b = if b = a then v else memGet m b
  | [], _, a, b, v, _ => by
    simp only [memSet]
    split
    · rename_i hv; split
      · exact hv.symm
      · rfl
    · by_cases hb : b = a
      · rw [if_pos hb, hb]; simp only [memGet, if_true]
      · simp only [memGet, if_neg (Ne.symm hb), if_neg hb]; split <;> rfl
  | (c, w) :: m, lo, a, b, v, hm => by
    simp only [memWfFrom, Bool.and_eq_true, decide_eq_true_eq] at hm
    simp only [memSet]
    split
    · rename_i hac
      split
      · rename_i hv
        by_cases hb : b = a
        · subst hb; simp only [memGet]; rw [if_neg (by omega), if_pos hac]; simp [hv]
        · simp [hb]
      · by_cases hb : b = a
        · subst hb; simp [memGet]
        · simp only [memGet, if_neg hb]
          rw [if_neg (Ne.symm hb)]
          by_cases h : b < a
          · rw [if_pos h, if_neg (by omega), if_pos (by omega)]
          · rw [if_neg h]
    · split
      · rename_i e; subst e
        split
        · rename_i hv
          by_cases hb : b = a
          · subst hb; rw [if_pos rfl, memGet_below hm.2 (by omega)]; exact hv.symm
          · rw [if_neg hb]; simp only [memGet]; rw [if_neg (Ne.symm hb)]
            by_cases h : b < a
            · rw [if_pos h]; exact memGet_below hm.2 (by omega)
            · rw [if_neg h]
        · by_cases hb : b = a
          · subst hb; simp [memGet]
          · simp [memGet, hb, Ne.symm hb]
      · rename_i h1 h2
        simp only [memGet]
        by_cases hc : c = b
        · subst hc; rw [if_pos rfl, if_neg (by omega), if_pos rfl]
        · rw [if_neg hc, if_neg hc]
          by_cases h : b < c
          · rw [if_pos h, if_pos h, if_neg (by omega)]
          · rw [if_neg h, if_neg h, memGet_memSet a b v hm.2]

theorem Memory.wf_nil : Memory.wf [] = true := rfl

/-- A byte written keeps the canonical form. -/
theorem memSet_wf {m : List Host.Cell} (a : Nat) (v : Byte) (h : Memory.wf m = true) : Memory.wf (memSet m a v) = true :=
  memSet_wfFrom h (Nat.zero_le a)

/-- A run of bytes written keeps the canonical form. -/
theorem memSetN_wf : ∀ (b : Bytes) {m : List Host.Cell} (a : Nat), Memory.wf m = true → Memory.wf (memSetN m a b) = true
  | [], _, _, h => h
  | v :: vs, _, a, h => memSetN_wf vs (a + 1) (memSet_wf a v h)

/-- A run of bytes written leaves every byte outside it. -/
theorem memGet_memSetN_outside : ∀ (b : Bytes) {m : List Host.Cell} (a c : Nat), Memory.wf m = true → (c < a ∨ a + b.length ≤ c) →
    memGet (memSetN m a b) c = memGet m c
  | [], _, _, _, _, _ => rfl
  | v :: vs, m, a, c, h, hc => by
    simp only [List.length_cons] at hc
    rw [memSetN, memGet_memSetN_outside vs (a + 1) c (memSet_wf a v h) (by omega), memGet_memSet a c v h, if_neg (by omega)]

/-- A run of bytes written reads back. -/
theorem memGetN_memSetN : ∀ (b : Bytes) {m : List Host.Cell} (a : Nat), Memory.wf m = true → memGetN (memSetN m a b) a b.length = b
  | [], _, _, _ => rfl
  | v :: vs, m, a, h => by
    simp only [List.length_cons, memGetN, memSetN]
    rw [memGetN_memSetN vs (a + 1) (memSet_wf a v h), memGet_memSetN_outside vs (a + 1) a (memSet_wf a v h) (by omega),
      memGet_memSet a a v h, if_pos rfl]

/-! ### The register map -/

theorem regWfFrom_mono {lo lo' : Nat} (h : lo' ≤ lo) : ∀ {m : List (Nat × Word)}, regWfFrom lo m = true → regWfFrom lo' m = true
  | [], _ => rfl
  | (a, v) :: m, hm => by simp only [regWfFrom, Bool.and_eq_true, decide_eq_true_eq] at hm ⊢; exact ⟨⟨by omega, hm.1.2⟩, hm.2⟩

theorem regGet_below : ∀ {m : List (Nat × Word)} {lo a : Nat}, regWfFrom lo m = true → a < lo → regGet m a = 0
  | [], _, _, _, _ => rfl
  | (b, v) :: m, lo, a, hm, ha => by
    simp only [regWfFrom, Bool.and_eq_true, decide_eq_true_eq] at hm
    simp only [regGet]; rw [if_neg (by omega), if_pos (by omega)]

theorem regSet_wfFrom : ∀ {m : List (Nat × Word)} {lo a : Nat} {v : Word}, regWfFrom lo m = true → lo ≤ a →
    regWfFrom lo (regSet m a v) = true
  | [], lo, a, v, _, ha => by
    simp only [regSet]
    split
    · rfl
    · rename_i h; simp only [regWfFrom, Bool.and_eq_true, decide_eq_true_eq]; exact ⟨⟨ha, h⟩, trivial⟩
  | (b, w) :: m, lo, a, v, hm, ha => by
    have hm' := hm
    simp only [regWfFrom, Bool.and_eq_true, decide_eq_true_eq] at hm
    simp only [regSet]
    split
    · split
      · exact hm'
      · rename_i h hv
        simp only [regWfFrom, Bool.and_eq_true, decide_eq_true_eq]
        exact ⟨⟨ha, hv⟩, ⟨by omega, hm.1.2⟩, hm.2⟩
    · split
      · split
        · exact regWfFrom_mono (by omega) hm.2
        · rename_i h e hv
          simp only [regWfFrom, Bool.and_eq_true, decide_eq_true_eq]
          exact ⟨⟨ha, hv⟩, by rw [e]; exact hm.2⟩
      · simp only [regWfFrom, Bool.and_eq_true, decide_eq_true_eq]
        exact ⟨hm.1, regSet_wfFrom hm.2 (by omega)⟩

/-- A register reads back what was written to it; every other register reads as before. -/
theorem regGet_regSet : ∀ {m : List (Nat × Word)} {lo : Nat} (a b : Nat) (v : Word), regWfFrom lo m = true →
    regGet (regSet m a v) b = if b = a then v else regGet m b
  | [], _, a, b, v, _ => by
    simp only [regSet]
    split
    · rename_i hv; split
      · exact hv.symm
      · rfl
    · by_cases hb : b = a
      · rw [if_pos hb, hb]; simp only [regGet, if_true]
      · simp only [regGet, if_neg (Ne.symm hb), if_neg hb]; split <;> rfl
  | (c, w) :: m, lo, a, b, v, hm => by
    simp only [regWfFrom, Bool.and_eq_true, decide_eq_true_eq] at hm
    simp only [regSet]
    split
    · rename_i hac
      split
      · rename_i hv
        by_cases hb : b = a
        · subst hb; simp only [regGet]; rw [if_neg (by omega), if_pos hac]; simp [hv]
        · simp [hb]
      · by_cases hb : b = a
        · subst hb; simp [regGet]
        · simp only [regGet, if_neg hb]
          rw [if_neg (Ne.symm hb)]
          by_cases h : b < a
          · rw [if_pos h, if_neg (by omega), if_pos (by omega)]
          · rw [if_neg h]
    · split
      · rename_i e; subst e
        split
        · rename_i hv
          by_cases hb : b = a
          · subst hb; rw [if_pos rfl, regGet_below hm.2 (by omega)]; exact hv.symm
          · rw [if_neg hb]; simp only [regGet]; rw [if_neg (Ne.symm hb)]
            by_cases h : b < a
            · rw [if_pos h]; exact regGet_below hm.2 (by omega)
            · rw [if_neg h]
        · by_cases hb : b = a
          · subst hb; simp [regGet]
          · simp [regGet, hb, Ne.symm hb]
      · rename_i h1 h2
        simp only [regGet]
        by_cases hc : c = b
        · subst hc; rw [if_pos rfl, if_neg (by omega), if_pos rfl]
        · rw [if_neg hc, if_neg hc]
          by_cases h : b < c
          · rw [if_pos h, if_pos h, if_neg (by omega)]
          · rw [if_neg h, if_neg h, regGet_regSet a b v hm.2]

/-- A register written keeps the canonical form of the map. -/
theorem regSet_wf {m : List (Nat × Word)} (a : Nat) (v : Word) (h : regsWf m = true) : regsWf (regSet m a v) = true :=
  regSet_wfFrom h (Nat.zero_le a)

/-! ### Fields of a register -/

/-- A field written: its bits take the value's, every other bit stays. -/
theorem Fld.getLsbD_put (f : Fld) (v : Nat) (w : Word) (i : Nat) (h : f.lo + f.width ≤ 32) (hi : i < 32) :
    (f.put v w).getLsbD i = if f.lo ≤ i ∧ i < f.lo + f.width then v.testBit (i - f.lo) else w.getLsbD i := by
  simp only [Fld.put, BitVec.getLsbD_or, BitVec.getLsbD_and, BitVec.getLsbD_not, BitVec.getLsbD_shiftLeft, BitVec.getLsbD_setWidth,
    BitVec.getLsbD_allOnes, BitVec.getLsbD_ofNat]
  by_cases h1 : f.lo ≤ i <;> by_cases h2 : i < f.lo + f.width
  · have e1 : i - f.lo < f.width := by omega
    have e2 : i - f.lo < 32 := by omega
    have e3 : ¬ i < f.lo := by omega
    simp [h1, h2, hi, e1, e2, e3]
  · have e1 : ¬ i - f.lo < f.width := by omega
    simp [h1, h2, hi, e1]
  · have e : i < f.lo := by omega
    simp [h1, hi, e]
  · omega

/-- A field reads back what was written, cut to its width. -/
theorem Fld.get_put_same (f : Fld) (v : Nat) (w : Word) (h : f.lo + f.width ≤ 32) : f.get (f.put v w) = v % 2 ^ f.width := by
  apply Nat.eq_of_testBit_eq
  intro i
  rw [Fld.get, BitVec.testBit_toNat, BitVec.getLsbD_extractLsb', Nat.testBit_mod_two_pow]
  by_cases hi : i < f.width
  · rw [Fld.getLsbD_put f v w (f.lo + i) h (by omega), if_pos ⟨by omega, by omega⟩]
    simp [hi]
  · simp [hi]

/-- A field written leaves a field of the same register that shares no bit with it. -/
theorem Fld.get_put_apart (f g : Fld) (v : Nat) (w : Word) (hf : f.lo + f.width ≤ 32) (hg : g.lo + g.width ≤ 32)
    (h : f.lo + f.width ≤ g.lo ∨ g.lo + g.width ≤ f.lo) : g.get (f.put v w) = g.get w := by
  apply Nat.eq_of_testBit_eq
  intro i
  rw [Fld.get, Fld.get, BitVec.testBit_toNat, BitVec.testBit_toNat, BitVec.getLsbD_extractLsb', BitVec.getLsbD_extractLsb']
  by_cases hi : i < g.width
  · rw [Fld.getLsbD_put f v w (g.lo + i) hf (by omega), if_neg (by omega)]
  · simp [hi]

/-! ### Registers of the state -/

theorem State.rd_wr (s : State) (a b : Nat) (v : Word) (h : regsWf s.regs = true) : (s.wr a v).rd b = if b = a then v else s.rd b :=
  regGet_regSet a b v h

theorem State.regsWf_wr (s : State) (a : Nat) (v : Word) (h : regsWf s.regs = true) : regsWf (s.wr a v).regs = true := regSet_wf a v h

theorem State.regsWf_put (s : State) (f : Fld) (v : Nat) (h : regsWf s.regs = true) : regsWf (s.put f v).regs = true := regSet_wf _ _ h

/-- A field of the state reads back what the unit wrote to it. -/
theorem State.get_put_same (s : State) (f : Fld) (v : Nat) (h : regsWf s.regs = true) (hf : f.lo + f.width ≤ 32) :
    (s.put f v).get f = v % 2 ^ f.width := by
  simp only [State.get, State.put]; rw [State.rd_wr _ _ _ _ h, if_pos rfl, Fld.get_put_same f v _ hf]

/-- A write of one field leaves the fields of other registers, and those of its own that share no bit with it. -/
theorem State.get_put_apart (s : State) (f g : Fld) (v : Nat) (h : regsWf s.regs = true) (hf : f.lo + f.width ≤ 32) (hg : g.lo + g.width ≤ 32)
    (hfg : g.reg ≠ f.reg ∨ f.lo + f.width ≤ g.lo ∨ g.lo + g.width ≤ f.lo) : (s.put f v).get g = s.get g := by
  simp only [State.get, State.put]; rw [State.rd_wr _ _ _ _ h]
  split
  · rename_i e; rw [Fld.get_put_apart f g v _ hf hg (hfg.resolve_left (fun hn => hn e)), e]
  · rfl

end Sys2Proof.Machine
end

