-- ==== Sys2Proof/Laws/Keeps.lean ====
section
/-! SUPPORT. What every operation keeps: the queue of waiting commands, and the canonical form of the memories and the register map. For an operation
`f` the lemma `f_keeps` says so of the state it answers, from a state that has kept them since `r`; the lemmas of the operations stand in the files
KeepsA to KeepsG, in the order of the machine's files. -/

namespace Sys2Proof.Machine

/-- From one state to another: the queue is the same, and the second is in its canonical form where the first is. -/
def Keeps (s t : State) : Prop := t.pending = s.pending ∧ (s.wf = true → t.wf = true)

theorem Keeps.refl (s : State) : Keeps s s := ⟨Eq.refl _, id⟩

theorem Keeps.trans {r s t : State} (h : Keeps r s) (k : Keeps s t) : Keeps r t := ⟨k.1.trans h.1, fun w => k.2 (h.2 w)⟩

/-- A record that shares the queue, the register map and the memories with a state that has kept them. -/
theorem Keeps.mk {r X : State} (h : Keeps r X) (now freeCtr hwSet queues chron timers motion ledAon entAon hhAon data touch lines powAon
    power boot straps img imgAon sett wm led nand nv rmc den cry ent can ring hpt hh outs lfAon lf air fox ses tagAon tag)
  (h1 : nv.mem = X.nv.mem) (h2 : den.buf = X.den.buf) (h3 : cry.buf = X.cry.buf) (h4 : tag.sram = X.tag.sram) :
  Keeps r (State.mk X.pending now freeCtr X.regs hwSet X.sram queues chron timers motion ledAon entAon hhAon data touch lines powAon power
    boot straps img imgAon sett wm led nand nv rmc den cry ent can ring hpt hh outs lfAon lf air fox ses tagAon tag) := by
  refine ⟨h.1, fun w => ?_⟩
  have := h.2 w
  simp only [State.wf] at this ⊢
  rw [h1, h2, h3, h4]; exact this

theorem State.wr_keeps {r s : State} (h : Keeps r s) (a : Nat) (v : Word) : Keeps r (s.wr a v) := by
  refine ⟨h.1, fun w => ?_⟩
  have := h.2 w
  simp only [State.wf, Bool.and_eq_true] at this ⊢
  exact ⟨⟨⟨⟨⟨regSet_wf a v this.1.1.1.1.1, this.1.1.1.1.2⟩, this.1.1.1.2⟩, this.1.1.2⟩, this.1.2⟩, this.2⟩

/-- Nothing of the form is touched. -/
theorem Keeps.same {r X t : State} (h : Keeps r X) (hp : t.pending = X.pending) (h0 : t.regs = X.regs) (h1 : t.sram = X.sram)
    (h2 : t.nv.mem = X.nv.mem) (h3 : t.den.buf = X.den.buf) (h4 : t.cry.buf = X.cry.buf) (h5 : t.tag.sram = X.tag.sram) : Keeps r t := by
  refine ⟨hp.trans h.1, fun w => ?_⟩
  have := h.2 w
  simp only [State.wf] at this ⊢
  rw [h0, h1, h2, h3, h4, h5]; exact this

/-- The queue of commands stays and each part is in its form. -/
theorem Keeps.parts {r X t : State} (h : Keeps r X) (hp : t.pending = X.pending) (h0 : regsWf X.regs = true → regsWf t.regs = true)
    (h1 : Memory.wf X.sram = true → Memory.wf t.sram = true) (h2 : Memory.wf X.nv.mem = true → Memory.wf t.nv.mem = true)
    (h3 : Memory.wf X.den.buf = true → Memory.wf t.den.buf = true) (h4 : Memory.wf X.cry.buf = true → Memory.wf t.cry.buf = true)
    (h5 : Memory.wf X.tag.sram = true → Memory.wf t.tag.sram = true) : Keeps r t := by
  refine ⟨hp.trans h.1, fun w => ?_⟩
  have := h.2 w
  simp only [State.wf, Bool.and_eq_true] at this ⊢
  exact ⟨⟨⟨⟨⟨h0 this.1.1.1.1.1, h1 this.1.1.1.1.2⟩, h2 this.1.1.1.2⟩, h3 this.1.1.2⟩, h4 this.1.2⟩, h5 this.2⟩

/-- A write to one of the memories. -/
theorem Keeps.mems {r X : State} (h : Keeps r X) (sram : List Host.Cell) (nv : NvSt) (den : DenSt) (cry : CrySt) (tag : TagSt)
    (h0 : Memory.wf X.sram = true → Memory.wf sram = true) (h1 : Memory.wf X.nv.mem = true → Memory.wf nv.mem = true)
    (h2 : Memory.wf X.den.buf = true → Memory.wf den.buf = true) (h3 : Memory.wf X.cry.buf = true → Memory.wf cry.buf = true)
    (h4 : Memory.wf X.tag.sram = true → Memory.wf tag.sram = true) :
    Keeps r { X with sram := sram, nv := nv, den := den, cry := cry, tag := tag } := by
  refine ⟨h.1, fun w => ?_⟩
  have := h.2 w
  simp only [State.wf, Bool.and_eq_true] at this ⊢
  exact ⟨⟨⟨⟨⟨this.1.1.1.1.1, h0 this.1.1.1.1.2⟩, h1 this.1.1.1.2⟩, h2 this.1.1.2⟩, h3 this.1.2⟩, h4 this.2⟩

theorem memFold_wf {α : Type} (f : α → Nat) (g : α → Bytes) : ∀ (l : List α) {m : List Host.Cell}, Memory.wf m = true →
    Memory.wf (l.foldl (fun m p => memSetN m (f p) (g p)) m) = true
  | [], _, h => h
  | p :: l, _, h => memFold_wf f g l (memSetN_wf (g p) (f p) h)

theorem foldl_keeps {α : Type} {r : State} (f : State → α → State) (hf : ∀ x a, Keeps r x → Keeps r (f x a)) :
    ∀ (l : List α) {s : State}, Keeps r s → Keeps r (l.foldl f s)
  | [], _, h => h
  | a :: l, s, h => foldl_keeps f hf l (hf s a h)

theorem regFold_wf : ∀ (l : List (Nat × Word)) {m : List (Nat × Word)}, regsWf m = true →
    regsWf (l.foldl (fun m p => regSet m p.1 p.2) m) = true
  | [], _, h => h
  | p :: l, _, h => regFold_wf l (regSet_wf p.1 p.2 h)

end Sys2Proof.Machine
end

