-- ==== Sys2Proof/Laws/KeepsA.lean ====
section
/-! SUPPORT. What the operations of Mem, Slots, Ops, LaneOps, Rand, LfOps keep. -/

namespace Sys2Proof.Machine

/-! ### Mem -/

theorem State.put_keeps {r s : State} (h : Keeps r s) (x0 x1) : Keeps r (State.put s x0 x1) := by
  unfold State.put
  grind (splits := 30) (ematch := 30) (gen := 60) (instances := 20000) [State.wr_keeps, Keeps.mk, foldl_keeps]

theorem State.count_keeps {r s : State} (h : Keeps r s) (x0 x1) : Keeps r (State.count s x0 x1) := by
  unfold State.count
  grind (splits := 30) (ematch := 30) (gen := 60) (instances := 20000) [State.put_keeps, Keeps.mk, foldl_keeps]

theorem State.setBitAt_keeps {r s : State} (h : Keeps r s) (x0 x1) : Keeps r (State.setBitAt s x0 x1) := by
  unfold State.setBitAt
  grind (splits := 30) (ematch := 30) (gen := 60) (instances := 20000) [State.put_keeps, Keeps.mk, foldl_keeps]

theorem State.setBit_keeps {r s : State} (h : Keeps r s) (x0 x1) : Keeps r (State.setBit s x0 x1) := by
  unfold State.setBit
  grind (splits := 30) (ematch := 30) (gen := 60) (instances := 20000) [State.put_keeps, Keeps.mk, foldl_keeps]

theorem State.clearBitAt_keeps {r s : State} (h : Keeps r s) (x0 x1) : Keeps r (State.clearBitAt s x0 x1) := by
  unfold State.clearBitAt
  grind (splits := 30) (ematch := 30) (gen := 60) (instances := 20000) [State.put_keeps, Keeps.mk, foldl_keeps]

theorem State.drawn_keeps {r s : State} (h : Keeps r s) : Keeps r (State.drawn s) := by
  unfold State.drawn
  grind (splits := 30) (ematch := 30) (gen := 60) (instances := 20000) [Keeps.mk, foldl_keeps]

theorem State.w1c_keeps {r s : State} (h : Keeps r s) (x0 x1) : Keeps r (State.w1c s x0 x1) := by
  unfold State.w1c
  grind (splits := 30) (ematch := 30) (gen := 60) (instances := 20000) [State.put_keeps, Keeps.mk, foldl_keeps]

theorem State.w1cAll_keeps {r s : State} (h : Keeps r s) (x0 x1) : Keeps r (State.w1cAll s x0 x1) := by
  unfold State.w1cAll
  grind (splits := 30) (ematch := 30) (gen := 60) (instances := 20000) [State.wr_keeps, Keeps.mk, foldl_keeps]

/-! ### Slots -/

theorem volErase_keeps {r s : State} (h : Keeps r s) (x0) : Keeps r (volErase x0 s) := by
  unfold volErase
  grind (splits := 30) (ematch := 30) (gen := 60) (instances := 20000) [Keeps.mk, foldl_keeps]

theorem volSweep_keeps {r s : State} (h : Keeps r s) : Keeps r (volSweep s) := by
  unfold volSweep
  grind (splits := 30) (ematch := 30) (gen := 60) (instances := 20000) [volErase_keeps, Keeps.mk, foldl_keeps]

theorem freeBytes_keeps {r s : State} (h : Keeps r s) (x0) : Keeps r (freeBytes x0 s).2 := by
  unfold freeBytes
  grind (splits := 30) (ematch := 30) (gen := 60) (instances := 20000) [Keeps.mk, foldl_keeps]

theorem volPut_keeps {r s : State} (h : Keeps r s) (x0) : Keeps r (volPut x0 s) := by
  unfold volPut
  grind (splits := 30) (ematch := 30) (gen := 60) (instances := 20000) [Keeps.mk, foldl_keeps]

/-! ### Ops -/

theorem awake_keeps {r s : State} (h : Keeps r s) : Keeps r (awake s) := by
  unfold awake
  grind (splits := 30) (ematch := 30) (gen := 60) (instances := 20000) [State.put_keeps, Keeps.mk, foldl_keeps]

theorem loserGone_keeps {r s : State} (h : Keeps r s) (x0) : Keeps r (loserGone x0 s) := by
  unfold loserGone
  grind (splits := 30) (ematch := 30) (gen := 60) (instances := 20000) [Keeps.mk, foldl_keeps]

theorem State.setQueue_keeps {r s : State} (h : Keeps r s) (x0 x1) : Keeps r (State.setQueue s x0 x1) := by
  unfold State.setQueue
  grind (splits := 30) (ematch := 30) (gen := 60) (instances := 20000) [Keeps.mk, foldl_keeps]

theorem acceptItem_keeps {r s : State} (h : Keeps r s) (x0 x1 x2 x3 x4 x5) : Keeps r (acceptItem x0 x1 x2 x3 x4 x5 s) := by
  unfold acceptItem
  grind (splits := 30) (ematch := 30) (gen := 60) (instances := 20000) [State.setQueue_keeps, Keeps.mk, foldl_keeps]

theorem State.countDrop_keeps {r s : State} (h : Keeps r s) (x0) : Keeps r (State.countDrop s x0) := by
  unfold State.countDrop
  grind (splits := 30) (ematch := 30) (gen := 60) (instances := 20000) [State.count_keeps, Keeps.mk, foldl_keeps]

theorem refuse_keeps {r s : State} (h : Keeps r s) (x0 x1 x2 x3) : Keeps r (refuse x0 x1 x2 x3 s) := by
  unfold refuse
  grind (splits := 30) (ematch := 30) (gen := 60) (instances := 20000) [State.setQueue_keeps, State.countDrop_keeps, State.setBitAt_keeps,
    Keeps.mk, foldl_keeps]

theorem admitCore_keeps {r s : State} (h : Keeps r s) (x0 x1 x2 x3) : Keeps r (admitCore x0 x1 x2 x3 s).2 := by
  unfold admitCore
  grind (splits := 30) (ematch := 30) (gen := 60) (instances := 20000) [awake_keeps, loserGone_keeps, acceptItem_keeps, refuse_keeps,
    Keeps.mk, foldl_keeps]

theorem settEmit_keeps {r s : State} (h : Keeps r s) (x0 x1) : Keeps r (settEmit x0 x1 s).2 := by
  unfold settEmit
  grind (splits := 30) (ematch := 30) (gen := 60) (instances := 20000) [admitCore_keeps, State.count_keeps, Keeps.mk, foldl_keeps]

theorem settCore_keeps {r s : State} (h : Keeps r s) (x0 x1 x2 x3 x4) : Keeps r (settCore x0 x1 x2 x3 x4 s).2 := by
  unfold settCore
  grind (splits := 30) (ematch := 30) (gen := 60) (instances := 20000) [settEmit_keeps, Keeps.mk, foldl_keeps]

theorem popQueue_keeps {r s : State} (h : Keeps r s) (q : QueueId) (i : QItem) (t : State) (e : popQueue q s = some (i, t)) : Keeps r t :=
    by
  unfold popQueue at e
  grind [State.setQueue_keeps]

theorem rmcKick_keeps {r s : State} (h : Keeps r s) : Keeps r (rmcKick s) := by
  unfold rmcKick
  grind (splits := 30) (ematch := 30) (gen := 60) (instances := 20000) [popQueue_keeps, Keeps.mk, foldl_keeps]

theorem submitCore_keeps {r s : State} (h : Keeps r s) (x0 x1) : Keeps r (submitCore x0 x1 s).2 := by
  unfold submitCore
  grind (splits := 30) (ematch := 30) (gen := 60) (instances := 20000) [admitCore_keeps, rmcKick_keeps, Keeps.mk, foldl_keeps]

theorem actBuffer_keeps {r s : State} (h : Keeps r s) (x0) : Keeps r (actBuffer x0 s).2 := by
  unfold actBuffer
  grind (splits := 30) (ematch := 30) (gen := 60) (instances := 20000) [submitCore_keeps, Keeps.mk, foldl_keeps]

theorem recordRaw_keeps {r s : State} (h : Keeps r s) (x0 x1) : Keeps r (recordRaw x0 x1 s).2 := by
  unfold recordRaw
  grind (splits := 30) (ematch := 30) (gen := 60) (instances := 20000) [settCore_keeps, admitCore_keeps, actBuffer_keeps,
    State.count_keeps, Keeps.mk, foldl_keeps]

theorem faultRecord_keeps {r s : State} (h : Keeps r s) (x0 x1 x2 x3) : Keeps r (faultRecord x0 x1 x2 x3 s).2 := by
  unfold faultRecord
  grind (splits := 30) (ematch := 30) (gen := 60) (instances := 20000) [settCore_keeps, recordRaw_keeps, Keeps.mk, foldl_keeps]

theorem noteFault_keeps {r s : State} (h : Keeps r s) (x0 x1) : Keeps r (noteFault x0 x1 s) := by
  unfold noteFault
  grind (splits := 30) (ematch := 30) (gen := 60) (instances := 20000) [State.put_keeps, State.count_keeps, Keeps.mk, foldl_keeps]

theorem requestRestart_keeps {r s : State} (h : Keeps r s) (x0) : Keeps r (requestRestart x0 s) := by
  unfold requestRestart
  grind (splits := 30) (ematch := 30) (gen := 60) (instances := 20000) [faultRecord_keeps, noteFault_keeps, Keeps.mk, foldl_keeps]

theorem enterHalt_keeps {r s : State} (h : Keeps r s) : Keeps r (enterHalt s) := by
  unfold enterHalt
  grind (splits := 30) (ematch := 30) (gen := 60) (instances := 20000) [State.setBit_keeps, State.put_keeps, Keeps.mk, foldl_keeps]

theorem runAction_keeps {r s : State} (h : Keeps r s) (x0 x1) : Keeps r (runAction x0 x1 s) := by
  unfold runAction
  grind (splits := 30) (ematch := 30) (gen := 60) (instances := 20000) [requestRestart_keeps, enterHalt_keeps, Keeps.mk, foldl_keeps]

theorem noteDrop_keeps {r : State} {x : Admit × State} (h : Keeps r x.2) : Keeps r (noteDrop x) := by
  unfold noteDrop
  grind [noteFault_keeps]

theorem raiseAs_keeps {r s : State} (h : Keeps r s) (x0 x1 x2) : Keeps r (raiseAs x0 x1 x2 s) := by
  unfold raiseAs
  grind (splits := 30) (ematch := 30) (gen := 60) (instances := 20000) [noteDrop_keeps, faultRecord_keeps, noteFault_keeps,
    runAction_keeps, Keeps.mk]

theorem raise_keeps {r s : State} (h : Keeps r s) (x0 x1) : Keeps r (raise x0 x1 s) := raiseAs_keeps h _ _ _

theorem p0Fault_keeps {r : State} (q : QueueId) (cls : Cls) {x : Admit × State} (h : Keeps r x.2) : Keeps r (p0Fault q cls x).2 := by
  unfold p0Fault
  grind [raise_keeps]

theorem settSend_keeps {r s : State} (h : Keeps r s) (x0 x1 x2 x3 x4) : Keeps r (settSend x0 x1 x2 x3 x4 s) := by
  unfold settSend
  grind (splits := 30) (ematch := 30) (gen := 60) (instances := 20000) [settCore_keeps, Keeps.mk, foldl_keeps, p0Fault_keeps]

theorem recomputes_keeps {r s : State} (h : Keeps r s) (x0) : Keeps r (recomputes x0 s) := by
  unfold recomputes
  grind (splits := 30) (ematch := 30) (gen := 60) (instances := 20000) [State.setBitAt_keeps, Keeps.mk, foldl_keeps]

theorem State.setDom_keeps {r s : State} (h : Keeps r s) (x0 x1) : Keeps r (State.setDom s x0 x1) := by
  unfold State.setDom
  grind (splits := 30) (ematch := 30) (gen := 60) (instances := 20000) [State.clearBitAt_keeps, State.setBitAt_keeps, Keeps.mk, foldl_keeps]

theorem ledgerPutAs_keeps {r s : State} (h : Keeps r s) (x0 x1) : Keeps r (ledgerPutAs x0 x1 s) := by
  unfold ledgerPutAs
  grind (splits := 30) (ematch := 30) (gen := 60) (instances := 20000) [raise_keeps, recordRaw_keeps, Keeps.mk, foldl_keeps, p0Fault_keeps]

theorem ledgerPut_keeps {r s : State} (h : Keeps r s) (x0) : Keeps r (ledgerPut x0 s) := by
  unfold ledgerPut
  grind (splits := 30) (ematch := 30) (gen := 60) (instances := 20000) [ledgerPutAs_keeps, Keeps.mk, foldl_keeps]

theorem logRec_keeps {r s : State} (h : Keeps r s) (x0 x1) : Keeps r (logRec x0 x1 s) := by
  unfold logRec
  grind (splits := 30) (ematch := 30) (gen := 60) (instances := 20000) [ledgerPut_keeps, Keeps.mk, foldl_keeps]

theorem settSend0_keeps {r s : State} (h : Keeps r s) (x0 x1 x2 x3 x4) : Keeps r (settSend0 x0 x1 x2 x3 x4 s) := by
  unfold settSend0
  grind (splits := 30) (ematch := 30) (gen := 60) (instances := 20000) [settEmit_keeps, Keeps.mk, foldl_keeps]

theorem enqueue_keeps {r s : State} (h : Keeps r s) (x0 x1 x2 x3) : Keeps r (enqueue x0 x1 x2 x3 s).2 := by
  unfold enqueue
  grind (splits := 30) (ematch := 30) (gen := 60) (instances := 20000) [awake_keeps, admitCore_keeps, raise_keeps, Keeps.mk, foldl_keeps,
    p0Fault_keeps]

theorem clearQueue_keeps {r s : State} (h : Keeps r s) (x0) : Keeps r (clearQueue x0 s) := by
  unfold clearQueue
  grind (splits := 30) (ematch := 30) (gen := 60) (instances := 20000) [State.setQueue_keeps, Keeps.mk, foldl_keeps]

theorem canSend_keeps {r s : State} (h : Keeps r s) (x0 x1) : Keeps r (canSend x0 x1 s) := by
  unfold canSend
  grind (splits := 30) (ematch := 30) (gen := 60) (instances := 20000) [enqueue_keeps, Keeps.mk, foldl_keeps]

theorem irq_keeps {r s : State} (h : Keeps r s) (x0) : Keeps r (irq x0 s) := by
  unfold irq
  grind (splits := 30) (ematch := 30) (gen := 60) (instances := 20000) [State.setBit_keeps, Keeps.mk, foldl_keeps]

theorem answerTo_keeps {r s : State} (h : Keeps r s) (x0 x1 x2) : Keeps r (answerTo x0 x1 x2 s) := by
  unfold answerTo
  grind (splits := 30) (ematch := 30) (gen := 60) (instances := 20000) [Keeps.mk, foldl_keeps]

theorem enter_keeps {r s : State} (h : Keeps r s) (x0 x1) : Keeps r (enter x0 x1 s) := by
  unfold enter
  grind (splits := 30) (ematch := 30) (gen := 60) (instances := 20000) [Keeps.mk, foldl_keeps]

theorem submitGroup_keeps {r s : State} (h : Keeps r s) (x0 x1) : Keeps r (submitGroup x0 x1 s).2 := by
  unfold submitGroup
  grind (splits := 30) (ematch := 30) (gen := 60) (instances := 20000) [submitCore_keeps, Keeps.mk, foldl_keeps, p0Fault_keeps]

theorem ringStir_keeps {r s : State} (h : Keeps r s) : Keeps r (ringStir s) := by
  unfold ringStir
  grind (splits := 30) (ematch := 30) (gen := 60) (instances := 20000) [Keeps.mk, foldl_keeps]

theorem fireTrigger_keeps {r s : State} (h : Keeps r s) (x0) : Keeps r (fireTrigger x0 s).2 := by
  unfold fireTrigger
  grind (splits := 30) (ematch := 30) (gen := 60) (instances := 20000) [ringStir_keeps, enqueue_keeps, Keeps.mk, foldl_keeps]

theorem runLevel_keeps {r s : State} (h : Keeps r s) (x0) : Keeps r (runLevel x0 s) := by
  unfold runLevel
  grind (splits := 30) (ematch := 30) (gen := 60) (instances := 20000) [State.setBit_keeps, State.put_keeps, Keeps.mk, foldl_keeps]

theorem clearQueues_keeps {r s : State} (h : Keeps r s) (x0) : Keeps r (clearQueues x0 s) := by
  unfold clearQueues
  grind (splits := 30) (ematch := 30) (gen := 60) (instances := 20000) [clearQueue_keeps, Keeps.mk, foldl_keeps]

theorem laneWaitersFault_keeps {r s : State} (h : Keeps r s) (x0) : Keeps r (laneWaitersFault x0 s) := by
  unfold laneWaitersFault
  grind (splits := 30) (ematch := 30) (gen := 60) (instances := 20000) [State.put_keeps, Keeps.mk, foldl_keeps]

theorem isolate_keeps {r s : State} (h : Keeps r s) (x0 x1) : Keeps r (isolate x0 x1 s) := by
  unfold isolate
  grind (splits := 30) (ematch := 30) (gen := 60) (instances := 20000) [requestRestart_keeps, laneWaitersFault_keeps, clearQueues_keeps,
    Keeps.mk, foldl_keeps]

theorem reportFault_keeps {r s : State} (h : Keeps r s) (x0 x1 x2) : Keeps r (reportFault x0 x1 x2 s) := by
  unfold reportFault
  grind (splits := 30) (ematch := 30) (gen := 60) (instances := 20000) [raiseAs_keeps, isolate_keeps, Keeps.mk, foldl_keeps]

theorem enterSamples_keeps {r s : State} (h : Keeps r s) (x0) : Keeps r (enterSamples x0 s) := by
  unfold enterSamples
  grind (splits := 30) (ematch := 30) (gen := 60) (instances := 20000) [enter_keeps, Keeps.mk, foldl_keeps]

theorem escMismatch_keeps {r s : State} (h : Keeps r s) (x0) : Keeps r (escMismatch x0 s).2 := by
  unfold escMismatch
  grind (splits := 30) (ematch := 30) (gen := 60) (instances := 20000) [Keeps.mk, foldl_keeps]

/-! ### LaneOps -/

theorem State.setLane_keeps {r s : State} (h : Keeps r s) (x0 x1) : Keeps r (State.setLane s x0 x1) := by
  unfold State.setLane
  grind (splits := 30) (ematch := 30) (gen := 60) (instances := 20000) [Keeps.mk, foldl_keeps]

theorem laneListenFrom_keeps {r s : State} (h : Keeps r s) (x0 x1 x2) : Keeps r (laneListenFrom x0 x1 x2 s) := by
  unfold laneListenFrom
  grind (splits := 30) (ematch := 30) (gen := 60) (instances := 20000) [State.setLane_keeps, State.put_keeps, Keeps.mk, foldl_keeps]

theorem laneListen_keeps {r s : State} (h : Keeps r s) (x0 x1) : Keeps r (laneListen x0 x1 s) := by
  unfold laneListen
  grind (splits := 30) (ematch := 30) (gen := 60) (instances := 20000) [laneListenFrom_keeps, Keeps.mk, foldl_keeps]

theorem laneMove_keeps {r s : State} (h : Keeps r s) (x0 x1) : Keeps r (laneMove x0 x1 s) := by
  unfold laneMove
  grind (splits := 30) (ematch := 30) (gen := 60) (instances := 20000) [State.setLane_keeps, State.setBit_keeps, State.put_keeps,
    State.setDom_keeps, Keeps.mk, foldl_keeps]

theorem listenKick_keeps {r s : State} (h : Keeps r s) : Keeps r (listenKick s) := by
  unfold listenKick
  grind (splits := 30) (ematch := 30) (gen := 60) (instances := 20000) [laneListen_keeps, State.setLane_keeps, laneMove_keeps, Keeps.mk,
    foldl_keeps]

theorem laneCut_keeps {r s : State} (h : Keeps r s) (x0 x1) : Keeps r (laneCut x0 x1 s) := by
  unfold laneCut
  grind (splits := 30) (ematch := 30) (gen := 60) (instances := 20000) [Keeps.mk, foldl_keeps]

theorem laneRelease_keeps {r s : State} (h : Keeps r s) (x0) : Keeps r (laneRelease x0 s) := by
  unfold laneRelease
  grind (splits := 30) (ematch := 30) (gen := 60) (instances := 20000) [State.setLane_keeps, State.setBit_keeps, laneCut_keeps,
    State.put_keeps, Keeps.mk, foldl_keeps]

theorem laneForRun_keeps {r s : State} (h : Keeps r s) (x0 x1) : Keeps r (laneForRun x0 x1 s) := by
  unfold laneForRun
  grind (splits := 30) (ematch := 30) (gen := 60) (instances := 20000) [Keeps.mk, foldl_keeps]

theorem laneHold_keeps {r s : State} (h : Keeps r s) (x0 x1 x2) : Keeps r (laneHold x0 x1 x2 s) := by
  unfold laneHold
  grind (splits := 30) (ematch := 30) (gen := 60) (instances := 20000) [State.setLane_keeps, laneMove_keeps, State.put_keeps, Keeps.mk,
    foldl_keeps]

theorem laneServe_keeps {r s : State} (h : Keeps r s) (x0) : Keeps r (laneServe x0 s) := by
  unfold laneServe
  grind (splits := 30) (ematch := 30) (gen := 60) (instances := 20000) [State.setQueue_keeps, laneForRun_keeps, laneHold_keeps, Keeps.mk,
    foldl_keeps]

theorem laneFree_keeps {r s : State} (h : Keeps r s) (x0) : Keeps r (laneFree x0 s) := by
  unfold laneFree
  grind (splits := 30) (ematch := 30) (gen := 60) (instances := 20000) [listenKick_keeps, laneRelease_keeps, laneServe_keeps, Keeps.mk,
    foldl_keeps]

theorem laneResult_keeps {r s : State} (h : Keeps r s) (x0 x1) : Keeps r (laneResult x0 x1 s) := by
  unfold laneResult
  grind (splits := 30) (ematch := 30) (gen := 60) (instances := 20000) [State.put_keeps, State.count_keeps, Keeps.mk, foldl_keeps]

theorem laneTx_keeps {r s : State} (h : Keeps r s) (x0 x1) : Keeps r (laneTx x0 x1 s).2 := by
  unfold laneTx
  grind (splits := 30) (ematch := 30) (gen := 60) (instances := 20000) [State.setLane_keeps, State.put_keeps, laneResult_keeps, Keeps.mk,
    foldl_keeps]

theorem seqUsed_keeps {r s : State} (h : Keeps r s) (x0) : Keeps r (seqUsed x0 s) := by
  unfold seqUsed
  grind (splits := 30) (ematch := 30) (gen := 60) (instances := 20000) [Keeps.mk, foldl_keeps]

theorem laneTake_keeps {r s : State} (h : Keeps r s) (x0 x1 x2 x3) : Keeps r (laneTake x0 x1 x2 x3 s).2 := by
  unfold laneTake
  grind (splits := 30) (ematch := 30) (gen := 60) (instances := 20000) [laneForRun_keeps, laneHold_keeps, enqueue_keeps, laneResult_keeps,
    Keeps.mk, foldl_keeps]

theorem laneDone_keeps {r s : State} (h : Keeps r s) (x0) : Keeps r (laneDone x0 s) := by
  unfold laneDone
  grind (splits := 30) (ematch := 30) (gen := 60) (instances := 20000) [listenKick_keeps, laneRelease_keeps, laneServe_keeps, Keeps.mk,
    foldl_keeps]

theorem laneTxEnd_keeps {r s : State} (h : Keeps r s) (x0) : Keeps r (laneTxEnd x0 s) := by
  unfold laneTxEnd
  grind (splits := 30) (ematch := 30) (gen := 60) (instances := 20000) [State.setLane_keeps, laneListenFrom_keeps, State.put_keeps,
    laneResult_keeps, Keeps.mk, foldl_keeps]

theorem rxReport_keeps {r s : State} (h : Keeps r s) (x0 x1 x2 x3) : Keeps r (rxReport x0 x1 x2 x3 s) := by
  unfold rxReport
  grind (splits := 30) (ematch := 30) (gen := 60) (instances := 20000) [enter_keeps, State.setLane_keeps, State.put_keeps,
    laneResult_keeps, State.count_keeps, Keeps.mk, foldl_keeps]

theorem sendAck_keeps {r s : State} (h : Keeps r s) (x0 x1 x2 x3) : Keeps r (sendAck x0 x1 x2 x3 s) := by
  unfold sendAck
  grind (splits := 30) (ematch := 30) (gen := 60) (instances := 20000) [laneTx_keeps, Keeps.mk, foldl_keeps]

theorem laneEmit_keeps {r s : State} (h : Keeps r s) (x0 x1) : Keeps r (laneEmit x0 x1 s) := by
  unfold laneEmit
  grind (splits := 30) (ematch := 30) (gen := 60) (instances := 20000) [State.setLane_keeps, State.put_keeps, Keeps.mk, foldl_keeps]

/-! ### Rand -/

theorem reseedNow_keeps {r s : State} (h : Keeps r s) : Keeps r (reseedNow s) := by
  unfold reseedNow
  grind (splits := 30) (ematch := 30) (gen := 60) (instances := 20000) [State.setBit_keeps, State.count_keeps, Keeps.mk, foldl_keeps]

theorem randReq_keeps {r s : State} (h : Keeps r s) (x0 x1) : Keeps r (randReq x0 x1 s).2 := by
  unfold randReq
  grind (splits := 30) (ematch := 30) (gen := 60) (instances := 20000) [reseedNow_keeps, Keeps.mk, foldl_keeps]

theorem randMany_keeps {r s : State} (h : Keeps r s) (x0 x1) : Keeps r (randMany x0 x1 s).2 := by
  induction x1 generalizing s with
  | nil => exact h
  | cons n ns ih =>
    unfold randMany
    grind (splits := 30) (ematch := 30) (gen := 60) (instances := 20000) [randReq_keeps]

theorem randBytes_keeps {r s : State} (h : Keeps r s) (x0 x1) : Keeps r (randBytes x0 x1 s).2 := by
  unfold randBytes
  grind (splits := 30) (ematch := 30) (gen := 60) (instances := 20000) [randMany_keeps, Keeps.mk, foldl_keeps]

/-! ### LfOps -/

theorem State.setBank_keeps {r s : State} (h : Keeps r s) (x0 x1) : Keeps r (State.setBank s x0 x1) := by
  unfold State.setBank
  grind (splits := 30) (ematch := 30) (gen := 60) (instances := 20000) [Keeps.mk, foldl_keeps]

theorem boostCheck_keeps {r s : State} (h : Keeps r s) : Keeps r (boostCheck s) := by
  unfold boostCheck
  grind (splits := 30) (ematch := 30) (gen := 60) (instances := 20000) [State.setBit_keeps, Keeps.mk, foldl_keeps]

theorem bankUse_keeps {r s : State} (h : Keeps r s) (x0) : Keeps r (bankUse x0 s) := by
  unfold bankUse
  grind (splits := 30) (ematch := 30) (gen := 60) (instances := 20000) [boostCheck_keeps, State.setBank_keeps, State.setDom_keeps,
    Keeps.mk, foldl_keeps]

theorem banksKept_keeps {r s : State} (h : Keeps r s) : Keeps r (banksKept s) := by
  unfold banksKept
  grind (splits := 30) (ematch := 30) (gen := 60) (instances := 20000) [bankUse_keeps, Keeps.mk, foldl_keeps]

theorem modifyRun_keeps {r s : State} (h : Keeps r s) (x0 x1) : Keeps r (modifyRun x0 x1 s) := by
  unfold modifyRun
  grind (splits := 30) (ematch := 30) (gen := 60) (instances := 20000) [Keeps.mk, foldl_keeps]

theorem allowTrack_keeps {r s : State} (h : Keeps r s) : Keeps r (allowTrack s) := by
  unfold allowTrack
  grind (splits := 30) (ematch := 30) (gen := 60) (instances := 20000) [Keeps.mk, foldl_keeps]

theorem openReplies_keeps {r s : State} (h : Keeps r s) (x0) : Keeps r (openReplies x0 s) := by
  unfold openReplies
  grind (splits := 30) (ematch := 30) (gen := 60) (instances := 20000) [Keeps.mk, foldl_keeps]

theorem runFrameEnded_keeps {r s : State} (h : Keeps r s) (x0 x1 x2 x3) : Keeps r (runFrameEnded x0 x1 x2 x3 s) := by
  unfold runFrameEnded
  grind (splits := 30) (ematch := 30) (gen := 60) (instances := 20000) [openReplies_keeps, modifyRun_keeps, Keeps.mk, foldl_keeps]

theorem lfDone_keeps {r s : State} (h : Keeps r s) (x0 : LfReq) (x1 x2 x3) : Keeps r (lfDone x0 x1 x2 x3 s) := by
  have a := foldl_keeps (fun (s : State) c => s.put (Reg.LF_CH_STAT_LAST c) x1.code) (fun _ _ k => State.put_keeps k _ _) x0.owned h
  have b : ∀ x, Keeps r { x0.owned.foldl (fun (s : State) c => s.put (Reg.LF_CH_STAT_LAST c) x1.code) s with lf := x } :=
    fun x => Keeps.same a rfl rfl rfl rfl rfl rfl rfl
  have heard : ∀ {t : State}, Keeps r t → Keeps r (if x1 = .ok ∧ x0.command ≠ 2 then x3.elim t (fun n => openReplies n t) else t) := by
    intro t k
    split
    · cases x3
      · exact k
      · exact openReplies_keeps k _
    · exact k
  unfold lfDone
  dsimp only
  split
  · split
    · exact runFrameEnded_keeps (b _) _ _ _ _
    · exact heard (b _)
  · exact runFrameEnded_keeps (b _) _ _ _ _
  · exact heard (State.put_keeps (State.setBit_keeps (b _) _ _) _ _)

theorem lfRequest_keeps {r s : State} (h : Keeps r s) (x0) : Keeps r (lfRequest x0 s) := by
  unfold lfRequest
  grind (splits := 30) (ematch := 30) (gen := 60) (instances := 20000) [bankUse_keeps, lfDone_keeps, enqueue_keeps, State.count_keeps,
    Keeps.mk, foldl_keeps]

theorem settAsk_keeps {r s : State} (h : Keeps r s) (x0 x1 x2 x3 x4 x5) : Keeps r (settAsk x0 x1 x2 x3 x4 x5 s) := by
  unfold settAsk
  grind (splits := 30) (ematch := 30) (gen := 60) (instances := 20000) [settSend_keeps, Keeps.mk, foldl_keeps]

theorem lfRemote_keeps {r s : State} (h : Keeps r s) (x0 x1 x2) : Keeps r (lfRemote x0 x1 x2 s) := by
  unfold lfRemote
  grind (splits := 30) (ematch := 30) (gen := 60) (instances := 20000) [settAsk_keeps, modifyRun_keeps, Keeps.mk, foldl_keeps]

theorem runNext_keeps {r s : State} (h : Keeps r s) (x0) : Keeps r (runNext x0 s) := by
  unfold runNext
  grind (splits := 30) (ematch := 30) (gen := 60) (instances := 20000) [lfRequest_keeps, lfRemote_keeps, modifyRun_keeps, Keeps.mk,
    foldl_keeps]

theorem bankCharge_keeps {r s : State} (h : Keeps r s) (x0 x1) : Keeps r (bankCharge x0 x1 s) := by
  unfold bankCharge
  grind (splits := 30) (ematch := 30) (gen := 60) (instances := 20000) [State.setBank_keeps, Keeps.mk, foldl_keeps]

theorem unown_keeps {r s : State} (h : Keeps r s) (x0) : Keeps r (unown x0 s) := by
  unfold unown
  grind (splits := 30) (ematch := 30) (gen := 60) (instances := 20000) [State.put_keeps, Keeps.mk, foldl_keeps]

theorem testRelease_keeps {r s : State} (h : Keeps r s) : Keeps r (testRelease s) := by
  unfold testRelease
  grind (splits := 30) (ematch := 30) (gen := 60) (instances := 20000) [bankUse_keeps, unown_keeps, Keeps.mk, foldl_keeps]

theorem ipkReport_keeps {r s : State} (h : Keeps r s) (x0 x1 x2 x3) : Keeps r (ipkReport x0 x1 x2 x3 s) := by
  unfold ipkReport
  grind (splits := 30) (ematch := 30) (gen := 60) (instances := 20000) [State.setBit_keeps, State.put_keeps, Keeps.mk, foldl_keeps]

theorem ipkFree_keeps {r s : State} (h : Keeps r s) (x0 x1) : Keeps r (ipkFree x0 x1 s) := by
  unfold ipkFree
  grind (splits := 30) (ematch := 30) (gen := 60) (instances := 20000) [ipkReport_keeps, Keeps.mk, foldl_keeps]

theorem testStop_keeps {r s : State} (h : Keeps r s) (x0 x1) : Keeps r (testStop x0 x1 s) := by
  unfold testStop
  grind (splits := 30) (ematch := 30) (gen := 60) (instances := 20000) [testRelease_keeps, State.put_keeps, ipkFree_keeps, Keeps.mk,
    foldl_keeps]

theorem lfEnd_keeps {r s : State} (h : Keeps r s) (x0 x1 x2) : Keeps r (lfEnd x0 x1 x2 s) := by
  unfold lfEnd
  grind (splits := 30) (ematch := 30) (gen := 60) (instances := 20000) [bankUse_keeps, lfDone_keeps, bankCharge_keeps, unown_keeps,
    ipkFree_keeps, Keeps.mk, foldl_keeps]

theorem lfEndAll_keeps {r s : State} (h : Keeps r s) (x0 x1) : Keeps r (lfEndAll x0 x1 s) := by
  unfold lfEndAll
  grind (splits := 30) (ematch := 30) (gen := 60) (instances := 20000) [lfEnd_keeps, Keeps.mk, foldl_keeps]

theorem ctRelease_keeps {r s : State} (h : Keeps r s) (x0) : Keeps r (ctRelease x0 s) := by
  unfold ctRelease
  grind (splits := 30) (ematch := 30) (gen := 60) (instances := 20000) [State.setBit_keeps, bankUse_keeps, bankCharge_keeps,
    State.put_keeps, unown_keeps, ipkFree_keeps, Keeps.mk, foldl_keeps]

theorem bankOff_keeps {r s : State} (h : Keeps r s) (x0) : Keeps r (bankOff x0 s) := by
  unfold bankOff
  grind (splits := 30) (ematch := 30) (gen := 60) (instances := 20000) [boostCheck_keeps, State.setDom_keeps, Keeps.mk, foldl_keeps]

theorem holderCheck_keeps {r s : State} (h : Keeps r s) : Keeps r (holderCheck s) := by
  unfold holderCheck
  grind (splits := 30) (ematch := 30) (gen := 60) (instances := 20000) [raise_keeps, Keeps.mk, foldl_keeps]

theorem disableChannel_keeps {r s : State} (h : Keeps r s) (x0 x1) : Keeps r (disableChannel x0 x1 s) := by
  unfold disableChannel
  grind (splits := 30) (ematch := 30) (gen := 60) (instances := 20000) [State.setBit_keeps, holderCheck_keeps, raise_keeps,
    State.count_keeps, Keeps.mk, foldl_keeps]

theorem own_keeps {r s : State} (h : Keeps r s) (x0 x1) : Keeps r (own x0 x1 s) := by
  unfold own
  grind (splits := 30) (ematch := 30) (gen := 60) (instances := 20000) [State.put_keeps, Keeps.mk, foldl_keeps]

theorem repliesTick_keeps {r s : State} (h : Keeps r s) : Keeps r (repliesTick s) := by
  unfold repliesTick
  grind (splits := 30) (ematch := 30) (gen := 60) (instances := 20000) [laneListenFrom_keeps, Keeps.mk, foldl_keeps]

theorem lfrunRefused_keeps {r s : State} (h : Keeps r s) : Keeps r (lfrunRefused s) := by
  unfold lfrunRefused
  grind (splits := 30) (ematch := 30) (gen := 60) (instances := 20000) [State.setBit_keeps, State.put_keeps, Keeps.mk, foldl_keeps]

theorem setVbat_keeps {r s : State} (h : Keeps r s) (x0) : Keeps r (setVbat x0 s) := by
  unfold setVbat
  grind (splits := 30) (ematch := 30) (gen := 60) (instances := 20000) [State.setBit_keeps, boostCheck_keeps, State.put_keeps,
    allowTrack_keeps, Keeps.mk, foldl_keeps]

theorem measured_keeps {r s : State} (h : Keeps r s) (x0 x1 x2) : Keeps r (measured x0 x1 x2 s) := by
  unfold measured
  grind (splits := 30) (ematch := 30) (gen := 60) (instances := 20000) [setVbat_keeps, Keeps.mk, foldl_keeps]

end Sys2Proof.Machine
end

