-- ==== Sys2Proof/Laws/KeepsB.lean ====
section
/-! SUPPORT. What the operations of Fob, FoxOps, Store, SesOps, Sign, DenOps, ImageOps, DiagOps, Ses keep. -/

namespace Sys2Proof.Machine

/-! ### Fob -/

theorem fobPageCheck_keeps {r s : State} (h : Keeps r s) (x0 x1) : Keeps r (fobPageCheck x0 x1 s) := by
  unfold fobPageCheck
  grind (splits := 30) (ematch := 30) (gen := 60) (instances := 20000) [raise_keeps, Keeps.mk, foldl_keeps]

theorem fobsCheck_keeps {r s : State} (h : Keeps r s) : Keeps r (fobsCheck s) := by
  unfold fobsCheck
  grind (splits := 30) (ematch := 30) (gen := 60) (instances := 20000) [fobPageCheck_keeps, Keeps.mk, foldl_keeps]

theorem fobCopySend_keeps {r s : State} (h : Keeps r s) (x0 x1) : Keeps r (fobCopySend x0 x1 s) := by
  unfold fobCopySend
  grind (splits := 30) (ematch := 30) (gen := 60) (instances := 20000) [settSend_keeps, Keeps.mk, foldl_keeps]

/-! ### FoxOps -/

theorem setOh_keeps {r s : State} (h : Keeps r s) (x0 x1) : Keeps r (setOh x0 x1 s) := by
  unfold setOh
  grind (splits := 30) (ematch := 30) (gen := 60) (instances := 20000) [State.clearBitAt_keeps, State.setBitAt_keeps, Keeps.mk, foldl_keeps]

theorem planOver_keeps {r s : State} (h : Keeps r s) (x0) : Keeps r (planOver x0 s) := by
  unfold planOver
  grind (splits := 30) (ematch := 30) (gen := 60) (instances := 20000) [Keeps.mk, foldl_keeps]

theorem setEx_keeps {r s : State} (h : Keeps r s) (x0 x1) : Keeps r (setEx x0 x1 s) := by
  unfold setEx
  grind (splits := 30) (ematch := 30) (gen := 60) (instances := 20000) [State.clearBitAt_keeps, State.setBitAt_keeps, Keeps.mk, foldl_keeps]

theorem exchangeOver_keeps {r s : State} (h : Keeps r s) (x0 x1) : Keeps r (exchangeOver x0 x1 s) := by
  unfold exchangeOver
  grind (splits := 30) (ematch := 30) (gen := 60) (instances := 20000) [setOh_keeps, planOver_keeps, setEx_keeps, laneFree_keeps,
    Keeps.mk, foldl_keeps]

theorem modifySession_keeps {r s : State} (h : Keeps r s) (x0 x1) : Keeps r (modifySession x0 x1 s) := by
  unfold modifySession
  grind (splits := 30) (ematch := 30) (gen := 60) (instances := 20000) [Keeps.mk, foldl_keeps]

theorem foxCount_keeps {r s : State} (h : Keeps r s) (x0) : Keeps r (foxCount x0 s) := by
  unfold foxCount
  grind (splits := 30) (ematch := 30) (gen := 60) (instances := 20000) [State.count_keeps, Keeps.mk, foldl_keeps]

theorem foxRes_keeps {r s : State} (h : Keeps r s) (x0 x1 x2) : Keeps r (foxRes x0 x1 x2 s) := by
  unfold foxRes
  grind (splits := 30) (ematch := 30) (gen := 60) (instances := 20000) [State.put_keeps, Keeps.mk, foldl_keeps]

theorem listenPass_keeps {r s : State} (h : Keeps r s) (x0 x1 x2 x3) : Keeps r (listenPass x0 x1 x2 x3 s) := by
  unfold listenPass
  grind (splits := 30) (ematch := 30) (gen := 60) (instances := 20000) [laneMove_keeps, laneListenFrom_keeps, Keeps.mk, foldl_keeps]

theorem listenSecond_keeps {r s : State} (h : Keeps r s) (x0 x1 x2) : Keeps r (listenSecond x0 x1 x2 s) := by
  unfold listenSecond
  grind (splits := 30) (ematch := 30) (gen := 60) (instances := 20000) [setOh_keeps, laneHold_keeps, listenPass_keeps, Keeps.mk,
    foldl_keeps]

theorem sendPoll_keeps {r s : State} (h : Keeps r s) (x0 x1 x2) : Keeps r (sendPoll x0 x1 x2 s).2 := by
  unfold sendPoll
  grind (splits := 30) (ematch := 30) (gen := 60) (instances := 20000) [laneTx_keeps, laneMove_keeps, setEx_keeps, Keeps.mk, foldl_keeps]

theorem sendPlan_keeps {r s : State} (h : Keeps r s) (x0 x1 x2 x3 x4) : Keeps r (sendPlan x0 x1 x2 x3 x4 s) := by
  unfold sendPlan
  grind (splits := 30) (ematch := 30) (gen := 60) (instances := 20000) [settSend_keeps, Keeps.mk, foldl_keeps]

theorem exchangeStart_keeps {r s : State} (h : Keeps r s) (x0 x1 x2) : Keeps r (exchangeStart x0 x1 x2 s).2 := by
  unfold exchangeStart
  grind (splits := 30) (ematch := 30) (gen := 60) (instances := 20000) [listenSecond_keeps, State.setLane_keeps, sendPoll_keeps,
    sendPlan_keeps, Keeps.mk, foldl_keeps]

theorem sendFinal_keeps {r s : State} (h : Keeps r s) (x0 x1 x2) : Keeps r (sendFinal x0 x1 x2 s).2 := by
  unfold sendFinal
  grind (splits := 30) (ematch := 30) (gen := 60) (instances := 20000) [modifySession_keeps, laneTx_keeps, setEx_keeps, Keeps.mk,
    foldl_keeps]

/-! ### Store -/

theorem State.setTally_keeps {r s : State} (h : Keeps r s) (x0 x1) : Keeps r (State.setTally s x0 x1) := by
  unfold State.setTally
  grind (splits := 30) (ematch := 30) (gen := 60) (instances := 20000) [Keeps.mk, foldl_keeps]

theorem tcmdDone_keeps {r s : State} (h : Keeps r s) (x0 x1) : Keeps r (tcmdDone x0 x1 s) := by
  unfold tcmdDone
  grind (splits := 30) (ematch := 30) (gen := 60) (instances := 20000) [State.setBit_keeps, State.put_keeps, irq_keeps, Keeps.mk,
    foldl_keeps]

theorem tallyIdle_keeps {r s : State} (h : Keeps r s) (x0 x1) : Keeps r (tallyIdle x0 x1 s) := by
  unfold tallyIdle
  grind (splits := 30) (ematch := 30) (gen := 60) (instances := 20000) [tcmdDone_keeps, Keeps.mk, foldl_keeps]

theorem tallyGo_keeps {r s : State} (h : Keeps r s) (x0) : Keeps r (tallyGo x0 s) := by
  induction x0 generalizing s with
  | zero => exact h
  | succ n ih =>
    unfold tallyGo
    grind (splits := 30) (ematch := 30) (gen := 60) (instances := 20000) [tallyIdle_keeps, rmcKick_keeps, Keeps.mk]

theorem tallyStart_keeps {r s : State} (h : Keeps r s) : Keeps r (tallyStart s) := by
  unfold tallyStart
  grind (splits := 30) (ematch := 30) (gen := 60) (instances := 20000) [tallyGo_keeps, Keeps.mk, foldl_keeps]

theorem submitTally_keeps {r s : State} (h : Keeps r s) (x0 x1) : Keeps r (submitTally x0 x1 s).2 := by
  unfold submitTally
  grind (splits := 30) (ematch := 30) (gen := 60) (instances := 20000) [enqueue_keeps, rmcKick_keeps, tallyStart_keeps, Keeps.mk,
    foldl_keeps]

theorem leavesReplaced_keeps {r s : State} (h : Keeps r s) (x0) : Keeps r (leavesReplaced x0 s) := by
  unfold leavesReplaced
  grind (splits := 30) (ematch := 30) (gen := 60) (instances := 20000) [Keeps.mk, foldl_keeps]

theorem applyShadow_keeps {r s : State} (h : Keeps r s) (x0) : Keeps r (applyShadow x0 s) :=
  Keeps.mems h _ _ _ _ _ id (memFold_wf _ _ _) id id id

theorem windowEmpty_keeps {r s : State} (h : Keeps r s) (x0) : Keeps r (windowEmpty x0 s) := by
  unfold windowEmpty
  grind (splits := 30) (ematch := 30) (gen := 60) (instances := 20000) [State.put_keeps, Keeps.mk, foldl_keeps]

theorem tallyEnd_keeps {r s : State} (h : Keeps r s) : Keeps r (tallyEnd s) := by
  unfold tallyEnd
  grind (splits := 30) (ematch := 30) (gen := 60) (instances := 20000) [rmcKick_keeps, tallyStart_keeps, Keeps.mk, foldl_keeps]

theorem windowDone_keeps {r s : State} (h : Keeps r s) (x0) : Keeps r (windowDone x0 s) := by
  unfold windowDone
  grind (splits := 30) (ematch := 30) (gen := 60) (instances := 20000) [State.setBit_keeps, State.put_keeps, irq_keeps, Keeps.mk,
    foldl_keeps]

theorem windowCommit_keeps {r s : State} (h : Keeps r s) : Keeps r (windowCommit s) := by
  unfold windowCommit
  grind (splits := 30) (ematch := 30) (gen := 60) (instances := 20000) [submitGroup_keeps, windowEmpty_keeps, windowDone_keeps, Keeps.mk,
    foldl_keeps]

theorem windowWrite_keeps {r s : State} (h : Keeps r s) (x0 x1 x2) : Keeps r (windowWrite x0 x1 x2 s).2 := by
  unfold windowWrite
  grind (splits := 30) (ematch := 30) (gen := 60) (instances := 20000) [State.put_keeps, Keeps.mk, foldl_keeps]

theorem resubmitGroups_keeps {r s : State} (h : Keeps r s) : Keeps r (resubmitGroups s) := by
  unfold resubmitGroups
  grind (splits := 30) (ematch := 30) (gen := 60) (instances := 20000) [submitGroup_keeps, Keeps.mk, foldl_keeps]

theorem windowAccess_keeps {r s : State} (h : Keeps r s) (x0 x1) : Keeps r (windowAccess x0 x1 s) := by
  unfold windowAccess
  grind (splits := 30) (ematch := 30) (gen := 60) (instances := 20000) [enter_keeps, Keeps.mk, foldl_keeps]

theorem storeFail_keeps {r s : State} (h : Keeps r s) : Keeps r (storeFail s) := by
  unfold storeFail
  grind (splits := 30) (ematch := 30) (gen := 60) (instances := 20000) [State.setTally_keeps, windowEmpty_keeps, windowDone_keeps,
    Keeps.mk, foldl_keeps]

theorem storeNext_keeps {r s : State} (h : Keeps r s) : Keeps r (storeNext s) := by
  unfold storeNext
  grind (splits := 30) (ematch := 30) (gen := 60) (instances := 20000) [rmcKick_keeps, tallyStart_keeps, Keeps.mk, foldl_keeps]

theorem markerUsed_keeps {r s : State} (h : Keeps r s) (x0) : Keeps r (markerUsed x0 s) := by
  unfold markerUsed
  grind (splits := 30) (ematch := 30) (gen := 60) (instances := 20000) [Keeps.mk, foldl_keeps]

theorem takeover_keeps {r s : State} (h : Keeps r s) (x0) : Keeps r (takeover x0 s) := by
  unfold takeover
  grind (splits := 30) (ematch := 30) (gen := 60) (instances := 20000) [rmcKick_keeps, tallyStart_keeps, Keeps.mk, foldl_keeps]

theorem pageDone_keeps {r s : State} (h : Keeps r s) (x0 x1 x2) : Keeps r (pageDone x0 x1 x2 s) := by
  unfold pageDone
  grind (splits := 30) (ematch := 30) (gen := 60) (instances := 20000) [takeover_keeps, Keeps.mk, foldl_keeps]

theorem reprogram_keeps {r s : State} (h : Keeps r s) (x0) : Keeps r (reprogram x0 s) := by
  unfold reprogram
  grind (splits := 30) (ematch := 30) (gen := 60) (instances := 20000) [State.count_keeps, Keeps.mk, foldl_keeps]

/-! ### SesOps -/

theorem setTracker_keeps {r s : State} (h : Keeps r s) (x0 x1) : Keeps r (setTracker x0 x1 s) := by
  unfold setTracker
  grind (splits := 30) (ematch := 30) (gen := 60) (instances := 20000) [Keeps.mk, foldl_keeps]

theorem trackerReset_keeps {r s : State} (h : Keeps r s) (x0) : Keeps r (trackerReset x0 s) := by
  unfold trackerReset
  grind (splits := 30) (ematch := 30) (gen := 60) (instances := 20000) [setTracker_keeps, Keeps.mk, foldl_keeps]

theorem barFob_keeps {r s : State} (h : Keeps r s) (x0 x1) : Keeps r (barFob x0 x1 s) := by
  unfold barFob
  grind (splits := 30) (ematch := 30) (gen := 60) (instances := 20000) [canSend_keeps, trackerReset_keeps, raise_keeps, State.count_keeps,
    logRec_keeps, Keeps.mk, foldl_keeps]

theorem noteDecision_keeps {r s : State} (h : Keeps r s) (x0 x1 x2 x3) : Keeps r (noteDecision x0 x1 x2 x3 s) := by
  unfold noteDecision
  grind (splits := 30) (ematch := 30) (gen := 60) (instances := 20000) [State.setBit_keeps, State.put_keeps, State.count_keeps, Keeps.mk,
    foldl_keeps]

theorem decisionRecord_keeps {r s : State} (h : Keeps r s) (x0 x1 x2 x3 x4) : Keeps r (decisionRecord x0 x1 x2 x3 x4 s) := by
  unfold decisionRecord
  grind (splits := 30) (ematch := 30) (gen := 60) (instances := 20000) [logRec_keeps, Keeps.mk, foldl_keeps]

theorem decisionMessage_keeps {r s : State} (h : Keeps r s) (x0 x1 x2 x3) : Keeps r (decisionMessage x0 x1 x2 x3 s) := by
  unfold decisionMessage
  grind (splits := 30) (ematch := 30) (gen := 60) (instances := 20000) [canSend_keeps, Keeps.mk, foldl_keeps]

theorem decided_keeps {r s : State} (h : Keeps r s) (x0 x1 x2 x3 x4) : Keeps r (decided x0 x1 x2 x3 x4 s) := by
  unfold decided
  grind (splits := 30) (ematch := 30) (gen := 60) (instances := 20000) [noteDecision_keeps, decisionRecord_keeps, decisionMessage_keeps,
    Keeps.mk, foldl_keeps]

theorem ctRefused_keeps {r s : State} (h : Keeps r s) (x0) : Keeps r (ctRefused x0 s) := by
  unfold ctRefused
  grind (splits := 30) (ematch := 30) (gen := 60) (instances := 20000) [State.put_keeps, decided_keeps, Keeps.mk, foldl_keeps]

theorem coupledAsk_keeps {r s : State} (h : Keeps r s) (x0) : Keeps r (coupledAsk x0 s) := by
  unfold coupledAsk
  grind (splits := 30) (ematch := 30) (gen := 60) (instances := 20000) [bankUse_keeps, enqueue_keeps, ctRefused_keeps, Keeps.mk,
    foldl_keeps]

theorem removeRun_keeps {r s : State} (h : Keeps r s) (x0) : Keeps r (removeRun x0 s) := by
  unfold removeRun
  grind (splits := 30) (ematch := 30) (gen := 60) (instances := 20000) [State.setQueue_keeps, Keeps.mk, foldl_keeps]

theorem dropJobs_keeps {r s : State} (h : Keeps r s) (x0) : Keeps r (dropJobs x0 s) := by
  unfold dropJobs
  grind (splits := 30) (ematch := 30) (gen := 60) (instances := 20000) [volSweep_keeps, Keeps.mk, foldl_keeps]

theorem runOver_keeps {r s : State} (h : Keeps r s) (x0) : Keeps r (runOver x0 s) := by
  unfold runOver
  grind (splits := 30) (ematch := 30) (gen := 60) (instances := 20000) [removeRun_keeps, dropJobs_keeps, laneFree_keeps, Keeps.mk,
    foldl_keeps]

theorem runRefused_keeps {r s : State} (h : Keeps r s) (x0 x1) : Keeps r (runRefused x0 x1 s) := by
  unfold runRefused
  grind (splits := 30) (ematch := 30) (gen := 60) (instances := 20000) [coupledAsk_keeps, decided_keeps, runOver_keeps, Keeps.mk,
    foldl_keeps]

theorem runCheck_keeps {r s : State} (h : Keeps r s) (x0) : Keeps r (runCheck x0 s) := by
  unfold runCheck
  grind (splits := 30) (ematch := 30) (gen := 60) (instances := 20000) [runRefused_keeps, Keeps.mk, foldl_keeps]

theorem sessionEnd_keeps {r s : State} (h : Keeps r s) (x0 x1) : Keeps r (sessionEnd x0 x1 s) := by
  unfold sessionEnd
  grind (splits := 30) (ematch := 30) (gen := 60) (instances := 20000) [laneFree_keeps, exchangeOver_keeps, volSweep_keeps,
    runCheck_keeps, Keeps.mk, foldl_keeps]

theorem strike_keeps {r s : State} (h : Keeps r s) (x0 x1) : Keeps r (strike x0 x1 s) := by
  unfold strike
  grind (splits := 30) (ematch := 30) (gen := 60) (instances := 20000) [barFob_keeps, trackerReset_keeps, sessionEnd_keeps,
    State.count_keeps, Keeps.mk, foldl_keeps]

theorem sendChallenge_keeps {r s : State} (h : Keeps r s) (x0) : Keeps r (sendChallenge x0 s) := by
  unfold sendChallenge
  grind (splits := 30) (ematch := 30) (gen := 60) (instances := 20000) [modifySession_keeps, sessionEnd_keeps, laneTx_keeps,
    seqUsed_keeps, laneMove_keeps, randBytes_keeps, Keeps.mk, foldl_keeps]

theorem challengeKick_keeps {r s : State} (h : Keeps r s) (x0) : Keeps r (challengeKick x0 s) := by
  unfold challengeKick
  grind (splits := 30) (ematch := 30) (gen := 60) (instances := 20000) [sendChallenge_keeps, Keeps.mk, foldl_keeps]

theorem runLaneTake_keeps {r s : State} (h : Keeps r s) (x0) : Keeps r (runLaneTake x0 s).2 := by
  unfold runLaneTake
  grind (splits := 30) (ematch := 30) (gen := 60) (instances := 20000) [laneTake_keeps, Keeps.mk, foldl_keeps]

theorem openNext_keeps {r s : State} (h : Keeps r s) (x0) : Keeps r (openNext x0 s) := by
  unfold openNext
  grind (splits := 30) (ematch := 30) (gen := 60) (instances := 20000) [modifySession_keeps, runLaneTake_keeps, sessionEnd_keeps,
    modifyRun_keeps, Keeps.mk, foldl_keeps]

theorem sesKick_keeps {r s : State} (h : Keeps r s) : Keeps r (sesKick s) := by
  unfold sesKick
  grind (splits := 30) (ematch := 30) (gen := 60) (instances := 20000) [challengeKick_keeps, openNext_keeps, runCheck_keeps, Keeps.mk,
    foldl_keeps]

theorem trackerWelcomed_keeps {r s : State} (h : Keeps r s) (x0) : Keeps r (trackerWelcomed x0 s) := by
  unfold trackerWelcomed
  grind (splits := 30) (ematch := 30) (gen := 60) (instances := 20000) [setTracker_keeps, Keeps.mk, foldl_keeps]

theorem latchSet_keeps {r s : State} (h : Keeps r s) : Keeps r (latchSet s) := by
  unfold latchSet
  grind (splits := 30) (ematch := 30) (gen := 60) (instances := 20000) [State.setBit_keeps, Keeps.mk, foldl_keeps]

theorem startRelease_keeps {r s : State} (h : Keeps r s) (x0 x1) : Keeps r (startRelease x0 x1 s) := by
  unfold startRelease
  grind (splits := 30) (ematch := 30) (gen := 60) (instances := 20000) [latchSet_keeps, noteDecision_keeps, raise_keeps,
    submitTally_keeps, Keeps.mk, foldl_keeps]

theorem runGranted_keeps {r s : State} (h : Keeps r s) (x0 x1 x2) : Keeps r (runGranted x0 x1 x2 s) := by
  unfold runGranted
  grind (splits := 30) (ematch := 30) (gen := 60) (instances := 20000) [trackerWelcomed_keeps, startRelease_keeps, decided_keeps,
    runOver_keeps, Keeps.mk, foldl_keeps]

theorem judgeJob_keeps {r s : State} (h : Keeps r s) (x0 x1) : Keeps r (judgeJob x0 x1 s) := by
  unfold judgeJob
  grind (splits := 30) (ematch := 30) (gen := 60) (instances := 20000) [modifySession_keeps, sessionEnd_keeps, runGranted_keeps,
    runOver_keeps, runCheck_keeps, modifyRun_keeps, Keeps.mk, foldl_keeps]

theorem judgeAll_keeps {r s : State} (h : Keeps r s) : Keeps r (judgeAll s) := by
  unfold judgeAll
  grind (splits := 30) (ematch := 30) (gen := 60) (instances := 20000) [sesKick_keeps, judgeJob_keeps, Keeps.mk, foldl_keeps]

theorem startLocates_keeps {r s : State} (h : Keeps r s) (x0) : Keeps r (startLocates x0 s) := by
  unfold startLocates
  grind (splits := 30) (ematch := 30) (gen := 60) (instances := 20000) [runNext_keeps, modifyRun_keeps, Keeps.mk, foldl_keeps]

theorem authenticated_keeps {r s : State} (h : Keeps r s) (x0 x1) : Keeps r (authenticated x0 x1 s) := by
  unfold authenticated
  grind (splits := 30) (ematch := 30) (gen := 60) (instances := 20000) [startLocates_keeps, modifySession_keeps, volPut_keeps,
    judgeAll_keeps, Keeps.mk, foldl_keeps]

theorem startTokenSend_keeps {r s : State} (h : Keeps r s) : Keeps r (startTokenSend s) := by
  unfold startTokenSend
  grind (splits := 30) (ematch := 30) (gen := 60) (instances := 20000) [canSend_keeps, logRec_keeps, Keeps.mk, foldl_keeps]

theorem recordWritten_keeps {r s : State} (h : Keeps r s) (x0) : Keeps r (recordWritten x0 s) := by
  unfold recordWritten
  grind (splits := 30) (ematch := 30) (gen := 60) (instances := 20000) [trackerReset_keeps, Keeps.mk, foldl_keeps]

theorem trackerFix_keeps {r s : State} (h : Keeps r s) (x0 x1) : Keeps r (trackerFix x0 x1 s) := by
  unfold trackerFix
  grind (splits := 30) (ematch := 30) (gen := 60) (instances := 20000) [setTracker_keeps, Keeps.mk, foldl_keeps]

theorem latchClear_keeps {r s : State} (h : Keeps r s) : Keeps r (latchClear s) := by
  unfold latchClear
  grind (splits := 30) (ematch := 30) (gen := 60) (instances := 20000) [State.setBit_keeps, Keeps.mk, foldl_keeps]

theorem trackerLf_keeps {r s : State} (h : Keeps r s) (x0 x1) : Keeps r (trackerLf x0 x1 s) := by
  unfold trackerLf
  grind (splits := 30) (ematch := 30) (gen := 60) (instances := 20000) [setTracker_keeps, Keeps.mk, foldl_keeps]

theorem locateReplied_keeps {r s : State} (h : Keeps r s) (x0 x1 x2 x3) : Keeps r (locateReplied x0 x1 x2 x3 s) := by
  unfold locateReplied
  grind (splits := 30) (ematch := 30) (gen := 60) (instances := 20000) [strike_keeps, modifySession_keeps, sesKick_keeps, judgeAll_keeps,
    trackerLf_keeps, Keeps.mk, foldl_keeps]

theorem wakeReplied_keeps {r s : State} (h : Keeps r s) (x0 x1 x2 x3 x4) : Keeps r (wakeReplied x0 x1 x2 x3 x4 s) := by
  unfold wakeReplied
  grind (splits := 30) (ematch := 30) (gen := 60) (instances := 20000) [modifyRun_keeps, Keeps.mk, foldl_keeps]

theorem replyDelivered_keeps {r s : State} (h : Keeps r s) (x0 x1 x2 x3 x4) : Keeps r (replyDelivered x0 x1 x2 x3 x4 s) := by
  unfold replyDelivered
  grind (splits := 30) (ematch := 30) (gen := 60) (instances := 20000) [locateReplied_keeps, wakeReplied_keeps, Keeps.mk, foldl_keeps]

theorem serveTrigger_keeps {r s : State} (h : Keeps r s) (x0 x1) : Keeps r (serveTrigger x0 x1 s) := by
  unfold serveTrigger
  grind (splits := 30) (ematch := 30) (gen := 60) (instances := 20000) [canSend_keeps, decided_keeps, runNext_keeps, Keeps.mk, foldl_keeps]

/-! ### Sign -/

theorem drawScalarN_keeps {r s : State} (h : Keeps r s) (x0 x1) : Keeps r (drawScalarN x0 x1 s).2 := by
  induction x1 generalizing s with
  | zero => exact h
  | succ n ih =>
    unfold drawScalarN
    grind (splits := 30) (ematch := 30) (gen := 60) (instances := 20000) [randBytes_keeps]

theorem drawScalar_keeps {r s : State} (h : Keeps r s) (x0) : Keeps r (drawScalar x0 s).2 := by
  unfold drawScalar
  grind (splits := 30) (ematch := 30) (gen := 60) (instances := 20000) [drawScalarN_keeps, Keeps.mk, foldl_keeps]

theorem signN_keeps {r s : State} (h : Keeps r s) (x0 x1 x2) : Keeps r (signN x0 x1 x2 s).2 := by
  induction x2 generalizing s with
  | zero => exact h
  | succ n ih =>
    unfold signN
    grind (splits := 30) (ematch := 30) (gen := 60) (instances := 20000) [drawScalar_keeps]

theorem signWith_keeps {r s : State} (h : Keeps r s) (x0 x1) : Keeps r (signWith x0 x1 s).2 := by
  unfold signWith
  grind (splits := 30) (ematch := 30) (gen := 60) (instances := 20000) [signN_keeps, Keeps.mk, foldl_keeps]

/-! ### DenOps -/

theorem denDone_keeps {r s : State} (h : Keeps r s) (x0 x1) : Keeps r (denDone x0 x1 s) := by
  unfold denDone
  refine irq_keeps (State.setBit_keeps (State.put_keeps (State.put_keeps (State.setBit_keeps (State.setBit_keeps ?_ _ _) _ _) _ _) _ _) _
    _) _
  refine Keeps.parts h rfl id id id (fun w => ?_) id id
  dsimp only
  split
  · exact memSetN_wf _ _ Memory.wf_nil
  · exact w

theorem slotRepair_keeps {r s : State} (h : Keeps r s) (x0) : Keeps r (slotRepair x0 s) := by
  unfold slotRepair
  grind (splits := 30) (ematch := 30) (gen := 60) (instances := 20000) [freeBytes_keeps, submitGroup_keeps, Keeps.mk, foldl_keeps]

theorem slotSweep_keeps {r s : State} (h : Keeps r s) (x0) : Keeps r (slotSweep x0 s) := by
  unfold slotSweep
  grind (splits := 30) (ematch := 30) (gen := 60) (instances := 20000) [slotRepair_keeps, raise_keeps, Keeps.mk, foldl_keeps]

theorem keyCheck_keeps {r s : State} (h : Keeps r s) (x0 x1 x2 x3 x4 x5) : Keeps r (keyCheck x0 x1 x2 x3 x4 x5 s).2 := by
  unfold keyCheck
  grind (splits := 30) (ematch := 30) (gen := 60) (instances := 20000) [enter_keeps, slotSweep_keeps, State.count_keeps, Keeps.mk,
    foldl_keeps]

theorem denWait_keeps {r s : State} (h : Keeps r s) (x0 x1) : Keeps r (denWait x0 x1 s) := by
  unfold denWait
  grind (splits := 30) (ematch := 30) (gen := 60) (instances := 20000) [denDone_keeps, Keeps.mk, foldl_keeps]

theorem denCommit_keeps {r s : State} (h : Keeps r s) (x0 x1) : Keeps r (denCommit x0 x1 s) := by
  unfold denCommit
  grind (splits := 30) (ematch := 30) (gen := 60) (instances := 20000) [submitGroup_keeps, denDone_keeps, Keeps.mk, foldl_keeps]

theorem denClaim_keeps {r s : State} (h : Keeps r s) (x0) : Keeps r (denClaim x0 s) :=
  State.put_keeps (Keeps.mems h _ _ _ _ _ id id (by intro h; dsimp only; split; exacts [h, Memory.wf_nil]) id id) _ _

theorem vltBufWrite_keeps {r s : State} (h : Keeps r s) (x0 x1 x2) : Keeps r (vltBufWrite x0 x1 x2 s).2 := by
  unfold vltBufWrite
  split
  · exact h
  · exact Keeps.mems (denClaim_keeps h _) _ _ _ _ _ id id (memSetN_wf _ _) id id

/-! ### ImageOps -/

theorem putPage_keeps {r s : State} (h : Keeps r s) (x0) : Keeps r (putPage x0 s) := by
  unfold putPage
  grind (splits := 30) (ematch := 30) (gen := 60) (instances := 20000) [applyShadow_keeps, Keeps.mk, foldl_keeps]

theorem imageSigned_keeps {r s : State} (h : Keeps r s) (x0 x1) : Keeps r (imageSigned x0 x1 s).2 := by
  unfold imageSigned
  grind (splits := 30) (ematch := 30) (gen := 60) (instances := 20000) [keyCheck_keeps, Keeps.mk, foldl_keeps]

theorem verifyImage_keeps {r s : State} (h : Keeps r s) (x0) : Keeps r (verifyImage x0 s).2 := by
  unfold verifyImage
  grind (splits := 30) (ematch := 30) (gen := 60) (instances := 20000) [imageSigned_keeps, Keeps.mk, foldl_keeps]

theorem verifySlot_keeps {r s : State} (h : Keeps r s) (x0 x1) : Keeps r (verifySlot x0 x1 s).2 := by
  unfold verifySlot
  grind (splits := 30) (ematch := 30) (gen := 60) (instances := 20000) [enter_keeps, verifyImage_keeps, Keeps.mk, foldl_keeps]

/-! ### DiagOps -/

theorem diagFrame_keeps {r s : State} (h : Keeps r s) (x0) : Keeps r (diagFrame x0 s) := by
  unfold diagFrame
  grind (splits := 30) (ematch := 30) (gen := 60) (instances := 20000) [enqueue_keeps, Keeps.mk, foldl_keeps]

theorem diagRespond_keeps {r s : State} (h : Keeps r s) (x0) : Keeps r (diagRespond x0 s) := by
  unfold diagRespond
  grind (splits := 30) (ematch := 30) (gen := 60) (instances := 20000) [diagFrame_keeps, Keeps.mk, foldl_keeps]

theorem diagPos_keeps {r s : State} (h : Keeps r s) (x0 x1) : Keeps r (diagPos x0 x1 s) := by
  unfold diagPos
  grind (splits := 30) (ematch := 30) (gen := 60) (instances := 20000) [diagRespond_keeps, Keeps.mk, foldl_keeps]

theorem routineOk_keeps {r s : State} (h : Keeps r s) (x0 x1) : Keeps r (routineOk x0 x1 s) := by
  unfold routineOk
  grind (splits := 30) (ematch := 30) (gen := 60) (instances := 20000) [diagPos_keeps, Keeps.mk, foldl_keeps]

theorem diagNeg_keeps {r s : State} (h : Keeps r s) (x0 x1) : Keeps r (diagNeg x0 x1 s) := by
  unfold diagNeg
  grind (splits := 30) (ematch := 30) (gen := 60) (instances := 20000) [diagRespond_keeps, Keeps.mk, foldl_keeps]

theorem routineFail_keeps {r s : State} (h : Keeps r s) (x0) : Keeps r (routineFail x0 s) := by
  unfold routineFail
  grind (splits := 30) (ematch := 30) (gen := 60) (instances := 20000) [diagNeg_keeps, Keeps.mk, foldl_keeps]

theorem diagPop_keeps {r s : State} (h : Keeps r s) (m : Bytes) (a : Nat) (t : State) (e : diagPop s = some (m, a, t)) : Keeps r t := by
  unfold diagPop at e
  split at e
  · cases e
  · dsimp only at e
    split at e
    · simp only [Option.map_eq_some_iff, Prod.mk.injEq] at e
      obtain ⟨_, _, _, _, rfl⟩ := e
      exact State.setQueue_keeps h _ _
    · cases e

theorem diagPump_keeps {r s : State} (h : Keeps r s) : Keeps r (diagPump s) := by
  unfold diagPump
  grind (splits := 30) (ematch := 30) (gen := 60) (instances := 20000) [diagFrame_keeps, Keeps.mk, foldl_keeps]

/-! ### Ses -/

theorem satEvent_keeps {r s : State} (h : Keeps r s) (x0) : Keeps r (satEvent x0 s) := by
  unfold satEvent
  grind (splits := 30) (ematch := 30) (gen := 60) (instances := 20000) [settSend_keeps, Keeps.mk, foldl_keeps]

theorem enrolStart_keeps {r s : State} (h : Keeps r s) (x0 x1 x2 x3) (t : State) (e : enrolStart x0 x1 x2 x3 s = some t) : Keeps r t := by
  unfold enrolStart at e
  grind (splits := 30) (ematch := 30) (gen := 60) (instances := 20000) [laneTx_keeps, laneTake_keeps, Keeps.mk, foldl_keeps]

theorem fobCommit_keeps {r s : State} (h : Keeps r s) (x0 x1 x2 x3) : Keeps r (fobCommit x0 x1 x2 x3 s).2 := by
  unfold fobCommit
  grind (splits := 30) (ematch := 30) (gen := 60) (instances := 20000) [fobCopySend_keeps, submitGroup_keeps, Keeps.mk, foldl_keeps]

theorem enrolled_keeps {r s : State} (h : Keeps r s) (x0 x1 x2) : Keeps r (enrolled x0 x1 x2 s) := by
  unfold enrolled
  grind (splits := 30) (ematch := 30) (gen := 60) (instances := 20000) [fobCommit_keeps, laneFree_keeps, routineFail_keeps, Keeps.mk,
    foldl_keeps]

theorem setNotice_keeps {r s : State} (h : Keeps r s) (x0) : Keeps r (setNotice x0 s) := by
  unfold setNotice
  grind (splits := 30) (ematch := 30) (gen := 60) (instances := 20000) [Keeps.mk, foldl_keeps]

theorem wakeOver_keeps {r s : State} (h : Keeps r s) (x0) : Keeps r (wakeOver x0 s) := by
  unfold wakeOver
  grind (splits := 30) (ematch := 30) (gen := 60) (instances := 20000) [sesKick_keeps, runNext_keeps, runOver_keeps, modifyRun_keeps,
    Keeps.mk, foldl_keeps]

theorem remoteLock_keeps {r s : State} (h : Keeps r s) (x0 x1) : Keeps r (remoteLock x0 x1 s) := by
  unfold remoteLock
  grind (splits := 30) (ematch := 30) (gen := 60) (instances := 20000) [decided_keeps, Keeps.mk, foldl_keeps]

theorem remoteUnlock_keeps {r s : State} (h : Keeps r s) (x0 x1 x2 x3 x4 x5) : Keeps r (remoteUnlock x0 x1 x2 x3 x4 x5 s) := by
  unfold remoteUnlock
  grind (splits := 30) (ematch := 30) (gen := 60) (instances := 20000) [sesKick_keeps, decided_keeps, Keeps.mk, foldl_keeps]

theorem relayStore_keeps {r s : State} (h : Keeps r s) (x0) : Keeps r (relayStore x0 s) := by
  unfold relayStore
  grind (splits := 30) (ematch := 30) (gen := 60) (instances := 20000) [satEvent_keeps, raise_keeps, State.setBitAt_keeps, Keeps.mk,
    foldl_keeps]

theorem relayed_keeps {r s : State} (h : Keeps r s) (x0 x1 x2 x3 x4) (t : State) (e : relayed x0 x1 x2 x3 x4 s = some t) : Keeps r t := by
  unfold relayed at e
  grind (splits := 30) (ematch := 30) (gen := 60) (instances := 20000) [rxReport_keeps, relayStore_keeps, Keeps.mk, foldl_keeps]

theorem rxStrike_keeps {r s : State} (h : Keeps r s) (x0 x1) : Keeps r (rxStrike x0 x1 s) := by
  unfold rxStrike
  grind (splits := 30) (ematch := 30) (gen := 60) (instances := 20000) [strike_keeps, sesKick_keeps, Keeps.mk, foldl_keeps]

theorem nextTrigger_keeps {r s : State} (h : Keeps r s) (i) (t) (e : nextTrigger s = some (i, t)) : Keeps r t := by
  unfold nextTrigger at e
  grind (splits := 30) (ematch := 30) (gen := 60) (instances := 20000) [State.setQueue_keeps, Keeps.mk, foldl_keeps]

end Sys2Proof.Machine
end

