-- ==== Sys2Proof/Laws/KeepsC.lean ====
section
/-! SUPPORT. What the operations of Fox, Air, Lf, Coupled, Timers, Chronicle, Profile, LedgerOps, PowerOps, Waymarks keep. -/

namespace Sys2Proof.Machine

/-! ### Fox -/

theorem foxFailed_keeps {r s : State} (h : Keeps r s) (x0 x1 x2) : Keeps r (foxFailed x0 x1 x2 s) := by
  unfold foxFailed
  grind (splits := 30) (ematch := 30) (gen := 60) (instances := 20000) [strike_keeps, modifySession_keeps, foxCount_keeps, planOver_keeps,
    sesKick_keeps, foxRes_keeps, State.wr_keeps, judgeAll_keeps, State.put_keeps, laneFree_keeps, exchangeOver_keeps, Keeps.mk,
    foldl_keeps]

theorem foxLane_keeps {r s : State} (h : Keeps r s) (x0) : Keeps r (foxLane x0 s) := by
  unfold foxLane
  grind (splits := 30) (ematch := 30) (gen := 60) (instances := 20000) [foxFailed_keeps, Keeps.mk, foldl_keeps]

theorem exchangeBegin_keeps {r s : State} (h : Keeps r s) (x0 x1 x2) : Keeps r (exchangeBegin x0 x1 x2 s) := by
  unfold exchangeBegin
  grind (splits := 30) (ematch := 30) (gen := 60) (instances := 20000) [foxLane_keeps, laneHold_keeps, exchangeStart_keeps, Keeps.mk,
    foldl_keeps]

theorem foxPassed_keeps {r s : State} (h : Keeps r s) (x0 x1 x2 x3 x4 x5 x6) : Keeps r (foxPassed x0 x1 x2 x3 x4 x5 x6 s) := by
  unfold foxPassed
  grind (splits := 30) (ematch := 30) (gen := 60) (instances := 20000) [foxCount_keeps, State.setBit_keeps, foxRes_keeps, State.wr_keeps,
    State.put_keeps, Keeps.mk, foldl_keeps]

theorem fixAccepted_keeps {r s : State} (h : Keeps r s) (x0 x1) : Keeps r (fixAccepted x0 x1 s) := by
  unfold fixAccepted
  grind (splits := 30) (ematch := 30) (gen := 60) (instances := 20000) [modifySession_keeps, trackerFix_keeps, judgeAll_keeps, Keeps.mk,
    foldl_keeps]

theorem foxQual_keeps {r s : State} (h : Keeps r s) (x0 x1 x2) : Keeps r (foxQual x0 x1 x2 s) := by
  unfold foxQual
  grind (splits := 30) (ematch := 30) (gen := 60) (instances := 20000) [State.put_keeps, Keeps.mk, foldl_keeps]

theorem foxOk_keeps {r s : State} (h : Keeps r s) (x0 x1 x2 x3 x4 x5) : Keeps r (foxOk x0 x1 x2 x3 x4 x5 s) := by
  unfold foxOk
  grind (splits := 30) (ematch := 30) (gen := 60) (instances := 20000) [modifySession_keeps, foxFailed_keeps, judgeAll_keeps,
    laneFree_keeps, foxPassed_keeps, exchangeOver_keeps, fixAccepted_keeps, foxQual_keeps, Keeps.mk, foldl_keeps]

theorem exchangeJudge_keeps {r s : State} (h : Keeps r s) (x0 x1 x2 x3) : Keeps r (exchangeJudge x0 x1 x2 x3 s) := by
  have a : Keeps r (if airDiff x2.finalAt (x2.polls.headD 0) = 0 then s.drawn else s) := by
    split
    · exact State.drawn_keeps h
    · exact h
  unfold exchangeJudge
  dsimp only
  split
  · exact foxOk_keeps a _ _ _ _ _ _
  · exact foxFailed_keeps (foxQual_keeps a _ _ _) _ _ _

theorem exchangeLeave_keeps {r s : State} (h : Keeps r s) (x0 x1) : Keeps r (exchangeLeave x0 x1 s) := by
  unfold exchangeLeave
  grind (splits := 30) (ematch := 30) (gen := 60) (instances := 20000) [laneFree_keeps, exchangeOver_keeps, Keeps.mk, foldl_keeps]

theorem listenRes_keeps {r s : State} (h : Keeps r s) (x0 x1) : Keeps r (listenRes x0 x1 s) := by
  unfold listenRes
  grind (splits := 30) (ematch := 30) (gen := 60) (instances := 20000) [State.wr_keeps, State.put_keeps, Keeps.mk, foldl_keeps]

theorem foxEscort_keeps {r s : State} (h : Keeps r s) (x0 x1) : Keeps r (foxEscort x0 x1 s) := by
  unfold foxEscort
  grind (splits := 30) (ematch := 30) (gen := 60) (instances := 20000) [foxFailed_keeps, isolate_keeps, raise_keeps, Keeps.mk, foldl_keeps]

theorem listenNext_keeps {r s : State} (h : Keeps r s) (x0 x1) : Keeps r (listenNext x0 x1 s) := by
  unfold listenNext
  grind (splits := 30) (ematch := 30) (gen := 60) (instances := 20000) [setOh_keeps, listenPass_keeps, Keeps.mk, foldl_keeps]

theorem passOver_keeps {r s : State} (h : Keeps r s) (x0 x1 x2) : Keeps r (passOver x0 x1 x2 s) := by
  unfold passOver
  grind (splits := 30) (ematch := 30) (gen := 60) (instances := 20000) [sendPoll_keeps, foxLane_keeps, sendFinal_keeps, Keeps.mk,
    foldl_keeps]

/-! ### Air -/

theorem laneOff_keeps {r s : State} (h : Keeps r s) (x0) : Keeps r (laneOff x0 s) := by
  unfold laneOff
  grind (splits := 30) (ematch := 30) (gen := 60) (instances := 20000) [State.setLane_keeps, State.setBit_keeps, State.put_keeps,
    State.setDom_keeps, Keeps.mk, foldl_keeps]

theorem calibrated_keeps {r s : State} (h : Keeps r s) (x0 x1) : Keeps r (calibrated x0 x1 s) := by
  unfold calibrated
  grind (splits := 30) (ematch := 30) (gen := 60) (instances := 20000) [State.setLane_keeps, State.setBit_keeps, State.put_keeps,
    State.count_keeps, Keeps.mk, foldl_keeps]

theorem coefCheck_keeps {r s : State} (h : Keeps r s) (x0 x1) : Keeps r (coefCheck x0 x1 s) := by
  unfold coefCheck
  grind (splits := 30) (ematch := 30) (gen := 60) (instances := 20000) [State.setLane_keeps, State.setBit_keeps, recomputes_keeps,
    raise_keeps, Keeps.mk, foldl_keeps]

theorem laneDrop_keeps {r s : State} (h : Keeps r s) (x0 x1) : Keeps r (laneDrop x0 x1 s) := by
  unfold laneDrop
  grind (splits := 30) (ematch := 30) (gen := 60) (instances := 20000) [State.setLane_keeps, laneCut_keeps, foxLane_keeps,
    laneResult_keeps, Keeps.mk, foldl_keeps]

theorem loopEnd_keeps {r s : State} (h : Keeps r s) (x0 x1) : Keeps r (loopEnd x0 x1 s) := by
  unfold loopEnd
  grind (splits := 30) (ematch := 30) (gen := 60) (instances := 20000) [State.setLane_keeps, reportFault_keeps, laneDrop_keeps,
    recomputes_keeps, setEx_keeps, laneResult_keeps, Keeps.mk, foldl_keeps]

theorem loopTick_keeps {r s : State} (h : Keeps r s) (x0) : Keeps r (loopTick x0 s) := by
  unfold loopTick
  grind (splits := 30) (ematch := 30) (gen := 60) (instances := 20000) [laneListenFrom_keeps, loopEnd_keeps, Keeps.mk, foldl_keeps]

theorem laneTurn_keeps {r s : State} (h : Keeps r s) (x0) : Keeps r (laneTurn x0 s) := by
  unfold laneTurn
  grind (splits := 30) (ematch := 30) (gen := 60) (instances := 20000) [State.setLane_keeps, State.put_keeps, Keeps.mk, foldl_keeps]

theorem windowOver_keeps {r s : State} (h : Keeps r s) (x0) : Keeps r (windowOver x0 s) := by
  unfold windowOver
  grind (splits := 30) (ematch := 30) (gen := 60) (instances := 20000) [State.setLane_keeps, State.put_keeps, laneResult_keeps, Keeps.mk,
    foldl_keeps]

theorem windowYield_keeps {r s : State} (h : Keeps r s) (x0) : Keeps r (windowYield x0 s) := by
  unfold windowYield
  grind (splits := 30) (ematch := 30) (gen := 60) (instances := 20000) [windowOver_keeps, Keeps.mk, foldl_keeps]

theorem txDeadline_keeps {r s : State} (h : Keeps r s) (x0) : Keeps r (txDeadline x0 s) := by
  unfold txDeadline
  grind (splits := 30) (ematch := 30) (gen := 60) (instances := 20000) [State.setLane_keeps, foxLane_keeps, laneResult_keeps, Keeps.mk,
    foldl_keeps]

theorem pollEmitted_keeps {r s : State} (h : Keeps r s) (x0 x1 x2 x3) : Keeps r (pollEmitted x0 x1 x2 x3 s) := by
  unfold pollEmitted
  grind (splits := 30) (ematch := 30) (gen := 60) (instances := 20000) [modifySession_keeps, seqUsed_keeps, setEx_keeps, Keeps.mk,
    foldl_keeps]

/-! ### Lf -/

theorem pairFold_keeps {α β : Type} {r : State} (f : β × State → α → β × State) (hf : ∀ p a, Keeps r p.2 → Keeps r (f p a).2) :
    ∀ (l : List α) {p : β × State}, Keeps r p.2 → Keeps r (l.foldl f p).2
  | [], _, h => h
  | a :: l, p, h => pairFold_keeps f hf l (hf p a h)

theorem askTests_keeps {r s : State} (h : Keeps r s) (x0 x1 x2) : Keeps r (askTests x0 x1 x2 s).2 := by
  unfold askTests
  refine pairFold_keeps _ (fun p b k => ?_) _ h
  split
  · exact k
  · have e := enqueue_keeps k (.bank b) x1 x2 (.coils ((x0.filter p.2.fitted).filter (fun c => bankOf c == b)))
    split <;> (rename_i e2; rw [e2] at e)
    · exact bankUse_keeps e _
    · exact e

theorem bankTake_keeps {r s : State} (h : Keeps r s) (x0 x1) : Keeps r (bankTake x0 x1 s) := by
  unfold bankTake
  grind (splits := 30) (ematch := 30) (gen := 60) (instances := 20000) [State.setQueue_keeps, Keeps.mk, foldl_keeps]

theorem bridgeFault_keeps {r s : State} (h : Keeps r s) (x0 x1 x2) : Keeps r (bridgeFault x0 x1 x2 s) := by
  unfold bridgeFault
  grind (splits := 30) (ematch := 30) (gen := 60) (instances := 20000) [disableChannel_keeps, testStop_keeps, lfEnd_keeps,
    State.put_keeps, Keeps.mk, foldl_keeps]

theorem testStart_keeps {r s : State} (h : Keeps r s) (x0 x1 x2) : Keeps r (testStart x0 x1 x2 s) := by
  unfold testStart
  grind (splits := 30) (ematch := 30) (gen := 60) (instances := 20000) [State.setBit_keeps, bankUse_keeps, State.setBank_keeps, own_keeps,
    Keeps.mk, foldl_keeps]

theorem coilsNext_keeps {r s : State} (h : Keeps r s) (x0 x1 x2) : Keeps r (coilsNext x0 x1 x2 s) := by
  unfold coilsNext
  grind (splits := 30) (ematch := 30) (gen := 60) (instances := 20000) [State.setQueue_keeps, bankTake_keeps, Keeps.mk, foldl_keeps]

theorem coilNext_keeps {r s : State} (h : Keeps r s) (x0 x1) (t : State) (e : coilNext x0 x1 s = some t) : Keeps r t := by
  unfold coilNext at e
  grind (splits := 30) (ematch := 30) (gen := 60) (instances := 20000) [bankUse_keeps, State.put_keeps, testStart_keeps, coilsNext_keeps,
    bankTake_keeps, Keeps.mk, foldl_keeps]

theorem setResonance_keeps {r s : State} (h : Keeps r s) (x0 x1) : Keeps r (setResonance x0 x1 s) := by
  unfold setResonance
  grind (splits := 30) (ematch := 30) (gen := 60) (instances := 20000) [State.setBit_keeps, State.put_keeps, raise_keeps, Keeps.mk,
    foldl_keeps]

theorem fullDone_keeps {r s : State} (h : Keeps r s) (x0 x1) : Keeps r (fullDone x0 x1 s) := by
  unfold fullDone
  grind (splits := 30) (ematch := 30) (gen := 60) (instances := 20000) [State.put_keeps, setResonance_keeps, ipkReport_keeps,
    bridgeFault_keeps, Keeps.mk, foldl_keeps]

theorem retestDone_keeps {r s : State} (h : Keeps r s) (x0 x1) : Keeps r (retestDone x0 x1 s) := by
  unfold retestDone
  grind (splits := 30) (ematch := 30) (gen := 60) (instances := 20000) [State.setBit_keeps, Keeps.mk, foldl_keeps]

theorem testEnd_keeps {r s : State} (h : Keeps r s) (x0) : Keeps r (testEnd x0 s) := by
  unfold testEnd
  grind (splits := 30) (ematch := 30) (gen := 60) (instances := 20000) [fullDone_keeps, retestDone_keeps, testRelease_keeps,
    ipkFree_keeps, Keeps.mk, foldl_keeps]

theorem retestStart_keeps {r s : State} (h : Keeps r s) : Keeps r (retestStart s) := by
  unfold retestStart
  grind (splits := 30) (ematch := 30) (gen := 60) (instances := 20000) [bankUse_keeps, testStart_keeps, Keeps.mk, foldl_keeps]

theorem fieldTick_keeps {r s : State} (h : Keeps r s) : Keeps r (fieldTick s) := by
  unfold fieldTick
  refine repliesTick_keeps ?_
  split
  · split
    · exact testEnd_keeps h _
    · exact h
  · split
    · exact h
    · exact retestStart_keeps h

theorem lfInhibit_keeps {r s : State} (h : Keeps r s) : Keeps r (lfInhibit s) := by
  unfold lfInhibit
  grind (splits := 30) (ematch := 30) (gen := 60) (instances := 20000) [testStop_keeps, State.setBit_keeps, lfEndAll_keeps, Keeps.mk,
    foldl_keeps]

theorem overtemp_keeps {r s : State} (h : Keeps r s) (x0) : Keeps r (overtemp x0 s) := by
  unfold overtemp
  grind (splits := 30) (ematch := 30) (gen := 60) (instances := 20000) [testStop_keeps, lfEnd_keeps, raise_keeps, State.count_keeps,
    Keeps.mk, foldl_keeps]

theorem lfSent_keeps {r s : State} (h : Keeps r s) (x0) : Keeps r (lfSent x0 s) := by
  unfold lfSent
  grind (splits := 30) (ematch := 30) (gen := 60) (instances := 20000) [Keeps.mk, foldl_keeps]

theorem frameEnd_keeps {r s : State} (h : Keeps r s) (x0 x1) : Keeps r (frameEnd x0 x1 s) := by
  have a := foldl_keeps (fun (s : State) (m : DriveMeas) => ipkReport m.ch (x0.req.currentOf m.ch) m.ipk m.full s)
    (fun _ _ k => ipkReport_keeps k _ _ _ _) (x1.filter (fun m => x0.req.owned.contains m.ch)) h
  unfold frameEnd
  dsimp only
  split
  · exact lfEnd_keeps (disableChannel_keeps a _ _) _ _ _
  · split
    · exact a
    · exact lfEnd_keeps a _ _ _

theorem runLane_keeps {r s : State} (h : Keeps r s) (x0) : Keeps r (runLane x0 s) := by
  unfold runLane
  grind (splits := 30) (ematch := 30) (gen := 60) (instances := 20000) [laneTake_keeps, laneMove_keeps, Keeps.mk, foldl_keeps]

theorem pollOpensRun_keeps {r s : State} (h : Keeps r s) (x0 x1) : Keeps r (pollOpensRun x0 x1 s) := by
  unfold pollOpensRun
  grind (splits := 30) (ematch := 30) (gen := 60) (instances := 20000) [runLane_keeps, Keeps.mk, foldl_keeps]

theorem plainLane_keeps {r s : State} (h : Keeps r s) (x0) : Keeps r (plainLane x0 s).2 := by
  unfold plainLane
  grind (splits := 30) (ematch := 30) (gen := 60) (instances := 20000) [laneMove_keeps, Keeps.mk, foldl_keeps]

theorem lfStart_keeps {r s : State} (h : Keeps r s) (x0 x1) : Keeps r (lfStart x0 x1 s) := by
  unfold lfStart
  grind (splits := 30) (ematch := 30) (gen := 60) (instances := 20000) [State.setBit_keeps, bankUse_keeps, pollOpensRun_keeps,
    plainLane_keeps, runLane_keeps, lfSent_keeps, own_keeps, Keeps.mk, foldl_keeps]

/-! ### Coupled -/

theorem ctOver_keeps {r s : State} (h : Keeps r s) (x0) : Keeps r (ctOver x0 s) := by
  unfold ctOver
  grind (splits := 30) (ematch := 30) (gen := 60) (instances := 20000) [ctRelease_keeps, startRelease_keeps, decided_keeps,
    volErase_keeps, Keeps.mk, foldl_keeps]

theorem fieldStop_keeps {r s : State} (h : Keeps r s) (x0) : Keeps r (fieldStop x0 s) := by
  unfold fieldStop
  grind (splits := 30) (ematch := 30) (gen := 60) (instances := 20000) [testStop_keeps, lfEndAll_keeps, ctOver_keeps, Keeps.mk, foldl_keeps]

/-! ### Timers -/

theorem engineTimers_keeps {r s : State} (h : Keeps r s) (x0) : Keeps r (engineTimers x0 s) := by
  unfold engineTimers
  grind (splits := 30) (ematch := 30) (gen := 60) (instances := 20000) [State.wr_keeps, State.put_keeps, Keeps.mk, foldl_keeps]

theorem captureInto_keeps {r s : State} (h : Keeps r s) (x0) : Keeps r (captureInto x0 s) := by
  unfold captureInto
  grind (splits := 30) (ematch := 30) (gen := 60) (instances := 20000) [State.setBit_keeps, State.put_keeps, Keeps.mk, foldl_keeps]

theorem captureEdge_keeps {r s : State} (h : Keeps r s) (x0 x1) : Keeps r (captureEdge x0 x1 s) := by
  unfold captureEdge
  grind (splits := 30) (ematch := 30) (gen := 60) (instances := 20000) [captureInto_keeps, Keeps.mk, foldl_keeps]

theorem timerTick_keeps {r s : State} (h : Keeps r s) (x0) : Keeps r (timerTick x0 s) := by
  unfold timerTick
  grind (splits := 30) (ematch := 30) (gen := 60) (instances := 20000) [State.setBit_keeps, State.put_keeps, Keeps.mk, foldl_keeps]

theorem timersTick_keeps {r s : State} (h : Keeps r s) : Keeps r (timersTick s) := by
  unfold timersTick
  grind (splits := 30) (ematch := 30) (gen := 60) (instances := 20000) [timerTick_keeps, Keeps.mk, foldl_keeps]

theorem timStopWrite_keeps {r s : State} (h : Keeps r s) (x0 x1) : Keeps r (timStopWrite x0 x1 s).2 := by
  unfold timStopWrite
  grind (splits := 30) (ematch := 30) (gen := 60) (instances := 20000) [Keeps.mk, foldl_keeps]

theorem timGoWrite_keeps {r s : State} (h : Keeps r s) (x0 x1) : Keeps r (timGoWrite x0 x1 s).2 := by
  unfold timGoWrite
  grind (splits := 30) (ematch := 30) (gen := 60) (instances := 20000) [Keeps.mk, foldl_keeps]

theorem flagWrite_keeps {r s : State} (h : Keeps r s) (x0 x1) : Keeps r (flagWrite x0 x1 s) := by
  unfold flagWrite
  grind (splits := 30) (ematch := 30) (gen := 60) (instances := 20000) [State.setBit_keeps, State.w1cAll_keeps, Keeps.mk, foldl_keeps]

theorem timRegWrite_keeps {r s : State} (h : Keeps r s) (x0 x1 x2 x3) : Keeps r (timRegWrite x0 x1 x2 x3 s).2 := by
  unfold timRegWrite
  grind (splits := 30) (ematch := 30) (gen := 60) (instances := 20000) [State.wr_keeps, flagWrite_keeps, Keeps.mk, foldl_keeps]

theorem timersRestart_keeps {r s : State} (h : Keeps r s) : Keeps r (timersRestart s) := by
  unfold timersRestart
  grind (splits := 30) (ematch := 30) (gen := 60) (instances := 20000) [State.setBit_keeps, State.wr_keeps, Keeps.mk, foldl_keeps]

/-! ### Chronicle -/

theorem motionFlush_keeps {r s : State} (h : Keeps r s) : Keeps r (motionFlush s) := by
  unfold motionFlush
  grind (splits := 30) (ematch := 30) (gen := 60) (instances := 20000) [ledgerPut_keeps, Keeps.mk, foldl_keeps]

theorem chronStep_keeps {r s : State} (h : Keeps r s) (x0 x1) : Keeps r (chronStep x0 x1 s) := by
  unfold chronStep
  grind (splits := 30) (ematch := 30) (gen := 60) (instances := 20000) [State.setBit_keeps, motionFlush_keeps, State.put_keeps,
    logRec_keeps, Keeps.mk, foldl_keeps]

theorem timeSetStep_keeps {r s : State} (h : Keeps r s) (x0 x1) : Keeps r (timeSetStep x0 x1 s) := by
  unfold timeSetStep
  grind (splits := 30) (ematch := 30) (gen := 60) (instances := 20000) [State.setBit_keeps, State.wr_keeps, chronStep_keeps, Keeps.mk,
    foldl_keeps]

theorem applyTimeSet_keeps {r s : State} (h : Keeps r s) (x0 x1) : Keeps r (applyTimeSet x0 x1 s) := by
  unfold applyTimeSet
  grind (splits := 30) (ematch := 30) (gen := 60) (instances := 20000) [State.setBit_keeps, timeSetStep_keeps, State.wr_keeps, Keeps.mk,
    foldl_keeps]

/-! ### Profile -/

theorem relevel_keeps {r s : State} (h : Keeps r s) : Keeps r (relevel s) := by
  unfold relevel
  grind (splits := 30) (ematch := 30) (gen := 60) (instances := 20000) [State.setBit_keeps, State.put_keeps, Keeps.mk, foldl_keeps]

theorem enterProfile_keeps {r s : State} (h : Keeps r s) (x0) : Keeps r (enterProfile x0 s) := by
  unfold enterProfile
  grind (splits := 30) (ematch := 30) (gen := 60) (instances := 20000) [listenKick_keeps, banksKept_keeps, State.setBit_keeps,
    motionFlush_keeps, askTests_keeps, settSend_keeps, State.put_keeps, relevel_keeps, Keeps.mk, foldl_keeps]

theorem evalProfile_keeps {r s : State} (h : Keeps r s) (x0) : Keeps r (evalProfile x0 s) := by
  unfold evalProfile
  grind (splits := 30) (ematch := 30) (gen := 60) (instances := 20000) [enterProfile_keeps, Keeps.mk, foldl_keeps]

theorem setTrim_keeps {r s : State} (h : Keeps r s) (x0 x1) : Keeps r (setTrim x0 x1 s) := by
  unfold setTrim
  grind (splits := 30) (ematch := 30) (gen := 60) (instances := 20000) [State.put_keeps, Keeps.mk, foldl_keeps]

theorem evalEvent_keeps {r s : State} (h : Keeps r s) : Keeps r (evalEvent s) := by
  unfold evalEvent
  grind (splits := 30) (ematch := 30) (gen := 60) (instances := 20000) [Keeps.mk, foldl_keeps]

theorem eventsEvaluate_keeps {r s : State} (h : Keeps r s) : Keeps r (eventsEvaluate s) := by
  unfold eventsEvaluate
  grind (splits := 30) (ematch := 30) (gen := 60) (instances := 20000) [evalProfile_keeps, Keeps.mk, foldl_keeps]

/-! ### LedgerOps -/

theorem ledgerAccept_keeps {r s : State} (h : Keeps r s) : Keeps r (ledgerAccept s) := by
  unfold ledgerAccept
  grind (splits := 30) (ematch := 30) (gen := 60) (instances := 20000) [State.setBit_keeps, ledgerPut_keeps, Keeps.mk, foldl_keeps]

theorem ledgerHalt_keeps {r s : State} (h : Keeps r s) : Keeps r (ledgerHalt s) := by
  unfold ledgerHalt
  grind (splits := 30) (ematch := 30) (gen := 60) (instances := 20000) [State.setBit_keeps, raise_keeps, Keeps.mk, foldl_keeps]

theorem deviceOut_keeps {r s : State} (h : Keeps r s) (x0 x1) : Keeps r (deviceOut x0 x1 s) := by
  unfold deviceOut
  grind (splits := 30) (ematch := 30) (gen := 60) (instances := 20000) [State.setBit_keeps, ledgerHalt_keeps, raise_keeps, Keeps.mk,
    foldl_keeps]

theorem dayCheck_keeps {r s : State} (h : Keeps r s) : Keeps r (dayCheck s) := by
  unfold dayCheck
  grind (splits := 30) (ematch := 30) (gen := 60) (instances := 20000) [Keeps.mk, foldl_keeps]

theorem sectorProgram_keeps {r s : State} (h : Keeps r s) : Keeps r (sectorProgram s) := by
  unfold sectorProgram
  grind (splits := 30) (ematch := 30) (gen := 60) (instances := 20000) [Keeps.mk, foldl_keeps]

theorem readRec_keeps {r s : State} (h : Keeps r s) (x0) : Keeps r (readRec x0 s).2 := by
  unfold readRec
  grind (splits := 30) (ematch := 30) (gen := 60) (instances := 20000) [enter_keeps, reportFault_keeps, escMismatch_keeps,
    State.count_keeps, Keeps.mk, foldl_keeps]

theorem ledgerClosed_keeps {r s : State} (h : Keeps r s) : Keeps r (ledgerClosed s) := by
  unfold ledgerClosed
  grind (splits := 30) (ematch := 30) (gen := 60) (instances := 20000) [clearQueue_keeps, State.setBit_keeps, State.count_keeps, Keeps.mk,
    foldl_keeps]

theorem putDay_keeps {r s : State} (h : Keeps r s) (x0) : Keeps r (putDay x0 s) := by
  unfold putDay
  grind (splits := 30) (ematch := 30) (gen := 60) (instances := 20000) [Keeps.mk, foldl_keeps]

theorem summaryNote_keeps {r s : State} (h : Keeps r s) (x0) : Keeps r (summaryNote x0 s) := by
  unfold summaryNote
  grind (splits := 30) (ematch := 30) (gen := 60) (instances := 20000) [putDay_keeps, Keeps.mk, foldl_keeps]

theorem sealRec_keeps {r s : State} (h : Keeps r s) (x0 x1) : Keeps r (sealRec x0 x1 s) := by
  unfold sealRec
  grind (splits := 30) (ematch := 30) (gen := 60) (instances := 20000) [State.put_keeps, sectorProgram_keeps, summaryNote_keeps, Keeps.mk,
    foldl_keeps]

theorem truncateOldest_keeps {r s : State} (h : Keeps r s) : Keeps r (truncateOldest s) := by
  unfold truncateOldest
  grind (splits := 30) (ematch := 30) (gen := 60) (instances := 20000) [State.setBit_keeps, State.put_keeps, raise_keeps, logRec_keeps,
    Keeps.mk, foldl_keeps]

theorem sectorClose_keeps {r s : State} (h : Keeps r s) : Keeps r (sectorClose s) := by
  unfold sectorClose
  grind (splits := 30) (ematch := 30) (gen := 60) (instances := 20000) [State.put_keeps, raise_keeps, truncateOldest_keeps, Keeps.mk,
    foldl_keeps]

theorem sectorNext_keeps {r s : State} (h : Keeps r s) (x0) : Keeps r (sectorNext x0 s) := by
  unfold sectorNext
  grind (splits := 30) (ematch := 30) (gen := 60) (instances := 20000) [sectorClose_keeps, Keeps.mk, foldl_keeps]

theorem setDev_keeps {r s : State} (h : Keeps r s) (x0 x1) : Keeps r (setDev x0 x1 s) := by
  unfold setDev
  grind (splits := 30) (ematch := 30) (gen := 60) (instances := 20000) [Keeps.mk, foldl_keeps]

theorem sectorWritten_keeps {r s : State} (h : Keeps r s) (x0) : Keeps r (sectorWritten x0 s) := by
  unfold sectorWritten
  grind (splits := 30) (ematch := 30) (gen := 60) (instances := 20000) [sectorNext_keeps, setDev_keeps, Keeps.mk, foldl_keeps]

theorem programFailed_keeps {r s : State} (h : Keeps r s) (x0) : Keeps r (programFailed x0 s) := by
  unfold programFailed
  grind (splits := 30) (ematch := 30) (gen := 60) (instances := 20000) [sectorNext_keeps, setDev_keeps, raise_keeps, State.count_keeps,
    deviceOut_keeps, Keeps.mk, foldl_keeps]

theorem ledgerFail_keeps {r s : State} (h : Keeps r s) : Keeps r (ledgerFail s) := by
  unfold ledgerFail
  grind (splits := 30) (ematch := 30) (gen := 60) (instances := 20000) [clearQueue_keeps, State.setBit_keeps, sectorProgram_keeps,
    Keeps.mk, foldl_keeps]

theorem sealNext_keeps {r s : State} (h : Keeps r s) : Keeps r (sealNext s) := by
  have a := dayCheck_keeps h
  unfold sealNext
  dsimp only
  repeat' split
  all_goals grind [popQueue_keeps, sealRec_keeps, ledgerHalt_keeps, Keeps.mk]

theorem lossCheck_keeps {r s : State} (h : Keeps r s) : Keeps r (lossCheck s) := by
  unfold lossCheck
  grind (splits := 30) (ematch := 30) (gen := 60) (instances := 20000) [admitCore_keeps, Keeps.mk, foldl_keeps]

theorem summaryRewrite_keeps {r s : State} (h : Keeps r s) : Keeps r (summaryRewrite s) := by
  unfold summaryRewrite
  grind (splits := 30) (ematch := 30) (gen := 60) (instances := 20000) [submitGroup_keeps, signWith_keeps, Keeps.mk, foldl_keeps]

theorem ledgerReopen_keeps {r s : State} (h : Keeps r s) : Keeps r (ledgerReopen s) := by
  unfold ledgerReopen
  grind (splits := 30) (ematch := 30) (gen := 60) (instances := 20000) [State.setBit_keeps, ledgerPut_keeps, Keeps.mk, foldl_keeps]

/-! ### PowerOps -/

theorem laneShut_keeps {r s : State} (h : Keeps r s) (x0 x1) : Keeps r (laneShut x0 s x1) := by
  unfold laneShut
  grind (splits := 30) (ematch := 30) (gen := 60) (instances := 20000) [setOh_keeps, clearQueue_keeps, State.setLane_keeps, laneCut_keeps,
    foxLane_keeps, laneOff_keeps, laneResult_keeps, Keeps.mk, foldl_keeps]

theorem airDrop_keeps {r s : State} (h : Keeps r s) (x0) : Keeps r (airDrop x0 s) := by
  unfold airDrop
  grind (splits := 30) (ematch := 30) (gen := 60) (instances := 20000) [laneShut_keeps, Keeps.mk, foldl_keeps]

theorem waiterEnds_keeps {r s : State} (h : Keeps r s) (x0 x1) : Keeps r (waiterEnds x0 s x1) := by
  unfold waiterEnds
  grind (splits := 30) (ematch := 30) (gen := 60) (instances := 20000) [lfDone_keeps, State.put_keeps, ctRefused_keeps, Keeps.mk,
    foldl_keeps]

theorem bankRefuse_keeps {r s : State} (h : Keeps r s) (x0 x1) : Keeps r (bankRefuse x0 x1 s) := by
  unfold bankRefuse
  grind (splits := 30) (ematch := 30) (gen := 60) (instances := 20000) [waiterEnds_keeps, clearQueue_keeps, Keeps.mk, foldl_keeps]

theorem bankStop_keeps {r s : State} (h : Keeps r s) (x0 x1) : Keeps r (bankStop x0 x1 s) := by
  unfold bankStop
  grind (splits := 30) (ematch := 30) (gen := 60) (instances := 20000) [testStop_keeps, lfEndAll_keeps, Keeps.mk, foldl_keeps]

theorem bankDrop_keeps {r s : State} (h : Keeps r s) (x0) : Keeps r (bankDrop x0 s) := by
  unfold bankDrop
  grind (splits := 30) (ematch := 30) (gen := 60) (instances := 20000) [bankRefuse_keeps, bankStop_keeps, ctOver_keeps, Keeps.mk,
    foldl_keeps]

theorem sessionsDrop_keeps {r s : State} (h : Keeps r s) : Keeps r (sessionsDrop s) := by
  unfold sessionsDrop
  grind (splits := 30) (ematch := 30) (gen := 60) (instances := 20000) [State.setQueue_keeps, volSweep_keeps, Keeps.mk, foldl_keeps]

theorem fieldDrop_keeps {r s : State} (h : Keeps r s) (x0) : Keeps r (fieldDrop x0 s) := by
  unfold fieldDrop
  grind (splits := 30) (ematch := 30) (gen := 60) (instances := 20000) [testStop_keeps, ctRelease_keeps, lfEndAll_keeps, Keeps.mk,
    foldl_keeps]

theorem domainsDrop_keeps {r s : State} (h : Keeps r s) : Keeps r (domainsDrop s) := by
  unfold domainsDrop
  grind (splits := 30) (ematch := 30) (gen := 60) (instances := 20000) [boostCheck_keeps, sessionsDrop_keeps, State.put_keeps,
    fieldDrop_keeps, airDrop_keeps, Keeps.mk, foldl_keeps]

theorem dropCap_keeps {r s : State} (h : Keeps r s) (x0) : Keeps r (dropCap x0 s) := by
  unfold dropCap
  grind (splits := 30) (ematch := 30) (gen := 60) (instances := 20000) [relevel_keeps, Keeps.mk, foldl_keeps]

theorem setCap_keeps {r s : State} (h : Keeps r s) (x0 x1) : Keeps r (setCap x0 x1 s) := by
  unfold setCap
  grind (splits := 30) (ematch := 30) (gen := 60) (instances := 20000) [relevel_keeps, Keeps.mk, foldl_keeps]

theorem shedBits_keeps {r s : State} (h : Keeps r s) : Keeps r (shedBits s) := by
  unfold shedBits
  grind (splits := 30) (ematch := 30) (gen := 60) (instances := 20000) [State.setBit_keeps, State.put_keeps, Keeps.mk, foldl_keeps]

/-! ### Waymarks -/

theorem bSilent_keeps {r s : State} (h : Keeps r s) : Keeps r (bSilent s) := by
  unfold bSilent
  grind (splits := 30) (ematch := 30) (gen := 60) (instances := 20000) [State.setBit_keeps, raise_keeps, Keeps.mk, foldl_keeps]

theorem wmArm_keeps {r s : State} (h : Keeps r s) : Keeps r (wmArm s) := by
  unfold wmArm
  grind (splits := 30) (ematch := 30) (gen := 60) (instances := 20000) [Keeps.mk, foldl_keeps]

theorem latchWake_keeps {r s : State} (h : Keeps r s) (x0) : Keeps r (latchWake x0 s) := by
  unfold latchWake
  grind (splits := 30) (ematch := 30) (gen := 60) (instances := 20000) [ringStir_keeps, Keeps.mk, foldl_keeps]

theorem wmReport_keeps {r s : State} (h : Keeps r s) (x0 x1) : Keeps r (wmReport x0 x1 s) := by
  unfold wmReport
  grind (splits := 30) (ematch := 30) (gen := 60) (instances := 20000) [State.setBit_keeps, State.put_keeps, State.count_keeps, Keeps.mk,
    foldl_keeps]

theorem wmSession_keeps {r s : State} (h : Keeps r s) (x0 x1) : Keeps r (wmSession x0 x1 s) := by
  unfold wmSession
  grind (splits := 30) (ematch := 30) (gen := 60) (instances := 20000) [fireTrigger_keeps, wmReport_keeps, Keeps.mk, foldl_keeps]

theorem wmRecord_keeps {r s : State} (h : Keeps r s) (x0 x1 x2) : Keeps r (wmRecord x0 x1 x2 s) := by
  unfold wmRecord
  grind (splits := 30) (ematch := 30) (gen := 60) (instances := 20000) [raise_keeps, recordRaw_keeps, wmReport_keeps, Keeps.mk, foldl_keeps]

theorem wmAction_keeps {r s : State} (h : Keeps r s) (x0) : Keeps r (wmAction x0 s) := by
  unfold wmAction
  grind (splits := 30) (ematch := 30) (gen := 60) (instances := 20000) [wmSession_keeps, wmRecord_keeps, wmReport_keeps, logRec_keeps,
    Keeps.mk, foldl_keeps]

theorem wmEvaluate_keeps {r s : State} (h : Keeps r s) : Keeps r (wmEvaluate s) := by
  unfold wmEvaluate
  grind (splits := 30) (ematch := 30) (gen := 60) (instances := 20000) [eventsEvaluate_keeps, wmAction_keeps, enterProfile_keeps,
    State.count_keeps, Keeps.mk, foldl_keeps]

theorem wmSpeedChange_keeps {r s : State} (h : Keeps r s) : Keeps r (wmSpeedChange s) := by
  unfold wmSpeedChange
  grind (splits := 30) (ematch := 30) (gen := 60) (instances := 20000) [wmEvaluate_keeps, Keeps.mk, foldl_keeps]

theorem motionWake_keeps {r s : State} (h : Keeps r s) : Keeps r (motionWake s) := by
  unfold motionWake
  grind (splits := 30) (ematch := 30) (gen := 60) (instances := 20000) [latchWake_keeps, Keeps.mk, foldl_keeps]

theorem speedEdge_keeps {r s : State} (h : Keeps r s) (x0) : Keeps r (speedEdge x0 s) := by
  unfold speedEdge
  grind (splits := 30) (ematch := 30) (gen := 60) (instances := 20000) [State.setBit_keeps, State.put_keeps, Keeps.mk, foldl_keeps]

theorem movingCheck_keeps {r s : State} (h : Keeps r s) : Keeps r (movingCheck s) := by
  unfold movingCheck
  grind (splits := 30) (ematch := 30) (gen := 60) (instances := 20000) [evalEvent_keeps, State.setBit_keeps, Keeps.mk, foldl_keeps]

theorem qualifiedEdge_keeps {r s : State} (h : Keeps r s) : Keeps r (qualifiedEdge s) := by
  unfold qualifiedEdge
  grind (splits := 30) (ematch := 30) (gen := 60) (instances := 20000) [bSilent_keeps, motionWake_keeps, captureInto_keeps,
    wmSpeedChange_keeps, speedEdge_keeps, captureEdge_keeps, movingCheck_keeps, State.count_keeps, Keeps.mk, foldl_keeps]

theorem glitch_keeps {r s : State} (h : Keeps r s) : Keeps r (glitch s) := by
  unfold glitch
  grind (splits := 30) (ematch := 30) (gen := 60) (instances := 20000) [raise_keeps, State.count_keeps, Keeps.mk, foldl_keeps]

theorem wmIgnitionOn_keeps {r s : State} (h : Keeps r s) : Keeps r (wmIgnitionOn s) := by
  unfold wmIgnitionOn
  grind (splits := 30) (ematch := 30) (gen := 60) (instances := 20000) [Keeps.mk, foldl_keeps]

end Sys2Proof.Machine
end

