-- ==== Sys2Proof/Laws/KeepsD.lean ====
section
/-! SUPPORT. What the operations of Touch, Tag, Hedgehog, Restart, Power, Ring, Den, Crypto, Entropy keep. -/

namespace Sys2Proof.Machine

/-! ### Touch -/

theorem State.setSw_keeps {r s : State} (h : Keeps r s) (x0 x1) : Keeps r (State.setSw s x0 x1) := by
  unfold State.setSw
  grind (splits := 30) (ematch := 30) (gen := 60) (instances := 20000) [Keeps.mk, foldl_keeps]

theorem bindInputs_keeps {r s : State} (h : Keeps r s) (x0 x1) : Keeps r (bindInputs x0 x1 s) := by
  unfold bindInputs
  grind (splits := 30) (ematch := 30) (gen := 60) (instances := 20000) [Keeps.mk, foldl_keeps]

theorem fireCode_keeps {r s : State} (h : Keeps r s) (x0) : Keeps r (fireCode x0 s) := by
  unfold fireCode
  grind (splits := 30) (ematch := 30) (gen := 60) (instances := 20000) [satEvent_keeps, fireTrigger_keeps, Keeps.mk, foldl_keeps]

theorem fireHeld_keeps {r s : State} (h : Keeps r s) : Keeps r (fireHeld s) := by
  unfold fireHeld
  grind (splits := 30) (ematch := 30) (gen := 60) (instances := 20000) [fireCode_keeps, Keeps.mk, foldl_keeps]

theorem tswWrite_keeps {r s : State} (h : Keeps r s) (x0 x1 x2) : Keeps r (tswWrite x0 x1 x2 s).2 := by
  unfold tswWrite
  grind (splits := 30) (ematch := 30) (gen := 60) (instances := 20000) [State.wr_keeps, State.put_keeps, Keeps.mk, foldl_keeps]

theorem inputFires_keeps {r s : State} (h : Keeps r s) (x0 x1) : Keeps r (inputFires x0 x1 s) := by
  unfold inputFires
  grind (splits := 30) (ematch := 30) (gen := 60) (instances := 20000) [latchWake_keeps, fireCode_keeps, Keeps.mk, foldl_keeps]

/-! ### Tag -/

theorem tagSay_keeps {r s : State} (h : Keeps r s) (x0) : Keeps r (tagSay x0 s) := by
  unfold tagSay
  grind (splits := 30) (ematch := 30) (gen := 60) (instances := 20000) [Keeps.mk, foldl_keeps]

theorem tagReply_keeps {r s : State} (h : Keeps r s) (x0 x1 x2) : Keeps r (tagReply x0 x1 x2 s) := by
  unfold tagReply
  grind (splits := 30) (ematch := 30) (gen := 60) (instances := 20000) [tagSay_keeps, Keeps.mk, foldl_keeps]

theorem authFailed_keeps {r s : State} (h : Keeps r s) : Keeps r (authFailed s) := by
  unfold authFailed
  grind (splits := 30) (ematch := 30) (gen := 60) (instances := 20000) [State.setBit_keeps, State.count_keeps, Keeps.mk, foldl_keeps]

theorem leafDrop_keeps {r s : State} (h : Keeps r s) (x0) : Keeps r (leafDrop x0 s) := by
  unfold leafDrop
  grind (splits := 30) (ematch := 30) (gen := 60) (instances := 20000) [Keeps.mk, foldl_keeps]

theorem authEnd_keeps {r s : State} (h : Keeps r s) : Keeps r (authEnd s) := by
  unfold authEnd
  grind (splits := 30) (ematch := 30) (gen := 60) (instances := 20000) [leafDrop_keeps, Keeps.mk, foldl_keeps]

theorem apduOpen_keeps {r s : State} (h : Keeps r s) (x0 x1 x2) :
    (∀ t, apduOpen x0 x1 x2 s = .refused t → Keeps r t) ∧ ∀ d c t, apduOpen x0 x1 x2 s = .go d c t → Keeps r t := by
  have a : ∀ x, Keeps r { s with tag := { s.tag with ctr := x } } := fun x => Keeps.same h rfl rfl rfl rfl rfl rfl rfl
  have b := fun x y z => tagReply_keeps h x y z
  have c := fun x y z => tagReply_keeps (authFailed_keeps (authEnd_keeps h)) x y z
  unfold apduOpen
  constructor
  · intro t e
    dsimp only at e
    repeat' split at e
    all_goals (first | (cases e; first | exact b _ _ _ | exact c _ _ _) | cases e)
  · intro d k t e
    dsimp only at e
    repeat' split at e
    all_goals (first | (cases e; first | exact h | exact a _) | cases e)

theorem apduRun_keeps {r s : State} (h : Keeps r s) (x0 x1 x2) {f : Bytes → Option Nat → State → State} (hf : ∀ a b t, Keeps r t → Keeps r
    (f a b t)) :
    Keeps r (apduRun x0 x1 x2 f s) := by
  have a := apduOpen_keeps h x0 x1 x2
  unfold apduRun
  split
  · exact h
  · split
    · rename_i e; exact a.1 _ e
    · rename_i e; exact hf _ _ _ (enter_keeps (a.2 _ _ _ e) _ _)

theorem tagNotNow_keeps {r s : State} (h : Keeps r s) (x0) : Keeps r (tagNotNow x0 s) := by
  unfold tagNotNow
  grind (splits := 30) (ematch := 30) (gen := 60) (instances := 20000) [State.setBit_keeps, tagReply_keeps, State.count_keeps, Keeps.mk,
    foldl_keeps]

theorem leafSwap_keeps {r s : State} (h : Keeps r s) (x0) : Keeps r (leafSwap x0 s) :=
  Keeps.mems h _ _ _ _ _ id id id id (memFold_wf _ _ _)

theorem commitOk_keeps {r s : State} (h : Keeps r s) (x0) : Keeps r (commitOk x0 s) := by
  unfold commitOk
  grind (splits := 30) (ematch := 30) (gen := 60) (instances := 20000) [leafDrop_keeps, State.setBit_keeps, latchWake_keeps,
    tagReply_keeps, leafSwap_keeps, Keeps.mk, foldl_keeps]

theorem commitEnded_keeps {r s : State} (h : Keeps r s) (x0) : Keeps r (commitEnded x0 s) := by
  unfold commitEnded
  grind (splits := 30) (ematch := 30) (gen := 60) (instances := 20000) [leafDrop_keeps, tagReply_keeps, tagNotNow_keeps, commitOk_keeps,
    Keeps.mk, foldl_keeps]

theorem leafWrite_keeps {r s : State} (h : Keeps r s) (x0 x1 x2 x3) : Keeps r (leafWrite x0 x1 x2 x3 s) := by
  unfold leafWrite
  grind (splits := 30) (ematch := 30) (gen := 60) (instances := 20000) [Keeps.mk, foldl_keeps]

theorem lockKick_keeps {r s : State} (h : Keeps r s) : Keeps r (lockKick s) := by
  unfold lockKick
  grind (splits := 30) (ematch := 30) (gen := 60) (instances := 20000) [tagReply_keeps, leafWrite_keeps, Keeps.mk, foldl_keeps]

theorem wiredOp_keeps {r s : State} (h : Keeps r s) (x0 x1 x2) : Keeps r (wiredOp x0 x1 x2 s) := by
  unfold wiredOp
  grind (splits := 30) (ematch := 30) (gen := 60) (instances := 20000) [leafDrop_keeps, lockKick_keeps, State.put_keeps, leafSwap_keeps,
    Keeps.mk, foldl_keeps]

theorem tagWrite_keeps {r s : State} (h : Keeps r s) (x0 x1 x2) : Keeps r (tagWrite x0 x1 x2 s).2 := by
  unfold tagWrite
  grind (splits := 30) (ematch := 30) (gen := 60) (instances := 20000) [wiredOp_keeps, State.w1cAll_keeps, State.wr_keeps,
    State.put_keeps, Keeps.mk, foldl_keeps]

theorem tagAccess_keeps {r s : State} (h : Keeps r s) (x0) : Keeps r (tagAccess x0 s) := by
  unfold tagAccess
  grind (splits := 30) (ematch := 30) (gen := 60) (instances := 20000) [Keeps.mk, foldl_keeps]

theorem tagMemPut_keeps {r s : State} (h : Keeps r s) (x0 x1 x2) : Keeps r (tagMemPut x0 x1 x2 s).2 := by
  unfold tagMemPut
  grind (splits := 30) (ematch := 30) (gen := 60) (instances := 20000) [tagAccess_keeps, leafWrite_keeps, Keeps.mk, foldl_keeps]

theorem tagUnpowered_keeps {r s : State} (h : Keeps r s) : Keeps r (tagUnpowered s) := by
  unfold tagUnpowered
  split
  · exact h
  · exact State.setDom_keeps (Keeps.mems h _ _ _ _ _ id id id id (fun _ => Memory.wf_nil)) _ _

theorem sendWtx_keeps {r s : State} (h : Keeps r s) (x0) : Keeps r (sendWtx x0 s) := by
  unfold sendWtx
  grind (splits := 30) (ematch := 30) (gen := 60) (instances := 20000) [tagSay_keeps, Keeps.mk, foldl_keeps]

theorem tagHalt_keeps {r s : State} (h : Keeps r s) : Keeps r (tagHalt s) := by
  unfold tagHalt
  grind (splits := 30) (ematch := 30) (gen := 60) (instances := 20000) [authEnd_keeps, Keeps.mk, foldl_keeps]

theorem tagMute_keeps {r s : State} (h : Keeps r s) : Keeps r (tagMute s) := by
  unfold tagMute
  grind (splits := 30) (ematch := 30) (gen := 60) (instances := 20000) [tagSay_keeps, Keeps.mk, foldl_keeps]

theorem tagFall_keeps {r s : State} (h : Keeps r s) : Keeps r (tagFall s) := by
  unfold tagFall
  grind (splits := 30) (ematch := 30) (gen := 60) (instances := 20000) [authEnd_keeps, Keeps.mk, foldl_keeps]

theorem tagBusy_keeps {r s : State} (h : Keeps r s) (x0) : Keeps r (tagBusy x0 s) := by
  unfold tagBusy
  grind (splits := 30) (ematch := 30) (gen := 60) (instances := 20000) [tagReply_keeps, State.count_keeps, Keeps.mk, foldl_keeps]

theorem wiredUndone_keeps {r s : State} (h : Keeps r s) (x0) : Keeps r (wiredUndone x0 s) := by
  unfold wiredUndone
  grind (splits := 30) (ematch := 30) (gen := 60) (instances := 20000) [leafDrop_keeps, answerTo_keeps, Keeps.mk, foldl_keeps]

theorem tagAbandon_keeps {r s : State} (h : Keeps r s) : Keeps r (tagAbandon s) := by
  unfold tagAbandon
  grind (splits := 30) (ematch := 30) (gen := 60) (instances := 20000) [State.setQueue_keeps, commitEnded_keeps, Keeps.mk, foldl_keeps]

theorem pathOver_keeps {r s : State} (h : Keeps r s) (x0) : Keeps r (pathOver x0 s) := by
  unfold pathOver
  grind (splits := 30) (ematch := 30) (gen := 60) (instances := 20000) [commitEnded_keeps, rmcKick_keeps, tagUnpowered_keeps,
    tallyStart_keeps, Keeps.mk, foldl_keeps]

theorem tagReady_keeps {r s : State} (h : Keeps r s) (x0) : Keeps r (tagReady x0 s) := by
  unfold tagReady
  grind (splits := 30) (ematch := 30) (gen := 60) (instances := 20000) [tagSay_keeps, Keeps.mk, foldl_keeps]

/-! ### Hedgehog -/

theorem blockClear_keeps {r s : State} (h : Keeps r s) (x0) : Keeps r (blockClear x0 s) := by
  have a := Keeps.mems h s.sram s.nv { s.den with pair := none, nonce := none, buf := [], legacy := [], wait := none, claimed := false }
    s.cry s.tag
    id id (fun _ => Memory.wf_nil) id id
  have b := Keeps.mems h s.sram s.nv s.den { s.cry with buf := [], symBusy := none, symHeld := [], wait := none, claimed := false } s.tag
    id id id (fun _ => Memory.wf_nil) id
  cases x0 <;> simp only [blockClear]
  all_goals grind [setOh_keeps, laneShut_keeps, foxLane_keeps, sessionsDrop_keeps, lfEndAll_keeps, ctOver_keeps, windowEmpty_keeps,
    fieldStop_keeps,
    State.put_keeps, Keeps.mk]

theorem outageEnd_keeps {r s : State} (h : Keeps r s) : Keeps r (outageEnd s) := by
  unfold outageEnd
  grind (splits := 30) (ematch := 30) (gen := 60) (instances := 20000) [State.count_keeps, Keeps.mk, foldl_keeps]

theorem pmonRegs_keeps {r s : State} (h : Keeps r s) (x0) : Keeps r (pmonRegs x0 s) := by
  unfold pmonRegs
  grind (splits := 30) (ematch := 30) (gen := 60) (instances := 20000) [State.put_keeps, Keeps.mk, foldl_keeps]

theorem marginLow_keeps {r s : State} (h : Keeps r s) : Keeps r (marginLow s) := by
  unfold marginLow
  grind (splits := 30) (ematch := 30) (gen := 60) (instances := 20000) [raise_keeps, setCap_keeps, Keeps.mk, foldl_keeps]

theorem stepTaken_keeps {r s : State} (h : Keeps r s) (x0 x1) : Keeps r (stepTaken x0 x1 s) := by
  unfold stepTaken
  grind (splits := 30) (ematch := 30) (gen := 60) (instances := 20000) [domainsDrop_keeps, sessionEnd_keeps, tagAbandon_keeps,
    bankDrop_keeps, airDrop_keeps, setCap_keeps, tagUnpowered_keeps, Keeps.mk, foldl_keeps]

theorem stepRow_keeps {r s : State} (h : Keeps r s) (x0 x1 x2) : Keeps r (stepRow x0 x1 s x2) := by
  have a : ∀ x, Keeps r { s with hh := { s.hh with steps := x } } := fun x => Keeps.same h rfl rfl rfl rfl rfl rfl rfl
  unfold stepRow
  dsimp only
  repeat' split
  all_goals first
    | exact h
    | exact a _
    | exact State.setBit_keeps (a _) _ _
    | exact stepTaken_keeps (shedBits_keeps (raise_keeps (a _) _ _)) _ _
    | exact listenKick_keeps (dropCap_keeps (shedBits_keeps (a _)) _)
    | exact listenKick_keeps (shedBits_keeps (a _))

theorem tempRegs_keeps {r s : State} (h : Keeps r s) (x0 x1) : Keeps r (tempRegs x0 x1 s) := by
  unfold tempRegs
  grind (splits := 30) (ematch := 30) (gen := 60) (instances := 20000) [State.setBit_keeps, State.put_keeps, Keeps.mk, foldl_keeps]

theorem haltRelease_keeps {r s : State} (h : Keeps r s) (x0 x1 x2) : Keeps r (haltRelease x0 x1 x2 s) := by
  unfold haltRelease
  grind (splits := 30) (ematch := 30) (gen := 60) (instances := 20000) [Keeps.mk, foldl_keeps]

theorem trialBegin_keeps {r s : State} (h : Keeps r s) (x0) : Keeps r (trialBegin x0 s) := by
  unfold trialBegin
  grind (splits := 30) (ematch := 30) (gen := 60) (instances := 20000) [State.setBit_keeps, State.put_keeps, Keeps.mk, foldl_keeps]

theorem trialEnd_keeps {r s : State} (h : Keeps r s) (x0 x1) : Keeps r (trialEnd x0 x1 s) := by
  unfold trialEnd
  grind (splits := 30) (ematch := 30) (gen := 60) (instances := 20000) [pmonRegs_keeps, State.setBit_keeps, dropCap_keeps,
    State.put_keeps, runLevel_keeps, setCap_keeps, Keeps.mk, foldl_keeps]

theorem railCore_keeps {r s : State} (h : Keeps r s) (x0) : Keeps r (railCore x0 s) := by
  unfold railCore
  grind (splits := 30) (ematch := 30) (gen := 60) (instances := 20000) [raiseAs_keeps, setCap_keeps, Keeps.mk, foldl_keeps]

/-! ### Restart -/

theorem wakeFlags_keeps {r s : State} (h : Keeps r s) (x0) : Keeps r (wakeFlags x0 s) := by
  unfold wakeFlags
  grind (splits := 30) (ematch := 30) (gen := 60) (instances := 20000) [State.setBit_keeps, Keeps.mk, foldl_keeps]

theorem tallyCut_keeps {r s : State} (h : Keeps r s) : Keeps r (tallyCut s) := by
  unfold tallyCut
  grind (splits := 30) (ematch := 30) (gen := 60) (instances := 20000) [State.setTally_keeps, Keeps.mk, foldl_keeps]

theorem regsKept_wf (old : List (Nat × Word)) : regsWf (regsKept old) = true := regFold_wf _ (by decide +kernel)

theorem restartOnly_keeps {r s : State} (h : Keeps r s) (x0) : Keeps r (restartOnly x0 s) := by
  have a := tallyCut_keeps h
  unfold restartOnly
  generalize tallyCut s = u at a
  dsimp only
  refine runLevel_keeps (State.put_keeps (State.setBit_keeps (timersRestart_keeps (State.setBit_keeps ?_ _ _)) _ _) _ _) _
  exact Keeps.parts a rfl (fun _ => regsKept_wf _) (fun _ => Memory.wf_nil) id (fun _ => Memory.wf_nil) (fun _ => Memory.wf_nil) id

theorem porReset_keeps {r s : State} (h : Keeps r s) : Keeps r (porReset s) := by
  have a := tallyCut_keeps h
  unfold porReset
  generalize tallyCut s = u at a
  dsimp only
  refine foldl_keeps _ (fun _ _ k => State.setBit_keeps k _ _) _ ?_
  exact Keeps.parts a rfl (fun _ => show regsWf regsReset = true by decide +kernel) (fun _ => Memory.wf_nil) id (fun _ => Memory.wf_nil)
    (fun _ => Memory.wf_nil) id

theorem hedgeReset_keeps {r s : State} (h : Keeps r s) (x0) : Keeps r (hedgeReset x0 s) := by
  unfold hedgeReset
  grind (splits := 30) (ematch := 30) (gen := 60) (instances := 20000) [restartOnly_keeps, State.count_keeps, Keeps.mk, foldl_keeps]

theorem hedgeStore_keeps {r s : State} (h : Keeps r s) (x0) : Keeps r (hedgeStore x0 s) := by
  unfold hedgeStore
  grind (splits := 30) (ematch := 30) (gen := 60) (instances := 20000) [State.put_keeps, Keeps.mk, foldl_keeps]

/-! ### Power -/

theorem domainLost_keeps {r s : State} (h : Keeps r s) (x0) : Keeps r (domainLost x0 s) := by
  unfold domainLost
  grind (splits := 30) (ematch := 30) (gen := 60) (instances := 20000) [bankRefuse_keeps, laneShut_keeps, bankStop_keeps, airDrop_keeps,
    Keeps.mk, foldl_keeps]

theorem vsysReset_keeps {r s : State} (h : Keeps r s) : Keeps r (vsysReset s) := by
  unfold vsysReset
  grind (splits := 30) (ematch := 30) (gen := 60) (instances := 20000) [State.setBit_keeps, restartOnly_keeps, Keeps.mk, foldl_keeps]

/-! ### Ring -/

theorem soleEnd_keeps {r s : State} (h : Keeps r s) : Keeps r (soleEnd s) := by
  have a : ∀ x, Keeps r { s with ring := x } := fun x => Keeps.same h rfl rfl rfl rfl rfl rfl rfl
  unfold soleEnd
  split
  · dsimp only
    split
    · exact logRec_keeps (State.count_keeps (State.put_keeps (a _) _ _) _ _) _ _
    · exact State.put_keeps (a _) _ _
  · exact h

theorem overruleEnd_keeps {r s : State} (h : Keeps r s) : Keeps r (overruleEnd s) := by
  unfold overruleEnd
  grind (splits := 30) (ematch := 30) (gen := 60) (instances := 20000) [soleEnd_keeps, State.put_keeps, Keeps.mk, foldl_keeps]

theorem ringSay_keeps {r s : State} (h : Keeps r s) (x0 x1) : Keeps r (ringSay x0 x1 s) := by
  unfold ringSay
  grind (splits := 30) (ematch := 30) (gen := 60) (instances := 20000) [canSend_keeps, overruleEnd_keeps, Keeps.mk, foldl_keeps]

theorem ringRestart_keeps {r s : State} (h : Keeps r s) : Keeps r (ringRestart s) := by
  unfold ringRestart
  grind (splits := 30) (ematch := 30) (gen := 60) (instances := 20000) [State.setBit_keeps, State.wr_keeps, ringSay_keeps, Keeps.mk,
    foldl_keeps]

theorem roundEnd_keeps {r s : State} (h : Keeps r s) : Keeps r (roundEnd s) := by
  unfold roundEnd
  grind (splits := 30) (ematch := 30) (gen := 60) (instances := 20000) [State.setBit_keeps, Keeps.mk, foldl_keeps]

theorem ringNotReady_keeps {r s : State} (h : Keeps r s) (x0 x1) : Keeps r (ringNotReady x0 x1 s) := by
  unfold ringNotReady
  grind (splits := 30) (ematch := 30) (gen := 60) (instances := 20000) [roundEnd_keeps, ringSay_keeps, Keeps.mk, foldl_keeps]

theorem ringStirred_keeps {r s : State} (h : Keeps r s) : Keeps r (ringStirred s) := by
  unfold ringStirred
  grind (splits := 30) (ematch := 30) (gen := 60) (instances := 20000) [ringNotReady_keeps, Keeps.mk, foldl_keeps]

theorem soleCheck_keeps {r s : State} (h : Keeps r s) (x0 x1) : Keeps r (soleCheck x0 x1 s) := by
  unfold soleCheck
  grind (splits := 30) (ematch := 30) (gen := 60) (instances := 20000) [soleEnd_keeps, State.put_keeps, Keeps.mk, foldl_keeps]

/-! ### Den -/

theorem attest_keeps {r s : State} (h : Keeps r s) (x0 x1) : Keeps r (attest x0 x1 s).2 := by
  unfold attest
  grind (splits := 30) (ematch := 30) (gen := 60) (instances := 20000) [signWith_keeps, Keeps.mk, foldl_keeps]

theorem rawLeave_keeps {r s : State} (h : Keeps r s) : Keeps r (rawLeave s) := by
  unfold rawLeave
  grind (splits := 30) (ematch := 30) (gen := 60) (instances := 20000) [State.setBit_keeps, Keeps.mk, foldl_keeps]

theorem lcEnter_keeps {r s : State} (h : Keeps r s) (x0 x1) : Keeps r (lcEnter x0 x1 s) := by
  unfold lcEnter
  grind (splits := 30) (ematch := 30) (gen := 60) (instances := 20000) [evalEvent_keeps, rawLeave_keeps, State.put_keeps, logRec_keeps,
    Keeps.mk, foldl_keeps]

theorem drawKey_keeps {r s : State} (h : Keeps r s) (x0) : Keeps r (drawKey x0 s).2 := by
  unfold drawKey
  grind (splits := 30) (ematch := 30) (gen := 60) (instances := 20000) [drawScalar_keeps, randBytes_keeps, Keeps.mk, foldl_keeps]

theorem denGenerate_keeps {r s : State} (h : Keeps r s) (x0) : Keeps r (denGenerate x0 s) := by
  unfold denGenerate
  grind (splits := 30) (ematch := 30) (gen := 60) (instances := 20000) [denWait_keeps, drawKey_keeps, denCommit_keeps, denDone_keeps,
    Keeps.mk, foldl_keeps]

theorem denNonce_keeps {r s : State} (h : Keeps r s) (x0) : Keeps r (denNonce x0 s) := by
  unfold denNonce
  grind (splits := 30) (ematch := 30) (gen := 60) (instances := 20000) [denWait_keeps, randBytes_keeps, denDone_keeps, Keeps.mk,
    foldl_keeps]

theorem denPublic_keeps {r s : State} (h : Keeps r s) (x0) : Keeps r (denPublic x0 s) := by
  unfold denPublic
  grind (splits := 30) (ematch := 30) (gen := 60) (instances := 20000) [slotSweep_keeps, denDone_keeps, Keeps.mk, foldl_keeps]

theorem denExport_keeps {r s : State} (h : Keeps r s) (x0) : Keeps r (denExport x0 s) := by
  have a := fun z => keyCheck_keeps h x0.slot [] none 0 x0.master z
  unfold denExport
  split
  · rename_i t e; exact denDone_keeps (by have := a (s.world x0.master); rw [e] at this; exact this) _ _
  · rename_i t e
    have b : Keeps r t := by have := a (s.world x0.master); rw [e] at this; exact this
    have c := drawScalar_keeps b true
    dsimp only
    split
    · exact denDone_keeps (State.count_keeps b _ _) _ _
    · split
      · rename_i e u e2
        rw [e2] at c
        split
        · exact denDone_keeps c _ _
        · exact denDone_keeps c _ _
      · rename_i d u _ e2; rw [e2] at c; exact denWait_keeps c _ _

theorem denAttest_keeps {r s : State} (h : Keeps r s) (x0) : Keeps r (denAttest x0 s) := by
  unfold denAttest
  grind (splits := 30) (ematch := 30) (gen := 60) (instances := 20000) [attest_keeps, denWait_keeps, keyCheck_keeps, slotSweep_keeps,
    denDone_keeps, Keeps.mk, foldl_keeps]

theorem denImportOpen_keeps {r s : State} (h : Keeps r s) (x0) : Keeps r (denImportOpen x0 s) := by
  unfold denImportOpen
  grind (splits := 30) (ematch := 30) (gen := 60) (instances := 20000) [denWait_keeps, drawScalar_keeps, keyCheck_keeps, randBytes_keeps,
    signWith_keeps, denDone_keeps, Keeps.mk, foldl_keeps]

theorem denImport_keeps {r s : State} (h : Keeps r s) (x0) : Keeps r (denImport x0 s) := by
  unfold denImport
  grind (splits := 30) (ematch := 30) (gen := 60) (instances := 20000) [freeBytes_keeps, denCommit_keeps, denDone_keeps, Keeps.mk,
    foldl_keeps]

theorem denErase_keeps {r s : State} (h : Keeps r s) (x0) : Keeps r (denErase x0 s) := by
  unfold denErase
  grind (splits := 30) (ematch := 30) (gen := 60) (instances := 20000) [denCommit_keeps, denDone_keeps, Keeps.mk, foldl_keeps]

theorem ite_keeps {α : Type} {r : State} {c : Prop} [Decidable c] {a b : α × State} (ha : Keeps r a.2) (hb : Keeps r b.2) :
    Keeps r (if c then a else b).2 := by
  split
  · exact ha
  · exact hb

theorem lcAuth_keeps {r s : State} (h : Keeps r s) (x0) : Keeps r (lcAuth x0 s).2 := by
  have a : ∀ x, Keeps r { s with den := { s.den with nonce := x } } := fun x => Keeps.same h rfl rfl rfl rfl rfl rfl rfl
  unfold lcAuth
  cases s.img.run with
  | none => exact h
  | some i =>
    cases s.den.nonce with
    | none => exact h
    | some n =>
    dsimp only
    generalize s.after n.2 60000000 = z
    cases z
    rotate_left
    · exact a _
    · rw [if_neg (by simp)]
      have b := keyCheck_keeps (a none) 4 [5] (some 12) 6 .session .internal
      split
      · rename_i e; rw [e] at b; exact b
      · rename_i e; rw [e] at b; exact ite_keeps b b

theorem retireNext_keeps {r s : State} (h : Keeps r s) : Keeps r (retireNext s) := by
  unfold retireNext
  grind (splits := 30) (ematch := 30) (gen := 60) (instances := 20000) [submitGroup_keeps, denDone_keeps, Keeps.mk, foldl_keeps]

theorem denLcSet_keeps {r s : State} (h : Keeps r s) (x0) : Keeps r (denLcSet x0 s) := by
  unfold denLcSet
  grind (splits := 30) (ematch := 30) (gen := 60) (instances := 20000) [lcAuth_keeps, retireNext_keeps, lcEnter_keeps, denDone_keeps,
    submitTally_keeps, Keeps.mk, foldl_keeps]

theorem denRun_keeps {r s : State} (h : Keeps r s) (x0) : Keeps r (denRun x0 s) := by
  unfold denRun
  grind (splits := 30) (ematch := 30) (gen := 60) (instances := 20000) [denGenerate_keeps, denNonce_keeps, denPublic_keeps,
    denExport_keeps, denAttest_keeps, denDone_keeps, denImportOpen_keeps, denImport_keeps, denErase_keeps, denLcSet_keeps, Keeps.mk,
    foldl_keeps]

theorem denAccepted_keeps {r s : State} (h : Keeps r s) (x0 x1 x2) : Keeps r (denAccepted x0 x1 x2 s) := by
  unfold denAccepted
  grind (splits := 30) (ematch := 30) (gen := 60) (instances := 20000) [State.setBit_keeps, denClaim_keeps, State.put_keeps, Keeps.mk,
    foldl_keeps]

theorem vltCmdWrite_keeps {r s : State} (h : Keeps r s) (x0 x1) : Keeps r (vltCmdWrite x0 x1 s).2 := by
  unfold vltCmdWrite
  grind (splits := 30) (ematch := 30) (gen := 60) (instances := 20000) [denRun_keeps, enqueue_keeps, State.put_keeps, denAccepted_keeps,
    Keeps.mk, foldl_keeps]

theorem vltWrite_keeps {r s : State} (h : Keeps r s) (x0 x1 x2) : Keeps r (vltWrite x0 x1 x2 s).2 := by
  unfold vltWrite
  grind (splits := 30) (ematch := 30) (gen := 60) (instances := 20000) [State.w1c_keeps, vltCmdWrite_keeps, State.put_keeps, Keeps.mk,
    foldl_keeps]

theorem legacyWrite_keeps {r s : State} (h : Keeps r s) (x0 x1 x2) : Keeps r (legacyWrite x0 x1 x2 s).2 := by
  unfold legacyWrite
  grind (splits := 30) (ematch := 30) (gen := 60) (instances := 20000) [State.setBit_keeps, denCommit_keeps, denDone_keeps, Keeps.mk,
    foldl_keeps]

theorem denRetry_keeps {r s : State} (h : Keeps r s) : Keeps r (denRetry s) := by
  unfold denRetry
  grind (splits := 30) (ematch := 30) (gen := 60) (instances := 20000) [denRun_keeps, Keeps.mk, foldl_keeps]

/-! ### Crypto -/

theorem cryDone_keeps {r s : State} (h : Keeps r s) (x0 x1) : Keeps r (cryDone x0 x1 s) := by
  unfold cryDone
  refine irq_keeps (State.setBit_keeps (State.put_keeps (State.put_keeps (State.setBit_keeps (State.setBit_keeps ?_ _ _) _ _) _ _) _ _) _
    _) _
  exact Keeps.parts h rfl id id id id (memSetN_wf _ _) id

theorem cryClaim_keeps {r s : State} (h : Keeps r s) (x0) : Keeps r (cryClaim x0 s) :=
  State.put_keeps (Keeps.mems h _ _ _ _ _ id id id (by intro h; dsimp only; split; exacts [h, Memory.wf_nil]) id) _ _

theorem cryCmdFields_keeps {r s : State} (h : Keeps r s) (x0) : Keeps r (cryCmdFields x0 s) := by
  unfold cryCmdFields
  grind (splits := 30) (ematch := 30) (gen := 60) (instances := 20000) [State.put_keeps, Keeps.mk, foldl_keeps]

theorem cryAccepted_keeps {r s : State} (h : Keeps r s) (x0 x1) : Keeps r (cryAccepted x0 x1 s) := by
  unfold cryAccepted
  grind (splits := 30) (ematch := 30) (gen := 60) (instances := 20000) [State.setBit_keeps, cryClaim_keeps, cryCmdFields_keeps, Keeps.mk,
    foldl_keeps]

theorem cryKey_keeps {r s : State} (h : Keeps r s) (x0 x1 x2) : Keeps r (cryKey x0 x1 x2 s).2 := by
  unfold cryKey
  grind (splits := 30) (ematch := 30) (gen := 60) (instances := 20000) [keyCheck_keeps, Keeps.mk, foldl_keeps]

theorem cryCommit_keeps {r s : State} (h : Keeps r s) (x0 x1) : Keeps r (cryCommit x0 x1 s) := by
  unfold cryCommit
  grind (splits := 30) (ematch := 30) (gen := 60) (instances := 20000) [submitGroup_keeps, cryDone_keeps, Keeps.mk, foldl_keeps]

theorem cryAgree_keeps {r s : State} (h : Keeps r s) (x0) : Keeps r (cryAgree x0 s) := by
  unfold cryAgree
  grind (splits := 30) (ematch := 30) (gen := 60) (instances := 20000) [cryDone_keeps, cryKey_keeps, cryCommit_keeps, Keeps.mk, foldl_keeps]

theorem cryBufWrite_keeps {r s : State} (h : Keeps r s) (x0 x1 x2) : Keeps r (cryBufWrite x0 x1 x2 s).2 := by
  unfold cryBufWrite
  split
  · exact h
  · exact Keeps.mems (cryClaim_keeps h _) _ _ _ _ _ id id id (memSetN_wf _ _) id

theorem symTake_keeps {r s : State} (h : Keeps r s) (x0) : Keeps r (symTake x0 s) := by
  unfold symTake
  grind (splits := 30) (ematch := 30) (gen := 60) (instances := 20000) [Keeps.mk, foldl_keeps]

theorem cryDecrypt_keeps {r s : State} (h : Keeps r s) (x0) : Keeps r (cryDecrypt x0 s) := by
  unfold cryDecrypt
  grind (splits := 30) (ematch := 30) (gen := 60) (instances := 20000) [symTake_keeps, cryDone_keeps, cryKey_keeps, Keeps.mk, foldl_keeps]

theorem cryWait_keeps {r s : State} (h : Keeps r s) (x0 x1) : Keeps r (cryWait x0 x1 s) := by
  unfold cryWait
  grind (splits := 30) (ematch := 30) (gen := 60) (instances := 20000) [cryDone_keeps, Keeps.mk, foldl_keeps]

theorem cryRandom_keeps {r s : State} (h : Keeps r s) (x0) : Keeps r (cryRandom x0 s) := by
  unfold cryRandom
  grind (splits := 30) (ematch := 30) (gen := 60) (instances := 20000) [cryWait_keeps, cryDone_keeps, randBytes_keeps, Keeps.mk,
    foldl_keeps]

theorem cryEncrypt_keeps {r s : State} (h : Keeps r s) (x0) : Keeps r (cryEncrypt x0 s) := by
  unfold cryEncrypt
  grind (splits := 30) (ematch := 30) (gen := 60) (instances := 20000) [symTake_keeps, cryDone_keeps, cryKey_keeps, Keeps.mk, foldl_keeps]

theorem cryDerive_keeps {r s : State} (h : Keeps r s) (x0) : Keeps r (cryDerive x0 s) := by
  unfold cryDerive
  grind (splits := 30) (ematch := 30) (gen := 60) (instances := 20000) [cryDone_keeps, cryKey_keeps, cryCommit_keeps, Keeps.mk, foldl_keeps]

theorem cryHash_keeps {r s : State} (h : Keeps r s) (x0) : Keeps r (cryHash x0 s) := by
  unfold cryHash
  grind (splits := 30) (ematch := 30) (gen := 60) (instances := 20000) [symTake_keeps, cryDone_keeps, Keeps.mk, foldl_keeps]

theorem crySign_keeps {r s : State} (h : Keeps r s) (x0) : Keeps r (crySign x0 s) := by
  unfold crySign
  grind (splits := 30) (ematch := 30) (gen := 60) (instances := 20000) [cryWait_keeps, cryDone_keeps, cryKey_keeps, signWith_keeps,
    Keeps.mk, foldl_keeps]

theorem cryMac_keeps {r s : State} (h : Keeps r s) (x0) : Keeps r (cryMac x0 s) := by
  unfold cryMac
  grind (splits := 30) (ematch := 30) (gen := 60) (instances := 20000) [symTake_keeps, cryDone_keeps, cryKey_keeps, Keeps.mk, foldl_keeps]

theorem cryVerify_keeps {r s : State} (h : Keeps r s) (x0) : Keeps r (cryVerify x0 s) := by
  unfold cryVerify
  grind (splits := 30) (ematch := 30) (gen := 60) (instances := 20000) [cryDone_keeps, cryKey_keeps, Keeps.mk, foldl_keeps]

theorem cryRun_keeps {r s : State} (h : Keeps r s) (x0) : Keeps r (cryRun x0 s) := by
  unfold cryRun
  grind (splits := 30) (ematch := 30) (gen := 60) (instances := 20000) [cryDecrypt_keeps, cryAgree_keeps, cryRandom_keeps,
    cryEncrypt_keeps, cryDone_keeps, cryDerive_keeps, cryHash_keeps, crySign_keeps, cryMac_keeps, cryVerify_keeps, Keeps.mk, foldl_keeps]

theorem cryCmdWrite_keeps {r s : State} (h : Keeps r s) (x0 x1) : Keeps r (cryCmdWrite x0 x1 s).2 := by
  unfold cryCmdWrite
  grind (splits := 30) (ematch := 30) (gen := 60) (instances := 20000) [cryRun_keeps, enqueue_keeps, cryAccepted_keeps,
    cryCmdFields_keeps, Keeps.mk, foldl_keeps]

theorem cryWrite_keeps {r s : State} (h : Keeps r s) (x0 x1 x2) : Keeps r (cryWrite x0 x1 x2 s).2 := by
  unfold cryWrite
  grind (splits := 30) (ematch := 30) (gen := 60) (instances := 20000) [State.w1c_keeps, State.wr_keeps, State.put_keeps,
    cryCmdWrite_keeps, Keeps.mk, foldl_keeps]

theorem cryRetry_keeps {r s : State} (h : Keeps r s) : Keeps r (cryRetry s) := by
  unfold cryRetry
  grind (splits := 30) (ematch := 30) (gen := 60) (instances := 20000) [cryRun_keeps, Keeps.mk, foldl_keeps]

theorem symRelease_keeps {r s : State} (h : Keeps r s) : Keeps r (symRelease s) := by
  unfold symRelease
  grind (splits := 30) (ematch := 30) (gen := 60) (instances := 20000) [Keeps.mk, foldl_keeps]

/-! ### Entropy -/

theorem randAnswer_keeps {r s : State} (h : Keeps r s) (x0 x1 x2) : Keeps r (randAnswer x0 x1 x2 s) := by
  unfold randAnswer
  grind (splits := 30) (ematch := 30) (gen := 60) (instances := 20000) [answerTo_keeps, Keeps.mk, foldl_keeps]

theorem entropyRefuse_keeps {r s : State} (h : Keeps r s) : Keeps r (entropyRefuse s) := by
  unfold entropyRefuse
  grind (splits := 30) (ematch := 30) (gen := 60) (instances := 20000) [randAnswer_keeps, cryDone_keeps, denDone_keeps, Keeps.mk,
    foldl_keeps]

theorem latchDown_keeps {r s : State} (h : Keeps r s) : Keeps r (latchDown s) := by
  unfold latchDown
  grind (splits := 30) (ematch := 30) (gen := 60) (instances := 20000) [raise_keeps, Keeps.mk, foldl_keeps]

theorem entropyFail_keeps {r s : State} (h : Keeps r s) (x0 x1) : Keeps r (entropyFail x0 x1 s) := by
  unfold entropyFail
  grind (splits := 30) (ematch := 30) (gen := 60) (instances := 20000) [State.setBit_keeps, raiseAs_keeps, State.put_keeps,
    entropyRefuse_keeps, latchDown_keeps, Keeps.mk, foldl_keeps]

theorem instantiate_keeps {r s : State} (h : Keeps r s) : Keeps r (instantiate s) := by
  unfold instantiate
  grind (splits := 30) (ematch := 30) (gen := 60) (instances := 20000) [Keeps.mk, foldl_keeps]

theorem rawEnter_keeps {r s : State} (h : Keeps r s) : Keeps r (rawEnter s) := by
  unfold rawEnter
  grind (splits := 30) (ematch := 30) (gen := 60) (instances := 20000) [State.setBit_keeps, Keeps.mk, foldl_keeps]

theorem reseedAsk_keeps {r s : State} (h : Keeps r s) : Keeps r (reseedAsk s) := by
  unfold reseedAsk
  grind (splits := 30) (ematch := 30) (gen := 60) (instances := 20000) [State.setBit_keeps, reseedNow_keeps, Keeps.mk, foldl_keeps]

theorem entCtlWrite_keeps {r s : State} (h : Keeps r s) (x0 x1) : Keeps r (entCtlWrite x0 x1 s).2 := by
  unfold entCtlWrite
  grind (splits := 30) (ematch := 30) (gen := 60) (instances := 20000) [rawEnter_keeps, reseedAsk_keeps, rawLeave_keeps, State.put_keeps,
    Keeps.mk, foldl_keeps]

theorem entWrite_keeps {r s : State} (h : Keeps r s) (x0 x1 x2) : Keeps r (entWrite x0 x1 x2 s).2 := by
  unfold entWrite
  grind (splits := 30) (ematch := 30) (gen := 60) (instances := 20000) [entCtlWrite_keeps, State.put_keeps, Keeps.mk, foldl_keeps]

theorem latchFlush_keeps {r s : State} (h : Keeps r s) : Keeps r (latchFlush s) := by
  unfold latchFlush
  grind (splits := 30) (ematch := 30) (gen := 60) (instances := 20000) [sectorProgram_keeps, Keeps.mk, foldl_keeps]

theorem serveReads_keeps {r s : State} (h : Keeps r s) (x0) : Keeps r (serveReads x0 s) := by
  induction x0 generalizing s with
  | zero => exact h
  | succ n ih =>
    unfold serveReads
    grind (splits := 30) (ematch := 30) (gen := 60) (instances := 20000) [randAnswer_keeps, randReq_keeps, Keeps.mk]

theorem entropyKick_keeps {r s : State} (h : Keeps r s) : Keeps r (entropyKick s) := by
  unfold entropyKick
  grind (splits := 30) (ematch := 30) (gen := 60) (instances := 20000) [denRetry_keeps, reseedNow_keeps, serveReads_keeps, cryRetry_keeps,
    Keeps.mk, foldl_keeps]

theorem healthFail_keeps {r s : State} (h : Keeps r s) (x0 x1) : Keeps r (healthFail x0 x1 s) := by
  unfold healthFail
  grind (splits := 30) (ematch := 30) (gen := 60) (instances := 20000) [entropyFail_keeps, State.put_keeps, Keeps.mk, foldl_keeps]

end Sys2Proof.Machine
end

