-- ==== Sys2Proof/Laws/KeepsE.lean ====
section
/-! SUPPORT. What the operations of ImageLoad, Ledger, Boot, Wake, Bus, Retained, Fabric, Diag keep. -/

namespace Sys2Proof.Machine

/-! ### ImageLoad -/

theorem loadAon_keeps {r s : State} (h : Keeps r s) (x0 x1) : Keeps r (loadAon x0 x1 s) := by
  unfold loadAon
  grind (splits := 30) (ematch := 30) (gen := 60) (instances := 20000) [bindInputs_keeps, Keeps.mk, foldl_keeps]

theorem loadChannel_keeps {r s : State} (h : Keeps r s) (x0 x1 x2) : Keeps r (loadChannel x0 x1 s x2) := by
  unfold loadChannel
  grind (splits := 30) (ematch := 30) (gen := 60) (instances := 20000) [State.setBit_keeps, State.put_keeps, raise_keeps, Keeps.mk,
    foldl_keeps]

theorem loadFaults_keeps {r s : State} (h : Keeps r s) (x0) : Keeps r (loadFaults x0 s) := by
  unfold loadFaults
  grind (splits := 30) (ematch := 30) (gen := 60) (instances := 20000) [raise_keeps, Keeps.mk, foldl_keeps]

theorem loadLane_keeps {r s : State} (h : Keeps r s) (x0 x1 x2) : Keeps r (loadLane x0 x1 s x2) := by
  unfold loadLane
  grind (splits := 30) (ematch := 30) (gen := 60) (instances := 20000) [State.setBit_keeps, State.put_keeps, Keeps.mk, foldl_keeps]

theorem imageLoad_keeps {r s : State} (h : Keeps r s) (x0 x1) : Keeps r (imageLoad x0 x1 s) := by
  unfold imageLoad
  grind (splits := 30) (ematch := 30) (gen := 60) (instances := 20000) [State.setBit_keeps, engineTimers_keeps, loadAon_keeps,
    loadChannel_keeps, holderCheck_keeps, State.put_keeps, loadFaults_keeps, loadLane_keeps, Keeps.mk, foldl_keeps]

theorem imageRecord_keeps {r s : State} (h : Keeps r s) : Keeps r (imageRecord s) := by
  unfold imageRecord
  grind (splits := 30) (ematch := 30) (gen := 60) (instances := 20000) [logRec_keeps, Keeps.mk, foldl_keeps]

theorem imageRegs_keeps {r s : State} (h : Keeps r s) (x0) : Keeps r (imageRegs x0 s) := by
  unfold imageRegs
  grind (splits := 30) (ematch := 30) (gen := 60) (instances := 20000) [State.setBit_keeps, State.put_keeps, Keeps.mk, foldl_keeps]

theorem setRej_keeps {r s : State} (h : Keeps r s) (x0 x1) : Keeps r (setRej x0 x1 s) := by
  unfold setRej
  grind (splits := 30) (ematch := 30) (gen := 60) (instances := 20000) [State.put_keeps, Keeps.mk, foldl_keeps]

theorem tryImage_keeps {r s : State} (h : Keeps r s) (x0 x1) : Keeps r (tryImage x0 x1 s).2 := by
  unfold tryImage
  grind (splits := 30) (ematch := 30) (gen := 60) (instances := 20000) [setRej_keeps, verifySlot_keeps, Keeps.mk, foldl_keeps]

theorem trialStep_keeps {r s : State} (h : Keeps r s) (x0 x1 x2) : Keeps r (trialStep x0 x1 x2 s).2.2 := by
  unfold trialStep
  grind (splits := 30) (ematch := 30) (gen := 60) (instances := 20000) [setRej_keeps, tryImage_keeps, Keeps.mk, foldl_keeps]

theorem chooseImage_keeps {r s : State} (h : Keeps r s) (x0 x1) : Keeps r (chooseImage x0 x1 s).2 := by
  unfold chooseImage
  grind (splits := 30) (ematch := 30) (gen := 60) (instances := 20000) [tryImage_keeps, trialStep_keeps, Keeps.mk, foldl_keeps]

theorem imageSelect_keeps {r s : State} (h : Keeps r s) (x0 x1) : Keeps r (imageSelect x0 x1 s) := by
  unfold imageSelect
  grind (splits := 30) (ematch := 30) (gen := 60) (instances := 20000) [imageLoad_keeps, imageRecord_keeps, putPage_keeps,
    imageRegs_keeps, raise_keeps, chooseImage_keeps, Keeps.mk, foldl_keeps]

theorem confirmTell_keeps {r s : State} (h : Keeps r s) : Keeps r (confirmTell s) := by
  unfold confirmTell
  grind (splits := 30) (ematch := 30) (gen := 60) (instances := 20000) [imageRecord_keeps, settSend_keeps, Keeps.mk, foldl_keeps]

theorem confirmStop_keeps {r s : State} (h : Keeps r s) : Keeps r (confirmStop s) := by
  unfold confirmStop
  grind (splits := 30) (ematch := 30) (gen := 60) (instances := 20000) [Keeps.mk, foldl_keeps]

theorem confirmBegin_keeps {r s : State} (h : Keeps r s) (x0) : Keeps r (confirmBegin x0 s).2 := by
  unfold confirmBegin
  grind (splits := 30) (ematch := 30) (gen := 60) (instances := 20000) [submitGroup_keeps, Keeps.mk, foldl_keeps]

theorem confirmRaise_keeps {r s : State} (h : Keeps r s) (x0) : Keeps r (confirmRaise x0 s).2 := by
  unfold confirmRaise
  grind (splits := 30) (ematch := 30) (gen := 60) (instances := 20000) [confirmStop_keeps, State.setBit_keeps, submitTally_keeps,
    Keeps.mk, foldl_keeps]

/-! ### Ledger -/

theorem checkDevice_keeps {r s : State} (h : Keeps r s) (x0) : Keeps r (checkDevice x0 s) := by
  unfold checkDevice
  grind (splits := 30) (ematch := 30) (gen := 60) (instances := 20000) [deviceOut_keeps, Keeps.mk, foldl_keeps]

theorem satFlush_keeps {r s : State} (h : Keeps r s) : Keeps r (satFlush s) := by
  unfold satFlush
  grind (splits := 30) (ematch := 30) (gen := 60) (instances := 20000) [settSend_keeps, Keeps.mk, foldl_keeps]

theorem powerGap_keeps {r s : State} (h : Keeps r s) (x0) : Keeps r (powerGap x0 s) := by
  unfold powerGap
  grind (splits := 30) (ematch := 30) (gen := 60) (instances := 20000) [logRec_keeps, Keeps.mk, foldl_keeps]

theorem setMirrors_keeps {r s : State} (h : Keeps r s) : Keeps r (setMirrors s) := by
  unfold setMirrors
  grind (splits := 30) (ematch := 30) (gen := 60) (instances := 20000) [State.setBit_keeps, Keeps.mk, foldl_keeps]

theorem openDone_keeps {r s : State} (h : Keeps r s) : Keeps r (openDone s) := by
  unfold openDone
  grind (splits := 30) (ematch := 30) (gen := 60) (instances := 20000) [powerGap_keeps, State.setBit_keeps, setMirrors_keeps,
    ledgerAccept_keeps, ledgerClosed_keeps, Keeps.mk, foldl_keeps]

theorem ledgerFormat_keeps {r s : State} (h : Keeps r s) : Keeps r (ledgerFormat s) := by
  unfold ledgerFormat
  grind (splits := 30) (ematch := 30) (gen := 60) (instances := 20000) [sealRec_keeps, State.wr_keeps, ledgerHalt_keeps, State.put_keeps,
    Keeps.mk, foldl_keeps]

theorem resumeCount_keeps {r s : State} (h : Keeps r s) (x0) : Keeps r (resumeCount x0 s) := by
  unfold resumeCount
  grind (splits := 30) (ematch := 30) (gen := 60) (instances := 20000) [wmArm_keeps, Keeps.mk, foldl_keeps]

theorem openFound_keeps {r s : State} (h : Keeps r s) (x0) : Keeps r (openFound x0 s) := by
  unfold openFound
  grind (splits := 30) (ematch := 30) (gen := 60) (instances := 20000) [State.put_keeps, sectorProgram_keeps, raise_keeps,
    resumeCount_keeps, Keeps.mk, foldl_keeps]

theorem sealPair_keeps {r s : State} (h : Keeps r s) (x0 x1 x2) : Keeps r (sealPair x0 x1 x2 s) := by
  unfold sealPair
  grind (splits := 30) (ematch := 30) (gen := 60) (instances := 20000) [summaryRewrite_keeps, sealRec_keeps, State.put_keeps, Keeps.mk,
    foldl_keeps]

/-! ### Boot -/

theorem attestWrite_keeps {r s : State} (h : Keeps r s) : Keeps r (attestWrite s) := by
  unfold attestWrite
  grind (splits := 30) (ematch := 30) (gen := 60) (instances := 20000) [freeBytes_keeps, putPage_keeps, Keeps.mk, foldl_keeps]

theorem bootBegin_keeps {r s : State} (h : Keeps r s) : Keeps r (bootBegin s) := by
  unfold bootBegin
  refine State.setBit_keeps (State.put_keeps (State.put_keeps (State.wr_keeps ?_ _ _) _ _) _ _) _ _
  exact Keeps.parts h rfl id id id id id (fun _ => Memory.wf_nil)

theorem hedgeRecord_keeps {r s : State} (h : Keeps r s) : Keeps r (hedgeRecord s) := by
  unfold hedgeRecord
  grind (splits := 30) (ematch := 30) (gen := 60) (instances := 20000) [faultRecord_keeps, Keeps.mk, foldl_keeps]

theorem roleSettle_keeps {r s : State} (h : Keeps r s) : Keeps r (roleSettle s) := by
  unfold roleSettle
  grind (splits := 30) (ematch := 30) (gen := 60) (instances := 20000) [noteFault_keeps, State.setBit_keeps, Keeps.mk, foldl_keeps]

theorem tallyRecover_keeps {r s : State} (h : Keeps r s) (x0) : Keeps r (tallyRecover s x0) := by
  unfold tallyRecover
  grind (splits := 30) (ematch := 30) (gen := 60) (instances := 20000) [State.setTally_keeps, raise_keeps, Keeps.mk, foldl_keeps]

theorem bootEarly_keeps {r s : State} (h : Keeps r s) : Keeps r (bootEarly s) := by
  unfold bootEarly
  grind (splits := 30) (ematch := 30) (gen := 60) (instances := 20000) [hedgeRecord_keeps, roleSettle_keeps, tallyRecover_keeps,
    bootBegin_keeps, Keeps.mk, foldl_keeps]

theorem bootMark_keeps {r s : State} (h : Keeps r s) (x0 x1) : Keeps r (bootMark x0 x1 s) := by
  unfold bootMark
  grind (splits := 30) (ematch := 30) (gen := 60) (instances := 20000) [State.put_keeps, Keeps.mk, foldl_keeps]

theorem bootEnd_keeps {r s : State} (h : Keeps r s) (x0 x1 x2) : Keeps r (bootEnd x0 x1 x2 s) := by
  unfold bootEnd
  grind (splits := 30) (ematch := 30) (gen := 60) (instances := 20000) [bootMark_keeps, Keeps.mk, foldl_keeps]

theorem bootEntropy_keeps {r s : State} (h : Keeps r s) (x0) : Keeps r (bootEntropy x0 s) := by
  unfold bootEntropy
  grind (splits := 30) (ematch := 30) (gen := 60) (instances := 20000) [entropyFail_keeps, instantiate_keeps, Keeps.mk, foldl_keeps]

theorem bootEnum_keeps {r s : State} (h : Keeps r s) : Keeps r (bootEnum s) := by
  unfold bootEnum
  grind (splits := 30) (ematch := 30) (gen := 60) (instances := 20000) [settSend0_keeps, State.put_keeps, randBytes_keeps, Keeps.mk,
    foldl_keeps]

theorem busStart_keeps {r s : State} (h : Keeps r s) : Keeps r (busStart s) := by
  unfold busStart
  grind (splits := 30) (ematch := 30) (gen := 60) (instances := 20000) [canSend_keeps, State.setBit_keeps, Keeps.mk, foldl_keeps]

theorem tagLoad_keeps {r s : State} (h : Keeps r s) : Keeps r (tagLoad s) := by
  unfold tagLoad
  grind (splits := 30) (ematch := 30) (gen := 60) (instances := 20000) [randBytes_keeps, Keeps.mk, foldl_keeps]

theorem lastRunKeep_keeps {r s : State} (h : Keeps r s) : Keeps r (lastRunKeep s) := by
  unfold lastRunKeep
  grind (splits := 30) (ematch := 30) (gen := 60) (instances := 20000) [submitGroup_keeps, Keeps.mk, foldl_keeps]

theorem profileEntry_keeps {r s : State} (h : Keeps r s) (x0) : Keeps r (profileEntry x0 s) := by
  unfold profileEntry
  grind (splits := 30) (ematch := 30) (gen := 60) (instances := 20000) [outageEnd_keeps, busStart_keeps, State.setBit_keeps,
    tagLoad_keeps, lastRunKeep_keeps, ledgerAccept_keeps, enterProfile_keeps, fobsCheck_keeps, wmArm_keeps, fireHeld_keeps, Keeps.mk,
    foldl_keeps]

theorem raiseNow_keeps {r s : State} (h : Keeps r s) (x0 x1) : Keeps r (raiseNow x0 x1 s) := by
  unfold raiseNow
  grind (splits := 30) (ematch := 30) (gen := 60) (instances := 20000) [State.setTally_keeps, putPage_keeps, Keeps.mk, foldl_keeps]

theorem confirmResume_keeps {r s : State} (h : Keeps r s) : Keeps r (confirmResume s) := by
  unfold confirmResume
  grind (splits := 30) (ematch := 30) (gen := 60) (instances := 20000) [raiseNow_keeps, Keeps.mk, foldl_keeps]

theorem bootFinish_keeps {r s : State} (h : Keeps r s) : Keeps r (bootFinish s) := by
  unfold bootFinish
  grind (splits := 30) (ematch := 30) (gen := 60) (instances := 20000) [profileEntry_keeps, confirmResume_keeps, bootMark_keeps, Keeps.mk,
    foldl_keeps]

theorem bootHead_keeps {r s : State} (h : Keeps r s) (x0) : Keeps r (bootHead x0 s) := by
  unfold bootHead
  grind (splits := 30) (ematch := 30) (gen := 60) (instances := 20000) [bootEnum_keeps, bootEnd_keeps, Keeps.mk, foldl_keeps]

theorem retainedCheck_keeps {r s : State} (h : Keeps r s) : Keeps r (retainedCheck s) := by
  unfold retainedCheck
  grind (splits := 30) (ematch := 30) (gen := 60) (instances := 20000) [verifyImage_keeps, Keeps.mk, foldl_keeps]

theorem bootImage_keeps {r s : State} (h : Keeps r s) (x0 x1) : Keeps r (bootImage x0 x1 s) := by
  unfold bootImage
  grind (splits := 30) (ematch := 30) (gen := 60) (instances := 20000) [imageSelect_keeps, retainedCheck_keeps, Keeps.mk, foldl_keeps]

theorem bootStop_keeps {r s : State} (h : Keeps r s) (x0 x1 x2) : Keeps r (bootStop x0 x1 x2 s) := by
  unfold bootStop
  grind (splits := 30) (ematch := 30) (gen := 60) (instances := 20000) [bootEnd_keeps, Keeps.mk, foldl_keeps]

theorem slotsCheck_keeps {r s : State} (h : Keeps r s) : Keeps r (slotsCheck s) := by
  unfold slotsCheck
  grind (splits := 30) (ematch := 30) (gen := 60) (instances := 20000) [slotSweep_keeps, raise_keeps, Keeps.mk, foldl_keeps]

theorem bootLate_keeps {r s : State} (h : Keeps r s) (x0 x1) : Keeps r (bootLate x0 x1 s) := by
  unfold bootLate
  grind (splits := 30) (ematch := 30) (gen := 60) (instances := 20000) [bootImage_keeps, attestWrite_keeps, bootEntropy_keeps,
    bootStop_keeps, bootHead_keeps, bootEnd_keeps, raise_keeps, slotsCheck_keeps, Keeps.mk, foldl_keeps]

theorem bootLevel_keeps {r s : State} (h : Keeps r s) (x0) : Keeps r (bootLevel x0 s) := by
  unfold bootLevel
  grind (splits := 30) (ematch := 30) (gen := 60) (instances := 20000) [setTrim_keeps, State.setBit_keeps, runLevel_keeps, relevel_keeps,
    Keeps.mk, foldl_keeps]

theorem lifeCycle_keeps {r s : State} (h : Keeps r s) : Keeps r (lifeCycle s) := by
  unfold lifeCycle
  grind (splits := 30) (ematch := 30) (gen := 60) (instances := 20000) [State.setBit_keeps, putPage_keeps, State.put_keeps, Keeps.mk,
    foldl_keeps]

theorem startUp_keeps {r s : State} (h : Keeps r s) (x0) : Keeps r (startUp x0 s) := by
  unfold startUp
  grind (splits := 30) (ematch := 30) (gen := 60) (instances := 20000) [bootLate_keeps, lifeCycle_keeps, bootLevel_keeps, bootStop_keeps,
    State.put_keeps, State.setDom_keeps, bootEarly_keeps, raise_keeps, Keeps.mk, foldl_keeps]

/-! ### Wake -/

theorem fullWake_keeps {r s : State} (h : Keeps r s) : Keeps r (fullWake s) := by
  unfold fullWake
  grind (splits := 30) (ematch := 30) (gen := 60) (instances := 20000) [ringRestart_keeps, State.put_keeps, State.setDom_keeps, Keeps.mk,
    foldl_keeps]

theorem busWakes_keeps {r s : State} (h : Keeps r s) (x0) : Keeps r (busWakes x0 s) := by
  unfold busWakes
  grind (splits := 30) (ematch := 30) (gen := 60) (instances := 20000) [wakeFlags_keeps, latchWake_keeps, fullWake_keeps, State.put_keeps,
    Keeps.mk, foldl_keeps]

theorem sleepTail_keeps {r s : State} (h : Keeps r s) : Keeps r (sleepTail s) := by
  unfold sleepTail
  grind (splits := 30) (ematch := 30) (gen := 60) (instances := 20000) [State.setDom_keeps, sectorProgram_keeps, Keeps.mk, foldl_keeps]

theorem vaultOff_keeps {r s : State} (h : Keeps r s) : Keeps r (vaultOff s) := by
  unfold vaultOff
  grind (splits := 30) (ematch := 30) (gen := 60) (instances := 20000) [blockClear_keeps, Keeps.mk, foldl_keeps]

theorem sleepNow_keeps {r s : State} (h : Keeps r s) (x0) : Keeps r (sleepNow x0 s) := by
  unfold sleepNow
  grind (splits := 30) (ematch := 30) (gen := 60) (instances := 20000) [State.setBit_keeps, boostCheck_keeps, sessionsDrop_keeps,
    vaultOff_keeps, State.put_keeps, fieldDrop_keeps, sectorProgram_keeps, runLevel_keeps, airDrop_keeps, tagUnpowered_keeps, Keeps.mk,
    foldl_keeps]

theorem internalTick_keeps {r s : State} (h : Keeps r s) : Keeps r (internalTick s) := by
  unfold internalTick
  grind (splits := 30) (ematch := 30) (gen := 60) (instances := 20000) [sleepNow_keeps, fullWake_keeps, Keeps.mk, foldl_keeps]

theorem noticeSearch_keeps {r s : State} (h : Keeps r s) : Keeps r (noticeSearch s) := by
  unfold noticeSearch
  grind (splits := 30) (ematch := 30) (gen := 60) (instances := 20000) [State.setLane_keeps, laneMove_keeps, laneListenFrom_keeps,
    Keeps.mk, foldl_keeps]

theorem wakeUp_keeps {r s : State} (h : Keeps r s) (x0 x1) : Keeps r (wakeUp x0 x1 s) := by
  unfold wakeUp
  grind (splits := 30) (ematch := 30) (gen := 60) (instances := 20000) [wakeFlags_keeps, bootLevel_keeps, bootEntropy_keeps,
    State.put_keeps, Keeps.mk, foldl_keeps]

theorem ringCommit_keeps {r s : State} (h : Keeps r s) : Keeps r (ringCommit s) := by
  unfold ringCommit
  grind (splits := 30) (ematch := 30) (gen := 60) (instances := 20000) [roundEnd_keeps, soleEnd_keeps, sleepNow_keeps, settSend_keeps,
    overruleEnd_keeps, Keeps.mk, foldl_keeps]

theorem storeRecover_keeps {r s : State} (h : Keeps r s) : Keeps r (storeRecover s) := by
  unfold storeRecover
  grind (splits := 30) (ematch := 30) (gen := 60) (instances := 20000) [tcmdDone_keeps, rmcKick_keeps, resubmitGroups_keeps,
    tallyStart_keeps, Keeps.mk, foldl_keeps]

/-! ### Bus -/

theorem errorCounts_keeps {r s : State} (h : Keeps r s) (x0 x1) : Keeps r (errorCounts x0 x1 s) := by
  unfold errorCounts
  grind (splits := 30) (ematch := 30) (gen := 60) (instances := 20000) [State.setBit_keeps, State.put_keeps, Keeps.mk, foldl_keeps]

theorem roundHeard_keeps {r s : State} (h : Keeps r s) (x0 x1) : Keeps r (roundHeard x0 x1 s) := by
  unfold roundHeard
  grind (splits := 30) (ematch := 30) (gen := 60) (instances := 20000) [roundEnd_keeps, State.setBit_keeps, Keeps.mk, foldl_keeps]

theorem goBusOff_keeps {r s : State} (h : Keeps r s) : Keeps r (goBusOff s) := by
  unfold goBusOff
  grind (splits := 30) (ematch := 30) (gen := 60) (instances := 20000) [State.setBit_keeps, State.put_keeps, raise_keeps,
    State.count_keeps, Keeps.mk, foldl_keeps]

theorem frameSent_keeps {r s : State} (h : Keeps r s) (x0) : Keeps r (frameSent x0 s) := by
  unfold frameSent
  grind (splits := 30) (ematch := 30) (gen := 60) (instances := 20000) [diagPump_keeps, Keeps.mk, foldl_keeps]

theorem ignitionChange_keeps {r s : State} (h : Keeps r s) (x0) : Keeps r (ignitionChange x0 s) := by
  unfold ignitionChange
  grind (splits := 30) (ematch := 30) (gen := 60) (instances := 20000) [evalEvent_keeps, latchClear_keeps, summaryRewrite_keeps,
    State.setBit_keeps, wmIgnitionOn_keeps, sectorProgram_keeps, logRec_keeps, Keeps.mk, foldl_keeps]

theorem ringTurn_keeps {r s : State} (h : Keeps r s) (x0) : Keeps r (ringTurn x0 s) := by
  unfold ringTurn
  grind (splits := 30) (ematch := 30) (gen := 60) (instances := 20000) [roundEnd_keeps, ringCommit_keeps, State.setBit_keeps,
    ringSay_keeps, Keeps.mk, foldl_keeps]

/-! ### Retained -/

theorem rmcCmdWrite_keeps {r s : State} (h : Keeps r s) (x0 x1) : Keeps r (rmcCmdWrite x0 x1 s).2 := by
  unfold rmcCmdWrite
  grind (splits := 30) (ematch := 30) (gen := 60) (instances := 20000) [windowCommit_keeps, windowEmpty_keeps, Keeps.mk, foldl_keeps]

theorem tcmdWrite_keeps {r s : State} (h : Keeps r s) (x0 x1) : Keeps r (tcmdWrite x0 x1 s).2 := by
  unfold tcmdWrite
  grind (splits := 30) (ematch := 30) (gen := 60) (instances := 20000) [State.setBit_keeps, State.put_keeps, tcmdDone_keeps,
    submitTally_keeps, Keeps.mk, foldl_keeps]

theorem rmcWrite_keeps {r s : State} (h : Keeps r s) (x0 x1 x2) : Keeps r (rmcWrite x0 x1 x2 s).2 := by
  unfold rmcWrite
  grind (splits := 30) (ematch := 30) (gen := 60) (instances := 20000) [State.put_keeps, rmcCmdWrite_keeps, tcmdWrite_keeps, Keeps.mk,
    foldl_keeps]

theorem engineTally_keeps {r s : State} (h : Keeps r s) (x0 x1 x2 x3) : Keeps r (engineTally x0 x1 x2 x3 s) := by
  unfold engineTally
  grind (splits := 30) (ematch := 30) (gen := 60) (instances := 20000) [submitTally_keeps, Keeps.mk, foldl_keeps]

/-! ### Fabric -/

theorem clearWrite_keeps {r s : State} (h : Keeps r s) (x0 x1) : Keeps r (clearWrite x0 x1 s) := by
  unfold clearWrite
  grind (splits := 30) (ematch := 30) (gen := 60) (instances := 20000) [State.wr_keeps, Keeps.mk, foldl_keeps]

theorem plainWrite_keeps {r s : State} (h : Keeps r s) (x0 x1 x2) : Keeps r (plainWrite x0 x1 x2 s) := by
  unfold plainWrite
  grind (splits := 30) (ematch := 30) (gen := 60) (instances := 20000) [State.wr_keeps, Keeps.mk, foldl_keeps]

theorem regWrite_keeps {r s : State} (h : Keeps r s) (x0 x1 x2) : Keeps r (regWrite x0 x1 x2 s).2 := by
  unfold regWrite
  grind (splits := 30) (ematch := 30) (gen := 60) (instances := 20000) [timStopWrite_keeps, rmcWrite_keeps, timGoWrite_keeps,
    tagWrite_keeps, vltWrite_keeps, timRegWrite_keeps, clearWrite_keeps, legacyWrite_keeps, entWrite_keeps, cryWrite_keeps,
    plainWrite_keeps, tswWrite_keeps, Keeps.mk, foldl_keeps]

theorem windowPut_keeps {r s : State} (h : Keeps r s) (x0 x1 x2) : Keeps r (windowPut x0 x1 x2 s).2 := by
  unfold windowPut
  split
  · exact Keeps.mems h _ _ _ _ _ (memSetN_wf _ _) id id id id
  all_goals grind [vltBufWrite_keeps, cryBufWrite_keeps, windowWrite_keeps, tagMemPut_keeps]

theorem fabCross_keeps {r s : State} (h : Keeps r s) (x0 x1 x2 x3) : Keeps r (fabCross x0 x1 x2 x3 s).2 := by
  unfold fabCross
  grind (splits := 30) (ematch := 30) (gen := 60) (instances := 20000) [enqueue_keeps, Keeps.mk, foldl_keeps]

theorem fabCheckAs_keeps {r s : State} (h : Keeps r s) (x0 x1 x2 x3 x4 x5) : Keeps r (fabCheckAs x0 x1 x2 x3 x4 x5 s).2.2 := by
  unfold fabCheckAs
  grind (splits := 30) (ematch := 30) (gen := 60) (instances := 20000) [fabCross_keeps, Keeps.mk, foldl_keeps]

theorem fabWriteAs_keeps {r s : State} (h : Keeps r s) (x0 x1 x2 x3 x4 x5) : Keeps r (fabWriteAs x0 x1 x2 x3 x4 x5 s).2 := by
  unfold fabWriteAs
  grind (splits := 30) (ematch := 30) (gen := 60) (instances := 20000) [regWrite_keeps, windowPut_keeps, fabCheckAs_keeps, Keeps.mk,
    foldl_keeps]

theorem fabWrite_keeps {r s : State} (h : Keeps r s) (x0 x1 x2 x3) : Keeps r (fabWrite x0 x1 x2 x3 s).2 := by
  unfold fabWrite
  grind (splits := 30) (ematch := 30) (gen := 60) (instances := 20000) [fabWriteAs_keeps, Keeps.mk, foldl_keeps]

theorem windowRead_keeps {r s : State} (h : Keeps r s) (x0 x1 x2) : Keeps r (windowRead x0 x1 x2 s).2.2 := by
  unfold windowRead
  grind (splits := 30) (ematch := 30) (gen := 60) (instances := 20000) [tagAccess_keeps, windowAccess_keeps, Keeps.mk, foldl_keeps]

theorem randNow_keeps {r s : State} (h : Keeps r s) : Keeps r (randNow s).2.2 := by
  unfold randNow
  grind (splits := 30) (ematch := 30) (gen := 60) (instances := 20000) [randReq_keeps, State.count_keeps, Keeps.mk, foldl_keeps]

theorem rawRead_keeps {r s : State} (h : Keeps r s) : Keeps r (rawRead s).2 := by
  unfold rawRead
  grind (splits := 30) (ematch := 30) (gen := 60) (instances := 20000) [freeBytes_keeps, Keeps.mk, foldl_keeps]

theorem regRead_keeps {r s : State} (h : Keeps r s) (x0) : Keeps r (regRead x0 s).2.2 := by
  unfold regRead
  grind (splits := 30) (ematch := 30) (gen := 60) (instances := 20000) [randNow_keeps, rawRead_keeps, Keeps.mk, foldl_keeps]

theorem fabReadAs_keeps {r s : State} (h : Keeps r s) (x0 x1 x2 x3 x4) : Keeps r (fabReadAs x0 x1 x2 x3 x4 s).2.2 := by
  unfold fabReadAs
  grind (splits := 30) (ematch := 30) (gen := 60) (instances := 20000) [windowRead_keeps, regRead_keeps, fabCheckAs_keeps, Keeps.mk,
    foldl_keeps]

theorem fabReadFrom_keeps {r s : State} (h : Keeps r s) (x0 x1 x2 x3 x4) : Keeps r (fabReadFrom x0 x1 x2 x3 x4 s).2.2 := by
  induction x4 generalizing s x0 with
  | zero => exact h
  | succ n ih =>
    have a := fabReadAs_keeps h (x0 % 16 == 0) x1 x2 (x3 + 4 * x0) .b32
    unfold fabReadFrom
    split
    · rename_i e
      rw [e] at a
      have b := ih a (x0 + 1)
      split <;> (rename_i e2; rw [e2] at b; exact b)
    · rename_i e
      rw [e] at a
      exact a

theorem fabReadN_keeps {r s : State} (h : Keeps r s) (x0 x1 x2 x3) : Keeps r (fabReadN x0 x1 x2 x3 s).2.2 := fabReadFrom_keeps h _ _ _ _ _

theorem fabWriteFrom_keeps {r s : State} (h : Keeps r s) (x0 x1 x2 x3 x4) : Keeps r (fabWriteFrom x0 x1 x2 x3 x4 s).2 := by
  induction x4 generalizing s x0 with
  | nil => exact h
  | cons v vs ih =>
    have a := fabWriteAs_keeps h (x0 % 16 == 0) x1 x2 (x3 + 4 * x0) .b32 v
    unfold fabWriteFrom
    split
    · rename_i e
      rw [e] at a
      exact ih a (x0 + 1)
    · exact a

theorem fabWriteN_keeps {r s : State} (h : Keeps r s) (x0 x1 x2 x3) : Keeps r (fabWriteN x0 x1 x2 x3 s).2 := fabWriteFrom_keeps h _ _ _ _ _

theorem fabCheck_keeps {r s : State} (h : Keeps r s) (x0 x1 x2 x3) : Keeps r (fabCheck x0 x1 x2 x3 s).2.2 := by
  unfold fabCheck
  grind (splits := 30) (ematch := 30) (gen := 60) (instances := 20000) [fabCheckAs_keeps, Keeps.mk, foldl_keeps]

theorem fabRead_keeps {r s : State} (h : Keeps r s) (x0 x1 x2) : Keeps r (fabRead x0 x1 x2 s).2.2 := by
  unfold fabRead
  grind (splits := 30) (ematch := 30) (gen := 60) (instances := 20000) [fabReadAs_keeps, Keeps.mk, foldl_keeps]

/-! ### Diag -/

theorem diagSettleN_keeps {r s : State} (h : Keeps r s) (x0) : Keeps r (diagSettleN x0 s) := by
  induction x0 generalizing s with
  | zero => exact h
  | succ n ih =>
    unfold diagSettleN
    grind (splits := 30) (ematch := 30) (gen := 60) (instances := 20000) [diagNeg_keeps, diagPop_keeps]

theorem diagSettle_keeps {r s : State} (h : Keeps r s) : Keeps r (diagSettle s) := by
  unfold diagSettle
  grind (splits := 30) (ematch := 30) (gen := 60) (instances := 20000) [diagSettleN_keeps, Keeps.mk, foldl_keeps]

theorem rxAbandon_keeps {r s : State} (h : Keeps r s) : Keeps r (rxAbandon s) := by
  unfold rxAbandon
  grind (splits := 30) (ematch := 30) (gen := 60) (instances := 20000) [State.setQueue_keeps, Keeps.mk, foldl_keeps]

theorem diagHeard_keeps {r s : State} (h : Keeps r s) : Keeps r (diagHeard s) := by
  unfold diagHeard
  grind (splits := 30) (ematch := 30) (gen := 60) (instances := 20000) [diagSettle_keeps, Keeps.mk, foldl_keeps]

theorem messageWhole_keeps {r s : State} (h : Keeps r s) (x0) : Keeps r (messageWhole x0 s) := by
  unfold messageWhole
  grind (splits := 30) (ematch := 30) (gen := 60) (instances := 20000) [State.setQueue_keeps, diagHeard_keeps, Keeps.mk, foldl_keeps]

theorem consecutiveFrame_keeps {r s : State} (h : Keeps r s) (x0) : Keeps r (consecutiveFrame x0 s) := by
  unfold consecutiveFrame
  grind (splits := 30) (ematch := 30) (gen := 60) (instances := 20000) [rxAbandon_keeps, messageWhole_keeps, Keeps.mk, foldl_keeps]

theorem diagAdmit_keeps {r s : State} (h : Keeps r s) (x0 x1) : Keeps r (diagAdmit x0 x1 s).2 := by
  unfold diagAdmit
  grind (splits := 30) (ematch := 30) (gen := 60) (instances := 20000) [diagNeg_keeps, enqueue_keeps, State.count_keeps, Keeps.mk,
    foldl_keeps]

theorem diagPosUnless_keeps {r s : State} (h : Keeps r s) (x0 x1 x2) : Keeps r (diagPosUnless x0 x1 x2 s) := by
  unfold diagPosUnless
  grind (splits := 30) (ematch := 30) (gen := 60) (instances := 20000) [diagPos_keeps, Keeps.mk, foldl_keeps]

theorem diagRefused_keeps {r s : State} (h : Keeps r s) (x0 x1) : Keeps r (diagRefused x0 x1 s) := by
  unfold diagRefused
  grind (splits := 30) (ematch := 30) (gen := 60) (instances := 20000) [diagNeg_keeps, diagSettle_keeps, Keeps.mk, foldl_keeps]

theorem diagServe_keeps {r s : State} (h : Keeps r s) (x0) {f : Nat → Bytes → State → State} (hf : ∀ a b t, Keeps r t → Keeps r (f a b t)) :
    Keeps r (diagServe x0 f s) := by
  have a := diagSettle_keeps h
  unfold diagServe
  dsimp only
  split
  · exact a
  · rename_i e
    split
    · exact diagSettle_keeps (hf _ _ _ (diagPop_keeps a _ _ _ e))
    · exact a

theorem diagServeRand_keeps {r s : State} (h : Keeps r s) (x0) {f : Bytes → State → Bool × State}
    (hf : ∀ b t, Keeps r t → Keeps r (f b t).2) : Keeps r (diagServeRand x0 f s) := by
  have a := diagSettle_keeps h
  unfold diagServeRand
  dsimp only
  split
  · exact a
  · rename_i m _ t e
    split
    · have b := hf (m.drop 1) t (diagPop_keeps a _ _ _ e)
      split
      · rename_i e2; rw [e2] at b; exact diagSettle_keeps b
      · exact Keeps.same a rfl rfl rfl rfl rfl rfl rfl
    · exact a

theorem stagedVerdict_keeps {r s : State} (h : Keeps r s) (x0 x1) : Keeps r (stagedVerdict x0 x1 s).2 := by
  unfold stagedVerdict
  grind (splits := 30) (ematch := 30) (gen := 60) (instances := 20000) [verifySlot_keeps, Keeps.mk, foldl_keeps]

theorem downloadEnd_keeps {r s : State} (h : Keeps r s) (x0 x1) : Keeps r (downloadEnd x0 x1 s) := by
  unfold downloadEnd
  grind (splits := 30) (ematch := 30) (gen := 60) (instances := 20000) [diagNeg_keeps, submitGroup_keeps, State.put_keeps,
    stagedVerdict_keeps, Keeps.mk, foldl_keeps]

theorem sessionTo_keeps {r s : State} (h : Keeps r s) (x0) : Keeps r (sessionTo x0 s) := by
  unfold sessionTo
  grind (splits := 30) (ematch := 30) (gen := 60) (instances := 20000) [State.setBit_keeps, Keeps.mk, foldl_keeps]

theorem readRecs_keeps {r s : State} (h : Keeps r s) (x0 x1) : Keeps r (readRecs x0 x1 s).2 := by
  induction x0 generalizing s x1 with
  | zero => exact h
  | succ n ih =>
    unfold readRecs
    grind (splits := 30) (ematch := 30) (gen := 60) (instances := 20000) [readRec_keeps]

theorem exportBegin_keeps {r s : State} (h : Keeps r s) (x0) : Keeps r (exportBegin x0 s) := by
  unfold exportBegin
  grind (splits := 30) (ematch := 30) (gen := 60) (instances := 20000) [State.setBit_keeps, diagPos_keeps, Keeps.mk, foldl_keeps]

theorem securityKey_keeps {r s : State} (h : Keeps r s) (x0 x1) : Keeps r (securityKey x0 x1 s).2 := by
  unfold securityKey
  grind (splits := 30) (ematch := 30) (gen := 60) (instances := 20000) [keyCheck_keeps, Keeps.mk, foldl_keeps]

theorem securityFailed_keeps {r s : State} (h : Keeps r s) : Keeps r (securityFailed s) := by
  unfold securityFailed
  grind (splits := 30) (ematch := 30) (gen := 60) (instances := 20000) [diagNeg_keeps, State.count_keeps, Keeps.mk, foldl_keeps]

theorem norAppend_keeps {r s : State} (h : Keeps r s) (x0 x1) : Keeps r (norAppend x0 x1 s) := by
  unfold norAppend
  grind (splits := 30) (ematch := 30) (gen := 60) (instances := 20000) [Keeps.mk, foldl_keeps]

theorem transferBlock_keeps {r s : State} (h : Keeps r s) (x0) : Keeps r (transferBlock x0 s) := by
  unfold transferBlock
  grind (splits := 30) (ematch := 30) (gen := 60) (instances := 20000) [norAppend_keeps, diagNeg_keeps, diagPos_keeps, Keeps.mk,
    foldl_keeps]

theorem firstFrame_keeps {r s : State} (h : Keeps r s) (x0) : Keeps r (firstFrame x0 s) := by
  unfold firstFrame
  grind (splits := 30) (ematch := 30) (gen := 60) (instances := 20000) [diagFrame_keeps, diagAdmit_keeps, rxAbandon_keeps, Keeps.mk,
    foldl_keeps]

theorem singleFrame_keeps {r s : State} (h : Keeps r s) (x0 x1) : Keeps r (singleFrame x0 x1 s) := by
  unfold singleFrame
  grind (splits := 30) (ematch := 30) (gen := 60) (instances := 20000) [diagAdmit_keeps, rxAbandon_keeps, diagHeard_keeps, Keeps.mk,
    foldl_keeps]

theorem flowControl_keeps {r s : State} (h : Keeps r s) (x0) : Keeps r (flowControl x0 s) := by
  unfold flowControl
  grind (splits := 30) (ematch := 30) (gen := 60) (instances := 20000) [diagPump_keeps, diagSettle_keeps, Keeps.mk, foldl_keeps]

end Sys2Proof.Machine
end

