-- ==== Sys2Proof/Laws/KeepsF.lean ====
section
/-! SUPPORT. What the operations of Routines, SettOps, SettChain, SettLink, SettSplice, Writes, Complete keep. -/

namespace Sys2Proof.Machine

/-! ### Routines -/

theorem coilRoutineEnd_keeps {r s : State} (h : Keeps r s) : Keeps r (coilRoutineEnd s) := by
  unfold coilRoutineEnd
  grind (splits := 30) (ematch := 30) (gen := 60) (instances := 20000) [routineOk_keeps, diagSettle_keeps, Keeps.mk, foldl_keeps]

theorem fobRewrite_keeps {r s : State} (h : Keeps r s) (x0 x1 x2 x3) : Keeps r (fobRewrite x0 x1 x2 x3 s) := by
  unfold fobRewrite
  grind (splits := 30) (ematch := 30) (gen := 60) (instances := 20000) [fobCommit_keeps, diagNeg_keeps, Keeps.mk, foldl_keeps]

theorem routineServe_keeps {r s : State} (h : Keeps r s) (x0) {f : Nat → Bytes → State → State} (hf : ∀ a b t, Keeps r t → Keeps r (f a b
    t)) :
    Keeps r (routineServe x0 f s) := diagServe_keeps h _ (fun _ _ _ k => hf _ _ _ k)

theorem formatNow_keeps {r s : State} (h : Keeps r s) : Keeps r (formatNow s) := by
  unfold formatNow
  grind (splits := 30) (ematch := 30) (gen := 60) (instances := 20000) [routineOk_keeps, openDone_keeps, diagNeg_keeps, setMirrors_keeps,
    checkDevice_keeps, ledgerFormat_keeps, Keeps.mk, foldl_keeps]

/-! ### SettOps -/

theorem retxOver_keeps {r s : State} (h : Keeps r s) (x0 x1) : Keeps r (retxOver x0 x1 s) := by
  unfold retxOver
  grind (splits := 30) (ematch := 30) (gen := 60) (instances := 20000) [Keeps.mk, foldl_keeps]

theorem retxAsk_keeps {r s : State} (h : Keeps r s) (x0 x1 x2) : Keeps r (retxAsk x0 x1 x2 s) := by
  unfold retxAsk
  grind (splits := 30) (ematch := 30) (gen := 60) (instances := 20000) [settSend_keeps, recomputes_keeps, retxOver_keeps, Keeps.mk,
    foldl_keeps]

theorem reqComplete_keeps {r s : State} (h : Keeps r s) (x0 x1) : Keeps r (reqComplete x0 x1 s) := by
  unfold reqComplete
  grind (splits := 30) (ematch := 30) (gen := 60) (instances := 20000) [Keeps.mk, foldl_keeps]

theorem setMap_keeps {r s : State} (h : Keeps r s) (x0) : Keeps r (setMap x0 s) := by
  unfold setMap
  grind (splits := 30) (ematch := 30) (gen := 60) (instances := 20000) [State.setBit_keeps, State.put_keeps, Keeps.mk, foldl_keeps]

theorem silenceRestart_keeps {r s : State} (h : Keeps r s) : Keeps r (silenceRestart s) := by
  unfold silenceRestart
  grind (splits := 30) (ematch := 30) (gen := 60) (instances := 20000) [Keeps.mk, foldl_keeps]

theorem setPort_keeps {r s : State} (h : Keeps r s) (x0 x1) : Keeps r (setPort x0 x1 s) := by
  unfold setPort
  grind (splits := 30) (ematch := 30) (gen := 60) (instances := 20000) [Keeps.mk, foldl_keeps]

theorem portBusy_keeps {r s : State} (h : Keeps r s) (x0 x1 x2) : Keeps r (portBusy x0 x1 x2 s) := by
  unfold portBusy
  grind (splits := 30) (ematch := 30) (gen := 60) (instances := 20000) [setPort_keeps, Keeps.mk, foldl_keeps]

theorem cutCopy_keeps {r s : State} (h : Keeps r s) (x0 x1) : Keeps r (cutCopy x0 x1 s) := by
  unfold cutCopy
  grind (splits := 30) (ematch := 30) (gen := 60) (instances := 20000) [Keeps.mk, foldl_keeps]

theorem settPass_keeps {r s : State} (h : Keeps r s) (x0 x1) : Keeps r (settPass x0 x1 s) := by
  unfold settPass
  grind (splits := 30) (ematch := 30) (gen := 60) (instances := 20000) [portBusy_keeps, cutCopy_keeps, Keeps.mk, foldl_keeps]

theorem bindingCommit_keeps {r s : State} (h : Keeps r s) (x0) : Keeps r (bindingCommit x0 s) := by
  unfold bindingCommit
  grind (splits := 30) (ematch := 30) (gen := 60) (instances := 20000) [submitGroup_keeps, Keeps.mk, foldl_keeps]

theorem copyCut_keeps {r s : State} (h : Keeps r s) (x0) : Keeps r (copyCut x0 s) := by
  unfold copyCut
  grind (splits := 30) (ematch := 30) (gen := 60) (instances := 20000) [cutCopy_keeps, Keeps.mk, foldl_keeps]

theorem settLeave_keeps {r s : State} (h : Keeps r s) (x0 x1) : Keeps r (settLeave x0 x1 s) := by
  unfold settLeave
  grind (splits := 30) (ematch := 30) (gen := 60) (instances := 20000) [portBusy_keeps, Keeps.mk, foldl_keeps]

theorem lineSend_keeps {r s : State} (h : Keeps r s) (x0) : Keeps r (lineSend x0 s) := by
  unfold lineSend
  grind (splits := 30) (ematch := 30) (gen := 60) (instances := 20000) [State.setQueue_keeps, settLeave_keeps, Keeps.mk, foldl_keeps]

theorem lineTick_keeps {r s : State} (h : Keeps r s) : Keeps r (lineTick s) := by
  unfold lineTick
  grind (splits := 30) (ematch := 30) (gen := 60) (instances := 20000) [lineSend_keeps, Keeps.mk, foldl_keeps]

theorem settRespond_keeps {r s : State} (h : Keeps r s) (x0 x1 x2 x3 x4) : Keeps r (settRespond x0 x1 x2 x3 x4 s) := by
  unfold settRespond
  grind (splits := 30) (ematch := 30) (gen := 60) (instances := 20000) [settSend_keeps, Keeps.mk, foldl_keeps]

theorem settDiscard_keeps {r s : State} (h : Keeps r s) : Keeps r (settDiscard s) := by
  unfold settDiscard
  grind (splits := 30) (ematch := 30) (gen := 60) (instances := 20000) [State.count_keeps, Keeps.mk, foldl_keeps]

theorem portHeard_keeps {r s : State} (h : Keeps r s) (x0) : Keeps r (portHeard x0 s) := by
  unfold portHeard
  grind (splits := 30) (ematch := 30) (gen := 60) (instances := 20000) [setPort_keeps, Keeps.mk, foldl_keeps]

theorem settWatch_keeps {r s : State} (h : Keeps r s) (x0) : Keeps r (settWatch x0 s) := by
  unfold settWatch
  grind (splits := 30) (ematch := 30) (gen := 60) (instances := 20000) [Keeps.mk, foldl_keeps]

theorem settTake_keeps {r s : State} (h : Keeps r s) (x0) : Keeps r (settTake x0 s).2 := by
  unfold settTake
  grind (splits := 30) (ematch := 30) (gen := 60) (instances := 20000) [settRespond_keeps, settDiscard_keeps, enqueue_keeps, Keeps.mk,
    foldl_keeps]

theorem settMismatch_keeps {r s : State} (h : Keeps r s) : Keeps r (settMismatch s) := by
  unfold settMismatch
  grind (splits := 30) (ematch := 30) (gen := 60) (instances := 20000) [reportFault_keeps, escMismatch_keeps, Keeps.mk, foldl_keeps]

theorem settPcrcFail_keeps {r s : State} (h : Keeps r s) (x0) : Keeps r (settPcrcFail x0 s) := by
  unfold settPcrcFail
  grind (splits := 30) (ematch := 30) (gen := 60) (instances := 20000) [settRespond_keeps, settMismatch_keeps, retxAsk_keeps,
    retxOver_keeps, State.count_keeps, reqComplete_keeps, Keeps.mk, foldl_keeps]

theorem settMacFail_keeps {r s : State} (h : Keeps r s) : Keeps r (settMacFail s) := by
  unfold settMacFail
  grind (splits := 30) (ematch := 30) (gen := 60) (instances := 20000) [raise_keeps, State.count_keeps, Keeps.mk, foldl_keeps]

theorem settKeyless_keeps {r s : State} (h : Keeps r s) : Keeps r (settKeyless s) := by
  unfold settKeyless
  grind (splits := 30) (ematch := 30) (gen := 60) (instances := 20000) [settMacFail_keeps, Keeps.mk, foldl_keeps]

theorem settAlive_keeps {r s : State} (h : Keeps r s) (x0) : Keeps r (settAlive x0 s) := by
  unfold settAlive
  grind (splits := 30) (ematch := 30) (gen := 60) (instances := 20000) [silenceRestart_keeps, Keeps.mk, foldl_keeps]

theorem settOpen_keeps {r s : State} (h : Keeps r s) (x0) : Keeps r (settOpen x0 s).2 := by
  unfold settOpen
  grind (splits := 30) (ematch := 30) (gen := 60) (instances := 20000) [enter_keeps, settKeyless_keeps, retxOver_keeps, settAlive_keeps,
    settMacFail_keeps, Keeps.mk, foldl_keeps]

theorem settConsume_keeps {r s : State} (h : Keeps r s) (x0) : Keeps r (settConsume x0 s).2 := by
  unfold settConsume
  grind (splits := 30) (ematch := 30) (gen := 60) (instances := 20000) [settTake_keeps, settPcrcFail_keeps, settOpen_keeps, Keeps.mk,
    foldl_keeps]

theorem settAbsent_keeps {r s : State} (h : Keeps r s) (x0) : Keeps r (settAbsent x0 s) := by
  unfold settAbsent
  grind (splits := 30) (ematch := 30) (gen := 60) (instances := 20000) [settSend_keeps, Keeps.mk, foldl_keeps]

theorem settForward_keeps {r s : State} (h : Keeps r s) (x0) : Keeps r (settForward x0 s) := by
  unfold settForward
  grind (splits := 30) (ematch := 30) (gen := 60) (instances := 20000) [settPass_keeps, settAbsent_keeps, Keeps.mk, foldl_keeps]

theorem settHear_keeps {r s : State} (h : Keeps r s) (x0 x1 x2) : Keeps r (settHear x0 x1 x2 s).2 := by
  unfold settHear
  grind (splits := 30) (ematch := 30) (gen := 60) (instances := 20000) [portHeard_keeps, awake_keeps, settDiscard_keeps, settWatch_keeps,
    copyCut_keeps, settConsume_keeps, settForward_keeps, State.count_keeps, busWakes_keeps, Keeps.mk, foldl_keeps]

theorem settRx_keeps {r s : State} (h : Keeps r s) (x0 x1 x2) {f : Bytes → Bool → State → State} (hf : ∀ a b t, Keeps r t → Keeps r (f a b
    t)) :
    Keeps r (settRx x0 x1 x2 f s) := by
  have a := settHear_keeps h x0 x1 x2
  unfold settRx
  split
  · rename_i e; rw [e] at a; exact hf _ _ _ a
  · rename_i e; rw [e] at a; exact a

/-! ### SettChain -/

theorem faultFrom_keeps {r s : State} (h : Keeps r s) (x0 x1) : Keeps r (faultFrom x0 x1 s) := by
  unfold faultFrom
  grind (splits := 30) (ematch := 30) (gen := 60) (instances := 20000) [ledgerPut_keeps, actBuffer_keeps, Keeps.mk, foldl_keeps]

theorem ackTake_keeps {r s : State} (h : Keeps r s) (x0 x1 x2) : Keeps r (ackTake x0 x1 x2 s) := by
  unfold ackTake
  grind (splits := 30) (ematch := 30) (gen := 60) (instances := 20000) [State.setBit_keeps, faultFrom_keeps, chronStep_keeps, Keeps.mk,
    foldl_keeps]

theorem actingEnd_keeps {r s : State} (h : Keeps r s) : Keeps r (actingEnd s) := by
  unfold actingEnd
  grind (splits := 30) (ematch := 30) (gen := 60) (instances := 20000) [State.setBit_keeps, State.put_keeps, Keeps.mk, foldl_keeps]

theorem actingSeen_keeps {r s : State} (h : Keeps r s) (x0) : Keeps r (actingSeen x0 s) := by
  unfold actingSeen
  grind (splits := 30) (ematch := 30) (gen := 60) (instances := 20000) [silenceRestart_keeps, Keeps.mk, foldl_keeps]

theorem joinCheck_keeps {r s : State} (h : Keeps r s) : Keeps r (joinCheck s) := by
  unfold joinCheck
  grind (splits := 30) (ematch := 30) (gen := 60) (instances := 20000) [satFlush_keeps, State.setBit_keeps, settSend_keeps, Keeps.mk,
    foldl_keeps]

theorem delayRegs_keeps {r s : State} (h : Keeps r s) : Keeps r (delayRegs s) := by
  unfold delayRegs
  grind (splits := 30) (ematch := 30) (gen := 60) (instances := 20000) [State.put_keeps, Keeps.mk, foldl_keeps]

theorem dropBeyond_keeps {r s : State} (h : Keeps r s) (x0) : Keeps r (dropBeyond x0 s) := by
  unfold dropBeyond
  grind (splits := 30) (ematch := 30) (gen := 60) (instances := 20000) [setMap_keeps, Keeps.mk, foldl_keeps]

theorem enumAck_keeps {r s : State} (h : Keeps r s) (x0 x1) : Keeps r (enumAck x0 x1 s) := by
  unfold enumAck
  grind (splits := 30) (ematch := 30) (gen := 60) (instances := 20000) [settSend0_keeps, Keeps.mk, foldl_keeps]

theorem imageOffer_keeps {r s : State} (h : Keeps r s) : Keeps r (imageOffer s) := by
  unfold imageOffer
  grind (splits := 30) (ematch := 30) (gen := 60) (instances := 20000) [settSend_keeps, Keeps.mk, foldl_keeps]

theorem enumEnd_keeps {r s : State} (h : Keeps r s) : Keeps r (enumEnd s) := by
  unfold enumEnd
  grind (splits := 30) (ematch := 30) (gen := 60) (instances := 20000) [settSend0_keeps, State.setBit_keeps, bindingCommit_keeps,
    bootFinish_keeps, imageOffer_keeps, setMap_keeps, Keeps.mk, foldl_keeps]

theorem imageWorkDrop_keeps {r s : State} (h : Keeps r s) : Keeps r (imageWorkDrop s) := by
  unfold imageWorkDrop
  grind (splits := 30) (ematch := 30) (gen := 60) (instances := 20000) [State.setQueue_keeps, rmcKick_keeps, tallyCut_keeps, Keeps.mk,
    foldl_keeps]

theorem headYield_keeps {r s : State} (h : Keeps r s) : Keeps r (headYield s) := by
  unfold headYield
  grind (splits := 30) (ematch := 30) (gen := 60) (instances := 20000) [noteFault_keeps, clearQueue_keeps, State.setBit_keeps,
    sessionsDrop_keeps, State.put_keeps, imageWorkDrop_keeps, Keeps.mk, foldl_keeps]

theorem enumTake_keeps {r s : State} (h : Keeps r s) (x0) : Keeps r (enumTake x0 s) := by
  unfold enumTake
  grind (splits := 30) (ematch := 30) (gen := 60) (instances := 20000) [settSend0_keeps, State.setBit_keeps, enumAck_keeps,
    headYield_keeps, State.put_keeps, Keeps.mk, foldl_keeps]

theorem epochTake_keeps {r s : State} (h : Keeps r s) (x0) : Keeps r (epochTake x0 s) := by
  unfold epochTake
  grind (splits := 30) (ematch := 30) (gen := 60) (instances := 20000) [Keeps.mk, foldl_keeps]

theorem epochFrom_keeps {r s : State} (h : Keeps r s) (x0 x1 x2) : Keeps r (epochFrom x0 x1 x2 s) := by
  unfold epochFrom
  grind (splits := 30) (ematch := 30) (gen := 60) (instances := 20000) [epochTake_keeps, Keeps.mk, foldl_keeps]

theorem timeTake_keeps {r s : State} (h : Keeps r s) (x0 x1) : Keeps r (timeTake x0 x1 s) := by
  unfold timeTake
  grind (splits := 30) (ematch := 30) (gen := 60) (instances := 20000) [State.setBit_keeps, State.put_keeps, joinCheck_keeps, Keeps.mk,
    foldl_keeps]

theorem spliceEndNow_keeps {r s : State} (h : Keeps r s) : Keeps r (spliceEndNow s) := by
  unfold spliceEndNow
  grind (splits := 30) (ematch := 30) (gen := 60) (instances := 20000) [State.setBit_keeps, Keeps.mk, foldl_keeps]

theorem readyTake_keeps {r s : State} (h : Keeps r s) (x0 x1) : Keeps r (readyTake x0 x1 s) := by
  unfold readyTake
  grind (splits := 30) (ematch := 30) (gen := 60) (instances := 20000) [actingEnd_keeps, epochFrom_keeps, Keeps.mk, foldl_keeps]

theorem segmentLost_keeps {r s : State} (h : Keeps r s) : Keeps r (segmentLost s) := by
  unfold segmentLost
  grind (splits := 30) (ematch := 30) (gen := 60) (instances := 20000) [spliceEndNow_keeps, State.setBit_keeps, dropBeyond_keeps,
    raise_keeps, Keeps.mk, foldl_keeps]

/-! ### SettLink -/

theorem absentTake_keeps {r s : State} (h : Keeps r s) (x0 x1) : Keeps r (absentTake x0 x1 s) := by
  unfold absentTake
  grind (splits := 30) (ematch := 30) (gen := 60) (instances := 20000) [reqComplete_keeps, Keeps.mk, foldl_keeps]

theorem actRecord_keeps {r s : State} (h : Keeps r s) (x0) : Keeps r (actRecord x0 s) := by
  unfold actRecord
  grind (splits := 30) (ematch := 30) (gen := 60) (instances := 20000) [settSend0_keeps, settSend_keeps, Keeps.mk, foldl_keeps]

theorem actSend_keeps {r s : State} (h : Keeps r s) (x0) : Keeps r (actSend x0 s) := by
  unfold actSend
  grind (splits := 30) (ematch := 30) (gen := 60) (instances := 20000) [actRecord_keeps, Keeps.mk, foldl_keeps]

theorem sendConfirm_keeps {r s : State} (h : Keeps r s) (x0) : Keeps r (sendConfirm x0 s) := by
  unfold sendConfirm
  grind (splits := 30) (ematch := 30) (gen := 60) (instances := 20000) [settSend_keeps, bootMark_keeps, Keeps.mk, foldl_keeps]

theorem dataSend_keeps {r s : State} (h : Keeps r s) (x0 x1) : Keeps r (dataSend x0 x1 s) := by
  unfold dataSend
  grind (splits := 30) (ematch := 30) (gen := 60) (instances := 20000) [settSend_keeps, Keeps.mk, foldl_keeps]

theorem offerTick_keeps {r s : State} (h : Keeps r s) : Keeps r (offerTick s) := by
  unfold offerTick
  split
  · split
    · exact h
    · refine bootFinish_keeps (setMap_keeps ?_ _)
      exact Keeps.same h rfl rfl rfl rfl rfl rfl rfl
  · exact h

theorem chainPump_keeps {r s : State} (h : Keeps r s) : Keeps r (chainPump s) := by
  unfold chainPump
  grind (splits := 30) (ematch := 30) (gen := 60) (instances := 20000) [dataSend_keeps, offerTick_keeps, fobCopySend_keeps, actSend_keeps,
    Keeps.mk, foldl_keeps]

theorem confirmTake_keeps {r s : State} (h : Keeps r s) (x0 x1) : Keeps r (confirmTake x0 x1 s) := by
  unfold confirmTake
  grind (splits := 30) (ematch := 30) (gen := 60) (instances := 20000) [bootFinish_keeps, setMap_keeps, Keeps.mk, foldl_keeps]

theorem satRefuse_keeps {r s : State} (h : Keeps r s) (x0) : Keeps r (satRefuse x0 s) := by
  unfold satRefuse
  grind (splits := 30) (ematch := 30) (gen := 60) (instances := 20000) [State.setBit_keeps, sendConfirm_keeps, raise_keeps, Keeps.mk,
    foldl_keeps]

theorem raiseArb_keeps {r s : State} (h : Keeps r s) (x0) : Keeps r (raiseArb x0 s) := by
  unfold raiseArb
  grind (splits := 30) (ematch := 30) (gen := 60) (instances := 20000) [submitTally_keeps, Keeps.mk, foldl_keeps]

theorem raiseMissed_keeps {r s : State} (h : Keeps r s) (x0) : Keeps r (raiseMissed x0 s) := by
  unfold raiseMissed
  grind (splits := 30) (ematch := 30) (gen := 60) (instances := 20000) [raiseArb_keeps, Keeps.mk, foldl_keeps]

theorem serviceCheck_keeps {r s : State} (h : Keeps r s) : Keeps r (serviceCheck s) := by
  unfold serviceCheck
  grind (splits := 30) (ematch := 30) (gen := 60) (instances := 20000) [satFlush_keeps, State.setBit_keeps, joinCheck_keeps, Keeps.mk,
    foldl_keeps]

theorem satLoad_keeps {r s : State} (h : Keeps r s) (x0) : Keeps r (satLoad x0 s) := by
  unfold satLoad
  grind (splits := 30) (ematch := 30) (gen := 60) (instances := 20000) [imageLoad_keeps, State.setBit_keeps, raiseMissed_keeps,
    sendConfirm_keeps, State.put_keeps, serviceCheck_keeps, Keeps.mk, foldl_keeps]

theorem imageWhole_keeps {r s : State} (h : Keeps r s) : Keeps r (imageWhole s) := by
  unfold imageWhole
  grind (splits := 30) (ematch := 30) (gen := 60) (instances := 20000) [verifyImage_keeps, satRefuse_keeps, satLoad_keeps, Keeps.mk,
    foldl_keeps]

theorem dataTake_keeps {r s : State} (h : Keeps r s) (x0) : Keeps r (dataTake x0 s) := by
  unfold dataTake
  grind (splits := 30) (ematch := 30) (gen := 60) (instances := 20000) [imageWhole_keeps, Keeps.mk, foldl_keeps]

theorem handedTick_keeps {r s : State} (h : Keeps r s) : Keeps r (handedTick s) := by
  unfold handedTick
  grind (splits := 30) (ematch := 30) (gen := 60) (instances := 20000) [ledgerPut_keeps, Keeps.mk, foldl_keeps]

theorem relayAsk_keeps {r s : State} (h : Keeps r s) (x0 x1 x2) : Keeps r (relayAsk x0 x1 x2 s) := by
  unfold relayAsk
  grind (splits := 30) (ematch := 30) (gen := 60) (instances := 20000) [settAsk_keeps, Keeps.mk, foldl_keeps]

theorem eventTake_keeps {r s : State} (h : Keeps r s) (x0 x1) : Keeps r (eventTake x0 x1 s) := by
  unfold eventTake
  grind (splits := 30) (ematch := 30) (gen := 60) (instances := 20000) [relayAsk_keeps, fireTrigger_keeps, Keeps.mk, foldl_keeps]

theorem requestTake_keeps {r s : State} (h : Keeps r s) (x0 x1) : Keeps r (requestTake x0 x1 s) := by
  unfold requestTake
  grind (splits := 30) (ematch := 30) (gen := 60) (instances := 20000) [fabReadN_keeps, settRespond_keeps, settDiscard_keeps,
    fabWriteN_keeps, Keeps.mk, foldl_keeps]

theorem recTake_keeps {r s : State} (h : Keeps r s) (x0 x1) : Keeps r (recTake x0 x1 s) := by
  unfold recTake
  grind (splits := 30) (ematch := 30) (gen := 60) (instances := 20000) [ledgerPut_keeps, actBuffer_keeps, Keeps.mk, foldl_keeps]

theorem offerTake_keeps {r s : State} (h : Keeps r s) (x0) : Keeps r (offerTake x0 s) := by
  unfold offerTake
  grind (splits := 30) (ematch := 30) (gen := 60) (instances := 20000) [State.setBit_keeps, raiseMissed_keeps, verifyImage_keeps,
    sendConfirm_keeps, satRefuse_keeps, satLoad_keeps, serviceCheck_keeps, Keeps.mk, foldl_keeps]

theorem relayTake_keeps {r s : State} (h : Keeps r s) (x0 x1 x2) : Keeps r (relayTake x0 x1 x2 s) := by
  unfold relayTake
  grind (splits := 30) (ematch := 30) (gen := 60) (instances := 20000) [relayAsk_keeps, settAsk_keeps, replyDelivered_keeps, Keeps.mk,
    foldl_keeps]

theorem responseTake_keeps {r s : State} (h : Keeps r s) (x0 x1) : Keeps r (responseTake x0 x1 s) := by
  unfold responseTake
  grind (splits := 30) (ematch := 30) (gen := 60) (instances := 20000) [eventTake_keeps, relayTake_keeps, Keeps.mk, foldl_keeps]

theorem retxTake_keeps {r s : State} (h : Keeps r s) (x0 x1) : Keeps r (retxTake x0 x1 s) := by
  unfold retxTake
  grind (splits := 30) (ematch := 30) (gen := 60) (instances := 20000) [settSend0_keeps, settSend_keeps, Keeps.mk, foldl_keeps]

theorem profileTake_keeps {r s : State} (h : Keeps r s) (x0) : Keeps r (profileTake x0 s) := by
  unfold profileTake
  grind (splits := 30) (ematch := 30) (gen := 60) (instances := 20000) [profileEntry_keeps, sleepNow_keeps, enterProfile_keeps,
    bootMark_keeps, Keeps.mk, foldl_keeps]

theorem reportOnly_keeps {r s : State} (h : Keeps r s) (x0 x1) : Keeps r (reportOnly x0 x1 s) := by
  unfold reportOnly
  grind (splits := 30) (ematch := 30) (gen := 60) (instances := 20000) [settSend_keeps, Keeps.mk, foldl_keeps]

theorem planTake_keeps {r s : State} (h : Keeps r s) (x0) : Keeps r (planTake x0 s) := by
  unfold planTake
  grind (splits := 30) (ematch := 30) (gen := 60) (instances := 20000) [setOh_keeps, laneHold_keeps, reportOnly_keeps, listenPass_keeps,
    Keeps.mk, foldl_keeps]

theorem storedLeave_keeps {r s : State} (h : Keeps r s) (x0 x1) : Keeps r (storedLeave x0 x1 s) := by
  unfold storedLeave
  grind (splits := 30) (ematch := 30) (gen := 60) (instances := 20000) [portBusy_keeps, Keeps.mk, foldl_keeps]

theorem reportLate_keeps {r s : State} (h : Keeps r s) (x0 x1) : Keeps r (reportLate x0 x1 s) := by
  unfold reportLate
  grind (splits := 30) (ematch := 30) (gen := 60) (instances := 20000) [modifySession_keeps, trackerFix_keeps, judgeAll_keeps, Keeps.mk,
    foldl_keeps]

theorem reportTake_keeps {r s : State} (h : Keeps r s) (x0 x1) : Keeps r (reportTake x0 x1 s) := by
  unfold reportTake
  grind (splits := 30) (ematch := 30) (gen := 60) (instances := 20000) [setEx_keeps, reportLate_keeps, Keeps.mk, foldl_keeps]

/-! ### SettSplice -/

theorem actingBegin_keeps {r s : State} (h : Keeps r s) : Keeps r (actingBegin s) := by
  unfold actingBegin
  grind (splits := 30) (ematch := 30) (gen := 60) (instances := 20000) [State.setBit_keeps, evalProfile_keeps, raise_keeps, setMap_keeps,
    Keeps.mk, foldl_keeps]

theorem assignEpoch_keeps {r s : State} (h : Keeps r s) (x0) : Keeps r (assignEpoch x0 s) := by
  unfold assignEpoch
  grind (splits := 30) (ematch := 30) (gen := 60) (instances := 20000) [Keeps.mk, foldl_keeps]

theorem assignTake_keeps {r s : State} (h : Keeps r s) (x0 x1) : Keeps r (assignTake x0 x1 s) := by
  unfold assignTake
  grind (splits := 30) (ematch := 30) (gen := 60) (instances := 20000) [State.setBit_keeps, assignEpoch_keeps, State.put_keeps,
    actingEnd_keeps, Keeps.mk, foldl_keeps]

theorem spliceOver_keeps {r s : State} (h : Keeps r s) (x0) : Keeps r (spliceOver x0 s) := by
  unfold spliceOver
  grind (splits := 30) (ematch := 30) (gen := 60) (instances := 20000) [State.setBit_keeps, Keeps.mk, foldl_keeps]

theorem spliceGiven_keeps {r s : State} (h : Keeps r s) (x0) : Keeps r (spliceGiven x0 s) := by
  unfold spliceGiven
  grind (splits := 30) (ematch := 30) (gen := 60) (instances := 20000) [State.setBit_keeps, spliceOver_keeps, Keeps.mk, foldl_keeps]

theorem assignFrame_keeps {r s : State} (h : Keeps r s) (x0 x1) : Keeps r (assignFrame x0 x1 s) := by
  unfold assignFrame
  grind (splits := 30) (ematch := 30) (gen := 60) (instances := 20000) [State.setBit_keeps, assignTake_keeps, spliceGiven_keeps,
    settPass_keeps, Keeps.mk, foldl_keeps]

theorem joinTake_keeps {r s : State} (h : Keeps r s) (x0) : Keeps r (joinTake x0 s) := by
  unfold joinTake
  grind (splits := 30) (ematch := 30) (gen := 60) (instances := 20000) [settSend_keeps, spliceOver_keeps, setMap_keeps, Keeps.mk,
    foldl_keeps]

theorem spliceServe_keeps {r s : State} (h : Keeps r s) (x0 x1 x2) : Keeps r (spliceServe x0 x1 x2 s) := by
  unfold spliceServe
  grind (splits := 30) (ematch := 30) (gen := 60) (instances := 20000) [settSend0_keeps, bindingCommit_keeps, spliceGiven_keeps,
    raise_keeps, imageOffer_keeps, Keeps.mk, foldl_keeps]

theorem probeTake_keeps {r s : State} (h : Keeps r s) (x0 x1) : Keeps r (probeTake x0 x1 s) := by
  unfold probeTake
  grind (splits := 30) (ematch := 30) (gen := 60) (instances := 20000) [settSend0_keeps, settPass_keeps, Keeps.mk, foldl_keeps]

theorem replyTake_keeps {r s : State} (h : Keeps r s) (x0 x1) : Keeps r (replyTake x0 x1 s) := by
  unfold replyTake
  grind (splits := 30) (ematch := 30) (gen := 60) (instances := 20000) [settPass_keeps, Keeps.mk, foldl_keeps]

theorem headLost_keeps {r s : State} (h : Keeps r s) (x0) : Keeps r (headLost x0 s) := by
  unfold headLost
  grind (splits := 30) (ematch := 30) (gen := 60) (instances := 20000) [State.setBit_keeps, sessionsDrop_keeps, airDrop_keeps, Keeps.mk,
    foldl_keeps]

/-! ### Writes -/

theorem fabAnswer_keeps {r : State} (m : Master) {x : FabStatus × State} (h : Keeps r x.2) : Keeps r (fabAnswer m x) := answerTo_keeps h _ _
    _

theorem wordWrite_keeps {r s : State} (h : Keeps r s) (x0 x1 x2) (t : State) (e : wordWrite x0 x1 x2 s = .next t) : Keeps r t := by
  cases e
  exact fabAnswer_keeps _ (fabWrite_keeps h _ _ _ _)

theorem cryGo_keeps {r s : State} (h : Keeps r s) (x0 x1 x2 x3 x4) (t : State) (e : cryGo x0 x1 x2 x3 x4 s = .next t) : Keeps r t := by
  unfold cryGo at e
  grind (splits := 30) (ematch := 30) (gen := 60) (instances := 20000) [wordWrite_keeps, Keeps.mk, foldl_keeps]

theorem denGo_keeps {r s : State} (h : Keeps r s) (x0 x1 x2) (t : State) (e : denGo x0 x1 x2 s = .next t) : Keeps r t := by
  unfold denGo at e
  grind (splits := 30) (ematch := 30) (gen := 60) (instances := 20000) [wordWrite_keeps, Keeps.mk, foldl_keeps]

theorem randRead_keeps {r s : State} (h : Keeps r s) (x0) : Keeps r (randRead x0 s) := by
  unfold randRead
  grind (splits := 30) (ematch := 30) (gen := 60) (instances := 20000) [randAnswer_keeps, enqueue_keeps, randReq_keeps, Keeps.mk,
    foldl_keeps]

/-! ### Complete -/

theorem baseDone_keeps {r s : State} (h : Keeps r s) (x0 x1) : Keeps r (baseDone x0 x1 s) := by
  unfold baseDone
  grind (splits := 30) (ematch := 30) (gen := 60) (instances := 20000) [State.setTally_keeps, Keeps.mk, foldl_keeps]

theorem tallyTold_keeps {r s : State} (h : Keeps r s) (x0 x1) : Keeps r (tallyTold x0 x1 s) := by
  unfold tallyTold
  grind (splits := 30) (ematch := 30) (gen := 60) (instances := 20000) [confirmTell_keeps, routineOk_keeps, confirmStop_keeps,
    sendConfirm_keeps, tcmdDone_keeps, lcEnter_keeps, routineFail_keeps, denDone_keeps, startTokenSend_keeps, Keeps.mk, foldl_keeps]

theorem tallyOver_keeps {r s : State} (h : Keeps r s) (x0 x1) : Keeps r (tallyOver x0 x1 s) := by
  unfold tallyOver
  grind (splits := 30) (ematch := 30) (gen := 60) (instances := 20000) [tallyTold_keeps, tallyEnd_keeps, Keeps.mk, foldl_keeps]

theorem cellOver_keeps {r s : State} (h : Keeps r s) (x0) : Keeps r (cellOver x0 s) := by
  unfold cellOver
  grind (splits := 30) (ematch := 30) (gen := 60) (instances := 20000) [State.setTally_keeps, tallyOver_keeps, tallyStart_keeps, Keeps.mk,
    foldl_keeps]

theorem denGroupDone_keeps {r s : State} (h : Keeps r s) (x0 x1) : Keeps r (denGroupDone x0 x1 s) := by
  unfold denGroupDone
  grind (splits := 30) (ematch := 30) (gen := 60) (instances := 20000) [denDone_keeps, Keeps.mk, foldl_keeps]

theorem downloadReady_keeps {r s : State} (h : Keeps r s) (x0) : Keeps r (downloadReady x0 s) := by
  unfold downloadReady
  grind (splits := 30) (ematch := 30) (gen := 60) (instances := 20000) [setRej_keeps, diagNeg_keeps, diagPos_keeps, State.put_keeps,
    Keeps.mk, foldl_keeps]

theorem enrolDone_keeps {r s : State} (h : Keeps r s) (x0 x1) : Keeps r (enrolDone x0 x1 s) := by
  unfold enrolDone
  grind (splits := 30) (ematch := 30) (gen := 60) (instances := 20000) [routineOk_keeps, sessionEnd_keeps, sesKick_keeps,
    recordWritten_keeps, laneFree_keeps, routineFail_keeps, logRec_keeps, Keeps.mk, foldl_keeps]

theorem pendingMarked_keeps {r s : State} (h : Keeps r s) (x0) : Keeps r (pendingMarked x0 s) := by
  unfold pendingMarked
  grind (splits := 30) (ematch := 30) (gen := 60) (instances := 20000) [diagNeg_keeps, diagPos_keeps, State.put_keeps, Keeps.mk,
    foldl_keeps]

theorem fobRoutineDone_keeps {r s : State} (h : Keeps r s) (x0 x1 x2) : Keeps r (fobRoutineDone x0 x1 x2 s) := by
  unfold fobRoutineDone
  grind (splits := 30) (ematch := 30) (gen := 60) (instances := 20000) [routineOk_keeps, sessionEnd_keeps, sesKick_keeps,
    recordWritten_keeps, routineFail_keeps, logRec_keeps, Keeps.mk, foldl_keeps]

theorem trialCleared_keeps {r s : State} (h : Keeps r s) (x0 x1) : Keeps r (trialCleared x0 x1 s) := by
  unfold trialCleared
  grind (splits := 30) (ematch := 30) (gen := 60) (instances := 20000) [confirmRaise_keeps, confirmStop_keeps, routineFail_keeps,
    Keeps.mk, foldl_keeps]

theorem noticeGroupDone_keeps {r s : State} (h : Keeps r s) (x0 x1) : Keeps r (noticeGroupDone x0 x1 s) := by
  unfold noticeGroupDone
  grind (splits := 30) (ematch := 30) (gen := 60) (instances := 20000) [setNotice_keeps, Keeps.mk, foldl_keeps]

theorem groupTold_keeps {r s : State} (h : Keeps r s) (x0 x1) : Keeps r (groupTold x0 x1 s) := by
  unfold groupTold
  grind (splits := 30) (ematch := 30) (gen := 60) (instances := 20000) [denGroupDone_keeps, retireNext_keeps, pendingMarked_keeps,
    cryDone_keeps, fobRoutineDone_keeps, downloadReady_keeps, commitEnded_keeps, denDone_keeps, trialCleared_keeps, windowDone_keeps,
    enrolDone_keeps, noticeGroupDone_keeps, Keeps.mk, foldl_keeps]

theorem groupEnd_keeps {r s : State} (h : Keeps r s) (x0 x1) : Keeps r (groupEnd x0 x1 s) := by
  unfold groupEnd
  grind (splits := 30) (ematch := 30) (gen := 60) (instances := 20000) [baseDone_keeps, groupTold_keeps, applyShadow_keeps,
    storeNext_keeps, markerUsed_keeps, tallyOver_keeps, raise_keeps, Keeps.mk, foldl_keeps]

end Sys2Proof.Machine
end

