-- ==== Sys2Proof/Laws/KeepsG.lean ====
section
/-! SUPPORT. What the operations of Clock, HostPort, Shared, Step keep. -/

namespace Sys2Proof.Machine

/-! ### Clock -/

theorem ppsFall_keeps {r s : State} (h : Keeps r s) : Keeps r (ppsFall s) := by
  unfold ppsFall
  grind (splits := 30) (ematch := 30) (gen := 60) (instances := 20000) [captureEdge_keeps, Keeps.mk, foldl_keeps]

theorem snapshot_keeps {r s : State} (h : Keeps r s) : Keeps r (snapshot s) := by
  unfold snapshot
  grind (splits := 30) (ematch := 30) (gen := 60) (instances := 20000) [canSend_keeps, State.put_keeps, Keeps.mk, foldl_keeps]

theorem ppsSecond_keeps {r s : State} (h : Keeps r s) : Keeps r (ppsSecond s) := by
  unfold ppsSecond
  grind (splits := 30) (ematch := 30) (gen := 60) (instances := 20000) [snapshot_keeps, captureEdge_keeps, Keeps.mk, foldl_keeps]

theorem motionSecond_keeps {r s : State} (h : Keeps r s) : Keeps r (motionSecond s) := by
  unfold motionSecond
  grind (splits := 30) (ematch := 30) (gen := 60) (instances := 20000) [motionFlush_keeps, Keeps.mk, foldl_keeps]

theorem secondCounted_keeps {r s : State} (h : Keeps r s) : Keeps r (secondCounted s) := by
  unfold secondCounted
  grind (splits := 30) (ematch := 30) (gen := 60) (instances := 20000) [dayCheck_keeps, ppsSecond_keeps, motionSecond_keeps, Keeps.mk,
    foldl_keeps]

theorem clockTick_keeps {r s : State} (h : Keeps r s) : Keeps r (clockTick s) := by
  unfold clockTick
  grind (splits := 30) (ematch := 30) (gen := 60) (instances := 20000) [State.setBit_keeps, timersTick_keeps, ppsFall_keeps,
    secondCounted_keeps, Keeps.mk, foldl_keeps]

theorem laneEmitted_keeps {r s : State} (h : Keeps r s) (x0) : Keeps r (laneEmitted x0 s) := by
  unfold laneEmitted
  grind (splits := 30) (ematch := 30) (gen := 60) (instances := 20000) [laneDone_keeps, laneTxEnd_keeps, Keeps.mk, foldl_keeps]

theorem laneTick_keeps {r s : State} (h : Keeps r s) (x0) : Keeps r (laneTick x0 s) := by
  unfold laneTick
  grind (splits := 30) (ematch := 30) (gen := 60) (instances := 20000) [loopTick_keeps, laneEmitted_keeps, sesKick_keeps, laneTurn_keeps,
    windowYield_keeps, txDeadline_keeps, Keeps.mk, foldl_keeps]

theorem entropyTick_keeps {r s : State} (h : Keeps r s) : Keeps r (entropyTick s) := by
  unfold entropyTick
  grind (splits := 30) (ematch := 30) (gen := 60) (instances := 20000) [sessionEnd_keeps, latchFlush_keeps, Keeps.mk, foldl_keeps]

theorem sesTick_keeps {r s : State} (h : Keeps r s) : Keeps r (sesTick s) := by
  unfold sesTick
  grind (splits := 30) (ematch := 30) (gen := 60) (instances := 20000) [judgeAll_keeps, Keeps.mk, foldl_keeps]

theorem hedgeBeat_keeps {r s : State} (h : Keeps r s) : Keeps r (hedgeBeat s) := by
  unfold hedgeBeat
  grind (splits := 30) (ematch := 30) (gen := 60) (instances := 20000) [Keeps.mk, foldl_keeps]

theorem storeTick_keeps {r s : State} (h : Keeps r s) : Keeps r (storeTick s) := by
  unfold storeTick
  grind (splits := 30) (ematch := 30) (gen := 60) (instances := 20000) [resubmitGroups_keeps, Keeps.mk, foldl_keeps]

theorem enginesTick_keeps {r s : State} (h : Keeps r s) : Keeps r (enginesTick s) := by
  unfold enginesTick
  grind (splits := 30) (ematch := 30) (gen := 60) (instances := 20000) [laneTick_keeps, diagPump_keeps, entropyTick_keeps,
    symRelease_keeps, chainPump_keeps, handedTick_keeps, sleepTail_keeps, internalTick_keeps, sesTick_keeps, coilRoutineEnd_keeps,
    ringStirred_keeps, noticeSearch_keeps, hedgeBeat_keeps, fieldTick_keeps, storeTick_keeps, lineTick_keeps, Keeps.mk, foldl_keeps]

theorem tick_keeps {r s : State} (h : Keeps r s) : Keeps r (tick s) := by
  unfold tick
  grind (splits := 30) (ematch := 30) (gen := 60) (instances := 20000) [enginesTick_keeps, eventsEvaluate_keeps, clockTick_keeps,
    Keeps.mk, foldl_keeps]

theorem tickIf_keeps {r s : State} (h : Keeps r s) (x0) (t : State) (e : tickIf x0 s = .next t) : Keeps r t := by
  unfold tickIf at e
  grind (splits := 30) (ematch := 30) (gen := 60) (instances := 20000) [tick_keeps, Keeps.mk, foldl_keeps]

/-! ### HostPort -/

theorem hostFrameError_keeps {r s : State} (h : Keeps r s) : Keeps r (hostFrameError s) := by
  unfold hostFrameError
  grind (splits := 30) (ematch := 30) (gen := 60) (instances := 20000) [raise_keeps, State.count_keeps, Keeps.mk, foldl_keeps]

theorem hostAnswer_keeps {r s : State} (h : Keeps r s) (x0 x1) : Keeps r (hostAnswer x0 x1 s) := by
  unfold hostAnswer
  grind (splits := 30) (ematch := 30) (gen := 60) (instances := 20000) [Keeps.mk, foldl_keeps]

theorem hostServe_keeps {r s : State} (h : Keeps r s) (x0 x1) {f : HostReq → State → State} (hf : ∀ a t, Keeps r t → Keeps r (f a t)) :
    Keeps r (hostServe x0 x1 f s) := by
  unfold hostServe
  split
  · exact h
  · split
    · exact hostAnswer_keeps (hostFrameError_keeps (awake_keeps h)) _ _
    · split
      · exact h
      · split
        · exact hostAnswer_keeps h _ _
        · exact hf _ _ (awake_keeps (enter_keeps h _ _))

theorem hostStatus_keeps {r s : State} (h : Keeps r s) (x0 x1) : Keeps r (hostStatus x0 x1 s) := by
  unfold hostStatus
  grind (splits := 30) (ematch := 30) (gen := 60) (instances := 20000) [hostAnswer_keeps, Keeps.mk, foldl_keeps]

/-! ### Shared -/

theorem discard_keeps {r s : State} (h : Keeps r s) (x0) : Keeps r (discard x0 s) := by
  unfold discard
  grind (splits := 30) (ematch := 30) (gen := 60) (instances := 20000) [Keeps.mk, foldl_keeps]

theorem Source.lost_keeps {r s : State} (h : Keeps r s) (x0) : Keeps r (Source.lost x0 s) := by
  unfold Source.lost
  grind (splits := 30) (ematch := 30) (gen := 60) (instances := 20000) [State.setLane_keeps, retxAsk_keeps, State.put_keeps,
    discard_keeps, State.count_keeps, Keeps.mk, foldl_keeps]

theorem scheduleDrop_keeps {r s : State} (h : Keeps r s) (x0 x1) : Keeps r (scheduleDrop x0 s x1) := by
  unfold scheduleDrop
  grind (splits := 30) (ematch := 30) (gen := 60) (instances := 20000) [waiterEnds_keeps, State.setQueue_keeps, Keeps.mk, foldl_keeps]

theorem channelPreempt_keeps {r s : State} (h : Keeps r s) (x0) : Keeps r (channelPreempt x0 s) := by
  unfold channelPreempt
  grind (splits := 30) (ematch := 30) (gen := 60) (instances := 20000) [lfEnd_keeps, scheduleDrop_keeps, Keeps.mk, foldl_keeps]

theorem escAnswer_keeps {r s : State} (h : Keeps r s) (x0) : Keeps r (escAnswer x0 s) := by
  unfold escAnswer
  grind (splits := 30) (ematch := 30) (gen := 60) (instances := 20000) [Keeps.mk, foldl_keeps]

theorem faultItem_keeps {r s : State} (h : Keeps r s) (x0) : Keeps r (faultItem s x0) := by
  unfold faultItem
  grind (splits := 30) (ematch := 30) (gen := 60) (instances := 20000) [groupTold_keeps, waiterEnds_keeps, tallyTold_keeps, Keeps.mk,
    foldl_keeps]

theorem reportBlock_keeps {r s : State} (h : Keeps r s) (x0 x1) : Keeps r (reportBlock x0 x1 s) := by
  unfold reportBlock
  grind (splits := 30) (ematch := 30) (gen := 60) (instances := 20000) [reportFault_keeps, faultItem_keeps, Keeps.mk, foldl_keeps]

theorem mismatches_keeps {r s : State} (h : Keeps r s) (x0 x1) : Keeps r (mismatches x0 x1 s) := by
  induction x1 generalizing s with
  | zero => exact h
  | succ n ih =>
    unfold mismatches
    grind (splits := 30) (ematch := 30) (gen := 60) (instances := 20000) [escMismatch_keeps, reportBlock_keeps]

theorem leafRefused_keeps {r s : State} (h : Keeps r s) (x0) : Keeps r (leafRefused x0 s) := by
  unfold leafRefused
  grind (splits := 30) (ematch := 30) (gen := 60) (instances := 20000) [Keeps.mk, foldl_keeps]

theorem escortRun_keeps {r s : State} (h : Keeps r s) (x0 x1 x2) : Keeps r (escortRun x0 x1 x2 s) := by
  unfold escortRun
  grind (splits := 30) (ematch := 30) (gen := 60) (instances := 20000) [mismatches_keeps, Source.lost_keeps, reportBlock_keeps,
    recomputes_keeps, escAnswer_keeps, raise_keeps, State.count_keeps, leafRefused_keeps, Keeps.mk, foldl_keeps]

theorem lanePreempt_keeps {r s : State} (h : Keeps r s) (x0) : Keeps r (lanePreempt x0 s) := by
  unfold lanePreempt
  grind (splits := 30) (ematch := 30) (gen := 60) (instances := 20000) [laneRelease_keeps, laneDrop_keeps, laneServe_keeps, Keeps.mk,
    foldl_keeps]

theorem slotTold_keeps {r s : State} (h : Keeps r s) (x0) : Keeps r (slotTold x0 s) := by
  unfold slotTold
  grind (splits := 30) (ematch := 30) (gen := 60) (instances := 20000) [answerTo_keeps, Keeps.mk, foldl_keeps]

theorem slotPreempt_keeps {r s : State} (h : Keeps r s) (x0) : Keeps r (slotPreempt x0 s) := by
  unfold slotPreempt
  grind (splits := 30) (ematch := 30) (gen := 60) (instances := 20000) [cryDone_keeps, slotTold_keeps, denDone_keeps, Keeps.mk, foldl_keeps]

/-! ### Step -/

theorem State.withFetchWord_keeps {r s : State} (h : Keeps r s) (x0 x1) : Keeps r (s.withFetchWord x0 x1) := h

end Sys2Proof.Machine
end

