-- ==== Sys2Proof/Laws/State.lean ====
section
/-! SUPPORT. What each named update of the state leaves: one lemma per field and update, each true by unfolding once. -/

namespace Sys2Proof.Machine

/-! ### State.wr -/

@[simp] theorem State.wr_pending (s : State) (a : Nat) (v : Word) : (s.wr a v).pending = s.pending := rfl
@[simp] theorem State.wr_now (s : State) (a : Nat) (v : Word) : (s.wr a v).now = s.now := rfl
@[simp] theorem State.wr_freeCtr (s : State) (a : Nat) (v : Word) : (s.wr a v).freeCtr = s.freeCtr := rfl
@[simp] theorem State.wr_hwSet (s : State) (a : Nat) (v : Word) : (s.wr a v).hwSet = s.hwSet := rfl
@[simp] theorem State.wr_sram (s : State) (a : Nat) (v : Word) : (s.wr a v).sram = s.sram := rfl
@[simp] theorem State.wr_queues (s : State) (a : Nat) (v : Word) : (s.wr a v).queues = s.queues := rfl
@[simp] theorem State.wr_chron (s : State) (a : Nat) (v : Word) : (s.wr a v).chron = s.chron := rfl
@[simp] theorem State.wr_timers (s : State) (a : Nat) (v : Word) : (s.wr a v).timers = s.timers := rfl
@[simp] theorem State.wr_motion (s : State) (a : Nat) (v : Word) : (s.wr a v).motion = s.motion := rfl
@[simp] theorem State.wr_ledAon (s : State) (a : Nat) (v : Word) : (s.wr a v).ledAon = s.ledAon := rfl
@[simp] theorem State.wr_entAon (s : State) (a : Nat) (v : Word) : (s.wr a v).entAon = s.entAon := rfl
@[simp] theorem State.wr_hhAon (s : State) (a : Nat) (v : Word) : (s.wr a v).hhAon = s.hhAon := rfl
@[simp] theorem State.wr_data (s : State) (a : Nat) (v : Word) : (s.wr a v).data = s.data := rfl
@[simp] theorem State.wr_touch (s : State) (a : Nat) (v : Word) : (s.wr a v).touch = s.touch := rfl
@[simp] theorem State.wr_lines (s : State) (a : Nat) (v : Word) : (s.wr a v).lines = s.lines := rfl
@[simp] theorem State.wr_powAon (s : State) (a : Nat) (v : Word) : (s.wr a v).powAon = s.powAon := rfl
@[simp] theorem State.wr_power (s : State) (a : Nat) (v : Word) : (s.wr a v).power = s.power := rfl
@[simp] theorem State.wr_boot (s : State) (a : Nat) (v : Word) : (s.wr a v).boot = s.boot := rfl
@[simp] theorem State.wr_straps (s : State) (a : Nat) (v : Word) : (s.wr a v).straps = s.straps := rfl
@[simp] theorem State.wr_img (s : State) (a : Nat) (v : Word) : (s.wr a v).img = s.img := rfl
@[simp] theorem State.wr_imgAon (s : State) (a : Nat) (v : Word) : (s.wr a v).imgAon = s.imgAon := rfl
@[simp] theorem State.wr_sett (s : State) (a : Nat) (v : Word) : (s.wr a v).sett = s.sett := rfl
@[simp] theorem State.wr_wm (s : State) (a : Nat) (v : Word) : (s.wr a v).wm = s.wm := rfl
@[simp] theorem State.wr_led (s : State) (a : Nat) (v : Word) : (s.wr a v).led = s.led := rfl
@[simp] theorem State.wr_nand (s : State) (a : Nat) (v : Word) : (s.wr a v).nand = s.nand := rfl
@[simp] theorem State.wr_nv (s : State) (a : Nat) (v : Word) : (s.wr a v).nv = s.nv := rfl
@[simp] theorem State.wr_rmc (s : State) (a : Nat) (v : Word) : (s.wr a v).rmc = s.rmc := rfl
@[simp] theorem State.wr_den (s : State) (a : Nat) (v : Word) : (s.wr a v).den = s.den := rfl
@[simp] theorem State.wr_cry (s : State) (a : Nat) (v : Word) : (s.wr a v).cry = s.cry := rfl
@[simp] theorem State.wr_ent (s : State) (a : Nat) (v : Word) : (s.wr a v).ent = s.ent := rfl
@[simp] theorem State.wr_can (s : State) (a : Nat) (v : Word) : (s.wr a v).can = s.can := rfl
@[simp] theorem State.wr_ring (s : State) (a : Nat) (v : Word) : (s.wr a v).ring = s.ring := rfl
@[simp] theorem State.wr_hpt (s : State) (a : Nat) (v : Word) : (s.wr a v).hpt = s.hpt := rfl
@[simp] theorem State.wr_hh (s : State) (a : Nat) (v : Word) : (s.wr a v).hh = s.hh := rfl
@[simp] theorem State.wr_outs (s : State) (a : Nat) (v : Word) : (s.wr a v).outs = s.outs := rfl
@[simp] theorem State.wr_lfAon (s : State) (a : Nat) (v : Word) : (s.wr a v).lfAon = s.lfAon := rfl
@[simp] theorem State.wr_lf (s : State) (a : Nat) (v : Word) : (s.wr a v).lf = s.lf := rfl
@[simp] theorem State.wr_air (s : State) (a : Nat) (v : Word) : (s.wr a v).air = s.air := rfl
@[simp] theorem State.wr_fox (s : State) (a : Nat) (v : Word) : (s.wr a v).fox = s.fox := rfl
@[simp] theorem State.wr_ses (s : State) (a : Nat) (v : Word) : (s.wr a v).ses = s.ses := rfl
@[simp] theorem State.wr_tagAon (s : State) (a : Nat) (v : Word) : (s.wr a v).tagAon = s.tagAon := rfl
@[simp] theorem State.wr_tag (s : State) (a : Nat) (v : Word) : (s.wr a v).tag = s.tag := rfl

/-! ### State.put -/

@[simp] theorem State.put_pending (s : State) (f : Fld) (v : Nat) : (s.put f v).pending = s.pending := rfl
@[simp] theorem State.put_now (s : State) (f : Fld) (v : Nat) : (s.put f v).now = s.now := rfl
@[simp] theorem State.put_freeCtr (s : State) (f : Fld) (v : Nat) : (s.put f v).freeCtr = s.freeCtr := rfl
@[simp] theorem State.put_hwSet (s : State) (f : Fld) (v : Nat) : (s.put f v).hwSet = s.hwSet := rfl
@[simp] theorem State.put_sram (s : State) (f : Fld) (v : Nat) : (s.put f v).sram = s.sram := rfl
@[simp] theorem State.put_queues (s : State) (f : Fld) (v : Nat) : (s.put f v).queues = s.queues := rfl
@[simp] theorem State.put_chron (s : State) (f : Fld) (v : Nat) : (s.put f v).chron = s.chron := rfl
@[simp] theorem State.put_timers (s : State) (f : Fld) (v : Nat) : (s.put f v).timers = s.timers := rfl
@[simp] theorem State.put_motion (s : State) (f : Fld) (v : Nat) : (s.put f v).motion = s.motion := rfl
@[simp] theorem State.put_ledAon (s : State) (f : Fld) (v : Nat) : (s.put f v).ledAon = s.ledAon := rfl
@[simp] theorem State.put_entAon (s : State) (f : Fld) (v : Nat) : (s.put f v).entAon = s.entAon := rfl
@[simp] theorem State.put_hhAon (s : State) (f : Fld) (v : Nat) : (s.put f v).hhAon = s.hhAon := rfl
@[simp] theorem State.put_data (s : State) (f : Fld) (v : Nat) : (s.put f v).data = s.data := rfl
@[simp] theorem State.put_touch (s : State) (f : Fld) (v : Nat) : (s.put f v).touch = s.touch := rfl
@[simp] theorem State.put_lines (s : State) (f : Fld) (v : Nat) : (s.put f v).lines = s.lines := rfl
@[simp] theorem State.put_powAon (s : State) (f : Fld) (v : Nat) : (s.put f v).powAon = s.powAon := rfl
@[simp] theorem State.put_power (s : State) (f : Fld) (v : Nat) : (s.put f v).power = s.power := rfl
@[simp] theorem State.put_boot (s : State) (f : Fld) (v : Nat) : (s.put f v).boot = s.boot := rfl
@[simp] theorem State.put_straps (s : State) (f : Fld) (v : Nat) : (s.put f v).straps = s.straps := rfl
@[simp] theorem State.put_img (s : State) (f : Fld) (v : Nat) : (s.put f v).img = s.img := rfl
@[simp] theorem State.put_imgAon (s : State) (f : Fld) (v : Nat) : (s.put f v).imgAon = s.imgAon := rfl
@[simp] theorem State.put_sett (s : State) (f : Fld) (v : Nat) : (s.put f v).sett = s.sett := rfl
@[simp] theorem State.put_wm (s : State) (f : Fld) (v : Nat) : (s.put f v).wm = s.wm := rfl
@[simp] theorem State.put_led (s : State) (f : Fld) (v : Nat) : (s.put f v).led = s.led := rfl
@[simp] theorem State.put_nand (s : State) (f : Fld) (v : Nat) : (s.put f v).nand = s.nand := rfl
@[simp] theorem State.put_nv (s : State) (f : Fld) (v : Nat) : (s.put f v).nv = s.nv := rfl
@[simp] theorem State.put_rmc (s : State) (f : Fld) (v : Nat) : (s.put f v).rmc = s.rmc := rfl
@[simp] theorem State.put_den (s : State) (f : Fld) (v : Nat) : (s.put f v).den = s.den := rfl
@[simp] theorem State.put_cry (s : State) (f : Fld) (v : Nat) : (s.put f v).cry = s.cry := rfl
@[simp] theorem State.put_ent (s : State) (f : Fld) (v : Nat) : (s.put f v).ent = s.ent := rfl
@[simp] theorem State.put_can (s : State) (f : Fld) (v : Nat) : (s.put f v).can = s.can := rfl
@[simp] theorem State.put_ring (s : State) (f : Fld) (v : Nat) : (s.put f v).ring = s.ring := rfl
@[simp] theorem State.put_hpt (s : State) (f : Fld) (v : Nat) : (s.put f v).hpt = s.hpt := rfl
@[simp] theorem State.put_hh (s : State) (f : Fld) (v : Nat) : (s.put f v).hh = s.hh := rfl
@[simp] theorem State.put_outs (s : State) (f : Fld) (v : Nat) : (s.put f v).outs = s.outs := rfl
@[simp] theorem State.put_lfAon (s : State) (f : Fld) (v : Nat) : (s.put f v).lfAon = s.lfAon := rfl
@[simp] theorem State.put_lf (s : State) (f : Fld) (v : Nat) : (s.put f v).lf = s.lf := rfl
@[simp] theorem State.put_air (s : State) (f : Fld) (v : Nat) : (s.put f v).air = s.air := rfl
@[simp] theorem State.put_fox (s : State) (f : Fld) (v : Nat) : (s.put f v).fox = s.fox := rfl
@[simp] theorem State.put_ses (s : State) (f : Fld) (v : Nat) : (s.put f v).ses = s.ses := rfl
@[simp] theorem State.put_tagAon (s : State) (f : Fld) (v : Nat) : (s.put f v).tagAon = s.tagAon := rfl
@[simp] theorem State.put_tag (s : State) (f : Fld) (v : Nat) : (s.put f v).tag = s.tag := rfl

/-! ### State.setBit -/

@[simp] theorem State.setBit_pending (s : State) (f : Fld) (b : Bool) : (s.setBit f b).pending = s.pending := rfl
@[simp] theorem State.setBit_now (s : State) (f : Fld) (b : Bool) : (s.setBit f b).now = s.now := rfl
@[simp] theorem State.setBit_freeCtr (s : State) (f : Fld) (b : Bool) : (s.setBit f b).freeCtr = s.freeCtr := rfl
@[simp] theorem State.setBit_sram (s : State) (f : Fld) (b : Bool) : (s.setBit f b).sram = s.sram := rfl
@[simp] theorem State.setBit_queues (s : State) (f : Fld) (b : Bool) : (s.setBit f b).queues = s.queues := rfl
@[simp] theorem State.setBit_chron (s : State) (f : Fld) (b : Bool) : (s.setBit f b).chron = s.chron := rfl
@[simp] theorem State.setBit_timers (s : State) (f : Fld) (b : Bool) : (s.setBit f b).timers = s.timers := rfl
@[simp] theorem State.setBit_motion (s : State) (f : Fld) (b : Bool) : (s.setBit f b).motion = s.motion := rfl
@[simp] theorem State.setBit_ledAon (s : State) (f : Fld) (b : Bool) : (s.setBit f b).ledAon = s.ledAon := rfl
@[simp] theorem State.setBit_entAon (s : State) (f : Fld) (b : Bool) : (s.setBit f b).entAon = s.entAon := rfl
@[simp] theorem State.setBit_hhAon (s : State) (f : Fld) (b : Bool) : (s.setBit f b).hhAon = s.hhAon := rfl
@[simp] theorem State.setBit_data (s : State) (f : Fld) (b : Bool) : (s.setBit f b).data = s.data := rfl
@[simp] theorem State.setBit_touch (s : State) (f : Fld) (b : Bool) : (s.setBit f b).touch = s.touch := rfl
@[simp] theorem State.setBit_lines (s : State) (f : Fld) (b : Bool) : (s.setBit f b).lines = s.lines := rfl
@[simp] theorem State.setBit_powAon (s : State) (f : Fld) (b : Bool) : (s.setBit f b).powAon = s.powAon := rfl
@[simp] theorem State.setBit_power (s : State) (f : Fld) (b : Bool) : (s.setBit f b).power = s.power := rfl
@[simp] theorem State.setBit_boot (s : State) (f : Fld) (b : Bool) : (s.setBit f b).boot = s.boot := rfl
@[simp] theorem State.setBit_straps (s : State) (f : Fld) (b : Bool) : (s.setBit f b).straps = s.straps := rfl
@[simp] theorem State.setBit_img (s : State) (f : Fld) (b : Bool) : (s.setBit f b).img = s.img := rfl
@[simp] theorem State.setBit_imgAon (s : State) (f : Fld) (b : Bool) : (s.setBit f b).imgAon = s.imgAon := rfl
@[simp] theorem State.setBit_sett (s : State) (f : Fld) (b : Bool) : (s.setBit f b).sett = s.sett := rfl
@[simp] theorem State.setBit_wm (s : State) (f : Fld) (b : Bool) : (s.setBit f b).wm = s.wm := rfl
@[simp] theorem State.setBit_led (s : State) (f : Fld) (b : Bool) : (s.setBit f b).led = s.led := rfl
@[simp] theorem State.setBit_nand (s : State) (f : Fld) (b : Bool) : (s.setBit f b).nand = s.nand := rfl
@[simp] theorem State.setBit_nv (s : State) (f : Fld) (b : Bool) : (s.setBit f b).nv = s.nv := rfl
@[simp] theorem State.setBit_rmc (s : State) (f : Fld) (b : Bool) : (s.setBit f b).rmc = s.rmc := rfl
@[simp] theorem State.setBit_den (s : State) (f : Fld) (b : Bool) : (s.setBit f b).den = s.den := rfl
@[simp] theorem State.setBit_cry (s : State) (f : Fld) (b : Bool) : (s.setBit f b).cry = s.cry := rfl
@[simp] theorem State.setBit_ent (s : State) (f : Fld) (b : Bool) : (s.setBit f b).ent = s.ent := rfl
@[simp] theorem State.setBit_can (s : State) (f : Fld) (b : Bool) : (s.setBit f b).can = s.can := rfl
@[simp] theorem State.setBit_ring (s : State) (f : Fld) (b : Bool) : (s.setBit f b).ring = s.ring := rfl
@[simp] theorem State.setBit_hpt (s : State) (f : Fld) (b : Bool) : (s.setBit f b).hpt = s.hpt := rfl
@[simp] theorem State.setBit_hh (s : State) (f : Fld) (b : Bool) : (s.setBit f b).hh = s.hh := rfl
@[simp] theorem State.setBit_outs (s : State) (f : Fld) (b : Bool) : (s.setBit f b).outs = s.outs := rfl
@[simp] theorem State.setBit_lfAon (s : State) (f : Fld) (b : Bool) : (s.setBit f b).lfAon = s.lfAon := rfl
@[simp] theorem State.setBit_lf (s : State) (f : Fld) (b : Bool) : (s.setBit f b).lf = s.lf := rfl
@[simp] theorem State.setBit_air (s : State) (f : Fld) (b : Bool) : (s.setBit f b).air = s.air := rfl
@[simp] theorem State.setBit_fox (s : State) (f : Fld) (b : Bool) : (s.setBit f b).fox = s.fox := rfl
@[simp] theorem State.setBit_ses (s : State) (f : Fld) (b : Bool) : (s.setBit f b).ses = s.ses := rfl
@[simp] theorem State.setBit_tagAon (s : State) (f : Fld) (b : Bool) : (s.setBit f b).tagAon = s.tagAon := rfl
@[simp] theorem State.setBit_tag (s : State) (f : Fld) (b : Bool) : (s.setBit f b).tag = s.tag := rfl

/-! ### State.count -/

@[simp] theorem State.count_pending (s : State) (f : Fld) (n : Nat) : (s.count f n).pending = s.pending := rfl
@[simp] theorem State.count_now (s : State) (f : Fld) (n : Nat) : (s.count f n).now = s.now := rfl
@[simp] theorem State.count_freeCtr (s : State) (f : Fld) (n : Nat) : (s.count f n).freeCtr = s.freeCtr := rfl
@[simp] theorem State.count_hwSet (s : State) (f : Fld) (n : Nat) : (s.count f n).hwSet = s.hwSet := rfl
@[simp] theorem State.count_sram (s : State) (f : Fld) (n : Nat) : (s.count f n).sram = s.sram := rfl
@[simp] theorem State.count_queues (s : State) (f : Fld) (n : Nat) : (s.count f n).queues = s.queues := rfl
@[simp] theorem State.count_chron (s : State) (f : Fld) (n : Nat) : (s.count f n).chron = s.chron := rfl
@[simp] theorem State.count_timers (s : State) (f : Fld) (n : Nat) : (s.count f n).timers = s.timers := rfl
@[simp] theorem State.count_motion (s : State) (f : Fld) (n : Nat) : (s.count f n).motion = s.motion := rfl
@[simp] theorem State.count_ledAon (s : State) (f : Fld) (n : Nat) : (s.count f n).ledAon = s.ledAon := rfl
@[simp] theorem State.count_entAon (s : State) (f : Fld) (n : Nat) : (s.count f n).entAon = s.entAon := rfl
@[simp] theorem State.count_hhAon (s : State) (f : Fld) (n : Nat) : (s.count f n).hhAon = s.hhAon := rfl
@[simp] theorem State.count_data (s : State) (f : Fld) (n : Nat) : (s.count f n).data = s.data := rfl
@[simp] theorem State.count_touch (s : State) (f : Fld) (n : Nat) : (s.count f n).touch = s.touch := rfl
@[simp] theorem State.count_lines (s : State) (f : Fld) (n : Nat) : (s.count f n).lines = s.lines := rfl
@[simp] theorem State.count_powAon (s : State) (f : Fld) (n : Nat) : (s.count f n).powAon = s.powAon := rfl
@[simp] theorem State.count_power (s : State) (f : Fld) (n : Nat) : (s.count f n).power = s.power := rfl
@[simp] theorem State.count_boot (s : State) (f : Fld) (n : Nat) : (s.count f n).boot = s.boot := rfl
@[simp] theorem State.count_straps (s : State) (f : Fld) (n : Nat) : (s.count f n).straps = s.straps := rfl
@[simp] theorem State.count_img (s : State) (f : Fld) (n : Nat) : (s.count f n).img = s.img := rfl
@[simp] theorem State.count_imgAon (s : State) (f : Fld) (n : Nat) : (s.count f n).imgAon = s.imgAon := rfl
@[simp] theorem State.count_sett (s : State) (f : Fld) (n : Nat) : (s.count f n).sett = s.sett := rfl
@[simp] theorem State.count_wm (s : State) (f : Fld) (n : Nat) : (s.count f n).wm = s.wm := rfl
@[simp] theorem State.count_led (s : State) (f : Fld) (n : Nat) : (s.count f n).led = s.led := rfl
@[simp] theorem State.count_nand (s : State) (f : Fld) (n : Nat) : (s.count f n).nand = s.nand := rfl
@[simp] theorem State.count_nv (s : State) (f : Fld) (n : Nat) : (s.count f n).nv = s.nv := rfl
@[simp] theorem State.count_rmc (s : State) (f : Fld) (n : Nat) : (s.count f n).rmc = s.rmc := rfl
@[simp] theorem State.count_den (s : State) (f : Fld) (n : Nat) : (s.count f n).den = s.den := rfl
@[simp] theorem State.count_cry (s : State) (f : Fld) (n : Nat) : (s.count f n).cry = s.cry := rfl
@[simp] theorem State.count_ent (s : State) (f : Fld) (n : Nat) : (s.count f n).ent = s.ent := rfl
@[simp] theorem State.count_can (s : State) (f : Fld) (n : Nat) : (s.count f n).can = s.can := rfl
@[simp] theorem State.count_ring (s : State) (f : Fld) (n : Nat) : (s.count f n).ring = s.ring := rfl
@[simp] theorem State.count_hpt (s : State) (f : Fld) (n : Nat) : (s.count f n).hpt = s.hpt := rfl
@[simp] theorem State.count_hh (s : State) (f : Fld) (n : Nat) : (s.count f n).hh = s.hh := rfl
@[simp] theorem State.count_outs (s : State) (f : Fld) (n : Nat) : (s.count f n).outs = s.outs := rfl
@[simp] theorem State.count_lfAon (s : State) (f : Fld) (n : Nat) : (s.count f n).lfAon = s.lfAon := rfl
@[simp] theorem State.count_lf (s : State) (f : Fld) (n : Nat) : (s.count f n).lf = s.lf := rfl
@[simp] theorem State.count_air (s : State) (f : Fld) (n : Nat) : (s.count f n).air = s.air := rfl
@[simp] theorem State.count_fox (s : State) (f : Fld) (n : Nat) : (s.count f n).fox = s.fox := rfl
@[simp] theorem State.count_ses (s : State) (f : Fld) (n : Nat) : (s.count f n).ses = s.ses := rfl
@[simp] theorem State.count_tagAon (s : State) (f : Fld) (n : Nat) : (s.count f n).tagAon = s.tagAon := rfl
@[simp] theorem State.count_tag (s : State) (f : Fld) (n : Nat) : (s.count f n).tag = s.tag := rfl

/-! ### State.setBitAt -/

@[simp] theorem State.setBitAt_pending (s : State) (f : Fld) (i : Nat) : (s.setBitAt f i).pending = s.pending := rfl
@[simp] theorem State.setBitAt_now (s : State) (f : Fld) (i : Nat) : (s.setBitAt f i).now = s.now := rfl
@[simp] theorem State.setBitAt_freeCtr (s : State) (f : Fld) (i : Nat) : (s.setBitAt f i).freeCtr = s.freeCtr := rfl
@[simp] theorem State.setBitAt_sram (s : State) (f : Fld) (i : Nat) : (s.setBitAt f i).sram = s.sram := rfl
@[simp] theorem State.setBitAt_queues (s : State) (f : Fld) (i : Nat) : (s.setBitAt f i).queues = s.queues := rfl
@[simp] theorem State.setBitAt_chron (s : State) (f : Fld) (i : Nat) : (s.setBitAt f i).chron = s.chron := rfl
@[simp] theorem State.setBitAt_timers (s : State) (f : Fld) (i : Nat) : (s.setBitAt f i).timers = s.timers := rfl
@[simp] theorem State.setBitAt_motion (s : State) (f : Fld) (i : Nat) : (s.setBitAt f i).motion = s.motion := rfl
@[simp] theorem State.setBitAt_ledAon (s : State) (f : Fld) (i : Nat) : (s.setBitAt f i).ledAon = s.ledAon := rfl
@[simp] theorem State.setBitAt_entAon (s : State) (f : Fld) (i : Nat) : (s.setBitAt f i).entAon = s.entAon := rfl
@[simp] theorem State.setBitAt_hhAon (s : State) (f : Fld) (i : Nat) : (s.setBitAt f i).hhAon = s.hhAon := rfl
@[simp] theorem State.setBitAt_data (s : State) (f : Fld) (i : Nat) : (s.setBitAt f i).data = s.data := rfl
@[simp] theorem State.setBitAt_touch (s : State) (f : Fld) (i : Nat) : (s.setBitAt f i).touch = s.touch := rfl
@[simp] theorem State.setBitAt_lines (s : State) (f : Fld) (i : Nat) : (s.setBitAt f i).lines = s.lines := rfl
@[simp] theorem State.setBitAt_powAon (s : State) (f : Fld) (i : Nat) : (s.setBitAt f i).powAon = s.powAon := rfl
@[simp] theorem State.setBitAt_power (s : State) (f : Fld) (i : Nat) : (s.setBitAt f i).power = s.power := rfl
@[simp] theorem State.setBitAt_boot (s : State) (f : Fld) (i : Nat) : (s.setBitAt f i).boot = s.boot := rfl
@[simp] theorem State.setBitAt_straps (s : State) (f : Fld) (i : Nat) : (s.setBitAt f i).straps = s.straps := rfl
@[simp] theorem State.setBitAt_img (s : State) (f : Fld) (i : Nat) : (s.setBitAt f i).img = s.img := rfl
@[simp] theorem State.setBitAt_imgAon (s : State) (f : Fld) (i : Nat) : (s.setBitAt f i).imgAon = s.imgAon := rfl
@[simp] theorem State.setBitAt_sett (s : State) (f : Fld) (i : Nat) : (s.setBitAt f i).sett = s.sett := rfl
@[simp] theorem State.setBitAt_wm (s : State) (f : Fld) (i : Nat) : (s.setBitAt f i).wm = s.wm := rfl
@[simp] theorem State.setBitAt_led (s : State) (f : Fld) (i : Nat) : (s.setBitAt f i).led = s.led := rfl
@[simp] theorem State.setBitAt_nand (s : State) (f : Fld) (i : Nat) : (s.setBitAt f i).nand = s.nand := rfl
@[simp] theorem State.setBitAt_nv (s : State) (f : Fld) (i : Nat) : (s.setBitAt f i).nv = s.nv := rfl
@[simp] theorem State.setBitAt_rmc (s : State) (f : Fld) (i : Nat) : (s.setBitAt f i).rmc = s.rmc := rfl
@[simp] theorem State.setBitAt_den (s : State) (f : Fld) (i : Nat) : (s.setBitAt f i).den = s.den := rfl
@[simp] theorem State.setBitAt_cry (s : State) (f : Fld) (i : Nat) : (s.setBitAt f i).cry = s.cry := rfl
@[simp] theorem State.setBitAt_ent (s : State) (f : Fld) (i : Nat) : (s.setBitAt f i).ent = s.ent := rfl
@[simp] theorem State.setBitAt_can (s : State) (f : Fld) (i : Nat) : (s.setBitAt f i).can = s.can := rfl
@[simp] theorem State.setBitAt_ring (s : State) (f : Fld) (i : Nat) : (s.setBitAt f i).ring = s.ring := rfl
@[simp] theorem State.setBitAt_hpt (s : State) (f : Fld) (i : Nat) : (s.setBitAt f i).hpt = s.hpt := rfl
@[simp] theorem State.setBitAt_hh (s : State) (f : Fld) (i : Nat) : (s.setBitAt f i).hh = s.hh := rfl
@[simp] theorem State.setBitAt_outs (s : State) (f : Fld) (i : Nat) : (s.setBitAt f i).outs = s.outs := rfl
@[simp] theorem State.setBitAt_lfAon (s : State) (f : Fld) (i : Nat) : (s.setBitAt f i).lfAon = s.lfAon := rfl
@[simp] theorem State.setBitAt_lf (s : State) (f : Fld) (i : Nat) : (s.setBitAt f i).lf = s.lf := rfl
@[simp] theorem State.setBitAt_air (s : State) (f : Fld) (i : Nat) : (s.setBitAt f i).air = s.air := rfl
@[simp] theorem State.setBitAt_fox (s : State) (f : Fld) (i : Nat) : (s.setBitAt f i).fox = s.fox := rfl
@[simp] theorem State.setBitAt_ses (s : State) (f : Fld) (i : Nat) : (s.setBitAt f i).ses = s.ses := rfl
@[simp] theorem State.setBitAt_tagAon (s : State) (f : Fld) (i : Nat) : (s.setBitAt f i).tagAon = s.tagAon := rfl
@[simp] theorem State.setBitAt_tag (s : State) (f : Fld) (i : Nat) : (s.setBitAt f i).tag = s.tag := rfl

/-! ### State.clearBitAt -/

@[simp] theorem State.clearBitAt_pending (s : State) (f : Fld) (i : Nat) : (s.clearBitAt f i).pending = s.pending := rfl
@[simp] theorem State.clearBitAt_now (s : State) (f : Fld) (i : Nat) : (s.clearBitAt f i).now = s.now := rfl
@[simp] theorem State.clearBitAt_freeCtr (s : State) (f : Fld) (i : Nat) : (s.clearBitAt f i).freeCtr = s.freeCtr := rfl
@[simp] theorem State.clearBitAt_hwSet (s : State) (f : Fld) (i : Nat) : (s.clearBitAt f i).hwSet = s.hwSet := rfl
@[simp] theorem State.clearBitAt_sram (s : State) (f : Fld) (i : Nat) : (s.clearBitAt f i).sram = s.sram := rfl
@[simp] theorem State.clearBitAt_queues (s : State) (f : Fld) (i : Nat) : (s.clearBitAt f i).queues = s.queues := rfl
@[simp] theorem State.clearBitAt_chron (s : State) (f : Fld) (i : Nat) : (s.clearBitAt f i).chron = s.chron := rfl
@[simp] theorem State.clearBitAt_timers (s : State) (f : Fld) (i : Nat) : (s.clearBitAt f i).timers = s.timers := rfl
@[simp] theorem State.clearBitAt_motion (s : State) (f : Fld) (i : Nat) : (s.clearBitAt f i).motion = s.motion := rfl
@[simp] theorem State.clearBitAt_ledAon (s : State) (f : Fld) (i : Nat) : (s.clearBitAt f i).ledAon = s.ledAon := rfl
@[simp] theorem State.clearBitAt_entAon (s : State) (f : Fld) (i : Nat) : (s.clearBitAt f i).entAon = s.entAon := rfl
@[simp] theorem State.clearBitAt_hhAon (s : State) (f : Fld) (i : Nat) : (s.clearBitAt f i).hhAon = s.hhAon := rfl
@[simp] theorem State.clearBitAt_data (s : State) (f : Fld) (i : Nat) : (s.clearBitAt f i).data = s.data := rfl
@[simp] theorem State.clearBitAt_touch (s : State) (f : Fld) (i : Nat) : (s.clearBitAt f i).touch = s.touch := rfl
@[simp] theorem State.clearBitAt_lines (s : State) (f : Fld) (i : Nat) : (s.clearBitAt f i).lines = s.lines := rfl
@[simp] theorem State.clearBitAt_powAon (s : State) (f : Fld) (i : Nat) : (s.clearBitAt f i).powAon = s.powAon := rfl
@[simp] theorem State.clearBitAt_power (s : State) (f : Fld) (i : Nat) : (s.clearBitAt f i).power = s.power := rfl
@[simp] theorem State.clearBitAt_boot (s : State) (f : Fld) (i : Nat) : (s.clearBitAt f i).boot = s.boot := rfl
@[simp] theorem State.clearBitAt_straps (s : State) (f : Fld) (i : Nat) : (s.clearBitAt f i).straps = s.straps := rfl
@[simp] theorem State.clearBitAt_img (s : State) (f : Fld) (i : Nat) : (s.clearBitAt f i).img = s.img := rfl
@[simp] theorem State.clearBitAt_imgAon (s : State) (f : Fld) (i : Nat) : (s.clearBitAt f i).imgAon = s.imgAon := rfl
@[simp] theorem State.clearBitAt_sett (s : State) (f : Fld) (i : Nat) : (s.clearBitAt f i).sett = s.sett := rfl
@[simp] theorem State.clearBitAt_wm (s : State) (f : Fld) (i : Nat) : (s.clearBitAt f i).wm = s.wm := rfl
@[simp] theorem State.clearBitAt_led (s : State) (f : Fld) (i : Nat) : (s.clearBitAt f i).led = s.led := rfl
@[simp] theorem State.clearBitAt_nand (s : State) (f : Fld) (i : Nat) : (s.clearBitAt f i).nand = s.nand := rfl
@[simp] theorem State.clearBitAt_nv (s : State) (f : Fld) (i : Nat) : (s.clearBitAt f i).nv = s.nv := rfl
@[simp] theorem State.clearBitAt_rmc (s : State) (f : Fld) (i : Nat) : (s.clearBitAt f i).rmc = s.rmc := rfl
@[simp] theorem State.clearBitAt_den (s : State) (f : Fld) (i : Nat) : (s.clearBitAt f i).den = s.den := rfl
@[simp] theorem State.clearBitAt_cry (s : State) (f : Fld) (i : Nat) : (s.clearBitAt f i).cry = s.cry := rfl
@[simp] theorem State.clearBitAt_ent (s : State) (f : Fld) (i : Nat) : (s.clearBitAt f i).ent = s.ent := rfl
@[simp] theorem State.clearBitAt_can (s : State) (f : Fld) (i : Nat) : (s.clearBitAt f i).can = s.can := rfl
@[simp] theorem State.clearBitAt_ring (s : State) (f : Fld) (i : Nat) : (s.clearBitAt f i).ring = s.ring := rfl
@[simp] theorem State.clearBitAt_hpt (s : State) (f : Fld) (i : Nat) : (s.clearBitAt f i).hpt = s.hpt := rfl
@[simp] theorem State.clearBitAt_hh (s : State) (f : Fld) (i : Nat) : (s.clearBitAt f i).hh = s.hh := rfl
@[simp] theorem State.clearBitAt_outs (s : State) (f : Fld) (i : Nat) : (s.clearBitAt f i).outs = s.outs := rfl
@[simp] theorem State.clearBitAt_lfAon (s : State) (f : Fld) (i : Nat) : (s.clearBitAt f i).lfAon = s.lfAon := rfl
@[simp] theorem State.clearBitAt_lf (s : State) (f : Fld) (i : Nat) : (s.clearBitAt f i).lf = s.lf := rfl
@[simp] theorem State.clearBitAt_air (s : State) (f : Fld) (i : Nat) : (s.clearBitAt f i).air = s.air := rfl
@[simp] theorem State.clearBitAt_fox (s : State) (f : Fld) (i : Nat) : (s.clearBitAt f i).fox = s.fox := rfl
@[simp] theorem State.clearBitAt_ses (s : State) (f : Fld) (i : Nat) : (s.clearBitAt f i).ses = s.ses := rfl
@[simp] theorem State.clearBitAt_tagAon (s : State) (f : Fld) (i : Nat) : (s.clearBitAt f i).tagAon = s.tagAon := rfl
@[simp] theorem State.clearBitAt_tag (s : State) (f : Fld) (i : Nat) : (s.clearBitAt f i).tag = s.tag := rfl

/-! ### State.w1c -/

@[simp] theorem State.w1c_pending (s : State) (f : Fld) (v : Nat) : (s.w1c f v).pending = s.pending := rfl
@[simp] theorem State.w1c_now (s : State) (f : Fld) (v : Nat) : (s.w1c f v).now = s.now := rfl
@[simp] theorem State.w1c_freeCtr (s : State) (f : Fld) (v : Nat) : (s.w1c f v).freeCtr = s.freeCtr := rfl
@[simp] theorem State.w1c_hwSet (s : State) (f : Fld) (v : Nat) : (s.w1c f v).hwSet = s.hwSet := rfl
@[simp] theorem State.w1c_sram (s : State) (f : Fld) (v : Nat) : (s.w1c f v).sram = s.sram := rfl
@[simp] theorem State.w1c_queues (s : State) (f : Fld) (v : Nat) : (s.w1c f v).queues = s.queues := rfl
@[simp] theorem State.w1c_chron (s : State) (f : Fld) (v : Nat) : (s.w1c f v).chron = s.chron := rfl
@[simp] theorem State.w1c_timers (s : State) (f : Fld) (v : Nat) : (s.w1c f v).timers = s.timers := rfl
@[simp] theorem State.w1c_motion (s : State) (f : Fld) (v : Nat) : (s.w1c f v).motion = s.motion := rfl
@[simp] theorem State.w1c_ledAon (s : State) (f : Fld) (v : Nat) : (s.w1c f v).ledAon = s.ledAon := rfl
@[simp] theorem State.w1c_entAon (s : State) (f : Fld) (v : Nat) : (s.w1c f v).entAon = s.entAon := rfl
@[simp] theorem State.w1c_hhAon (s : State) (f : Fld) (v : Nat) : (s.w1c f v).hhAon = s.hhAon := rfl
@[simp] theorem State.w1c_data (s : State) (f : Fld) (v : Nat) : (s.w1c f v).data = s.data := rfl
@[simp] theorem State.w1c_touch (s : State) (f : Fld) (v : Nat) : (s.w1c f v).touch = s.touch := rfl
@[simp] theorem State.w1c_lines (s : State) (f : Fld) (v : Nat) : (s.w1c f v).lines = s.lines := rfl
@[simp] theorem State.w1c_powAon (s : State) (f : Fld) (v : Nat) : (s.w1c f v).powAon = s.powAon := rfl
@[simp] theorem State.w1c_power (s : State) (f : Fld) (v : Nat) : (s.w1c f v).power = s.power := rfl
@[simp] theorem State.w1c_boot (s : State) (f : Fld) (v : Nat) : (s.w1c f v).boot = s.boot := rfl
@[simp] theorem State.w1c_straps (s : State) (f : Fld) (v : Nat) : (s.w1c f v).straps = s.straps := rfl
@[simp] theorem State.w1c_img (s : State) (f : Fld) (v : Nat) : (s.w1c f v).img = s.img := rfl
@[simp] theorem State.w1c_imgAon (s : State) (f : Fld) (v : Nat) : (s.w1c f v).imgAon = s.imgAon := rfl
@[simp] theorem State.w1c_sett (s : State) (f : Fld) (v : Nat) : (s.w1c f v).sett = s.sett := rfl
@[simp] theorem State.w1c_wm (s : State) (f : Fld) (v : Nat) : (s.w1c f v).wm = s.wm := rfl
@[simp] theorem State.w1c_led (s : State) (f : Fld) (v : Nat) : (s.w1c f v).led = s.led := rfl
@[simp] theorem State.w1c_nand (s : State) (f : Fld) (v : Nat) : (s.w1c f v).nand = s.nand := rfl
@[simp] theorem State.w1c_nv (s : State) (f : Fld) (v : Nat) : (s.w1c f v).nv = s.nv := rfl
@[simp] theorem State.w1c_rmc (s : State) (f : Fld) (v : Nat) : (s.w1c f v).rmc = s.rmc := rfl
@[simp] theorem State.w1c_den (s : State) (f : Fld) (v : Nat) : (s.w1c f v).den = s.den := rfl
@[simp] theorem State.w1c_cry (s : State) (f : Fld) (v : Nat) : (s.w1c f v).cry = s.cry := rfl
@[simp] theorem State.w1c_ent (s : State) (f : Fld) (v : Nat) : (s.w1c f v).ent = s.ent := rfl
@[simp] theorem State.w1c_can (s : State) (f : Fld) (v : Nat) : (s.w1c f v).can = s.can := rfl
@[simp] theorem State.w1c_ring (s : State) (f : Fld) (v : Nat) : (s.w1c f v).ring = s.ring := rfl
@[simp] theorem State.w1c_hpt (s : State) (f : Fld) (v : Nat) : (s.w1c f v).hpt = s.hpt := rfl
@[simp] theorem State.w1c_hh (s : State) (f : Fld) (v : Nat) : (s.w1c f v).hh = s.hh := rfl
@[simp] theorem State.w1c_outs (s : State) (f : Fld) (v : Nat) : (s.w1c f v).outs = s.outs := rfl
@[simp] theorem State.w1c_lfAon (s : State) (f : Fld) (v : Nat) : (s.w1c f v).lfAon = s.lfAon := rfl
@[simp] theorem State.w1c_lf (s : State) (f : Fld) (v : Nat) : (s.w1c f v).lf = s.lf := rfl
@[simp] theorem State.w1c_air (s : State) (f : Fld) (v : Nat) : (s.w1c f v).air = s.air := rfl
@[simp] theorem State.w1c_fox (s : State) (f : Fld) (v : Nat) : (s.w1c f v).fox = s.fox := rfl
@[simp] theorem State.w1c_ses (s : State) (f : Fld) (v : Nat) : (s.w1c f v).ses = s.ses := rfl
@[simp] theorem State.w1c_tagAon (s : State) (f : Fld) (v : Nat) : (s.w1c f v).tagAon = s.tagAon := rfl
@[simp] theorem State.w1c_tag (s : State) (f : Fld) (v : Nat) : (s.w1c f v).tag = s.tag := rfl

/-! ### State.setQueue -/

@[simp] theorem State.setQueue_pending (s : State) (q : QueueId) (v : Queue) : (s.setQueue q v).pending = s.pending := rfl
@[simp] theorem State.setQueue_now (s : State) (q : QueueId) (v : Queue) : (s.setQueue q v).now = s.now := rfl
@[simp] theorem State.setQueue_freeCtr (s : State) (q : QueueId) (v : Queue) : (s.setQueue q v).freeCtr = s.freeCtr := rfl
@[simp] theorem State.setQueue_regs (s : State) (q : QueueId) (v : Queue) : (s.setQueue q v).regs = s.regs := rfl
@[simp] theorem State.setQueue_hwSet (s : State) (q : QueueId) (v : Queue) : (s.setQueue q v).hwSet = s.hwSet := rfl
@[simp] theorem State.setQueue_sram (s : State) (q : QueueId) (v : Queue) : (s.setQueue q v).sram = s.sram := rfl
@[simp] theorem State.setQueue_chron (s : State) (q : QueueId) (v : Queue) : (s.setQueue q v).chron = s.chron := rfl
@[simp] theorem State.setQueue_timers (s : State) (q : QueueId) (v : Queue) : (s.setQueue q v).timers = s.timers := rfl
@[simp] theorem State.setQueue_motion (s : State) (q : QueueId) (v : Queue) : (s.setQueue q v).motion = s.motion := rfl
@[simp] theorem State.setQueue_ledAon (s : State) (q : QueueId) (v : Queue) : (s.setQueue q v).ledAon = s.ledAon := rfl
@[simp] theorem State.setQueue_entAon (s : State) (q : QueueId) (v : Queue) : (s.setQueue q v).entAon = s.entAon := rfl
@[simp] theorem State.setQueue_hhAon (s : State) (q : QueueId) (v : Queue) : (s.setQueue q v).hhAon = s.hhAon := rfl
@[simp] theorem State.setQueue_data (s : State) (q : QueueId) (v : Queue) : (s.setQueue q v).data = s.data := rfl
@[simp] theorem State.setQueue_touch (s : State) (q : QueueId) (v : Queue) : (s.setQueue q v).touch = s.touch := rfl
@[simp] theorem State.setQueue_lines (s : State) (q : QueueId) (v : Queue) : (s.setQueue q v).lines = s.lines := rfl
@[simp] theorem State.setQueue_powAon (s : State) (q : QueueId) (v : Queue) : (s.setQueue q v).powAon = s.powAon := rfl
@[simp] theorem State.setQueue_power (s : State) (q : QueueId) (v : Queue) : (s.setQueue q v).power = s.power := rfl
@[simp] theorem State.setQueue_boot (s : State) (q : QueueId) (v : Queue) : (s.setQueue q v).boot = s.boot := rfl
@[simp] theorem State.setQueue_straps (s : State) (q : QueueId) (v : Queue) : (s.setQueue q v).straps = s.straps := rfl
@[simp] theorem State.setQueue_img (s : State) (q : QueueId) (v : Queue) : (s.setQueue q v).img = s.img := rfl
@[simp] theorem State.setQueue_imgAon (s : State) (q : QueueId) (v : Queue) : (s.setQueue q v).imgAon = s.imgAon := rfl
@[simp] theorem State.setQueue_sett (s : State) (q : QueueId) (v : Queue) : (s.setQueue q v).sett = s.sett := rfl
@[simp] theorem State.setQueue_wm (s : State) (q : QueueId) (v : Queue) : (s.setQueue q v).wm = s.wm := rfl
@[simp] theorem State.setQueue_led (s : State) (q : QueueId) (v : Queue) : (s.setQueue q v).led = s.led := rfl
@[simp] theorem State.setQueue_nand (s : State) (q : QueueId) (v : Queue) : (s.setQueue q v).nand = s.nand := rfl
@[simp] theorem State.setQueue_nv (s : State) (q : QueueId) (v : Queue) : (s.setQueue q v).nv = s.nv := rfl
@[simp] theorem State.setQueue_rmc (s : State) (q : QueueId) (v : Queue) : (s.setQueue q v).rmc = s.rmc := rfl
@[simp] theorem State.setQueue_den (s : State) (q : QueueId) (v : Queue) : (s.setQueue q v).den = s.den := rfl
@[simp] theorem State.setQueue_cry (s : State) (q : QueueId) (v : Queue) : (s.setQueue q v).cry = s.cry := rfl
@[simp] theorem State.setQueue_ent (s : State) (q : QueueId) (v : Queue) : (s.setQueue q v).ent = s.ent := rfl
@[simp] theorem State.setQueue_can (s : State) (q : QueueId) (v : Queue) : (s.setQueue q v).can = s.can := rfl
@[simp] theorem State.setQueue_ring (s : State) (q : QueueId) (v : Queue) : (s.setQueue q v).ring = s.ring := rfl
@[simp] theorem State.setQueue_hpt (s : State) (q : QueueId) (v : Queue) : (s.setQueue q v).hpt = s.hpt := rfl
@[simp] theorem State.setQueue_hh (s : State) (q : QueueId) (v : Queue) : (s.setQueue q v).hh = s.hh := rfl
@[simp] theorem State.setQueue_outs (s : State) (q : QueueId) (v : Queue) : (s.setQueue q v).outs = s.outs := rfl
@[simp] theorem State.setQueue_lfAon (s : State) (q : QueueId) (v : Queue) : (s.setQueue q v).lfAon = s.lfAon := rfl
@[simp] theorem State.setQueue_lf (s : State) (q : QueueId) (v : Queue) : (s.setQueue q v).lf = s.lf := rfl
@[simp] theorem State.setQueue_air (s : State) (q : QueueId) (v : Queue) : (s.setQueue q v).air = s.air := rfl
@[simp] theorem State.setQueue_fox (s : State) (q : QueueId) (v : Queue) : (s.setQueue q v).fox = s.fox := rfl
@[simp] theorem State.setQueue_ses (s : State) (q : QueueId) (v : Queue) : (s.setQueue q v).ses = s.ses := rfl
@[simp] theorem State.setQueue_tagAon (s : State) (q : QueueId) (v : Queue) : (s.setQueue q v).tagAon = s.tagAon := rfl
@[simp] theorem State.setQueue_tag (s : State) (q : QueueId) (v : Queue) : (s.setQueue q v).tag = s.tag := rfl

/-! ### State.drawn -/

@[simp] theorem State.drawn_pending (s : State) : (s.drawn).pending = s.pending := rfl
@[simp] theorem State.drawn_now (s : State) : (s.drawn).now = s.now := rfl
@[simp] theorem State.drawn_regs (s : State) : (s.drawn).regs = s.regs := rfl
@[simp] theorem State.drawn_hwSet (s : State) : (s.drawn).hwSet = s.hwSet := rfl
@[simp] theorem State.drawn_sram (s : State) : (s.drawn).sram = s.sram := rfl
@[simp] theorem State.drawn_queues (s : State) : (s.drawn).queues = s.queues := rfl
@[simp] theorem State.drawn_chron (s : State) : (s.drawn).chron = s.chron := rfl
@[simp] theorem State.drawn_timers (s : State) : (s.drawn).timers = s.timers := rfl
@[simp] theorem State.drawn_motion (s : State) : (s.drawn).motion = s.motion := rfl
@[simp] theorem State.drawn_ledAon (s : State) : (s.drawn).ledAon = s.ledAon := rfl
@[simp] theorem State.drawn_entAon (s : State) : (s.drawn).entAon = s.entAon := rfl
@[simp] theorem State.drawn_hhAon (s : State) : (s.drawn).hhAon = s.hhAon := rfl
@[simp] theorem State.drawn_data (s : State) : (s.drawn).data = s.data := rfl
@[simp] theorem State.drawn_touch (s : State) : (s.drawn).touch = s.touch := rfl
@[simp] theorem State.drawn_lines (s : State) : (s.drawn).lines = s.lines := rfl
@[simp] theorem State.drawn_powAon (s : State) : (s.drawn).powAon = s.powAon := rfl
@[simp] theorem State.drawn_power (s : State) : (s.drawn).power = s.power := rfl
@[simp] theorem State.drawn_boot (s : State) : (s.drawn).boot = s.boot := rfl
@[simp] theorem State.drawn_straps (s : State) : (s.drawn).straps = s.straps := rfl
@[simp] theorem State.drawn_img (s : State) : (s.drawn).img = s.img := rfl
@[simp] theorem State.drawn_imgAon (s : State) : (s.drawn).imgAon = s.imgAon := rfl
@[simp] theorem State.drawn_sett (s : State) : (s.drawn).sett = s.sett := rfl
@[simp] theorem State.drawn_wm (s : State) : (s.drawn).wm = s.wm := rfl
@[simp] theorem State.drawn_led (s : State) : (s.drawn).led = s.led := rfl
@[simp] theorem State.drawn_nand (s : State) : (s.drawn).nand = s.nand := rfl
@[simp] theorem State.drawn_nv (s : State) : (s.drawn).nv = s.nv := rfl
@[simp] theorem State.drawn_rmc (s : State) : (s.drawn).rmc = s.rmc := rfl
@[simp] theorem State.drawn_den (s : State) : (s.drawn).den = s.den := rfl
@[simp] theorem State.drawn_cry (s : State) : (s.drawn).cry = s.cry := rfl
@[simp] theorem State.drawn_ent (s : State) : (s.drawn).ent = s.ent := rfl
@[simp] theorem State.drawn_can (s : State) : (s.drawn).can = s.can := rfl
@[simp] theorem State.drawn_ring (s : State) : (s.drawn).ring = s.ring := rfl
@[simp] theorem State.drawn_hpt (s : State) : (s.drawn).hpt = s.hpt := rfl
@[simp] theorem State.drawn_hh (s : State) : (s.drawn).hh = s.hh := rfl
@[simp] theorem State.drawn_outs (s : State) : (s.drawn).outs = s.outs := rfl
@[simp] theorem State.drawn_lfAon (s : State) : (s.drawn).lfAon = s.lfAon := rfl
@[simp] theorem State.drawn_lf (s : State) : (s.drawn).lf = s.lf := rfl
@[simp] theorem State.drawn_air (s : State) : (s.drawn).air = s.air := rfl
@[simp] theorem State.drawn_fox (s : State) : (s.drawn).fox = s.fox := rfl
@[simp] theorem State.drawn_ses (s : State) : (s.drawn).ses = s.ses := rfl
@[simp] theorem State.drawn_tagAon (s : State) : (s.drawn).tagAon = s.tagAon := rfl
@[simp] theorem State.drawn_tag (s : State) : (s.drawn).tag = s.tag := rfl

end Sys2Proof.Machine
end

