-- ==== Sys2Proof/Machine/Balls.lean ====
section
/-! DEFINITION. The balls: their places, their domains and what each does in a state (R448, R449, Table 21-2). -/

namespace Sys2Proof.Machine

/-- The functions of Table 21-2, grouped as the table groups them. -/
inductive Ball where
  | lfP (n : Nat) | lfN (n : Nat) | vlf | vssLf | vbat | buckSw | vssBuck | vsys | canBus | sw (n : Nat) | motion | startenH | startenL
  | boostG | chainRole | resetN | timePps | vbkp | x32 | cap (n : Nat) | capShield | tagCoil | tagVres | vdd18f | vaon | hostIn | hostMiso
  | hostIrqN | debug | settUp | settDn | memSck | memCs | memDqs | memIo | xhf | vpll | vcore | vdd18a | vrf | test | aer0 | aer1 | vss
  deriving DecidableEq, Repr

/-- What a ball does. -/
inductive BallOut where
  | highZ | low | passive | recessive | input | driverOff | off | running | supply | ground | active
  | coil (c : CoilOut) | line (l : LineOut) | touch (c : CapOut) | shield (x : ShieldOut)
  deriving DecidableEq, Repr

/-- The domain of a ball, where the table gives one. -/
def Ball.dom : Ball → Option Dom
  | .lfP n | .lfN n => some (bankDom (bankOf n))
  | .canBus | .sw _ | .motion | .startenH | .startenL | .chainRole | .resetN | .timePps | .x32 | .cap _ | .capShield | .hostIrqN | .xhf => some .aon
  | .boostG => some .seq
  | .tagCoil => some .tag
  | .hostIn | .hostMiso | .debug | .settUp | .settDn => some .lnk
  | .memSck | .memCs | .memDqs | .memIo => some .ldg
  | .aer0 => some .ar0
  | .aer1 => some .ar1
  | .vlf | .vssLf | .vbat | .buckSw | .vssBuck | .vsys | .vbkp | .tagVres | .vdd18f | .vaon | .vpll | .vcore | .vdd18a | .vrf | .test | .vss => none

/-- A ball during reset and for as long as its domain is off (the last column of Table 21-2); the start lines as Table 18-1 sets them. -/
def Ball.atRest : Ball → BallOut
  | .lfP _ | .lfN _ => .coil .highZ
  | .canBus => .recessive
  | .sw _ | .motion | .chainRole | .resetN | .hostIn | .debug | .test => .input
  | .startenH | .startenL => .line .locked
  | .boostG | .hostMiso | .hostIrqN | .memSck | .memCs | .memDqs | .memIo | .aer0 | .aer1 => .highZ
  | .timePps => .low
  | .x32 => .running
  | .cap _ => .touch .heldLow
  | .capShield => .shield .idle
  | .tagCoil => .passive
  | .settUp | .settDn => .driverOff
  | .buckSw | .xhf => .off
  | .vssLf | .vssBuck | .vss => .ground
  | .vlf | .vbat | .vsys | .vbkp | .tagVres | .vdd18f | .vaon | .vpll | .vcore | .vdd18a | .vrf => .supply

/-- The unit is held in reset: between a reset and the next START_UP. -/
def State.heldInReset (s : State) : Bool := s.power.state == .reset

/-- A ball in s, its domain on and the unit out of reset. -/
def State.ballDriven (s : State) (b : Ball) : BallOut :=
  match b with
  | .lfP n | .lfN n => .coil (s.coilOut n)
  | .startenH => .line s.startenH
  | .startenL => .line s.startenL
  | .cap n => .touch (s.capOut n)
  | .capShield => .shield s.shieldOut
  | .canBus => if s.canOn then .active else .recessive
  | .boostG => if s.bit Reg.LF_STAT_BOOST then .active else .low
  | .timePps => if s.chron.ppsHigh then .active else .low
  | .hostIrqN => if s.irqLow then .low else .highZ
  | .buckSw | .hostMiso | .settUp | .settDn | .memSck | .memCs | .memDqs | .memIo | .tagCoil | .aer0 | .aer1 => .active
  | .xhf => .running
  | .vlf | .vssLf | .vbat | .vssBuck | .vsys | .sw _ | .motion | .chainRole | .resetN | .vbkp | .x32 | .tagVres | .vdd18f | .vaon
  | .hostIn | .debug | .vpll | .vcore | .vdd18a | .vrf | .test | .vss => b.atRest

/-- What a ball does in s (R448): at rest in reset and while its domain is off. -/
def State.ball (s : State) (b : Ball) : BallOut :=
  if s.heldInReset ∨ b.dom.any (fun d => !s.domOn d) then b.atRest else s.ballDriven b

/-- What stands at row r (0 = A ... 19 = AA) and column c of the package (Table 21-2); a place the table does not list is VSS (R449). -/
def ballAt (r c : Nat) : Ball :=
  let within := fun (a b : Nat) => decide (a ≤ c ∧ c ≤ b)
  match r with
  | 0 => if within 1 16 then .lfP ((c - 1) / 2) else if within 17 20 then .vbat else .vss
  | 1 => if within 1 16 then .lfN ((c - 1) / 2) else if within 17 20 then .vbat else .vss
  | 2 => if within 1 16 then .lfP (8 + (c - 1) / 2) else if within 17 20 then .buckSw else .vss
  | 3 => if within 1 16 then .lfN (8 + (c - 1) / 2) else if within 17 20 then .vssBuck else .vss
  | 4 => if within 1 8 then .vlf else if within 9 16 then .vssLf else if within 17 20 then .vsys else .vss
  | 5 => if within 1 16 then .vssLf else if within 17 20 then .vsys else .vss
  | 6 =>
    if within 1 2 then .canBus
    else if within 4 7 then .sw (c - 4)
    else if within 8 9 then .motion
    else if c = 10 then .startenH
    else if c = 12 then .startenL
    else if c = 13 then .boostG
    else if c = 14 then .chainRole
    else if c = 15 then .resetN
    else if c = 16 then .timePps
    else if c = 17 then .vbkp
    else if within 18 19 then .x32
    else .vss
  | 7 =>
    if within 1 8 then .cap (c - 1)
    else if c = 9 then .capShield
    else if within 11 12 then .tagCoil
    else if c = 13 then .tagVres
    else if c = 14 then .vdd18f
    else if c = 15 then .vaon
    else .vss
  | 12 =>
    if c = 3 then .hostMiso
    else if within 1 4 then .hostIn
    else if c = 5 then .hostIrqN
    else if within 6 7 then .debug
    else if within 9 10 then .settUp
    else if within 11 12 then .settDn
    else .vss
  | 13 =>
    if c = 1 then .memSck
    else if within 2 4 then .memCs
    else if c = 5 then .memDqs
    else if within 6 13 then .memIo
    else .vss
  | 14 =>
    if within 1 2 then .xhf
    else if c = 4 then .vpll
    else if within 6 9 then .vcore
    else if within 11 12 then .vdd18a
    else if within 14 15 then .vrf
    else .vss
  | 15 => if c = 1 then .test else if within 6 9 then .vcore else .vss
  | 18 => if c = 4 ∨ c = 8 then .aer0 else if c = 13 ∨ c = 17 then .aer1 else .vss
  | _ => .vss

end Sys2Proof.Machine
end

