-- ==== Sys2Proof/Tests/Slice0.lean ====
section
/-! SUPPORT. The model's own tests: the worked examples of the specification, ill-formed terms that the well-formedness check refuses, and, for
every statement with hypotheses, a state and operands that meet them. -/

open Sys2Proof Sys2Proof.Machine

set_option Elab.async false

/-! ### Well-formedness (one ill-formed term for each check, and a well-formed one for each command that has a check) -/

/-- An empty frame of the chain. -/
def okSett : SettFrame := ⟨0, 0, 0, [], 0, zeros 16⟩

def badSett : SettFrame := { okSett with hdr := 65536 }

/-- A long symbol of nothing. -/
def noTones : List Cx := List.replicate 852 Cx.zero

/-- A received frame without content. -/
def okAir : AirRx := ⟨⟨0, []⟩, 0, Cx.zero, [noTones, noTones], [], [], 0⟩

def badAir : AirRx := { okAir with frame := ⟨2 ^ 64, []⟩ }

def okRange : RangeRx := ⟨0, List.replicate 8 noTones⟩

def okCan : CanFrame := ⟨1, false, false, false, false, []⟩

def okApdu : Apdu := ⟨0x80, 0, 0, [], none, true⟩

def okWindow : Window := ⟨List.replicate 4 [true], List.replicate 4 [false]⟩

/-- A start-up in which every check passes. -/
def okEnv : BootEnv := ⟨true, true, true, true, List.replicate 4 (List.replicate 256 true), okWindow, okWindow, 0, 0, true, false, true, true⟩

theorem test_parts_refused :
    ([{ okSett with hdr := 65536 }, { okSett with hcrc := 65536 }, { okSett with ctr := 2 ^ 32 }, { okSett with payload := zeros 1025 },
      { okSett with pcrc := 2 ^ 32 }, { okSett with mac := zeros 15 }] : List SettFrame).all (fun f => !f.wf) = true ∧
    ([⟨2 ^ 64, []⟩, ⟨0, zeros 2060⟩] : List AirFrame).all (fun f => !f.wf) = true ∧
    ([⟨⟨2 ^ 64, []⟩, none, 0, none, none⟩, ⟨⟨0, []⟩, none, 2, none, none⟩, ⟨⟨0, []⟩, none, 0, some (2 ^ 40), none⟩] : List TxCmd).all
      (fun c => !c.wf) = true ∧
    ([{ okCan with id := 2 ^ 29 }, { okCan with data := zeros 9 }, { okCan with fd := true, data := zeros 65 }] : List CanFrame).all
      (fun f => !f.wf) = true ∧
    ([{ okAir with endAt := 2 ^ 40 }, { okAir with train := [] }, { okAir with train := [noTones, []] }] : List AirRx).all (fun r => !r.wf) = true ∧
    ([{ okRange with win := 2 ^ 40 }, { okRange with syms := [noTones] }, { okRange with syms := List.replicate 8 [] }] : List RangeRx).all
      (fun r => !r.wf) = true ∧
    ([⟨List.replicate 49 ⟨List.replicate 4 Cx.zero, 0⟩, 1, 1⟩, ⟨[⟨[], 0⟩], 1, 1⟩] : List SyncMeas).all (fun m => !m.wf) = true ∧
    ([⟨[], []⟩, ⟨List.replicate 4 (List.replicate 1025 true), List.replicate 4 (List.replicate 1025 true)⟩, { okWindow with rails := [] }] :
      List Window).all (fun w => !w.wf) = true ∧
    ([{ okApdu with cla := 256 }, { okApdu with p1 := 256 }, { okApdu with p2 := 256 }, { okApdu with data := zeros 256 },
      { okApdu with le := some 257 }] : List Apdu).all (fun a => !a.wf) = true ∧
    ([.channel 16, .lane 2, .slot 256] : List Cell).all (fun c => !c.wf) = true ∧
    ([.fabric 8, .lane 2, .bank 2] : List QueueId).all (fun q => !q.wf) = true ∧
    ([{ okEnv with bias := [[]] }, { okEnv with test := ⟨[], []⟩ }, { okEnv with second := ⟨[], []⟩ }] : List BootEnv).all (fun e => !e.wf) = true := by
  decide +kernel

theorem test_wellformed_accepts_1 :
    ([.registerWrite .host 1 .b8 1,
      .queueRequestArrival .session .p1 .host (.trigger ⟨1, 0, 0⟩),
      .cellPreempt (.lane 0),
      .startUp okEnv,
      .enumFrame okSett true,
      .enumAck okSett true none,
      .chainReady okSett true,
      .heartbeat okSett true,
      .timeSync okSett true 1,
      .delayReqPeriod 1,
      .delayReq okSett true 1 1,
      .delayResp okSett true 1,
      .imageOffer okSett true,
      .imageData okSett true,
      .imageNak okSett true,
      .imageConfirm okSett true,
      .arbRaise okSett true,
      .profileFrame okSett true,
      .overhearPlan okSett true,
      .overhearReport okSett true,
      .settRequest okSett true,
      .settResponse okSett true,
      .ledgerRec okSett true,
      .faultReport okSett true,
      .retxFrame okSett true,
      .absentFrame okSett true,
      .spliceProbe okSett true,
      .spliceReply okSett true,
      .spliceReport okSett true,
      .spliceAssign okSett true,
      .joinFrame okSett true,
      .fobCopy okSett true,
      .pollSlot 1,
      .lfFrameStart 1,
      .lfFrameEnd 1 [],
      .bankIdleOff 1,
      .bridgeShort 1 true,
      .bridgeOvertemp 1,
      .bridgeCool 1,
      .disabledRetest [],
      .ctIdReceived 1 true [],
      .ctResponseReceived 1 true [],
      .laneRequest 1 .p1 14,
      .synthLocked 1 0 [],
      .lockCheckTimeout 1,
      .lockLost 1,
      .txCommand 1 ⟨okAir.frame, none, 0, none, none⟩,
      .txStart 1,
      .txLateDeadline 1,
      .rxCommand 1 none] : List Instr).all (fun i => i.wf == true) = true := by decide +kernel

theorem test_wellformed_accepts_2 :
    ([.rxWindowEnd 1,
      .laneIdleSleep 1,
      .laneDomainOff 1,
      .laneTempSample 1 0,
      .calAgeExpiry 1,
      .loopback 1 ⟨[], []⟩,
      .syncDetect 1 ⟨[], 1, 1⟩,
      .wakeReply 1 okAir,
      .airResponse 1 okAir,
      .rangePoll 1 okAir okRange,
      .rangeReply 1 okAir okRange,
      .rangeReport 1 okAir 1,
      .rangeReplyTimeout 1,
      .rangeReportTimeout 1,
      .rangingExchange 1,
      .guardSecondExchange 1,
      .overhearExchangeEnd 1,
      .noticeFrame 1 okAir,
      .nctrCommitDone 1,
      .serviceFrame 1 okAir,
      .ackFrame 1 okAir,
      .responseTimeout 1,
      .sessionTimeout 1,
      .barExpiry 1,
      .trackerStale 1,
      .trackerForget 1,
      .timGo .host 1,
      .timStop .host 1,
      .timerCompareMatch 1 1,
      .timerOverflow 1,
      .retainedWindowWrite .host 1 .b8 1,
      .commitGroupSubmit .session .p1 [(0, [1])],
      .tallyIncrement (.master .host) .p1 1,
      .tallyRaise (.master .host) .p1 1 1,
      .tallySetEraseDone 1,
      .generate .host 1,
      .importOpen .host 1,
      .importKey .host 1,
      .eraseSlot .host 1,
      .attest .host 1,
      .publicPoint .host 1,
      .exportKey .host 1,
      .legacyKeyWrite .host 1 1,
      .encrypt .host 1 1,
      .decrypt .host 1 1,
      .macTag .host 1 1,
      .signDigest .host 1,
      .verifySig .host 1 1,
      .agree .host 1 1,
      .derive .host 1 1] : List Instr).all (fun i => i.wf == true) = true := by decide +kernel

theorem test_wellformed_accepts_3 :
    ([.healthWindowClose okWindow,
      .rawModeEnter .host 1,
      .healthTestFail okWindow,
      .anticollision 1 [],
      .isoSelect 1 (List.replicate 5 0),
      .ppsRequest 1 1,
      .apduSelect okApdu 1,
      .authStep1 okApdu,
      .authStep2 okApdu,
      .readLeaf okApdu,
      .writeLeaf okApdu,
      .tagCommit okApdu 1,
      .getSummary okApdu,
      .tagMemWrite .host 1 .b8 1,
      .tagWiredCommit .host 1,
      .tagWiredDiscard .host 1,
      .ignitionFrame okCan,
      .wakeFrame okCan,
      .j1939AddressClaim none,
      .ringMessage okCan,
      .isoTpFrame okCan,
      .touchScan (List.replicate 8 0),
      .touchStuck 1,
      .switchSample (List.replicate 4 true),
      .switchDebounce 1,
      .switchStuck 1,
      .switchPolWrite .host 1,
      .wakeEvent okEnv,
      .internalWake okEnv,
      .tempSample (List.replicate 8 none),
      .railOutOfRange 1 1 1,
      .processMonitor [0, 0, 0, 0],
      .plCapTrial [0, 0, 0, 0],
      .pollSkipDeadline 1,
      .railBackInRange 1 1 1,
      .nandNoAnswer 1] : List Instr).all (fun i => i.wf == true) = true := by decide +kernel

theorem test_wellformed_refuses_1 :
    ([.registerWrite .host (2 ^ 32) .b8 1,
      .registerWrite .host 1 .b8 256,
      .queueRequestArrival (.fabric 8) .p1 .host (.trigger ⟨1, 0, 0⟩),
      .queueRequestArrival .session .p1 .host (.diag []),
      .cellPreempt (.channel 16),
      .startUp { okEnv with bias := [[]] },
      .enumFrame badSett true,
      .enumAck badSett true none,
      .enumAck okSett true (some (2 ^ 64)),
      .chainReady badSett true,
      .heartbeat badSett true,
      .timeSync badSett true 1,
      .timeSync okSett true 9375,
      .delayReqPeriod (2 ^ 40),
      .delayReq badSett true 1 1,
      .delayReq okSett true (2 ^ 40) 1,
      .delayReq okSett true 1 (2 ^ 40),
      .delayResp badSett true 1,
      .delayResp okSett true (2 ^ 40),
      .imageOffer badSett true,
      .imageData badSett true,
      .imageNak badSett true,
      .imageConfirm badSett true,
      .arbRaise badSett true,
      .profileFrame badSett true,
      .overhearPlan badSett true,
      .overhearReport badSett true,
      .settRequest badSett true,
      .settResponse badSett true,
      .ledgerRec badSett true,
      .faultReport badSett true,
      .retxFrame badSett true,
      .absentFrame badSett true,
      .spliceProbe badSett true,
      .spliceReply badSett true,
      .spliceReport badSett true,
      .spliceAssign badSett true,
      .joinFrame badSett true,
      .fobCopy badSett true,
      .pollSlot 256,
      .lfFrameStart 2,
      .lfFrameEnd 16 [],
      .lfFrameEnd 1 [⟨16, 0, true⟩],
      .bankIdleOff 2,
      .bridgeShort 16 true,
      .bridgeOvertemp 16,
      .bridgeCool 16,
      .disabledRetest [16],
      .ctIdReceived 1 true (List.replicate 76 0),
      .ctResponseReceived 1 true (List.replicate 76 0)] : List Instr).all (fun i => i.wf == false) = true := by decide +kernel

theorem test_wellformed_refuses_2 :
    ([.laneRequest 3 .p1 14,
      .laneRequest 1 .p1 12,
      .synthLocked 2 0 [],
      .lockCheckTimeout 2,
      .lockLost 2,
      .txCommand 2 ⟨okAir.frame, none, 0, none, none⟩,
      .txCommand 1 ⟨badAir.frame, none, 0, none, none⟩,
      .txStart 2,
      .txLateDeadline 2,
      .rxCommand 2 none,
      .rxWindowEnd 2,
      .laneIdleSleep 2,
      .laneDomainOff 2,
      .laneTempSample 2 0,
      .calAgeExpiry 2,
      .loopback 2 ⟨[], []⟩,
      .syncDetect 2 ⟨[], 1, 1⟩,
      .syncDetect 1 ⟨[⟨[], 0⟩], 1, 1⟩,
      .wakeReply 2 okAir,
      .wakeReply 1 badAir,
      .airResponse 2 okAir,
      .airResponse 1 badAir,
      .rangePoll 2 okAir okRange,
      .rangePoll 1 badAir okRange,
      .rangePoll 1 okAir { okRange with syms := [] },
      .rangeReply 2 okAir okRange,
      .rangeReply 1 badAir okRange,
      .rangeReply 1 okAir { okRange with syms := [] },
      .rangeReport 2 okAir 1,
      .rangeReport 1 badAir 1,
      .rangeReplyTimeout 2,
      .rangeReportTimeout 2,
      .rangingExchange 64,
      .guardSecondExchange 64,
      .overhearExchangeEnd 2,
      .noticeFrame 2 okAir,
      .noticeFrame 1 badAir,
      .nctrCommitDone 64,
      .serviceFrame 2 okAir,
      .serviceFrame 1 badAir,
      .ackFrame 2 okAir,
      .ackFrame 1 badAir,
      .responseTimeout 64,
      .sessionTimeout 64,
      .barExpiry 64,
      .trackerStale 64,
      .trackerForget 64,
      .timGo .host 256,
      .timStop .host 256,
      .timerCompareMatch 8 1] : List Instr).all (fun i => i.wf == false) = true := by decide +kernel

theorem test_wellformed_refuses_3 :
    ([.timerCompareMatch 1 2,
      .timerOverflow 8,
      .retainedWindowWrite .host 65536 .b8 1,
      .retainedWindowWrite .host 1 .b8 256,
      .commitGroupSubmit .session .p1 [(65536, [0])],
      .tallyIncrement (.master .host) .p1 32,
      .tallyRaise (.master .host) .p1 32 1,
      .tallyRaise (.master .host) .p1 1 (2 ^ 32),
      .tallySetEraseDone 32,
      .generate .host 256,
      .importOpen .host 256,
      .importKey .host 256,
      .eraseSlot .host 256,
      .attest .host 256,
      .publicPoint .host 256,
      .exportKey .host 256,
      .legacyKeyWrite .host 4 1,
      .legacyKeyWrite .host 1 (2 ^ 32),
      .encrypt .host 256 1,
      .encrypt .host 1 16,
      .decrypt .host 256 1,
      .decrypt .host 1 16,
      .macTag .host 256 1,
      .macTag .host 1 16,
      .signDigest .host 256,
      .verifySig .host 256 1,
      .verifySig .host 1 16,
      .agree .host 256 1,
      .agree .host 1 256,
      .derive .host 256 1,
      .derive .host 1 256,
      .healthWindowClose { okWindow with raw := [] },
      .rawModeEnter .host 8,
      .healthTestFail { okWindow with raw := [] },
      .anticollision 3 [],
      .anticollision 1 (List.replicate 41 true),
      .isoSelect 3 (List.replicate 5 0),
      .isoSelect 1 [],
      .ppsRequest 4 1,
      .ppsRequest 1 4,
      .apduSelect { okApdu with cla := 256 } 1,
      .apduSelect okApdu 256,
      .authStep1 { okApdu with cla := 256 },
      .authStep2 { okApdu with cla := 256 },
      .readLeaf { okApdu with cla := 256 },
      .writeLeaf { okApdu with cla := 256 },
      .tagCommit { okApdu with cla := 256 } 1,
      .getSummary { okApdu with cla := 256 },
      .tagMemWrite .host 8192 .b8 1,
      .tagMemWrite .host 1 .b8 256] : List Instr).all (fun i => i.wf == false) = true := by decide +kernel

theorem test_wellformed_refuses_4 :
    ([.tagWiredCommit .host 128,
      .tagWiredDiscard .host 128,
      .ignitionFrame { okCan with id := 2 ^ 29 },
      .wakeFrame { okCan with id := 2 ^ 29 },
      .j1939AddressClaim (some []),
      .ringMessage { okCan with id := 2 ^ 29 },
      .isoTpFrame { okCan with id := 2 ^ 29 },
      .touchScan [],
      .touchStuck 8,
      .switchSample [],
      .switchDebounce 4,
      .switchStuck 4,
      .switchPolWrite .host (2 ^ 32),
      .wakeEvent { okEnv with bias := [[]] },
      .internalWake { okEnv with bias := [[]] },
      .tempSample [],
      .railOutOfRange 15 1 1,
      .processMonitor [],
      .plCapTrial [],
      .pollSkipDeadline 256,
      .railBackInRange 15 1 1,
      .nandNoAnswer 2] : List Instr).all (fun i => i.wf == false) = true := by decide +kernel

/-! ### States the witnesses are built on -/

/-- The unit in ON with every domain powered. -/
def onState : State := { (State.reset.put Reg.PWR_DOM_ON 0xFFF) with power := { PowerSt.init with state := .on } }

/-- The same as a head. -/
def headState : State := onState.setBit Reg.SETT_STAT_HEAD true

/-- A time well past every deadline. -/
def late : Nat := 2 ^ 50

def lateState : State := { onState with now := late }

def lateHead : State := { headState with now := late }

/-- A small image, as the tables of a head come into use. -/
def smallImage : Image :=
  { version := 0x20003, size := 0xA0, arb := 7, flags := 0, vehicle := 31281, built := 0, perso := [], digest := [],
    units := [⟨1, 0, 0xFFFF, 15, 0⟩], profiles := ⟨20, 10, 72, 23000, 60, [⟨1, 1, 100⟩, ⟨1, 1, 20⟩, ⟨1, 2, 60⟩, ⟨1, 2, 40⟩, ⟨1, 3, 100⟩]⟩,
    coils := [], aerials := [], rf := ⟨[20, 20, 20, 20], 0, 0, [], []⟩, crystal := [], zones := [],
    polls := [⟨0, 1, 500, 1, 0, 0, 0, 1, []⟩], canids := ⟨2, 0, 0, [], []⟩, ring := ⟨30, 1, [1, 2]⟩, waymarks := [], motion := ⟨25000, 0, 5⟩,
    fobpol := ⟨1, 3, 1000, 300, 4⟩, system := ⟨3, 4, 2, 0, 1000⟩ }

/-- A head that runs that image. -/
def imageHead : State := { lateHead with img := { ImgSt.init with run := some smallImage }, boot := { BootSt.init with profileAt := some 0 } }

/-- A slot's content put into retained memory. -/
def withSlot (n : Nat) (t : Slot) (s : State) : State := { s with nv := { s.nv with mem := memSetN s.nv.mem (n * 64) t.bytes } }

/-- A key for the unit's own engines in every life-cycle state. -/
def ownKey (b : Nat) : Slot := ⟨List.replicate 32 (BitVec.ofNat 8 b), 0x1F102000, 0, 0, 32, zeros 16, 1⟩

/-- A numbered satellite of a chain under epoch 5. -/
def satState : State :=
  let s := withSlot 2 (ownKey 7) { lateState with sett := { SettSt.init with epoch := 5 } }
  (s.put Reg.SETT_STAT_NUM 3).setBit Reg.SETT_STAT_UPUP true

/-- Unit 1, the head of that chain. -/
def chainHead : State := (satState.put Reg.SETT_STAT_NUM 1).setBit Reg.SETT_STAT_HEAD true

/-- A frame of that chain. -/
def chainFrame (typ dst src : Nat) (cls : Cls) (p : Bytes) : SettFrame :=
  settBuild (List.replicate 32 7) 5 (settHdr typ false dst src cls) 9 (src - 1) p

/-- A frame under epoch 0. -/
def chainFrame0 (typ dst src : Nat) (p : Bytes) : SettFrame :=
  settBuild (List.replicate 32 7) 0 (settHdr typ false dst src .p1) 0 (src - 1) p

/-- A unit hears a frame of a type with a payload, and the state it leaves passes a check. -/
def hears (typ : Nat) (f : SettFrame) (p : Bytes) (z : Bool) (s : State) (ok : State → Bool) : Bool :=
  let r := settHear typ f false s
  (match r.1 with
    | some (q, y) => q == p && y == z
    | none => false) && ok r.2

/-- A DRBG that has been instantiated. -/
def seededDrbg : Drbg := ⟨zeros 32, zeros 16, 0⟩

def seeded (s : State) : State := { s with ent := { s.ent with drbg := some seededDrbg } }

/-- An image with a door coil and a holder coil, coupled starts allowed. -/
def fieldImage : Image :=
  { smallImage with
    coils := [⟨1, 0, 0, 120, 0, 0, 0, 0, 0, 0, 124600⟩, ⟨1, 7, 2, 50, 0, 0, 0, 0, 0, 0, 125000⟩] }

/-- A numbered head that runs that image, its two coils fitted and all of them idle. -/
def fieldState : State :=
  let s : State := { (headState.put Reg.SETT_STAT_NUM 1).setBit Reg.SETT_STAT_UPUP true with
    now := late, img := { ImgSt.init with run := some fieldImage } }
  ((s.setBit (Reg.LF_CH_CFG_FIT 0) true).setBit (Reg.LF_CH_CFG_FIT 7) true).put Reg.SES_PROF_CUR 1

/-- A fob record put into retained memory. -/
def withFob (n : Nat) (r : FobRec) (s : State) : State := { s with nv := { s.nv with mem := memSetN s.nv.mem (fobOffset n) r.bytes } }

/-- A fob with every right. -/
def someFob : FobRec := ⟨0x01020304, 7, 0x1F, 1, 0, 5, 0⟩

/-- That head with both aerials of both lanes fitted. -/
def airState : State := (fieldState.put (Reg.AIR_LN_CFG_AMASK 0) 3).put (Reg.AIR_LN_CFG_AMASK 1) 3

/-- LANE0 in a state, with a lane's data. -/
def laneIs (code : Nat) (l : Lane) : State := (airState.setLane 0 l).put (Reg.AIR_LN_STAT_STATE 0) code

/-- A run of a start trigger whose sessions have begun. -/
def someRun : TrigRun := ⟨1, ⟨0x28, 0, 0⟩, [], none, 1, true, true, none, none, 0, [], [], false, [], 0⟩

/-- An authenticated session of that run. -/
def someSession : Session :=
  ⟨[(1, some 5)], 3, 0x01020304, 1, 0, zeros 16, zeros 16, 3, 1, 0, true, 1, 0, 0, 0, 0, 0, none, [], 0, late, 0⟩

/-- The head with that session on LANE0, in RX, where a frame of a class has been detected. -/
def sesState (cls : Nat) : State :=
  let s := (laneIs 3 { Lane.init with held := some .p0, rx := some ⟨none, some cls⟩ }).put (Reg.AIR_LN_STAT_CHAN 0) 14
  let t : State := { s with
    ses := { s.ses with ss := [someSession], runs := [someRun] }, den := { s.den with vol := [⟨.kS, 3, zeros 16⟩, ⟨.kR, 3, zeros 32⟩] } }
  (withSlot 1 (ownKey 9) (withFob 3 someFob t)).setBit (Reg.AIR_LN_STAT_LOCK 0) true

/-- An exchange of that session that has sent its RANGE_FINAL. -/
def finalExch : Exch :=
  ⟨3, zeros 16, 1, 0, false, 0, 1, 1, [0], [⟨2457600, 0, 80, 0, [], 0, ⟨0, 0⟩, ⟨0, 0⟩⟩], some 13672448, 0, false, some 0, [], []⟩

/-- The head with a diagnostic message waiting, in an authenticated session. -/
def diagState (ses : Nat) (m : Bytes) : State :=
  let s : State := { fieldState with can := { fieldState.can with session := ses, authed := true, lastReq := late } }
  s.setQueue .canCmd { Queue.init with items := [⟨.p3, .can, false, late, .diag m⟩] }

/-- A frame as it is received whole. -/
def heardAir (f : AirFrame) : AirRx := ⟨f, 0, Cx.zero, [], [], [], 0⟩

/-- What a fob of record 3 sends to unit 1. -/
def fobFrame (typ cls : Nat) (p : Bytes) : AirRx := heardAir (airFrame ⟨typ, cls, p.length, 0, 0x43, 1, 0⟩ none 0 0 0 p)

/-- The head with its retained memory up. -/
def storeState : State := { fieldState with rmc := { fieldState.rmc with ready := true } }

/-- A stored slot in CHECK whose CRC holds. -/
def goodSlot (key : Bytes) (attr engine : Nat) : Slot := ⟨key, attr, engine, 0, 32, zeros 16, 1⟩

/-- A FIELD unit with an HMAC key of the host in slot 20. -/
def denState : State :=
  (withSlot 20 (goodSlot (zeros 32) (0x1F * 2 ^ 24 + 2 ^ 21 + 2 ^ 17 + 4 * 64 + 3) 0) storeState).put Reg.VLT_LC_STATE 2

/-- A small device of this unit's serial, 72 spare blocks in its area, with retired blocks. -/
def ledgerDev (serial : Nat) (bad : List Nat) : NandDev := { NandDev.init with page := 4096, blocks := 4096 }.writeCtrl ⟨0, serial, 31281, 4096, 4096, bad, [], 0⟩

/-- A head whose ledger is open on both devices, with a record waiting. -/
def ledgerState : State :=
  let s := withSlot 5 (ownKey 5) (withSlot 3 (ownKey 3) (seeded fieldState))
  let s : State := { s with led := { s.led with opened := true, served := [true, true] }, nand := { s.nand with devs := [ledgerDev 0 [], ledgerDev 0 []] } }
  (s.setBit Reg.LDG_STAT_READY true).setBit Reg.LDG_STAT_HALT false

/-- A record with TIME_VALID set. -/
def someRec : Rec := ⟨0x14, 1, 1, 0, 820000000, zeros 32⟩

def recWaits : State :=
  ledgerState.setQueue .ingest { Queue.init with items := [⟨.p0, .ledger, false, late, .record someRec⟩] }

/-! ### Witnesses: the architecture (01) -/

theorem wit_AccessStatusOrder :
    (regionOf Reg.SUP_RGN_STAT = some .sup ∧ onState.reaches .host Reg.SUP_RGN_STAT .sup true = false) ∧
    (regionOf 0x2FFFFFFC = some .field ∧ onState.reaches .session 0x2FFFFFFC .field true = true ∧
      (enqueue (.fabric 2) .p1 .session .burst onState).1 = .taken ∧ targetOf 0x2FFFFFFC 4 = none) ∧
    (regionOf 0 = none ∧ FabStatus.unmapped ≠ .silent) ∧
    (State.reset.targetOff Reg.LF_CLR (.reg Reg.LF_CLR) = true ∧ targetOf Reg.LF_CLR 4 = some (.reg Reg.LF_CLR)) ∧
    (onState.targetOff Reg.LF_CLR (.reg Reg.LF_CLR) = false ∧
      (isolate .lfCommon 0x2F00 onState).isIsolated (blockAt Reg.LF_CLR) = true ∧ onState.isIsolated (blockAt Reg.LF_CLR) = false) ∧
    (targetOf Reg.LF_CLR 1 = some (.reg Reg.LF_CLR) ∧ Width.b8 ≠ .b32) ∧
    (targetOf 0x80000000 4 = some (.sram 0) ∧ onState.targetOff 0x80000000 (.sram 0) = false ∧ onState.isIsolated (blockAt 0x80000000) = false) := by
  decide +kernel

theorem wit_PlainRegisterWrite :
    regsWf onState.regs = true ∧ onState.mayWrite .can Reg.PWR_RST_CAUSE = true ∧
      (regRows.find? (fun r => r.addr ≤ Reg.PWR_RST_CAUSE && (Reg.PWR_RST_CAUSE - r.addr) % r.stride == 0 &&
        (Reg.PWR_RST_CAUSE - r.addr) / r.stride < r.count)).isSome = true := by
  decide +kernel

/-- A session queue of `n` requests of P1 and `k` of P0, without answers left. -/
def fullQueue (n k d : Nat) : State :=
  onState.setQueue .session ⟨List.replicate n ⟨.p1, .session, false, 0, .burst⟩ ++ List.replicate k ⟨.p0, .session, true, 0, .burst⟩, d, 0, 0, 0, 0⟩

theorem wit_OverloadContract :
    placeFor .session .p0 false Queue.init = some true ∧
    placeFor .session .p1 false ((fullQueue 47 16 0).queue .session) = some false ∧
    placeFor .session .p0 false ((fullQueue 48 16 0).queue .session) = none ∧
    (placeFor .session .p1 false ((fullQueue 48 0 0).queue .session) = none ∧ ((fullQueue 48 0 0).queue .session).deficit + answerUnit ≤ 64 * answerUnit) ∧
    (64 * answerUnit < ((fullQueue 48 0 (64 * answerUnit)).queue .session).deficit + answerUnit ∧
      (fullQueue 48 0 (64 * answerUnit)).queues.length = 23) := by
  decide +kernel

/-- The same queue with a request of the host, class P3, that came in this tick. -/
def tickQueue : State :=
  onState.setQueue .session ⟨List.replicate 47 ⟨.p1, .session, false, 0, .burst⟩ ++ [⟨.p3, .host, false, 0, .burst⟩], 0, 0, 0, 0, 0⟩

theorem wit_OverloadContract_places :
    (isolate .session 0x7F00 onState).isIsolated .session = true ∧ onState.isIsolated .session = false ∧
    placeFor .session .p1 false ((awake tickQueue).found .session) = none ∧
    ((awake tickQueue).loserTo .session .p1 .session).map (·.cls) = some .p3 ∧ (awake (fullQueue 48 16 0)).loserTo .session .p0 .session = none := by
  decide +kernel

theorem wit_QueueNeverOverfills :
    let s := fullQueue 48 16 0
    s.queues.length = 23 ∧ (s.queue .session).held true ≤ QueueId.session.reserved ∧
      (s.queue .session).held false ≤ QueueId.session.depth - QueueId.session.reserved ∧
      ∀ i ∈ (s.queue .session).items, i.reserved = true → i.cls = .p0 := by
  decide +kernel

/-- A frame of class P3 driven on coil 0 since time 0. -/
def slowRun : LfRun := ⟨⟨.poll 0, 0, [(0, 40)], [], 0, 0, false⟩, .p3, 0, [], [], none⟩

def p0Frame : QItem := ⟨.p0, .session, true, 0, .lf ⟨.lfrun 1, 0, [(0, 40)], [], 0, 0, false⟩⟩

def slowState (l : List QItem) : State :=
  { lateState.setQueue (.bank 0) ⟨l, 0, 0, 0, 0, 0⟩ with lf := { LfSt.init with runs := [slowRun] } }

theorem wit_ArchitectureCommands :
    (let s := { onState.setQueue (.lane 0) ⟨[⟨.p0, .session, true, 0, .lane ⟨0, 14, none⟩⟩], 0, 0, 0, 0, 0⟩ with
        air := { AirSt.init with lanes := [{ Lane.init with held := some .p1 }, Lane.init] } };
      (s.lane 0).held = some .p1 ∧ Cls.p1 ≠ .p0 ∧ (s.queue (.lane 0)).items.any (fun i => i.cls == .p0) = true) ∧
    (let s := slowState [p0Frame];
      s.runOn 0 = some slowRun ∧ slowRun.cls ≠ .p0 ∧ slowRun.startAt + periodTicks slowRun.req.periods ≤ s.now ∧ s.p0Waits 0 = true ∧
        (s.queue (.bank 0)).items.any (s.sameSchedule slowRun) = false ∧ (s.queue (.bank 1)).items.any (s.sameSchedule slowRun) = false) ∧
    (let s := slowState [p0Frame, ⟨.p3, .session, false, 0, .lf slowRun.req⟩];
      s.runOn 0 = some slowRun ∧ s.p0Waits 0 = true ∧ (s.queue (.bank 0)).items.any (s.sameSchedule slowRun) = true) ∧
    (let s := { onState.setQueue .den ⟨[⟨.p0, .session, true, 0, .burst⟩], 0, 0, 0, 0, 0⟩ with den := { DenSt.init with wait := some ⟨1, .host, 20⟩ } };
      s.den.wait = some ⟨1, .host, 20⟩ ∧ s.p0Queued .den = true ∧ Master.host ≠ .session) ∧
    (Source.measured.again = true ∧ (onState.escTimes .fox).length < 15 ∧ (⟨[1], [0]⟩ : Datum).holds = false ∧ (Datum.of [1]).holds = true) ∧
    (let s := headState.put Reg.SES_PROF_CUR 0;
      s.profile ≠ 7 ∧ s.bit Reg.SUP_HH_STAT_HALT = false ∧ s.isHead = true ∧ s.boot.evalSec ≠ some (s.now / 4194304)) ∧
    (onState.lc ≠ 3 ∧
      (onState.setBit Reg.WM_MSTAT_MOVING true).bit Reg.WM_MSTAT_MOVING = true ∧ onState.bit Reg.WM_MSTAT_MOVING = false ∧
      ({ onState with lines := { LinesSt.init with ignition := true } } : State).lines.ignition = true) ∧
    (onState.put Reg.VLT_LC_STATE 3).lc = 3 := by
  decide +kernel

/-- A fabric port with 12 requests of P1 of the same tick. -/
def fullPort (d : Nat) : State := onState.setQueue (.fabric 2) ⟨List.replicate 12 ⟨.p1, .session, false, 0, .burst⟩, d, 0, 0, 0, 0⟩

theorem wit_AccessStatusOrder_queue :
    (fullPort 0).reaches .session Reg.LF_CLR .field true = true ∧
    (enqueue (.fabric 2) .p1 .session .burst (fullPort 0)).1 = .busy ∧
    (enqueue (.fabric 2) .p1 .session .burst (fullPort (16 * answerUnit))).1 = .dropped := by
  decide +kernel

/-! ### Witnesses: image, start-up and restart (02, 03) -/

/-- What a start-up meets when the fuse reads disagree. -/
def badFuses : BootEnv := ⟨true, true, false, true, [], ⟨[], []⟩, ⟨[], []⟩, 0, 0, true, false, true, true⟩

theorem wit_ResetSources :
    (onState.setBit Reg.PWR_STAT_BKP true).bit Reg.PWR_STAT_BKP = true ∧ onState.lcFused = 0 ∧
    ({ onState with straps := { StrapsSt.init with fld := 3 } } : State).lcFused = 2 ∧ onState.power.state ≠ .reset ∧
    (restartOnly .extrst onState).power.state = .reset ∧ (restartOnly .extrst onState).power.causes = [(.extrst, (restartOnly .extrst onState).now)] ∧
    (let s : State := { onState with power := { PowerSt.init with state := .hibernate }, powAon := { PowAonSt.init with wakes := [3] } };
      s.power.state = .hibernate ∧ s.powAon.wakes ≠ []) ∧
    (let s : State := { onState with hh := { HhSt.init with restart := some (0x1401, 0) } };
      s.hh.restart = some (0x1401, 0) ∧ s.rmc.cur = none ∧ s.rmc.op = none) ∧
    onState.domOn .sup = true := by
  decide +kernel

theorem wit_LatchSurvivesRestart : regsWf (onState.setBit Reg.SL_STAT_LATCH true).regs = true := by decide +kernel

theorem wit_StartUpSteps :
    (State.reset.power.state = .reset ∧ State.reset.tag.path = none ∧ badFuses.fuses = false) ∧ onState.power.state ≠ .reset ∧
    ({ State.reset with tag := { TagSt.init with path := some ⟨[], [], 0⟩ } } : State).tag.path.isSome = true ∧ badFuses.testBall = false ∧
    State.reset.bit Reg.PWR_STAT_BKP = false ∧
    (let s := imageHead.setBit Reg.MEM_IMG_STAT_TRIAL true;
      s.img.run = some smallImage ∧ s.boot.profileAt = some 0 ∧ s.isHead = true ∧ s.bit Reg.MEM_IMG_STAT_TRIAL = true ∧
      s.img.confirming = false ∧ s.after 0 (smallImage.profiles.tConfirm * 1000000) = true ∧
      (submitGroup .p1 ⟨[{ s.selector with trial := 0 }.write], .confirmTrial false⟩ s).1 = .taken) := by
  decide +kernel

theorem wit_SlotSelection :
    (Selector.mk 0 2 0 0).pending ≠ 0 ∧ (Selector.mk 0 0 1 3).trial = 1 ∧ (Selector.mk 0 0 1 0).tries ≠ 3 ∧ (Selector.mk 0 0 0 0).trial ≠ 1 := by
  decide

/-! ### Witnesses: the Sett chain (04) -/

theorem wit_ChainFrameAccepted :
    let s := satState;
    let g := chainFrame 0x0D 3 1 .p1 [1];
    let h := { g with hcrc := g.hcrc + 1 };
    let q := chainFrame 0x0D 3 1 .p0 [1];
    let t := portHeard (!g.goesDown) (awake s);
    let u := copyCut g (settWatch g t);
    (s.power.state ≠ .reset ∧ s.runs = true ∧ s.domOn .lnk = true ∧ s.isIsolated .sett = false ∧ s.slotKey 2 = some (List.replicate 32 7)) ∧
    crc16 (be 2 h.hdr) ≠ h.hcrc ∧ (crc16 (be 2 q.hdr) = q.hcrc ∧ settBad q (portHeard (!q.goesDown) (awake s)) = true) ∧
    (crc16 (be 2 g.hdr) = g.hcrc ∧ settBad g t = false ∧ g.typ = 0x0D ∧ g.bc = false ∧ g.forMe (settWatch g t) = true ∧ g.forMe u = true ∧
      u.bit Reg.SETT_STAT_QUAR = false) ∧
    (let w := enqueue .settRx g.cls .sett (.frame g) u;
     w.1 = .taken ∧ w.2.slotKey 2 = s.slotKey 2 ∧ w.2.zeroType g.typ = false ∧ w.2.sett.epoch = 5 ∧ w.2.lastCtr g.src = none ∧
      w.2.sett.oldEpoch = none) ∧
    crc32c (be 4 g.ctr ++ g.payload) = g.pcrc ∧ crc32c (be 4 g.ctr ++ [2]) ≠ g.pcrc ∧
    (let t : State := { s with sett := { s.sett with lastCtr := [(1, 9)] } }; t.lastCtr g.src = some 9 ∧ g.ctr ≤ 9) ∧
    settMac (List.replicate 32 7) 5 g.hdr g.ctr g.payload = g.mac ∧
    settMac (List.replicate 32 7) 5 g.hdr g.ctr g.payload ≠ { g with mac := zeros 16 }.mac := by
  decide +kernel

theorem wit_ChainEnumeration_enum :
    let p : Bytes := [3] ++ zeros 8 ++ [1, 2, 3, 4, 5, 6, 7, 8];
    hears 0x01 (chainFrame0 0x01 3 2 p) p true satState (fun t => !t.isHead && !t.isActing) = true ∧
    2 ≤ fieldBe p 0 1 ∧ fieldBe p 0 1 ≤ 15 := by decide +kernel

theorem wit_ChainEnumeration_ack :
    let p : Bytes := be 8 77 ++ zeros 4 ++ [1, 2, 3, 4, 5, 6, 7, 8];
    let s : State := { chainHead with sett := { chainHead.sett with enumAt := some 0, enumNonce := [1, 2, 3, 4, 5, 6, 7, 8] } };
    s.isHead = true ∧
    hears 0x02 (chainFrame0 0x02 1 3 p) p true s (fun t => t.isHead && t.sett.enumAt.isSome && t.sett.enumNonce == sub p 12 8 &&
      t.sett.acks.isEmpty) = true ∧ fieldBe p 8 2 = 0 ∧ fieldBe p 10 1 % 2 = 0 := by decide +kernel

theorem wit_ChainEnumeration_end :
    let e : SettSt := { satState.sett with enumAt := some 0 };
    let s : State := { satState with sett := e };
    let h : State := { chainHead with sett := e };
    (s.runs = true ∧ s.isHead = false ∧ s.after 0 100 = true) ∧ (h.isHead = true ∧ h.runs = true ∧ h.after 0 100 = true ∧ h.boot.step9 = false) ∧
    memGetN (bindingCommit h.newBindings h).nv.mem 0x6000 512 = zeros 512 ∧
    (let g : State := { h with nv := { h.nv with mem := memSetN h.nv.mem 0x6000 (bindingTable h.newBindings) } };
      memGetN g.nv.mem 0x6000 512 = bindingTable g.newBindings ∧ g.sett.acks = []) := by decide +kernel

theorem wit_ChainEnumeration_epoch :
    let p : Bytes := be 8 6 ++ [2] ++ be 8 4;
    hears 0x03 (chainFrame 0x03 3 1 .p1 p) p false satState (fun t => !t.isHead && decide (t.chron.count.toNat < fieldBe p 9 8)) = true ∧
    (let p : Bytes := be 8 6 ++ [2] ++ be 8 4 ++ [1, 2, 3, 4, 5, 6, 7, 8];
     let s : State := { satState with sett := { satState.sett with nonce := some [1, 2, 3, 4, 5, 6, 7, 8] } };
     hears 0x03 (chainFrame0 0x03 3 1 p) p true s (fun t => !t.isHead && !t.isActing && t.sett.nonce == some (sub p 17 8) && !t.bit Reg.SETT_STAT_CONV) = true) ∧
    (let e : SettSt := { satState.sett with nextEpoch := some (6, 0) };
     ({ satState with sett := e } : State).sett.nextEpoch = some (6, 0) ∧ 0 ≤ satState.chron.count.toNat ∧ satState.chron.count.toNat < 1) ∧
    (let s := seeded { chainHead with sett := { chainHead.sett with epochDay := 7 } };
     s.isHead = true ∧ s.runs = true ∧ s.unitNum ≠ 0 ∧ s.sett.enumAt = none ∧ s.dayOf s.secs ≠ s.sett.epochDay ∧
     (match (randBytes false 8 s).1 with
      | .bytes _ => true
      | _ => false) = true) := by decide +kernel

theorem wit_ChainTime :
    hears 0x04 (chainFrame 0x04 3 1 .p1 []) [] false satState (fun t => !t.isHead && !t.isActing) = true ∧
    (chainHead.chainLead = true ∧ chainHead.after chainHead.sett.emittedAt 10000 = true) ∧
    ({ satState with now := 0 } : State).after satState.sett.emittedAt 10000 = false ∧
    hears 0x05 (chainFrame 0x05 3 1 .p1 (zeros 13)) (zeros 13) false satState (fun t => !t.isHead && !t.isActing) = true ∧
    (regsWf (satState.setBit Reg.SETT_STAT_QUAR true).regs = true ∧ (satState.setBit Reg.SETT_STAT_QUAR true).bit Reg.SETT_STAT_QUAR = true ∧
      satState.bit Reg.SETT_STAT_QUAR = false) ∧
    chainHead.after chainHead.sett.syncAt (if chainHead.quarKnown = 0 then 100000 else 1000) = true ∧
    (let s := satState.setBit Reg.SETT_STAT_DNUP true;
     s.bit Reg.SETT_STAT_DNUP = true ∧ s.unitNum ≠ 0 ∧ s.after s.sett.delayAt s.delayPeriod = true ∧ s.sett.unanswered < 3) ∧
    hears 0x06 (chainFrame 0x06 3 2 .p1 (zeros 20)) (zeros 20) false satState (fun _ => true) = true ∧
    hears 0x07 (chainFrame 0x07 3 4 .p1 (zeros 16)) (zeros 16) false satState (fun t => decide (t.sett.t1 ≤ 5)) = true := by
  decide +kernel

/-- The image a satellite retains, as far as its offer looks at it. -/
def retained : Bytes := zeros 96

theorem wit_ChainImages_sat :
    let p := be 4 96 ++ zeros 32;
    let s : State := { satState with
      imgAon := { satState.imgAon with retained := some retained },
      img := { satState.img with run := some { smallImage with digest := zeros 32 } } };
    hears 0x08 (chainFrame 0x08 3 1 .p1 p) p false s (fun t => !t.isHead && t.imgAon.retained == some retained && t.sett.assignedAt.isNone &&
      t.img.run == some { smallImage with digest := zeros 32 }) = true ∧ sub retained (retained.length - 96) 32 = sub p 4 32 ∧
    hears 0x08 (chainFrame 0x08 3 1 .p1 p) p false satState (fun t => !t.isHead && t.imgAon.retained.isNone) = true ∧
    (let s : State := { satState with img := { satState.img with rxSize := 96, rxAt := some 0 } };
     hears 0x09 (chainFrame 0x09 3 1 .p3 (zeros 100)) (zeros 100) false s (fun t => !t.isHead && t.img.rxSize == 96) = true ∧
     0 ∈ imageOffsets 96 ∧ s.after 0 2000 = true ∧ (imageOffsets s.img.rxSize).filter (fun o => (s.fragment o).isNone) = [0]) ∧
    hears 0x0C (chainFrame 0x0C 3 1 .p1 (be 4 8)) (be 4 8) false satState (fun t => !t.isHead) = true ∧
    (let s := satState.put Reg.SES_PROF_CUR 1;
     hears 0x0D (chainFrame 0x0D 3 1 .p1 [2]) [2] false s (fun t => !t.isHead && !t.isActing && !t.bit Reg.SUP_HH_STAT_HALT &&
       t.profile == 1) = true) := by
  decide +kernel

/-- The head with units 3 and 4 enumerated below it. -/
def withBelow : State := { chainHead with sett := { chainHead.sett with quarMask := 12 } }

theorem wit_ChainImages_head :
    hears 0x0A (chainFrame 0x0A 1 3 .p3 (be 4 1020)) (be 4 1020) false chainHead (fun t => t.isHead) = true ∧
    hears 0x0B (chainFrame 0x0B 1 3 .p1 [9]) [9] false withBelow (fun t => t.isHead &&
      !({ t with img := { t.img with confirms := [(3, 9)] } } : State).allConfirmed) = true ∧
    hears 0x0B (chainFrame 0x0B 1 3 .p1 [0]) [0] false withBelow (fun t => t.isHead && !t.mapHas 3 && t.present 3 &&
      !(setMap (maskWith (t.get Reg.SETT_MAP_V) 3) { t with img := { t.img with confirms := [(3, 0)] } }).allConfirmed) = true ∧
    (let s := chainHead.put Reg.SES_PROF_CUR 1;
     s.chainLead = true ∧ s.profile ≠ 7 ∧ s.after s.sett.profAt 1000000 = true) ∧
    ({ satState with now := 0 } : State).after satState.sett.profAt 1000000 = false := by
  decide +kernel

theorem wit_ChainTraffic_plan :
    let p : Bytes := zeros 19 ++ be 2 4 ++ zeros 16;
    hears 0x0E (chainFrame 0x0E 3 1 .p0 p) p false satState (fun t => !t.isHead && t.unitNum == 3 &&
      decide ((Plan.of p).start ≤ t.chron.count.toNat)) = true ∧ (Plan.of p).mask / 2 ^ 2 % 2 = 1 ∧
    (let p : Bytes := zeros 2 ++ be 8 9 ++ zeros 9 ++ be 2 4 ++ zeros 16;
     let s : State := { (satState.put (Reg.AIR_LN_CFG_AMASK 0) 3) with img := { satState.img with run := some fieldImage } };
     hears 0x0E (chainFrame 0x0E 3 1 .p0 p) p false s (fun t => !t.isHead && t.unitNum == 3 && !t.bit Reg.SETT_STAT_QUAR &&
       decide (t.chron.count.toNat < (Plan.of p).start) && (Plan.of p).mask / 2 ^ 2 % 2 == 1 &&
       [0, 1].find? (fun n => t.laneServes n && (t.lane n).held.isNone && (t.ohOn n).isNone) == some 0) = true) := by
  decide +kernel

/-- An exchange under way. -/
def someExch : Exch := ⟨1, zeros 16, 6, 1, false, 0, 0, 0, [], [], none, 0, false, none, [], []⟩

theorem wit_ChainTraffic_head :
    let p : Bytes := [0, 6] ++ zeros 12;
    hears 0x0F (chainFrame 0x0F 1 3 .p0 p) p false (setEx 0 (some someExch) chainHead)
      (fun t => t.isHead && (t.exOn 0).any (fun x => x.q1 % 65536 == fieldBe p 0 2)) = true ∧ fieldBe p 2 1 = 0 ∧
    (let p : Bytes := [0, 8, 5, 0];
     let s : State := { chainHead with sett := { chainHead.sett with reqs := [⟨8, 3, 0x10000000, 1⟩] } };
     hears 0x11 (chainFrame 0x11 1 3 .p1 p) p false s (fun t => t.isHead &&
       t.sett.reqs.find? (fun q => q.tag == fieldBe p 0 2 && q.unit == 3) == some ⟨8, 3, 0x10000000, 1⟩) = true ∧
     fieldBe p 0 2 ≠ 0xFFFF ∧ fieldBe p 2 1 ≠ 0) ∧
    hears 0x12 (chainFrame 0x12 1 3 .p2 (zeros 40)) (zeros 40) false chainHead (fun t => t.isHead) = true ∧
    hears 0x13 (chainFrame 0x13 1 3 .p1 (be 2 0x1301)) (be 2 0x1301) false chainHead (fun t => t.isHead && !t.isActing) = true ∧
    fieldBe (be 2 0x1301) 0 2 ≠ 0x6106 := by
  decide +kernel

theorem wit_ChainTraffic_sat :
    (let p : Bytes := [0, 1, 0, 2] ++ be 4 0x10000000;
     hears 0x10 (chainFrame 0x10 3 1 .p1 p) p false satState (fun _ => true) = true ∧ 1 ≤ fieldBe p 3 1 ∧ fieldBe p 3 1 ≤ 16 ∧
     p.length = 8 ∧ fieldBe p 2 1 = 0) ∧
    (let p : Bytes := [0, 1, 1, 1] ++ be 4 0x10000000 ++ zeros 4; p.length = 8 + 4 * fieldBe p 3 1 ∧ fieldBe p 2 1 = 1) ∧
    (let g := chainFrame 0x12 1 3 .p2 (zeros 40);
     let p : Bytes := [2] ++ be 4 9;
     let s : State := { satState with sett := { satState.sett with sent := [(late, g)] } };
     hears 0x14 (chainFrame 0x14 3 1 .p1 p) p false s (fun t => fieldBe p 0 1 + 1 == t.unitNum && (t.slotKey 2).isSome &&
       t.sett.sent.find? (fun q => q.2.ctr == fieldBe p 1 4 && t.within q.1 5000) == some (late, g)) = true ∧
     settSealed g.typ = false ∧ fieldBe p 1 4 ≠ 0) ∧
    (let g := chainFrame 0x10 4 3 .p1 ([0, 1, 0, 2] ++ be 4 0x10000000);
     let p : Bytes := [2] ++ be 4 9 ++ [0x10];
     let s : State := { satState with sett := { satState.sett with sent := [(late, g)] } };
     hears 0x15 (chainFrame 0x15 3 2 .p1 p) p false s (fun t => fieldBe p 0 1 + 1 == t.unitNum &&
       t.sett.sent.find? (fun q => q.2.ctr == fieldBe p 1 4 && q.2.typ == 0x10) == some (late, g)) = true ∧ fieldBe p 5 1 = 0x10) ∧
    (let f := chainFrame 0x0D 4 1 .p1 [1];
     let s : State := { satState with sett := { satState.sett with stored := [(true, f)] } };
     s.sett.stored.find? (fun q => q.1 == true) = some (true, f) ∧ s.sett.late = [] ∧ (s.port true).opens true s.now = true) ∧
    (let s := satState.put Reg.SETT_STAT_NUM 2;
     hears 0x1B (chainFrame 0x1B 2 1 .p1 [1, 2, 3]) [1, 2, 3] false s (fun t => t.unitNum == 2 && !t.isHead) = true) := by
  decide +kernel

theorem wit_ChainSplice_loss :
    (let s : State := { satState with sett := { satState.sett with silenceDone := false } };
     s.runs = true ∧ s.isHead = false ∧ s.isActing = false ∧ s.unitNum ≠ 0 ∧ s.sett.idleSent = false ∧ s.sett.silenceDone = false ∧
       s.after s.sett.silenceAt 50000 = true ∧ s.unitNum ≠ 2) ∧
    (let s := satState.put Reg.SETT_STAT_NUM 2;
     s.unitNum = 2 ∧ s.bit Reg.SETT_STAT_UPUP = true ∧ (s.setBit Reg.SETT_STAT_UPUP false).bit Reg.SETT_STAT_UPUP = false) ∧
    ({ satState with now := 0 } : State).silenceOver = false ∧
    (let s := seeded (satState.setBit Reg.SETT_STAT_LAST true);
     s.bit Reg.SETT_STAT_LAST = true ∧ s.sett.restricted = false ∧ s.domOn .lnk = true ∧
     (match (randBytes false 8 s).1 with
      | .bytes _ => true
      | _ => false) = true) ∧
    (let s : State := { satState with sett := { satState.sett with assignedAt := some 0 } };
     s.bit Reg.SETT_STAT_CONV = false ∧ s.sett.convFault = false ∧ s.after 0 20000 = true) ∧
    numberFor 5 [⟨5, 3, true, 0⟩] = some 3 := by
  decide +kernel

theorem wit_ChainSplice_probe :
    let n : Bytes := [1, 2, 3, 4, 5, 6, 7, 8];
    hears 0x16 (chainFrame0 0x16 4 3 n) n true (satState.put Reg.SETT_STAT_NUM 0) (fun t => !t.isHead && t.unitNum == 0) = true ∧
    (let p := be 8 77 ++ zeros 32 ++ n;
     let s : State := { satState with sett := { satState.sett with probe := some (n, 0) } };
     hears 0x17 (chainFrame0 0x17 1 16 p) p true s (fun t => t.sett.probe == some (n, 0) && decide (t.sett.replies.length < 16)) = true ∧
     sub p 40 8 = n) ∧
    (let s : State := { satState with sett := { satState.sett with probe := some (n, 0), replies := [⟨77, zeros 32⟩] } };
     s.after 0 500 = true ∧ s.isHead = false ∧ s.sett.replies ≠ []) := by
  decide +kernel

theorem wit_ChainSplice_assign :
    let n : Bytes := [1, 2, 3, 4, 5, 6, 7, 8];
    (let p := n ++ be 8 77 ++ zeros 32;
     hears 0x18 (chainFrame 0x18 1 3 .p1 p) p false chainHead (fun t => t.isHead) = true) ∧
    (let p := be 8 6 ++ n ++ be 8 0 ++ [4];
     let s : State := { satState.put Reg.SETT_STAT_NUM 0 with sett := { satState.sett with nonce := some n } };
     hears 0x19 (chainFrame0 0x19 4 3 p) p true s (fun t => t.unitNum == 0 && !t.isHead && !t.isActing && t.sett.nonce == some (sub p 8 8) &&
       regsWf t.regs && assigned p t.straps.serial == some 4) = true) ∧
    chainHead.isHead = true ∧ hears 0x1A (chainFrame 0x1A 1 3 .p1 []) [] false chainHead (fun t => t.isHead) = true := by
  decide +kernel

/-! ### Witnesses: the low-frequency field (05) -/

/-- The request of the image's poll. -/
def pollReq : LfReq := fieldState.lfReq (.poll 0) ⟨0, 1, 500, 1, 0, 0, 0, 1, []⟩

/-- That request waiting in bank A. -/
def pollWaiting : State := fieldState.setQueue (.bank 0) { Queue.init with items := [⟨.p0, .session, false, late, .lf pollReq⟩] }

/-- That request running for as long as it lasts. -/
def pollRun : LfRun := ⟨pollReq, .p0, 0, [], fieldState.carrierOf pollReq [], none⟩

def pollRuns : State := { fieldState with lf := { fieldState.lf with runs := [pollRun] } }

/-- The request that waits. -/
def pollItem : QItem := ⟨.p0, .session, false, late, .lf pollReq⟩

/-- A coupled exchange of the holder in a phase. -/
def ctWaits (p : CtPhase) : State :=
  let s : State := { fieldState with lf := { fieldState.lf with ct := some ⟨0, p, 0, 0, 0xFF, [], [1, 2, 3, 4, 5, 6, 7, 8], false⟩ } }
  seeded (withSlot 1 (ownKey 9) (withFob 3 someFob s))

theorem wit_FieldFrames :
    (fieldState.pollE 0 = some ⟨0, 1, 500, 1, 0, 0, 0, 1, []⟩ ∧ fieldState.lastSlot 0 = none ∧ fieldState.profile = 1 ∧ fieldState.unitNum = 1 ∧
      fieldState.lf.bad.contains 0 = false ∧ fieldState.runs = true ∧ fieldState.queues.length = 23) ∧
    (pollWaiting.bankFront 0 = some pollItem ∧ pollWaiting.lfRefusal pollReq = none ∧ pollReq.banks.all pollWaiting.bankReady = true ∧
      pollWaiting.lfFits pollReq = true ∧ pollWaiting.givesWay 0 pollItem = false ∧
      (let s := pollWaiting.put Reg.SES_PROF_LFBUD 100;
       s.bankFront 0 = some pollItem ∧ s.lfRefusal pollReq = none ∧ pollReq.banks.all s.bankReady = true ∧ s.lfFits pollReq = true ∧
        s.givesWay 0 pollItem = false ∧ s.lfAffordable pollReq = true) ∧
      pollWaiting.lfAffordable pollReq = false ∧
      (pollWaiting.setBit Reg.LF_STAT_INH true).lfRefusal pollReq = some .inhibit ∧
      (pollWaiting.put (Reg.LF_CH_STAT_OWNER 0) 0).lfFits pollReq = false) ∧
    (pollRuns.runOn 0 = some pollRun ∧ pollRun.startAt + periodTicks pollRun.req.periods ≤ pollRuns.now ∧
      pollRun.req.owned.contains 0 = true ∧ 3 * 10 < pollRun.req.currentOf 0 ∧ pollRun.req.currentOf 0 ≤ 120 * 10) ∧
    ((ctWaits .awaitId).runOn 7 = none ∧ (ctWaits .awaitId).lf.ct.isSome = true ∧ ((ctWaits .awaitId).holder.map (·.channel)) = some 7) ∧
    (fieldState.domOn (bankDom 0) = true ∧ fieldState.lf.ct = none ∧ fieldState.lf.runs = [] ∧ fieldState.lf.test = none ∧
      (fieldState.queue (.bank 0)).items = [] ∧ fieldState.after (fieldState.bank 0).usedAt 10000 = true) ∧
    2 ≤ (fieldState.put Reg.SES_PROF_CUR 2).profile := by
  decide +kernel

/-- A coil test of channel 0 waiting in bank A. -/
def testItem : QItem := ⟨.p1, .session, false, late, .coils [0]⟩

def testWaiting : State := fieldState.setQueue (.bank 0) { Queue.init with items := [testItem] }

theorem wit_FieldPeakLimit :
    pollRuns.demand = (1, 120) ∧
    (match exec (.lfFrameStart 1) pollRuns with
      | .next _ => true
      | _ => false) = true := by
  decide +kernel

theorem wit_FieldSupplyAndCoils :
    (let s : State := { fieldState with lf := { fieldState.lf with boostAt := some 0 }, power := { fieldState.power with vlf := 7000 } };
      s.after 0 2000 = true ∧ s.power.vlf < 8000) ∧
    (let s : State := { fieldState with lf := { fieldState.lf with allowSince := some 0 } }; s.after 0 10000 = true) ∧
    fieldState.lf.allowSince = none ∧
    regsWf fieldState.regs = true ∧ fieldState.bit Reg.LF_STAT_INH = false ∧ fieldState.lf.runs = [] ∧ fieldState.lf.test = none ∧
    (let s : State := { fieldState with lf := { fieldState.lf with inhSince := some 0 } };
      s.lf.inhFault = false ∧ s.after 0 1000000 = true) ∧
    (let t := testStop (fun r => r.ch == 0) .shortGnd (disableChannel 0 0x2103 pollRuns);
     pollRuns.runOn 0 = some pollRun ∧ (lfEnd pollRun .shortGnd [] t).lf.ct = none) ∧
    (fieldState.runOn 0 = none ∧ (testStop (fun r => r.ch == 0) .shortVbat (disableChannel 0 0x2102 fieldState)).lf.ct = none) ∧
    (testWaiting.bankFront 0 = some testItem ∧ testWaiting.testRefusal 0 = none ∧ testWaiting.bankReady 0 = true ∧
      testWaiting.diagFits 0 (16, 10) = true ∧ testWaiting.givesWay 0 testItem = false ∧
      (testWaiting.put (Reg.LF_CH_STAT_OWNER 0) 0).diagFits 0 (16, 10) = false ∧ testWaiting.bankFront 1 = none) ∧
    (fieldState.profile ≤ 1 ∧ fieldState.after fieldState.lf.test24At 86400000000 = true ∧
      fieldState.after fieldState.lf.test24At 1500 = true) ∧
    (let s : State := { fieldState with lfAon := { fieldState.lfAon with disabled := 1 } };
      s.disabled 0 = true ∧ (s.lf.chs.getD 0 LfCh.init).passes = 0 ∧ s.retestDue 0 = true) := by
  decide +kernel

theorem wit_CoupledExchange_start :
    let i : QItem := ⟨.p0, .session, false, late, .coupled 0⟩;
    let h : CoilE := ⟨1, 7, 2, 50, 0, 0, 0, 0, 0, 0, 125000⟩;
    let s := fieldState.setQueue (.bank 0) { Queue.init with items := [i] };
    s.holder = some h ∧ s.bankFront 0 = some i ∧ i.isCoupled = true ∧ s.inhibited = false ∧ s.bankShed 0 = false ∧ s.coupledOn = true ∧
      s.usable 7 = true ∧ s.isIsolated .bankA = false ∧ s.isIsolated .ct = false ∧ s.isIsolated .lfCommon = false ∧
      s.bankReady 0 = true ∧ s.ctFits h = true ∧ s.givesWay 0 i = false ∧ regsWf s.regs = true ∧ pollRuns.lf.runs ≠ [] ∧
      (s.setBit Reg.LF_STAT_INH true).inhibited = true := by
  decide +kernel

theorem wit_CoupledExchange_id :
    let s := ctWaits .awaitId;
    let d : Bytes := be 4 0x01020304;
    let bits := fun (d : Bytes) => [true, true, true] ++ msbBits (d ++ be 1 (crc8 d));
    uplink 4 true (bits d) = some d ∧ (bits (d ++ [0])).length ≠ 43 ∧ (s.put Reg.LF_CT_FOB_V (fieldBe d 0 4)).fobOf (fieldBe d 0 4) = some 3 ∧
      (s.put Reg.LF_CT_FOB_V (fieldBe d 0 4)).activeFob 3 = some someFob ∧
      ((s.put Reg.LF_CT_FOB_V (fieldBe d 0 4)).ctKey someFob).isSome = true ∧
      (match (randBytes false 16 (s.put Reg.LF_CT_FOB_V (fieldBe d 0 4))).1 with
        | .bytes _ => true
        | _ => false) = true ∧
      (let e : Bytes := be 4 0x05060708; uplink 4 true (bits e) = some e ∧ (s.put Reg.LF_CT_FOB_V (fieldBe e 0 4)).fobOf 0x05060708 = none) := by
  decide +kernel

theorem wit_CoupledExchange_response :
    let d : Bytes := [1, 2, 3, 4, 5, 6, 7, 8];
    let bits := fun (d : Bytes) => [true, true, true] ++ msbBits (d ++ be 1 (crc8 d));
    uplink 8 true (bits d) = some d ∧ uplink 8 true (bits (zeros 8)) = some (zeros 8) ∧ zeros 8 ≠ d ∧
      0 + periodTicks 1750 < (ctWaits .awaitResponse).now ∧ (ctWaits .awaitResponse).after 0 200000 = true ∧
      ({ ctWaits .awaitResponse with now := 0 } : State).after 0 200000 = false := by
  decide +kernel

/-! ### Witnesses: the lanes (06) -/

/-- A frame to emit at a time. -/
def someTx (start : Option Nat) : TxCmd := ⟨airFrame ⟨9, 1, 0, 0, 1, 2, 0⟩ none 0 0 0 [], none, 0, start, none⟩

theorem wit_LaneRequests :
    (airState.setBit Reg.PWR_STAT_VBATF true).airShed = true ∧
    (airState.airShed = false ∧ airState.barred 14 = false ∧ airState.isIsolated .lane0 = false ∧ airState.laneFitted 0 = true ∧
      (airState.lane 0).held = none ∧ airState.air.lanes.length = 2 ∧ regsWf airState.regs = true) ∧
    (let s := laneIs 1 { Lane.init with settle := some ⟨0, 0, 220, true, 0, false⟩ };
      (s.lane 0).settle = some ⟨0, 0, 220, true, 0, false⟩ ∧ (s.lane 0).wantRx = none ∧ (s.lane 0).pend = none ∧ s.after 0 (0 + 2 * 220) = true ∧ s.air.lanes.length = 2) ∧
    (let s : State := { laneIs 2 { Lane.init with settle := some ⟨0, 0, 12, false, 0, false⟩ } with now := 10 };
      (s.lane 0).settle = some ⟨0, 0, 12, false, 0, false⟩ ∧ s.after 0 12 = false) ∧
    (laneIs 3 Lane.init).laneState 0 = 3 ∧ (laneIs 1 Lane.init).laneState 0 = 1 := by
  decide +kernel

theorem wit_LaneCommands :
    (let s := laneIs 2 { Lane.init with pend := some (someTx none) };
      s.laneFitted 0 = true ∧ s.airShed = false ∧ s.isIsolated (laneBlock 0) = false ∧ (s.lane 0).pend = some (someTx none)) ∧
    ((airState.lane 0).pend = none ∧ 7 < (AirHdr.of (someTx none).frame.hdr).typ ∧ airState.air.lanes.length = 2 ∧ regsWf airState.regs = true) ∧
    (airState.airReached (airState.airNow + 2 ^ 40 - 235929) = true ∧ airState.airNow ≠ (airState.airNow + 2 ^ 40 - 235929) % 2 ^ 40 ∧
      airState.airReached (airState.airNow + 400000 + 2 ^ 40 - 235929) = false) ∧
    (let s := (laneIs 2 { Lane.init with pend := some (someTx none) }).setBit (Reg.AIR_LN_STAT_LOCK 0) true;
      (s.lane 0).settle = none ∧ s.bit (Reg.AIR_LN_STAT_LOCK 0) = true ∧ (s.lane 0).txEnd = none ∧ (s.lane 0).rx.bind (·.detected) = none ∧
      (s.lane 0).loop = none ∧ s.overhears = false ∧ s.txMissed 0 = false ∧ s.txFirst 0 (someTx none) ≤ s.airAbs ∧
      (let c := someTx (some (s.airNow + 400000));
       let u := s.setLane 0 { s.lane 0 with pend := some c };
       (u.lane 0).pend = some c ∧ u.txMissed 0 = false ∧ u.airAbs < u.txFirst 0 c ∧ (u.lane 0).pend.bind (·.start) = some (s.airNow + 400000))) ∧
    (let s := laneIs 1 { Lane.init with pend := some (someTx (some airState.airNow)), settle := some ⟨0, 0, 220, true, 0, false⟩ };
      (s.lane 0).pend.bind (·.start) = some airState.airNow ∧ (s.lane 0).settle.isSome = true ∧
      s.airReached (airState.airNow + 2 ^ 40 - airTenths 60) = true) ∧
    (let s := laneIs 3 { Lane.init with rx := some ⟨some 5, none⟩ };
      (s.lane 0).rx = some ⟨some 5, none⟩ ∧ 5 ≤ s.airAbs ∧ ({ s with now := 0 } : State).airAbs < 5) := by
  decide +kernel

/-- A short symbol of class C2. -/
def sym2 (x : Rat) : ShortSym := ⟨[Cx.zero, ⟨x, 0⟩, Cx.zero, Cx.zero], -40⟩

/-- A sync field of class C2 with its turn. -/
def sync2 : SyncMeas := ⟨List.replicate 12 (sym2 10) ++ List.replicate 2 (sym2 (-10)), 1, 1⟩

theorem wit_LaneIdleAndDetect :
    (let s := laneIs 2 Lane.init;
      s.profile ≤ 1 ∧ (s.lane 0).held = none ∧ (s.lane 0).search = false ∧ (s.lane 0).rx = none ∧ (s.lane 0).txEnd = none ∧
      (s.lane 0).settle = none ∧ (s.lane 0).loop = none ∧ s.domOn (laneDom 0) = true ∧ s.laneState 0 ≠ 0 ∧ s.after (s.lane 0).lastOp 2000 = true) ∧
    (let s := laneIs 0 Lane.init; regsWf s.regs = true ∧ s.laneState 0 = 0 ∧ s.after (s.lane 0).sleptAt 10000 = true) ∧
    (airState.after (airState.lane 0).tempAt 10000 = true ∧ airState.refBad = false ∧
      1500 < ((2000 : Int) - toInt 16 (airState.get (Reg.AIR_LN_CAL_TCAL 0))).natAbs ∧
      ((0 : Int) - toInt 16 (airState.get (Reg.AIR_LN_CAL_TCAL 0))).natAbs ≤ 1500) ∧
    (let s := (laneIs 2 { Lane.init with calAt := some 0 }).put Reg.SES_PROF_CUR 3;
      s.profile = 3 ∧ (s.lane 0).calAt = some 0 ∧ s.after 0 60000000 = true) ∧
    (let s := (laneIs 2 Lane.init).setBit (Reg.AIR_LN_STAT_LOCK 0) true;
      2 ≤ s.laneState 0 ∧ s.bit (Reg.AIR_LN_STAT_LOCK 0) = true ∧ s.exOn 0 = none) ∧
    (let s := laneIs 3 { Lane.init with rx := some ⟨none, none⟩ };
      (s.lane 0).rx = some ⟨none, none⟩ ∧ s.laneState 0 = 3 ∧ s.searchAerial 0 = 0 ∧ s.soleAerial 0 = none) := by
  decide +kernel

theorem wit_LaneIdleAndDetect_sync :
    detectFrom sync2.noiseA sync2.syms = some (4, 2) ∧ turnAfter 2 4 sync2.syms = some 14 ∧ turnAfter 2 4 (sync2.syms.take 12) = none ∧
      (declared 1 (sync2.syms.take 4)) = some 2 := by
  decide +kernel

/-! ### Witnesses: frames on the air (07) -/

theorem wit_AirFrameRoundTrip :
    let h : AirHdr := ⟨8, 2, 4, 6, 0x40, 1, 16⟩;
    (h.typ < 32 ∧ h.cls < 8 ∧ h.len = [1, 0, 9, 0].length ∧ h.seq = 6 % 256 ∧ h.typ ≠ 4 ∧ h.typ ≠ 5 ∧ 5 < 6 ∧ 6 ≤ 5 + 255) ∧
    openSealed (some (zeros 16)) 7 1 5 (heardAir (airFrame h (some (zeros 16)) 7 1 6 [1, 0, 9, 0])) = (.ok, 6, [1, 0, 9, 0]) ∧
    (262 % 256 = 6 % 256 ∧ openSealed (some (zeros 16)) 7 1 6 (heardAir (airFrame h (some (zeros 16)) 7 1 262 [1, 0, 9, 0])) = (.replay, 6, [])) := by
  decide +kernel

theorem wit_AirReceiveChecks :
    let h : AirHdr := ⟨3, 1, 24, 0, 0x40, 1, 0⟩;
    let r := heardAir (airFrame h none 0 0 0 (zeros 24));
    rxChecks 1 1 false r = .ok ∧ rxChecks 1 2 false r = .cls ∧ rxChecks 2 1 false r = .notAddressed ∧
    rxChecks 1 1 false { r with parity := [2] } = .escort ∧ rxChecks 1 1 false { r with train := [List.replicate 852 ⟨1, 0⟩], pilots := [[⟨1, 0⟩], [], [], [], []] } = .lost ∧
    rxChecks 1 1 false { r with frame := { r.frame with body := zeros 20 } } = .pcrc ∧
    rxChecks 1 1 false { r with frame := { r.frame with hdr := r.frame.hdr + 1 } } = .hdrCrc ∧
    rxChecks 1 1 false (heardAir (airFrame { h with len := 23 } none 0 0 0 (zeros 23))) = .type ∧
    rxChecks 1 1 false (heardAir (airFrame ⟨4, 1, 0, 0, 0x40, 1, 0⟩ none 0 0 0 [])) = .ok ∧
    rxChecks 1 1 false (heardAir (airFrame ⟨1, 1, 33, 0, 0x40, 0, 0⟩ none 0 0 0 (zeros 7 ++ [2, 1] ++ zeros 24))) = .type := by
  decide +kernel

/-! ### Witnesses: ranging (08) -/

theorem wit_FoxExchange_start :
    let s := sesState 1;
    s.sessionOf 3 = some someSession ∧ s.wantsFix someSession = true ∧ s.isIsolated .fox = false ∧ s.exchangeLane someSession false = 0 ∧
      s.exOn 0 = none ∧ (s.lane 0).pend = none ∧ s.fox.ex.length = 2 ∧ (exchangeStart 0 someSession none s).1 = true ∧
      s.wantsFix { someSession with authed := false } = false ∧
      (let t : State := { s with fox := { s.fox with pair := [⟨0, 3, 0, 0, none, []⟩] } };
        t.fox.pair.find? (fun g => g.record == 3) = some ⟨0, 3, 0, 0, none, []⟩ ∧
        [0, 1].any (fun n => (t.exOn n).any (fun e => e.record == 3)) = false) := by
  decide +kernel

def someOverhear (own : Bool) : Overhear := ⟨⟨1, 0, 0, 0, 0, 0, 0x01020304, 2, zeros 16⟩, own, 0, none, [], []⟩

theorem wit_FoxExchange_frames :
    (let s := setOh 0 (some (someOverhear true)) (sesState 1);
      s.ohOn 0 = some (someOverhear true) ∧ (frameAt 0 4 true (fobFrame 4 1 []) s).map (·.2.2) = some .ok) ∧
    (let o : Overhear := { someOverhear true with cls := some 1, polls := [⟨0, 0, 80, 0, [], 0, Cx.zero, Cx.zero⟩] };
      let s := setOh 0 (some o) (sesState 1);
      s.exOn 0 = none ∧ s.ohOn 0 = some o ∧ (frameAt 0 5 true (fobFrame 5 1 []) s).map (·.2.2) = some .ok ∧
      o.replies.length < o.polls.length ∧ o.cls = some 1) ∧
    (let ex := { finalExch with finalAt := none };
      let s := setEx 0 (some ex) (sesState 1);
      s.exOn 0 = some ex ∧ (exchangeFrame 0 5 ex (fobFrame 5 1 []) s).map (·.2.2) = some .ok ∧ passesOf ex.grade ≤ ex.pass + 1 ∧
      (sendFinal 0 ex (airAdd s.airNow 2000000) s).1 = true ∧ 0 + 1 < passesOf 1 ∧
      (sendPoll 0 { ex with grade := 1, pass := 0 } (airAdd s.airNow 2000000) s).1 = true) := by
  decide +kernel

theorem wit_FoxExchange_report :
    let p := be 2 1 ++ [0, 1] ++ be 5 0 ++ be 5 2457600 ++ [80] ++ be 5 13672448;
    let r := heardAir (airFrame ⟨7, 1, 20, 1, 0x43, 1, 16⟩ (some (zeros 16)) 0x01020304 1 1 p);
    let s := setEx 0 (some finalExch) (sesState 1);
    s.exOn 0 = some finalExch ∧ (exchangeFrame 0 7 finalExch r s).map (·.2.2) = some .ok ∧ s.sessionOf 3 = some someSession ∧
      openSealed (some (s.volKey 3 .kS)) 0x01020304 1 0 r = (.ok, 1, p) ∧
      airDiff (RangeRep.of p).finalAt ((RangeRep.of p).polls.headD 0) ≠ 0 := by
  decide +kernel

theorem wit_FoxExchange_ends :
    (let s := setEx 0 (some finalExch) (airState.setLane 0 { Lane.init with held := some .p0 });
      s.exOn 0 = some finalExch ∧ exchangeSilent 0 finalExch s = true ∧ finalExch.finalAt.isSome = true ∧
      exchangeSilent 0 { finalExch with finalAt := none } s = true) ∧
    (let o := { someOverhear false with replies := [⟨0, 0, 80, 0, [], 0, Cx.zero, Cx.zero⟩] };
      let s := setOh 0 (some o) airState;
      s.ohOn 0 = some o ∧ o.own = false ∧ passesOf o.plan.grade ≤ o.replies.length) := by
  decide +kernel

theorem wit_FoxAccepts :
    let c := foxCalc finalExch ⟨1, 0, 1, [0], [2457600], [80], 13672448⟩ 0;
    foxChecks { finalExch with cls := 3 } ⟨1, 0, 1, [0], [2457600], [80], 13672448⟩ c ⟨0, 0, [], []⟩ = .ok := by
  decide +kernel

/-! ### Witnesses: sessions (09) -/

/-- The challenged session, before its proof. -/
def challenged : Session := { someSession with authed := false }

def challengedState : State :=
  { sesState 1 with ses := { (sesState 1).ses with ss := [challenged] } }

/-- What the fob of record 3 sends, sealed under a key with a counter. -/
def fobSealed (typ ctr flags : Nat) (key p : Bytes) : AirRx :=
  heardAir (airFrame ⟨typ, 1, p.length, ctr % 256, 0x43, 1, flags⟩ (some key) 0x01020304 1 ctr p)

theorem wit_SessionReception_plain :
    (let p := be 4 0x01020304 ++ zeros 23;
      let r := heardAir (airFrame ⟨1, 1, 27, 0, 0x43, 0, 0⟩ none 0 0 0 p);
      frameAt 0 1 false r (sesState 1) = some (1, ⟨1, 1, 27, 0, 0x43, 0, 0⟩, .ok) ∧ (sesState 1).isHead = true ∧
      (let s := (sesState 1).setBit Reg.SETT_STAT_HEAD false; frameAt 0 1 false r s = some (1, ⟨1, 1, 27, 0, 0x43, 0, 0⟩, .ok) ∧
        s.isHead = false ∧ s.isActing = false)) ∧
    (let r := fobFrame 1 1 (zeros 26); (frameAt 0 1 false r (sesState 1)).map (·.2.2) = some .type) ∧
    (let r := fobFrame 3 1 (zeros 23); (frameAt 0 3 false r (sesState 1)).map (·.2.2) = some .type) ∧
    (frameAt 0 9 false (fobFrame 9 1 []) (sesState 1)).map (·.2.2) = some .ok := by
  decide +kernel

theorem wit_SessionReception_response :
    let r := fobFrame 3 1 (be 4 0x01020304 ++ zeros 20);
    let t := rxReport 0 1 r .ok challengedState;
    (frameAt 0 3 false r challengedState).map (·.2.2) = some .ok ∧ t.sessionOf 3 = some challenged ∧ challenged.lane = 0 ∧
      challenged.challenges ≠ 0 ∧ fieldBe (plainPayload r) 0 4 = challenged.fobId ∧ t.activeFob 3 = some someFob ∧
      (t.kf someFob.fobId someFob.gen).isSome = true := by
  decide +kernel

theorem wit_SessionReception_service :
    (let r := fobSealed 10 1 16 (zeros 16) [4, 0, 1, 0, 0, 0, 0, 0];
      (frameAt 0 10 false r (sesState 1)).map (·.2.2) = some .ok ∧ (sesState 1).sessionOf 3 = some someSession ∧
      (sesState 1).isHead = true ∧
      openSealed (some ((sesState 1).volKey 3 .kS)) 0x01020304 1 0 r = (.ok, 1, [4, 0, 1, 0, 0, 0, 0, 0])) ∧
    (let e : Enrol := ⟨3, 0x01020304, 0, 7, 1, zeros 16, 0⟩;
      let s : State := { sesState 1 with ses := { (sesState 1).ses with ss := [], enrol := some e } };
      let r := fobSealed 10 1 16 (zeros 16) (zeros 22);
      (frameAt 0 10 false r s).map (·.2.2) = some .ok ∧ s.sessionOf 3 = none ∧ openSealed (some e.ktp) e.fobId 1 0 r = (.ok, 1, zeros 22)) := by
  decide +kernel

theorem wit_SessionReception_notice :
    let s := sesState 1;
    let kf := (s.kf someFob.fobId someFob.gen).getD [];
    let r := fobSealed 8 6 16 (kNotice kf someFob.fobId) [1, 0, 0, 0];
    (frameAt 0 8 false r s).map (·.2.2) = some .ok ∧ s.activeFob 3 = some someFob ∧ s.isHead = true ∧ s.profile ≠ 0 ∧
      openNotice (kNotice kf someFob.fobId) someFob.fobId (s.noticeOf 3).nctr r = some (6, [1, 0, 0, 0]) ∧
      (fobCommit .p0 3 { someFob with nctr := 6 }.bytes (.notice 3) (sendAck 0 1 ⟨8, 1, 4, 6, 0x43, 1, 16⟩ 0 (rxReport 0 1 r .ok s))).1 = .taken ∧
      (let t := setNotice ⟨3, 5, 1, 0, some (1, zeros 8, 0, 1)⟩ s;
        (t.noticeOf 3).wait = some (1, zeros 8, 0, 1) ∧ fieldBe (memGetN t.nv.mem (fobOffset 3) 32) 16 4 = (t.noticeOf 3).nctr) := by
  decide +kernel

theorem wit_SessionReception_noticeForged :
    let s := sesState 1;
    let kf := (s.kf someFob.fobId someFob.gen).getD [];
    let r : AirRx := heardAir ⟨AirHdr.word ⟨8, 1, 4, 6, 0x43, 1, 16⟩, zeros 12 ++ be 4 (crc32c (zeros 12))⟩;
    (frameAt 0 8 false r s).map (·.2.2) = some .ok ∧ openNotice (kNotice kf someFob.fobId) someFob.fobId (2 ^ 32 - 1) r = none := by
  decide +kernel

theorem wit_SessionTimes :
    (let i : QItem := ⟨.p0, .session, true, late, .trigger ⟨0x10, 0, 0⟩⟩;
      let s := airState.setQueue .session { Queue.init with items := [i] };
      s.profile ≠ 7 ∧ s.isHead = true ∧ s.ses.ss.length < 4 ∧ (nextTrigger s).map (·.1) = some i) ∧
    (let s : State := { airState with ses := { airState.ses with runs := [{ someRun with windowAt := some 0 }] } };
      s.ses.runs.find? (fun r => r.windowAt.any (fun t => s.after t 4300)) = some { someRun with windowAt := some 0 }) ∧
    (let s : State := { challengedState with air := airState.air };
      s.sessionOf 3 = some challenged ∧ (s.lane 0).pend = none ∧ (s.lane 0).txEnd = none ∧
      s.after challenged.sentAt (frameUnits 2 challenged.cls 24 false * 625 / 1000 + 400) = true ∧ challenged.challenges = 1 ∧
      s.after 0 10000000 = true ∧ s.after late 10000000 = false) ∧
    (let t : Tracker := { Tracker.init with st := .held };
      let s := setTracker 3 t airState;
      s.img.run = some fieldImage ∧ (s.tracker 3).st = .held ∧ fieldImage.fobpol.stale * 1000 * 4194304 < (s.now - (s.tracker 3).at_) * 1000000 ∧
      (setTracker 3 { t with st := .stale } s).after 0 60000000 = true) ∧
    (airState.after 0 500000 = true ∧ airState.lines.ignition = false ∧ airState.after 0 30000000 = true) ∧
    (let s := (airState.setBit Reg.SES_LFRUN_GO true).put Reg.SES_LFAT_V 0;
      s.bit Reg.SES_LFRUN_GO = true ∧ s.lf.runs = [] ∧ s.lf.bad = [] ∧ (s.chron.count.toNat + 2 ^ 32 - s.get Reg.SES_LFAT_V) % 2 ^ 32 < 2 ^ 31 ∧
      (s.pollE (s.get Reg.SES_LFRUN_ENTRY)).isSome = true) := by
  decide +kernel

/-- An image with a cab zone and a door zone, and a fix in each. -/
def zoneImage : Image :=
  { fieldImage with zones := [⟨1, 1, 0, 2000, [(0, 0), (1000, 0), (1000, 1000), (0, 1000)]⟩, ⟨2, 2, 0, 2000, [(2000, 0), (3000, 0), (3000, 1000), (2000, 1000)]⟩] }

def zoneState : State := { airState with img := { airState.img with run := some zoneImage } }

theorem wit_GrantsRestOnEvidence :
    let cab : Fix := ⟨late, 2, 500, [], none, some (500, 500, 500), [1]⟩;
    let door : Fix := ⟨late, 1, 2500, [], none, some (2500, 500, 500), [2]⟩;
    zoneState.judge { someSession with fixes := [door], lf := some (false, late) } { someRun with trig := ⟨0x10, 0, 0⟩ } = some (0, 2) ∧
    zoneState.judge { someSession with fixes := [door] } { someRun with trig := ⟨0x18, 0, 0⟩ } = some (0, 2) ∧
    zoneState.judge { someSession with fixes := [door] } { someRun with trig := ⟨2, 0, 0⟩ } = some (0, 0) ∧
    zoneState.judge { someSession with fixes := [cab, cab], lf := some (true, late) } someRun = some (0, 1) := by
  decide +kernel

theorem wit_StrikesAndLatch :
    (let s : State := { airState with ses := { airState.ses with strikes := [(3, [late, late, late])] } };
      s.sessionOf 3 = none ∧ (s.tracker 3).st = .unknown ∧ 4 ≤ (s.now :: s.recent 60000000 [late, late, late]).length ∧
      (s.now :: s.recent 60000000 []).length < 4) ∧
    regsWf airState.regs = true ∧
    (submitTally .p0 ⟨1, none, .startToken⟩ (latchSet (noteDecision 5 0 3 0 airState))).1 = .taken := by
  decide +kernel

/-! ### Witnesses: Chronicle and timers (10) -/

theorem wit_ChronicleAdvance :
    let s : State := { headState with chron := { ChronSt.init with corr := 40150, slew := -3 } };
    s.chron.frac < 4294967296 ∧ s.correction.natAbs ≤ 1000000000 ∧ s.correction ≠ 0 ∧ s.chron.slewAcc < 1000000 ∧ headState.correction = 0 := by
  decide +kernel

theorem wit_ClockSources :
    (let s := lateHead.setBit Reg.CHRON_STAT_LOCK true; s.bit Reg.CHRON_STAT_LOCK = true ∧ lateHead.bit Reg.CHRON_STAT_LOCK = false ∧
      s.bit Reg.CHRON_STAT_DEGR = false ∧ (s.setBit Reg.CHRON_STAT_DEGR true).bit Reg.CHRON_STAT_DEGR = true ∧
      (let t : State := { s with chron := { s.chron with lockAt := some 0 } }; t.chron.lockAt = some 0 ∧ t.after 0 10000000 = true) ∧
      s.after late 10000000 = false) ∧
    (lateHead.chron.lockAt = none ∧ lateHead.after lateHead.chron.porAt 1000000 = true ∧ lateHead.chron.lockFault = false) ∧
    (let s : State := { lateHead with chron := { ChronSt.init with crystal := some ⟨1, 2500, -34000, 1500⟩ } };
      s.after s.chron.compAt s.compPeriod = true ∧ s.refBad = false ∧ s.holdover = false ∧
      ((s.setBit Reg.CHRON_STAT_DEGR true).setBit Reg.CHRON_STAT_LOCK false).holdover = true ∧ s.chron.crystal = some ⟨1, 2500, -34000, 1500⟩) ∧
    regsWf lateHead.regs = true := by
  decide +kernel

theorem wit_TimeSetting :
    (let m : Bytes := [0x31, 1] ++ be 2 0xF007 ++ be 8 (2 ^ 40) ++ be 2 0xFFFB;
      (diagPop (diagSettle (diagState 3 m))).map (fun p => (p.1, p.2.1)) = some (m, late) ∧ isRoutine 0xF007 m = true ∧
      (diagState 3 m).img.run = some fieldImage ∧ fieldBe (m.drop 4) 0 8 = 2 ^ 40) ∧
    (let s : State := { imageHead with chron := { ChronSt.init with deferred := some ⟨2 ^ 40, late, -5⟩ } };
      s.chron.deferred = some ⟨2 ^ 40, late, -5⟩ ∧ s.planOutstanding = false ∧ s.timeValid = false ∧ s.led.motion = none ∧ regsWf s.regs = true ∧
      (let t : State := { s with sett := { s.sett with plans := [(⟨1, 0, 100, 0, 0, 0, 3, 0, []⟩, late + 1)] } }; t.planOutstanding = true ∧ t.after late 5000 = false)) ∧
    (imageHead.setBit Reg.CHRON_STAT_TVALID true).timeValid = true ∧
    (let s : State := { headState with chron := { ChronSt.init with count := 4194303 } }; s.secondDue = true ∧ headState.secondDue = false) ∧
    (let s : State := { headState with chron := { ChronSt.init with slew := 1, slewAcc := 999900 } }; s.chron.slew ≠ 0 ∧ s.chronNext.slew = 0) ∧
    (let s : State := { lateHead with chron := { ChronSt.init with ppsHigh := true, ppsRose := some 0 } };
      s.chron.ppsHigh = true ∧ s.chron.ppsRose = some 0 ∧ 0 + 524288 ≤ s.now + 1) ∧
    (let s := headState.setBit Reg.CHRON_STAT_TVALID true; s.ppsAllowed = true ∧ s.timeValid = true ∧
      s.chron.ppsRose.all (fun r => decide (r + 2097152 ≤ s.now)) = true ∧
      (let t : State := { s with chron := { s.chron with ppsRose := some 0 } }; t.chron.ppsRose = some 0 ∧ t.now < 0 + 2097152)) := by
  decide +kernel

/-- TIM4 runs in one-shot mode, a step from its compare value. -/
def timerState : State :=
  let s := ((onState.setBit (Reg.TIM_CTL_RUN 4) true).put (Reg.TIM_CTL_MODE 4) 2).put (Reg.TIM_CNT_V 4) 4
  let s := (s.wr (Reg.TIM_CMP0 4) 5).wr (Reg.TIM_CMP1 4) 5
  { s with timers := { s.timers with cmpHeld := (List.range 8).map (fun n => (s.get (Reg.TIM_CMP0_V n), s.get (Reg.TIM_CMP1_V n))) } }

theorem wit_TimerTick :
    regsWf timerState.regs = true ∧ timerState.timerSteps 4 = true ∧ timerState.timerMatches 4 0 = true ∧ timerState.timerMatches 4 1 = true ∧
    timerState.timers.phase.length = 8 ∧ timerState.timers.goNext / 2 ^ 4 % 2 = 0 ∧ timerState.timers.stopNext / 2 ^ 4 % 2 = 0 ∧
    (let s : State := { onState with timers := { onState.timers with goNext := 32, stopNext := 64 } };
      s.timers.goNext / 2 ^ 5 % 2 = 1 ∧ s.bit (Reg.TIM_CTL_RUN 5) = false ∧ s.timers.goNext / 2 ^ 6 % 2 = 0 ∧ s.timers.stopNext / 2 ^ 6 % 2 = 1) ∧
    (let s := timerState.put (Reg.TIM_CNT_V 4) 0xFFFFFFFF; s.timerOverflows 4 = true ∧ s.timerMatches 4 0 = false) ∧
    (let s : State := { timerState.setBit (Reg.TIM_CTL_DHALT 4) true with timers := { timerState.timers with debugHalt := true } };
      s.timers.debugHalt = true ∧ s.bit (Reg.TIM_CTL_DHALT 4) = true) ∧
    (let s := timerState.setBit (Reg.TIM_FLG_CAPF 4) true; s.bit (Reg.TIM_FLG_CAPF 4) = true ∧ regsWf s.regs = true) := by
  decide +kernel

theorem wit_TimerCommands :
    ((fabCheck .host Reg.TIM_GO .b32 true onState).1 = .ok ∧ (fabCheck .host Reg.TIM_GO .b32 true onState).2.1 = some (.reg Reg.TIM_GO) ∧
      timersOwned .host 0x30 = true ∧ timersOwned .host 0x31 = false) ∧
    ((fabCheck .host Reg.TIM_STOP .b32 true onState).1 = .ok ∧ (fabCheck .host Reg.TIM_STOP .b32 true onState).2.1 = some (.reg Reg.TIM_STOP)) ∧
    (let s := timerState.put (Reg.TIM_CTL_CAPSEL 4) 1; s.captures 4 1 true = true ∧ s.captures 5 1 true = false) := by
  decide +kernel

/-! ### Witnesses: motion and waymarks (11) -/

/-- A head that counts pulses, last edge a tenth of a second ago. -/
def moving : State :=
  { (lateHead.put Reg.SES_PROF_CUR 3) with
    motion := { lateHead.motion with counting := true, cfg := some ⟨8000, 1, 10⟩, tstop := 5, vroad := 20 },
    wm := { lateHead.wm with lastEdge := some (late - 419430), lastRev := false, edges := [late - 419430] } }

theorem wit_PulsesAndSpeed :
    moving.motion.counting = true ∧ moving.bit Reg.CHRON_STAT_BKP = false ∧ lateHead.motion.counting = false ∧ regsWf moving.regs = true ∧
    moving.motion.cfg = some ⟨8000, 1, 10⟩ ∧ moving.heldEnough 10000 = true ∧ moving.heldEnough 9999 = false ∧ moving.motion.cfg.map (·.mode) = some 1 ∧
    (let s : State := { moving with power := { moving.power with state := .sleep }, motion := { moving.motion with wakeEdges := List.replicate 15 late } };
      s.power.state = .sleep ∧ 15 ≤ (s.recent 2000000 s.motion.wakeEdges).length ∧ s.powAon.wakes = []) ∧
    (let s : State := { moving with power := { moving.power with state := .sleep } }; (s.recent 2000000 s.motion.wakeEdges).length < 15) ∧
    (late ≤ (late - 419430) + 4294967296 ∧ (late - 2 ^ 40) + 4294967296 < late) ∧
    ((moving.now :: moving.recent 1000000 moving.wm.glitches).take 64).length < 64 ∧
    (let s : State := { moving with wm := { moving.wm with glitches := List.replicate 63 late } };
      64 ≤ ((s.now :: s.recent 1000000 s.wm.glitches).take 64).length ∧ s.wm.glitchFault = none ∧ s.after late 1000000 = false) ∧
    (moving.after (late - 419430) 2000000 = false ∧ moving.after 0 2000000 = true ∧ moving.speedKnown = false) ∧
    (let s := (moving.setBit Reg.WM_MSTAT_MOVING true).setBit Reg.WM_MSTAT_KNOWN true;
      s.bit Reg.WM_MSTAT_MOVING = true ∧ s.speedKnown = true ∧ s.get Reg.WM_MSTAT_SPEED = 0 ∧ 0 + (2 + s.motion.tstop) * 4194304 ≤ s.now ∧
      s.now < (late - 419430) + (2 + s.motion.tstop) * 4194304) := by
  decide +kernel

theorem wit_WaymarkTriggers :
    4 < lateHead.profile ∧ (let s : State := { moving with wm := { moving.wm with fresh := false, evalAt := late } };
      s.wm.fresh = false ∧ s.after s.wm.evalAt 10000 = false) ∧
    (2 ≤ moving.profile ∧ moving.profile ≤ 4 ∧ moving.after 0 10000 = true) ∧
    (let s : State := { moving with motion := { moving.motion with pulses := 80000 } };
      let w : WmState := ⟨⟨1, 1, 1, 0, 5000, 0, 0⟩, 0, true, false, false⟩;
      s.roadMetres = 10000 ∧ w.entry.trigger = 1 ∧ 0 < w.entry.param ∧ w.prev < s.roadMetres / w.entry.param ∧
      (wmEval s { w with entry := ⟨2, 2, 1, 0, 10000, 0, 0⟩ }).fires = true) ∧
    (let s := ((moving.setBit Reg.WM_MSTAT_KNOWN true).put Reg.WM_MSTAT_SPEED 15);
      (wmEval s ⟨⟨3, 3, 5, 1, 10, 2, 0⟩, 0, true, false, true⟩).fires = true ∧ (wmEval s ⟨⟨3, 4, 5, 0, 20, 2, 0⟩, 0, true, false, true⟩).fires = true) ∧
    (let s := moving.setBit Reg.WM_MSTAT_KNOWN true;
      let t : State := { s with wm := { s.wm with lastEdge := some 0, edges := [] } };
      (wmEval t ⟨⟨3, 5, 3, 1, 600, 0, 0⟩, 0, true, false, true⟩).fires = true) ∧
    (moving.bit Reg.SL_STAT_LATCH = false ∧ (moving.setBit Reg.SL_STAT_LATCH true).bit Reg.SL_STAT_LATCH = true ∧
      (fireTrigger ⟨0x30, 1, 0⟩ (moving.setBit Reg.SL_STAT_LATCH true)).1 = .taken ∧ moving.waymarkRuns = false ∧
      (let s : State := { moving with ses := { moving.ses with runs := [{ someRun with trig := ⟨0x30, 3, 0⟩ }] } }; s.waymarkRuns = true)) := by
  decide +kernel

/-! ### Witnesses: the ledger (12) -/

theorem wit_RecordSealing :
    regsWf ledgerState.regs = true ∧ ledgerState.get Reg.LDG_NEXT_V < 2 ^ 32 - 1 ∧ ledgerState.ledAon.sector.length < 7 ∧
    (let s : State := { ledgerState with ledAon := { ledgerState.ledAon with sector := List.replicate 7 (zeros 64) } };
      7 ≤ s.ledAon.sector.length ∧ s.ledAon.programming = 0 ∧ s.served 0 = true) ∧ someRec.flags % 2 = 1 ∧ ({ someRec with flags := 0 } : Rec).flags % 2 = 0 := by
  decide +kernel

theorem wit_LedgerIngestAndOpen :
    onState.isHead = false ∧ (ledgerPutAs .p0 someRec ledgerState).isHead = true ∧
    (let s := recWaits;
      s.isHead = true ∧ s.led.drops = 0 ∧ s.ledAon.keptDay = none ∧ s.bit Reg.LDG_STAT_READY = true ∧ s.bit Reg.LDG_STAT_RONLY = false ∧
      s.bit Reg.LDG_STAT_HALT = false ∧ s.led.ckpt = none ∧ s.ledAon.programming = 0 ∧ s.ckptDue = false ∧ (s.slotKey 5).isSome = true ∧
      (popQueue .ingest s).map (fun p => p.1.work) = some (.record someRec) ∧ (popQueue .ingest ledgerState).isNone = true) ∧
    (ledgerState.put Reg.LDG_NEXT_V 1022).get Reg.LDG_NEXT_V % 1024 = 1022 ∧
    (let s : State := { ledgerState with led := { ledgerState.led with ckpt := some 1022 } };
      s.led.ckpt = some 1022 ∧ (s.slotKey 3).isSome = true ∧ (s.slotKey 5).isSome = true) := by
  decide +kernel

theorem wit_CheckpointWaits :
    let s : State := { ledgerState with led := { ledgerState.led with ckpt := some 1022 }, ent := { ledgerState.ent with drbg := none } };
    (match signWith 3 (sha256 (ckptMessage s 1022 s.secs)) s with | (.wait, _) => true | _ => false) = true := by
  decide +kernel

theorem wit_LedgerOpens :
    let s : State := { ledgerState.setBit Reg.LDG_STAT_READY false with boot := { ledgerState.boot with started := true } };
    let t := checkDevice 1 (checkDevice 0 { s with led := { s.led with served := [true, true] } });
    s.isHead = true ∧ s.boot.started = true ∧ s.bit Reg.LDG_STAT_READY = false ∧ s.led.foreign = false ∧ t.led.served.any id = true ∧
    t.devsIn.any (fun d => !d.blank && d.serial != t.straps.serial) = false ∧ (t.slotKey 3).isSome = true ∧ (t.slotKey 5).isSome = true ∧
    t.devsIn.all (·.blank) = false ∧ t.blankMirror = none ∧
    (let u := s.put Reg.VLT_LC_STATE 2; u.lc = 2 ∧ u.lc ≠ 0) ∧
    (let u : State := { s with nand := { s.nand with devs := [ledgerDev 77 [], NandDev.init] } };
      u.devsIn.any (fun d => !d.blank && d.serial != u.straps.serial) = true ∧
      ({ s with nand := { s.nand with devs := [NandDev.init, NandDev.init] } } : State).devsIn.all (·.blank) = true ∧
      (checkDevice 1 (checkDevice 0 { s with nand := { s.nand with devs := [ledgerDev 0 [], { NandDev.init with page := 4096, blocks := 4096 }] } })).blankMirror = some 1) := by
  decide +kernel

theorem wit_LedgerDevices :
    let s : State := { ledgerState with ledAon := { ledgerState.ledAon with sector := [zeros 64], sectorAt := 0 } };
    let p1 : State := { s with ledAon := { s.ledAon with programming := 1 } };
    s.ledAon.sector ≠ [] ∧ s.after s.ledAon.sectorAt 120000000 = true ∧ s.ledAon.programming = 0 ∧ s.served 0 = true ∧ s.served 1 = true ∧
    ({ s with led := { s.led with served := [false, true] } } : State).served 0 = false ∧
    p1.ledAon.programming = 1 ∧ (p1.dev 0).spares ≠ 0 ∧ ((setDev 1 { NandDev.init with blocks := 1024 } p1).dev 1).spares = 0 ∧ ({ s with led := { s.led with served := [false, false] } } : State).devsIn = [] ∧
    ({ s with led := { s.led with copying := some 1 } } : State).led.copying = some 1 ∧
    (let u := s.put Reg.SES_PROF_CUR 3; u.isHead = true ∧ u.profile = 3 ∧ u.after u.led.summaryAt 3600000000 = true ∧ u.after late 3600000000 = false) := by
  decide +kernel

/-! ### Witnesses: retained memory (13) -/

/-- The head with a group of two pages at its first program. -/
def commitCur (todo : List Nat) (tries : Nat) : Commit := ⟨.p3, ⟨[(0xC010, zeros 40)], .window⟩, todo, [], tries, 0⟩

def committing (todo : List Nat) (tries : Nat) : State :=
  { fieldState with rmc := { fieldState.rmc with ready := true, cur := some (commitCur todo tries) } }

theorem wit_WindowBuffer :
    (let r := fabCheck .host (0x50100000 + 0xC010 % 65536) .b16 true storeState; r.1 = .ok ∧ r.2.1 = some (.retained (0xC010 % 65536))) ∧
    windowMaster .session = false ∧ windowMaster .host = true ∧ regsWf storeState.regs = true ∧
    (let s := storeState.put Reg.RMC_STAT_OWN 7; let c := storeState.put Reg.RMC_STAT_OWN Master.can.id;
      s.get Reg.RMC_STAT_OWN = 7 ∧ c.get Reg.RMC_STAT_OWN ≠ 7 ∧ c.get Reg.RMC_STAT_OWN ≠ Master.host.id ∧ c.get Reg.RMC_STAT_OWN = Master.can.id ∧
      c.rmc.err = none ∧ c.after c.rmc.touchedAt 100000 = true ∧ c.after late 100000 = false ∧
      (submitGroup .p3 ⟨[(c.get Reg.RMC_RUN_V, c.rmc.buf)], .window⟩ (windowEmpty false c)).1 = .taken) ∧
    (let r := fabCheck .host Reg.RMC_CMD .b32 true storeState; r.1 = .ok ∧ r.2.1 = some (.reg Reg.RMC_CMD)) := by
  decide +kernel

theorem wit_GroupsAreAtomic :
    (let ws : List (Nat × Bytes) := [(0x4000, zeros 32)];
      (⟨ws, .none⟩ : Group).bytes ≤ 256 ∧ ws.all (engineMay .session) = true ∧ ws.all (engineMay .den) = false ∧ (committing [] 0).rmc.ready = true) ∧
    (let s := committing [0x600, 0x601] 0; s.rmc.cur = some (commitCur [0x600, 0x601] 0) ∧ s.rmc.stopped = false ∧ s.after 0 3200 = true) ∧
    (committing [] 2).rmc.op = none ∧ 2 ≤ (commitCur [] 2).tries ∧ Memory.wf (committing [] 2).nv.mem = true ∧
    ([(0x600, zeros 32), (0x601, zeros 32)].map (·.1)).Nodup := by
  decide +kernel

theorem wit_TallyCounters :
    tallyRight (.engine .session) 1 = true ∧ tallyRight (.engine .session) 0 = false ∧ tallyRight (.master .host) 3 = false ∧
    (let r := fabCheck .host Reg.RMC_TCMD .b32 true fieldState; r.1 = .ok ∧ r.2.1 = some (.reg Reg.RMC_TCMD) ∧ fieldState.bit Reg.RMC_TSTAT_BUSY = false) ∧
    (let r := fabWrite .host Reg.RMC_TARG .b32 300 fieldState; r.1 = .ok ∧ (fabCheck .host Reg.RMC_TCMD .b32 true r.2).1 = .ok) ∧
    (let t : TallyCtr := ⟨19456, 76, 256, 0, false, 0⟩;
      t.value = 19712 ∧ tallyNext t 19713 = .roll ∧ tallyNext t 20000 = .baseTo 20000 ∧ tallyNext { t with cells := 255 } 19712 = .cell ∧
      tallyNext t 19712 = .done ∧ tallyNext t 0x100000000 = .saturated) ∧
    (let op : TallyRun := ⟨.p3, ⟨16, none, .tcmd⟩, some 1, some 0⟩;
      let s : State := { fieldState with rmc := { fieldState.rmc with op := some op } };
      s.rmc.op = some op ∧ s.rmc.stopped = false ∧ s.after 0 3200 = true ∧ 16 < s.nv.tally.length ∧ (s.tally 16).marginal = false ∧
      1 = (s.tally 16).value + 1) ∧
    (let s : State := { fieldState with rmc := { fieldState.rmc with erasing := [(16, 0)] } };
      s.rmc.erasing.any (fun p => p.1 == 16 && s.after p.2 400) = true ∧ s.rmc.op = none) := by
  decide +kernel

/-! ### Witnesses: the Den (14) -/

theorem wit_KeyUseChecks :
    denState.keyRefusal 20 [3] (some 8) 0 .host .vehicle = none ∧ denState.keyRefusal 21 [3] (some 8) 0 .host .vehicle = some .empty ∧
    denState.keyRefusal 20 [1] (some 8) 0 .host .vehicle = some .type ∧ denState.keyRefusal 20 [3] (some 6) 0 .host .vehicle = some .denied ∧
    denState.keyRefusal 20 [3] (some 8) 3 .host .vehicle = some .denied ∧ denState.keyRefusal 20 [3] (some 8) 0 .can .vehicle = some .denied ∧
    denState.keyRefusal 20 [3] (some 8) 0 .host .service = some .denied ∧ (denState.put Reg.VLT_LC_STATE 1).keyRefusal 20 [3] (some 8) 0 .host .vehicle = none ∧
    ({ denState with den := { denState.den with unusable := [20] } } : State).keyRefusal 20 [3] (some 8) 0 .host .vehicle = some .unusable ∧
    slotCrcOk (denState.slotBytes 20) = true := by
  decide +kernel

theorem wit_SlotReadsBack :
    let t : Slot := ⟨List.replicate 32 7, 0x1F102000, 3, 1, 32, zeros 16, 3⟩;
    Memory.wf denState.nv.mem = true ∧ t.key.length = 32 ∧ t.label.length = 16 ∧ t.attr < 2 ^ 32 ∧ t.mode < 4 ∧ (20 : Nat) ≠ 21 := by
  decide +kernel

theorem wit_DenCommandsTaken :
    (let r := fabCheck .host Reg.VLT_CMD .b32 true denState; r.1 = .ok ∧ r.2.1 = some (.reg Reg.VLT_CMD) ∧ r.2.2.bit Reg.VLT_STAT_BUSY = false ∧
      r.2.2.denBusy .host = false ∧ (enqueue .den .p3 .host .burst r.2.2).1 = .taken ∧ serviceMaster .host = true) ∧
    (let r := fabCheck .host Reg.VLT_CMD .b32 true (denState.setBit Reg.VLT_STAT_BUSY true); r.1 = .ok ∧ r.2.2.bit Reg.VLT_STAT_BUSY = true) ∧
    regsWf denState.regs = true := by
  decide +kernel

/-- VLT_BUF with ATTR of a key that GENERATE may make. -/
def withBuf (b : Bytes) (s : State) : State := { s with den := { s.den with buf := memSetN [] 0 b } }

theorem wit_DenCommandResults :
    (denState.slotRefusal 20 = none ∧ denState.slotRefusal 1 = some .state ∧ State.reset.slotRefusal 20 = some .state) ∧
    (let s := withBuf (be 4 (2 ^ 24 * 4 + 2 ^ 21 + 2 ^ 17 + 4 * 64 + 3) ++ zeros 4 ++ ascii "TRIP KEY") denState;
      let attr := fieldBe (s.vltBuf 0 4) 0 4;
      attrsFit 21 attr (fieldBe (s.vltBuf 4 1) 0 1) 0 (if attrType attr = 1 then 16 else 32) false = true ∧ attrType attr ≠ 5 ∧ s.vltBuf 5 3 = zeros 3 ∧
      s.slotRefusal 21 = none ∧ s.occupied 21 = false ∧ s.occupied 20 = true ∧ (match drawKey 3 s with | (.wait, _) => true | _ => false) = true ∧
      attrBit (s.slot 20).attr (13 + Master.host.id) = true ∧ attrBit (s.slot 20).attr (13 + Master.can.id) = false ∧
      (submitGroup .p3 ⟨[(20 * 64, zeros 64)], .denCmd⟩ s).1 = .taken ∧ s.den.pair = none) ∧
    (let s := withSlot 22 (goodSlot (zeros 32) (2 ^ 24 * 4 + 2 ^ 21 + 2 ^ 17 + 4 * 64 + 5) 0) denState;
      s.occupied 22 = true ∧ s.den.unusable.contains 22 = false ∧ slotCrcOk (s.slotBytes 22) = true) ∧
    (keyCheck 0 [4] (some 10) 8 .session .internal denState).1 = some .empty ∧
    ((keyCheck 20 [] none 0 .host (denState.world .host) denState).1 = none ∧ attrExport (denState.slot 20).attr = false) ∧
    (let s := withBuf [1] (withSlot 0 (ownKey 4) State.reset); s.lc = 0 ∧ fieldBe (s.vltBuf 0 1) 0 1 = 1 ∧ s.occupied 0 = true) ∧
    (let s := withBuf [2] (State.reset.put Reg.VLT_LC_STATE 1); s.lc = 1 ∧ fieldBe (s.vltBuf 0 1) 0 1 = 2 ∧ s.slotsGood [0, 1, 2, 4] = false ∧
      (let g := fun (n : Nat) (s : State) => withSlot n (goodSlot (zeros 32) 3 0) s; (g 0 (g 1 (g 2 (g 4 s)))).slotsGood [0, 1, 2, 4] = true)) ∧
    (let s := withBuf [3] denState; s.lc = 2 ∧ fieldBe (s.vltBuf 0 1) 0 1 = 3 ∧ s.img.run = some fieldImage ∧ s.den.nonce = none) ∧
    (let s := withBuf [4] (State.reset.put Reg.VLT_LC_STATE 3); s.lc = 3 ∧ fieldBe (s.vltBuf 0 1) 0 1 = 4 ∧ s.img.run = none) := by
  decide +kernel

theorem wit_DenDraws :
    (let s := seeded denState;
      match drawKey 3 { s with ent := { s.ent with pool := zeros 128 } } with | (.bytes _, _) => true | _ => false) = true ∧
    (match randBytes false 16 (seeded denState) with | (.bytes _, _) => true | _ => false) = true := by
  decide +kernel

theorem wit_DenTimesAndWindow :
    (let p : ImportPair := ⟨5, zeros 16, 20, 0⟩; let s : State := { denState with den := { denState.den with pair := some p } };
      s.den.pair = some p ∧ s.after 0 10000000 = true ∧ s.after late 10000000 = false) ∧
    (let s : State := { denState with den := { denState.den with nonce := some (zeros 16, 0) } }; s.den.nonce = some (zeros 16, 0) ∧ s.after 0 60000000 = true) ∧
    (let s := denState.put Reg.VLT_STAT_OWN 4; s.get Reg.VLT_STAT_OWN ≠ 7 ∧ s.bit Reg.VLT_STAT_BUSY = false ∧ s.after s.den.touchedAt 100000 = true ∧
      s.after late 100000 = false) ∧
    (let r := fabCheck .host (0x40000070 + 4 * 3) .b32 true denState; r.1 = .ok ∧ r.2.1 = some (.reg (0x40000070 + 4 * 3))) ∧
    (let s : State := { storeState.put Reg.VLT_LC_STATE 3 with img := { storeState.img with run := some { fieldImage with flags := 1 } } };
      s.legacyOn = true ∧ s.lc = 3 ∧ denState.legacyOn = false ∧
      (let t : State := { s with den := { s.den with legacy := [1, 2, 3], legacyAt := late } }; t.den.legacy = [1, 2, 3] ∧ t.after late 100000 = false ∧
        t.bit Reg.VLT_STAT_BUSY = false ∧ ({ t with den := { t.den with legacyAt := 0 } } : State).after 0 100000 = true)) ∧
    (let s : State := { denState with den := { denState.den with rewrite := [20] }, boot := { denState.boot with profileAt := some 0 } };
      s.boot.profileAt = some 0 ∧ s.den.rewrite = [20] ∧ s.occupied 20 = true ∧ (s.slot 20).mode ≠ s.slotMode ∧ s.den.unusable.contains 20 = false ∧
      s.slotPending 20 = false ∧ (submitGroup .p3 ⟨[s.slotWrite 20 (s.slot 20)], .denRewrite 20⟩ s).1 = .taken ∧ s.occupied 21 = false) := by
  decide +kernel

/-! ### Witnesses: crypto and entropy (15) -/

theorem wit_CryptoCommandsTaken :
    (let r := fabCheck .host Reg.CRY_CMD .b32 true denState; r.1 = .ok ∧ r.2.1 = some (.reg Reg.CRY_CMD) ∧ r.2.2.bit Reg.CRY_STAT_BUSY = false ∧
      r.2.2.cryBusy .host = false ∧ (enqueue .crypto .p3 .host .burst r.2.2).1 = .taken) ∧
    (let r := fabCheck .host Reg.CRY_CMD .b32 true (denState.setBit Reg.CRY_STAT_BUSY true); r.1 = .ok ∧ r.2.2.bit Reg.CRY_STAT_BUSY = true) := by
  decide +kernel

/-- A unit with general keys of the host: AES-256 in slot 30, HMAC in 20, a P-256 private key in 31, a secret in 32. -/
def cryState : State :=
  let a := 0x1F * 2 ^ 24 + 2 ^ 21 + 2 ^ 17
  withSlot 30 (goodSlot (zeros 32) (a + 3 * 64 + 2) 0) (withSlot 31 (goodSlot (be 32 7) (a + 0x30 * 64 + 4) 0)
    (withSlot 32 (goodSlot (zeros 32) (a + 8 * 64 + 6) 0) denState))

def withCry (dlen tag : Nat) (b : Bytes) (s : State) : State :=
  { ((s.put Reg.CRY_LEN_DLEN dlen).put Reg.CRY_LEN_TAG tag) with cry := { s.cry with buf := memSetN [] 0 b } }

theorem wit_CryptoCommandResults :
    (let c : CryCmd := ⟨1, 0, .host, 30, 0⟩; let s := withCry 16 8 (zeros 48) cryState;
      (cryKey c [1, 2] 6 s).1 = none ∧ (cryKey c [1, 2] 7 s).1 = none ∧ s.cipherOk 0 = true ∧ s.cipherOk 1 = true ∧ s.cipherOk 2 = true ∧
      (withCry 15 8 [] cryState).cipherOk 0 = false ∧ (keyCheck 20 [1, 2] (some 6) 0 .host (s.world .host) s).1 = some .type) ∧
    (let c : CryCmd := ⟨3, 1, .host, 20, 0⟩; let s := withCry 16 16 (zeros 16) cryState;
      (cryKey c [3] 8 s).1 = none ∧ s.lengthOk = true ∧ 4 ≤ s.tagLen ∧ s.tagLen ≤ 32 ∧ (withCry 2040 0 [] cryState).lengthOk = false) ∧
    (let c : CryCmd := ⟨5, 0, .host, 31, 0⟩; let s := (withCry 0 0 [] cryState).setBit Reg.ENT_STAT_FAIL true; (cryKey c [4] 10 s).1 = none ∧
      (match signWith (beNat (fit 32 (s.slot c.slot).key)) (s.cryBuf 0 32) s with | (.fail, _) => true | _ => false) = true) ∧
    ecdsaVerify ((withCry 0 0 [] cryState).cryBuf 96 64) ((withCry 0 0 [] cryState).cryBuf 0 32) ((withCry 0 0 [] cryState).cryBuf 32 64) = false ∧
    (let c : CryCmd := ⟨7, 0, .host, 31, 40⟩; let s := withCry 0 0 (be 4 6 ++ zeros 80) cryState;
      (cryKey c [4] 11 s).1 = none ∧ s.derivedFits [6] = true ∧ s.dstRefusal 40 = none ∧ s.slotRefusal 30 = none ∧ s.occupied 30 = true ∧
      ecdh (beNat (fit 32 (s.slot c.slot).key)) (s.cryBuf 20 64) = none) ∧
    (let c : CryCmd := ⟨8, 0, .host, 32, 40⟩; let s := withCry 0 0 (be 4 2 ++ zeros 16 ++ be 2 256 ++ [4, 4] ++ zeros 8) cryState;
      (cryKey c [3, 6] 9 s).1 = none ∧ fieldBe (s.cryBuf 20 2) 0 2 = 256 ∧ s.derivedFits [2, 3] = true ∧ s.dstRefusal 40 = none) := by
  decide +kernel

theorem wit_CryptoDraws :
    (let s := withCry 32 0 [] (seeded cryState); 0 < s.dlen ∧ s.dlen ≤ 2048 ∧ (match randBytes false s.dlen s with | (.bytes _, _) => true | _ => false) = true) ∧
    (let s := cryState.put Reg.CRY_STAT_OWN 4; s.get Reg.CRY_STAT_OWN ≠ 7 ∧ s.bit Reg.CRY_STAT_BUSY = false ∧ s.after s.cry.touchedAt 100000 = true) ∧
    (let s : State := { cryState.setQueue .crypto { Queue.init with items := [⟨.p0, .session, true, late, .burst⟩] } with
        cry := { cryState.cry with symBusy := some .p3 } };
      s.cry.symBusy = some .p3 ∧ (popQueue .crypto s).map (·.1.cls) = some .p0) := by
  decide +kernel

theorem wit_CryptoSigns :
    (match signWith 7 (zeros 32) (seeded cryState) with | (.bytes _, _) => true | _ => false) = true ∧ (ecdh 7 (p256Public 1)).isSome = true := by
  decide +kernel

/-- The unit with its entropy source running. -/
def entState : State :=
  let s := seeded cryState
  { s with boot := { s.boot with started := true } }

/-- Samples of a latch that alternate. -/
def fairRaw : List (List Bool) := List.replicate 4 [true, false, false, true, true, false, true, false]

theorem wit_EntropySource :
    entState.entropyOn = true ∧ onState.entropyOn = false ∧ windowJudge entState.ent.runs entState.ent.rails ⟨fairRaw, []⟩ = none ∧
    windowJudge [(true, 40)] [] ⟨fairRaw, []⟩ = some (.repetition, 0) ∧ entState.bit Reg.ENT_STAT_RAW = false ∧ entState.bit Reg.ENT_STAT_FAIL = false ∧
    entState.ent.starting = 0 ∧ ({ entState with ent := { entState.ent with starting := 1 } } : State).ent.starting = 1 ∧ ({ entState with ent := { entState.ent with starting := 2 } } : State).ent.starting = 2 ∧
    (entState.setBit Reg.ENT_STAT_RAW true).bit Reg.ENT_STAT_RAW = true ∧ regsWf entState.regs = true ∧ entState.recentFails.length < 2 ∧
    2 ≤ ({ entState with entAon := { entState.entAon with failAt := [late, late] } } : State).recentFails.length ∧
    entState.ent.drbg = some seededDrbg ∧ entState.ent.reseedDue = false ∧ seededDrbg.reqs < 1048575 ∧
    (fabCheck .host Reg.ENT_RAND .b32 false entState).1 = .ok ∧ (fabCheck .tag Reg.ENT_RAND .b32 false entState).1 = .denied ∧
    (let s : State := { entState with ent := { entState.ent with waiting := [(.host, 0)] } };
      s.ent.waiting.find? (fun w => serviceMaster w.1 && s.after w.2 1000) = some (.host, 0)) ∧
    (let r := fabCheck .host Reg.ENT_CTL .b32 true entState; r.1 = .ok ∧ r.2.1 = some (.reg Reg.ENT_CTL) ∧ r.2.2.lc = 2 ∧
      r.2.2.bit Reg.ENT_STAT_RAW = false ∧ (entState.rd Reg.ENT_CTL).toNat = 0) ∧
    (let r := fabCheck .host Reg.ENT_CTL .b32 true (entState.put Reg.VLT_LC_STATE 3); r.1 = .ok ∧ r.2.2.lc = 3) ∧
    (let s := entState.setBit Reg.ENT_STAT_RAW true; s.after s.ent.rawAt 10000000 = true ∧ s.after late 10000000 = false) ∧
    (let s : State := { entState with ent := { entState.ent with restartDue := some late } };
      s.ent.restartDue = some late ∧ (s.queue .ingest).items = [] ∧ (recWaits.queue .ingest).items ≠ [] ∧ s.after late 10000 = false) := by
  decide +kernel

/-! ### Witnesses: the cab tag (16) -/

/-- The head's tag in a reader's field, in a state, with the application selected and a session key. -/
def tagIn (st : TagState) (iso4 : Bool) : State :=
  let s := denState.setDom .tag true
  { s with tag := { s.tag with field := true, st := st, iso4 := iso4, app := true, kts := some (zeros 16) }, tagAon := { s.tagAon with key := some (zeros 16) } }

/-- A command APDU secured under that key. -/
def secured (ins p1 p2 : Nat) (body : Bytes) (le : Option Nat) : Apdu :=
  ⟨0x84, p1, p2, body ++ (cmac (zeros 16) (be 2 0 ++ be 1 0x84 ++ be 1 ins ++ be 1 p1 ++ be 1 p2 ++ body)).take 8, le, true⟩

/-- A command that passes the checks, its data and the counter of its answer given, in a state. -/
def opens (a : Apdu) (ins : Nat) (auth : Bool) (data : Bytes) (ctr : Option Nat) (s : State) (ok : State → Bool) : Bool :=
  s.apduHeard && a.crc && (match apduOpen a ins auth s with
    | .go d c t => d == data && c == ctr && ok (enter .tag d t)
    | .refused _ => false)

/-- A leaf held by a writer for longer than the limit. -/
def heldBy (m : Option Master) (leaf : Nat) (s : State) : State := { s with tag := { s.tag with held := ⟨leaf, m, 0, 0, zeros 64⟩ :: s.tag.held } }

theorem wit_TagActivation :
    (State.reset.tag.field = false ∧ State.reset.tagHears = false) ∧
    (let s := tagIn .idle false; s.tagHears = true ∧ s.tag.iso4 = false ∧ s.tag.st = .idle ∧ s.tag.field = true) ∧
    (tagIn .halt false).tag.st = .halt ∧
    (let s := tagIn .ready false; s.tag.st = .ready ∧ s.tag.cascade = 1 ∧ ([] : List Bool).isPrefixOf (airBits (s.levelBytes 1)) = true ∧
      zeros 5 ≠ s.levelBytes 1 ∧ ({ s with tag := { s.tag with cascade := 2 } } : State).tag.cascade = 2) ∧
    (let s := tagIn .active false; s.tagHears = true ∧ s.tag.st = .active ∧ s.tag.iso4 = false) ∧
    (let s := tagIn .active true; s.tagHears = true ∧ s.tag.iso4 = true ∧ s.apduHeard = true) ∧
    tagAid.length = 8 ∧ (zeros 8).length = 8 ∧ zeros 8 ≠ tagAid := by
  decide +kernel

theorem wit_TagApplication :
    (let s := tagIn .active true;
      opens (secured 0xB0 0x40 0 [] (some 64)) 0xB0 false [] (some 0) s (fun _ => leafAuth 0x40) = true ∧
      opens ⟨0x80, 0, 0, zeros 16, some 16, true⟩ 0x82 false (zeros 16) none s (fun t => t.tagAon.key == some (zeros 16) && t.tag.fails == 0) = true ∧
      opens ⟨0x80, 0xA0, 0, [], some 64, true⟩ 0xB0 false [] none s (fun _ => true) = true ∧
      opens ⟨0x80, 0, 0, [], some 256, true⟩ 0xCA false [] none s (fun t => t.tag.snap.isNone) = true ∧
      (let u : State := { s with tag := { s.tag with snap := some (zeros 1024) } };
        opens ⟨0x80, 0, 3, [], some 256, true⟩ 0xCA false [] none u (fun t => t.tag.snap == some (zeros 1024)) = true) ∧
      (let u : State := { s with tag := { s.tag with fails := 3 } };
        opens ⟨0x80, 0, 0, zeros 16, some 16, true⟩ 0x82 false (zeros 16) none u (fun t => t.tag.fails == 3) = true)) := by
  decide +kernel

/-- A reader's right and wrong proof: the UID's first byte is open, so the proof is one of the 16-byte strings. -/
theorem wit_TagProof (nr nt : Bytes) :
    let s := tagIn .active true
    let u : State := { s with tag := { s.tag with step1 := some (nr, nt) } }
    let x := cmac (zeros 16) (ascii "TAGR" ++ u.tagUid ++ nr ++ nt)
    x.length = 16 ∧ (∃ y : Bytes, y.length = 16 ∧ y ≠ x) ∧
    ∀ pr, apduOpen ⟨0x80, 0, 0, pr, some 16, true⟩ 0x82 false u = .go pr none u := by
  refine ⟨cmac_length _ _, ?_, fun pr => rfl⟩
  by_cases h : zeros 16 = cmac (zeros 16) (ascii "TAGR" ++ ({ tagIn .active true with tag := { (tagIn .active true).tag with step1 := some (nr, nt) } } : State).tagUid ++ nr ++ nt)
  · exact ⟨List.replicate 16 1, rfl, by rw [← h]; decide⟩
  · exact ⟨zeros 16, rfl, h⟩

theorem wit_TagLeaves :
    (let s := tagIn .active true; let a := secured 0xD6 0x41 0 (zeros 64) none;
      opens a 0xD6 true (zeros 64) (some 0) s (fun t => leafAuth 0x41 && (t.leafHold 0x41).isNone && t.fieldLeaves == []) = true ∧
      opens (secured 0xD6 0 0 (zeros 64) none) 0xD6 true (zeros 64) (some 0) s (fun _ => leafAuth 0 == false) = true ∧
      opens a 0xD6 true (zeros 64) (some 0) (heldBy (some .host) 0x41 s)
        (fun t => (t.leafHold 0x41).any (fun h => h.by_.isSome && !t.thisTagClock h.since) && decide (t.fieldLeaves.length < 4)) = true ∧
      opens a 0xD6 true (zeros 64) (some 0) (heldBy none 1 (heldBy none 2 (heldBy none 3 (heldBy none 4 s))))
        (fun t => (t.leafHold 0x41).isNone && t.fieldLeaves.length == 4) = true) ∧
    (let s := tagIn .active true; let l : TagLock := ⟨0x41, 0, zeros 64, 0, 3, 0⟩;
      let u : State := { s with tag := { s.tag with lock := some l } };
      u.tag.lock = some l ∧ u.after l.at_ (u.lockWtxm * u.fwt / 100) = true ∧ 3 ≤ l.wtx) ∧
    (let s := tagIn .active true; let a := secured 0xC2 0 0 [] none; let u := heldBy none 0x90 s; let f : State := { u with power := { u.power with state := .sleep } };
      opens a 0xC2 true [] (some 0) s (fun t => leafPages t.fieldLeaves == []) = true ∧
      opens a 0xC2 true [] (some 0) u (fun t => leafPages t.fieldLeaves != [] && t.wired &&
        (submitGroup .p3 ⟨(leafPages t.fieldLeaves).map (fun p => (p.1 * 32, p.2)), .tagCommit⟩ { t with tag := { t.tag with vres := 3000 } }).1 == .taken) = true ∧
      opens a 0xC2 true [] (some 0) f (fun t => leafPages t.fieldLeaves != [] && !t.wired) = true) ∧
    (let r := fabCheck .host (0x60040000 + 0x40 % 8192) .b32 true (tagIn .idle false); r.1 = .ok ∧ r.2.1 = some (.tagMem (0x40 % 8192))) ∧
    (let r := fabCheck .host Reg.TAG_WCMT .b32 true (tagIn .idle false); r.1 = .ok ∧ r.2.1 = some (.reg Reg.TAG_WCMT)) ∧
    windowMaster .host = true ∧
    (let s := heldBy (some .host) 1 (tagIn .idle false); s.leafHold 0 = none ∧ s.leafHold 1 = some ⟨1, some .host, 0, 0, zeros 64⟩ ∧ s.tag.lock = none ∧
      s.tag.held.find? (fun h => h.by_.isSome && s.after h.at_ 100000) = some ⟨1, some .host, 0, 0, zeros 64⟩ ∧
      (tagIn .idle false).tag.held.all (fun h => h.by_.isNone) = true) := by
  decide +kernel

/-! ### Witnesses: the vehicle bus (17) -/

/-- An image with bus messages, J1939 address claim and a ring of three: the unit 0x21, 0x10 and 0x17. -/
def busImage : Image :=
  { fieldImage with
    flags := 2, canids := ⟨2, 0, 0x96, zeros 8, [⟨1, 0, 0x18DA96F1, 0⟩, ⟨3, 4, 0x18DAF196, 0⟩, ⟨0x10, 0, 0x18FE4200, 100⟩, ⟨0x20, 4, 0x18FE6A00, 0⟩,
      ⟨0x50, 4, 0x18EEFF96, 0⟩]⟩, ring := ⟨30, 0x21, [0x21, 0x10, 0x17]⟩ }

/-- A head on that bus. -/
def busState : State :=
  (({ fieldState with img := { ImgSt.init with run := some busImage } } : State).put Reg.CAN_STAT_XCVR 2).put Reg.SES_PROF_CUR 1

/-- The same asleep, with selective wake for an identifier. -/
def busSleeps : State :=
  let s : State := { busState with power := { busState.power with state := .sleep }, powAon := { busState.powAon with swId := some 0x18FE0000, wakeN := 2, wakeWindow := 100 } }
  s.wr Reg.CAN_SWKM0 0xFF000000

theorem wit_VehicleBus :
    busState.canOn = true ∧ busState.leads = true ∧
    (let f : CanFrame := ⟨0x18FE4200, true, false, false, false, [1]⟩; f.taken = true ∧ busState.canid 0x10 = some ⟨0x10, 0, 0x18FE4200, 100⟩ ∧ 0x18FE4200 = f.id) ∧ regsWf busState.regs = true ∧
    (1 : BitVec 8).getLsbD 0 ≠ busState.lines.ignition ∧ (0 : BitVec 8).getLsbD 0 = busState.lines.ignition ∧
    (let s : State := { busState with can := { busState.can with ignAt := some 0 } };
      s.canid 0x10 = some ⟨0x10, 0, 0x18FE4200, 100⟩ ∧ s.domOn .lnk = true ∧ s.bit Reg.CAN_STAT_BOFF = false ∧ s.after 0 500000 = true ∧
      s.after late 500000 = false) ∧
    (let i : QItem := ⟨.p1, .session, false, 0, .can ⟨0x20, zeros 8⟩⟩; let j : QItem := ⟨.p3, .can, false, 0, .can ⟨3, zeros 8⟩⟩;
      popBest [j, i] = some (i, [j]) ∧
      (let s := busState.setQueue .canTx { Queue.init with items := [j, i] };
        (popQueue .canTx s).map (fun p => (p.1, p.2.canFrame ⟨0x20, zeros 8⟩, p.2.canFrame ⟨0x40, zeros 8⟩)) =
          some (i, some ⟨0x18FE6A21, true, false, false, false, zeros 8⟩, none))) ∧
    (let s := ({ busState with can := { busState.can with offAt := some 0 } } : State).setBit Reg.CAN_STAT_BOFF true;
      s.bit Reg.CAN_STAT_BOFF = true ∧ s.can.offAt = some 0 ∧ s.after 0 s.recoverTime = true ∧ s.after late s.recoverTime = false ∧ s.can.offFault = false ∧ s.after 0 1000000 = true ∧ s.after late 1000000 = false) ∧
    busImage.flags / 2 % 2 = 1 ∧ busState.bit Reg.CAN_STAT_LOST = false ∧ nameValue (zeros 8) ≤ nameValue (1 :: zeros 7) ∧
    nameValue (zeros 8) < nameValue (1 :: zeros 7) ∧ (busState.setBit Reg.CAN_STAT_LOST true).bit Reg.CAN_STAT_LOST = true ∧
    (let s := busSleeps;
      s.busAsleep = true ∧ s.bit Reg.CAN_WAKE_SWKEN = false ∧ s.wakeFilter = 10 ∧ 1 < s.powAon.wakeN ∧
      ({ s with powAon := { s.powAon with wakePats := [late] } } : State).recent 100000 [late] = [late] ∧ s.powAon.wakeN ≤ 2) ∧
    (let s := busSleeps.setBit Reg.CAN_WAKE_SWKEN true;
      s.busAsleep = true ∧ s.selective = true ∧ s.powAon.swId = some 0x18FE0000 ∧ ([(1 : BitVec 8)].zip s.wakeMask).any (fun p => p.1 &&& p.2 != 0) = true ∧
      s.powAon.swErr + 31 < 32 ∧ 32 ≤ s.powAon.swErr + 32) := by
  decide +kernel

/-- The head after its own message named the next member. -/
def ringState (mine last : Option RingMsg) : State :=
  { busState with ring := { busState.ring with mine := mine, last := last, lastAt := 0, mineAt := 0 } }

theorem wit_HibernationRing :
    (let a : RingMsg := ⟨0x21, 0x10, 1, 0xFF, 7⟩; let b : RingMsg := ⟨0x17, 0x21, 1, 0xFF, 7⟩;
      let s := ringState (some a) (some b); let r := busImage.ring;
      s.ringSec = some r ∧ r.index 0x17 = some 2 ∧ s.ringOf ⟨0x18FE6A17, true, false, false, false, b.bytes⟩ = some b ∧
      (s.canid 0x20).isSome = true ∧ s.inRing = true ∧ s.canOn = true ∧ b.sender ≠ r.own ∧ s.ringReady = true ∧ s.allReady r = true ∧
      turnFlags r s = 3 ∧
      (let u : State := { s with ring := { s.ring with initiator := some 0 } };
        u.commits r ⟨0x17, 0x21, 3, 0xFF, 7⟩ = true ∧ u.commits r ⟨0x10, 0x17, 3, 0xFF, 7⟩ = false ∧ turnFlags r u = 3) ∧
      (let u : State := { s with ring := { s.ring with mine := none } }; u.allReady r = false ∧ turnFlags r u = 1) ∧
      (s.put Reg.SES_PROF_CUR 3).ringReady = false ∧ State.reset.inRing = false ∧
      (let u : State := { s with ring := { s.ring with turnAt := some 0 } }; u.ring.turnAt = some 0 ∧ u.after 0 ((r.step - 1) * 1000) = true ∧
        u.after late ((r.step - 1) * 1000) = false) ∧
      (let u : State := { s with ring := { s.ring with waitSucc := some 1 } }; u.ring.waitSucc = some 1 ∧ u.after u.ring.mineAt (2000 * r.step) = true) ∧
      s.profile ≠ 7 ∧ s.ring.waitSucc = none ∧ s.ring.turnAt = none ∧ s.after s.ring.lastAt (250000 + 10000 * r.self) = true ∧
      (let u : State := { s with ring := { s.ring with soleAt := some 0 } }; u.ring.soleAt = some 0 ∧ u.overruled = 0xFF ∧ r.awakeMax ≠ 0 ∧
        u.after 0 (r.awakeMax * 1000000) = true) ∧
      (s.setBit Reg.RING_STAT_ROUND true).bit Reg.RING_STAT_ROUND = true ∧ s.bit Reg.RING_STAT_ROUND = false) ∧
    (let r : RingSec := ⟨0, 0x21, [0x21, 0x10]⟩; r.awakeMax = 0 ∧ r.next 2 = r.self ∧ maskHas 0 (r.next 0) = false) := by
  decide +kernel

/-- A message is the next one that a service takes, with the state it is served in passing a check. -/
def served (m : Bytes) (s : State) (ok : State → Bool) : Bool :=
  match diagPop (diagSettle s) with
  | some (x, _, t) => x == m && ok t
  | none => false

/-- A single frame of DIAG_REQ. -/
def reqFrame (b : Bytes) : CanFrame := ⟨0x18DA96F1, true, false, false, false, b⟩

/-- A message being received, half of it there. -/
def halfRx : TpRx := ⟨12, zeros 6, 1, 0⟩

theorem wit_DiagnosticSessions :
    (let s := busState;
      s.canOn = true ∧ s.isHead = true ∧ s.diagTarget (reqFrame [2, 0x3E, 0]) = some true ∧ fieldBe (reqFrame [2, 0x3E, 0]).data 0 1 / 16 = 0 ∧
      fieldBe (reqFrame [0x10, 12]).data 0 1 / 16 = 1 ∧ fieldBe (reqFrame [0x21]).data 0 1 / 16 = 2 ∧ fieldBe (reqFrame [0x30]).data 0 1 / 16 = 3 ∧
      s.diagTarget ⟨7, true, false, false, false, []⟩ = none ∧ singleMsg (reqFrame [2, 0x3E, 0]) = some [0x3E, 0] ∧
      (enqueue .canCmd .p3 .can (.diag [0x3E, 0]) (rxAbandon s)).1 = .taken ∧
      (let u := s.setQueue .canCmd { Queue.init with items := List.replicate 32 ⟨.p3, .can, false, 0, .diag [0x3E, 0]⟩, stamp := s.now };
        (enqueue .canCmd .p3 .can (.diag [0x3E, 0]) (rxAbandon u)).1 ≠ .taken)) ∧
    (let s : State := { busState with can := { busState.can with rx := some halfRx } };
      s.can.rx = some halfRx ∧ fieldBe (0x21 :: zeros 7) 0 1 % 16 = 1 ∧ halfRx.len ≤ ((halfRx.got ++ (0x21 :: zeros 7).drop 1).take halfRx.len).length ∧
      ((halfRx.got ++ [0x21, 0].drop 1).take halfRx.len).length < halfRx.len ∧ fieldBe [(0x22 : BitVec 8)] 0 1 % 16 ≠ 1 ∧
      s.after halfRx.at_ 150000 = true ∧ s.after late 150000 = false) ∧
    (let s : State := { busState with can := { busState.can with tx := some ⟨zeros 9, 1, 0, 0, 0, none⟩ } }; s.can.tx = some ⟨zeros 9, 1, 0, 0, 0, none⟩ ∧ s.after 0 1000000 = true) ∧
    (let s : State := { busState with can := { busState.can with session := 3, lastReq := 0 } }; s.can.session ≠ 1 ∧ s.can.routine = none ∧
      s.after s.can.lastReq 5000000 = true ∧ (1 : Nat) ≠ s.can.session) ∧
    (busState.img.run.isSome = true ∧ busState.bit Reg.SUP_HH_STAT_HALT = false ∧ diagServices.all (fun p => p.1 != fieldBe [0x2E] 0 1) = true ∧
      diagServices.any (fun p => p.1 == fieldBe [0x31] 0 1 && !p.2.contains busState.can.session) = true ∧
      diagServices.any (fun p => p.1 == fieldBe [0x11] 0 1 && !p.2.contains 3) = false ∧ diagAuth (fieldBe [0x11] 0 1) = true ∧ busState.can.authed = false) ∧
    served [0x10, 3] (diagState 3 [0x10, 3]) (fun _ => isService 0x10 [0x10, 3]) = true ∧
    served [0x3E, 0] (diagState 3 [0x3E, 0]) (fun _ => isService 0x3E [0x3E, 0]) = true ∧
    served [0x22, 0xF1, 0x8C] (diagState 3 [0x22, 0xF1, 0x8C]) (fun t => (t.did 0xF18C).isSome) = true ∧
    served [0x11, 1] (diagState 3 [0x11, 1]) (fun _ => isService 0x11 [0x11, 1]) = true ∧
    served (0x23 :: 0x44 :: be 4 0x60000000 ++ be 4 4) (diagState 3 (0x23 :: 0x44 :: be 4 0x60000000 ++ be 4 4))
      (fun t => (fabReadN .p3 .can 0x60000000 1 t).1 == .ok) = true ∧
    served (0x23 :: 0x44 :: be 4 0xE0000000 ++ be 4 4) (diagState 3 (0x23 :: 0x44 :: be 4 0xE0000000 ++ be 4 4))
      (fun t => (fabReadN .p3 .can 0xE0000000 1 t).1 != .ok) = true ∧
    served (0x3D :: 0x44 :: be 4 0x60000008 ++ be 4 4 ++ zeros 4) (diagState 3 (0x3D :: 0x44 :: be 4 0x60000008 ++ be 4 4 ++ zeros 4))
      (fun t => (fabWriteN .p3 .can 0x60000008 [0] t).1 == .ok) = true ∧
    served (0x3D :: 0x44 :: be 4 0xE0000000 ++ be 4 4 ++ zeros 4) (diagState 3 (0x3D :: 0x44 :: be 4 0xE0000000 ++ be 4 4 ++ zeros 4))
      (fun t => (fabWriteN .p3 .can 0xE0000000 [0] t).1 != .ok) = true := by
  decide +kernel

theorem wit_SecurityAccess :
    served [0x27, 1] (seeded (diagState 3 [0x27, 1])) (fun t => t.can.lockout.isNone && fieldBe [0x27, 1] 1 1 == 1 &&
      (match randReq false 16 t with
        | (.bytes _, _) => true
        | _ => false)) = true ∧
    (let s := diagState 3 [0x27, 1]; let u : State := { s with can := { s.can with lockout := some 0 } };
      served [0x27, 1] u (fun t => t.can.lockout.isSome) = true ∧ u.can.lockout = some 0 ∧ u.after 0 10000000 = true ∧ u.after late 10000000 = false) ∧
    (let m : Bytes := [0x27, 2] ++ zeros 64; let s := diagState 3 m; let u : State := { s with can := { s.can with seed := some (zeros 16) } };
      served m u (fun t => t.can.lockout.isNone && t.can.seed == some (zeros 16) && !(securityKey (zeros 16) (m.drop 2) t).1) = true) ∧
    (diagState 3 []).can.authFails < 2 := by
  decide +kernel

/-- A message put into a state's command port, in an authenticated session. -/
def asks (ses : Nat) (m : Bytes) (s : State) : State :=
  ({ s with can := { s.can with session := ses, authed := true, lastReq := late } } : State).setQueue .canCmd
    { Queue.init with items := [⟨.p3, .can, false, late, .diag m⟩] }

/-- A key of the unit's own engine in slot `n`: its type, one USAGE bit and the engine. -/
def engineKey (type use engine : Nat) (key : Bytes) : Slot := ⟨key, 0x1F102000 + 2 ^ use + type, engine, 0, 32, zeros 16, 1⟩

theorem wit_SecurityKeyAccepted :
    (let s := withSlot 4 (engineKey 5 12 6 ((p256Public 7).take 32)) storeState;
      let par := fieldBe (p256Public 7) 63 1 % 2;
      let s := withSlot 4 { engineKey 5 12 6 ((p256Public 7).take 32) with flags := par } s;
      let d := sha256 (ascii "DENT" ++ be 8 s.straps.serial ++ be 4 s.vehicleId ++ zeros 16);
      (match ecdsaSign 7 d 5 with
        | some sig => (securityKey (zeros 16) sig s).1
        | none => false) = true) := by
  decide +kernel

/-- A message for a routine. -/
def routineMsg (rid : Nat) (o : Bytes) : Bytes := [0x31, 1] ++ be 2 rid ++ o

theorem wit_DiagnosticTransfers :
    (let m : Bytes := 0x34 :: 0 :: 0x44 :: zeros 4 ++ be 4 4096; let s := asks 2 m (storeState.put Reg.VLT_LC_STATE 2);
      served m s (fun t => isService 0x34 m && !t.downloadRefused &&
        (submitGroup .p3 ⟨[{ t.selector with pending := 0 }.write], .downloadOpen⟩ t).1 == .taken) = true ∧
      served m (asks 2 m storeState) (fun t => t.downloadRefused) = true) ∧
    (let m : Bytes := 0x36 :: 1 :: zeros 8; let s := asks 2 m storeState; let u : State := { s with can := { s.can with xfer := some (.download true 8 0 1) } };
      served m s (fun t => isService 0x36 m && t.can.xfer.isNone) = true ∧
      served m u (fun t => t.can.xfer == some (.download true 8 0 1) && (m.drop 1).drop 1 != [] && decide (((m.drop 1).drop 1).length ≤ 8)) = true ∧
      fieldBe (2 :: zeros 8) 0 1 ≠ 1 ∧ fieldBe (m.drop 1) 0 1 = 1) ∧
    (let m : Bytes := [0x37]; let s := asks 2 m (storeState.put Reg.VLT_LC_STATE 2);
      served m { s with can := { s.can with xfer := some (.download true 8 8 1) } } (fun _ => isService 0x37 m) = true ∧
      served m { s with can := { s.can with xfer := some (.upload [] 1) } } (fun t => t.can.xfer == some (.upload [] 1)) = true ∧
      (stagedVerdict true true { s with can := { s.can with xfer := none } }).1.isSome = true) ∧
    (let m : Bytes := 0x35 :: 0 :: 0x44 :: zeros 4 ++ be 4 64; let m1 : Bytes := 0x35 :: 1 :: 0x44 :: zeros 4 ++ be 4 0x100000;
      served m (asks 3 m ((storeState.setBit Reg.LDG_STAT_READY true).put Reg.LDG_NEXT_V 4)) (fun t => isService 0x35 m && t.can.xfer.isNone &&
        t.bit Reg.LDG_STAT_READY && decide (fieldBe (m.drop 1) 0 1 ≠ 1) && decide (fieldBe (m.drop 1) 2 4 + fieldBe (m.drop 1) 6 4 / 64 ≤ t.nextNum)) = true ∧
      (let s := asks 3 m1 storeState; served m1 { s with nand := { s.nand with archive := [[1]] } } (fun t => t.nand.archive[0]? == some [1]) = true)) := by
  decide +kernel

theorem wit_DiagnosticRoutines :
    (let m := routineMsg 0xF001 []; served m (asks 3 m storeState) (fun t => isRoutine 0xF001 m && !t.bit Reg.MEM_IMG_STAT_TRIAL) = true ∧
      served m (asks 3 m (storeState.setBit Reg.MEM_IMG_STAT_TRIAL true)) (fun t => t.bit Reg.MEM_IMG_STAT_TRIAL && !t.img.confirming && (confirmBegin true t).1) = true) ∧
    (let m := routineMsg 0xF002 (be 4 5 ++ zeros 16 ++ zeros 8 ++ be 2 1); let s := withSlot 1 (ownKey 9) (airState.put Reg.VLT_LC_STATE 2);
      served m (asks 3 m (s.put Reg.VLT_LC_STATE 3)) (fun t => isRoutine 0xF002 m && !t.enrolAllowed) = true ∧
      served m (asks 3 m s) (fun t => t.enrolAllowed && t.ses.enrol.isNone && (enrolStart 5 0 1 (zeros 16) t).isSome) = true) ∧
    (let m := routineMsg 0xF003 [3, 1]; let m0 := routineMsg 0xF003 [3, 0];
      served m (asks 3 m (withFob 3 someFob storeState)) (fun t => isRoutine 0xF003 m && fieldBe m 5 1 == 1 && t.fob 3 == some someFob) = true ∧
      served m (asks 3 m storeState) (fun t => (t.fob 3).isNone) = true ∧
      served m0 (asks 3 m0 (withFob 3 someFob storeState)) (fun t => isRoutine 0xF003 m0 && fieldBe m0 5 1 == 0 && t.fob 3 == some someFob) = true) ∧
    (let m := routineMsg 0xF004 [3]; served m (asks 3 m storeState) (fun _ => isRoutine 0xF004 m) = true) ∧
    (let m := routineMsg 0xF005 []; served m (asks 3 m storeState) (fun _ => isRoutine 0xF005 m) = true) ∧
    (let m := routineMsg 0xF006 [1, 0, 1]; served m (asks 3 m storeState) (fun t => isRoutine 0xF006 m && fieldBe (m.drop 4) 0 1 == t.unitNum) = true) ∧
    (let m := routineMsg 0xF008 (be 4 0x464D5400); served m (asks 3 m storeState) (fun t => isRoutine 0xF008 m && t.lc != 3) = true ∧
      served m (asks 3 m (storeState.put Reg.VLT_LC_STATE 3)) (fun t => t.lc == 3) = true) ∧
    (let m := routineMsg 0xF009 (be 4 0 ++ be 4 1); let s := withSlot 5 (ownKey 5) (storeState.setBit Reg.LDG_STAT_READY true);
      served m (asks 3 m s) (fun t => isRoutine 0xF009 m && (t.slotKey 5).isSome && decide (t.nextNum ≤ 1)) = true ∧
      served m (asks 3 m (s.put Reg.LDG_NEXT_V 2)) (fun t => decide (1 < t.nextNum) && t.bit Reg.LDG_STAT_READY) = true) := by
  decide +kernel

theorem wit_Attestation :
    (let m := routineMsg 0xF00A (zeros 16); let s := seeded (withSlot 3 (ownKey 3) (withSlot 0 (engineKey 4 10 8 (be 32 7)) storeState));
      served m (asks 3 m s) (fun t => isRoutine 0xF00A m && (match keyCheck 0 [4] (some 10) 8 .session .internal t with
        | (none, u) => !u.den.unusable.contains 3 && slotCrcOk (u.slotBytes 3) && (match attest 3 (zeros 16) u with
          | (.bytes _, _) => true
          | _ => false)
        | _ => false)) = true) := by
  decide +kernel

/-- A transaction of the host. -/
def hostFrame (cmd len addr : Nat) (words : List Nat) : Bytes :=
  let h := be 1 cmd ++ be 1 len ++ be 4 addr
  let d := words.flatMap (be 4)
  h ++ be 2 (crc16 h) ++ d ++ (if cmd = 2 then be 2 (crc16 d) else [])

theorem wit_HostPort :
    busState.hostOn = true ∧ State.reset.hostOn = false ∧ busState.isIsolated .hpt = false ∧ hostParse [] = none ∧
    hostParse (hostFrame 1 1 0x60000000 []) = some ⟨1, 1, 0x60000000, []⟩ ∧ hostParse (hostFrame 2 1 0x60000008 [5]) = some ⟨2, 1, 0x60000008, [5]⟩ ∧
    hostParse (hostFrame 4 1 0 []) = some ⟨4, 1, 0, []⟩ ∧ hostParse (hostFrame 1 17 0 []) = none ∧
    hostBytes (msbBits [0x12, 0x34]) = [0x12, 0x34] ∧
    (fabReadN .p3 .host 0x60000000 1 (awake busState)).1 = .ok ∧ (fabReadN .p3 .host 0xE0000000 1 (awake busState)).1 ≠ .ok ∧
    (fabCheck .host Reg.LDG_STAT .b32 false (awake busState)).1 = .ok ∧ ((awake busState).count Reg.HPT_CNT_ABORT 1).isIsolated .hpt = false := by
  decide +kernel

/-! ### Witnesses: touch, switches, start lines (18) -/

/-- The head with two scanned touch channels in a state and a start button in a state. -/
def inputState (c0 c1 : CapCh) (w : SwCh) : State :=
  { fieldState with touch := { fieldState.touch with
      caps := c0 :: c1 :: List.replicate 6 CapCh.init, sws := w :: List.replicate 3 SwCh.init, scanAt := 0, sampleAt := 0 } }

/-- A scanned channel with a baseline of 10 pF. -/
def calm (code : Nat) : CapCh := ⟨some code, true, 1000, 1000, 0, false, 0, false, 0⟩

/-- A start button. -/
def button : SwCh := ⟨[0x28], false, 0, false, 0, false, false⟩

theorem wit_TouchAndSwitches :
    (let s := inputState (calm 0x10) (calm 0x19) button;
      s.after s.touch.scanAt s.scanPeriod = true ∧ s.after late s.scanPeriod = false ∧ s.touchThr = 30 ∧
      isWater s [capTake 1100 (calm 0x10), capTake 1100 (calm 0x19)] = true ∧ isWater s [capTake 1100 (calm 0x10), capTake 1010 (calm 0x19)] = false ∧
      30 ≤ (capTake 1030 (calm 0x10)).delta ∧ (capTake 1029 (calm 0x10)).delta < 30 ∧ (calm 0x10).touched = false ∧ (calm 0x10).stuck = false ∧
      ({ calm 0x10 with touched := true } : CapCh).touched = true ∧ ({ calm 0x10 with stuck := true } : CapCh).stuck = true ∧
      0 < s.touch.caps.length ∧ s.runs = true ∧ (s.setBit Reg.PWR_BOOT_STAT_DONE true).bit Reg.PWR_BOOT_STAT_DONE = true ∧ (s.setBit Reg.PWR_BOOT_STAT_DONE true).runs = true ∧ (s.setBit Reg.PWR_BOOT_STAT_DONE false).get Reg.PWR_BOOT_STAT_FAILSTEP = 0 ∧
      ((s.setBit Reg.PWR_BOOT_STAT_DONE false).put Reg.PWR_BOOT_STAT_FAILSTEP 8).runs = true ∧ s.after s.touch.sampleAt s.swPeriod = true ∧ State.reset.power.state = .reset ∧
      ({ fieldState with power := { fieldState.power with state := .sleep } } : State).power.state = .sleep) ∧
    (let s := inputState { calm 0x10 with touched := true } (calm 0x19) button;
      (s.touch.caps.getD 0 CapCh.init).touched = true ∧ s.after (s.touch.caps.getD 0 CapCh.init).since 10000000 = true ∧
      (s.touch.caps.getD 1 CapCh.init).touched = false) ∧
    (button.polWritten = false ∧ ({ button with polWritten := true } : SwCh).polWritten = true ∧
      (let w : SwCh := { button with raw := true }; let s := inputState (calm 0x10) (calm 0x19) w;
        swGlitch w (swTake s 0 true w) = true ∧ s.after (s.sw 0).rawAt (s.swDeb 0 * 1000) = true ∧ (s.sw 0).raw = true ∧ (s.sw 0).active = false ∧
        s.after late (s.swDeb 0 * 1000) = false ∧ (s.sw 1).raw = (s.sw 1).active) ∧
      (let s := inputState (calm 0x10) (calm 0x19) { button with active := true }; (s.sw 0).raw = false ∧ (s.sw 0).active = true ∧ (s.sw 0).stuck = false ∧
        (s.sw 0).codes.contains (0x28 + 0) = true ∧ s.after (s.sw 0).since 60000000 = true ∧ (s.sw 0).firing = [0x28])) ∧
    (let r := fabCheck .host Reg.TSW_SWCFG .b32 true fieldState; r.1 = .ok ∧ r.2.1 = some (.reg Reg.TSW_SWCFG)) ∧
    (let s : State := { satState with sett := { satState.sett with satEvents := [0x2010000], satEventAt := 0 } };
      s.sett.satEvents = [0x2010000] ∧ s.after s.sett.satEventAt 2000 = true ∧ s.after late 2000 = false) := by
  decide +kernel

theorem wit_StartLines :
    (let s := latchSet fieldState;
      s.lineH = true ∧ s.lineL = true ∧ fieldState.lineH = false ∧ fieldState.lineL = false ∧ s.lines.setAt = some late ∧ s.after late 100 = false ∧
      regsWf s.regs = true ∧ s.bit Reg.SL_STAT_LATCH = true ∧ fieldState.bit Reg.SL_STAT_LATCH = false) ∧
    (let s := latchSet fieldState; let u : State := { s with lines := { s.lines with setAt := some 0, ocH := some 0 } };
      u.lines.setAt = some 0 ∧ u.after 0 100 = true ∧ u.lines.ocH = some 0 ∧ u.after 0 100000 = true) := by
  decide +kernel

/-! ### Witnesses: power (19) -/

/-- The head in a power state, VBAT_FAIL asserted or not. -/
def powerIn (p : PowState) (failing : Bool) : State :=
  { fieldState with power := { fieldState.power with state := p, activeAt := 0 }, powAon := { fieldState.powAon with failing := failing, vbat := 24000 } }

theorem wit_VbatFailAndReturn :
    (let s := powerIn .on false;
      s.powAon.failing = false ∧ s.runs = true ∧ (powerIn .on true).powAon.failing = true ∧ (powerIn .on true).powAon.inheritedFail = false ∧
      (powerIn .on true).runs = true ∧ (powerIn .sleep true).powAon.failing = true ∧ (powerIn .sleep true).power.state = .sleep ∧
      (powerIn .hibernate false).power.state = .hibernate ∧ (powerIn .reset false).power.state = .reset ∧ (powerIn .reset true).powAon.failing = true ∧
      (let u : State := { powerIn .on true with powAon := { (powerIn .on true).powAon with inheritedFail := true } };
        u.powAon.inheritedFail = true ∧ u.powAon.failing = true ∧ u.runs = true) ∧ regsWf s.regs = true ∧ s.queues.length = 23) := by
  decide +kernel

theorem wit_SupplyLimits :
    (let s := powerIn .on false;
      s.powAon.failing = false ∧ s.bit Reg.PWR_STAT_OVR = false ∧ (setVbat 37000 s).bit Reg.PWR_STAT_OVR = true ∧ s.refBad = false ∧
      s.bit Reg.PWR_STAT_BKP = false ∧ s.after s.powAon.vbkpAt 60000000 = true ∧ (s.setBitAt Reg.SUP_VMON_V 13).refBad = true ∧
      ({ s with powAon := { s.powAon with vbkpAt := s.now } } : State).after s.now 60000000 = false ∧ (s.setBit Reg.PWR_STAT_BKP true).bit Reg.PWR_STAT_BKP = true ∧
      (∀ b : Bool, ({ s with powAon := { s.powAon with vbkpArmed := b } } : State).powAon.vbkpArmed = b) ∧ (Dom.ldg ≠ .aon ∧ s.domOn .ldg = true ∧ (s.setDom .lfa false).domOn .lfa = false)) := by
  decide +kernel

theorem wit_LevelsAndPowerStates :
    (let s := powerIn .on false;
      s.runs = true ∧ s.power.ramp = none ∧ s.hh.trial = none ∧ s.levelFor = 1 ∧ s.get Reg.PWR_PL_CUR = 0 ∧ (s.put Reg.PWR_PL_CUR 3).get Reg.PWR_PL_CUR = 3 ∧
      (s.put Reg.PWR_PL_CUR 1).get Reg.PWR_PL_CUR = 1 ∧ (s.setBit Reg.PWR_STAT_VBATF true).bit Reg.PWR_STAT_VBATF = true ∧
      (let u : State := { s with power := { s.power with ramp := some 1 } }; u.power.ramp = some 1 ∧
        (runLevel 1 (setTrim 1 0 { u with power := { u.power with ramp := none } })).levelFor = 1 ∧ u.after u.power.plAt (rampTime u.power.plFrom 1) = true) ∧
      (let u : State := { s with power := { s.power with ramp := some 2 } };
        (runLevel 2 (setTrim 2 0 { u with power := { u.power with ramp := none } })).levelFor ≠ 2) ∧
      s.after s.power.trimAt 1000000 = true ∧ s.idle = true ∧ s.after s.power.activeAt 50 = true ∧ s.powAon.wakes = [] ∧ (s.setQueue .session { Queue.init with items := [⟨.p0, .session, false, 0, .burst⟩] }).idle = false) ∧
    (let s := ({ powerIn .doze false with img := ImgSt.init } : State).put Reg.SES_PROF_CUR 0;
      s.power.state = .doze ∧ s.timerDue = false ∧ s.pollDue = false ∧ s.wmDue = false ∧ s.searchDue = false ∧ s.powAon.wakes = [] ∧
      ({ s with powAon := { s.powAon with wakes := [3] } } : State).powAon.wakes ≠ []) ∧
    (powerIn .standby false).power.state = .standby ∧
    (let s := powerIn .sleep false; let u : State := { s with powAon := { s.powAon with wakes := [1] } };
      u.power.state = .sleep ∧ u.powAon.wakes ≠ [] ∧ u.powAon.failing = false ∧
      (let v : State := { s with powAon := { s.powAon with wakeTimer := some late } }; v.powAon.wakeTimer = some late ∧ late ≤ v.now ∧ v.powAon.wakes = [])) ∧
    (powerIn .on false).power.state ≠ .sleep := by
  decide +kernel

/-! ### Witnesses: supervision (20) -/

/-- Eight readings in 0.01 °C. -/
def temps (l : List Int) : List (Option Int) := l.map some

/-- The head with a block in the hands of the Hedgehog. -/
def isoState (b : Block) (isolated forGood : Bool) (resetting : Option Nat) : State :=
  { fieldState with hh := { fieldState.hh with iso := [⟨b, 0x3101, 0, some late, isolated, resetting, forGood⟩] } }

theorem wit_Monitors :
    (let s := fieldState; let r := temps [5000, 5000, 5000, 5000, 6000, 6000, 6000, 6000];
      s.runs = true ∧ s.after s.hh.tempAt 1000 = true ∧ s.refBad = false ∧ (s.setBitAt Reg.SUP_VMON_V 13).refBad = true ∧ s.hh.haltGroup = none ∧ State.reset.runs = false ∧
      ({ s with hh := { s.hh with haltGroup := some 0 } } : State).hh.haltGroup = some 0 ∧ newInvalid [] r [0, 1, 2, 3] = [] ∧
      newInvalid [] (temps [5000, 5000, 5000, 8000]) [0, 1, 2, 3] = [3] ∧ s.stepOn 0x1101 0 = false ∧
      (groupMax [] r ⟨0x1101, 0, [0, 1, 2, 3], 11000⟩).2 < 11000 ∧ 11000 ≤ (groupMax [] (temps [11000, 0, 0, 0]) ⟨0x1101, 0, [0, 1, 2, 3], 11000⟩).2 ∧
      validOf [0, 1, 2, 3] r [0, 1, 2, 3] = [] ∧ (0, 5000) ∈ validOf [] r [0, 1, 2, 3]) ∧
    (let s := fieldState; s.railOn 7 = true ∧ s.railOn 8 = true ∧ s.railOn 15 = false ∧ s.railIn 7 600 = false ∧ s.railIn 7 700 = true ∧ railFilter 7 ≤ 10 ∧ s.railIn 8 900 = false ∧ s.railIn 11 4000 = false ∧
      s.railIn 6 1000 = false ∧ s.railIn 2 3000 = false ∧ s.railIn 2 3300 = true ∧ s.railIn 8 1000 = true ∧ s.railIn 11 5000 = true ∧ s.bitAt Reg.SUP_VMON_V (7 - 1) = false ∧ railCode 7 = some 0x1201 ∧
      railCode 8 = some 0x1203 ∧ railCode 11 = some 0x1207 ∧ railCode 6 = some 0x1202 ∧ railCode 2 = none ∧
      (s.setBitAt Reg.SUP_VMON_V 6).bitAt Reg.SUP_VMON_V (7 - 1) = true ∧ s.get Reg.PWR_PL_CUR = 0 ∧ (s.put Reg.PWR_PL_CUR 2).get Reg.PWR_PL_CUR = 1 + 1) := by
  decide +kernel

theorem wit_Monitors_margins :
    (let ok : List Int := [40, 41, 42, 43]; let low : List Int := [10, 11, 12, 13]; let neg : List Int := [-4, -3, -2, -1]; let s := fieldState;
      s.hh.pmDrop = [] ∧ ok.all (fun a => ok.all (fun b => decide ((a - b).natAbs ≤ 30))) = true ∧ 32 ≤ median2 ok ∧ median2 low < 32 ∧ ¬ median2 low < 0 ∧
      median2 neg < 0 ∧ toInt 8 ((s.put Reg.PWR_PL_TRIM 30).get Reg.PWR_PL_TRIM) = 30) ∧
    (let s : State := { fieldState with hh := { fieldState.hh with trialAt := some 0, caps := [(0x1301, 1)] } };
      s.hh.trialAt = some 0 ∧ s.hh.caps.find? (fun c => c.1 == 0x1301) = some (0x1301, 1) ∧ s.power.ramp = none ∧ s.hh.trial = none ∧ s.runs = true ∧ s.after 0 60000000 = true ∧
      (let u : State := { s with hh := { s.hh with trial := some 0 } }; u.hh.trial = some 0 ∧ u.after 0 (rampTime 1 2 + 100) = true ∧ u.after late (rampTime 1 2 + 100) = false) ∧
      s.after late 60000000 = false ∧ 48 ≤ median2 ((s.monitors [40, 41, 42, 43]).map (·.2)) ∧ median2 ((s.monitors [1, 1, 1, 1]).map (·.2)) < 48) := by
  decide +kernel

theorem wit_BlocksAndReports :
    (let s := isoState .lane0 true false none; let i : IsoBlk := ⟨.lane0, 0x3101, 0, some late, true, none, false⟩;
      s.hh.iso.find? (fun i => i.block == .lane0) = some i ∧ s.after i.at_ 20000 = true ∧ s.hh.iso.find? (fun i => i.block == .fox) = none) ∧
    (isoState .lane0 true true none).hh.iso.any (fun i => i.forGood) = true ∧
    (let s := isoState .lane0 true false (some 0); s.after 0 1000 = true ∧ s.after late 1000 = false) ∧
    (2 ≤ Block.den.region ∧ Block.aon.region < 2) ∧
    (let s := isoState .ct false false none; s.isIsolated .ct = false ∧
      s.hh.iso.any (fun i => i.block == .ct && (i.resetAt.any (fun t => s.within t 60000000))) = true) ∧
    (let s := fieldState; s.hh.restart = none ∧ s.hh.haltGroup = none ∧ s.hh.haltAt ≠ some s.now ∧ s.recentRestarts.length < 3 ∧ s.hh.deferred = none ∧
      (let u : State := { s with hhAon := { s.hhAon with restarts := [late, late, late] }, hh := { s.hh with deferred := some 0x1202 } };
        3 ≤ u.recentRestarts.length ∧ u.hh.deferred = some 0x1202) ∧
      (let u : State := { s with hh := { s.hh with haltAt := some s.now, restart := some (0x1401, s.now) } };
        u.hh.haltAt = some u.now ∧ u.hh.restart = some (0x1401, u.now))) ∧
    (let i : QItem := ⟨.p0, .session, false, 0, .burst⟩; let s := fieldState.setQueue .session { Queue.init with items := [i] };
      popBest (s.queue .session).items = some (i, []) ∧ s.after i.at_ 20000 = true ∧ s.runs = true ∧ s.after late 20000 = false) ∧
    (let r : FltRep := ⟨0x6201, 0, 3, 7⟩; let s : State := { fieldState with hh := { fieldState.hh with reports := [r] } };
      s.repOf 0x6201 = some r ∧ r.since ≠ 0 ∧ s.after r.recAt 60000000 = true ∧ s.repOf 0x6202 = none ∧
      (let u : State := { s with hh := { s.hh with reports := [{ r with recAt := late }] } }; u.repOf 0x6201 = some { r with recAt := late } ∧
        u.after late 60000000 = false)) := by
  decide +kernel

/-! ### Witnesses: the whole machine -/

theorem wit_StepTakesTheFront :
    State.reset.pending = [] ∧ ({ onState with pending := [.startLineRetry true] } : State).pending = .startLineRetry true :: [] := by decide +kernel

theorem wit_StepsKeepTheForm :
    onState.wf = true ∧ (withFob 3 someFob headState).wf = true ∧ (withFob 3 someFob headState).nv.mem ≠ [] := by decide +kernel

theorem wit_CommandsAnswer :
    (58000 < 58001 ∨ 40000 < 58001 ∧ 400 < 0) ∧ (58000 < 41000 ∨ 40000 < 41000 ∧ 400 < 401) ∧
      ¬ (58000 < 58000 ∨ 40000 < 58000 ∧ 400 < 400) := by decide

/-- The states the 9-bit generator runs through from a seed. -/
def genStates (seed : Nat) : Nat → Nat
  | 0 => seed
  | i + 1 => ((genStates seed i <<< 1) &&& 0x1FF) ||| ((genStates seed i).testBit 8 ^^ (genStates seed i).testBit 4).toNat

/-- The states the scrambler runs through for a SEQ. -/
def scramStates (seq : Nat) : Nat → Nat
  | 0 => 0x7FFF ^^^ seq
  | i + 1 => ((scramStates seq i <<< 1) ||| ((scramStates seq i).testBit 14 ^^ (scramStates seq i).testBit 13).toNat) &&& 0x7FFF

theorem wit_GeneratorScramblerInterleaver :
    (0 < 0x1FF ∧ 0x1FF < 512 ∧ genStates 0x1FF 0 = 0x1FF ∧
      (∀ i, genStates 0x1FF (i + 1) =
        ((genStates 0x1FF i <<< 1) &&& 0x1FF) ||| ((genStates 0x1FF i).testBit 8 ^^ (genStates 0x1FF i).testBit 4).toNat)) ∧
    (scramStates 0x2C 0 = 0x7FFF ^^^ 0x2C ∧
      (∀ i, scramStates 0x2C (i + 1) =
        ((scramStates 0x2C i <<< 1) ||| ((scramStates 0x2C i).testBit 14 ^^ (scramStates 0x2C i).testBit 13).toNat) &&& 0x7FFF)) ∧
    ((List.replicate 24 true).length ∈ [24, 96, 384] ∧ 23 < (List.replicate 24 true).length ∧ (List.replicate 6 true).length = 6) := by
  refine ⟨⟨by decide, by decide, rfl, fun _ => rfl⟩, ⟨rfl, fun _ => rfl⟩, by decide⟩

theorem wit_MemoryWrites :
    ((fabCheck .ledger 0x80000000 .b32 true onState).1 = .ok ∧ (fabCheck .ledger 0x80000000 .b32 true onState).2.1 = some (.sram 0) ∧
      (fabCheck .ledger 0x801FFFFF .b8 true onState).2.1 = some (.sram 0x1FFFFF) ∧ onState.wf = true) ∧
    (let s := onState.put Reg.VLT_STAT_OWN Master.host.id
     (fabCheck .host (0x40000104) .b32 true s).1 = .ok ∧ (fabCheck .host (0x40000104) .b32 true s).2.1 = some (.vltBuf 4) ∧ s.wf = true ∧
      (fabCheck .host (0x40000104) .b32 true s).2.2.denBusy .host = false ∧
      (fabCheck .host (0x40000104) .b32 true s).2.2.get Reg.VLT_STAT_OWN = Master.host.id) ∧
    (fabCheck .host Reg.SUP_RGN_STAT .b32 true onState).1 ≠ .ok := by
  decide +kernel

/-! ### The specification's worked examples, and the vectors of the standards it names -/

def digits : Bytes := [0x31, 0x32, 0x33, 0x34, 0x35, 0x36, 0x37, 0x38, 0x39]

/-- R8: the check values over "123456789". -/
theorem test_check_values : crc8 digits = 0xF4 ∧ crc16 digits = 0x29B1 ∧ crc32c digits = 0xE3069283 := by decide +kernel

/-- 05: the welcome poll's wake frame of vehicle 0x0000_7A31, and the CRC's intermediate values. -/
theorem test_wake_frame :
    wakeBytes 0x7A31 0 4 = [0xAB, 0xFE, 0x66, 0x7B, 0x04, 0x56] ∧
    crc8 [0xFE] = 0xF4 ∧ crc8 [0xFE, 0x66] = 0xF7 ∧ crc8 [0xFE, 0x66, 0x7B] = 0xAD := by decide +kernel

/-- Table 7-2 and 07, "Worked frame": the generator's check value, the ACK header's bytes and CRC, its first coded bits, the scrambler's first
outputs, the durations of Table 7-8. -/
theorem test_air_waveform :
    gen9 16 (syncSeed 1) = [true, true, true, true, true, true, true, true, true, false, false, false, false, false, true, true] ∧
    be 8 (AirHdr.word ⟨9, 2, 0, 0x2C, 1, 0x40, 0⟩) = [0x4A, 0x00, 0x05, 0x80, 0x28, 0x00, 0xEA, 0x52] ∧
    (convCode (bitsOf [0x4A, 0x00, 0x05, 0x80, 0x28, 0x00, 0xEA, 0x52])).take 16 =
      [true, true, true, false, true, false, true, false, false, true, true, true, true, false, true, false] ∧
    scramble 0x2C (List.replicate 32 false) = bitsOf [0x00, 0x57, 0x40, 0x3E] ∧
    (frameUnits 9 1 0 false = 137 ∧ frameUnits 9 2 0 false = 49 ∧ frameUnits 9 3 0 false = 31 ∧ frameUnits 9 4 0 false = 28 ∧
      frameUnits 4 1 0 false = 128 ∧ frameUnits 8 2 4 true = 73 ∧ frameUnits 10 4 2047 true = 283) := by decide +kernel

/-- Table 8-1, Table 8-3 and 08, the FINE exchange: exchange durations, channels of the passes, the first pass of the example, 301.0 air ticks as
2,295 mm. -/
theorem test_fox_figures :
    (∀ p ∈ [(0, 1, 681875), (0, 2, 285625), (0, 3, 197500), (0, 4, 175000), (1, 1, 1320000), (1, 2, 606250), (1, 3, 448750), (1, 4, 411250)],
      exchangeLen p.1 p.2.1 * 10000 = p.2.2 * 393216) ∧
    ((List.range 3).map (passChannel 0) = [14, 15, 13] ∧ (List.range 3).map (passChannel 1) = [14, 15, 16]) ∧
    (let ex : Exch := ⟨0, [], 4, 0, false, 0, 3, 1, [0x025A3C1000], [⟨0x025A619259, 0, 80, 860, [], 0, Cx.zero, Cx.zero⟩],
      some (0x025A3C1000 + 13672448), 0, false, none, [], []⟩
     let rep : RangeRep := ⟨4, 0, 1, [0], [2457630], [80], 13672612⟩
     let c := foxCalc ex rep 0
     c.turns.all (fun t => decide (absRat (t - 2457600) < 8 / 10)) = true ∧ c.tofs.all (fun t => decide (absRat (t - 3002 / 10) < 1 / 10)) = true ∧
       absRat (c.rho - c.rhoCfo) < 1 / 100000000) ∧
    mmOf 301 = 2295 := by decide +kernel

/-- 08, R196: bytes 0x8E, 0xB3 and 0x40 of the stream give point 5 of 8 with offset 64, 315° of a turn. -/
theorem test_tone : toneOf 0x8E 0xB3 0x40 = (8, 5, 64) ∧ tonePhase (8, 5, 64) * 360 = 315 * 4096 := by decide +kernel

/-- 10, R254: the CRYSTAL entry of the example and the correction at -10 °C. -/
theorem test_crystal :
    crystalSec [⟨1, 0, 0, 0, 0⟩] [0x01, 0, 0, 0, 0x09, 0xC4, 0, 0, 0xFF, 0xFF, 0x7B, 0x30, 0, 0, 0x05, 0xDC] = some [⟨1, 2500, -34000, 1500⟩] ∧
    corrFor ⟨1, 2500, -34000, 1500⟩ (-1000) = 40150 := by decide +kernel

/-- 11: the MOTION section, entries W2 and W3, and the speeds of steps 2 to 4. -/
theorem test_motion :
    motionSec [0x00, 0x00, 0x1F, 0x40, 0x01, 0x0A, 0x00, 0x00] = some ⟨8000, 1, 10⟩ ∧
    waymarksSec ([0x02, 0x01, 0x02, 0x00, 0x00, 0x00, 0x03, 0xE8, 0, 0, 0, 0, 0, 0, 0, 0x01] ++
      [0x03, 0x03, 0x05, 0x01, 0x00, 0x00, 0x03, 0x84, 0x00, 0x00, 0x00, 0x14, 0, 0, 0, 0]) =
      some [⟨2, 1, 2, 0, 1000, 0, 1⟩, ⟨3, 3, 5, 1, 900, 20, 0⟩] ∧
    speedOf 8000 1 1048576 = 18 ∧ speedOf 8000 1 629146 = 29 ∧ speedOf 8000 32 754974 = 800 := by decide +kernel

/-- 02, "Worked excerpt": the cab's ZONES entry. -/
theorem test_zone :
    zonesSec [0x01, 0x01, 0x04, 0x00, 0x00, 0x00, 0x03, 0xE8, 0x00, 0x00, 0x0E, 0xD8, 0x00, 0x00, 0x08, 0xFC, 0xFF, 0xFF, 0xFB, 0x1E,
      0x00, 0x00, 0x11, 0xF8, 0xFF, 0xFF, 0xFB, 0x1E, 0x00, 0x00, 0x11, 0xF8, 0x00, 0x00, 0x04, 0xE2, 0x00, 0x00, 0x08, 0xFC, 0x00, 0x00, 0x04, 0xE2] =
      some [⟨1, 1, 1000, 3800, [(2300, -1250), (4600, -1250), (4600, 1250), (2300, 1250)]⟩] := by decide +kernel

/-- 13: G = 76, B = 19,456, 255 cells programmed read 19,711. -/
theorem test_tally : (TallyCtr.mk 19456 76 255 0 false 0).value = 19711 ∧ 19456 = 76 * 256 := by decide

/-- R3: DEVICE_ID. -/
theorem test_device_id : (fabRead .host 0x18000000 .b32 onState).2.1 = 0x968000B0 := by decide +kernel

def fipsKey : Bytes := (List.range 16).map (fun i => BitVec.ofNat 8 i)

/-- FIPS 197, appendix C.1; FIPS 180-4, "abc"; RFC 4493, examples 1 and 2. -/
theorem test_standards :
    aesEnc fipsKey ((List.range 16).map (fun i => BitVec.ofNat 8 (i * 17))) =
      [0x69, 0xC4, 0xE0, 0xD8, 0x6A, 0x7B, 0x04, 0x30, 0xD8, 0xCD, 0xB7, 0x80, 0x70, 0xB4, 0xC5, 0x5A] ∧
    sha256 [0x61, 0x62, 0x63] = be 32 0xBA7816BF8F01CFEA414140DE5DAE2223B00361A396177A9CB410FF61F20015AD ∧
    cmac (be 16 0x2B7E151628AED2A6ABF7158809CF4F3C) [] = be 16 0xBB1D6929E95937287FA37D129B756746 ∧
    cmac (be 16 0x2B7E151628AED2A6ABF7158809CF4F3C) (be 16 0x6BC1BEE22E409F96E93D7E117393172A) = be 16 0x070A16B46B4D4144F79BDD9DD04A287C := by
  decide +kernel
end

section
/-! PROOFS. Every command keeps the waiting commands and the canonical form of the memories and the register map; the step; the order of the
checks of a fabric write. For a command `execF` the lemma `execF_answersKept` says so: its proof splits along the branches of `execF` and gives,
in their order, the operations that make up what each answers, by what the laws say these keep. -/

namespace Sys2Proof.Machine

/-- What a command answers: a next state that has kept, since `r`, the waiting commands and the canonical form. -/
def AnswersKept (r : State) : Host.Outcome State Fault Refusal → Prop
  | .next t => Keeps r t
  | .fault _ => False
  | .refused _ => False

/-! ### A change beside the form: the waiting commands, the register map and the memories stay as they are -/

/-- No record that holds a memory changes. -/
theorem Keeps.beside {r X : State} (h : Keeps r X) {now freeCtr hwSet queues chron timers motion ledAon entAon hhAon data touch lines powAon
    power boot straps img imgAon sett wm led nand rmc ent can ring hpt hh outs lfAon lf air fox ses tagAon} :
    Keeps r (State.mk X.pending now freeCtr X.regs hwSet X.sram queues chron timers motion ledAon entAon hhAon data touch lines powAon power
      boot straps img imgAon sett wm led nand X.nv rmc X.den X.cry ent can ring hpt hh outs lfAon lf air fox ses tagAon
      X.tag) :=
  h.mk (h1 := rfl) (h2 := rfl) (h3 := rfl) (h4 := rfl) ..

/-- The tag's record changes beside its memory. -/
theorem Keeps.besideTag {r X : State} (h : Keeps r X) {now freeCtr hwSet queues chron timers motion ledAon entAon hhAon data touch lines powAon
    power boot straps img imgAon sett wm led nand rmc ent can ring hpt hh outs lfAon lf air fox ses tagAon}
    {field st star cascade iso4 app step1 kts ctr fails snap held lock commit path vres replaced} :
    Keeps r (State.mk X.pending now freeCtr X.regs hwSet X.sram queues chron timers motion ledAon entAon hhAon data touch lines powAon power
      boot straps img imgAon sett wm led nand X.nv rmc X.den X.cry ent can ring hpt hh outs lfAon lf air fox ses tagAon
      (TagSt.mk field st star cascade iso4 app step1 kts ctr fails snap X.tag.sram held lock commit path vres replaced)) :=
  h.mk (h1 := rfl) (h2 := rfl) (h3 := rfl) (h4 := rfl) ..

/-- The Den's record changes beside its buffer. -/
theorem Keeps.besideDen {r X : State} (h : Keeps r X) {now freeCtr hwSet queues chron timers motion ledAon entAon hhAon data touch lines powAon
    power boot straps img imgAon sett wm led nand rmc ent can ring hpt hh outs lfAon lf air fox ses tagAon}
    {unusable pair nonce touchedAt legacy legacyAt loaded vol rewrite requiredFault wait claimed} :
    Keeps r (State.mk X.pending now freeCtr X.regs hwSet X.sram queues chron timers motion ledAon entAon hhAon data touch lines powAon power
      boot straps img imgAon sett wm led nand X.nv rmc
      (DenSt.mk unusable pair nonce X.den.buf touchedAt legacy legacyAt loaded vol rewrite requiredFault wait claimed)
      X.cry ent can ring hpt hh outs lfAon lf air fox ses tagAon X.tag) :=
  h.mk (h1 := rfl) (h2 := rfl) (h3 := rfl) (h4 := rfl) ..

/-- The crypto engine's record changes beside its buffer. -/
theorem Keeps.besideCry {r X : State} (h : Keeps r X) {now freeCtr hwSet queues chron timers motion ledAon entAon hhAon data touch lines powAon
    power boot straps img imgAon sett wm led nand rmc ent can ring hpt hh outs lfAon lf air fox ses tagAon}
    {touchedAt symBusy symHeld wait claimed waitAt} :
    Keeps r (State.mk X.pending now freeCtr X.regs hwSet X.sram queues chron timers motion ledAon entAon hhAon data touch lines powAon power
      boot straps img imgAon sett wm led nand X.nv rmc X.den (CrySt.mk X.cry.buf touchedAt symBusy symHeld wait claimed waitAt)
      ent can ring hpt hh outs lfAon lf air fox ses tagAon X.tag) :=
  h.mk (h1 := rfl) (h2 := rfl) (h3 := rfl) (h4 := rfl) ..

/-! ### Branches and results -/

theorem Keeps.ite {r a b : State} {c : Prop} [Decidable c] (ha : Keeps r a) (hb : Keeps r b) : Keeps r (if c then a else b) := by
  split
  · exact ha
  · exact hb

theorem AnswersKept.ite {r : State} {a b : Host.Outcome State Fault Refusal} {c : Prop} [Decidable c] (ha : AnswersKept r a)
    (hb : AnswersKept r b) : AnswersKept r (if c then a else b) := by
  split
  · exact ha
  · exact hb

theorem Keeps.snd {α : Type} {r t : State} {x : α × State} {a : α} (h : Keeps r x.2) (e : x = (a, t)) : Keeps r t := by
  subst e; exact h

theorem Keeps.third {α β : Type} {r t : State} {x : α × β × State} {a : α} {b : β} (h : Keeps r x.2.2) (e : x = (a, b, t)) : Keeps r t := by
  subst e; exact h

theorem Keeps.getD {r d : State} {o : Option State} (ho : ∀ t, o = some t → Keeps r t) (hd : Keeps r d) : Keeps r (o.getD d) := by
  cases o with
  | none => exact hd
  | some t => exact ho t rfl

/-- A fabric write of one register. -/
theorem wordWrite_answersKept {r s : State} (h : Keeps r s) (m a v) : AnswersKept r (wordWrite m a v s) :=
  fabAnswer_keeps _ (fabWrite_keeps h _ _ _ _)

theorem denGo_answersKept {r s : State} (h : Keeps r s) (op m slot) : AnswersKept r (denGo op m slot s) := wordWrite_answersKept h _ _ _

theorem cryGo_answersKept {r s : State} (h : Keeps r s) (op m slot dst mode) : AnswersKept r (cryGo op m slot dst mode s) :=
  wordWrite_answersKept h _ _ _

theorem tickIf_answersKept {r s : State} (h : Keeps r s) (b) : AnswersKept r (tickIf b s) := Keeps.ite (tick_keeps h) h

/-- The voltage of a VBAT_OVERVOLTAGE beyond the ratings of R419. -/
def beyondRatings (vbat ms : Nat) : Prop := 58000 < vbat ∨ 40000 < vbat ∧ 400 < ms

theorem exec_vbatOvervoltage_beyondRatings (s : State) {vbat ms : Nat} (hv : beyondRatings vbat ms) :
    exec (.vbatOvervoltage vbat ms) s = .fault .beyondRatings := if_pos hv

/-! ### Ses -/

theorem execWakeReply_answersKept {r s : State} (h : Keeps r s) (n rx) : AnswersKept r (execWakeReply n rx s) := by
  dsimp only [execWakeReply]
  repeat' split
  exacts [h, relayed_keeps h _ _ _ _ _ _ ‹_›, replyDelivered_keeps (rxReport_keeps h _ _ _ _) _ _ _ _ _, rxReport_keeps h _ _ _ _]

theorem execAirResponse_answersKept {r s : State} (h : Keeps r s) (n rx) : AnswersKept r (execAirResponse n rx s) := by
  dsimp only [execAirResponse]
  repeat' split
  exacts [h, Keeps.getD (relayed_keeps h _ _ _ _ _) (rxReport_keeps h _ _ _ _), rxReport_keeps h _ _ _ _,
    sesKick_keeps (sessionEnd_keeps (rxReport_keeps h _ _ _ _) _ _), authenticated_keeps (rxReport_keeps h _ _ _ _) _ _,
    sesKick_keeps (strike_keeps (rxReport_keeps h _ _ _ _) _ _), rxReport_keeps h _ _ _ _]

theorem execSessionTrigger_answersKept {r s : State} (h : Keeps r s) : AnswersKept r (execSessionTrigger s) := by
  dsimp only [execSessionTrigger]
  repeat' split
  exacts [h, h, serveTrigger_keeps (nextTrigger_keeps h _ _ ‹_›) _ _, nextTrigger_keeps h _ _ ‹_›]

theorem execReplyWindowClose_answersKept {r s : State} (h : Keeps r s) : AnswersKept r (execReplyWindowClose s) := by
  dsimp only [execReplyWindowClose]
  repeat' split
  exacts [h, runNext_keeps (modifyRun_keeps h _ _) _, judgeAll_keeps (modifyRun_keeps h _ _), wakeOver_keeps (modifyRun_keeps h _ _) _]

theorem execResponseTimeout_answersKept {r s : State} (h : Keeps r s) (record) : AnswersKept r (execResponseTimeout record s) := by
  dsimp only [execResponseTimeout]
  repeat' split
  exacts [h, h, challengeKick_keeps h _, h, sendChallenge_keeps h _, sesKick_keeps (sessionEnd_keeps h _ _)]

theorem execSessionTimeout_answersKept {r s : State} (h : Keeps r s) (record) : AnswersKept r (execSessionTimeout record s) := by
  dsimp only [execSessionTimeout]
  repeat' split
  exacts [h, sesKick_keeps (sessionEnd_keeps h _ _), sesKick_keeps (sessionEnd_keeps h _ _), h]

theorem execBarExpiry_answersKept {r s : State} (h : Keeps r s) (record) : AnswersKept r (execBarExpiry record s) := h.beside

theorem execTrackerStale_answersKept {r s : State} (h : Keeps r s) (record) : AnswersKept r (execTrackerStale record s) := by
  dsimp only [execTrackerStale]
  repeat' split
  exacts [setTracker_keeps h _ _, h]

theorem execTrackerForget_answersKept {r s : State} (h : Keeps r s) (record) : AnswersKept r (execTrackerForget record s) := by
  dsimp only [execTrackerForget]
  repeat' split
  exacts [trackerReset_keeps h _, h]

theorem execIgnitionWindowExpiry_answersKept {r s : State} (h : Keeps r s) : AnswersKept r (execIgnitionWindowExpiry s) := by
  dsimp only [execIgnitionWindowExpiry]
  repeat' split
  exacts [h, latchClear_keeps h, h]

theorem execSesLfrunGo_answersKept {r s : State} (h : Keeps r s) : AnswersKept r (execSesLfrunGo s) := by
  dsimp only [execSesLfrunGo]
  repeat' split
  exacts [h, lfrunRefused_keeps h, lfrunRefused_keeps h, lfRequest_keeps h _]

theorem execNoticeFrame_answersKept {r s : State} (h : Keeps r s) (n rx) : AnswersKept r (execNoticeFrame n rx s) := by
  dsimp only [execNoticeFrame]
  repeat' split
  exacts [h, rxReport_keeps h _ _ _ _, Keeps.getD (relayed_keeps h _ _ _ _ _) h, rxReport_keeps h _ _ _ _, rxReport_keeps h _ _ _ _,
    rxReport_keeps h _ _ _ _, rxStrike_keeps (rxReport_keeps h _ _ _ _) _ _, setNotice_keeps (sendAck_keeps (rxReport_keeps h _ _ _ _) _ _ _ _) _,
    (fobCommit_keeps (setNotice_keeps (sendAck_keeps (rxReport_keeps h _ _ _ _) _ _ _ _) _) _ _ _ _).snd ‹_›,
    setNotice_keeps ((fobCommit_keeps (setNotice_keeps (sendAck_keeps (rxReport_keeps h _ _ _ _) _ _ _ _) _) _ _ _ _).snd ‹_›) _]

theorem execNctrCommitDone_answersKept {r s : State} (h : Keeps r s) (record) : AnswersKept r (execNctrCommitDone record s) := by
  dsimp only [execNctrCommitDone]
  repeat' split
  exacts [h, remoteUnlock_keeps (remoteLock_keeps (setNotice_keeps h _) _ _) _ _ _ _ _ _, remoteUnlock_keeps (setNotice_keeps h _) _ _ _ _ _ _,
    remoteLock_keeps (setNotice_keeps h _) _ _, setNotice_keeps h _, h]

theorem execServiceFrame_answersKept {r s : State} (h : Keeps r s) (n rx) : AnswersKept r (execServiceFrame n rx s) := by
  dsimp only [execServiceFrame]
  repeat' split
  exacts [h, rxReport_keeps h _ _ _ _, Keeps.getD (relayed_keeps h _ _ _ _ _) h,
    enrolled_keeps (sendAck_keeps (rxReport_keeps h _ _ _ _) _ _ _ _) _ _ _, rxReport_keeps h _ _ _ _,
    modifySession_keeps (sendAck_keeps (rxReport_keeps h _ _ _ _) _ _ _ _) _ _, rxStrike_keeps (rxReport_keeps h _ _ _ _) _ _,
    rxReport_keeps h _ _ _ _]

theorem execEnrolTimeout_answersKept {r s : State} (h : Keeps r s) : AnswersKept r (execEnrolTimeout s) := by
  dsimp only [execEnrolTimeout]
  repeat' split
  exacts [h, laneFree_keeps (laneFree_keeps (routineFail_keeps h.beside _) _) _, h]

theorem execAckFrame_answersKept {r s : State} (h : Keeps r s) (n rx) : AnswersKept r (execAckFrame n rx s) := by
  dsimp only [execAckFrame]
  repeat' split
  exacts [h, Keeps.getD (relayed_keeps h _ _ _ _ _) (rxReport_keeps h _ _ _ _)]

/-! ### Fox -/

theorem execRangingExchange_answersKept {r s : State} (h : Keeps r s) (record) : AnswersKept r (execRangingExchange record s) := by
  dsimp only [execRangingExchange]
  repeat' split
  exacts [h, h, judgeAll_keeps (laneResult_keeps (modifySession_keeps h _ _) _ _), h, exchangeBegin_keeps h _ _ _]

theorem execGuardSecondExchange_answersKept {r s : State} (h : Keeps r s) (record) : AnswersKept r (execGuardSecondExchange record s) := by
  dsimp only [execGuardSecondExchange]
  repeat' split
  exacts [h, exchangeBegin_keeps h _ _ _, h]

theorem execRangePoll_answersKept {r s : State} (h : Keeps r s) (n rx m) : AnswersKept r (execRangePoll n rx m s) := by
  dsimp only [execRangePoll]
  repeat' split
  exacts [setOh_keeps (rxReport_keeps h _ _ _ _) _ _, setOh_keeps (rxReport_keeps h _ _ _ _) _ _, rxReport_keeps h _ _ _ _, h]

theorem execRangeReply_answersKept {r s : State} (h : Keeps r s) (n rx m) : AnswersKept r (execRangeReply n rx m s) := by
  dsimp only [execRangeReply]
  repeat' split
  exacts [h, passOver_keeps (rxReport_keeps h _ _ _ _) _ _ _, rxReport_keeps h _ _ _ _, h, listenNext_keeps (rxReport_keeps h _ _ _ _) _ _,
    rxReport_keeps h _ _ _ _, h]

theorem execRangeReport_answersKept {r s : State} (h : Keeps r s) (n rx mismatches) : AnswersKept r (execRangeReport n rx mismatches s) := by
  dsimp only [execRangeReport]
  repeat' split
  exacts [h, rxReport_keeps h _ _ _ _, foxEscort_keeps (rxReport_keeps (modifySession_keeps h _ _) _ _ _ _) _ _,
    foxEscort_keeps (recomputes_keeps (rxReport_keeps (modifySession_keeps h _ _) _ _ _ _) _) _ _,
    exchangeJudge_keeps (rxReport_keeps (modifySession_keeps h _ _) _ _ _ _) _ _ _ _,
    exchangeJudge_keeps (recomputes_keeps (rxReport_keeps (modifySession_keeps h _ _) _ _ _ _) _) _ _ _ _,
    rxStrike_keeps (rxReport_keeps h _ _ _ _) _ _, rxReport_keeps h _ _ _ _, h]

theorem execRangeReplyTimeout_answersKept {r s : State} (h : Keeps r s) (n) : AnswersKept r (execRangeReplyTimeout n s) := by
  dsimp only [execRangeReplyTimeout]
  repeat' split
  exacts [h, foxFailed_keeps h _ _ _, h]

theorem execRangeReportTimeout_answersKept {r s : State} (h : Keeps r s) (n) : AnswersKept r (execRangeReportTimeout n s) := by
  dsimp only [execRangeReportTimeout]
  repeat' split
  exacts [h, foxFailed_keeps h _ _ _, h]

theorem execOverhearExchangeEnd_answersKept {r s : State} (h : Keeps r s) (n) : AnswersKept r (execOverhearExchangeEnd n s) := by
  dsimp only [execOverhearExchangeEnd]
  repeat' split
  exacts [h, h, laneFree_keeps (planOver_keeps (State.setLane_keeps (settSend_keeps (setOh_keeps (listenRes_keeps h _ _) _ _) _ _ _ _ _) _ _) _) _]

/-! ### Air -/

theorem execLaneRequest_answersKept {r s : State} (h : Keeps r s) (sel cls chan) : AnswersKept r (execLaneRequest sel cls chan s) := by
  dsimp only [execLaneRequest]
  repeat' split
  exacts [laneResult_keeps h _ _, laneResult_keeps h _ _, laneResult_keeps h _ _, laneTake_keeps h _ _ _ _, laneResult_keeps h _ _,
    laneTake_keeps h _ _ _ _]

theorem execSynthLocked_answersKept {r s : State} (h : Keeps r s) (n temp coefs) : AnswersKept r (execSynthLocked n temp coefs s) := by
  unfold execSynthLocked
  split
  · exact h
  · refine AnswersKept.ite h ?_
    extract_lets calibrated _ locked checked
    have hc : Keeps r calibrated := Keeps.ite (calibrated_keeps h _ _) h
    have hl : Keeps r locked := State.setBit_keeps (State.setLane_keeps hc _ _) _ _
    have hk : Keeps r checked := txDeadline_keeps (coefCheck_keeps (State.put_keeps hl _ _) _ _) _
    split
    · exact laneListenFrom_keeps hk _ _ _
    · exact hk

theorem execLockCheckTimeout_answersKept {r s : State} (h : Keeps r s) (n) : AnswersKept r (execLockCheckTimeout n s) := by
  dsimp only [execLockCheckTimeout]
  repeat' split
  exacts [h, h, State.setLane_keeps (recomputes_keeps (State.setBit_keeps h _ _) _) _ _,
    reportFault_keeps (laneDrop_keeps (State.put_keeps (State.setLane_keeps h _ _) _ _) _ _) _ _ _]

theorem execLockLost_answersKept {r s : State} (h : Keeps r s) (n) : AnswersKept r (execLockLost n s) := by
  unfold execLockLost
  refine AnswersKept.ite h ?_
  extract_lets dropped settling
  have hd : Keeps r dropped := laneDrop_keeps (State.put_keeps (State.setBit_keeps h _ _) _ _) _ _
  have hm := escMismatch_keeps (raise_keeps (State.setLane_keeps hd n { dropped.lane n with settle := some ⟨s.now, 0, 220, true, 2, true⟩ }) 0x3104 n)
    (laneBlock n)
  split
  · exact isolate_keeps (hm.snd ‹_›) _ _
  · exact hm.snd ‹_›

theorem execTxCommand_answersKept {r s : State} (h : Keeps r s) (n cmd) : AnswersKept r (execTxCommand n cmd s) := by
  dsimp only [execTxCommand]
  repeat' split
  exacts [h, laneResult_keeps h _ _, laneResult_keeps h _ _, laneTx_keeps h _ _, laneTx_keeps (laneMove_keeps h _ _) _ _]

theorem execTxStart_answersKept {r s : State} (h : Keeps r s) (n) : AnswersKept r (execTxStart n s) := by
  dsimp only [execTxStart]
  repeat' split
  exacts [txDeadline_keeps h _, txDeadline_keeps h _, foxLane_keeps (laneResult_keeps (State.setLane_keeps (txDeadline_keeps h _) _ _) _ _) _,
    txDeadline_keeps h _, txDeadline_keeps h _, pollEmitted_keeps (laneEmit_keeps (txDeadline_keeps h _) _ _) _ _ _ _]

theorem execTxLateDeadline_answersKept {r s : State} (h : Keeps r s) (n) : AnswersKept r (execTxLateDeadline n s) := by
  dsimp only [execTxLateDeadline]
  repeat' split
  exacts [h, foxLane_keeps (laneResult_keeps (State.setLane_keeps h _ _) _ _) _, txDeadline_keeps h _]

theorem execRxCommand_answersKept {r s : State} (h : Keeps r s) (n window) : AnswersKept r (execRxCommand n window s) := by
  dsimp only [execRxCommand]
  repeat' split
  exacts [h, laneResult_keeps h _ _, laneResult_keeps h _ _, laneListen_keeps h _ _]

theorem execRxWindowEnd_answersKept {r s : State} (h : Keeps r s) (n) : AnswersKept r (execRxWindowEnd n s) := by
  dsimp only [execRxWindowEnd]
  repeat' split
  exacts [h, laneDone_keeps (windowOver_keeps h _) _, h, h]

theorem execLaneIdleSleep_answersKept {r s : State} (h : Keeps r s) (n) : AnswersKept r (execLaneIdleSleep n s) := by
  dsimp only [execLaneIdleSleep]
  repeat' split
  exacts [State.put_keeps (State.setBit_keeps (State.put_keeps (State.setLane_keeps h _ _) _ _) _ _) _ _, h]

theorem execLaneDomainOff_answersKept {r s : State} (h : Keeps r s) (n) : AnswersKept r (execLaneDomainOff n s) := by
  dsimp only [execLaneDomainOff]
  repeat' split
  exacts [laneOff_keeps h _, h]

theorem execLaneTempSample_answersKept {r s : State} (h : Keeps r s) (n temp) : AnswersKept r (execLaneTempSample n temp s) := by
  dsimp only [execLaneTempSample]
  repeat' split
  exacts [h, recomputes_keeps h _, recomputes_keeps h _, State.setBit_keeps (enterSamples_keeps (State.setLane_keeps h _ _) _) _ _,
    enterSamples_keeps (State.setLane_keeps h _ _) _]

theorem execCalAgeExpiry_answersKept {r s : State} (h : Keeps r s) (n) : AnswersKept r (execCalAgeExpiry n s) := by
  dsimp only [execCalAgeExpiry]
  repeat' split
  exacts [State.setBit_keeps h _ _, h]

theorem execLoopback_answersKept {r s : State} (h : Keeps r s) (n m) : AnswersKept r (execLoopback n m s) := by
  dsimp only [execLoopback]
  repeat' split
  exacts [h, State.setLane_keeps h _ _]

theorem execSyncDetect_answersKept {r s : State} (h : Keeps r s) (n m) : AnswersKept r (execSyncDetect n m s) := by
  unfold execSyncDetect
  extract_lets noise
  split
  · refine AnswersKept.ite h ?_
    extract_lets turn q gains quality _ heard searching
    have hg : Keeps r gains :=
      State.put_keeps (State.setBit_keeps (State.put_keeps (State.put_keeps h _ _) _ _) _ _) _ _
    have hq : Keeps r quality := State.put_keeps (State.put_keeps (State.put_keeps hg _ _) _ _) _ _
    have hh : Keeps r heard := State.setLane_keeps hq _ _
    exact AnswersKept.ite (State.setLane_keeps hh _ _) (State.count_keeps (State.put_keeps (State.put_keeps hh _ _) _ _) _ _)
  · exact h

/-! ### Timers -/

theorem execTimerCapture_answersKept {r s : State} (h : Keeps r s) (src rising) : AnswersKept r (execTimerCapture src rising s) :=
  captureEdge_keeps h _ _

theorem execDebugHalt_answersKept {r s : State} (h : Keeps r s) (halt) : AnswersKept r (execDebugHalt halt s) := h.beside

/-! ### Chronicle -/

theorem execCrystalLost_answersKept {r s : State} (h : Keeps r s) : AnswersKept r (execCrystalLost s) := by
  dsimp only [execCrystalLost]
  repeat' split
  exacts [logRec_keeps (raise_keeps (State.setBit_keeps (State.setBit_keeps h _ _) _ _) _ _) _ _, h]

theorem execFllLock_answersKept {r s : State} (h : Keeps r s) : AnswersKept r (execFllLock s) := by
  dsimp only [execFllLock]
  repeat' split
  exacts [h, logRec_keeps (State.setBit_keeps h.beside _ _) _ _, State.setBit_keeps h.beside _ _]

theorem execDegrClear_answersKept {r s : State} (h : Keeps r s) : AnswersKept r (execDegrClear s) := by
  dsimp only [execDegrClear]
  repeat' split
  exacts [State.setBit_keeps h _ _, h, State.setBit_keeps h _ _, h]

theorem execFllLockTimeout_answersKept {r s : State} (h : Keeps r s) : AnswersKept r (execFllLockTimeout s) := by
  dsimp only [execFllLockTimeout]
  repeat' split
  exacts [logRec_keeps (raise_keeps h.beside _ _) _ _, h]

theorem execBackupSwitch_answersKept {r s : State} (h : Keeps r s) (onVbkp) : AnswersKept r (execBackupSwitch onVbkp s) := by
  dsimp only [execBackupSwitch]
  repeat' split
  exacts [captureEdge_keeps (State.setBit_keeps (State.setBit_keeps (State.setBit_keeps h _ _) _ _) _ _).beside _ _,
    State.setBit_keeps (State.setBit_keeps (State.setBit_keeps h _ _) _ _) _ _, State.setBit_keeps (State.setBit_keeps h _ _) _ _]

theorem execCompSample_answersKept {r s : State} (h : Keeps r s) (reading) : AnswersKept r (execCompSample reading s) := by
  dsimp only [execCompSample]
  repeat' split
  exacts [h, recomputes_keeps h _, raise_keeps h.beside _ _, State.put_keeps (enterSamples_keeps h.beside _) _ _,
    State.put_keeps (enterSamples_keeps h.beside _) _ _]

theorem execDeferredStep_answersKept {r s : State} (h : Keeps r s) : AnswersKept r (execDeferredStep s) := by
  dsimp only [execDeferredStep]
  repeat' split
  exacts [h, timeSetStep_keeps h.beside _ _, h]

/-! ### Lf -/

theorem execPollSlot_answersKept {r s : State} (h : Keeps r s) (e) : AnswersKept r (execPollSlot e s) := by
  dsimp only [execPollSlot]
  repeat' split
  exacts [h, h, lfRequest_keeps h.beside _]

theorem execPollSkipDeadline_answersKept {r s : State} (h : Keeps r s) (e) : AnswersKept r (execPollSkipDeadline e s) :=
  State.count_keeps (State.setQueue_keeps (State.count_keeps (State.setQueue_keeps h _ _) _ _) _ _) _ _

theorem execLfFrameStart_answersKept {r s : State} (h : Keeps r s) (b) : AnswersKept r (execLfFrameStart b s) := by
  dsimp only [execLfFrameStart]
  repeat' split
  exacts [h, lfDone_keeps (bankTake_keeps h _ _) _ _ _ _, foldl_keeps _ (fun _ _ k => bankUse_keeps k _) _ h, h,
    State.count_keeps (bankTake_keeps h _ _) _ _, h, h, lfStart_keeps (bankTake_keeps h _ _) _ _, h, h, bankTake_keeps h _ _, bankTake_keeps h _ _,
    bankTake_keeps h _ _, bankTake_keeps h _ _, bankTake_keeps h _ _, bankTake_keeps h _ _, bankTake_keeps h _ _, bankTake_keeps h _ _,
    bankTake_keeps h _ _]

theorem execBankIdleOff_answersKept {r s : State} (h : Keeps r s) (b) : AnswersKept r (execBankIdleOff b s) := by
  dsimp only [execBankIdleOff]
  repeat' split
  exacts [bankOff_keeps h _, h]

theorem execVbatBoostThreshold_answersKept {r s : State} (h : Keeps r s) (vbat) : AnswersKept r (execVbatBoostThreshold vbat s) := setVbat_keeps h _

theorem execDriveAllow_answersKept {r s : State} (h : Keeps r s) (vbat vlf gate) : AnswersKept r (execDriveAllow vbat vlf gate s) := by
  dsimp only [execDriveAllow]
  repeat' split
  exacts [State.setBit_keeps (measured_keeps h _ _ _).beside _ _, measured_keeps h _ _ _]

theorem execInhibitLong_answersKept {r s : State} (h : Keeps r s) : AnswersKept r (execInhibitLong s) := by
  dsimp only [execInhibitLong]
  repeat' split
  exacts [h, raise_keeps h.beside _ _, h]

theorem execBridgeCool_answersKept {r s : State} (h : Keeps r s) (c) : AnswersKept r (execBridgeCool c s) := h.beside

theorem execCoilTest_answersKept {r s : State} (h : Keeps r s) (m) : AnswersKept r (execCoilTest m s) := by
  refine Keeps.getD (fun t e => ?_) h
  rcases first : coilNext 0 m s with - | u
  · rw [first] at e
    exact coilNext_keeps h _ _ _ e
  · rw [first] at e
    exact coilNext_keeps h _ _ _ (first.trans e)

theorem execCoilTest24h_answersKept {r s : State} (h : Keeps r s) : AnswersKept r (execCoilTest24h s) := by
  dsimp only [execCoilTest24h]
  repeat' split
  exacts [askTests_keeps h.beside _ _ _, h]

theorem execDisabledRetest_answersKept {r s : State} (h : Keeps r s) (passed) : AnswersKept r (execDisabledRetest passed s) := h.beside

/-! ### Coupled -/

theorem execCoupledExchangeStart_answersKept {r s : State} (h : Keeps r s) : AnswersKept r (execCoupledExchangeStart s) := by
  dsimp only [execCoupledExchangeStart]
  repeat' split
  exacts [h, h, ctRefused_keeps (bankTake_keeps h _ _) _, ctRefused_keeps (bankTake_keeps h _ _) _, ctRefused_keeps (bankTake_keeps h _ _) _,
    bankUse_keeps h _, h, lfSent_keeps (State.count_keeps (State.setBit_keeps (State.setBit_keeps (foldl_keeps _ (fun _ _ k => own_keeps k _ _) _
      (bankUse_keeps (bankTake_keeps h _ _) _)) _ _) _ _) _ _).beside _]

theorem execLfFrameEnd_answersKept {r s : State} (h : Keeps r s) (c meas) : AnswersKept r (execLfFrameEnd c meas s) := by
  dsimp only [execLfFrameEnd]
  repeat' split
  exacts [frameEnd_keeps h _ _, h, ctOver_keeps (disableChannel_keeps (ipkReport_keeps h.beside _ _ _ _) _ _) _, ipkReport_keeps h.beside _ _ _ _, h,
    h]

theorem execCtIdReceived_answersKept {r s : State} (h : Keeps r s) (delay ok bits) : AnswersKept r (execCtIdReceived delay ok bits s) := by
  dsimp only [execCtIdReceived]
  repeat' split
  exacts [h, h, ctOver_keeps h _, ctOver_keeps h _, ctOver_keeps (State.put_keeps h _ _) _, ctOver_keeps (State.put_keeps h _ _) _,
    lfSent_keeps ((randBytes_keeps (State.put_keeps h _ _) _ _).snd ‹_›).beside _,
    lfSent_keeps (volPut_keeps ((randBytes_keeps (State.put_keeps h _ _) _ _).snd ‹_›) _).beside _,
    ctOver_keeps ((randBytes_keeps (State.put_keeps h _ _) _ _).snd ‹_›).beside _, ctOver_keeps (State.put_keeps h _ _).beside _]

theorem execCtResponseReceived_answersKept {r s : State} (h : Keeps r s) (delay ok bits) : AnswersKept r (execCtResponseReceived delay ok bits s) :=
    by
  dsimp only [execCtResponseReceived]
  repeat' split
  exacts [h, h, ctOver_keeps h _, ctOver_keeps h _, ctOver_keeps h _, ctOver_keeps h _, ctOver_keeps h _]

theorem execCtReplyTimeout_answersKept {r s : State} (h : Keeps r s) : AnswersKept r (execCtReplyTimeout s) := by
  dsimp only [execCtReplyTimeout]
  repeat' split
  exacts [h, ctOver_keeps h _, h, ctOver_keeps h _, h]

theorem execCtDriveCap_answersKept {r s : State} (h : Keeps r s) : AnswersKept r (execCtDriveCap s) := by
  dsimp only [execCtDriveCap]
  repeat' split
  exacts [h, ctOver_keeps h _, h]

theorem execDriveInhibit_answersKept {r s : State} (h : Keeps r s) (vbat vlf gate) : AnswersKept r (execDriveInhibit vbat vlf gate s) := by
  dsimp only [execDriveInhibit]
  repeat' split
  exacts [fieldStop_keeps (lfInhibit_keeps (measured_keeps h _ _ _)) _, measured_keeps h _ _ _]

theorem execBoostTimeout_answersKept {r s : State} (h : Keeps r s) : AnswersKept r (execBoostTimeout s) := by
  dsimp only [execBoostTimeout]
  repeat' split
  exacts [h, fieldStop_keeps (lfInhibit_keeps (raise_keeps h.beside _ _)) _, h]

theorem execBridgeOvertemp_answersKept {r s : State} (h : Keeps r s) (c) : AnswersKept r (execBridgeOvertemp c s) := by
  dsimp only [execBridgeOvertemp]
  repeat' split
  exacts [ctOver_keeps (overtemp_keeps h _) _, overtemp_keeps h _]

theorem execBridgeShort_answersKept {r s : State} (h : Keeps r s) (c toGround) : AnswersKept r (execBridgeShort c toGround s) := by
  dsimp only [execBridgeShort]
  repeat' split
  exacts [ctOver_keeps (bridgeFault_keeps h _ _ _) _, bridgeFault_keeps h _ _ _, ctOver_keeps (bridgeFault_keeps h _ _ _) _,
    bridgeFault_keeps h _ _ _]

/-! ### Profile -/

theorem execProfileEvaluate_answersKept {r s : State} (h : Keeps r s) (event) : AnswersKept r (execProfileEvaluate event s) := by
  dsimp only [execProfileEvaluate]
  repeat' split
  exacts [evalProfile_keeps (evalEvent_keeps h) _, evalProfile_keeps (evalEvent_keeps h) _, evalEvent_keeps h, evalProfile_keeps h _,
    evalProfile_keeps h _, h]

theorem execPlChange_answersKept {r s : State} (h : Keeps r s) : AnswersKept r (execPlChange s) := by
  dsimp only [execPlChange]
  repeat' split
  exacts [h, relevel_keeps h, runLevel_keeps (relevel_keeps h).beside _, (relevel_keeps h).beside]

theorem execPlChangeDone_answersKept {r s : State} (h : Keeps r s) (trim) : AnswersKept r (execPlChangeDone trim s) := by
  dsimp only [execPlChangeDone]
  repeat' split
  exacts [h, h, State.setBit_keeps (relevel_keeps (runLevel_keeps (setTrim_keeps h.beside _ _) _)) _ _,
    runLevel_keeps (relevel_keeps (runLevel_keeps (setTrim_keeps h.beside _ _) _)).beside _,
    (relevel_keeps (runLevel_keeps (setTrim_keeps h.beside _ _) _)).beside]

theorem execProcessTrim_answersKept {r s : State} (h : Keeps r s) (trim) : AnswersKept r (execProcessTrim trim s) := by
  dsimp only [execProcessTrim]
  repeat' split
  exacts [setTrim_keeps h _ _, h]

/-! ### Den -/

theorem execImportPairExpiry_answersKept {r s : State} (h : Keeps r s) : AnswersKept r (execImportPairExpiry s) := by
  dsimp only [execImportPairExpiry]
  repeat' split
  exacts [h.besideDen, h, h]

theorem execLcNonceExpiry_answersKept {r s : State} (h : Keeps r s) : AnswersKept r (execLcNonceExpiry s) := by
  dsimp only [execLcNonceExpiry]
  repeat' split
  exacts [h.besideDen, h, h]

theorem execVltBufIdle_answersKept {r s : State} (h : Keeps r s) : AnswersKept r (execVltBufIdle s) := by
  dsimp only [execVltBufIdle]
  split
  · exact State.put_keeps (Keeps.mems h _ _ _ _ _ id id (fun _ => Memory.wf_nil) id id) _ _
  · exact h

theorem execLegacyKeyGap_answersKept {r s : State} (h : Keeps r s) : AnswersKept r (execLegacyKeyGap s) := by
  dsimp only [execLegacyKeyGap]
  repeat' split
  exacts [h.besideDen, h]

theorem execProtectionRewrite_answersKept {r s : State} (h : Keeps r s) : AnswersKept r (execProtectionRewrite s) := by
  dsimp only [execProtectionRewrite]
  repeat' split
  exacts [h, h, h.besideDen, h, ((submitGroup_keeps h _ _).snd ‹_›).besideDen, (submitGroup_keeps h _ _).snd ‹_›]

/-! ### Crypto -/

theorem execCryBufIdle_answersKept {r s : State} (h : Keeps r s) : AnswersKept r (execCryBufIdle s) := by
  dsimp only [execCryBufIdle]
  split
  · exact State.put_keeps (Keeps.mems h _ _ _ _ _ id id id (fun _ => Memory.wf_nil) id) _ _
  · exact h

theorem execSymmetricStepPreempt_answersKept {r s : State} (h : Keeps r s) : AnswersKept r (execSymmetricStepPreempt s) := by
  dsimp only [execSymmetricStepPreempt]
  repeat' split
  exacts [(popQueue_keeps h _ _ _ ‹_›).besideCry, h, h]

/-! ### Entropy -/

theorem execHealthWindowClose_answersKept {r s : State} (h : Keeps r s) (w) : AnswersKept r (execHealthWindowClose w s) := by
  unfold execHealthWindowClose
  extract_lets _ counted _ sampled _ pooled
  have hc : Keeps r counted := h.beside
  have hs : Keeps r sampled := Keeps.ite hc.beside hc
  have hp : Keeps r pooled := hs.beside
  refine AnswersKept.ite h ?_
  split
  · exact healthFail_keeps hs _ _
  · exact AnswersKept.ite hs (AnswersKept.ite hs.beside (entropyKick_keeps (Keeps.ite (instantiate_keeps hp) hp)))

theorem execHealthTestFail_answersKept {r s : State} (h : Keeps r s) (w) : AnswersKept r (execHealthTestFail w s) := by
  dsimp only [execHealthTestFail]
  repeat' split
  exacts [h, healthFail_keeps h _ _, h]

theorem execEntropySelfRestart_answersKept {r s : State} (h : Keeps r s) : AnswersKept r (execEntropySelfRestart s) := by
  dsimp only [execEntropySelfRestart]
  repeat' split
  exacts [h, requestRestart_keeps h.beside _, h]

theorem execEntropyWaitTimeout_answersKept {r s : State} (h : Keeps r s) : AnswersKept r (execEntropyWaitTimeout s) := by
  dsimp only [execEntropyWaitTimeout]
  repeat' split
  exacts [randAnswer_keeps (State.count_keeps h.beside _ _) _ _ _, cryDone_keeps h _ _, h, h]

theorem execRawModeTimeout_answersKept {r s : State} (h : Keeps r s) : AnswersKept r (execRawModeTimeout s) := by
  dsimp only [execRawModeTimeout]
  repeat' split
  exacts [rawLeave_keeps h, h]

/-! ### Waymarks -/

theorem execWaymarkEvaluate_answersKept {r s : State} (h : Keeps r s) : AnswersKept r (execWaymarkEvaluate s) := by
  dsimp only [execWaymarkEvaluate]
  repeat' split
  exacts [wmEvaluate_keeps h, h]

theorem execMotionEdge_answersKept {r s : State} (h : Keeps r s) (low high) : AnswersKept r (execMotionEdge low high s) := by
  dsimp only [execMotionEdge]
  repeat' split
  exacts [h, qualifiedEdge_keeps h, glitch_keeps h]

theorem execMotionBEdge_answersKept {r s : State} (h : Keeps r s) (level held) : AnswersKept r (execMotionBEdge level held s) := by
  dsimp only [execMotionBEdge]
  repeat' split
  exacts [h, glitch_keeps h, captureEdge_keeps (State.setBit_keeps h.beside _ _) _ _]

theorem execMotionGlitch_answersKept {r s : State} (h : Keeps r s) : AnswersKept r (execMotionGlitch s) := by
  dsimp only [execMotionGlitch]
  repeat' split
  exacts [glitch_keeps h, h]

theorem execSpeedZeroTimeout_answersKept {r s : State} (h : Keeps r s) : AnswersKept r (execSpeedZeroTimeout s) := by
  dsimp only [execSpeedZeroTimeout]
  repeat' split
  exacts [h, wmSpeedChange_keeps (State.put_keeps (State.setBit_keeps h _ _) _ _).beside, h]

theorem execMotionStopped_answersKept {r s : State} (h : Keeps r s) : AnswersKept r (execMotionStopped s) := by
  dsimp only [execMotionStopped]
  repeat' split
  exacts [evalEvent_keeps (State.setBit_keeps (State.setBit_keeps h.beside _ _) _ _), h]

/-! ### Touch -/

theorem execTouchScan_answersKept {r s : State} (h : Keeps r s) (convs) : AnswersKept r (execTouchScan convs s) := by
  dsimp only [execTouchScan]
  repeat' split
  exacts [h, State.count_keeps (enterSamples_keeps h.beside _).beside _ _,
    foldl_keeps _ (fun _ _ k => inputFires_keeps (State.setBitAt_keeps k _ _) _ _) _ (enterSamples_keeps h.beside _).beside]

theorem execTouchStuck_answersKept {r s : State} (h : Keeps r s) (n) : AnswersKept r (execTouchStuck n s) := by
  dsimp only [execTouchStuck]
  repeat' split
  exacts [raise_keeps h.beside _ _, h]

theorem execSwitchSample_answersKept {r s : State} (h : Keeps r s) (highs) : AnswersKept r (execSwitchSample highs s) := by
  dsimp only [execSwitchSample]
  repeat' split
  exacts [h, State.count_keeps h.beside _ _]

theorem execSwitchDebounce_answersKept {r s : State} (h : Keeps r s) (n) : AnswersKept r (execSwitchDebounce n s) := by
  dsimp only [execSwitchDebounce]
  repeat' split
  exacts [h, foldl_keeps _ (fun _ _ k => inputFires_keeps k _ _) _ (captureEdge_keeps (State.setBitAt_keeps (State.setSw_keeps h _ _) _ _) _ _),
    captureEdge_keeps (State.setSw_keeps h _ _) _ _]

theorem execSwitchStuck_answersKept {r s : State} (h : Keeps r s) (n) : AnswersKept r (execSwitchStuck n s) := by
  dsimp only [execSwitchStuck]
  repeat' split
  exacts [raise_keeps (State.setSw_keeps h _ _) _ _, h]

theorem execSatEventRepeat_answersKept {r s : State} (h : Keeps r s) : AnswersKept r (execSatEventRepeat s) := by
  dsimp only [execSatEventRepeat]
  repeat' split
  exacts [h, settSend_keeps h.beside _ _ _ _ _, h]

theorem execStartLineReadback_answersKept {r s : State} (h : Keeps r s) (hRel lRel) : AnswersKept r (execStartLineReadback hRel lRel s) := by
  dsimp only [execStartLineReadback]
  repeat' split
  exacts [h, State.setBit_keeps (State.setBit_keeps h.beside _ _) _ _, raise_keeps (State.setBit_keeps (State.setBit_keeps h.beside _ _) _ _) _ _,
    raise_keeps (State.setBit_keeps (State.setBit_keeps h.beside _ _) _ _) _ _,
    raise_keeps (State.setBit_keeps (State.setBit_keeps h.beside _ _) _ _) _ _,
    raise_keeps (State.setBit_keeps (State.setBit_keeps h.beside _ _) _ _) _ _, h]

theorem execStartLineOvercurrent_answersKept {r s : State} (h : Keeps r s) (high us) : AnswersKept r (execStartLineOvercurrent high us s) := by
  dsimp only [execStartLineOvercurrent]
  repeat' split
  exacts [h, raise_keeps (State.setBit_keeps (State.setBit_keeps h.beside _ _) _ _) _ _, h,
    raise_keeps (State.setBit_keeps (State.setBit_keeps h.beside _ _) _ _) _ _, h]

theorem execStartLineRetry_answersKept {r s : State} (h : Keeps r s) (high) : AnswersKept r (execStartLineRetry high s) := by
  dsimp only [execStartLineRetry]
  repeat' split
  exacts [h, State.setBit_keeps h.beside _ _, State.setBit_keeps h.beside _ _, h]

theorem execStartLineOvertemp_answersKept {r s : State} (h : Keeps r s) (high celsius) : AnswersKept r (execStartLineOvertemp high celsius s) := by
  dsimp only [execStartLineOvertemp]
  repeat' split
  exacts [h, raise_keeps (State.setBit_keeps (State.setBit_keeps h.beside _ _) _ _) _ _,
    raise_keeps (State.setBit_keeps (State.setBit_keeps h.beside _ _) _ _) _ _]

theorem execStartLineCool_answersKept {r s : State} (h : Keeps r s) (high celsius) : AnswersKept r (execStartLineCool high celsius s) := by
  dsimp only [execStartLineCool]
  repeat' split
  exacts [h, State.setBit_keeps h.beside _ _, h.beside, State.setBit_keeps h.beside _ _, h.beside]

theorem execStartLineOpenLoad_answersKept {r s : State} (h : Keeps r s) (microamps ms) : AnswersKept r (execStartLineOpenLoad microamps ms s) := by
  dsimp only [execStartLineOpenLoad]
  repeat' split
  exacts [raise_keeps (State.setBit_keeps h _ _) _ _, h]

theorem execStartLineForced_answersKept {r s : State} (h : Keeps r s) (high mv ms) : AnswersKept r (execStartLineForced high mv ms s) := by
  dsimp only [execStartLineForced]
  repeat' split
  exacts [h, raise_keeps (State.setBit_keeps h _ _) _ _, h, raise_keeps (State.setBit_keeps h _ _) _ _]

/-! ### Tag -/

theorem execFieldOn_answersKept {r s : State} (h : Keeps r s) : AnswersKept r (execFieldOn s) := by
  dsimp only [execFieldOn]
  repeat' split
  exacts [h, State.setDom_keeps h.besideTag _ _]

theorem execFieldLoss_answersKept {r s : State} (h : Keeps r s) : AnswersKept r (execFieldLoss s) :=
  tagUnpowered_keeps (tagMute_keeps (authEnd_keeps h).besideTag)

theorem execReqa_answersKept {r s : State} (h : Keeps r s) : AnswersKept r (execReqa s) := by
  dsimp only [execReqa]
  repeat' split
  exacts [h, tagReady_keeps h _, tagMute_keeps h, tagMute_keeps (tagFall_keeps h), tagMute_keeps (tagFall_keeps h)]

theorem execWupa_answersKept {r s : State} (h : Keeps r s) : AnswersKept r (execWupa s) := by
  dsimp only [execWupa]
  repeat' split
  exacts [h, tagReady_keeps h _, tagReady_keeps h _, tagMute_keeps (tagFall_keeps h), tagMute_keeps (tagFall_keeps h)]

theorem execAnticollision_answersKept {r s : State} (h : Keeps r s) (level known) : AnswersKept r (execAnticollision level known s) := by
  dsimp only [execAnticollision]
  repeat' split
  exacts [h, h.beside, tagMute_keeps (tagFall_keeps h), tagMute_keeps h, tagMute_keeps h, tagMute_keeps (tagFall_keeps h)]

theorem execIsoSelect_answersKept {r s : State} (h : Keeps r s) (level uid) : AnswersKept r (execIsoSelect level uid s) := by
  dsimp only [execIsoSelect]
  repeat' split
  exacts [h, tagSay_keeps h.besideTag _, tagSay_keeps h.besideTag _, tagMute_keeps (tagFall_keeps h), tagMute_keeps h, tagMute_keeps h,
    tagMute_keeps (tagFall_keeps h)]

theorem execRats_answersKept {r s : State} (h : Keeps r s) : AnswersKept r (execRats s) := by
  dsimp only [execRats]
  repeat' split
  exacts [h, tagSay_keeps h.besideTag _, tagMute_keeps (tagFall_keeps h), tagMute_keeps h, tagMute_keeps h]

theorem execPpsRequest_answersKept {r s : State} (h : Keeps r s) (dri dsi) : AnswersKept r (execPpsRequest dri dsi s) := by
  dsimp only [execPpsRequest]
  repeat' split
  exacts [h, tagSay_keeps h _, tagMute_keeps h]

theorem execHlta_answersKept {r s : State} (h : Keeps r s) : AnswersKept r (execHlta s) := by
  dsimp only [execHlta]
  repeat' split
  exacts [h, tagMute_keeps (tagHalt_keeps h), tagMute_keeps (tagFall_keeps h), tagMute_keeps h, tagMute_keeps h]

theorem execDeselect_answersKept {r s : State} (h : Keeps r s) : AnswersKept r (execDeselect s) := by
  dsimp only [execDeselect]
  repeat' split
  exacts [h, tagSay_keeps (tagHalt_keeps h) _]

theorem execApduSelect_answersKept {r s : State} (h : Keeps r s) (a ins) : AnswersKept r (execApduSelect a ins s) := by
  dsimp only [execApduSelect]
  repeat' split
  exacts [h, tagReply_keeps h _ _ _, tagReply_keeps h _ _ _, tagReply_keeps h _ _ _, tagReply_keeps h _ _ _, tagReply_keeps h _ _ _,
    tagReply_keeps (authEnd_keeps h.besideTag) _ _ _, tagReply_keeps (authEnd_keeps h.besideTag) _ _ _,
    tagReply_keeps (State.setBit_keeps (authEnd_keeps h.besideTag).besideTag _ _) _ _ _,
    tagReply_keeps (State.setBit_keeps (authEnd_keeps h.besideTag).besideTag _ _) _ _ _,
    tagReply_keeps (State.setBit_keeps (authEnd_keeps h.besideTag).besideTag _ _) _ _ _,
    tagReply_keeps (State.setBit_keeps (authEnd_keeps h.besideTag).besideTag _ _) _ _ _]

theorem execAuthStep1_answersKept {r s : State} (h : Keeps r s) (a) : AnswersKept r (execAuthStep1 a s) := by
  refine apduRun_keeps h _ _ _ fun _ _ _ k => ?_
  dsimp only
  repeat' split
  exacts [tagReply_keeps k _ _ _, tagReply_keeps k _ _ _, tagReply_keeps k _ _ _, tagReply_keeps k.besideTag _ _ _]

theorem execAuthStep2_answersKept {r s : State} (h : Keeps r s) (a) : AnswersKept r (execAuthStep2 a s) := by
  refine apduRun_keeps h _ _ _ fun _ _ _ k => ?_
  dsimp only
  repeat' split
  exacts [tagReply_keeps k _ _ _, tagReply_keeps k _ _ _, tagReply_keeps k _ _ _, tagReply_keeps k _ _ _, (tagReply_keeps k _ _ _).besideTag,
    tagReply_keeps (authFailed_keeps k.besideTag) _ _ _]

theorem execReadLeaf_answersKept {r s : State} (h : Keeps r s) (a) : AnswersKept r (execReadLeaf a s) := by
  dsimp only [execReadLeaf]
  repeat' split
  exacts [apduRun_keeps h _ _ _ (fun _ _ _ k => tagReply_keeps k _ _ _),
    apduRun_keeps h _ _ _ (fun _ _ _ k => Keeps.ite (tagReply_keeps k _ _ _) (tagReply_keeps k _ _ _)),
    apduRun_keeps h _ _ _ (fun _ _ _ k => Keeps.ite (tagReply_keeps k _ _ _) (Keeps.ite (tagReply_keeps k _ _ _) (tagReply_keeps k _ _ _)))]

theorem execWriteLeaf_answersKept {r s : State} (h : Keeps r s) (a) : AnswersKept r (execWriteLeaf a s) := by
  refine apduRun_keeps h _ _ _ fun _ _ _ k => ?_
  dsimp only
  repeat' split
  exacts [tagReply_keeps k _ _ _, tagReply_keeps k _ _ _, tagReply_keeps k _ _ _, tagReply_keeps (leafWrite_keeps k _ _ _ _) _ _ _,
    tagReply_keeps k _ _ _, tagReply_keeps (leafWrite_keeps (wiredUndone_keeps k _) _ _ _ _) _ _ _, sendWtx_keeps k.besideTag _,
    tagReply_keeps k _ _ _, tagReply_keeps (leafWrite_keeps k _ _ _ _) _ _ _]

theorem execLockWtxExpiry_answersKept {r s : State} (h : Keeps r s) : AnswersKept r (execLockWtxExpiry s) := by
  dsimp only [execLockWtxExpiry]
  repeat' split
  exacts [h, h, sendWtx_keeps h.besideTag _, tagBusy_keeps h.besideTag _]

theorem execTagCommit_answersKept {r s : State} (h : Keeps r s) (a vres) : AnswersKept r (execTagCommit a vres s) := by
  refine apduRun_keeps h _ _ _ fun _ _ t k => ?_
  have hv : Keeps r { t with tag := { t.tag with vres := clampVres vres } } := k.besideTag
  dsimp only
  repeat' split
  exacts [tagReply_keeps k _ _ _, tagReply_keeps k _ _ _, commitOk_keeps k _, tagMute_keeps ((submitGroup_keeps hv _ _).snd ‹_›).besideTag,
    tagBusy_keeps ((submitGroup_keeps hv _ _).snd ‹_›) _, tagMute_keeps hv.besideTag, tagNotNow_keeps hv _]

theorem execFieldPageProgramDone_answersKept {r s : State} (h : Keeps r s) (ok vres) : AnswersKept r (execFieldPageProgramDone ok vres s) := by
  dsimp only [execFieldPageProgramDone]
  repeat' split
  exacts [h, pathOver_keeps (applyShadow_keeps h.besideTag _) _, pathOver_keeps (raise_keeps h.besideTag _ _) _, h.besideTag,
    pathOver_keeps h.besideTag _, pathOver_keeps (raise_keeps h.besideTag _ _) _, pathOver_keeps h.besideTag _, h.besideTag, h.besideTag]

theorem execWaitingTimeExtension_answersKept {r s : State} (h : Keeps r s) : AnswersKept r (execWaitingTimeExtension s) := by
  dsimp only [execWaitingTimeExtension]
  repeat' split
  exacts [sendWtx_keeps h _, h]

theorem execGetSummary_answersKept {r s : State} (h : Keeps r s) (a) : AnswersKept r (execGetSummary a s) := by
  refine apduRun_keeps h _ _ _ fun _ _ _ k => ?_
  dsimp only
  repeat' split
  exacts [tagReply_keeps k _ _ _, tagReply_keeps k _ _ _, tagReply_keeps k.besideTag _ _ _, tagReply_keeps k _ _ _, tagReply_keeps k.besideTag _ _ _,
    tagReply_keeps k _ _ _]

theorem execTagWiredHoldTimeout_answersKept {r s : State} (h : Keeps r s) : AnswersKept r (execTagWiredHoldTimeout s) := by
  dsimp only [execTagWiredHoldTimeout]
  repeat' split
  exacts [h, lockKick_keeps (leafDrop_keeps h _)]

/-! ### Hedgehog -/

theorem execTempSample_answersKept {r s : State} (h : Keeps r s) (readings) : AnswersKept r (execTempSample readings s) := by
  unfold execTempSample
  extract_lets bad inv _ sampled raised
  have hr : Keeps r raised := foldl_keeps _ (fun _ _ k => raise_keeps k _ _) _ (tempRegs_keeps (enterSamples_keeps h.beside _) _ _)
  have hs : Keeps r (tempRows.foldl (stepRow inv readings) raised) := foldl_keeps _ (fun _ _ k => stepRow_keeps k _ _ _) _ hr
  repeat' split
  exacts [h, h, h, h, recomputes_keeps h _, haltRelease_keeps hr _ _ _, hs, h, recomputes_keeps h _, haltRelease_keeps hr _ _ _, hs,
    h, recomputes_keeps h _, haltRelease_keeps hr _ _ _, hs]

theorem execRailOutOfRange_answersKept {r s : State} (h : Keeps r s) (rail mv us) : AnswersKept r (execRailOutOfRange rail mv us s) := by
  dsimp only [execRailOutOfRange]
  repeat' split
  exacts [h, State.setBitAt_keeps h _ _, railCore_keeps (State.setBitAt_keeps h _ _) _,
    airDrop_keeps (shedBits_keeps (raise_keeps (State.setBitAt_keeps h _ _) _ _)) _,
    fieldStop_keeps (lfInhibit_keeps (raise_keeps (allowTrack_keeps (State.setBitAt_keeps h _ _).beside) _ _)) _,
    raise_keeps (State.setBitAt_keeps h _ _) _ _]

theorem execRailBackInRange_answersKept {r s : State} (h : Keeps r s) (rail mv us) : AnswersKept r (execRailBackInRange rail mv us s) := by
  dsimp only [execRailBackInRange]
  repeat' split
  exacts [h, dropCap_keeps (State.clearBitAt_keeps h _ _) _, listenKick_keeps (shedBits_keeps (State.clearBitAt_keeps h _ _)),
    allowTrack_keeps (State.clearBitAt_keeps h _ _).beside, State.clearBitAt_keeps h _ _]

theorem execProcessMonitor_answersKept {r s : State} (h : Keeps r s) (margins) : AnswersKept r (execProcessMonitor margins s) := by
  dsimp only [execProcessMonitor]
  repeat' split
  exacts [h, raise_keeps (foldl_keeps _ (fun _ _ k => raise_keeps k _ _) _ (pmonRegs_keeps h _).beside) _ _,
    marginLow_keeps (foldl_keeps _ (fun _ _ k => raise_keeps k _ _) _ (pmonRegs_keeps h _).beside),
    foldl_keeps _ (fun _ _ k => raise_keeps k _ _) _ (pmonRegs_keeps h _).beside]

theorem execPlCapTrial_answersKept {r s : State} (h : Keeps r s) (margins) : AnswersKept r (execPlCapTrial margins s) := by
  dsimp only [execPlCapTrial]
  repeat' split
  exacts [h, trialBegin_keeps h _, h, trialEnd_keeps h _ _, h, h]

theorem execBlockReset_answersKept {r s : State} (h : Keeps r s) (b) : AnswersKept r (execBlockReset b s) := by
  dsimp only [execBlockReset]
  repeat' split
  exacts [h, (blockClear_keeps h _).beside, h]

theorem execBlockResetDone_answersKept {r s : State} (h : Keeps r s) (b) : AnswersKept r (execBlockResetDone b s) := by
  dsimp only [execBlockResetDone]
  repeat' split
  exacts [h, h, h, outageEnd_keeps h.beside, h.beside]

theorem execDeferredRestart_answersKept {r s : State} (h : Keeps r s) : AnswersKept r (execDeferredRestart s) := by
  dsimp only [execDeferredRestart]
  repeat' split
  exacts [h, h, requestRestart_keeps h.beside _]

theorem execSessionWatchdog_answersKept {r s : State} (h : Keeps r s) : AnswersKept r (execSessionWatchdog s) := by
  dsimp only [execSessionWatchdog]
  repeat' split
  exacts [raise_keeps h _ _, h, h]

theorem execFaultReportWindowEnd_answersKept {r s : State} (h : Keeps r s) (code) : AnswersKept r (execFaultReportWindowEnd code s) := by
  dsimp only [execFaultReportWindowEnd]
  repeat' split
  exacts [h, h, noteDrop_keeps (faultRecord_keeps h.beside _ _ _ _)]

/-! ### Restart -/

theorem execAonpor_answersKept {r s : State} (h : Keeps r s) : AnswersKept r (execAonpor s) := porReset_keeps h

theorem execSupplyReturn_answersKept {r s : State} (h : Keeps r s) : AnswersKept r (execSupplyReturn s) := by
  dsimp only [execSupplyReturn]
  repeat' split
  exacts [restartOnly_keeps (State.setBit_keeps (State.setBit_keeps h _ _) _ _) _, h]

theorem execExtrst_answersKept {r s : State} (h : Keeps r s) (low) : AnswersKept r (execExtrst low s) := by
  dsimp only [execExtrst]
  repeat' split
  exacts [h, restartOnly_keeps h _]

theorem execDebugReset_answersKept {r s : State} (h : Keeps r s) : AnswersKept r (execDebugReset s) := by
  dsimp only [execDebugReset]
  repeat' split
  exacts [restartOnly_keeps h _, h]

theorem execHibernateWake_answersKept {r s : State} (h : Keeps r s) : AnswersKept r (execHibernateWake s) := by
  dsimp only [execHibernateWake]
  repeat' split
  exacts [h, restartOnly_keeps (wakeFlags_keeps (State.put_keeps (State.put_keeps h _ _) _ _) _).beside _, h, h, h, h, h]

theorem execVsysReset_answersKept {r s : State} (h : Keeps r s) (vsys) : AnswersKept r (execVsysReset vsys s) := by
  dsimp only [execVsysReset]
  repeat' split
  exacts [restartOnly_keeps h.beside _, h.beside]

theorem execHedgehogRestart_answersKept {r s : State} (h : Keeps r s) : AnswersKept r (execHedgehogRestart s) := by
  dsimp only [execHedgehogRestart]
  repeat' split
  exacts [hedgeReset_keeps (sectorProgram_keeps (hedgeStore_keeps h.beside _)) _, hedgeReset_keeps (hedgeStore_keeps h.beside _) _, h]

theorem execHeartbeatWatchdog_answersKept {r s : State} (h : Keeps r s) : AnswersKept r (execHeartbeatWatchdog s) := by
  dsimp only [execHeartbeatWatchdog]
  repeat' split
  exacts [hedgeReset_keeps (State.put_keeps h _ _).beside _, h]

/-! ### Power -/

theorem execVbatFail_answersKept {r s : State} (h : Keeps r s) (vbat us) : AnswersKept r (execVbatFail vbat us s) := by
  unfold execVbatFail
  extract_lets set _ failing counted noted shed off
  have hs : Keeps r set := setVbat_keeps h _
  have hf : Keeps r failing := hs.beside
  have hc : Keeps r counted := State.setBit_keeps (State.count_keeps hf _ _) _ _
  have hn : Keeps r noted := State.setBit_keeps (awake_keeps hc) _ _
  have hd : Keeps r shed := airDrop_keeps (fieldDrop_keeps (sessionsDrop_keeps hn) _) _
  have ho : Keeps r (storeFail (tagAbandon (ledgerFail (relevel off)))) :=
    storeFail_keeps (tagAbandon_keeps (ledgerFail_keeps (relevel_keeps (bankOff_keeps (bankOff_keeps hd _) _))))
  refine AnswersKept.ite hs ?_
  split
  exacts [hc, State.setBit_keeps hc _ _, State.setBit_keeps hc _ _, ho, ho, ho]

theorem execVbatOvervoltage_answersKept {r s : State} (h : Keeps r s) (vbat ms) (hv : ¬ beyondRatings vbat ms) :
    AnswersKept r (execVbatOvervoltage vbat ms s) := by
  dsimp only [execVbatOvervoltage]
  rw [if_neg (show ¬ (58000 < vbat ∨ 40000 < vbat ∧ 400 < ms) from hv)]
  split
  · exact fieldStop_keeps (lfInhibit_keeps (State.setBit_keeps (raise_keeps (setVbat_keeps h _) _ _) _ _)) _
  · exact setVbat_keeps h _

theorem execVsysOutOfRange_answersKept {r s : State} (h : Keeps r s) (vsys us limitUs) : AnswersKept r (execVsysOutOfRange vsys us limitUs s) := by
  dsimp only [execVsysOutOfRange]
  repeat' split
  exacts [vsysReset_keeps h.beside, State.setBit_keeps (raise_keeps h.beside _ _) _ _, h.beside]

theorem execVbkpSample_answersKept {r s : State} (h : Keeps r s) (vbkp) : AnswersKept r (execVbkpSample vbkp s) := by
  dsimp only [execVbkpSample]
  repeat' split
  exacts [h, recomputes_keeps h _,
    State.setBit_keeps (raise_keeps (State.setBit_keeps (State.put_keeps (enterSamples_keeps h.beside _) _ _) _ _).beside _ _) _ _,
    (State.setBit_keeps (State.put_keeps (enterSamples_keeps h.beside _) _ _) _ _).beside,
    State.setBit_keeps (State.put_keeps (enterSamples_keeps h.beside _) _ _) _ _]

theorem execDomainPowerFail_answersKept {r s : State} (h : Keeps r s) (d us) : AnswersKept r (execDomainPowerFail d us s) := by
  dsimp only [execDomainPowerFail]
  repeat' split
  exacts [h, raise_keeps (State.setBitAt_keeps (boostCheck_keeps (State.setDom_keeps (domainLost_keeps h _) _ _)).beside _ _) _ _]

theorem execDozeEntry_answersKept {r s : State} (h : Keeps r s) : AnswersKept r (execDozeEntry s) := by
  dsimp only [execDozeEntry]
  repeat' split
  exacts [h.beside, h, h, h, h, h, h]

theorem execStandbyEntry_answersKept {r s : State} (h : Keeps r s) : AnswersKept r (execStandbyEntry s) := by
  dsimp only [execStandbyEntry]
  repeat' split
  exacts [h, h.beside, h, h, h, h, h]

/-! ### ImageLoad -/

theorem execTrialConfirmTimeout_answersKept {r s : State} (h : Keeps r s) : AnswersKept r (execTrialConfirmTimeout s) := by
  dsimp only [execTrialConfirmTimeout]
  repeat' split
  exacts [confirmBegin_keeps h _, h, h]

/-! ### Ledger -/

theorem execLedgerIngest_answersKept {r s : State} (h : Keeps r s) (arrival) : AnswersKept r (execLedgerIngest arrival s) := by
  dsimp only [execLedgerIngest]
  repeat' split
  exacts [sealNext_keeps (lossCheck_keeps (ledgerPutAs_keeps h _ _)), satFlush_keeps (ledgerPutAs_keeps h _ _), sealNext_keeps (lossCheck_keeps h),
    satFlush_keeps h]

theorem execCheckpointSeal_answersKept {r s : State} (h : Keeps r s) : AnswersKept r (execCheckpointSeal s) := by
  dsimp only [execCheckpointSeal]
  repeat' split
  exacts [h, sealPair_keeps ((signWith_keeps h _ _).snd ‹_›) _ _ _, (signWith_keeps h _ _).snd ‹_›, ((signWith_keeps h _ _).snd ‹_›).beside,
    ledgerHalt_keeps h.beside]

theorem execSectorAgeFlush_answersKept {r s : State} (h : Keeps r s) : AnswersKept r (execSectorAgeFlush s) := by
  dsimp only [execSectorAgeFlush]
  repeat' split
  exacts [sectorProgram_keeps h, h]

theorem execNandProgramDone_answersKept {r s : State} (h : Keeps r s) (ok) : AnswersKept r (execNandProgramDone ok s) := by
  dsimp only [execNandProgramDone]
  repeat' split
  exacts [h, sectorWritten_keeps h _, programFailed_keeps h _]

theorem execNandNoAnswer_answersKept {r s : State} (h : Keeps r s) (d) : AnswersKept r (execNandNoAnswer d s) := by
  dsimp only [execNandNoAnswer]
  repeat' split
  exacts [sectorNext_keeps (deviceOut_keeps h _ _) _, deviceOut_keeps h _ _, h]

theorem execLedgerOpen_answersKept {r s : State} (h : Keeps r s) : AnswersKept r (execLedgerOpen s) := by
  unfold execLedgerOpen
  extract_lets _ checked
  have hc : Keeps r checked := checkDevice_keeps (checkDevice_keeps h.beside _) _
  repeat' split
  exacts [h, ledgerClosed_keeps h, ledgerClosed_keeps (resumeCount_keeps hc _),
    ledgerClosed_keeps (resumeCount_keeps (raise_keeps hc.beside _ _) _), openDone_keeps (resumeCount_keeps hc _),
    openDone_keeps (resumeCount_keeps (ledgerFormat_keeps hc) _), openDone_keeps (openFound_keeps hc.beside _),
    openDone_keeps (openFound_keeps hc _), ledgerHalt_keeps (resumeCount_keeps hc _)]

theorem execMirrorCopy_answersKept {r s : State} (h : Keeps r s) : AnswersKept r (execMirrorCopy s) := by
  dsimp only [execMirrorCopy]
  repeat' split
  exacts [h, setMirrors_keeps (setDev_keeps h _ _).beside]

theorem execSummaryHourly_answersKept {r s : State} (h : Keeps r s) : AnswersKept r (execSummaryHourly s) := by
  dsimp only [execSummaryHourly]
  repeat' split
  exacts [summaryRewrite_keeps h, h]

/-! ### Boot -/

theorem execStartUp_answersKept {r s : State} (h : Keeps r s) (env) : AnswersKept r (execStartUp env s) := by
  dsimp only [execStartUp]
  repeat' split
  exacts [h, startUp_keeps h _, h, h, h, h, h]

/-! ### Wake -/

theorem execWakeEvent_answersKept {r s : State} (h : Keeps r s) (env) : AnswersKept r (execWakeEvent env s) := by
  dsimp only [execWakeEvent]
  repeat' split
  exacts [h, State.put_keeps h _ _, State.put_keeps h _ _,
    fireHeld_keeps (evalProfile_keeps (settSend_keeps (fullWake_keeps (wakeUp_keeps h _ _)).beside _ _ _ _ _) _),
    fireHeld_keeps (evalProfile_keeps (fullWake_keeps (wakeUp_keeps h _ _)) _), h, h, h, h, h]

theorem execInternalWake_answersKept {r s : State} (h : Keeps r s) (env) : AnswersKept r (execInternalWake env s) := by
  dsimp only [execInternalWake]
  repeat' split
  exacts [wakeUp_keeps h _ _, h, h]

theorem execVbatFailDeassert_answersKept {r s : State} (h : Keeps r s) (vbat us) : AnswersKept r (execVbatFailDeassert vbat us s) := by
  unfold execVbatFailDeassert
  extract_lets _ _ ended cleared reopened
  have ho : Keeps r ended := (setVbat_keeps h _).beside
  have hc : Keeps r cleared := State.setBit_keeps ho _ _
  have hw := latchWake_keeps (raise_keeps (State.setBit_keeps hc Reg.PWR_EVT_RECOV true) 0x0402 vbat) 9
  have hr : Keeps r reopened := relevel_keeps (ledgerReopen_keeps hc)
  refine AnswersKept.ite h ?_
  have hi : AnswersKept r (if s.powAon.inheritedFail then .next (relevel (if cleared.isHead ∧ cleared.bit Reg.PWR_BOOT_STAT_DONE ∧
      cleared.led.opened = false then ledgerAccept cleared else cleared)) else .next (storeRecover (raise 0x0402 vbat
        (reopened.setBit Reg.PWR_EVT_RECOV true)))) :=
    AnswersKept.ite (relevel_keeps (Keeps.ite (ledgerAccept_keeps hc) hc)) (storeRecover_keeps (raise_keeps (State.setBit_keeps hr _ _) _ _))
  split
  exacts [ho, hw, hw, hi, hi, hi]

/-! ### Bus -/

theorem execIgnitionFrame_answersKept {r s : State} (h : Keeps r s) (f) : AnswersKept r (execIgnitionFrame f s) := by
  dsimp only [execIgnitionFrame]
  repeat' split
  exacts [h, h, awake_keeps (enter_keeps h.beside _ _), ignitionChange_keeps (awake_keeps (enter_keeps h.beside _ _)) _]

theorem execIgnitionTimeout_answersKept {r s : State} (h : Keeps r s) : AnswersKept r (execIgnitionTimeout s) := by
  dsimp only [execIgnitionTimeout]
  repeat' split
  exacts [raise_keeps h.beside _ _, h, raise_keeps h.beside _ _, h, h]

theorem execCanFrameTransmit_answersKept {r s : State} (h : Keeps r s) (turn) : AnswersKept r (execCanFrameTransmit turn s) := by
  dsimp only [execCanFrameTransmit]
  repeat' split
  exacts [h, errorCounts_keeps h _ _, errorCounts_keeps h _ _, errorCounts_keeps h _ _, h, goBusOff_keeps h, errorCounts_keeps h _ _, h,
    frameSent_keeps (errorCounts_keeps (popQueue_keeps h _ _ _ ‹_›) _ _) _]

theorem execBusOff_answersKept {r s : State} (h : Keeps r s) : AnswersKept r (execBusOff s) := by
  dsimp only [execBusOff]
  repeat' split
  exacts [h, goBusOff_keeps h]

theorem execBusOffRecovery_answersKept {r s : State} (h : Keeps r s) : AnswersKept r (execBusOffRecovery s) := by
  dsimp only [execBusOffRecovery]
  repeat' split
  exacts [State.put_keeps (State.put_keeps (State.setBit_keeps (State.setBit_keeps h.beside _ _) _ _) _ _) _ _, h]

theorem execBusOffLong_answersKept {r s : State} (h : Keeps r s) : AnswersKept r (execBusOffLong s) := by
  dsimp only [execBusOffLong]
  repeat' split
  exacts [h, raise_keeps h.beside _ _, h]

theorem execJ1939AddressClaim_answersKept {r s : State} (h : Keeps r s) (claim) : AnswersKept r (execJ1939AddressClaim claim s) := by
  dsimp only [execJ1939AddressClaim]
  repeat' split
  exacts [h, h, State.setBit_keeps (canSend_keeps h _ _) _ _, canSend_keeps h _ _,
    raise_keeps (State.setBit_keeps (State.setBit_keeps (canSend_keeps (clearQueue_keeps h _) _ _) _ _) _ _) _ _]

theorem execCanWakePattern_answersKept {r s : State} (h : Keeps r s) (phase span) : AnswersKept r (execCanWakePattern phase span s) := by
  dsimp only [execCanWakePattern]
  repeat' split
  exacts [h, busWakes_keeps h.beside _, h.beside]

theorem execWakeFrame_answersKept {r s : State} (h : Keeps r s) (f) : AnswersKept r (execWakeFrame f s) := by
  dsimp only [execWakeFrame]
  repeat' split
  exacts [busWakes_keeps h _, h]

theorem execSelectiveWakeErrors_answersKept {r s : State} (h : Keeps r s) (n) : AnswersKept r (execSelectiveWakeErrors n s) := by
  dsimp only [execSelectiveWakeErrors]
  repeat' split
  exacts [h, h.beside, raise_keeps (busWakes_keeps h.beside _) _ _]

theorem execRingMessage_answersKept {r s : State} (h : Keeps r s) (f) : AnswersKept r (execRingMessage f s) := by
  unfold execRingMessage
  split
  · exact h
  · exact h
  · split
    · exact h
    · refine AnswersKept.ite h ?_
      extract_lets woken joined judged mine _ noted checked
      have hw : Keeps r woken := awake_keeps (enter_keeps h _ _)
      have hj : Keeps r joined := Keeps.ite (State.put_keeps hw _ _) hw
      have hv : Keeps r judged := Keeps.ite (overruleEnd_keeps hj) hj
      have hn : Keeps r noted := hv.beside
      have hc : Keeps r checked := soleCheck_keeps (roundHeard_keeps (State.put_keeps hn _ _) _ _) _ _
      exact Keeps.ite (ringCommit_keeps hc) hc

theorem execRingTurn_answersKept {r s : State} (h : Keeps r s) : AnswersKept r (execRingTurn s) := by
  dsimp only [execRingTurn]
  repeat' split
  exacts [ringTurn_keeps (awake_keeps h) _, h, h]

theorem execRingSuccessorTimeout_answersKept {r s : State} (h : Keeps r s) : AnswersKept r (execRingSuccessorTimeout s) := by
  dsimp only [execRingSuccessorTimeout]
  repeat' split
  exacts [ringSay_keeps (awake_keeps (State.put_keeps h _ _)) _ _, ringSay_keeps (awake_keeps (State.put_keeps h _ _)) _ _, h, h]

theorem execRingStartTimeout_answersKept {r s : State} (h : Keeps r s) : AnswersKept r (execRingStartTimeout s) := by
  dsimp only [execRingStartTimeout]
  repeat' split
  exacts [h, ringSay_keeps (awake_keeps h.beside) _ _, ringSay_keeps (awake_keeps h.beside) _ _, h]

theorem execRingOverrule_answersKept {r s : State} (h : Keeps r s) : AnswersKept r (execRingOverrule s) := by
  dsimp only [execRingOverrule]
  repeat' split
  exacts [State.count_keeps (State.put_keeps h _ _) _ _, h, h]

theorem execRingWakeEvent_answersKept {r s : State} (h : Keeps r s) : AnswersKept r (execRingWakeEvent s) := by
  dsimp only [execRingWakeEvent]
  repeat' split
  exacts [h, ringNotReady_keeps (awake_keeps h) _ _, h]

/-! ### Retained -/

theorem execWindowBufferTimeout_answersKept {r s : State} (h : Keeps r s) : AnswersKept r (execWindowBufferTimeout s) := by
  dsimp only [execWindowBufferTimeout]
  repeat' split
  exacts [windowEmpty_keeps h _, h]

theorem execCommitGroupSubmit_answersKept {r s : State} (h : Keeps r s) (e cls writes) : AnswersKept r (execCommitGroupSubmit e cls writes s) := by
  dsimp only [execCommitGroupSubmit]
  repeat' split
  exacts [h, submitGroup_keeps h _ _]

theorem execTallySetEraseDone_answersKept {r s : State} (h : Keeps r s) (c) : AnswersKept r (execTallySetEraseDone c s) := by
  dsimp only [execTallySetEraseDone]
  repeat' split
  exacts [tallyStart_keeps (State.setTally_keeps h.beside _ _), State.setTally_keeps h.beside _ _, h]

/-! ### Diag -/

theorem execIsoTpFrame_answersKept {r s : State} (h : Keeps r s) (f) : AnswersKept r (execIsoTpFrame f s) := by
  dsimp only [execIsoTpFrame]
  repeat' split
  exacts [h, h, singleFrame_keeps (awake_keeps (enter_keeps h _ _)) _ _, firstFrame_keeps (awake_keeps (enter_keeps h _ _)) _,
    consecutiveFrame_keeps (awake_keeps (enter_keeps h _ _)) _, flowControl_keeps (awake_keeps (enter_keeps h _ _)) _,
    awake_keeps (enter_keeps h _ _)]

theorem execNcrTimeout_answersKept {r s : State} (h : Keeps r s) : AnswersKept r (execNcrTimeout s) := by
  dsimp only [execNcrTimeout]
  repeat' split
  exacts [h, rxAbandon_keeps h, h]

theorem execNbsTimeout_answersKept {r s : State} (h : Keeps r s) : AnswersKept r (execNbsTimeout s) := by
  dsimp only [execNbsTimeout]
  repeat' split
  exacts [h, diagSettle_keeps h.beside, h]

theorem execS3Timeout_answersKept {r s : State} (h : Keeps r s) : AnswersKept r (execS3Timeout s) := by
  dsimp only [execS3Timeout]
  repeat' split
  exacts [diagSettle_keeps (sessionTo_keeps h _), h]

theorem execDiagnosticSessionControl_answersKept {r s : State} (h : Keeps r s) : AnswersKept r (execDiagnosticSessionControl s) :=
  diagServe_keeps h _ (fun _ _ _ k => diagPosUnless_keeps (sessionTo_keeps k _) _ _ _)

theorem execEcuReset_answersKept {r s : State} (h : Keeps r s) : AnswersKept r (execEcuReset s) := by
  dsimp only [execEcuReset]
  repeat' split
  exacts [restartOnly_keeps h.beside _, diagServe_keeps h _ (fun _ _ _ k => (restartOnly_keeps (diagPosUnless_keeps k _ _ _) _).beside)]

theorem execTesterPresent_answersKept {r s : State} (h : Keeps r s) : AnswersKept r (execTesterPresent s) :=
  diagServe_keeps h _ (fun _ _ _ k => diagPosUnless_keeps k _ _ _)

theorem execReadDataByIdentifier_answersKept {r s : State} (h : Keeps r s) : AnswersKept r (execReadDataByIdentifier s) :=
  diagServe_keeps h _ (fun _ _ _ k => diagPos_keeps k _ _)

theorem execReadMemoryByAddress_answersKept {r s : State} (h : Keeps r s) : AnswersKept r (execReadMemoryByAddress s) := by
  refine diagServe_keeps h _ fun _ _ _ k => ?_
  repeat' split
  exacts [diagPos_keeps ((fabReadN_keeps k _ _ _ _).third ‹_›) _ _, diagRefused_keeps ((fabReadN_keeps k _ _ _ _).third ‹_›) _ _]

theorem execWriteMemoryByAddress_answersKept {r s : State} (h : Keeps r s) : AnswersKept r (execWriteMemoryByAddress s) := by
  refine diagServe_keeps h _ fun _ _ _ k => ?_
  repeat' split
  exacts [diagPos_keeps ((fabWriteN_keeps k _ _ _ _).snd ‹_›) _ _, diagRefused_keeps ((fabWriteN_keeps k _ _ _ _).snd ‹_›) _ _]

theorem execSecurityAccessSeed_answersKept {r s : State} (h : Keeps r s) : AnswersKept r (execSecurityAccessSeed s) := by
  refine diagServeRand_keeps h _ fun _ _ k => ?_
  dsimp only
  repeat' split
  exacts [diagNeg_keeps k _ _, diagPos_keeps ((randReq_keeps k _ _).snd ‹_›).beside _ _, diagNeg_keeps ((randReq_keeps k _ _).snd ‹_›) _ _,
    (randReq_keeps k _ _).snd ‹_›]

theorem execSecurityAccessKey_answersKept {r s : State} (h : Keeps r s) : AnswersKept r (execSecurityAccessKey s) := by
  refine diagServe_keeps h _ fun _ _ _ k => ?_
  dsimp only
  repeat' split
  exacts [diagNeg_keeps k _ _, diagNeg_keeps k _ _, diagPos_keeps ((securityKey_keeps k _ _).snd ‹_›).beside _ _,
    securityFailed_keeps ((securityKey_keeps k _ _).snd ‹_›)]

theorem execSecurityDelayExpiry_answersKept {r s : State} (h : Keeps r s) : AnswersKept r (execSecurityDelayExpiry s) := by
  dsimp only [execSecurityDelayExpiry]
  repeat' split
  exacts [h, h.beside, h]

theorem execRequestDownload_answersKept {r s : State} (h : Keeps r s) : AnswersKept r (execRequestDownload s) := by
  refine diagServe_keeps h _ fun _ _ _ k => ?_
  dsimp only
  repeat' split
  exacts [diagNeg_keeps k _ _, ((submitGroup_keeps k _ _).snd ‹_›).beside, diagNeg_keeps ((submitGroup_keeps k _ _).snd ‹_›) _ _]

theorem execTransferData_answersKept {r s : State} (h : Keeps r s) : AnswersKept r (execTransferData s) :=
  diagServe_keeps h _ (fun _ _ _ k => transferBlock_keeps k _)

theorem execRequestTransferExit_answersKept {r s : State} (h : Keeps r s) (held) : AnswersKept r (execRequestTransferExit held s) := by
  refine diagServe_keeps h _ fun _ _ _ k => ?_
  dsimp only
  repeat' split
  exacts [diagNeg_keeps k _ _, diagNeg_keeps k _ _, downloadEnd_keeps k _ _, diagPos_keeps (State.setBit_keeps k.beside _ _) _ _]

theorem execRequestUpload_answersKept {r s : State} (h : Keeps r s) : AnswersKept r (execRequestUpload s) := by
  refine diagServe_keeps h _ fun _ _ _ k => ?_
  dsimp only
  repeat' split
  exacts [diagNeg_keeps k _ _, exportBegin_keeps k _, diagNeg_keeps k _ _, diagNeg_keeps k _ _, diagNeg_keeps k _ _,
    exportBegin_keeps (readRecs_keeps (sectorProgram_keeps k) _ _) _]

/-! ### Routines -/

theorem execConfirmImage_answersKept {r s : State} (h : Keeps r s) : AnswersKept r (execConfirmImage s) := by
  refine routineServe_keeps h _ fun _ _ _ k => ?_
  dsimp only
  repeat' split
  exacts [diagNeg_keeps k _ _, diagNeg_keeps k _ _, ((confirmBegin_keeps k _).snd ‹_›).beside, diagNeg_keeps ((confirmBegin_keeps k _).snd ‹_›) _ _]

theorem execEnrolFob_answersKept {r s : State} (h : Keeps r s) : AnswersKept r (execEnrolFob s) := by
  refine routineServe_keeps h _ fun _ _ _ k => ?_
  dsimp only
  repeat' split
  exacts [diagNeg_keeps k _ _, diagNeg_keeps k _ _, diagNeg_keeps (enrolStart_keeps k _ _ _ _ _ ‹_›).beside _ _]

theorem execBarFob_answersKept {r s : State} (h : Keeps r s) : AnswersKept r (execBarFob s) := by
  refine diagServe_keeps h _ fun _ _ _ k => ?_
  dsimp only
  repeat' split
  exacts [diagNeg_keeps k _ _, fobRewrite_keeps k _ _ _ _]

theorem execUnbarFob_answersKept {r s : State} (h : Keeps r s) : AnswersKept r (execUnbarFob s) := by
  refine diagServe_keeps h _ fun _ _ _ k => ?_
  dsimp only
  repeat' split
  exacts [diagNeg_keeps k _ _, fobRewrite_keeps (freeBytes_keeps k _) _ _ _ _]

theorem execEmptyFobRecord_answersKept {r s : State} (h : Keeps r s) : AnswersKept r (execEmptyFobRecord s) :=
  routineServe_keeps h _ (fun _ _ _ k => fobRewrite_keeps k _ _ _ _)

theorem execClearCounters_answersKept {r s : State} (h : Keeps r s) : AnswersKept r (execClearCounters s) :=
  routineServe_keeps h _ (fun _ _ _ k => routineOk_keeps (State.put_keeps (State.put_keeps (foldl_keeps _ (fun _ _ k => clearWrite_keeps k _ _) _ k)
    _ _) _ _) _ _)

theorem execCoilTestRoutine_answersKept {r s : State} (h : Keeps r s) (remote) : AnswersKept r (execCoilTestRoutine remote s) := by
  refine routineServe_keeps h _ fun _ _ _ k => ?_
  dsimp only
  repeat' split
  exacts [diagNeg_keeps ((askTests_keeps k _ _ _).snd ‹_›).beside _ _, diagNeg_keeps ((askTests_keeps k _ _ _).snd ‹_›) _ _, diagNeg_keeps k _ _,
    routineOk_keeps k _ _]

theorem execSetTime_answersKept {r s : State} (h : Keeps r s) : AnswersKept r (execSetTime s) := by
  refine routineServe_keeps h _ fun _ _ _ k => ?_
  repeat' split
  exacts [diagNeg_keeps k _ _, diagNeg_keeps k _ _, routineOk_keeps (applyTimeSet_keeps k _ _) _ _]

theorem execFormatLedger_answersKept {r s : State} (h : Keeps r s) : AnswersKept r (execFormatLedger s) :=
  routineServe_keeps h _ (fun _ _ _ k => Keeps.ite (diagNeg_keeps k _ _) (formatNow_keeps k))

theorem execVerifyLedger_answersKept {r s : State} (h : Keeps r s) : AnswersKept r (execVerifyLedger s) := by
  refine routineServe_keeps h _ fun _ _ _ k => ?_
  dsimp only
  repeat' split
  exacts [diagNeg_keeps k _ _, diagNeg_keeps k _ _, diagNeg_keeps k _ _, routineOk_keeps k _ _]

theorem execAttestSlot3_answersKept {r s : State} (h : Keeps r s) : AnswersKept r (execAttestSlot3 s) := by
  refine diagServeRand_keeps h _ fun _ _ k => ?_
  dsimp only
  repeat' split
  exacts [diagNeg_keeps ((keyCheck_keeps k _ _ _ _ _ _).snd ‹_›) _ _, diagNeg_keeps (slotSweep_keeps ((keyCheck_keeps k _ _ _ _ _ _).snd ‹_›) _) _ _,
    routineOk_keeps ((attest_keeps ((keyCheck_keeps k _ _ _ _ _ _).snd ‹_›) _ _).snd ‹_›) _ _,
    diagNeg_keeps ((attest_keeps ((keyCheck_keeps k _ _ _ _ _ _).snd ‹_›) _ _).snd ‹_›) _ _,
    (attest_keeps ((keyCheck_keeps k _ _ _ _ _ _).snd ‹_›) _ _).snd ‹_›]

/-! ### SettChain -/

theorem execEnumFrame_answersKept {r s : State} (h : Keeps r s) (f aborted) : AnswersKept r (execEnumFrame f aborted s) :=
  settRx_keeps h _ _ _ (fun _ _ _ k => Keeps.ite (enumTake_keeps k _) k)

theorem execEnumAck_answersKept {r s : State} (h : Keeps r s) (f aborted time) : AnswersKept r (execEnumAck f aborted time s) := by
  dsimp only [execEnumAck]
  repeat' split
  exacts [State.setBit_keeps (State.setBit_keeps (settRx_keeps h _ _ _ (fun _ _ _ k => Keeps.ite (ackTake_keeps k _ _ _) k)).beside _ _) _ _,
    settRx_keeps h _ _ _ (fun _ _ _ k => Keeps.ite (ackTake_keeps k _ _ _) k)]

theorem execEnumAckTimeout_answersKept {r s : State} (h : Keeps r s) : AnswersKept r (execEnumAckTimeout s) := by
  dsimp only [execEnumAckTimeout]
  repeat' split
  exacts [h, h, enumEnd_keeps h, State.setBit_keeps (State.setBit_keeps h.beside _ _) _ _]

theorem execChainReady_answersKept {r s : State} (h : Keeps r s) (f aborted) : AnswersKept r (execChainReady f aborted s) :=
  settRx_keeps h _ _ _ (fun _ _ _ k => readyTake_keeps k _ _)

theorem execEpochEffect_answersKept {r s : State} (h : Keeps r s) : AnswersKept r (execEpochEffect s) := by
  dsimp only [execEpochEffect]
  repeat' split
  exacts [epochTake_keeps h _, h, h]

theorem execEpochRenew_answersKept {r s : State} (h : Keeps r s) : AnswersKept r (execEpochRenew s) := by
  dsimp only [execEpochRenew]
  repeat' split
  exacts [h, imageOffer_keeps (settSend_keeps ((randBytes_keeps h _ _).snd ‹_›).beside _ _ _ _ _), (randBytes_keeps h _ _).snd ‹_›]

theorem execHeartbeat_answersKept {r s : State} (h : Keeps r s) (f aborted) : AnswersKept r (execHeartbeat f aborted s) :=
  settRx_keeps h _ _ _ (fun _ _ _ k => actingSeen_keeps k _)

theorem execHeartbeatPeriod_answersKept {r s : State} (h : Keeps r s) : AnswersKept r (execHeartbeatPeriod s) := by
  dsimp only [execHeartbeatPeriod]
  repeat' split
  exacts [settSend_keeps h _ _ _ _ _, h]

theorem execTimeSync_answersKept {r s : State} (h : Keeps r s) (f aborted phase) : AnswersKept r (execTimeSync f aborted phase s) :=
  settRx_keeps h _ _ _ (fun _ _ _ k => Keeps.ite k (timeTake_keeps (actingSeen_keeps (State.setBit_keeps (State.wr_keeps k _ _) _ _) _) _ _))

theorem execTimeSyncPeriod_answersKept {r s : State} (h : Keeps r s) : AnswersKept r (execTimeSyncPeriod s) := by
  dsimp only [execTimeSyncPeriod]
  repeat' split
  exacts [settSend_keeps h.beside _ _ _ _ _, h, settSend_keeps h.beside _ _ _ _ _, h]

theorem execDelayReqPeriod_answersKept {r s : State} (h : Keeps r s) (fwd) : AnswersKept r (execDelayReqPeriod fwd s) := by
  dsimp only [execDelayReqPeriod]
  repeat' split
  exacts [h, segmentLost_keeps h, settSend_keeps h.beside _ _ _ _ _]

theorem execDelayReq_answersKept {r s : State} (h : Keeps r s) (f aborted t2 t3) : AnswersKept r (execDelayReq f aborted t2 t3 s) :=
  settRx_keeps h _ _ _ (fun _ _ _ k => settSend_keeps (State.setBit_keeps (delayRegs_keeps k.beside) _ _) _ _ _ _ _)

theorem execDelayResp_answersKept {r s : State} (h : Keeps r s) (f aborted t4) : AnswersKept r (execDelayResp f aborted t4 s) :=
  settRx_keeps h _ _ _ (fun _ _ _ k => State.setBit_keeps k.beside _ _)

/-! ### SettLink -/

theorem execImageOffer_answersKept {r s : State} (h : Keeps r s) (f aborted) : AnswersKept r (execImageOffer f aborted s) :=
  settRx_keeps h _ _ _ (fun _ _ _ k => offerTake_keeps k _)

theorem execImageData_answersKept {r s : State} (h : Keeps r s) (f aborted) : AnswersKept r (execImageData f aborted s) :=
  settRx_keeps h _ _ _ (fun _ _ _ k => dataTake_keeps k _)

theorem execImageNakWindowEnd_answersKept {r s : State} (h : Keeps r s) : AnswersKept r (execImageNakWindowEnd s) := by
  dsimp only [execImageNakWindowEnd]
  repeat' split
  exacts [h, h, settSend_keeps h.beside _ _ _ _ _]

theorem execImageNak_answersKept {r s : State} (h : Keeps r s) (f aborted) : AnswersKept r (execImageNak f aborted s) :=
  settRx_keeps h _ _ _ (fun _ _ _ k => Keeps.ite k k.beside)

theorem execImageConfirm_answersKept {r s : State} (h : Keeps r s) (f aborted) : AnswersKept r (execImageConfirm f aborted s) :=
  settRx_keeps h _ _ _ (fun _ _ _ k => confirmTake_keeps k _ _)

theorem execArbRaise_answersKept {r s : State} (h : Keeps r s) (f aborted) : AnswersKept r (execArbRaise f aborted s) :=
  settRx_keeps h _ _ _ (fun _ _ _ k => Keeps.ite k (raiseArb_keeps k.beside _))

theorem execProfileFrame_answersKept {r s : State} (h : Keeps r s) (f aborted) : AnswersKept r (execProfileFrame f aborted s) :=
  settRx_keeps h _ _ _ (fun _ _ _ k => profileTake_keeps k _)

theorem execProfileRebroadcast_answersKept {r s : State} (h : Keeps r s) : AnswersKept r (execProfileRebroadcast s) := by
  dsimp only [execProfileRebroadcast]
  repeat' split
  exacts [settSend_keeps h.beside _ _ _ _ _, h]

theorem execOverhearPlan_answersKept {r s : State} (h : Keeps r s) (f aborted) : AnswersKept r (execOverhearPlan f aborted s) :=
  settRx_keeps h _ _ _ (fun _ _ _ k => planTake_keeps k _)

theorem execOverhearReport_answersKept {r s : State} (h : Keeps r s) (f aborted) : AnswersKept r (execOverhearReport f aborted s) :=
  settRx_keeps h _ _ _ (fun _ _ _ k => Keeps.ite (reportTake_keeps k _ _) k)

theorem execSettRequest_answersKept {r s : State} (h : Keeps r s) (f aborted) : AnswersKept r (execSettRequest f aborted s) :=
  settRx_keeps h _ _ _ (fun _ _ _ k => requestTake_keeps k _ _)

theorem execSettResponse_answersKept {r s : State} (h : Keeps r s) (f aborted) : AnswersKept r (execSettResponse f aborted s) :=
  settRx_keeps h _ _ _ (fun _ _ _ k => Keeps.ite (responseTake_keeps k _ _) k)

theorem execLedgerRec_answersKept {r s : State} (h : Keeps r s) (f aborted) : AnswersKept r (execLedgerRec f aborted s) :=
  settRx_keeps h _ _ _ (fun _ _ _ k => recTake_keeps k _ _)

theorem execFaultReport_answersKept {r s : State} (h : Keeps r s) (f aborted) : AnswersKept r (execFaultReport f aborted s) :=
  settRx_keeps h _ _ _ (fun _ _ _ k => Keeps.ite (Keeps.ite (dropBeyond_keeps (faultFrom_keeps k _ _) _) (faultFrom_keeps k _ _)) k)

theorem execRetxFrame_answersKept {r s : State} (h : Keeps r s) (f aborted) : AnswersKept r (execRetxFrame f aborted s) :=
  settRx_keeps h _ _ _ (fun _ _ _ k => Keeps.ite (retxTake_keeps k _ _) k)

theorem execAbsentFrame_answersKept {r s : State} (h : Keeps r s) (f aborted) : AnswersKept r (execAbsentFrame f aborted s) :=
  settRx_keeps h _ _ _ (fun _ _ _ k => Keeps.ite (absentTake_keeps k _ _) k)

theorem execStoredFrameForward_answersKept {r s : State} (h : Keeps r s) (down) : AnswersKept r (execStoredFrameForward down s) := by
  dsimp only [execStoredFrameForward]
  repeat' split
  exacts [h, h, storedLeave_keeps h _ _]

theorem execFobCopy_answersKept {r s : State} (h : Keeps r s) (f aborted) : AnswersKept r (execFobCopy f aborted s) :=
  settRx_keeps h _ _ _ (fun _ _ _ k => Keeps.ite (fobPageCheck_keeps k.beside _ _) k)

/-! ### SettSplice -/

theorem execHeadSilenceTimeout_answersKept {r s : State} (h : Keeps r s) (upLost) : AnswersKept r (execHeadSilenceTimeout upLost s) := by
  dsimp only [execHeadSilenceTimeout]
  repeat' split
  exacts [h, actingBegin_keeps h.beside, actingBegin_keeps h, h.beside, h, headLost_keeps h.beside _, headLost_keeps h _, h]

theorem execIdlePatternDetect_answersKept {r s : State} (h : Keeps r s) : AnswersKept r (execIdlePatternDetect s) := by
  dsimp only [execIdlePatternDetect]
  repeat' split
  exacts [busWakes_keeps h _, h, settSend0_keeps (spliceEndNow_keeps ((randBytes_keeps h _ _).snd ‹_›)).beside _ _ _ _ _,
    (randBytes_keeps h _ _).snd ‹_›]

theorem execSpliceProbe_answersKept {r s : State} (h : Keeps r s) (f aborted) : AnswersKept r (execSpliceProbe f aborted s) :=
  settRx_keeps h _ _ _ (fun _ _ _ k => Keeps.ite (probeTake_keeps k _ _) k)

theorem execSpliceReply_answersKept {r s : State} (h : Keeps r s) (f aborted) : AnswersKept r (execSpliceReply f aborted s) :=
  settRx_keeps h _ _ _ (fun _ _ _ k => Keeps.ite (replyTake_keeps k _ _) k)

theorem execSpliceCollectEnd_answersKept {r s : State} (h : Keeps r s) : AnswersKept r (execSpliceCollectEnd s) := by
  dsimp only [execSpliceCollectEnd]
  repeat' split
  exacts [h, h, spliceOver_keeps h.beside _, spliceServe_keeps h.beside _ _ _, settSend_keeps h.beside _ _ _ _ _]

theorem execSpliceReport_answersKept {r s : State} (h : Keeps r s) (f aborted) : AnswersKept r (execSpliceReport f aborted s) :=
  settRx_keeps h _ _ _ (fun _ _ _ k => Keeps.ite (spliceServe_keeps k _ _ _) k)

theorem execSpliceAssign_answersKept {r s : State} (h : Keeps r s) (f aborted) : AnswersKept r (execSpliceAssign f aborted s) :=
  settRx_keeps h _ _ _ (fun _ _ _ k => Keeps.ite (assignFrame_keeps k _ _) k)

theorem execJoinFrame_answersKept {r s : State} (h : Keeps r s) (f aborted) : AnswersKept r (execJoinFrame f aborted s) := by
  dsimp only [execJoinFrame]
  repeat' split
  exacts [spliceOver_keeps (settRx_keeps h _ _ _ (fun _ _ _ k => Keeps.ite (joinTake_keeps k _) k)) _,
    settRx_keeps h _ _ _ (fun _ _ _ k => Keeps.ite (joinTake_keeps k _) k)]

theorem execConvergeTimeout_answersKept {r s : State} (h : Keeps r s) : AnswersKept r (execConvergeTimeout s) := by
  dsimp only [execConvergeTimeout]
  repeat' split
  exacts [h, h, raise_keeps h.beside _ _]

/-! ### Writes -/

theorem execRetainedWindowWrite_answersKept {r s : State} (h : Keeps r s) (m off w v) : AnswersKept r (execRetainedWindowWrite m off w v s) :=
  fabAnswer_keeps _ (fabWrite_keeps h _ _ _ _)

theorem execTallyIncrement_answersKept {r s : State} (h : Keeps r s) (by_ cls c) : AnswersKept r (execTallyIncrement by_ cls c s) := by
  dsimp only [execTallyIncrement]
  repeat' split
  exacts [wordWrite_answersKept h _ _ _, engineTally_keeps h _ _ _ _]

theorem execTallyRaise_answersKept {r s : State} (h : Keeps r s) (by_ cls c v) : AnswersKept r (execTallyRaise by_ cls c v s) := by
  dsimp only [execTallyRaise]
  repeat' split
  exacts [wordWrite_answersKept ((fabWrite_keeps h _ _ _ _).snd ‹_›) _ _ _, fabAnswer_keeps _ (fabWrite_keeps h _ _ _ _),
    engineTally_keeps h _ _ _ _]

theorem execEntRandRead_answersKept {r s : State} (h : Keeps r s) (m) : AnswersKept r (execEntRandRead m s) := by
  dsimp only [execEntRandRead]
  repeat' split
  exacts [randRead_keeps ((fabCheck_keeps h _ _ _ _).third ‹_›) _, fabAnswer_keeps _ ((fabCheck_keeps h _ _ _ _).third ‹_›)]

theorem execEntRawRead_answersKept {r s : State} (h : Keeps r s) (m) : AnswersKept r (execEntRawRead m s) :=
  answerTo_keeps (fabRead_keeps h _ _ _) _ _ _

theorem execTagMemWrite_answersKept {r s : State} (h : Keeps r s) (m off w v) : AnswersKept r (execTagMemWrite m off w v s) :=
  fabAnswer_keeps _ (fabWrite_keeps h _ _ _ _)

/-! ### Complete -/

theorem execPageProgramDone_answersKept {r s : State} (h : Keeps r s) (ok) : AnswersKept r (execPageProgramDone ok s) := by
  dsimp only [execPageProgramDone]
  repeat' split
  exacts [h, h, h, pageDone_keeps h _ _ _, reprogram_keeps h _, groupEnd_keeps h _ _]

theorem execMarkerProgramDone_answersKept {r s : State} (h : Keeps r s) (ok) : AnswersKept r (execMarkerProgramDone ok s) := by
  dsimp only [execMarkerProgramDone]
  repeat' split
  exacts [h, h, groupEnd_keeps h _ _, reprogram_keeps h _, groupEnd_keeps h _ _]

theorem execTallyCellDone_answersKept {r s : State} (h : Keeps r s) : AnswersKept r (execTallyCellDone s) := by
  dsimp only [execTallyCellDone]
  repeat' split
  exacts [h, h, cellOver_keeps h _, h, tallyOver_keeps h _ _, tallyOver_keeps h _ _, h, h, h, h]

/-! ### HostPort -/

theorem execHostReadWords_answersKept {r s : State} (h : Keeps r s) (bits) : AnswersKept r (execHostReadWords bits s) := by
  refine hostServe_keeps h _ _ fun _ _ k => ?_
  repeat' split
  exacts [hostAnswer_keeps ((fabReadN_keeps k _ _ _ _).third ‹_›) _ _, hostStatus_keeps ((fabReadN_keeps k _ _ _ _).third ‹_›) _ _]

theorem execHostWriteWords_answersKept {r s : State} (h : Keeps r s) (bits) : AnswersKept r (execHostWriteWords bits s) :=
  hostServe_keeps h _ _ (fun _ _ k => hostStatus_keeps (fabWriteN_keeps k _ _ _ _) _ _)

theorem execHostLedgerRead_answersKept {r s : State} (h : Keeps r s) (bits) : AnswersKept r (execHostLedgerRead bits s) := by
  refine hostServe_keeps h _ _ fun _ _ k => ?_
  dsimp only
  repeat' split
  exacts [hostAnswer_keeps (readRecs_keeps (sectorProgram_keeps ((fabCheck_keeps k _ _ _ _).third ‹_›)) _ _) _ _,
    hostStatus_keeps ((fabCheck_keeps k _ _ _ _).third ‹_›) _ _]

theorem execHostCsAbort_answersKept {r s : State} (h : Keeps r s) (bits) : AnswersKept r (execHostCsAbort bits s) := by
  dsimp only [execHostCsAbort]
  repeat' split
  exacts [h, hostFrameError_keeps (State.count_keeps (awake_keeps h) _ _), fabWriteN_keeps (State.count_keeps (awake_keeps h) _ _) _ _ _ _,
    State.count_keeps (awake_keeps h) _ _]

/-! ### Shared -/

theorem execRegisterWrite_answersKept {r s : State} (h : Keeps r s) (m a w v) : AnswersKept r (execRegisterWrite m a w v s) :=
  fabAnswer_keeps _ (fabWrite_keeps h _ _ _ _)

theorem execQueueRequestArrival_answersKept {r s : State} (h : Keeps r s) (q cls m w) : AnswersKept r (execQueueRequestArrival q cls m w s) :=
  (enqueue_keeps h _ _ _ _).beside

theorem execCellPreempt_answersKept {r s : State} (h : Keeps r s) (c) : AnswersKept r (execCellPreempt c s) := by
  dsimp only [execCellPreempt]
  repeat' split
  exacts [channelPreempt_keeps h _, lanePreempt_keeps h _, slotPreempt_keeps h _]

theorem execEscortRecompute_answersKept {r s : State} (h : Keeps r s) (b src cell held recs) : AnswersKept r (execEscortRecompute b src cell held
    recs s) := by
  dsimp only [execEscortRecompute]
  repeat' split
  exacts [escAnswer_keeps h _, escortRun_keeps h _ _ _]

/-! ### Every command -/

/-- Every command but a battery voltage beyond the ratings answers a next state, which has kept what its state had kept. -/
theorem exec_answersKept {r s : State} (h : Keeps r s) (c : Instr) (hc : ∀ vbat ms, c = .vbatOvervoltage vbat ms → ¬ beyondRatings vbat ms) :
    AnswersKept r (exec c s) := by
  cases c
  exacts [execRegisterWrite_answersKept h _ _ _ _, execQueueRequestArrival_answersKept h _ _ _ _, execCellPreempt_answersKept h _,
    execEscortRecompute_answersKept h _ _ _ _ _, execProfileEvaluate_answersKept h _, execAonpor_answersKept h, execSupplyReturn_answersKept h,
    execExtrst_answersKept h _, execDebugReset_answersKept h, execStartUp_answersKept h _, execTrialConfirmTimeout_answersKept h,
    execEnumFrame_answersKept h _ _, execEnumAck_answersKept h _ _ _, execEnumAckTimeout_answersKept h, execChainReady_answersKept h _ _,
    execEpochEffect_answersKept h, execEpochRenew_answersKept h, execHeartbeat_answersKept h _ _, execHeartbeatPeriod_answersKept h,
    execTimeSync_answersKept h _ _ _, execTimeSyncPeriod_answersKept h, execDelayReqPeriod_answersKept h _, execDelayReq_answersKept h _ _ _ _,
    execDelayResp_answersKept h _ _ _, execImageOffer_answersKept h _ _, execImageData_answersKept h _ _, execImageNakWindowEnd_answersKept h,
    execImageNak_answersKept h _ _, execImageConfirm_answersKept h _ _, execArbRaise_answersKept h _ _, execProfileFrame_answersKept h _ _,
    execProfileRebroadcast_answersKept h, execOverhearPlan_answersKept h _ _, execOverhearReport_answersKept h _ _, execSettRequest_answersKept h _ _,
    execSettResponse_answersKept h _ _, execLedgerRec_answersKept h _ _, execFaultReport_answersKept h _ _, execRetxFrame_answersKept h _ _,
    execAbsentFrame_answersKept h _ _, execStoredFrameForward_answersKept h _, execHeadSilenceTimeout_answersKept h _,
    execIdlePatternDetect_answersKept h, execSpliceProbe_answersKept h _ _, execSpliceReply_answersKept h _ _, execSpliceCollectEnd_answersKept h,
    execSpliceReport_answersKept h _ _, execSpliceAssign_answersKept h _ _, execJoinFrame_answersKept h _ _, execConvergeTimeout_answersKept h,
    execFobCopy_answersKept h _ _, execPollSlot_answersKept h _, execLfFrameStart_answersKept h _, execLfFrameEnd_answersKept h _ _,
    execBankIdleOff_answersKept h _, execBoostTimeout_answersKept h, execDriveInhibit_answersKept h _ _ _, execDriveAllow_answersKept h _ _ _,
    execInhibitLong_answersKept h, execBridgeShort_answersKept h _ _, execBridgeOvertemp_answersKept h _, execBridgeCool_answersKept h _,
    execCoilTest_answersKept h _, execCoilTest24h_answersKept h, execDisabledRetest_answersKept h _, execCoupledExchangeStart_answersKept h,
    execCtIdReceived_answersKept h _ _ _, execCtResponseReceived_answersKept h _ _ _, execCtReplyTimeout_answersKept h, execCtDriveCap_answersKept h,
    execLaneRequest_answersKept h _ _ _, execSynthLocked_answersKept h _ _ _, execLockCheckTimeout_answersKept h _, execLockLost_answersKept h _,
    execTxCommand_answersKept h _ _, execTxStart_answersKept h _, execTxLateDeadline_answersKept h _, execRxCommand_answersKept h _ _,
    execRxWindowEnd_answersKept h _, execLaneIdleSleep_answersKept h _, execLaneDomainOff_answersKept h _, execLaneTempSample_answersKept h _ _,
    execCalAgeExpiry_answersKept h _, execLoopback_answersKept h _ _, execSyncDetect_answersKept h _ _, execWakeReply_answersKept h _ _,
    execAirResponse_answersKept h _ _, execRangePoll_answersKept h _ _ _, execRangeReply_answersKept h _ _ _, execRangeReport_answersKept h _ _ _,
    execRangeReplyTimeout_answersKept h _, execRangeReportTimeout_answersKept h _, execRangingExchange_answersKept h _,
    execGuardSecondExchange_answersKept h _, execOverhearExchangeEnd_answersKept h _, execNoticeFrame_answersKept h _ _,
    execNctrCommitDone_answersKept h _, execServiceFrame_answersKept h _ _, execAckFrame_answersKept h _ _, execSessionTrigger_answersKept h,
    execReplyWindowClose_answersKept h, execResponseTimeout_answersKept h _, execSessionTimeout_answersKept h _, execBarExpiry_answersKept h _,
    execTrackerStale_answersKept h _, execTrackerForget_answersKept h _, execEnrolTimeout_answersKept h, execIgnitionWindowExpiry_answersKept h,
    execSesLfrunGo_answersKept h, execCrystalLost_answersKept h, execFllLock_answersKept h, execDegrClear_answersKept h,
    execFllLockTimeout_answersKept h, execBackupSwitch_answersKept h _, execCompSample_answersKept h _, execSetTime_answersKept h,
    execDeferredStep_answersKept h, tickIf_answersKept h _, tickIf_answersKept h _, tickIf_answersKept h _, wordWrite_answersKept h _ _ _,
    wordWrite_answersKept h _ _ _, tickIf_answersKept h _, tickIf_answersKept h _, execTimerCapture_answersKept h _ _,
    execMotionEdge_answersKept h _ _, execMotionGlitch_answersKept h, execSpeedZeroTimeout_answersKept h, execMotionStopped_answersKept h,
    execWaymarkEvaluate_answersKept h, execLedgerIngest_answersKept h _, execCheckpointSeal_answersKept h, execSectorAgeFlush_answersKept h,
    execNandProgramDone_answersKept h _, execLedgerOpen_answersKept h, execMirrorCopy_answersKept h, execSummaryHourly_answersKept h,
    execRetainedWindowWrite_answersKept h _ _ _ _, execWindowBufferTimeout_answersKept h, wordWrite_answersKept h _ _ _,
    wordWrite_answersKept h _ _ _, execCommitGroupSubmit_answersKept h _ _ _, execPageProgramDone_answersKept h _,
    execMarkerProgramDone_answersKept h _, execTallyIncrement_answersKept h _ _ _, execTallyRaise_answersKept h _ _ _ _,
    execTallyCellDone_answersKept h, execTallySetEraseDone_answersKept h _, denGo_answersKept h _ _ _, denGo_answersKept h _ _ _,
    denGo_answersKept h _ _ _, execImportPairExpiry_answersKept h, denGo_answersKept h _ _ _, denGo_answersKept h _ _ _, denGo_answersKept h _ _ _,
    denGo_answersKept h _ _ _, execLcNonceExpiry_answersKept h, denGo_answersKept h _ _ _, denGo_answersKept h _ _ _, execVltBufIdle_answersKept h,
    wordWrite_answersKept h _ _ _, execLegacyKeyGap_answersKept h, execProtectionRewrite_answersKept h, cryGo_answersKept h _ _ _ _ _,
    cryGo_answersKept h _ _ _ _ _, cryGo_answersKept h _ _ _ _ _, cryGo_answersKept h _ _ _ _ _, cryGo_answersKept h _ _ _ _ _,
    cryGo_answersKept h _ _ _ _ _, cryGo_answersKept h _ _ _ _ _, cryGo_answersKept h _ _ _ _ _, cryGo_answersKept h _ _ _ _ _,
    execCryBufIdle_answersKept h, execSymmetricStepPreempt_answersKept h, execEntRandRead_answersKept h _, execEntropyWaitTimeout_answersKept h,
    wordWrite_answersKept h _ _ _, execHealthWindowClose_answersKept h _, wordWrite_answersKept h _ _ _, wordWrite_answersKept h _ _ _,
    execEntRawRead_answersKept h _, execRawModeTimeout_answersKept h, execHealthTestFail_answersKept h _, execEntropySelfRestart_answersKept h,
    execFieldOn_answersKept h, execFieldLoss_answersKept h, execReqa_answersKept h, execWupa_answersKept h, execAnticollision_answersKept h _ _,
    execIsoSelect_answersKept h _ _, execRats_answersKept h, execPpsRequest_answersKept h _ _, execHlta_answersKept h, execDeselect_answersKept h,
    execApduSelect_answersKept h _ _, execAuthStep1_answersKept h _, execAuthStep2_answersKept h _, execReadLeaf_answersKept h _,
    execWriteLeaf_answersKept h _, execLockWtxExpiry_answersKept h, execTagCommit_answersKept h _ _, execFieldPageProgramDone_answersKept h _ _,
    execGetSummary_answersKept h _, execTagMemWrite_answersKept h _ _ _ _, wordWrite_answersKept h _ _ _, wordWrite_answersKept h _ _ _,
    execTagWiredHoldTimeout_answersKept h, execIgnitionFrame_answersKept h _, execIgnitionTimeout_answersKept h, execWakeFrame_answersKept h _,
    execCanWakePattern_answersKept h _ _, execCanFrameTransmit_answersKept h _, execBusOff_answersKept h, execBusOffRecovery_answersKept h,
    execBusOffLong_answersKept h, execJ1939AddressClaim_answersKept h _, execRingMessage_answersKept h _, execRingTurn_answersKept h,
    execRingSuccessorTimeout_answersKept h, execRingStartTimeout_answersKept h, execRingOverrule_answersKept h, execRingWakeEvent_answersKept h,
    execIsoTpFrame_answersKept h _, execNcrTimeout_answersKept h, execS3Timeout_answersKept h, execDiagnosticSessionControl_answersKept h,
    execEcuReset_answersKept h, execReadDataByIdentifier_answersKept h, execReadMemoryByAddress_answersKept h, execWriteMemoryByAddress_answersKept h,
    execSecurityAccessSeed_answersKept h, execSecurityAccessKey_answersKept h, execSecurityDelayExpiry_answersKept h,
    execRequestDownload_answersKept h, execTransferData_answersKept h, execRequestTransferExit_answersKept h _, execRequestUpload_answersKept h,
    execTesterPresent_answersKept h, execConfirmImage_answersKept h, execEnrolFob_answersKept h, execBarFob_answersKept h, execUnbarFob_answersKept h,
    execEmptyFobRecord_answersKept h, execClearCounters_answersKept h, execCoilTestRoutine_answersKept h _, execFormatLedger_answersKept h,
    execVerifyLedger_answersKept h, execAttestSlot3_answersKept h, execHostReadWords_answersKept h _, execHostWriteWords_answersKept h _,
    execHostLedgerRead_answersKept h _, execHostCsAbort_answersKept h _, execTouchScan_answersKept h _, execTouchStuck_answersKept h _,
    execSwitchSample_answersKept h _, execSwitchDebounce_answersKept h _, execSwitchStuck_answersKept h _, wordWrite_answersKept h _ _ _,
    execSatEventRepeat_answersKept h, execStartLineReadback_answersKept h _ _, execStartLineOvercurrent_answersKept h _ _,
    execStartLineRetry_answersKept h _, execStartLineOvertemp_answersKept h _ _, execStartLineOpenLoad_answersKept h _ _,
    execStartLineForced_answersKept h _ _ _, execVbatFail_answersKept h _ _, execVbatFailDeassert_answersKept h _ _,
    execVbatOvervoltage_answersKept h _ _ (hc _ _ rfl), execVsysOutOfRange_answersKept h _ _ _, execVbkpSample_answersKept h _,
    execDomainPowerFail_answersKept h _ _, execPlChange_answersKept h, execPlChangeDone_answersKept h _, execProcessTrim_answersKept h _,
    execDozeEntry_answersKept h, execStandbyEntry_answersKept h, execWakeEvent_answersKept h _, execInternalWake_answersKept h _,
    execTempSample_answersKept h _, execRailOutOfRange_answersKept h _ _ _, execProcessMonitor_answersKept h _, execPlCapTrial_answersKept h _,
    execBlockReset_answersKept h _, execBlockResetDone_answersKept h _, execHedgehogRestart_answersKept h, execDeferredRestart_answersKept h,
    execSessionWatchdog_answersKept h, execHeartbeatWatchdog_answersKept h, execFaultReportWindowEnd_answersKept h _, execHibernateWake_answersKept h,
    execVsysReset_answersKept h _, execMotionBEdge_answersKept h _ _, execPollSkipDeadline_answersKept h _, execSelectiveWakeErrors_answersKept h _,
    execStartLineCool_answersKept h _ _, execRailBackInRange_answersKept h _ _ _, execNbsTimeout_answersKept h,
    execWaitingTimeExtension_answersKept h, execNandNoAnswer_answersKept h _, execVbatBoostThreshold_answersKept h _, execDebugHalt_answersKept h _]

/-! ### The step -/

theorem regsReset_wf : regsWf regsReset = true := by decide +kernel

theorem step_cons (c : Instr) (rest : List Instr) (s : State) :
    step { s with pending := c :: rest } = exec c { s with pending := rest } := rfl

theorem step_nil {s : State} (h : s.pending = []) : step s = .next (tick s) := by
  simp only [step, h]

theorem step_of_pending {s : State} {c : Instr} {rest : List Instr} (h : s.pending = c :: rest) :
    step s = exec c { s with pending := rest } := by
  simp only [step, h]

/-- Settles O1: by the definition of the step. -/
theorem stepTakesTheFront : Obligations.StepTakesTheFront :=
  ⟨step_cons, fun _ => step_nil, rfl, fun _ _ => rfl⟩

/-- Settles O2: the register map after reset by evaluation; every memory is empty. -/
theorem resetIsWellFormed : Obligations.ResetIsWellFormed := by
  have hm : State.reset.wf = (regsWf regsReset && true && true && true && true && true) := rfl
  rw [Obligations.ResetIsWellFormed, hm, regsReset_wf]
  rfl

/-- A command that answers a next state keeps the waiting commands and the canonical form. -/
theorem exec_keeps {c : Instr} {s t : State} (e : exec c s = .next t) : Keeps s t := by
  have ha : AnswersKept s (exec c s) := by
    refine exec_answersKept (Keeps.refl s) c fun vbat ms hc hv => ?_
    subst hc
    rw [exec_vbatOvervoltage_beyondRatings s hv] at e
    cases e
  rw [e] at ha
  exact ha

/-- Settles O3: an empty queue ticks the clock, a command keeps the form. -/
theorem stepsKeepTheForm : Obligations.StepsKeepTheForm := by
  intro s t hs e
  cases hp : s.pending with
  | nil =>
    rw [step_nil hp] at e
    cases e
    obtain ⟨-, hwf⟩ := tick_keeps (Keeps.refl s)
    exact hwf hs
  | cons c rest =>
    rw [step_of_pending hp] at e
    obtain ⟨-, hwf⟩ := exec_keeps e
    exact hwf hs

/-! ### The checks of an access, each where those before it pass (R30, R40) -/

section Checks

variable {m : Master} {a v n : Nat} {w : Width} {write : Bool} {s t u : State} {r : Region} {x : Target} {st : FabStatus}

theorem fabCheck_outside (hr : regionOf a = none) : fabCheck m a w write s = (if m = .tag then .denied else .unmapped, none, s) := by
  simp only [fabCheck, fabCheckAs, hr]
  split <;> rfl

theorem fabCheck_denied (hr : regionOf a = some r) (hd : s.reaches m a r write = false) : fabCheck m a w write s = (.denied, none, s) := by
  simp [fabCheck, fabCheckAs, hr, hd]

theorem fabCheck_busy (hr : regionOf a = some r) (hd : s.reaches m a r write = true)
    (hq : enqueue (.fabric (blockAt a).region) m.cls m .burst s = (.busy, u)) : fabCheck m a w write s = (.busy, none, u) := by
  simp [fabCheck, fabCheckAs, fabCross, hr, hd, hq]

theorem fabCheck_dropped (hr : regionOf a = some r) (hd : s.reaches m a r write = true)
    (hq : enqueue (.fabric (blockAt a).region) m.cls m .burst s = (.dropped, u)) : fabCheck m a w write s = (.silent, none, u) := by
  simp [fabCheck, fabCheckAs, fabCross, hr, hd, hq]

section Crossed

/- The access reaches its region and is taken at the queue. -/
variable (hr : regionOf a = some r) (hd : s.reaches m a r write = true)
  (hq : enqueue (.fabric (blockAt a).region) m.cls m .burst s = (.taken, u))
include hr hd hq

theorem fabCheck_unmapped (hx : targetOf a w.bytes = none) : fabCheck m a w write s = (.unmapped, none, s) := by
  simp [fabCheck, fabCheckAs, fabCross, hr, hd, hq, hx]

theorem fabCheck_off (hx : targetOf a w.bytes = some x) (ho : s.targetOff a x = true) : fabCheck m a w write s = (.off, none, s) := by
  simp [fabCheck, fabCheckAs, fabCross, hr, hd, hq, hx, ho]

theorem fabCheck_isolated (hx : targetOf a w.bytes = some x) (ho : s.targetOff a x = false) (hi : s.isIsolated (blockAt a) = true) :
    fabCheck m a w write s = (.fault, none, s) := by
  simp [fabCheck, fabCheckAs, fabCross, hr, hd, hq, hx, ho, hi]

theorem fabCheck_narrow (hx : targetOf a w.bytes = some (.reg n)) (ho : s.targetOff a (.reg n) = false)
    (hi : s.isIsolated (blockAt a) = false) (hw : w ≠ .b32) : fabCheck m a w write s = (.width, none, s) := by
  simp [fabCheck, fabCheckAs, fabCross, hr, hd, hq, hx, ho, hi, hw]

theorem fabCheck_reg (hx : targetOf a w.bytes = some (.reg n)) (ho : s.targetOff a (.reg n) = false)
    (hi : s.isIsolated (blockAt a) = false) (hw : w = .b32) : fabCheck m a w write s = (.ok, some (.reg n), u) := by
  subst hw
  simp [fabCheck, fabCheckAs, fabCross, hr, hd, hq, hx, ho, hi]

theorem fabCheck_window (hx : targetOf a w.bytes = some x) (ho : s.targetOff a x = false) (hi : s.isIsolated (blockAt a) = false)
    (hn : ∀ n, x ≠ .reg n) : fabCheck m a w write s = (.ok, some x, u) := by
  cases x with
  | reg n => exact absurd rfl (hn n)
  | sram | vltBuf | cryBuf | retained | tagMem | relay => simp [fabCheck, fabCheckAs, fabCross, hr, hd, hq, hx, ho, hi]

end Crossed

/-! ### What a write does after its checks -/

theorem fabWrite_refused (e : fabCheck m a w true s = (st, none, t)) : fabWrite m a w v s = (st, t) := by
  simp only [fabCheck] at e
  cases st <;> simp [fabWrite, fabWriteAs, e]

theorem fabWrite_reg (e : fabCheck m a w true s = (.ok, some (.reg n), t)) : fabWrite m a w v s = regWrite m n v t := by
  simp only [fabCheck] at e
  simp [fabWrite, fabWriteAs, e]

theorem fabWrite_window (e : fabCheck m a w true s = (.ok, some x, t)) (hn : ∀ n, x ≠ .reg n) :
    fabWrite m a w v s = windowPut m (leBytes w.bytes v) x t := by
  simp only [fabCheck] at e
  cases x with
  | reg n => exact absurd rfl (hn n)
  | sram | vltBuf | cryBuf | retained | tagMem | relay => simp [fabWrite, fabWriteAs, e]

theorem exec_registerWrite (m : Master) (a v : Nat) (w : Width) (s : State) :
    exec (.registerWrite m a w v) s = .next (fabAnswer m (fabWrite m a w v s)) := rfl

/-- A refused write changes nothing but the answer given, beyond what its check has done. -/
theorem exec_registerWrite_refused (e : fabCheck m a w true s = (st, none, t)) :
    exec (.registerWrite m a w v) s = .next (fabAnswer m (st, t)) := by
  rw [exec_registerWrite, fabWrite_refused e]

end Checks

/-! ### Answers (R25, R33) -/

theorem fabAnswer_answered {m : Master} {p : FabStatus × State} (hs : p.1 ≠ .silent) (hm : m ≠ .debug ∨ p.1 = .ok) :
    (fabAnswer m p).outs.fabric = some (p.1, []) ∧ (fabAnswer m p).outs.busError = false := by
  rcases hm with hm | hm <;> simp [fabAnswer, answerTo, hs, hm]

theorem fabAnswer_busError {p : FabStatus × State} (hs : p.1 ≠ .silent) (hk : p.1 ≠ .ok) :
    (fabAnswer .debug p).outs.fabric = none ∧ (fabAnswer .debug p).outs.busError = true := by
  simp [fabAnswer, answerTo, hs, hk]

/-- A dropped access gets no answer. -/
theorem fabAnswer_silent (m : Master) (u : State) :
    (fabAnswer m (.silent, u)).outs.fabric = none ∧ (fabAnswer m (.silent, u)).outs.busError = false := by
  simp [fabAnswer, answerTo]

/-! ### A plain register (R10, R12) -/

/-- One bit of `rowWrite`: W1S before W1C before RW. -/
theorem writtenBit : ∀ rw w1c w1s old hw v : Bool, (((old && !rw || v && rw) && !(v && w1c && !hw)) || v && w1s) =
    (if w1s && v then true else if w1c && v && !hw then false else if rw then v else old) := by decide

theorem rowWrite_getLsbD (row : RegRow) (old hw : Word) (v : Nat) {i : Nat} (hi : i < 32) :
    (rowWrite row old hw (BitVec.ofNat 32 v)).getLsbD i =
      (if row.w1s.testBit i && v.testBit i then true
       else if row.w1c.testBit i && v.testBit i && !hw.getLsbD i then false
       else if row.rw.testBit i then v.testBit i
       else old.getLsbD i) := by
  simp only [rowWrite, BitVec.getLsbD_or, BitVec.getLsbD_and, BitVec.getLsbD_not, BitVec.getLsbD_ofNat, hi, decide_true, Bool.true_and]
  exact writtenBit ..

section PlainWrite

variable {m : Master} {a v : Nat} {s : State}

theorem plainWrite_barred (hm : s.mayWrite m a = false) : plainWrite m a v s = s := by
  unfold plainWrite
  split
  · rfl
  · rw [if_neg (by simp [hm])]

theorem plainWrite_row {row : RegRow} (hm : s.mayWrite m a = true)
    (hf : regRows.find? (fun r => r.addr ≤ a && (a - r.addr) % r.stride == 0 && (a - r.addr) / r.stride < r.count) = some row) :
    plainWrite m a v s = s.wr a (rowWrite row (s.rd a) (regGet s.hwSet a) (BitVec.ofNat 32 v)) := by
  simp only [plainWrite, hf, hm, if_true]

end PlainWrite

/-- Settles O5: the checks one after another, each by the lemma of its check; the plain register bit by bit. -/
theorem accessStatusOrder : Obligations.AccessStatusOrder := by
  refine ⟨⟨?checks, fun m a v w s hr => exec_registerWrite_refused (fabCheck_outside hr), ?answers⟩, ?plain, fun m a v s => plainWrite_barred⟩
  case checks =>
    intro m a v w s r hr
    refine ⟨fun hd => exec_registerWrite_refused (fabCheck_denied hr hd),
      fun u hd hq => exec_registerWrite_refused (fabCheck_busy hr hd hq), ?dropped, fun u hd hq => ⟨?unmapped, ?mapped⟩⟩
    case dropped =>
      intro u hd hq
      obtain ⟨hfab, hbus⟩ := fabAnswer_silent m u
      exact ⟨_, exec_registerWrite_refused (fabCheck_dropped hr hd hq), hfab, hbus, rfl, rfl⟩
    case unmapped => exact fun hx => exec_registerWrite_refused (fabCheck_unmapped hr hd hq hx)
    case mapped =>
      intro x hx
      refine ⟨fun ho => exec_registerWrite_refused (fabCheck_off hr hd hq hx ho),
        fun ho hi => exec_registerWrite_refused (fabCheck_isolated hr hd hq hx ho hi), fun ho hi => ⟨?narrow, ?reg, ?window⟩⟩
      case narrow =>
        rintro n rfl hw
        exact exec_registerWrite_refused (fabCheck_narrow hr hd hq hx ho hi hw)
      case reg =>
        rintro n rfl hw
        rw [exec_registerWrite, fabWrite_reg (fabCheck_reg hr hd hq hx ho hi hw)]
      case window =>
        intro hn
        rw [exec_registerWrite, fabWrite_window (fabCheck_window hr hd hq hx ho hi hn) hn]
  case answers =>
    refine fun m p hs => ⟨fabAnswer_answered hs, fun hm hk => ?_⟩
    subst hm
    exact fabAnswer_busError hs hk
  case plain =>
    intro m a v s row hwf hm hf
    rw [plainWrite_row hm hf]
    refine ⟨fun i hi => ?_, fun b hb => ?_, rfl⟩
    · rw [State.rd_wr s a a _ hwf, if_pos rfl]
      exact rowWrite_getLsbD row _ _ v hi
    · rw [State.rd_wr s a b _ hwf, if_neg hb]

end Sys2Proof.Machine
end

section
/-! PROOFS. Requests at the queues: what each case of an arrival does, the places of a queue as an invariant, the memories that an arrival and the
checks of an access leave; preemption, escorts and the evaluation of the profile. -/

namespace Sys2Proof.Machine

/-! ### A queue of the state -/

theorem QueueId.idx_lt (q : QueueId) : q.idx < 23 := by
  cases q <;> simp only [QueueId.idx] <;> omega

theorem QueueId.reserved_le_depth (q : QueueId) : q.reserved ≤ q.depth := by
  cases q <;> simp [QueueId.reserved, QueueId.depth]

section Queues

variable {q : QueueId} {cls : Cls} {m : Master} {w : Work} {b : Bool} {i j : QItem} {u v : Queue} {s : State}

theorem State.queue_setQueue (h : s.queues.length = 23) : (s.setQueue q v).queue q = v := by
  have hq : q.idx < s.queues.length := h ▸ q.idx_lt
  simp [State.queue, State.setQueue, hq]

@[simp] theorem State.setQueue_queues_length : (s.setQueue q v).queues.length = s.queues.length := List.length_set ..

@[simp] theorem State.setBitAt_queue (f : Fld) (n : Nat) : (s.setBitAt f n).queue q = s.queue q := rfl

@[simp] theorem awake_queues (s : State) : (awake s).queues = s.queues := by
  unfold awake
  split <;> rfl

@[simp] theorem awake_queue (q : QueueId) (s : State) : (awake s).queue q = s.queue q := by
  rw [State.queue, awake_queues, State.queue]

@[simp] theorem State.countDrop_queues (s : State) (q : QueueId) : (s.countDrop q).queues = s.queues := by
  unfold State.countDrop
  split <;> rfl

@[simp] theorem State.countDrop_now (s : State) (q : QueueId) : (s.countDrop q).now = s.now := by
  unfold State.countDrop
  split <;> rfl

@[simp] theorem loserGone_queues (i : QItem) (s : State) : (loserGone i s).queues = s.queues := by
  unfold loserGone
  split <;> rfl

@[simp] theorem loserGone_now (i : QItem) (s : State) : (loserGone i s).now = s.now := by
  unfold loserGone
  split <;> rfl

/-! ### A refusal (R30, R32, R33) -/

theorem refuse_now : (refuse q cls b v s).now = s.now := by
  cases b <;> simp [refuse]

theorem refuse_queues_length : (refuse q cls b v s).queues.length = s.queues.length := by
  cases b <;> simp [refuse]

theorem refuse_queue (h : s.queues.length = 23) : (refuse q cls b v s).queue q =
    if b then { v with deficit := if cls = .p0 then v.deficit else v.deficit + answerUnit }
    else { v with drops := if q.dropFld.isSome then v.drops else min (v.drops + 1) 0xFFFFFFFF } := by
  cases b with
  | true => exact State.queue_setQueue h
  | false =>
    have hd : ∀ t : State, (t.countDrop q).queue q = t.queue q := fun t => by rw [State.queue, State.countDrop_queues, State.queue]
    simpa [refuse, hd] using State.queue_setQueue h

/-- A refusal takes no request from the queue. -/
theorem refuse_items (h : s.queues.length = 23) : ((refuse q cls b v s).queue q).items = v.items := by
  rw [refuse_queue h]
  split <;> rfl

theorem acceptItem_queue (h : s.queues.length = 23) :
    (acceptItem q cls m w b v s).queue q = { v with items := v.items ++ [⟨cls, m, b, s.now, w⟩] } :=
  State.queue_setQueue h

/-! ### What a request at a queue does, one case after another (R18, R23, R30 to R33, R473) -/

theorem admitCore_isolated (hi : q.block.any (awake s).isIsolated = true) : admitCore q cls m w s = (.fault, awake s) := by
  simp only [admitCore, hi, if_true]

section Admitted

variable (hi : q.block.any (awake s).isIsolated = false)
include hi

theorem admitCore_placed (hp : placeFor q cls ((awake s).shedding cls) ((awake s).found q) = some b) :
    admitCore q cls m w s = (.taken, acceptItem q cls m w b ((awake s).found q) (awake s)) := by
  simp [admitCore, hi, hp]

variable (hp : placeFor q cls ((awake s).shedding cls) ((awake s).found q) = none)
include hp

theorem admitCore_displacing (hl : (awake s).loserTo q cls m = some i) :
    let v := (awake s).found q
    let left := { v with items := v.items.erase i }
    let t := loserGone i (refuse q i.cls (answered q i.cls left) left (awake s))
    admitCore q cls m w s = (.taken, acceptItem q cls m w i.reserved (t.queue q) t) := by
  simp [admitCore, hi, hp, hl]

/-- The winner stands behind those that stay. -/
theorem admitCore_displacing_items (hl : (awake s).loserTo q cls m = some i) (hlen : (awake s).queues.length = 23) :
    ((admitCore q cls m w s).2.queue q).items = ((awake s).found q).items.erase i ++ [⟨cls, m, i.reserved, (awake s).now, w⟩] := by
  rw [admitCore_displacing hi hp hl, acceptItem_queue (by rw [loserGone_queues, refuse_queues_length, hlen]), loserGone_now, refuse_now,
    State.queue, loserGone_queues, ← State.queue, refuse_items hlen]

variable (hl : (awake s).loserTo q cls m = none)
include hl

theorem admitCore_busy (ha : answered q cls ((awake s).found q) = true) :
    admitCore q cls m w s = (.busy, refuse q cls true ((awake s).found q) (awake s)) := by
  simp [admitCore, hi, hp, hl, ha]

theorem admitCore_dropped (ha : answered q cls ((awake s).found q) = false) :
    admitCore q cls m w s = (.dropped, refuse q cls false ((awake s).found q) (awake s)) := by
  simp [admitCore, hi, hp, hl, ha]

end Admitted

/-! ### A queue that serves itself (R17, R22) -/

theorem popBest_sublist {l rest : List QItem} (h : popBest l = some (i, rest)) : rest.Sublist l := by
  unfold popBest at h
  split at h
  · cases h
  · obtain ⟨_, -, he⟩ := Option.map_eq_some_iff.mp h
    cases he
    exact List.eraseIdx_sublist ..

theorem popCls_sublist {l rest : List QItem} (h : popCls cls l = some (i, rest)) : rest.Sublist l := by
  unfold popCls at h
  split at h
  · cases h
  · cases h
    exact List.erase_sublist

theorem popGrant_sublist {l rest : List QItem} {turn next : Nat} (h : popGrant turn l = some (i, rest, next)) : rest.Sublist l := by
  unfold popGrant at h
  split at h
  · rename_i hc
    cases h
    exact popCls_sublist hc
  · obtain ⟨k, -, hk⟩ := List.exists_of_findSome?_eq_some h
    obtain ⟨p, hc, he⟩ := Option.map_eq_some_iff.mp hk
    cases he
    exact popCls_sublist hc

/-- Service takes requests away and adds none. -/
theorem dropServed_sublist (arbiter : Bool) : ∀ (k turn : Nat) (l : List QItem), (dropServed arbiter k turn l).1.Sublist l
  | 0, _, l => List.Sublist.refl l
  | k + 1, turn, l => by
    unfold dropServed
    split <;> split
    · exact List.nil_sublist l
    · exact (dropServed_sublist arbiter k _ _).trans (popGrant_sublist ‹_›)
    · exact List.nil_sublist l
    · exact (dropServed_sublist arbiter k _ _).trans (popBest_sublist ‹_›)

theorem found_items_sublist (s : State) (q : QueueId) : (s.found q).items.Sublist (s.queue q).items := by
  simp only [State.found, Queue.settle]
  split
  · exact dropServed_sublist ..
  · exact List.Sublist.refl _

/-! ### The places of a queue (R31, R32) -/

/-- Neither the reserved nor the general places are overfilled, and what stands in a reserved one is of class P0. -/
structure QueueId.Fits (q : QueueId) (l : List QItem) : Prop where
  reserved : l.countP (·.reserved == true) ≤ q.reserved
  general : l.countP (·.reserved == false) ≤ q.depth - q.reserved
  p0 : ∀ i ∈ l, i.reserved = true → i.cls = .p0

theorem Queue.held_eq_countP (v : Queue) (b : Bool) : v.held b = v.items.countP (·.reserved == b) := List.countP_eq_length_filter.symm

theorem QueueId.fits_iff : q.Fits v.items ↔
    v.held true ≤ q.reserved ∧ v.held false ≤ q.depth - q.reserved ∧ ∀ i ∈ v.items, i.reserved = true → i.cls = .p0 := by
  rw [v.held_eq_countP, v.held_eq_countP]
  exact ⟨fun ⟨h1, h2, h3⟩ => ⟨h1, h2, h3⟩, fun ⟨h1, h2, h3⟩ => ⟨h1, h2, h3⟩⟩

section Fits

variable {l l' : List QItem}

theorem QueueId.Fits.sublist (h : q.Fits l) (hs : l'.Sublist l) : q.Fits l' :=
  ⟨(hs.countP_le ..).trans h.reserved, (hs.countP_le ..).trans h.general, fun i hi => h.p0 i (hs.subset hi)⟩

/-- Every request holds a place of one of the two kinds. -/
theorem QueueId.Fits.length_le (h : q.Fits l) : l.length ≤ q.depth := by
  have hsplit : l.length = l.countP (·.reserved == true) + l.countP (·.reserved == false) := by
    rw [List.length_eq_countP_add_countP (·.reserved == true)]
    congr 2
    funext i
    cases i.reserved <;> rfl
  have hr := h.reserved
  have hg := h.general
  have hd := q.reserved_le_depth
  omega

/-- One more request, in a place that is free. -/
theorem QueueId.Fits.append (h : q.Fits l) (hfree : l.countP (·.reserved == i.reserved) < if i.reserved then q.reserved else q.depth - q.reserved)
    (hc : i.reserved = true → i.cls = .p0) : q.Fits (l ++ [i]) := by
  obtain ⟨hr, hg, hp⟩ := h
  have hmem : ∀ j ∈ l ++ [i], j.reserved = true → j.cls = .p0 := by
    intro j hj
    rcases List.mem_append.mp hj with hj | hj
    · exact hp j hj
    · rw [List.mem_singleton.mp hj]
      exact hc
  cases hb : i.reserved <;> rw [hb] at hfree
  · exact ⟨by simpa [hb] using hr, by simpa [hb] using hfree, hmem⟩
  · exact ⟨by simpa [hb] using hfree, by simpa [hb] using hg, hmem⟩

/-- A request in the place of another. -/
theorem QueueId.Fits.replace (h : q.Fits l) (hi : i ∈ l) (hr : j.reserved = i.reserved) (hc : j.reserved = true → j.cls = .p0) :
    q.Fits (l.erase i ++ [j]) := by
  refine (h.sublist List.erase_sublist).append ?_ hc
  have hone : (l.erase i).countP (·.reserved == i.reserved) + 1 = l.countP (·.reserved == i.reserved) := by
    have hpos : 0 < l.countP (·.reserved == i.reserved) := List.countP_pos_iff.mpr ⟨i, hi, by simp⟩
    rw [List.countP_erase, if_pos ⟨hi, by simp⟩]
    omega
  have hres := h.reserved
  have hgen := h.general
  rw [hr]
  cases hb : i.reserved <;> rw [hb] at hone <;> simp only [if_true, if_false, Bool.false_eq_true] <;> omega

end Fits

/-- A place found is free, and a reserved one is found by P0 alone. -/
theorem placeFor_eq_some {shed : Bool} (h : placeFor q cls shed v = some b) :
    v.items.countP (·.reserved == b) < (if b then q.reserved else q.depth - q.reserved) ∧ (b = true → cls = .p0) := by
  simp only [placeFor, Queue.held_eq_countP] at h
  split at h
  · cases h
  · split at h
    · rename_i hp
      cases h
      exact ⟨hp.2, fun _ => hp.1⟩
    · split at h
      · rename_i hg
        cases h
        exact ⟨hg, nofun⟩
      · cases h

/-- The loser stands in the queue, in a place that the winner may hold. -/
theorem loserTo_eq_some (h : s.loserTo q cls m = some i) : i ∈ (s.found q).items ∧ (i.reserved = true → cls = .p0) := by
  simp only [State.loserTo] at h
  split at h
  · cases h
  · have hmem := List.mem_of_find?_eq_some h
    have hp := List.find?_some h
    simp only [Bool.and_eq_true, Bool.or_eq_true, Bool.not_eq_true', beq_iff_eq] at hp
    obtain ⟨⟨-, hplace⟩, -⟩ := hp
    exact ⟨List.mem_reverse.mp hmem, fun hr => hplace.resolve_left (by simp [hr])⟩

/-- R31, R32: a request that reaches a queue leaves its places as they must be. -/
theorem admitCore_fits (hlen : s.queues.length = 23) (h : q.Fits (s.queue q).items) : q.Fits ((admitCore q cls m w s).2.queue q).items := by
  have hlen' : (awake s).queues.length = 23 := by rw [awake_queues, hlen]
  have hv : q.Fits ((awake s).found q).items := h.sublist (by simpa using found_items_sublist (awake s) q)
  cases hi : q.block.any (awake s).isIsolated with
  | true => rwa [admitCore_isolated hi, awake_queue]
  | false =>
    cases hp : placeFor q cls ((awake s).shedding cls) ((awake s).found q) with
    | some b =>
      obtain ⟨hfree, hc⟩ := placeFor_eq_some hp
      rw [admitCore_placed hi hp, acceptItem_queue hlen']
      exact hv.append hfree hc
    | none =>
      cases hl : (awake s).loserTo q cls m with
      | some i =>
        obtain ⟨hmem, hc⟩ := loserTo_eq_some hl
        rw [admitCore_displacing_items hi hp hl hlen']
        exact hv.replace hmem rfl hc
      | none =>
        cases ha : answered q cls ((awake s).found q) with
        | true => rwa [admitCore_busy hi hp hl ha, refuse_items hlen']
        | false => rwa [admitCore_dropped hi hp hl ha, refuse_items hlen']

end Queues

/-- Settles O7: the places of the queue are an invariant of every case of an arrival. -/
theorem queueNeverOverfills : Obligations.QueueNeverOverfills := by
  intro q cls m w s hlen hr hg hp t
  have h : q.Fits (t.queue q).items := admitCore_fits hlen (QueueId.fits_iff.mpr ⟨hr, hg, hp⟩)
  obtain ⟨hr', hg', hp'⟩ := QueueId.fits_iff.mp h
  exact ⟨hr', hg', h.length_le, hp'⟩

/-! ### An arrival, with the fault of a P0 request that is refused or displaced (R23, R32) -/

section Arrivals

variable {q : QueueId} {cls : Cls} {m : Master} {w : Work} {b : Bool} {i : QItem} {r : Admit} {s t : State}

/-- Who finds a place displaces nobody. -/
theorem loserTo_of_placed (hp : placeFor q cls (s.shedding cls) (s.found q) = some b) : s.loserTo q cls m = none := by
  have hshed : s.shedding cls = false := by
    cases h : s.shedding cls with
    | false => rfl
    | true => rw [placeFor, h] at hp; cases hp
  rw [hshed] at hp
  simp [State.loserTo, hp]

theorem enqueue_isolated (hi : q.block.any (awake s).isIsolated = true) : enqueue q cls m w s = (.fault, awake s) := by
  simp [enqueue, admitCore_isolated hi, p0Fault]

section Admitted

variable (hi : q.block.any (awake s).isIsolated = false)
include hi

theorem enqueue_placed (hp : placeFor q cls ((awake s).shedding cls) ((awake s).found q) = some b) :
    enqueue q cls m w s = (.taken, acceptItem q cls m w b ((awake s).found q) (awake s)) := by
  simp [enqueue, admitCore_placed hi hp, p0Fault, loserTo_of_placed hp]

variable (hp : placeFor q cls ((awake s).shedding cls) ((awake s).found q) = none)
include hp

theorem enqueue_displacing (hl : (awake s).loserTo q cls m = some i) :
    let t := (admitCore q cls m w s).2
    enqueue q cls m w s = (.taken, if i.cls = .p0 then raise (q.region * 0x1000 + 1) q.idx t else t) := by
  cases hc : i.cls <;> simp [enqueue, admitCore_displacing hi hp hl, p0Fault, hl, hc]

variable (hl : (awake s).loserTo q cls m = none)
include hl

theorem enqueue_busy_p0 (hc : cls = .p0) : enqueue q cls m w s =
    (.busy, raise (q.region * 0x1000 + 1) q.idx (((awake s).setQueue q ((awake s).found q)).setBitAt Reg.SUP_RGN_STAT_REFUSED q.region)) := by
  subst hc
  simp [enqueue, admitCore_busy hi hp hl rfl, p0Fault, refuse]

theorem enqueue_busy (hc : cls ≠ .p0) (hb : ((awake s).found q).deficit + answerUnit ≤ q.depth * answerUnit) : enqueue q cls m w s =
    (.busy, ((awake s).setQueue q { (awake s).found q with deficit := ((awake s).found q).deficit + answerUnit }).setBitAt
      Reg.SUP_RGN_STAT_REFUSED q.region) := by
  have ha : answered q cls ((awake s).found q) = true := by simp [answered, hb]
  simp [enqueue, admitCore_busy hi hp hl ha, p0Fault, refuse, hc]

theorem enqueue_dropped (hc : cls ≠ .p0) (hb : q.depth * answerUnit < ((awake s).found q).deficit + answerUnit) :
    enqueue q cls m w s = (.dropped, refuse q cls false ((awake s).found q) (awake s)) := by
  have ha : answered q cls ((awake s).found q) = false := by simp [answered, hc, hb]
  simp [enqueue, admitCore_dropped hi hp hl ha, p0Fault]

end Admitted

theorem exec_queueRequestArrival {cls0 : Cls} (e : enqueue q (arrivalCls q cls0 m (q.takes w)) m (q.takes w) s = (r, t)) :
    exec (.queueRequestArrival q cls0 m w) s = .next { t with outs := { t.outs with enqueue := some r } } := by
  change execQueueRequestArrival q cls0 m w s = _
  rw [execQueueRequestArrival, e]

end Arrivals

/-- Settles O6: the cases of an arrival, each by its equation of `enqueue`. -/
theorem overloadContract : Obligations.OverloadContract := by
  intro q cls0 m w s a cls v place answer
  have hlen : s.queues.length = 23 → a.queues.length = 23 := fun h => (congrArg List.length (awake_queues s)).trans h
  refine ⟨fun hi => exec_queueRequestArrival (enqueue_isolated hi), fun hi => ⟨?placed, ?displacing, fun hp hl => ⟨?p0, ?busy, ?dropped⟩⟩⟩
  case placed => exact fun b hp => exec_queueRequestArrival (enqueue_placed hi hp)
  case displacing =>
    intro i hp hl h
    refine ⟨_, exec_queueRequestArrival (enqueue_displacing hi hp hl), rfl, fun hc => ?_⟩
    rw [if_neg hc]
    exact admitCore_displacing_items hi hp hl (hlen h)
  case p0 => exact fun hc => exec_queueRequestArrival (enqueue_busy_p0 hi hp hl hc)
  case busy => exact fun hc hb => exec_queueRequestArrival (enqueue_busy hi hp hl hc hb)
  case dropped =>
    intro hc hb
    refine ⟨_, exec_queueRequestArrival (enqueue_dropped hi hp hl hc hb), rfl, fun h => ?_⟩
    have hq : (refuse q cls false v a).queue q = { v with drops := if q.dropFld.isSome then v.drops else min (v.drops + 1) 0xFFFFFFFF } :=
      refuse_queue (hlen h)
    exact ⟨(congrArg Queue.items hq :), (congrArg Queue.deficit hq :)⟩

/-! ### The memories: what a request at a queue leaves of them -/

/-- The contents of the memories, which no register shows. -/
def State.mems (s : State) : List Host.Cell × List Host.Cell × List Host.Cell × List Host.Cell × List Host.Cell :=
  (s.sram, s.nv.mem, s.den.buf, s.cry.buf, s.tag.sram)

theorem State.mems_eq_iff {s t : State} : t.mems = s.mems ↔
    t.sram = s.sram ∧ t.nv.mem = s.nv.mem ∧ t.den.buf = s.den.buf ∧ t.cry.buf = s.cry.buf ∧ t.tag.sram = s.tag.sram := by
  simp only [State.mems, Prod.mk.injEq]

section Mems

variable {q : QueueId} {cls : Cls} {m : Master} {w : Work} {s : State} {r : Admit × State}

@[simp] theorem awake_mems (s : State) : (awake s).mems = s.mems := by
  unfold awake
  split <;> rfl

@[simp] theorem State.countDrop_mems (s : State) (q : QueueId) : (s.countDrop q).mems = s.mems := by
  unfold State.countDrop
  split <;> rfl

@[simp] theorem loserGone_mems (i : QItem) (s : State) : (loserGone i s).mems = s.mems := by
  unfold loserGone
  split <;> rfl

@[simp] theorem refuse_mems (b : Bool) (v : Queue) : (refuse q cls b v s).mems = s.mems := by
  cases b with
  | true => rfl
  | false => exact State.countDrop_mems ..

@[simp] theorem acceptItem_mems (b : Bool) (v : Queue) : (acceptItem q cls m w b v s).mems = s.mems := rfl

@[simp] theorem admitCore_mems : (admitCore q cls m w s).2.mems = s.mems := by
  cases hi : q.block.any (awake s).isIsolated with
  | true => simp [admitCore_isolated hi]
  | false =>
    cases hp : placeFor q cls ((awake s).shedding cls) ((awake s).found q) with
    | some b => simp [admitCore_placed hi hp]
    | none =>
      cases hl : (awake s).loserTo q cls m with
      | some i => simp [admitCore_displacing hi hp hl]
      | none =>
        cases ha : answered q cls ((awake s).found q) with
        | true => simp [admitCore_busy hi hp hl ha]
        | false => simp [admitCore_dropped hi hp hl ha]

/-! ### The memories: what a fault leaves of them -/

theorem settEmit_mems (f : SettFrame) : (settEmit cls f s).2.mems = s.mems := by
  have h : (admitCore .settTx cls .sett (.frame f) s).2.mems = s.mems := admitCore_mems
  unfold settEmit
  split <;> rename_i e <;> rw [e] at h <;> exact h

theorem settCore_mems (typ : Nat) (bc : Bool) (dst : Nat) (p : Bytes) : (settCore typ bc dst cls p s).2.mems = s.mems := by
  unfold settCore
  split
  · rfl
  · exact settEmit_mems _

theorem popQueue_mems {i : QItem} {t : State} (h : popQueue q s = some (i, t)) : t.mems = s.mems := by
  unfold popQueue at h
  split at h
  · cases h
  · cases h
    rfl

/-- A commit that begins has written nothing. -/
theorem rmcKick_mems : (rmcKick s).mems = s.mems := by
  unfold rmcKick
  split
  · rfl
  · extract_lets p0
    split
    · rfl
    · split
      · rfl
      · rename_i hpop
        rw [← popQueue_mems hpop]
        split <;> rfl

theorem submitCore_mems (g : Group) : (submitCore cls g s).2.mems = s.mems := by
  have h : (admitCore .commit cls .session (.group g) s).2.mems = s.mems := admitCore_mems
  unfold submitCore
  split
  · rename_i e
    rw [e] at h
    exact rmcKick_mems.trans h
  · exact h

theorem actBuffer_mems (r : Rec) : (actBuffer r s).2.mems = s.mems := by
  unfold actBuffer
  split
  · rfl
  · exact submitCore_mems _

theorem recordRaw_mems (r : Rec) : (recordRaw cls r s).2.mems = s.mems := by
  have h : (admitCore .ingest cls .ledger (.record r) s).2.mems = s.mems := admitCore_mems
  unfold recordRaw
  split
  · split
    · split
      · split <;> rfl
      · rfl
    · split <;> rename_i e <;> rw [e] at h <;> exact h
  · split
    · exact actBuffer_mems r
    · split
      · exact settCore_mems ..
      · split <;> rfl

theorem faultRecord_mems (action : Action) (code n detail : Nat) : (faultRecord action code n detail s).2.mems = s.mems := by
  unfold faultRecord
  extract_lets body
  split
  · exact recordRaw_mems _
  · exact settCore_mems ..

theorem requestRestart_mems (code : Nat) : (requestRestart code s).mems = s.mems := by
  unfold requestRestart
  split
  · rfl
  · split
    · split
      · exact faultRecord_mems (s := noteFault .log 0x1402 s) ..
      · rfl
    · rfl

theorem runAction_mems (action : Action) (code : Nat) : (runAction action code s).mems = s.mems := by
  cases action with
  | restart =>
    rw [runAction]
    split
    · rfl
    · exact requestRestart_mems code
  | log | isolate | reduce | shed | halt => rfl

theorem noteDrop_mems : (noteDrop r).mems = r.2.mems := by
  unfold noteDrop
  split <;> rfl

theorem raiseAs_mems (action : Action) (code info : Nat) : (raiseAs action code info s).mems = s.mems := by
  dsimp only [raiseAs]
  split
  · rfl
  · refine (runAction_mems action code).trans ?_
    split
    · exact noteDrop_mems.trans (faultRecord_mems ..)
    · rfl

theorem raise_mems (code detail : Nat) : (raise code detail s).mems = s.mems := raiseAs_mems ..

theorem p0Fault_mems : (p0Fault q cls r).2.mems = r.2.mems := by
  unfold p0Fault
  split
  · split
    · exact raise_mems ..
    · rfl
  · rfl
  · rfl
  · rfl

theorem enqueue_mems : (enqueue q cls m w s).2.mems = s.mems := by
  have h : (p0Fault q cls (admitCore q cls m w s)).2.mems = s.mems := p0Fault_mems.trans admitCore_mems
  unfold enqueue
  extract_lets r
  split
  · exact (raise_mems ..).trans h
  · exact h

end Mems

/-! ### The memories: what the checks of an access leave of them (R40) -/

/-- After the checks the state is as before, or as the queue crossed leaves it. -/
theorem fabCheck_state (m : Master) (a : Nat) (w : Width) (write : Bool) (s : State) :
    (fabCheck m a w write s).2.2 = s ∨ (fabCheck m a w write s).2.2 = (enqueue (.fabric (blockAt a).region) m.cls m .burst s).2 := by
  simp only [fabCheck, fabCheckAs, fabCross, if_true]
  split
  · left
    split <;> rfl
  · split
    · exact .inl rfl
    · split <;> rename_i hq <;> rw [hq]
      · split
        · exact .inl rfl
        · split
          · exact .inl rfl
          · split
            · exact .inl rfl
            · split
              · split
                · exact .inr rfl
                · exact .inl rfl
              all_goals exact .inr rfl
      all_goals exact .inr rfl

theorem fabCheck_mems {m : Master} {a : Nat} {w : Width} {write : Bool} {s t : State} {st : FabStatus} {x : Option Target}
    (e : fabCheck m a w write s = (st, x, t)) : t.mems = s.mems := by
  have ht : t = (fabCheck m a w write s).2.2 := by rw [e]
  rcases fabCheck_state m a w write s with h | h <;> rw [ht, h]
  exact enqueue_mems

theorem fabCheck_wf {m : Master} {a : Nat} {w : Width} {write : Bool} {s t : State} {st : FabStatus} {x : Option Target}
    (e : fabCheck m a w write s = (st, x, t)) (hs : s.wf = true) : t.wf = true := by
  have h := fabCheck_keeps (Keeps.refl s) m a w write
  rw [e] at h
  obtain ⟨-, hwf⟩ := h
  exact hwf hs

theorem State.wf_sram {s : State} (h : s.wf = true) : Memory.wf s.sram = true := by
  simp only [State.wf, Bool.and_eq_true] at h
  obtain ⟨⟨⟨⟨⟨-, hsram⟩, -⟩, -⟩, -⟩, -⟩ := h
  exact hsram

theorem State.wf_denBuf {s : State} (h : s.wf = true) : Memory.wf s.den.buf = true := by
  simp only [State.wf, Bool.and_eq_true] at h
  obtain ⟨⟨⟨-, hden⟩, -⟩, -⟩ := h
  exact hden

/-! ### The bytes of a write, lowest first (R9) -/

theorem be_reverse : ∀ n v : Nat, (be n v).reverse = le n v
  | 0, _ => rfl
  | n + 1, v => by rw [be, List.reverse_concat, be_reverse n, le]

theorem le_mod : ∀ n v : Nat, le n (v % 256 ^ n) = le n v
  | 0, _ => rfl
  | n + 1, v => by
    have hbyte : BitVec.ofNat 8 (v % 256 ^ (n + 1)) = BitVec.ofNat 8 v := by
      apply BitVec.eq_of_toNat_eq
      rw [BitVec.toNat_ofNat, BitVec.toNat_ofNat]
      exact Nat.mod_mod_of_dvd v (Dvd.intro_left _ (Nat.pow_succ ..).symm)
    rw [le, le, hbyte, Nat.pow_succ', Nat.mod_mul_right_div_self, le_mod n]

theorem leBytes_eq (n v : Nat) : leBytes n v = le n v := by
  rw [leBytes, be_reverse, le_mod]

@[simp] theorem le_length : ∀ n v : Nat, (le n v).length = n
  | 0, _ => rfl
  | n + 1, v => by rw [le, List.length_cons, le_length n]

theorem le_getD : ∀ {n i : Nat} (v : Nat), i < n → (le n v).getD i 0 = BitVec.ofNat 8 (v / 256 ^ i)
  | n + 1, 0, v, _ => by simp [le]
  | n + 1, i + 1, v, h => by
    rw [le, List.getD_cons_succ, le_getD _ (Nat.lt_of_succ_lt_succ h), Nat.div_div_eq_div_mul, Nat.pow_succ']

/-- A byte after a run of bytes was written: the byte of the run where it lies in it, as before elsewhere. -/
theorem memGet_memSetN : ∀ (b : Bytes) {m : List Host.Cell} (a x : Nat), Memory.wf m = true →
    memGet (memSetN m a b) x = if a ≤ x ∧ x < a + b.length then b.getD (x - a) 0 else memGet m x
  | [], m, a, x, _ => by rw [memSetN, if_neg (by simp only [List.length_nil]; omega)]
  | v :: vs, m, a, x, h => by
    rw [memSetN, memGet_memSetN vs (a + 1) x (memSet_wf a v h), memGet_memSet a x v h, List.length_cons]
    by_cases hx : x = a
    · subst hx
      simp
    · by_cases hin : a + 1 ≤ x ∧ x < a + 1 + vs.length
      · rw [if_pos hin, if_pos (by omega), show x - a = (x - (a + 1)) + 1 by omega, List.getD_cons_succ]
      · rw [if_neg hin, if_neg hx, if_neg (by omega)]

theorem memGet_memSetN_leBytes {m : List Host.Cell} (h : Memory.wf m = true) (n v a x : Nat) :
    memGet (memSetN m a (leBytes n v)) x = if a ≤ x ∧ x < a + n then BitVec.ofNat 8 (v / 256 ^ (x - a)) else memGet m x := by
  rw [memGet_memSetN _ a x h, leBytes_eq, le_length]
  split
  · rw [le_getD v (by omega)]
  · rfl

/-! ### A write into a window (R39, R342) -/

theorem fabAnswer_mems (m : Master) (r : FabStatus × State) : (fabAnswer m r).mems = r.2.mems := rfl

theorem windowPut_vltBuf_mems {m : Master} {s : State} (hb : s.denBusy m = false) (ho : s.get Reg.VLT_STAT_OWN = m.id) (b : Bytes) (off : Nat) :
    (windowPut m b (.vltBuf off) s).2.mems = (s.sram, s.nv.mem, memSetN s.den.buf off b, s.cry.buf, s.tag.sram) := by
  simp [windowPut, vltBufWrite, denClaim, hb, ho, State.mems]

theorem fabWrite_failed {m : Master} {a v : Nat} {w : Width} {s t : State} {st : FabStatus} {x : Option Target}
    (e : fabCheck m a w true s = (st, x, t)) (hst : st ≠ .ok) : fabWrite m a w v s = (st, t) := by
  rw [fabCheck] at e
  cases st with
  | ok => exact absurd rfl hst
  | busy | fault | off | denied | unmapped | escort | entropyWait | entropyFail | width | preempted | silent => simp [fabWrite, fabWriteAs, e]

/-- Settles O60: the checks leave the memories, the window stores the bytes of the value. -/
theorem memoryWrites : Obligations.MemoryWrites := by
  refine ⟨?sram, ?vltBuf, ?refused⟩
  case sram =>
    intro m a v off w s t e hs
    obtain ⟨hsram, hnv, hden, hcry, htag⟩ := State.mems_eq_iff.mp (fabCheck_mems e)
    refine ⟨_, exec_registerWrite m a v w s, ?_⟩
    rw [fabWrite_window e nofun]
    refine ⟨fun x => ?_, hnv, hden, hcry, htag⟩
    rw [← hsram]
    exact memGet_memSetN_leBytes (State.wf_sram (fabCheck_wf e hs)) ..
  case vltBuf =>
    intro m a v off w s t e hs hb ho
    obtain ⟨hsram, hnv, -, hcry, htag⟩ := State.mems_eq_iff.mp (fabCheck_mems e)
    refine ⟨_, exec_registerWrite m a v w s, ?_⟩
    rw [fabWrite_window e nofun]
    have hu := windowPut_vltBuf_mems hb ho (leBytes w.bytes v) off
    simp only [State.mems, Prod.mk.injEq] at hu
    obtain ⟨usram, unv, uden, ucry, utag⟩ := hu
    refine ⟨fun x => ?_, unv.trans hnv, usram.trans hsram, ucry.trans hcry, utag.trans htag⟩
    rw [fabAnswer, answerTo, uden]
    exact memGet_memSetN_leBytes (State.wf_denBuf (fabCheck_wf e hs)) ..
  case refused =>
    intro m a v w s t st x e hst
    refine ⟨_, exec_registerWrite m a v w s, ?_⟩
    rw [fabWrite_failed e hst]
    exact State.mems_eq_iff.mp ((fabAnswer_mems m (st, t)).trans (fabCheck_mems e))

/-! ### Preemption (R16, R98) -/

section Preempt

variable {s : State}

theorem exec_cellPreempt_lane (n : Nat) (s : State) : exec (.cellPreempt (.lane n)) s = .next (lanePreempt n s) := rfl
theorem exec_cellPreempt_channel (c : Nat) (s : State) : exec (.cellPreempt (.channel c)) s = .next (channelPreempt c s) := rfl
theorem exec_cellPreempt_slot (n : Nat) (s : State) : exec (.cellPreempt (.slot n)) s = .next (slotPreempt n s) := rfl

theorem lanePreempt_taken {n : Nat} {cls : Cls} (hheld : (s.lane n).held = some cls) (hc : cls ≠ .p0)
    (hw : (s.queue (.lane n)).items.any (fun i => i.cls == .p0) = true) :
    lanePreempt n s = laneServe n (laneRelease n (laneDrop n .preempted s)) := by
  simp [lanePreempt, hheld, hc, hw]

/-- The frame that holds the channel ends, PREEMPTED where frames of its schedule remain. -/
theorem channelPreempt_taken {c : Nat} {run : LfRun} (hrun : s.runOn c = some run) (hc : run.cls ≠ .p0)
    (hend : run.startAt + periodTicks run.req.periods ≤ s.now) (hw : s.p0Waits c = true) :
    channelPreempt c s = [0, 1].foldl (scheduleDrop run)
      (lfEnd run (if [0, 1].any (fun b => (s.queue (.bank b)).items.any (s.sameSchedule run)) then .preempted else .ok) [] s) := by
  simp only [channelPreempt, hrun, hw, hc, Nat.not_lt.mpr hend, Bool.true_eq_false, or_self, if_false]

theorem slotPreempt_taken {c : DenCmd} (hwait : s.den.wait = some c) (hw : s.p0Queued .den = true) (hm : c.master ≠ .session) :
    slotPreempt c.slot s = slotTold c.master (denDone .busy [] { s with den := { s.den with wait := none } }) := by
  simp [slotPreempt, hwait, hw, hm]

end Preempt

/-! ### Escorts (R26 to R29) -/

theorem chunksAux_length_ceil {k : Nat} (hk : 0 < k) : ∀ (f : Nat) (b : Bytes), b.length ≤ f → (chunksAux k f b).length = (b.length + k - 1) / k
  | 0, b, h => by
    rw [Nat.le_zero.mp h, chunksAux, Nat.div_eq_of_lt (by omega), List.length_nil]
  | f + 1, b, h => by
    rw [chunksAux]
    split
    · rename_i hb
      have hlen : b.length = 0 := List.length_eq_zero_iff.mpr hb
      rw [hlen, List.length_nil, Nat.div_eq_of_lt (by omega)]
    · rename_i hb
      have hpos : 0 < b.length := List.length_pos_iff.mpr hb
      rw [List.length_cons, chunksAux_length_ceil hk f (b.drop k) (by rw [List.length_drop]; omega), List.length_drop]
      by_cases hle : k ≤ b.length
      · rw [show b.length + k - 1 = (b.length - k + k - 1) + k by omega, Nat.add_div_right _ hk]
      · rw [show b.length - k + k - 1 = k - 1 by omega, Nat.div_eq_of_lt (by omega), show b.length + k - 1 = (b.length - 1) + k by omega,
          Nat.add_div_right _ hk, Nat.div_eq_of_lt (by omega)]

/-- One escort for each 64 bytes begun. -/
theorem escortsOf_length (b : Bytes) : (escortsOf b).length = (b.length + 63) / 64 := by
  rw [escortsOf, List.length_map, chunks, chunksAux_length_ceil (by omega) _ _ (Nat.le_refl _)]
  rfl

/-- A datum holds as it receives its escorts. -/
theorem Datum.of_holds (b : Bytes) : (Datum.of b).holds = true := beq_self_eq_true _

section EscortRecompute

variable {b : Block} {src : Source} {held d : Datum} {recs : List Datum} {s : State}

theorem exec_escortRecompute_holds (h : held.holds = true) : exec (.escortRecompute b src none held recs) s = .next (escAnswer .ok s) := by
  change execEscortRecompute b src none held recs s = _
  simp [execEscortRecompute, cellFails, h]

theorem exec_escortRecompute_fails (h : held.holds = false) :
    exec (.escortRecompute b src none held recs) s = .next (escortRun b src (recs.map Datum.holds) s) := by
  change execEscortRecompute b src none held recs s = _
  simp [execEscortRecompute, h]

/-- Below the sixteenth within a second a mismatch is only counted. -/
theorem mismatches_one (h : (s.escTimes b).length < 15) : mismatches b 1 s =
    { s with hh := { s.hh with esc := (b, s.now :: s.escTimes b) :: s.hh.esc.filter (fun p => p.1 != b) } } := by
  have hn : ¬ 16 ≤ (s.escTimes b).length + 1 := by omega
  simp [mismatches, escMismatch, hn]

/-- A first recomputation that matches counts one mismatch, and a stored page of retained memory one re-read. -/
theorem escortRun_first (ha : src.again = true) (rest : List Bool) :
    escortRun b src (true :: rest) s = escAnswer .ok (mismatches b 1
      ((recomputes b s).count Reg.RMC_ERR_REREAD (if b = .rmc ∧ src = .stored then 1 else 0))) := by
  simp [escortRun, ha]

end EscortRecompute

/-! ### The profile (R34, R35) -/

theorem exec_profileEvaluate (event : Bool) (s : State) : exec (.profileEvaluate event) s = execProfileEvaluate event s := rfl

/-- An evaluation at an event; the selection looks at nothing that the evaluation notes. -/
theorem evalProfile_event {s : State} (hp : s.profile ≠ 7) (hh : s.bit Reg.SUP_HH_STAT_HALT = false) (hd : s.isHead = true) :
    evalProfile true s = enterProfile s.profileFor
      { s with boot := { s.boot with evalAt := s.now, wmSelect := none, evalDue := false, evalSec := some (s.now / 4194304) } } := by
  simp only [evalProfile, hp, hh, hd, true_or, not_true, or_self, Bool.false_eq_true, if_false, if_true]
  rfl

/-- The first event of a second is evaluated. -/
theorem exec_profileEvaluate_event {s : State} (hs : s.boot.evalSec ≠ some (s.now / 4194304)) :
    exec (.profileEvaluate true) s = .next (evalProfile true (evalEvent s)) := by
  have hw : (evalEvent s).evalWaits = true := by simpa [evalEvent, State.evalWaits] using hs
  simp [exec_profileEvaluate, execProfileEvaluate, hw]

/-- Settles O8: each command by the equation of its case. -/
theorem architectureCommands : Obligations.ArchitectureCommands := by
  refine ⟨?lane, ?finished, ?scheduled, ?slot, ?holds, ?first, fun b => ⟨escortsOf_length b, Datum.of_holds b⟩,
    ?profile, ?workshop, ?road, ?cab⟩
  case lane =>
    intro n cls s hheld hc hw
    rw [exec_cellPreempt_lane, lanePreempt_taken hheld hc hw]
  case finished =>
    intro c run s hrun hc hend hw hnone
    rw [exec_cellPreempt_channel, channelPreempt_taken hrun hc hend hw]
    simp [hnone]
  case scheduled =>
    intro c run s hrun hc hend hw hsome
    rw [exec_cellPreempt_channel, channelPreempt_taken hrun hc hend hw]
    simp [hsome]
  case slot =>
    intro c s hwait hw hm
    rw [exec_cellPreempt_slot, slotPreempt_taken hwait hw hm]
  case holds =>
    intro b src bytes recs s
    exact ⟨_, exec_escortRecompute_holds (Datum.of_holds bytes), rfl, rfl, rfl⟩
  case first =>
    intro b src held d recs s ha hlen hheld hd
    refine ⟨_, exec_escortRecompute_fails hheld, ?_⟩
    rw [List.map_cons, hd, escortRun_first ha, mismatches_one]
    · exact ⟨rfl, rfl, rfl⟩
    · exact hlen
  case profile =>
    intro s hp hh hd hs
    rw [exec_profileEvaluate_event hs]
    exact congrArg _ (evalProfile_event (s := evalEvent s) hp hh hd)
  case workshop =>
    intro s hl
    simp [State.profileFor, hl]
  case road =>
    intro s hl hm
    simp [State.profileFor, hl, hm]
  case cab =>
    intro s hl hm hi
    simp [State.profileFor, hl, hm, hi]

end Sys2Proof.Machine
end

section
/-! PROOFS. The start-up and the slot selector: when START_UP runs, that whatever ends it has the unit started, what two fuse reads that disagree
leave, the timeout that begins a confirmation, and the two parts of the selection of an image. -/

namespace Sys2Proof.Machine

/-! ### When a start-up runs (R61, R377, R449) -/

section StartUp

variable {env : BootEnv} {s : State}

theorem exec_startUp (env : BootEnv) (s : State) : exec (.startUp env) s = execStartUp env s := rfl

theorem exec_startUp_runs (hr : s.power.state = .reset) (hpath : s.tag.path = none) (htest : env.testBall = false)
    (hbkp : s.bit Reg.PWR_STAT_BKP = false) : exec (.startUp env) s = .next (startUp env s) := by
  simp [exec_startUp, execStartUp, hr, hpath, htest, hbkp]

theorem exec_startUp_waits (hr : s.power.state = .reset)
    (h : s.tag.path.isSome = true ∨ env.testBall = true ∨ s.bit Reg.PWR_STAT_BKP = true) : exec (.startUp env) s = .next s := by
  simp only [exec_startUp, execStartUp, hr, h, if_true]

theorem exec_startUp_outsideReset (hr : s.power.state ≠ .reset) : exec (.startUp env) s = .next s := by
  rw [exec_startUp, execStartUp]
  cases h : s.power.state with
  | reset => exact absurd h hr
  | on | doze | standby | sleep | hibernate => rfl

/-! ### Every end of START_UP has the unit started (R61) -/

@[simp] theorem bootMark_boot (step failStep : Nat) (s : State) : (bootMark step failStep s).boot = s.boot := rfl

@[simp] theorem bootEnd_started (step failStep : Nat) (env : BootEnv) (s : State) : (bootEnd step failStep env s).boot.started = true := rfl

@[simp] theorem bootStop_started (step failStep : Nat) (env : BootEnv) (s : State) : (bootStop step failStep env s).boot.started = true := rfl

@[simp] theorem bootHead_started (env : BootEnv) (s : State) : (bootHead env s).boot.started = true := rfl

theorem bootLate_started (env : BootEnv) (hedge : Bool) (s : State) : (bootLate env hedge s).boot.started = true := by
  simp only [bootLate]
  split_ifs
  exacts [bootStop_started .., bootStop_started .., bootStop_started .., bootStop_started .., bootEnd_started .., bootEnd_started ..,
    bootStop_started .., bootHead_started ..]

/-- R65: two fuse reads that disagree end the start-up at step 4, with fault 0x4101. -/
theorem startUp_fusesAstray (hf : env.fuses = false) : startUp env s =
    bootStop 3 4 env ((raise 0x4101 0 ((bootEarly
      { s with straps := { s.straps with chainRole := env.chainRole, norPresent := env.nor, canWired := env.canWired } }).setDom .vlt false)).put
        Reg.CAN_STAT_XCVR 2) := if_pos hf

theorem startUp_started (env : BootEnv) (s : State) : (startUp env s).boot.started = true := by
  cases hf : env.fuses with
  | false => rw [startUp_fusesAstray hf, bootStop_started]
  | true =>
    rw [startUp, if_neg (by simp [hf])]
    exact bootLate_started ..

end StartUp

/-! ### The trial's time is over (R54) -/

theorem exec_trialConfirmTimeout (s : State) : exec .trialConfirmTimeout s = execTrialConfirmTimeout s := rfl

theorem confirmBegin_taken {tester : Bool} {s u : State}
    (h : submitGroup (if tester then .p3 else .p1) ⟨[{ s.selector with trial := 0 }.write], .confirmTrial tester⟩ s = (.taken, u)) :
    confirmBegin tester s = (true, { u with img := { u.img with confirming := true } }) := by
  rw [confirmBegin, h]

theorem exec_trialConfirmTimeout_due {i : Image} {at_ : Nat} {s : State} (hi : s.img.run = some i) (hat : s.boot.profileAt = some at_)
    (hd : s.isHead = true) (ht : s.bit Reg.MEM_IMG_STAT_TRIAL = true) (hc : s.img.confirming = false)
    (ha : s.after at_ (i.profiles.tConfirm * 1000000) = true) : exec .trialConfirmTimeout s = .next (confirmBegin false s).2 := by
  simp only [exec_trialConfirmTimeout, execTrialConfirmTimeout, hi, hat, hd, ht, hc, ha, and_self, if_true]

/-! ### The slot selector (R52) -/

section Selection

variable {hedge : Bool} {x : Selector} {s : State}

theorem trialStep_pending (env : BootEnv) (hp : x.pending ≠ 0) : trialStep env hedge x s =
    if (tryImage env (x.pending == 2) s).1.isSome then (⟨x.pending - 1, 0, 1, 0⟩, false, (tryImage env (x.pending == 2) s).2)
    else ({ x with pending := 0 }, true, (tryImage env (x.pending == 2) s).2) := by
  rw [trialStep, if_pos hp]
  rcases tryImage env (x.pending == 2) s with ⟨_ | i, t⟩ <;> rfl

theorem trialStep_failed (env : BootEnv) (hp : x.pending = 0) (ht : x.trial = 1) (h : hedge = true ∨ x.tries = 3) :
    trialStep env hedge x s = ({ x with active := 1 - x.active, trial := 0 }, true, setRej (x.active == 1) 0x0E s) := by
  rw [trialStep, if_neg (not_not_intro hp), if_pos ht, if_pos h]

theorem trialStep_goesOn (env : BootEnv) (hp : x.pending = 0) (ht : x.trial = 1) (hh : hedge = false) (h3 : x.tries ≠ 3) :
    trialStep env hedge x s = ({ x with tries := x.tries + 1 }, false, s) := by
  rw [trialStep, if_neg (not_not_intro hp), if_pos ht, if_neg (by simp [hh, h3])]

theorem trialStep_settled (env : BootEnv) (hp : x.pending = 0) (ht : x.trial ≠ 1) : trialStep env hedge x s = (x, false, s) := by
  rw [trialStep, if_neg (not_not_intro hp), if_neg ht]

/-- The active slot is tried first, then the other; with neither the unit has no image. -/
theorem chooseImage_eq (env : BootEnv) (hedge : Bool) (s : State) :
    let r := trialStep env hedge s.selector s
    let a := tryImage env (r.1.active == 1) r.2.2
    let b := tryImage env (r.1.active == 0) a.2
    chooseImage env hedge s =
      if a.1.isSome then (⟨r.1, a.1, r.2.1⟩, a.2)
      else if b.1.isSome then (⟨{ r.1 with active := 1 - r.1.active, trial := 0 }, b.1, true⟩, b.2)
      else (⟨r.1, none, r.2.1⟩, b.2) := by
  dsimp only
  rw [chooseImage]
  rcases trialStep env hedge s.selector s with ⟨x, fb, t⟩
  dsimp only
  rcases tryImage env (x.active == 1) t with ⟨_ | i, u⟩
  · dsimp only
    rcases tryImage env (x.active == 0) u with ⟨_ | j, v⟩ <;> rfl
  · rfl

end Selection

/-- Settles O11: each clause by the case of START_UP, of the timeout or of the selection that it names. -/
theorem startUpAndSlotSelection : Obligations.StartUpAndSlotSelection := by
  refine ⟨⟨?runs, fun _ _ => exec_startUp_outsideReset, fun _ _ => exec_startUp_waits, ?confirm⟩,
    fun env hedge x s => ⟨trialStep_pending env, trialStep_failed env, trialStep_goesOn env, trialStep_settled env, chooseImage_eq env hedge s⟩⟩
  case runs =>
    intro env s hr hpath htest hbkp
    have hrun := exec_startUp_runs (env := env) hr hpath htest hbkp
    exact ⟨⟨_, hrun, startUp_started env s⟩, fun hf => hrun.trans (congrArg _ (startUp_fusesAstray hf))⟩
  case confirm =>
    intro i at_ s u hi hat hd ht hc ha hu
    rw [exec_trialConfirmTimeout_due hi hat hd ht hc ha, confirmBegin_taken (tester := false) hu]

end Sys2Proof.Machine
end

section
/-! PROOFS. What the chain carries: a frame heard is what its type does with the payload; what each type does with the image, a confirmation, a
profile, a plan, a report, a request, a response, a record, a frame to send again and a frame stored. -/

namespace Sys2Proof.Machine

/-! ### A frame heard (R78, R79) -/

section Heard

variable {typ : Nat} {f : SettFrame} {aborted z : Bool} {p : Bytes} {s t : State}

theorem next_settRx (h : settHear typ f aborted s = (some (p, z), t)) (act : Bytes → Bool → State → State) :
    (.next (settRx typ f aborted act s) : Host.Outcome State Fault Refusal) = .next (act p z t) := by
  rw [settRx, h]

theorem exec_imageOffer (h : settHear 0x08 f aborted s = (some (p, z), t)) :
    exec (.imageOffer f aborted) s = .next (offerTake p t) := next_settRx h _

theorem exec_imageData (h : settHear 0x09 f aborted s = (some (p, z), t)) :
    exec (.imageData f aborted) s = .next (dataTake p t) := next_settRx h _

theorem exec_imageNak_head (h : settHear 0x0A f aborted s = (some (p, z), t)) (hd : t.isHead = true) :
    exec (.imageNak f aborted) s = .next { t with sett := { t.sett with
      dataOut := t.sett.dataOut ++ (List.range (p.length / 4)).map (fun k => (some f.src, fieldBe p (4 * k) 4)) } } :=
  (next_settRx h _).trans (congrArg _ (if_neg (by simp [hd])))

theorem exec_imageConfirm (h : settHear 0x0B f aborted s = (some (p, z), t)) :
    exec (.imageConfirm f aborted) s = .next (confirmTake f.src (fieldBe p 0 1) t) := next_settRx h _

theorem exec_arbRaise_satellite (h : settHear 0x0C f aborted s = (some (p, z), t)) (hd : t.isHead = false) :
    exec (.arbRaise f aborted) s = .next (raiseArb (fieldBe p 0 4) { t with sett := { t.sett with absent := false } }) :=
  (next_settRx h _).trans (congrArg _ (if_neg (by simp [hd])))

theorem exec_profileFrame (h : settHear 0x0D f aborted s = (some (p, z), t)) :
    exec (.profileFrame f aborted) s = .next (profileTake (fieldBe p 0 1) t) := next_settRx h _

theorem exec_overhearPlan (h : settHear 0x0E f aborted s = (some (p, z), t)) :
    exec (.overhearPlan f aborted) s = .next (planTake (Plan.of p) t) := next_settRx h _

theorem exec_overhearReport_head (h : settHear 0x0F f aborted s = (some (p, z), t)) (hd : t.isHead = true) :
    exec (.overhearReport f aborted) s = .next (reportTake f.src p t) :=
  (next_settRx h _).trans (congrArg _ (if_pos (.inl hd)))

theorem exec_settRequest (h : settHear 0x10 f aborted s = (some (p, z), t)) :
    exec (.settRequest f aborted) s = .next (requestTake f p t) := next_settRx h _

theorem exec_settResponse_head (h : settHear 0x11 f aborted s = (some (p, z), t)) (hd : t.isHead = true) :
    exec (.settResponse f aborted) s = .next (responseTake f.src p t) :=
  (next_settRx h _).trans (congrArg _ (if_pos (.inl hd)))

theorem exec_ledgerRec (h : settHear 0x12 f aborted s = (some (p, z), t)) :
    exec (.ledgerRec f aborted) s = .next (recTake p z t) := next_settRx h _

theorem exec_faultReport_head (h : settHear 0x13 f aborted s = (some (p, z), t)) (hd : t.isHead = true) (hl : fieldBe p 0 2 ≠ 0x6106) :
    exec (.faultReport f aborted) s = .next (faultFrom f.src p t) :=
  (next_settRx h _).trans (congrArg _ ((if_pos (.inl hd)).trans (if_neg hl)))

theorem exec_retxFrame_own (h : settHear 0x14 f aborted s = (some (p, z), t)) (hn : fieldBe p 0 1 + 1 = t.unitNum) :
    exec (.retxFrame f aborted) s = .next (retxTake f.src (fieldBe p 1 4) t) :=
  (next_settRx h _).trans (congrArg _ (if_pos hn))

theorem exec_absentFrame_own (h : settHear 0x15 f aborted s = (some (p, z), t)) (hn : fieldBe p 0 1 + 1 = t.unitNum) :
    exec (.absentFrame f aborted) s = .next (absentTake (fieldBe p 1 4) (fieldBe p 5 1) t) :=
  (next_settRx h _).trans (congrArg _ (if_pos hn))

theorem exec_fobCopy_unit2 (h : settHear 0x1B f aborted s = (some (p, z), t)) (hn : t.unitNum = 2) (hd : t.isHead = false)
    (hr : fieldBe p 0 1 < 64) : exec (.fobCopy f aborted) s = .next (fobPageCheck (fieldBe p 0 1) (p.drop 1) { t with sett := { t.sett with
      fobCopy := (fieldBe p 0 1, p.drop 1) :: t.sett.fobCopy.filter (fun q => q.1 != fieldBe p 0 1) } }) :=
  (next_settRx h _).trans (congrArg _ (if_pos ⟨hn, hd, hr⟩))

end Heard

/-! ### The image on a satellite and on the head (R84, R85) -/

section Images

variable {p b : Bytes} {i : Image} {s : State}

/-- An offer noted: the digest of the head's image, and no fragment of it yet. -/
def offerNoted (p : Bytes) (s : State) : State :=
  { s with img := { s.img with rxDigest := sub p 4 32, rxSize := 0, rxData := [], rxAt := none } }

/-- A satellite that runs the image offered, and retains it, confirms at once. -/
theorem offerTake_runs (hd : s.isHead = false) (hb : s.imgAon.retained = some b) (hlen : b.length = fieldBe p 0 4)
    (hdig : sub b (b.length - 96) 32 = sub p 4 32) (hi : s.img.run = some i) (hoff : i.digest = sub p 4 32) :
    offerTake p s = serviceCheck (raiseMissed i.arb (sendConfirm 0 (offerNoted p s))) := by
  have hkept : s.imgAon.retained.filter (fun b => b.length == fieldBe p 0 4 && sub b (fieldBe p 0 4 - 96) 32 == sub p 4 32) = some b := by
    simp [hb, ← hlen, hdig]
  have hruns : (offerNoted p s).runsOffered = true := by simp [offerNoted, State.runsOffered, hi, hoff]
  have harb : ((offerNoted p s).img.run.map (·.arb)).getD 0 = i.arb := by simp [offerNoted, hi]
  refine (if_neg (c := (offerNoted p s).isHead = true) (ne_true_of_eq_false hd)).trans ?_
  rw [hkept, ← harb]
  exact if_pos hruns

/-- A satellite that retains no image awaits the fragments. -/
theorem offerTake_unretained (hd : s.isHead = false) (hb : s.imgAon.retained = none) : offerTake p s =
    { s with img := { s.img with rxSize := fieldBe p 0 4, rxDigest := sub p 4 32, rxData := [], rxAt := some s.now } }.setBit
      Reg.SETT_STAT_QUAR true := by
  refine (if_neg (c := (offerNoted p s).isHead = true) (ne_true_of_eq_false hd)).trans ?_
  rw [hb, Option.filter_none]

/-- A fragment of the image offered is kept; the last one missing completes the image. -/
theorem dataTake_fragment (hd : s.isHead = false) (hsize : s.img.rxSize ≠ 0) (hoff : fieldBe p 0 4 ∈ imageOffsets s.img.rxSize) :
    let u : State := { s with img := { s.img with
      rxData := (fieldBe p 0 4, p.drop 4) :: s.img.rxData.filter (fun d => d.1 != fieldBe p 0 4), rxAt := some s.now } }
    dataTake p s = if u.imageMissing = [] then imageWhole u else u :=
  if_neg (by simp [hd, hsize, hoff])

theorem exec_imageNakWindowEnd_due {at_ : Nat} (hat : s.img.rxAt = some at_) (hr : s.runs = true) (ha : s.after at_ 2000 = true) :
    exec .imageNakWindowEnd s = .next (settSend 0x0A false 1 .p3 ((s.imageMissing.take 255).flatMap (be 4))
      { s with img := { s.img with rxAt := some s.now } }) := by
  change execImageNakWindowEnd s = _
  simp [execImageNakWindowEnd, hat, hr, ha]

/-- A confirmation noted on the head, in place of an earlier one of the unit's. -/
def confirmNoted (unit code : Nat) (s : State) : State :=
  { s with img := { s.img with confirms := (unit, code) :: s.img.confirms.filter (fun q => q.1 != unit) } }

/-- A unit comes into service; `due` are the fob records that unit 2 is still to get (R91). -/
def intoService (unit : Nat) (due : List Nat) (s : State) : State :=
  setMap (maskWith (s.get Reg.SETT_MAP_V) unit)
    { s with sett := { s.sett with quarMask := maskWithout s.sett.quarMask unit, copyDue := due } }

/-- Once no unit lacks the image, none is broadcast, and step 9 is over (R61). -/
def confirmsEnd (s : State) : State :=
  if s.allConfirmed then
    bootFinish { s with sett := { s.sett with offerAt := none, dataOut := s.sett.dataOut.filter (fun d => d.1.isSome) } }
  else s

theorem confirmsEnd_waits (h : s.allConfirmed = false) : confirmsEnd s = s := if_neg (ne_true_of_eq_false h)

theorem confirmTake_head {unit code : Nat} (hd : s.isHead = true) : confirmTake unit code s = confirmsEnd
    (if code = 0 ∧ s.mapHas unit = false ∧ s.present unit = true ∧ s.sett.spliced / 2 ^ (unit - 1) % 2 = 0 then
      intoService unit (if unit = 2 then (List.range 64).filter (fun n => (s.fob n).isSome) else s.sett.copyDue) (confirmNoted unit code s)
    else confirmNoted unit code s) :=
  if_neg (by simp [hd])

/-- A rejection, and the confirmation of a unit in service, is only noted while another unit lacks the image. -/
theorem confirmTake_noted {unit code : Nat} (hd : s.isHead = true) (hn : code ≠ 0 ∨ s.mapHas unit = true)
    (hl : (confirmNoted unit code s).allConfirmed = false) : confirmTake unit code s = confirmNoted unit code s := by
  rw [confirmTake_head hd, if_neg, confirmsEnd_waits hl]
  rintro ⟨hc, hm, -⟩
  exact hn.elim (· hc) (fun h => Bool.false_ne_true (hm.symm.trans h))

/-- A confirmed unit comes into service. -/
theorem confirmTake_intoService {unit : Nat} (hd : s.isHead = true) (hm : s.mapHas unit = false) (hp : s.present unit = true)
    (hsp : s.sett.spliced / 2 ^ (unit - 1) % 2 = 0) (h2 : unit ≠ 2)
    (hl : (intoService unit s.sett.copyDue (confirmNoted unit 0 s)).allConfirmed = false) :
    confirmTake unit 0 s = intoService unit s.sett.copyDue (confirmNoted unit 0 s) := by
  rw [confirmTake_head hd, if_pos ⟨rfl, hm, hp, hsp⟩, if_neg h2, confirmsEnd_waits hl]

end Images

/-! ### Profiles, plans and reports (R85, R89, R215) -/

section Service

variable {p : Bytes} {s : State}

theorem profileTake_enters {code : Nat} (hd : s.isHead = false) (ha : s.isActing = false) (hh : s.bit Reg.SUP_HH_STAT_HALT = false)
    (hc : code < 7) (hp : s.profile ≠ 7) : profileTake code s = enterProfile code s := by
  have hawake : ¬ 128 ≤ code % 256 := by omega
  simp only [profileTake, hd, ha, hh, hawake, Nat.not_le.mpr hc, hp, Bool.false_eq_true, or_self, if_false]

theorem exec_profileRebroadcast (s : State) : exec .profileRebroadcast s = execProfileRebroadcast s := rfl

theorem exec_profileRebroadcast_due (hl : s.chainLead = true) (hp : s.profile ≠ 7) (ha : s.after s.sett.profAt 1000000 = true) :
    exec .profileRebroadcast s =
      .next (settSend 0x0D true 1 .p1 (be 1 s.profile) { s with sett := { s.sett with profAt := s.now } }) := by
  rw [exec_profileRebroadcast, execProfileRebroadcast, if_pos ⟨hl, hp, ha⟩]

theorem exec_profileRebroadcast_waits (ha : s.after s.sett.profAt 1000000 = false) : exec .profileRebroadcast s = .next s := by
  rw [exec_profileRebroadcast, execProfileRebroadcast, if_neg (by simp [ha])]

section Plans

variable {q : Plan} (hd : s.isHead = false) (hm : q.mask / 2 ^ (s.unitNum - 1) % 2 = 1)

include hd hm

/-- A listed unit in quarantine, or one that hears of the plan too late, reports LATE. -/
theorem planTake_late (hl : s.bit Reg.SETT_STAT_QUAR = true ∨ q.start ≤ s.chron.count.toNat) :
    planTake q s = settSend 0x0F false 1 .p0 (be 2 q.exch ++ be 1 1 ++ zeros 11) s := by
  rw [planTake, if_neg (by simp [hd, hm]), if_pos hl, reportOnly]

/-- A free lane listens for the exchange, and is held until it has passed. -/
theorem planTake_laneFree {n : Nat} (hq : s.bit Reg.SETT_STAT_QUAR = false) (hs : s.chron.count.toNat < q.start)
    (hn : [0, 1].find? (fun n => s.laneServes n && (s.lane n).held.isNone && (s.ohOn n).isNone) = some n) :
    let wait := q.start - s.chron.count.toNat
    let u := listenPass n 14 (s.airAbs + wait * 9375 + q.air) none
      (setOh n (some ⟨q, false, s.firstAerial n, none, [], []⟩) (laneHold n .p0 14 s))
    planTake q s = { u with sett := { u.sett with plans := (q, s.now + wait + exchangeLen q.grade 1 / 9375 + 1) :: u.sett.plans } } := by
  rw [planTake, if_neg (by simp [hd, hm]), if_neg (by simp [hq, hs]), hn]

end Plans

/-- A report joins the exchange that runs under its number. -/
theorem reportTake_runs {src : Nat} {x : Exch} (hst : fieldBe p 2 1 = 0) (hx : s.exOn 0 = some x) (hq : x.q1 % 65536 = fieldBe p 0 2) :
    reportTake src p s = setEx 0 (some { x with reports := x.reports ++ [⟨src, fieldBe p 3 1, toInt 32 (fieldBe p 4 4)⟩] }) s := by
  simp [reportTake, hst, hx, hq]

/-! ### Requests and responses (R78, R230) -/

section Requests

variable {f : SettFrame} (h1 : 1 ≤ fieldBe p 3 1) (h16 : fieldBe p 3 1 ≤ 16)

include h1 h16

/-- R78's layout: a count of 1 to 16 words, an op of 0 or 1, and the words of a write behind the eight bytes. -/
theorem request_wellFormed (hop : fieldBe p 2 1 ≤ 1) (hl : p.length = 8 + (if fieldBe p 2 1 = 1 then 4 * fieldBe p 3 1 else 0)) :
    ¬ (fieldBe p 3 1 = 0 ∨ 16 < fieldBe p 3 1 ∨ 1 < fieldBe p 2 1 ∨
      p.length ≠ 8 + (if fieldBe p 2 1 = 1 then 4 * fieldBe p 3 1 else 0)) := by
  omega

/-- A read is one access of master 3, answered with its status, and with the words where it is OK. -/
theorem requestTake_read (hl : p.length = 8) (hop : fieldBe p 2 1 = 0) :
    let r := fabReadN f.cls .sett (fieldBe p 4 4) (fieldBe p 3 1) s
    requestTake f p s = if r.1 = .silent then r.2.2 else
      settRespond f.src f.cls (fieldBe p 0 2) r.1 (if r.1 = .ok then r.2.1 else []) r.2.2 := by
  dsimp only
  rw [requestTake, if_neg (request_wellFormed h1 h16 (by omega) (by simp [hl, hop])), if_pos hop]
  rcases fabReadN f.cls .sett (fieldBe p 4 4) (fieldBe p 3 1) s with ⟨st, ws, t⟩
  cases st <;> rfl

/-- A write is one access of master 3, answered with its status. -/
theorem requestTake_write (hl : p.length = 8 + 4 * fieldBe p 3 1) (hop : fieldBe p 2 1 = 1) :
    let r := fabWriteN f.cls .sett (fieldBe p 4 4) ((List.range (fieldBe p 3 1)).map (fun k => fieldBe p (8 + 4 * k) 4)) s
    requestTake f p s = if r.1 = .silent then r.2 else settRespond f.src f.cls (fieldBe p 0 2) r.1 [] r.2 := by
  dsimp only
  rw [requestTake, if_neg (request_wellFormed h1 h16 (by omega) (by simp [hl, hop])), if_neg (by omega)]
  rcases fabWriteN f.cls .sett (fieldBe p 4 4) ((List.range (fieldBe p 3 1)).map (fun k => fieldBe p (8 + 4 * k) 4)) s with ⟨st, t⟩
  cases st <;> rfl

end Requests

/-- A RESPONSE with another status than OK ends the request that it answers. -/
theorem responseTake_failed {unit : Nat} {r : SettReq} (ht : fieldBe p 0 2 ≠ 0xFFFF) (hst : fieldBe p 2 1 ≠ 0)
    (hr : s.sett.reqs.find? (fun q => q.tag == fieldBe p 0 2 && q.unit == unit) = some r) :
    responseTake unit p s = { s with sett := { s.sett with
      reqs := s.sett.reqs.filter (fun q => q.tag != fieldBe p 0 2),
      rsps := ((fieldBe p 0 2, fieldBe p 2 1, p.drop 4) :: s.sett.rsps).take 16 } } := by
  rw [responseTake, if_neg ht, hr]
  exact if_neg (fun h => hst h.1)

/-! ### Records and faults of satellites (R92, R286, R443) -/

theorem recTake_head {z : Bool} (hd : s.isHead = true) : recTake p z s =
    if z then { s with sett := { s.sett with handed := s.sett.handed ++ [Rec.ofTail (p.take 40)], enumAt := some s.now } }
    else ledgerPut (Rec.ofTail (p.take 40)) s := by
  cases z <;> simp [recTake, hd]

theorem faultFrom_head {unit : Nat} (ha : s.isActing = false) :
    faultFrom unit p s = ledgerPut { s.mkRec 0x41 p with src := unit } s := by
  simp [faultFrom, ha]

/-! ### RETX, ABSENT and stored frames (R79, R80, R90) -/

/-- A frame sent within 5 ms, neither sealed nor under EPOCH = 0, goes out again, a broadcast to the unit that asks alone. -/
theorem retxTake_unsealed {unit ctr at_ : Nat} {g : SettFrame} {key : Bytes}
    (hg : s.sett.sent.find? (fun q => q.2.ctr == ctr && s.within q.1 5000) = some (at_, g)) (hk : s.slotKey 2 = some key)
    (hseal : settSealed g.typ = false) (hc : ctr ≠ 0) :
    retxTake unit ctr s = settSend g.typ false (if g.bc then unit else g.dst) g.cls g.payload s := by
  simp [retxTake, hg, hk, hseal, hc]

theorem absentTake_request {ctr at_ : Nat} {g : SettFrame}
    (hg : s.sett.sent.find? (fun q => q.2.ctr == ctr && q.2.typ == 0x10) = some (at_, g)) :
    absentTake ctr 0x10 s = reqComplete (fun r => r.tag == fieldBe g.payload 0 2) .off s := by
  rw [absentTake, if_neg (not_not_intro rfl), hg]

section Stored

variable {down : Bool} {x : Bool × SettFrame} {at_ n : Nat}

@[simp] theorem portBusy_forwarded : (portBusy down at_ n s).sett.forwarded = s.sett.forwarded := by cases down <;> rfl
@[simp] theorem portBusy_stored : (portBusy down at_ n s).sett.stored = s.sett.stored := by cases down <;> rfl
@[simp] theorem portBusy_regs : (portBusy down at_ n s).regs = s.regs := by cases down <;> rfl
@[simp] theorem portBusy_queues : (portBusy down at_ n s).queues = s.queues := by cases down <;> rfl

@[simp] theorem storedLeave_forwarded : (storedLeave down x s).sett.forwarded = (x :: s.sett.forwarded).take 16 := portBusy_forwarded
@[simp] theorem storedLeave_regs : (storedLeave down x s).regs = s.regs := portBusy_regs
@[simp] theorem storedLeave_queues : (storedLeave down x s).queues = s.queues := portBusy_queues

/-- With nothing behind the store, the frame's place stays free. -/
theorem storedLeave_stored (hl : s.sett.late = []) : (storedLeave down x s).sett.stored = s.sett.stored.erase x := by
  simp [storedLeave, hl]

theorem exec_storedFrameForward (down : Bool) (s : State) : exec (.storedFrameForward down) s = execStoredFrameForward down s := rfl

theorem exec_storedFrameForward_leaves (hx : s.sett.stored.find? (fun q => q.1 == down) = some x) (hr : s.runs = true)
    (hl : s.domOn .lnk = true) (hi : s.isIsolated .sett = false) (ho : (s.port down).opens down s.now = true) :
    exec (.storedFrameForward down) s = .next (storedLeave down x s) := by
  simp [exec_storedFrameForward, execStoredFrameForward, hx, hr, hl, hi, ho]

theorem exec_storedFrameForward_waits (ho : (s.port down).opens down s.now = false) : exec (.storedFrameForward down) s = .next s := by
  rw [exec_storedFrameForward, execStoredFrameForward]
  cases s.sett.stored.find? (fun q => q.1 == down) with
  | none => rfl
  | some x => exact if_pos (.inr (.inr (.inr ho)))

end Stored

end Service

/-- Settles O14: each frame by what its type does, each period by its condition. -/
theorem chainImagesAndTraffic : Obligations.ChainImagesAndTraffic := by
  refine ⟨⟨?offerRuns, ?offerUnretained, ?data, ?nakWindow, fun _ _ _ _ _ _ => exec_imageNak_head, ?confirm, fun _ _ _ _ _ _ =>
      exec_arbRaise_satellite, ?profile, fun _ => exec_profileRebroadcast_due, fun _ => exec_profileRebroadcast_waits⟩,
    ?planLate, ?planLane, ?report, ?request, ?response, ?record, ?fault, ?retx, ?absent, ?stored,
    fun _ _ => exec_storedFrameForward_waits, fun _ _ _ _ _ _ => exec_fobCopy_unit2⟩
  case offerRuns =>
    intro f aborted p z b i s t h hd hb hlen hdig hi hoff
    rw [exec_imageOffer h, offerTake_runs hd hb hlen hdig hi hoff]
    rfl
  case offerUnretained =>
    intro f aborted p z s t h hd hb
    rw [exec_imageOffer h, offerTake_unretained hd hb]
  case data =>
    intro f aborted p z s t h hd hsize hoff
    rw [exec_imageData h, dataTake_fragment hd hsize hoff]
  case nakWindow =>
    intro at_ s hat hr ha
    exact exec_imageNakWindowEnd_due hat hr ha
  case confirm =>
    intro f aborted p z s t h hd
    rw [exec_imageConfirm h]
    constructor
    · intro hn hl
      exact congrArg _ (confirmTake_noted hd hn hl)
    · intro hc hm hp hsp h2
      rw [hc]
      exact fun hl => congrArg _ (confirmTake_intoService hd hm hp hsp h2 hl)
  case profile =>
    intro f aborted p z s t h hd ha hh hc hp
    rw [exec_profileFrame h, profileTake_enters hd ha hh hc hp]
  case planLate =>
    intro f aborted p z s t h hd hm hl
    rw [exec_overhearPlan h, planTake_late hd hm hl]
  case planLane =>
    intro f aborted p z n s t h hd hm hq hs hn
    rw [exec_overhearPlan h, planTake_laneFree hd hm hq hs hn]
  case report =>
    intro f aborted p z x s t h hd hst hx hq
    rw [exec_overhearReport_head h hd, reportTake_runs hst hx hq]
  case request =>
    intro f aborted p z s t h h1 h16
    rw [exec_settRequest h]
    exact ⟨fun hl hop => congrArg _ (requestTake_read h1 h16 hl hop), fun hl hop => congrArg _ (requestTake_write h1 h16 hl hop)⟩
  case response =>
    intro f aborted p z r s t h hd ht hst hr
    rw [exec_settResponse_head h hd, responseTake_failed ht hst hr]
  case record =>
    intro f aborted p z s t h hd
    rw [exec_ledgerRec h, recTake_head hd]
  case fault =>
    intro f aborted p z s t h hd ha hl
    rw [exec_faultReport_head h hd hl, faultFrom_head ha]
  case retx =>
    intro f aborted p z at_ g key s t h hn hg hk hseal hc
    rw [exec_retxFrame_own h hn, retxTake_unsealed hg hk hseal hc]
  case absent =>
    intro f aborted p z at_ g s t h hn htyp hg
    rw [exec_absentFrame_own h hn, htyp, absentTake_request hg]
  case stored =>
    intro down f s hx hr hl hi ho
    exact ⟨_, exec_storedFrameForward_leaves hx hr hl hi ho, storedLeave_forwarded, storedLeave_stored, storedLeave_regs, storedLeave_queues⟩

end Sys2Proof.Machine
end

section
/-! PROOFS. Transfers and routines of the diagnostic service: a message that its service takes is served and the port goes on; what a download, an
upload and each routine answer. -/

namespace Sys2Proof.Machine

section Diagnostics

variable {m : Bytes} {at_ : Nat} {s t u : State}

/-! ### A message served (R397, R401) -/

section Served

variable {pick : Bytes → Bool} (h : diagPop (diagSettle s) = some (m, at_, t)) (hp : pick m = true)

include h hp

theorem diagServe_taken (f : Nat → Bytes → State → State) : diagServe pick f s = diagSettle (f at_ (m.drop 1) t) := by
  simp only [diagServe, h, hp, if_true]

/-- A service that has its random bytes answers. -/
theorem diagServeRand_answered {f : Bytes → State → Bool × State} (hf : f (m.drop 1) t = (true, u)) :
    diagServeRand pick f s = diagSettle u := by
  simp only [diagServeRand, h, hp, hf, if_true]

end Served

/-- A routine is served with its option record. -/
theorem routineServe_taken {rid : Nat} (h : diagPop (diagSettle s) = some (m, at_, t)) (hr : isRoutine rid m = true)
    (f : Nat → Bytes → State → State) : routineServe rid f s = diagSettle (f at_ (m.drop 4) t) := by
  rw [routineServe, diagServe_taken h hr, List.drop_drop]

theorem fieldBe_drop (b : Bytes) (k i n : Nat) : fieldBe (b.drop k) i n = fieldBe b (k + i) n := by
  rw [fieldBe, sub, List.drop_drop, fieldBe, sub]

/-! ### Downloads and uploads (R55, R56, R301, R400, R401) -/

section Transfers

variable {b rest : Bytes} {slotB held : Bool} {size got next n : Nat}

theorem State.downloadRefused_iff (s : State) : s.downloadRefused = true ↔
    s.selector.trial = 1 ∨ (s.lc ≠ 2 ∧ s.lc ≠ 3) ∨ ∃ b size got n, s.can.xfer = some (.download b size got n) := by
  rw [State.downloadRefused]
  cases hx : s.can.xfer with
  | none => simp
  | some x => cases x <;> simp

section Requested

variable (h : diagPop (diagSettle s) = some (m, at_, t))

include h

theorem exec_requestDownload_refused (hs : isService 0x34 m = true) (hr : t.downloadRefused = true) :
    exec .requestDownload s = .next (diagSettle (diagNeg 0x34 0x22 t)) := by
  change execRequestDownload s = _
  simp only [execRequestDownload, diagServe_taken h hs, hr, if_true]

theorem exec_requestDownload_opens (hs : isService 0x34 m = true) (hr : t.downloadRefused = false)
    (hu : submitGroup .p3 ⟨[{ t.selector with pending := 0 }.write], .downloadOpen⟩ t = (.taken, u)) :
    exec .requestDownload s =
      .next (diagSettle { u with can := { u.can with routine := some (.downloadOpen (fieldBe (m.drop 1) 6 4)) } }) := by
  change execRequestDownload s = _
  simp only [execRequestDownload, diagServe_taken h hs, hr, hu, Bool.false_eq_true, if_false]

theorem exec_transferData (hs : isService 0x36 m = true) : exec .transferData s = .next (diagSettle (transferBlock (m.drop 1) t)) := by
  change execTransferData s = _
  rw [execTransferData, diagServe_taken h hs]

theorem exec_requestTransferExit_early (hs : isService 0x37 m = true) (hx : t.can.xfer = some (.download slotB size got n))
    (hg : got < size) : exec (.requestTransferExit held) s = .next (diagSettle (diagNeg 0x37 0x24 t)) := by
  change execRequestTransferExit held s = _
  simp only [execRequestTransferExit, diagServe_taken h hs, hx, hg, if_true]

theorem exec_requestTransferExit_download (hs : isService 0x37 m = true) (hx : t.can.xfer = some (.download slotB size got n))
    (hg : size ≤ got) : exec (.requestTransferExit held) s = .next (diagSettle (downloadEnd slotB held t)) := by
  change execRequestTransferExit held s = _
  simp only [execRequestTransferExit, diagServe_taken h hs, hx, Nat.not_lt.mpr hg, if_false]

theorem exec_requestTransferExit_upload (hs : isService 0x37 m = true) (hx : t.can.xfer = some (.upload rest n)) :
    exec (.requestTransferExit held) s =
      .next (diagSettle (diagPos 0x37 [] ({ t with can := { t.can with xfer := none } }.setBit Reg.LDG_STAT_EXPORT false))) := by
  change execRequestTransferExit held s = _
  simp only [execRequestTransferExit, diagServe_taken h hs, hx]

/-- An archive frame is delivered to the end of its 0x10_0000 bytes. -/
theorem exec_requestUpload_archive (hs : isService 0x35 m = true) (hx : t.can.xfer = none) (hf : fieldBe (m.drop 1) 0 1 = 1) {img : Bytes}
    (hi : t.nand.archive[fieldBe (m.drop 1) 2 4]? = some img) :
    exec .requestUpload s = .next (diagSettle (exportBegin (img ++ List.replicate (0x100000 - img.length) 0xFF) t)) := by
  change execRequestUpload s = _
  simp only [execRequestUpload, diagServe_taken h hs, hx, hf, hi, Option.isSome_none, Bool.false_eq_true, if_false, if_true]

theorem exec_requestUpload_records (hs : isService 0x35 m = true) (hx : t.can.xfer = none) (hf : fieldBe (m.drop 1) 0 1 ≠ 1)
    (hr : t.bit Reg.LDG_STAT_READY = true) (hn : fieldBe (m.drop 1) 2 4 + fieldBe (m.drop 1) 6 4 / 64 ≤ t.nextNum) :
    let r := readRecs (fieldBe (m.drop 1) 6 4 / 64) (fieldBe (m.drop 1) 2 4) (sectorProgram t)
    exec .requestUpload s = .next (diagSettle (exportBegin r.1 r.2)) := by
  change execRequestUpload s = _
  simp only [execRequestUpload, diagServe_taken h hs, hx, hf, hr, Nat.not_lt.mpr hn, Option.isSome_none, Bool.false_eq_true, Bool.true_eq_false,
    if_false]

end Requested

theorem transferBlock_none (hx : s.can.xfer = none) : transferBlock b s = diagNeg 0x36 0x24 s := by
  simp only [transferBlock, hx]

theorem transferBlock_download_wrong (hx : s.can.xfer = some (.download slotB size got next)) (hc : fieldBe b 0 1 ≠ next) :
    transferBlock b s = diagNeg 0x36 0x73 s := by
  simp only [transferBlock, hx]
  exact if_pos hc

@[simp] theorem norAppend_can (slotB : Bool) (b : Bytes) (s : State) : (norAppend slotB b s).can = s.can := by cases slotB <;> rfl

/-- A block with the counter awaited is appended to the slot, and the counter goes on. -/
theorem transferBlock_download (hx : s.can.xfer = some (.download slotB size got next)) (hc : fieldBe b 0 1 = next) (hb : b.drop 1 ≠ [])
    (hmax : (b.drop 1).length ≤ 2048) (hsize : got + (b.drop 1).length ≤ size) :
    transferBlock b s = diagPos 0x36 (be 1 next)
      { norAppend slotB (b.drop 1) s with
        can := { s.can with xfer := some (.download slotB size (got + (b.drop 1).length) ((next + 1) % 256)) } } := by
  have hok : ¬ (b.drop 1 = [] ∨ 2048 < (b.drop 1).length ∨ size < got + (b.drop 1).length) := by
    simp only [hb, false_or, not_or]
    omega
  simp only [transferBlock, hx, hc, norAppend_can]
  rw [if_neg (not_not_intro rfl), if_neg hok]

theorem transferBlock_upload (hx : s.can.xfer = some (.upload rest next)) (hc : fieldBe b 0 1 = next) (hr : rest ≠ []) :
    transferBlock b s = diagPos 0x36 (be 1 next ++ rest.take 2048)
      { s with can := { s.can with xfer := some (.upload (rest.drop 2048) ((next + 1) % 256)) } } := by
  simp only [transferBlock, hx, hc]
  rw [if_neg (not_not_intro rfl), if_neg hr]

theorem downloadEnd_rejected {c : Nat} (hv : stagedVerdict slotB held { s with can := { s.can with xfer := none } } = (some c, t)) :
    downloadEnd slotB held s = diagNeg 0x37 0x72 (t.put (rejFld slotB) c) := by
  rw [downloadEnd, hv]

theorem downloadEnd_pending (hv : stagedVerdict slotB held { s with can := { s.can with xfer := none } } = (none, t))
    (hu : submitGroup .p3 ⟨[{ t.selector with pending := if slotB then 2 else 1 }.write], .markPending⟩ (t.put (rejFld slotB) 0) =
      (.taken, u)) :
    downloadEnd slotB held s = { u with can := { u.can with routine := some .transferExit } } := by
  simp only [downloadEnd, hv, hu]

end Transfers

/-! ### The routines (Table 17-4) -/

section Routines

/-- A start of routine 0xF003 bars or unbars by its second option byte. -/
theorem isBar_of_routine {v : Nat} (hr : isRoutine 0xF003 m = true) (hv : fieldBe m 5 1 = v) : isBar v m = true := by
  simp [isBar, hr, hv]

variable (h : diagPop (diagSettle s) = some (m, at_, t))

include h

theorem exec_confirmImage_noTrial (hr : isRoutine 0xF001 m = true) (ht : t.bit Reg.MEM_IMG_STAT_TRIAL = false) :
    exec .confirmImage s = .next (diagSettle (diagNeg 0x31 0x22 t)) := by
  change execConfirmImage s = _
  simp only [execConfirmImage, routineServe_taken h hr, ht, if_true]

theorem exec_confirmImage_begins (hr : isRoutine 0xF001 m = true) (ht : t.bit Reg.MEM_IMG_STAT_TRIAL = true)
    (hc : t.img.confirming = false) (hu : confirmBegin true t = (true, u)) :
    exec .confirmImage s = .next (diagSettle { u with can := { u.can with routine := some .confirm } }) := by
  change execConfirmImage s = _
  simp only [execConfirmImage, routineServe_taken h hr, ht, hc, hu, Bool.true_eq_false, Bool.false_eq_true, if_false]

theorem exec_enrolFob_notAllowed (hr : isRoutine 0xF002 m = true) (ha : t.enrolAllowed = false) :
    exec .enrolFob s = .next (diagSettle (diagNeg 0x31 0x22 t)) := by
  change execEnrolFob s = _
  simp only [execEnrolFob, routineServe_taken h hr, ha, true_or, if_true]

theorem exec_enrolFob_starts (hr : isRoutine 0xF002 m = true) (ha : t.enrolAllowed = true) (he : t.ses.enrol = none)
    (hu : enrolStart (fieldBe (m.drop 4) 0 4) (fieldBe (m.drop 4) 20 8) (fieldBe (m.drop 4) 28 2) (sub (m.drop 4) 4 16) t = some u) :
    exec .enrolFob s = .next (diagSettle (diagNeg 0x31 0x78 { u with can := { u.can with routine := some .enrol } })) := by
  change execEnrolFob s = _
  simp only [execEnrolFob, routineServe_taken h hr, ha, he, hu, Option.isSome_none, Bool.true_eq_false, Bool.false_eq_true, or_self, if_false]

theorem exec_barFob (hr : isRoutine 0xF003 m = true) (hv : fieldBe m 5 1 = 1) {r : FobRec} (hf : t.fob (fieldBe (m.drop 4) 0 1) = some r) :
    exec .barFob s = .next (diagSettle (fobRewrite 0xF003 (fieldBe (m.drop 4) 0 1) { r with state := 2 }
      (fobEvent 3 (fieldBe (m.drop 4) 0 1) r) t)) := by
  change execBarFob s = _
  rw [fieldBe_drop] at hf ⊢
  simp only [execBarFob, diagServe_taken h (isBar_of_routine hr hv), fieldBe_drop, hf]

theorem exec_barFob_none (hr : isRoutine 0xF003 m = true) (hv : fieldBe m 5 1 = 1) (hf : t.fob (fieldBe (m.drop 4) 0 1) = none) :
    exec .barFob s = .next (diagSettle (diagNeg 0x31 0x22 t)) := by
  change execBarFob s = _
  rw [fieldBe_drop] at hf
  simp only [execBarFob, diagServe_taken h (isBar_of_routine hr hv), fieldBe_drop, hf]

theorem exec_unbarFob (hr : isRoutine 0xF003 m = true) (hv : fieldBe m 5 1 = 0) {r : FobRec} (hf : t.fob (fieldBe (m.drop 4) 0 1) = some r)
    {e : Bytes} (he : freeBytes 1 t = (e, u)) :
    exec .unbarFob s = .next (diagSettle (fobRewrite 0xF003 (fieldBe (m.drop 4) 0 1) { r with state := 1 }
      (e ++ (fobEvent 0 (fieldBe (m.drop 4) 0 1) r).drop 1) u)) := by
  change execUnbarFob s = _
  rw [fieldBe_drop] at hf ⊢
  simp only [execUnbarFob, diagServe_taken h (isBar_of_routine hr hv), fieldBe_drop, hf, he]

theorem exec_emptyFobRecord (hr : isRoutine 0xF004 m = true) :
    exec .emptyFobRecord s = .next (diagSettle (fobRewrite 0xF004 (fieldBe (m.drop 4) 0 1) FobRec.empty
      (fobEvent 4 (fieldBe (m.drop 4) 0 1) ((t.fob (fieldBe (m.drop 4) 0 1)).getD FobRec.empty)) t)) := by
  change execEmptyFobRecord s = _
  rw [execEmptyFobRecord, routineServe_taken h hr]

theorem exec_clearCounters (hr : isRoutine 0xF005 m = true) :
    exec .clearCounters s = .next (diagSettle (routineOk 0xF005 []
      ((((clears.map (·.1)).dedup.foldl (fun s a => clearWrite a 0xFFFFFFFF s) t).put Reg.SUP_RGN_STAT_REFUSED 0).put
        Reg.SUP_RGN_STAT_ESC 0))) := by
  change execClearCounters s = _
  rw [execClearCounters, routineServe_taken h hr]

section CoilTests

variable (hr : isRoutine 0xF006 m = true) (hn : fieldBe (m.drop 4) 0 1 = t.unitNum)

include hr hn

theorem exec_coilTestRoutine_asked (remote : List (Nat × Nat × Nat))
    (hu : askTests (maskChans (fieldBe (m.drop 4) 1 2)) .p3 .can t = (true, u)) :
    exec (.coilTestRoutine remote) s = .next (diagSettle (diagNeg 0x31 0x78
      { u with can := { u.can with routine := some (.coil (maskChans (fieldBe (m.drop 4) 1 2))) } })) := by
  change execCoilTestRoutine remote s = _
  simp only [execCoilTestRoutine, routineServe_taken h hr, hn, hu, if_true]

theorem exec_coilTestRoutine_busy (remote : List (Nat × Nat × Nat))
    (hu : askTests (maskChans (fieldBe (m.drop 4) 1 2)) .p3 .can t = (false, u)) :
    exec (.coilTestRoutine remote) s = .next (diagSettle (diagNeg 0x31 0x21 u)) := by
  change execCoilTestRoutine remote s = _
  simp only [execCoilTestRoutine, routineServe_taken h hr, hn, hu, if_true]

end CoilTests

theorem exec_formatLedger (hr : isRoutine 0xF008 m = true) :
    exec .formatLedger s = .next (diagSettle (if t.lc ≠ 3 then diagNeg 0x31 0x22 t else formatNow t)) := by
  change execFormatLedger s = _
  rw [execFormatLedger, routineServe_taken h hr]

section Verification

variable (hr : isRoutine 0xF009 m = true) {key : Bytes} (hk : t.slotKey 5 = some key)

include hr hk

theorem exec_verifyLedger (hready : t.bit Reg.LDG_STAT_READY = true) (hle : fieldBe (m.drop 4) 0 4 ≤ fieldBe (m.drop 4) 4 4)
    (hlt : fieldBe (m.drop 4) 4 4 < t.nextNum) :
    exec .verifyLedger s = .next (diagSettle (routineOk 0xF009
      (be 4 (t.verifyRange key (fieldBe (m.drop 4) 0 4) (fieldBe (m.drop 4) 4 4))) t)) := by
  change execVerifyLedger s = _
  simp only [execVerifyLedger, routineServe_taken h hr, hk, hready, Nat.not_le.mpr hlt, Nat.not_lt.mpr hle, Bool.true_eq_false, or_self, if_false]

theorem exec_verifyLedger_unsealed (hge : t.nextNum ≤ fieldBe (m.drop 4) 4 4) :
    exec .verifyLedger s = .next (diagSettle (diagNeg 0x31 0x22 t)) := by
  change execVerifyLedger s = _
  simp only [execVerifyLedger, routineServe_taken h hr, hk, hge, or_true, if_true]

end Verification

theorem exec_attestSlot3 (hr : isRoutine 0xF00A m = true) (hkey : keyCheck 0 [4] (some 10) 8 .session .internal t = (none, u))
    (hu : u.den.unusable.contains 3 = false) (hcrc : slotCrcOk (u.slotBytes 3) = true) {sig : Bytes} {v : State}
    (ha : attest 3 (sub (m.drop 1) 3 16) u = (.bytes sig, v)) :
    exec .attestSlot3 s = .next (diagSettle (routineOk 0xF00A (u.statement 3 (sub (m.drop 1) 3 16) ++ sig) v)) := by
  change execAttestSlot3 s = _
  rw [execAttestSlot3, diagServeRand_answered h hr]
  simp only [hkey, hu, hcrc, ha, Bool.false_eq_true, Bool.true_eq_false, or_self, if_false]

end Routines

end Diagnostics

/-- Settles O49: each service and routine by the case of its message. -/
theorem diagnosticTransfers : Obligations.DiagnosticTransfers := by
  refine ⟨?opening, State.downloadRefused_iff, fun _ _ _ _ => exec_transferData, fun _ _ => transferBlock_none, ?download,
    fun _ _ _ _ => transferBlock_upload, ?exit, fun _ _ _ _ _ => ⟨fun _ => downloadEnd_rejected, downloadEnd_pending⟩, ?upload, ?routines⟩
  case opening =>
    intro m at_ s t h hs
    exact ⟨exec_requestDownload_refused h hs, fun _ => exec_requestDownload_opens h hs⟩
  case download =>
    intro b slotB size got next s hx
    exact ⟨transferBlock_download_wrong hx, transferBlock_download hx⟩
  case exit =>
    intro held m at_ s t h hs
    exact ⟨fun _ _ _ _ hx => ⟨exec_requestTransferExit_early h hs hx, exec_requestTransferExit_download h hs hx⟩,
      fun _ _ => exec_requestTransferExit_upload h hs⟩
  case upload =>
    intro m at_ s t h hs hx
    exact ⟨fun hf _ => exec_requestUpload_archive h hs hx hf, exec_requestUpload_records h hs hx⟩
  case routines =>
    intro rid m at_ s t h hr
    refine ⟨?noTrial, ?confirm, ?noEnrol, ?enrol, ?bar, ?barNone, ?empty, ?clear, ?coils, ?format, ?verify, ?attest⟩
    case noTrial => rintro rfl; exact exec_confirmImage_noTrial h hr
    case confirm => rintro rfl ht hc u; exact exec_confirmImage_begins h hr ht hc
    case noEnrol => rintro rfl; exact exec_enrolFob_notAllowed h hr
    case enrol => rintro rfl ha he u; exact exec_enrolFob_starts h hr ha he
    case bar =>
      rintro rfl r hf
      exact ⟨fun hv => exec_barFob h hr hv hf, fun hv => ⟨_, _, rfl, exec_unbarFob h hr hv hf rfl⟩⟩
    case barNone => rintro rfl hf hv; exact exec_barFob_none h hr hv hf
    case empty => rintro rfl; exact exec_emptyFobRecord h hr
    case clear => rintro rfl; exact exec_clearCounters h hr
    case coils =>
      rintro rfl hn rs ok u hu
      exact ⟨fun ho => exec_coilTestRoutine_asked h hr hn rs (ho ▸ hu), fun ho => exec_coilTestRoutine_busy h hr hn rs (ho ▸ hu)⟩
    case format =>
      rintro rfl
      rw [exec_formatLedger h hr]
      exact ⟨fun hl => by rw [if_pos hl], fun hl => by rw [if_neg (not_not_intro hl)]⟩
    case verify =>
      rintro rfl key hk hready hle
      exact ⟨exec_verifyLedger h hr hk hready hle, exec_verifyLedger_unsealed h hr hk⟩
    case attest =>
      rintro rfl u hkey hu hcrc sig v
      exact exec_attestSlot3 h hr hkey hu hcrc

end Sys2Proof.Machine
end

section
/-! PROOFS. Reset sources: what a reset that leaves the always-on region running keeps of the state and of the registers, what it clears, and
what each source makes of the state. -/

namespace Sys2Proof.Machine

/-! ### The register map across a reset (R58) -/

/-- A run of writes in rising order: each address reads what the run gives it, the others read as before. -/
theorem regGet_regFold (a : Nat) : ∀ {l : List (Nat × Word)} {lo : Nat} {m : List (Nat × Word)}, regWfFrom lo l = true → regsWf m = true →
    regGet (l.foldl (fun m p => regSet m p.1 p.2) m) a = if regGet l a = 0 then regGet m a else regGet l a
  | [], _, _, _, _ => rfl
  | (b, v) :: l, lo, m, hl, hm => by
    simp only [regWfFrom, Bool.and_eq_true, decide_eq_true_eq] at hl
    obtain ⟨⟨-, hv⟩, hl⟩ := hl
    have hset : regGet (regSet m b v) a = if a = b then v else regGet m a := regGet_regSet b a v hm
    rw [List.foldl_cons, regGet_regFold a hl (regSet_wf b v hm), regGet, hset]
    rcases Nat.lt_trichotomy b a with h | rfl | h
    · simp only [h.ne, h.ne', h.not_gt, if_false]
    · rw [regGet_below hl (Nat.lt_succ_self b), if_pos rfl, if_pos rfl, if_pos rfl, if_neg hv]
    · rw [regGet_below hl (Nat.lt_succ_of_lt h), if_pos rfl, if_neg h.ne, if_neg h.ne', if_pos h, if_pos rfl]

/-- An entry that the filter drops reads 0. -/
theorem regGet_filter (p : Nat → Bool) (a : Nat) : ∀ {l : List (Nat × Word)} {lo : Nat}, regWfFrom lo l = true →
    regGet (l.filter (fun e => p e.1)) a = if p a then regGet l a else 0
  | [], _, _ => (ite_self _).symm
  | (b, v) :: l, lo, hl => by
    simp only [regWfFrom, Bool.and_eq_true, decide_eq_true_eq] at hl
    obtain ⟨-, hl⟩ := hl
    have ih := regGet_filter p a hl
    have hbelow : a ≤ b → regGet l a = 0 := fun h => regGet_below hl (Nat.lt_succ_of_le h)
    rw [List.filter_cons, regGet]
    cases hb : p b with
    | true =>
      rw [if_pos rfl, regGet, ih]
      rcases eq_or_ne b a with rfl | hba
      · rw [if_pos rfl, if_pos rfl, if_pos hb]
      · rw [if_neg hba, if_neg hba]
        split_ifs <;> rfl
    | false =>
      rw [if_neg Bool.false_ne_true, ih]
      split_ifs with ha hba hab
      · exact absurd (hba ▸ ha) (hb ▸ Bool.false_ne_true)
      · exact hbelow hab.le
      · rfl
      · rfl

theorem regWfFrom_filter (p : Nat → Bool) : ∀ {l : List (Nat × Word)} {lo : Nat}, regWfFrom lo l = true →
    regWfFrom lo (l.filter (fun e => p e.1)) = true
  | [], _, _ => rfl
  | (b, v) :: l, lo, hl => by
    simp only [regWfFrom, Bool.and_eq_true, decide_eq_true_eq] at hl
    obtain ⟨⟨hlo, hv⟩, hl⟩ := hl
    have ih := regWfFrom_filter p hl
    rw [List.filter_cons]
    split_ifs
    · simp only [regWfFrom, hlo, hv, ih, ne_eq, not_false_eq_true, decide_true, Bool.and_self]
    · exact regWfFrom_mono (Nat.le_succ_of_le hlo) ih

/-- R58: a register of the always-on region keeps its word, every other takes its reset value. -/
theorem regGet_regsKept {old : List (Nat × Word)} (h : regsWf old = true) (a : Nat) :
    regGet (regsKept old) a = if aonReg a then regGet old a else regGet regsReset a := by
  rw [regsKept, regGet_regFold a (regWfFrom_filter aonReg h) (regWfFrom_filter (fun b => !aonReg b) regsReset_wf),
    regGet_filter aonReg a h, regGet_filter (fun b => !aonReg b) a regsReset_wf]
  cases aonReg a with
  | true => exact ite_eq_right_iff.mpr Eq.symm
  | false => exact if_pos rfl

/-! ### A register that an update does not name -/

section Registers

variable {s : State} {a : Nat}

theorem State.rd_put_apart {f : Fld} (v : Nat) (h : regsWf s.regs = true) (ha : a ≠ f.reg) : (s.put f v).rd a = s.rd a :=
  (State.rd_wr s f.reg a _ h).trans (if_neg ha)

theorem State.rd_wr_apart {b : Nat} (v : Word) (h : regsWf s.regs = true) (ha : a ≠ b) : (s.wr b v).rd a = s.rd a :=
  (State.rd_wr s b a v h).trans (if_neg ha)

theorem State.rd_setBit_apart {f : Fld} (b : Bool) (h : regsWf s.regs = true) (ha : a ≠ f.reg) : (s.setBit f b).rd a = s.rd a :=
  State.rd_put_apart _ h ha

theorem State.regsWf_setBit (f : Fld) (b : Bool) (h : regsWf s.regs = true) : regsWf (s.setBit f b).regs = true :=
  State.regsWf_put s f _ h

/-- A field whose register reads the same reads the same. -/
theorem State.get_of_rd {t : State} {f : Fld} (h : t.rd f.reg = s.rd f.reg) : t.get f = s.get f := congrArg f.get h

theorem State.get_setBit_true {f : Fld} (h : regsWf s.regs = true) (hlo : f.lo < 32) (hw : f.width = 1) : (s.setBit f true).get f = 1 := by
  have hf : f.lo + f.width ≤ 32 := by omega
  rw [show (s.setBit f true).get f = (s.put f 1).get f from rfl, State.get_put_same s f 1 h hf, hw]
  rfl

theorem runLevel_rd (l : Nat) (h : regsWf s.regs = true) (ha : a ≠ Reg.PWR_PL) : (runLevel l s).rd a = s.rd a := by
  unfold runLevel
  split_ifs
  · rfl
  · rw [State.rd_setBit_apart _ (State.regsWf_put s _ _ h) ha, State.rd_put_apart _ h ha]

/-- The registers of the timers that a restart clears (R269). -/
def timerRegs (n : Nat) : List Nat := [Reg.TIM_CTL n, Reg.TIM_CNT n, Reg.TIM_CAP n, Reg.TIM_FLG n]

/-- The timers' settings stay; their counting begins afresh (R269). -/
def TimersSt.restarted (t : TimersSt) : TimersSt :=
  { t with phase := List.replicate 8 0, wrap := List.replicate 8 false, goNext := 0, stopNext := 0 }

/-- What a restart does with one timer (R269). -/
def timerStopped (t : State) (n : Nat) : State :=
  (((t.setBit (Reg.TIM_CTL_RUN n) false).wr (Reg.TIM_CNT n) 0).wr (Reg.TIM_CAP n) 0).wr (Reg.TIM_FLG n) 0

theorem timersRestart_fold (s : State) : timersRestart s =
    { (List.range 8).foldl timerStopped s with timers := ((List.range 8).foldl timerStopped s).timers.restarted } := rfl

theorem timerStopped_regsWf (n : Nat) (h : regsWf s.regs = true) : regsWf (timerStopped s n).regs = true :=
  State.regsWf_wr _ _ _ (State.regsWf_wr _ _ _ (State.regsWf_wr _ _ _ (State.regsWf_setBit _ false h)))

theorem timerStopped_rd {n : Nat} (h : regsWf s.regs = true) (ha : a ∉ timerRegs n) : (timerStopped s n).rd a = s.rd a := by
  obtain ⟨hctl, hcnt, hcap, hflg⟩ : a ≠ Reg.TIM_CTL n ∧ a ≠ Reg.TIM_CNT n ∧ a ≠ Reg.TIM_CAP n ∧ a ≠ Reg.TIM_FLG n := by
    simpa [timerRegs] using ha
  have w1 := State.regsWf_setBit (Reg.TIM_CTL_RUN n) false h
  have w2 := State.regsWf_wr _ (Reg.TIM_CNT n) 0 w1
  have w3 := State.regsWf_wr _ (Reg.TIM_CAP n) 0 w2
  rw [timerStopped, State.rd_wr_apart _ w3 hflg, State.rd_wr_apart _ w2 hcap, State.rd_wr_apart _ w1 hcnt, State.rd_setBit_apart _ h hctl]

theorem timersStopped_regsWf : ∀ (ns : List Nat) {s : State}, regsWf s.regs = true → regsWf (ns.foldl timerStopped s).regs = true
  | [], _, h => h
  | n :: ns, _, h => timersStopped_regsWf ns (timerStopped_regsWf n h)

theorem timersStopped_rd : ∀ {ns : List Nat} {s : State}, regsWf s.regs = true → (∀ n ∈ ns, a ∉ timerRegs n) →
    (ns.foldl timerStopped s).rd a = s.rd a
  | [], _, _, _ => rfl
  | n :: _, _, h, ha => by
    obtain ⟨hn, hns⟩ := List.forall_mem_cons.mp ha
    exact (timersStopped_rd (timerStopped_regsWf n h) hns).trans (timerStopped_rd h hn)

theorem timersRestart_regs (s : State) : (timersRestart s).regs = ((List.range 8).foldl timerStopped s).regs := by
  rw [timersRestart_fold]

theorem timersRestart_regsWf (h : regsWf s.regs = true) : regsWf (timersRestart s).regs = true := by
  rw [timersRestart_regs]
  exact timersStopped_regsWf (List.range 8) h

theorem timersRestart_rd (h : regsWf s.regs = true) (ha : ∀ n ∈ List.range 8, a ∉ timerRegs n) : (timersRestart s).rd a = s.rd a := by
  rw [State.rd, timersRestart_regs, ← State.rd, timersStopped_rd h ha]

end Registers

/-! ### What a restart leaves beside the registers (Table 3-1) -/

theorem timersRestart_eq (s : State) : ∃ regs, timersRestart s = { s with regs, timers := s.timers.restarted } := by
  obtain ⟨regs, h⟩ := List.foldlRecOn (motive := fun t : State => ∃ regs, t = { s with regs }) (List.range 8) timerStopped ⟨s.regs, rfl⟩ (by
    rintro _ ⟨regs, rfl⟩ n -
    exact ⟨_, rfl⟩)
  refine ⟨regs, ?_⟩
  rw [timersRestart_fold, h]

theorem runLevel_eq (l : Nat) (s : State) : ∃ regs hwSet, runLevel l s = { s with regs, hwSet } := by
  unfold runLevel
  split_ifs
  exacts [⟨_, _, rfl⟩, ⟨_, _, rfl⟩]

theorem tallyCut_eq (s : State) : ∃ tally, tallyCut s = { s with nv := { s.nv with tally } } := by
  unfold tallyCut
  split
  · split_ifs
    exacts [⟨_, rfl⟩, ⟨_, rfl⟩]
  · exact ⟨_, rfl⟩

/-- A restart, beside the registers: what it keeps, the causes with its own, and the rest as after AONPOR. -/
theorem restartOnly_eq (c : Cause) (s : State) : ∃ regs hwSet tally lost,
    restartOnly c s = { State.reset with
      regs, hwSet, pending := s.pending, now := s.now, freeCtr := s.freeCtr, chron := s.chron, timers := s.timers.restarted, motion := s.motion,
      ledAon := { s.ledAon with programming := 0, resetLost := lost }, entAon := s.entAon, hhAon := s.hhAon, touch := s.touch,
      lines := s.lines, powAon := s.powAon, straps := s.straps, imgAon := s.imgAon, nand := s.nand, nv := { s.nv with tally }, lfAon := s.lfAon,
      tagAon := s.tagAon, tag := s.tag, can := canKept c s.can, power := causeAdd c s PowerSt.init } := by
  obtain ⟨tally, hcut⟩ := tallyCut_eq s
  unfold restartOnly
  rw [hcut]
  obtain ⟨r1, w1, h1⟩ := runLevel_eq 0 _
  rw [h1]
  obtain ⟨r2, h2⟩ := timersRestart_eq _
  rw [h2]
  exact ⟨_, _, tally, _, rfl⟩

/-! ### What a restart leaves of the registers (R58, R59) -/

theorem causeFld_reg (c : Cause) : (causeFld c).reg = Reg.PWR_RST_CAUSE := by cases c <;> rfl

theorem causeFld_width (c : Cause) : (causeFld c).width = 1 := by cases c <;> rfl

theorem causeFld_lo_lt (c : Cause) : (causeFld c).lo < 32 := by cases c <;> decide

/-- The registers of the always-on region that a restart writes, and WM_MSTAT. -/
def restartRegs : List Nat :=
  [Reg.PWR_PL, Reg.PWR_DOM, Reg.PWR_RST_CAUSE, Reg.WM_MSTAT] ++ (List.range 8).flatMap timerRegs

/-- The writes of a restart on top of the registers kept. -/
theorem restartOnly_writes (c : Cause) (s : State) : ∃ (t : State) (moving : Bool) (on : Nat), t.regs = regsKept s.regs ∧
    restartOnly c s = runLevel 0 (((timersRestart (t.setBit Reg.WM_MSTAT_MOVING moving)).setBit (causeFld c) true).put Reg.PWR_DOM_ON on) := by
  obtain ⟨tally, hcut⟩ := tallyCut_eq s
  unfold restartOnly
  rw [hcut]
  exact ⟨_, _, _, rfl, rfl⟩

section Restart

variable {c : Cause} {s : State}

/-- R58, R59: a register of the always-on region that the restart does not name keeps its word. -/
theorem restartOnly_rd {a : Nat} (h : regsWf s.regs = true) (hon : aonReg a = true) (ha : a ∉ restartRegs) :
    (restartOnly c s).rd a = s.rd a := by
  obtain ⟨t, moving, on, ht, hs⟩ := restartOnly_writes c s
  simp only [restartRegs, List.mem_append, List.mem_cons, List.not_mem_nil, or_false, List.mem_flatMap, not_or, not_exists, not_and] at ha
  obtain ⟨⟨hpl, hdom, hcause, hmoving⟩, htim⟩ := ha
  have w1 : regsWf t.regs = true := ht ▸ regsKept_wf s.regs
  have w2 := State.regsWf_setBit Reg.WM_MSTAT_MOVING moving w1
  have w3 := timersRestart_regsWf w2
  have w4 := State.regsWf_setBit (causeFld c) true w3
  have w5 := State.regsWf_put _ Reg.PWR_DOM_ON on w4
  calc (restartOnly c s).rd a
      = t.rd a := by
        rw [hs, runLevel_rd 0 w5 hpl, State.rd_put_apart on w4 hdom, State.rd_setBit_apart true w3 (causeFld_reg c ▸ hcause),
          timersRestart_rd w2 htim, State.rd_setBit_apart moving w1 hmoving]
    _ = s.rd a := by rw [State.rd, ht, regGet_regsKept h, if_pos hon, State.rd]

theorem restartOnly_get {f : Fld} (h : regsWf s.regs = true) (hon : aonReg f.reg = true) (hf : f.reg ∉ restartRegs) :
    (restartOnly c s).get f = s.get f := State.get_of_rd (restartOnly_rd h hon hf)

/-- R60: the restart records its cause. -/
theorem restartOnly_cause (c : Cause) (s : State) : (restartOnly c s).get (causeFld c) = 1 := by
  obtain ⟨t, moving, on, ht, hs⟩ := restartOnly_writes c s
  have w2 := State.regsWf_setBit Reg.WM_MSTAT_MOVING moving (s := t) (ht ▸ regsKept_wf s.regs)
  have w3 := timersRestart_regsWf w2
  have w4 := State.regsWf_setBit (causeFld c) true w3
  have w5 := State.regsWf_put _ Reg.PWR_DOM_ON on w4
  have hdom : (causeFld c).reg ≠ Reg.PWR_DOM := by rw [causeFld_reg]; decide
  have hpl : (causeFld c).reg ≠ Reg.PWR_PL := by rw [causeFld_reg]; decide
  rw [hs, State.get_of_rd (runLevel_rd 0 w5 hpl), State.get_of_rd (State.rd_put_apart on w4 hdom),
    State.get_setBit_true w3 (causeFld_lo_lt c) (causeFld_width c)]

end Restart

/-! ### What AONPOR leaves (R58, R60) -/

/-- The causes of the same tick that AONPOR joins. -/
def State.causesOfTick (s : State) : List (Cause × Nat) := s.power.causes.filter (fun p => s.power.state == .reset && p.2 == s.now)

/-- The recording of causes in PWR_RST_CAUSE. -/
def causesSet (l : List (Cause × Nat)) (s : State) : State := l.foldl (fun t p => t.setBit (causeFld p.1) true) s

theorem causesSet_nil (s : State) : causesSet [] s = s := rfl

theorem causesSet_cons (p : Cause × Nat) (l : List (Cause × Nat)) (s : State) :
    causesSet (p :: l) s = causesSet l (s.setBit (causeFld p.1) true) := rfl

theorem causesSet_power : ∀ (l : List (Cause × Nat)) (s : State), (causesSet l s).power = s.power
  | [], _ => rfl
  | p :: l, s => by rw [causesSet_cons, causesSet_power l, State.setBit_power]

/-- Each cause has a bit of its own. -/
theorem causeFld_lo_ne {c d : Cause} : c ≠ d → (causeFld c).lo ≠ (causeFld d).lo := by
  cases c <;> cases d <;> decide

theorem causesSet_rd {a : Nat} (ha : a ≠ Reg.PWR_RST_CAUSE) : ∀ (l : List (Cause × Nat)) {s : State}, regsWf s.regs = true →
    (causesSet l s).rd a = s.rd a
  | [], _, _ => rfl
  | p :: l, s, h => by
    rw [causesSet_cons, causesSet_rd ha l (State.regsWf_setBit _ _ h), State.rd_setBit_apart true h (causeFld_reg p.1 ▸ ha)]

/-- A cause once recorded stays recorded. -/
theorem setBit_causeFld_get (c : Cause) {d : Cause} {s : State} (h : regsWf s.regs = true) (hd : s.get (causeFld d) = 1) :
    (s.setBit (causeFld c) true).get (causeFld d) = 1 := by
  rcases eq_or_ne c d with rfl | hne
  · exact State.get_setBit_true h (causeFld_lo_lt c) (causeFld_width c)
  · have hlo := causeFld_lo_ne hne
    have hc := causeFld_lo_lt c
    have hd' := causeFld_lo_lt d
    have hwc := causeFld_width c
    have hwd := causeFld_width d
    exact (State.get_put_apart s (causeFld c) (causeFld d) 1 h (by omega) (by omega) (.inr (by omega))).trans hd

theorem causesSet_get {d : Cause} : ∀ (l : List (Cause × Nat)) {s : State}, regsWf s.regs = true → s.get (causeFld d) = 1 →
    (causesSet l s).get (causeFld d) = 1
  | [], _, _, hd => hd
  | p :: l, _, h, hd => causesSet_get l (State.regsWf_setBit _ _ h) (setBit_causeFld_get p.1 h hd)

theorem causesSet_mem {p : Cause × Nat} {l : List (Cause × Nat)} {s : State} (h : regsWf s.regs = true) (hp : p ∈ l) :
    (causesSet l s).get (causeFld p.1) = 1 := by
  induction l generalizing s with
  | nil => cases hp
  | cons q l ih =>
    have hwf := State.regsWf_setBit (causeFld q.1) true h
    rw [causesSet_cons]
    rcases List.mem_cons.mp hp with hq | hl
    · subst hq
      exact causesSet_get l hwf (State.get_setBit_true h (causeFld_lo_lt p.1) (causeFld_width p.1))
    · exact ih hwf hl

/-- What AONPOR leaves, before the causes of its tick: all as after AONPOR, but for what it keeps (Table 3-1). -/
def porLeft (s : State) : State :=
  { State.reset with
    pending := s.pending, now := s.now, freeCtr := s.freeCtr, straps := s.straps, nand := s.nand, nv := (tallyCut s).nv, tag := s.tag,
    chron := { ChronSt.init with porAt := s.now }, motion := { MotionSt.init with parkedAt := s.now },
    power := causeAdd .aonpor { s with power := { s.power with causes := s.causesOfTick } } PowerSt.init }

theorem porReset_eq (s : State) : porReset s = causesSet s.causesOfTick (porLeft s) := by
  obtain ⟨tally, hcut⟩ := tallyCut_eq s
  unfold porReset porLeft
  rw [hcut]
  rfl

theorem porReset_causes (s : State) : (porReset s).power.causes = s.causesOfTick ++ [(.aonpor, s.now)] := by
  rw [porReset_eq, causesSet_power]
  rfl

theorem porLeft_regs (s : State) : (porLeft s).regs = regsReset := rfl

theorem porLeft_regsWf (s : State) : regsWf (porLeft s).regs = true := regsReset_wf

theorem State.causesOfTick_outsideReset {s : State} (h : s.power.state ≠ .reset) : s.causesOfTick = [] := by
  simp [State.causesOfTick, h]

theorem State.causesOfTick_same {s : State} {c : Cause} (h : s.power.state = .reset) (hc : s.power.causes = [(c, s.now)]) :
    s.causesOfTick = [(c, s.now)] := by
  simp [State.causesOfTick, h, hc]

/-- R59: after AONPOR the start-line latch is clear. -/
theorem porReset_latch (s : State) : (porReset s).get Reg.SL_STAT_LATCH = 0 := by
  rw [porReset_eq, State.get_of_rd (causesSet_rd (by decide) _ (porLeft_regsWf s)), State.get, State.rd, porLeft_regs]
  decide

theorem porReset_aonpor (s : State) : (porReset s).get Reg.PWR_RST_CAUSE_AONPOR = 1 := by
  have h : (porLeft s).get Reg.PWR_RST_CAUSE_AONPOR = 1 := by
    rw [State.get, State.rd, porLeft_regs]
    decide
  rw [porReset_eq]
  exact causesSet_get (d := .aonpor) _ (porLeft_regsWf s) h

/-- R60: the causes of the same tick are recorded beside AONPOR. -/
theorem porReset_cause {s : State} {p : Cause × Nat} (h : p ∈ s.causesOfTick) : (porReset s).get (causeFld p.1) = 1 := by
  rw [porReset_eq]
  exact causesSet_mem (porLeft_regsWf s) h

/-! ### Each source (Table 3-1) -/

theorem exec_aonpor (s : State) : exec .aonpor s = .next (porReset s) := rfl

theorem exec_supplyReturn {s : State} (h : s.bit Reg.PWR_STAT_BKP = true) :
    exec .supplyReturn s = .next (restartOnly .supply ((s.setBit Reg.PWR_STAT_BKP false).setBit Reg.CHRON_STAT_BKP false)) := if_pos h

theorem exec_extrst (low : Nat) (s : State) : exec (.extrst low) s = .next (if low < 10 then s else restartOnly .extrst s) :=
  (apply_ite Host.Outcome.next ..).symm

theorem exec_debugReset_allowed {s : State} (h : s.lcFused = 0 ∨ s.lcFused = 1 ∨ s.lcFused = 3) :
    exec .debugReset s = .next (restartOnly .debug s) := if_pos h

theorem exec_debugReset_barred {s : State} (h : s.lcFused = 2 ∨ s.lcFused = 4) : exec .debugReset s = .next s := if_neg (by omega)

theorem exec_vsysReset (vsys : Nat) (s : State) : exec (.vsysReset vsys) s =
    .next (if vsys < 2900 then restartOnly .supply { s with powAon := { s.powAon with vsys := vsys } }
      else { s with powAon := { s.powAon with vsys := vsys } }) :=
  (apply_ite Host.Outcome.next ..).symm

section Sources

variable {s : State}

theorem restartOnly_state (c : Cause) (s : State) : (restartOnly c s).power.state = .reset := by
  obtain ⟨_, _, _, _, h⟩ := restartOnly_eq c s
  rw [h]
  rfl

theorem restartOnly_causes (c : Cause) (s : State) : (restartOnly c s).power.causes = s.power.causes ++ [(c, s.now)] := by
  obtain ⟨_, _, _, _, h⟩ := restartOnly_eq c s
  rw [h]
  rfl

theorem restartOnly_alwaysOn (c : Cause) (s : State) :
    (restartOnly c s).chron = s.chron ∧ (restartOnly c s).powAon = s.powAon ∧ (restartOnly c s).hhAon = s.hhAon := by
  obtain ⟨_, _, _, _, h⟩ := restartOnly_eq c s
  rw [h]
  exact ⟨rfl, rfl, rfl⟩

/-- What HIBERNATE_WAKE restarts from: the wake's code shown, the wakes cleared (R428). -/
def wakeShown (s : State) : State :=
  let t := wakeFlags (listMin s.powAon.wakes 15) ((s.put Reg.PWR_STAT_WSRC (listMin s.powAon.wakes 15)).put Reg.PWR_STAT_LASTST 4)
  { t with powAon := { t.powAon with wakes := [] } }

theorem exec_hibernateWake (h : s.power.state = .hibernate) (hw : s.powAon.wakes ≠ []) :
    exec .hibernateWake s = .next (restartOnly .hiber (wakeShown s)) := by
  change execHibernateWake s = _
  rw [execHibernateWake, h]
  exact if_neg hw

theorem hedgeReady_idle {code at_ : Nat} (h : s.hh.restart = some (code, at_)) (hc : s.rmc.cur = none) (ho : s.rmc.op = none) :
    s.hedgeReady = some (code, at_) := by
  simp [State.hedgeReady, h, hc, ho]

theorem hedgeReady_waits {code at_ : Nat} (h : s.hh.restart = some (code, at_)) (hc : s.rmc.cur.isSome = true)
    (ha : s.after at_ 3200 = false) : s.hedgeReady = none := by
  simp [State.hedgeReady, h, hc, ha]

theorem exec_hedgehogRestart_ready {code at_ : Nat} (h : s.hedgeReady = some (code, at_)) : exec .hedgehogRestart s =
    .next (hedgeReset s.hh.haltGroup.isNone (sectorProgram (hedgeStore code { s with hh := { s.hh with restart := none } }))) := by
  change execHedgehogRestart s = _
  rw [execHedgehogRestart, h]

theorem exec_hedgehogRestart_waits (h : s.hedgeReady = none) (hd : s.power.dueHedge = none) : exec .hedgehogRestart s = .next s := by
  change execHedgehogRestart s = _
  rw [execHedgehogRestart, h, hd]

/-- What HEARTBEAT_WATCHDOG restarts from: the code stored, the outage dated from its start (R442). -/
def heartbeatLost (s : State) : State :=
  { s.put Reg.SUP_RSTCODE_V 0x1403 with
    hhAon := { s.hhAon with pendingCode := some 0x1403, outageFrom := some (s.hhAon.outageFrom.getD s.now) } }

theorem exec_heartbeatWatchdog (h : s.domOn .sup = true) : exec .heartbeatWatchdog s = .next (hedgeReset false (heartbeatLost s)) := if_pos h

/-- A Hedgehog restart is a restart; one that is not counted leaves the times of the earlier ones (R441). -/
theorem hedgeReset_eq (counted : Bool) (s : State) : ∃ t : State,
    hedgeReset counted s = restartOnly .hedge t ∧ t.power = s.power ∧ t.now = s.now ∧ (counted = false → t.hhAon = s.hhAon) :=
  ⟨_, rfl, rfl, rfl, by rintro rfl; rfl⟩

theorem hedgeReset_state (counted : Bool) (s : State) : (hedgeReset counted s).power.state = .reset := by
  obtain ⟨t, h, -⟩ := hedgeReset_eq counted s
  rw [h, restartOnly_state]

theorem hedgeReset_causes (counted : Bool) (s : State) : (hedgeReset counted s).power.causes = s.power.causes ++ [(.hedge, s.now)] := by
  obtain ⟨t, h, hpower, hnow, -⟩ := hedgeReset_eq counted s
  rw [h, restartOnly_causes, hpower, hnow]

theorem hedgeReset_uncounted (s : State) : (hedgeReset false s).hhAon = s.hhAon := by
  obtain ⟨t, h, -, -, hhh⟩ := hedgeReset_eq false s
  obtain ⟨-, -, hkept⟩ := restartOnly_alwaysOn .hedge t
  rw [h, hkept, hhh rfl]

end Sources

/-- Settles O9: each source by the case of its command; the causes and what is kept by the two equations of a reset. -/
theorem resetSources : Obligations.ResetSources := by
  refine ⟨?aonpor, ?joined, fun _ => exec_supplyReturn, exec_extrst, fun _ => exec_debugReset_allowed, fun _ => exec_debugReset_barred,
    exec_vsysReset, ?wake, ?ready, fun _ _ _ h hc ha => exec_hedgehogRestart_waits (hedgeReady_waits h hc ha), ?heartbeat⟩
  case aonpor =>
    intro s h
    have hnone := State.causesOfTick_outsideReset h
    have hcauses : (porReset s).power.causes = [(.aonpor, s.now)] := by rw [porReset_causes, hnone, List.nil_append]
    have hleft : porReset s = porLeft s := by rw [porReset_eq, hnone, causesSet_nil]
    refine ⟨_, exec_aonpor s, ?_⟩
    rw [hcauses, hleft]
    exact ⟨rfl, rfl, rfl, rfl, rfl, rfl, rfl, rfl, rfl, rfl⟩
  case joined =>
    intro c s h hc
    refine ⟨_, exec_aonpor s, ?_, ?_, ?_⟩
    · rw [porReset_causes, State.causesOfTick_same h hc, List.singleton_append]
    · have hp : (c, s.now) ∈ s.causesOfTick := State.causesOfTick_same h hc ▸ List.mem_singleton_self _
      rw [State.bit, porReset_cause hp]
      rfl
    · rw [State.bit, porReset_aonpor]
      rfl
  case wake =>
    intro s h hw
    obtain ⟨hchron, hpow, -⟩ := restartOnly_alwaysOn .hiber (wakeShown s)
    exact ⟨_, exec_hibernateWake h hw, restartOnly_state .., restartOnly_causes .., hchron, hpow⟩
  case ready =>
    intro code at_ s h hc ho
    refine ⟨_, exec_hedgehogRestart_ready (hedgeReady_idle h hc ho), hedgeReset_state .., ?_⟩
    rw [hedgeReset_causes, List.map_append, List.map_singleton, List.getLast?_concat]
  case heartbeat =>
    intro s h
    refine ⟨_, exec_heartbeatWatchdog h, hedgeReset_state .., hedgeReset_causes .., ?_⟩
    rw [hedgeReset_uncounted]
    exact ⟨rfl, rfl⟩

/-- Settles O10: beside the registers by the equation of a restart; the registers named lie in the always-on region, or PD_AON keeps them. -/
theorem restartKeepsAndClears : Obligations.RestartKeepsAndClears := by
  refine ⟨fun c s => ?kept, fun c s h => ?regs, fun s t ht => ?por⟩
  case kept =>
    obtain ⟨_, _, _, _, h⟩ := restartOnly_eq c s
    rw [h]
    exact ⟨⟨rfl, rfl, rfl, rfl, rfl, rfl, rfl, rfl, rfl, rfl, rfl, rfl, rfl, rfl⟩, rfl, rfl,
      ⟨rfl, rfl, rfl, rfl, rfl, rfl, rfl, rfl, rfl, rfl, rfl, rfl, rfl, rfl, rfl⟩, rfl, rfl⟩
  case regs =>
    exact ⟨restartOnly_get h (by decide) (by decide), restartOnly_get h (by decide) (by decide),
      restartOnly_get h (by decide) (by decide), restartOnly_cause c s⟩
  case por =>
    cases ht
    exact ⟨porReset_latch s, porReset_aonpor s⟩

end Sys2Proof.Machine
end

section
/-! PROOFS. What a unit hears of the chain: what the receiver makes of a frame, check after check, and under which epoch a frame opens. -/

namespace Sys2Proof.Machine

/-! ### The receiver, one check after another (R73, R75, R78) -/

section Receiver

variable {typ : Nat} {f : SettFrame} {s : State} (hs : s.power.state ≠ .reset) (hr : s.runs = true) (hl : s.domOn .lnk = true)
  (hi : s.isIsolated .sett = false)

include hs hr hl hi

theorem settHear_aborted : settHear typ f true s = (none, copyCut f (portHeard (!f.goesDown) (awake s))) := by
  simp [settHear, hs, hr, hl, hi]

theorem settHear_wrongHcrc (hc : crc16 (be 2 f.hdr) ≠ f.hcrc) :
    settHear typ f false s = (none, copyCut f ((portHeard (!f.goesDown) (awake s)).count Reg.SETT_ERR_HCRC 1)) := by
  simp [settHear, hs, hr, hl, hi, hc]

variable (hc : crc16 (be 2 f.hdr) = f.hcrc)

include hc

theorem settHear_bad (hb : settBad f (portHeard (!f.goesDown) (awake s)) = true) :
    settHear typ f false s = (none, copyCut f (settDiscard (portHeard (!f.goesDown) (awake s)))) := by
  simp [settHear, hs, hr, hl, hi, hc, hb]

/-- A frame to this unit alone is consumed, and its copy goes no further. -/
theorem settHear_consumed (hb : settBad f (portHeard (!f.goesDown) (awake s)) = false) (ht : f.typ = typ) (hbc : f.bc = false)
    (hw : f.forMe (settWatch f (portHeard (!f.goesDown) (awake s))) = true)
    (hm : f.forMe (copyCut f (settWatch f (portHeard (!f.goesDown) (awake s)))) = true) :
    settHear typ f false s = settConsume f (copyCut f (settWatch f (portHeard (!f.goesDown) (awake s)))) := by
  simp [settHear, hs, hr, hl, hi, hc, hb, ht, hbc, hw, hm]

end Receiver

/-- The consume queue takes the frame; its PCRC decides whether it is opened (R80, R81). -/
theorem settConsume_taken {f : SettFrame} {s t : State} (hq : s.bit Reg.SETT_STAT_QUAR = false)
    (h : enqueue .settRx f.cls .sett (.frame f) s = (.taken, t)) :
    settConsume f s = if crc32c (be 4 f.ctr ++ f.payload) = f.pcrc then settOpen f t else (none, settPcrcFail f t) := by
  simp [settConsume, settTake, hq, h]

/-! ### Opening a frame (R76, R77, R80) -/

section Opening

variable {f : SettFrame} {key : Bytes} {e : Nat} {s : State}

theorem SettFrame.src_pos (f : SettFrame) : 0 < f.src := Nat.succ_pos _

theorem settEpoch_inForce (hz : s.zeroType f.typ = false) (he : s.sett.epoch ≠ 0) (hm : f.macOk key s.sett.epoch = true) :
    s.settEpoch key f = some (s.sett.epoch, f.src) := by
  simp [State.settEpoch, hz, he, hm]

/-- Beside the epoch in force only the one that it replaced is tried. -/
theorem settEpoch_none (hz : s.zeroType f.typ = false) (hm : f.macOk key s.sett.epoch = false) (ho : s.sett.oldEpoch = none) :
    s.settEpoch key f = none := by
  simp [State.settEpoch, hz, hm, ho]

theorem settOpen_noEpoch (hk : s.slotKey 2 = some key) (he : s.settEpoch key f = none) : settOpen f s = (none, settMacFail s) := by
  simp only [settOpen, hk, he]

/-- A frame that opens: its counter becomes the last of its source, and its payload enters the unit. -/
def frameOpened (f : SettFrame) (p : Bytes) (s : State) : State :=
  settAlive f (enter .sett p (retxOver f.src f.typ
    { s with sett := { s.sett with lastCtr := (f.src, f.ctr) :: s.sett.lastCtr.filter (fun q => q.1 != f.src) } }))

theorem settOpen_epoch (hk : s.slotKey 2 = some key) (he : s.settEpoch key f = some (e, f.src)) :
    let p := if settSealed f.typ then settCrypt key e (f.src - 1) f.ctr f.payload else f.payload
    settOpen f s = if (s.lastCtr f.src).any (fun c => decide (f.ctr ≤ c)) then (none, s) else (some (p, false), frameOpened f p s) := by
  simp only [settOpen, hk, he]
  rfl

@[simp] theorem settAlive_lastCtr (n : Nat) : (settAlive f s).lastCtr n = s.lastCtr n := by
  unfold settAlive
  split_ifs <;> rfl

theorem frameOpened_lastCtr (p : Bytes) : (frameOpened f p s).lastCtr f.src = some f.ctr := by
  rw [frameOpened, settAlive_lastCtr]
  simp [State.lastCtr, enter, retxOver]

end Opening

/-- Settles O12: the checks of the receiver one after another; the counter decides whether an authentic frame is opened. -/
theorem chainFrameAccepted : Obligations.ChainFrameAccepted := by
  intro typ f aborted key s hs hr hl hi t u
  refine ⟨?aborted, ?hcrc, ?bad, ?whole⟩
  case aborted =>
    rintro rfl
    exact settHear_aborted hs hr hl hi
  case hcrc =>
    rintro rfl hc
    exact settHear_wrongHcrc hs hr hl hi hc
  case bad =>
    rintro rfl hc hb
    exact settHear_bad hs hr hl hi hc hb
  case whole =>
    rintro w rfl hc hb ht hbc hw hm hq hen hk
    have hear : settHear typ f false s =
        if crc32c (be 4 f.ctr ++ f.payload) = f.pcrc then settOpen f w else (none, settPcrcFail f w) := by
      rw [settHear_consumed hs hr hl hi hc hb ht hbc hw hm, settConsume_taken hq hen]
    refine ⟨fun hp => by rw [hear, if_neg hp], fun hp hz he => ?_⟩
    rw [hear, if_pos hp]
    have hopen (hmac : settMac key w.sett.epoch f.hdr f.ctr f.payload = f.mac) :=
      settOpen_epoch hk (settEpoch_inForce hz he (beq_iff_eq.mpr hmac))
    refine ⟨fun hmac hnew => ?opened, fun hmac hold => ?replayed, fun hmac ho => ?forged⟩
    case opened =>
      have hfresh : ¬ (w.lastCtr f.src).any (fun c => decide (f.ctr ≤ c)) = true := by
        rcases hnew with hn | ⟨c, hn, hlt⟩
        · simp [hn]
        · simpa [hn] using hlt
      rw [hopen hmac, if_neg hfresh]
      exact ⟨rfl, frameOpened_lastCtr _⟩
    case replayed =>
      obtain ⟨c, hn, hle⟩ := hold
      rw [hopen hmac, if_pos (by simpa [hn] using hle)]
    case forged =>
      exact settOpen_noEpoch hk (settEpoch_none hz (beq_eq_false_iff_ne.mpr hmac) ho)

end Sys2Proof.Machine
end

section
/-! PROOFS. The end of an enumeration on a head alone: CHAIN_READY may take the place of a request whose loss is not without trace. -/

namespace Sys2Proof.Machine

/-- A numbered head with a chain key in slot 2, one second after it offered a number that nobody has taken. -/
def enumUnanswered : State :=
  let key : Slot := ⟨List.replicate 32 7, 0x1F102000, 0, 0, 32, zeros 16, 1⟩
  let s : State := { State.reset with
    now := 4194304, power := { PowerSt.init with state := .on }, sett := { SettSt.init with enumAt := some 0 },
    nv := { NvSt.init with mem := memSetN [] (2 * 64) key.bytes } }
  (s.put Reg.SETT_STAT_NUM 1).setBit Reg.SETT_STAT_HEAD true

/-- The same, its bindings committed already. -/
def enumCommitted : State :=
  { enumUnanswered with nv := { enumUnanswered.nv with mem := memSetN enumUnanswered.nv.mem 0x6000 (bindingTable enumUnanswered.newBindings) } }

/-- A commit group without content. -/
def emptyGroup : Group := ⟨[], .none⟩

/-- The same, the general places of its transmit queue taken in this tick by requests of class P3 that carry a commit group. -/
def enumCrowded : State :=
  enumCommitted.setQueue .settTx { Queue.init with items := List.replicate 24 ⟨.p3, .host, false, 4194304, .group emptyGroup⟩ }

theorem enumCommitted_table : memGetN enumCommitted.nv.mem 0x6000 512 = bindingTable enumCommitted.newBindings := by decide +kernel

theorem State.newBindings_setQueue (q : QueueId) (v : Queue) (s : State) : (s.setQueue q v).newBindings = s.newBindings := rfl

/-- CHAIN_READY takes the place of a P3 request of its tick (R23), and what that one carried is submitted again. -/
theorem enumEnd_enumCrowded : (enumEnd enumCrowded).rmc.resubmit = [(.p3, emptyGroup)] := by decide +kernel

theorem exec_enumAckTimeout_head {at_ : Nat} {s : State} (hat : s.sett.enumAt = some at_) (hr : s.runs = true) (hd : s.isHead = true)
    (ha : s.after at_ 100 = true) : exec .enumAckTimeout s = .next (enumEnd s) := by
  change execEnumAckTimeout s = _
  simp [execEnumAckTimeout, hat, hr, hd, ha]

/-- Refutes O13: the end of an enumeration need not leave the retained-memory controller as it was. The clause on ENUM_ACK_TIMEOUT of a head that
no unit answered says so and asks nothing of the queues; in a state whose transmit queue is full of requests that carry commit groups, CHAIN_READY
displaces one of them, and its group is to be submitted again. -/
theorem not_chainEnumerationAndTime : ¬ Obligations.ChainEnumerationAndTime := by
  rintro ⟨⟨-, -, -, hend, -⟩, -⟩
  have hr : enumCrowded.runs = true := rfl
  have hd : enumCrowded.isHead = true := by decide +kernel
  have ha : enumCrowded.after 0 100 = true := by decide
  have htable : memGetN enumCrowded.nv.mem 0x6000 512 = bindingTable enumCrowded.newBindings := by
    rw [enumCrowded, State.newBindings_setQueue]
    exact enumCommitted_table
  obtain ⟨t, ht, -, -, -, hrmc⟩ := hend 0 enumCrowded rfl hr hd ha rfl rfl htable
  rw [exec_enumAckTimeout_head rfl hr hd ha] at ht
  have hkept : t.rmc.resubmit = [] := congrArg RmcSt.resubmit hrmc
  rw [← Host.Outcome.next.inj ht, enumEnd_enumCrowded] at hkept
  exact List.cons_ne_nil _ _ hkept

end Sys2Proof.Machine
end

section
/-! PROOFS. Loss of the head and splices: what silence makes of a unit, and each step of a splice from the idle pattern to JOIN. -/

namespace Sys2Proof.Machine

/-! ### Loss of the head (R88, R90, R91) -/

section HeadSilence

variable {up : Bool} {s : State}

theorem exec_headSilenceTimeout (up : Bool) (s : State) : exec (.headSilenceTimeout up) s = execHeadSilenceTimeout up s := rfl

theorem silenceOver_of_after (hd : s.sett.silenceDone = false) (ha : s.after s.sett.silenceAt 50000 = true) : s.silenceOver = true := by
  simp [State.silenceOver, hd, ha]

/-- What a unit without a head has dropped. -/
theorem headLost_drops (up : Bool) (s : State) : (headLost up s).sett.idleSent = true ∧ (headLost up s).chron.steer = 0 ∧
    (headLost up s).sett.restricted = false ∧ (headLost up s).sett.probe = none := ⟨rfl, rfl, rfl, rfl⟩

variable (hr : s.runs = true) (hd : s.isHead = false) (ha : s.isActing = false)

include hr hd ha

theorem exec_headSilenceTimeout_acts (ho : s.silenceOver = true) (h2 : s.unitNum = 2) (hu : up = true ∨ s.bit Reg.SETT_STAT_UPUP = false) :
    exec (.headSilenceTimeout up) s = .next (actingBegin { s with sett := { s.sett with silenceDone := true } }) := by
  have hup : (up || !s.bit Reg.SETT_STAT_UPUP) = true := by simpa using hu
  simp [exec_headSilenceTimeout, execHeadSilenceTimeout, hr, hd, ha, h2, ho, hup]

variable (hn : s.unitNum ≠ 0) (hidle : s.sett.idleSent = false)

include hn hidle

theorem exec_headSilenceTimeout_loses (ho : s.silenceOver = true) (hu : s.unitNum ≠ 2 ∨ up = false ∧ s.bit Reg.SETT_STAT_UPUP = true) :
    exec (.headSilenceTimeout up) s =
      .next (headLost (up || !s.bit Reg.SETT_STAT_UPUP) { s with sett := { s.sett with silenceDone := true } }) := by
  have hstay : ¬ (s.unitNum = 2 ∧ (up || !s.bit Reg.SETT_STAT_UPUP) = true) := by
    rintro ⟨h2, hup⟩
    rcases hu with hu | ⟨hu, hs⟩
    · exact hu h2
    · simp [hu, hs] at hup
  simp only [exec_headSilenceTimeout, execHeadSilenceTimeout, hr, hd, ha, hn, ho, hstay, hidle]
  rfl

/-- The loss of the upstream segment acts before the timer does. -/
theorem exec_headSilenceTimeout_upLost (ho : s.silenceOver = false) : exec (.headSilenceTimeout true) s = .next (headLost true s) := by
  simp [exec_headSilenceTimeout, execHeadSilenceTimeout, hr, hd, ha, hn, ho, hidle]

end HeadSilence

/-! ### Frames under EPOCH = 0 (R76) -/

section Zero

variable {typ : Nat} {f : SettFrame} {aborted : Bool} {p : Bytes} {s t : State}

theorem next_settRx_zero (h : settHear typ f aborted s = (some (p, true), t)) (act : Bytes → State → State) :
    (.next (settRx typ f aborted (fun p zero t => if zero then act p t else t) s) : Host.Outcome State Fault Refusal) = .next (act p t) :=
  next_settRx h _

theorem exec_spliceProbe (h : settHear 0x16 f aborted s = (some (p, true), t)) :
    exec (.spliceProbe f aborted) s = .next (probeTake f (p.take 8) t) := next_settRx_zero h _

theorem exec_spliceReply (h : settHear 0x17 f aborted s = (some (p, true), t)) :
    exec (.spliceReply f aborted) s = .next (replyTake f p t) := next_settRx_zero h _

theorem exec_spliceAssign (h : settHear 0x19 f aborted s = (some (p, true), t)) :
    exec (.spliceAssign f aborted) s = .next (assignFrame f p t) := next_settRx_zero h _

end Zero

/-! ### Probe, replies and report (R93) -/

section Splice

variable {f : SettFrame} {aborted z : Bool} {p n : Bytes} {at_ : Nat} {s t : State}

theorem exec_idlePatternDetect_probes (hr : s.runs = true) (hl : s.domOn .lnk = true) (hn : s.unitNum ≠ 0)
    (hlast : s.bit Reg.SETT_STAT_LAST = true) (hres : s.sett.restricted = false) (hrand : randBytes false 8 s = (.bytes n, t)) :
    exec .idlePatternDetect s = .next (settSend0 0x16 false (t.unitNum + 1) .p1 n { spliceEndNow t with sett := { (spliceEndNow t).sett with
      restricted := true, probe := some (n, t.now), replies := [], idleSeen := some t.now } }) := by
  change execIdlePatternDetect s = _
  simp [execIdlePatternDetect, hr, hl, hn, hlast, hres, hrand]

/-- A unit without a number, or one that has lost its head, passes the probe on and answers it. -/
theorem probeTake_answers (hd : s.isHead = false) (hn : s.unitNum = 0 ∨ s.sett.idleSent = true) :
    let t := settPass true f { s with sett := { s.sett with nonce := some n } }
    probeTake f n s = settSend0 0x17 false 1 .p1 (be 8 t.straps.serial ++ t.retainedDigest ++ n) t :=
  if_neg (by rcases hn with hn | hn <;> simp [hd, hn])

theorem replyTake_collects (hp : s.sett.probe = some (n, at_)) (hn : sub p 40 8 = n) (hlen : s.sett.replies.length < 16) :
    replyTake f p s = { s with sett := { s.sett with replies := s.sett.replies ++ [⟨fieldBe p 0 8, sub p 8 32⟩] } } := by
  rw [replyTake, hp]
  exact if_neg (by simp [hn, hlen])

theorem exec_spliceCollectEnd_reports (hp : s.sett.probe = some (n, at_)) (ha : s.after at_ 500 = true) (hd : s.isHead = false)
    (hne : s.sett.replies ≠ []) :
    exec .spliceCollectEnd s = .next (settSend 0x18 false 1 .p1 (n ++ s.sett.replies.flatMap (fun r => be 8 r.serial ++ r.digest))
      { s with sett := { s.sett with probe := none, replies := [] } }) := by
  have hd' : ({ s with sett := { s.sett with probe := none, replies := [] } } : State).isHead = false := hd
  change execSpliceCollectEnd s = _
  simp [execSpliceCollectEnd, hp, ha, hd', hne]

theorem exec_spliceReport_head (h : settHear 0x18 f aborted s = (some (p, z), t)) (hd : t.isHead = true) :
    exec (.spliceReport f aborted) s =
      .next (spliceServe f.src (p.take 8) ((List.range ((p.length - 8) / 40)).map (fun k => fieldBe p (8 + 40 * k) 8)) t) :=
  (next_settRx h _).trans (congrArg _ (if_pos hd))

/-- A serial that has a binding keeps its number. -/
theorem numberFor_bound {serial : Nat} {l : List Binding} {b : Binding} (h : l.find? (fun b => b.serial == serial) = some b) :
    numberFor serial l = some b.num := by
  rw [numberFor, h]

theorem exec_joinFrame_head (h : settHear 0x1A f aborted s = (some (p, z), t)) (hs : s.isHead = true) (ht : t.isHead = true) :
    exec (.joinFrame f aborted) s = .next (joinTake f.src t) :=
  (if_neg (by simp [hs])).trans ((next_settRx h _).trans (congrArg _ (if_pos ht)))

theorem exec_convergeTimeout_late (hat : s.sett.assignedAt = some at_) (hc : s.bit Reg.SETT_STAT_CONV = false)
    (hf : s.sett.convFault = false) (ha : s.after at_ 20000 = true) :
    exec .convergeTimeout s = .next (raise 0x6105 0 { s with sett := { s.sett with convFault := true } }) := by
  change execConvergeTimeout s = _
  simp [execConvergeTimeout, hat, hc, hf, ha]

end Splice

/-! ### A number assigned (R76, R93) -/

section Assignment

variable {f g : Fld} {x : SettFrame} {down b : Bool} {n at_ ticks : Nat} {p : Bytes} {s : State}

theorem State.get_setBit_apart (h : regsWf s.regs = true) (hf : f.lo + f.width ≤ 32) (hg : g.lo + g.width ≤ 32)
    (hfg : g.reg ≠ f.reg ∨ f.lo + f.width ≤ g.lo ∨ g.lo + g.width ≤ f.lo) : (s.setBit f b).get g = s.get g :=
  State.get_put_apart s f g _ h hf hg hfg

theorem portBusy_eq (down : Bool) (at_ ticks : Nat) (s : State) :
    ∃ up dn, portBusy down at_ ticks s = { s with sett := { s.sett with up := up, down := dn } } := by
  cases down
  · exact ⟨_, s.sett.down, rfl⟩
  · exact ⟨s.sett.up, _, rfl⟩

/-- A frame that goes on changes the link's ports and stores alone. -/
theorem settPass_eq (down : Bool) (x : SettFrame) (s : State) : ∃ up dn forwarded cut stored late, settPass down x s =
    { s with sett := { s.sett with up := up, down := dn, forwarded := forwarded, cut := cut, stored := stored, late := late } } := by
  unfold settPass
  split_ifs
  · obtain ⟨up, dn, h⟩ := portBusy_eq down (s.now - settTicks x) (settTicks x + s.sett.fwd.toNat / 9375 + 1)
      { s with sett := { s.sett with forwarded := ((down, x) :: s.sett.forwarded).take 16 } }
    exact ⟨up, dn, _, _, _, _, h⟩
  · exact ⟨_, _, _, _, _, _, rfl⟩
  · exact ⟨_, _, _, _, _, _, rfl⟩
  · exact ⟨_, _, _, _, _, _, rfl⟩

theorem settPass_beside (down : Bool) (x : SettFrame) (s : State) : (settPass down x s).regs = s.regs ∧
    (settPass down x s).sett.epoch = s.sett.epoch ∧ (settPass down x s).sett.assignedAt = s.sett.assignedAt := by
  obtain ⟨_, _, _, _, _, _, h⟩ := settPass_eq down x s
  rw [h]
  exact ⟨rfl, rfl, rfl⟩

/-- A unit without a number takes the one its serial is given, and passes the frame on. -/
theorem assignFrame_takes (h0 : s.unitNum = 0) (hd : s.isHead = false) (hn : s.sett.nonce = some (sub p 8 8))
    (ha : assigned p s.straps.serial = some n) : ∃ last,
    assignFrame x p s = settPass true x (((assignTake n p s).setBit Reg.SETT_STAT_LAST last).setBit Reg.SETT_STAT_DNUP (!last)) := by
  refine ⟨(assignedNums p).getLast? == some n, ?_⟩
  rw [assignFrame, if_neg (by simp [h0]), if_pos ⟨hn, hd⟩, ha]

theorem assignEpoch_sett (e : Nat) (s : State) : (assignEpoch e s).sett.epoch = e ∧ (assignEpoch e s).regs = s.regs ∧
    (assignEpoch e s).now = s.now := by
  unfold assignEpoch
  split_ifs with h
  · exact ⟨h.symm, rfl, rfl⟩
  · exact ⟨rfl, rfl, rfl⟩

theorem actingEnd_other (ha : s.isActing = false) : actingEnd s = s := if_neg (ne_true_of_eq_false ha)

/-- The bits of SETT_STAT with which a unit takes its number. -/
def numberTaken (n : Nat) (last : Bool) (s : State) : State :=
  (((((s.put Reg.SETT_STAT_NUM n).setBit Reg.SETT_STAT_QUAR true).setBit Reg.SETT_STAT_CONV false).setBit Reg.SETT_STAT_UPUP true).setBit
    Reg.SETT_STAT_LAST last).setBit Reg.SETT_STAT_DNUP (!last)

theorem numberTaken_stat (hw : regsWf s.regs = true) (last : Bool) (hn : n < 32) : (numberTaken n last s).unitNum = n ∧
    (numberTaken n last s).bit Reg.SETT_STAT_QUAR = true := by
  have w1 := State.regsWf_put s Reg.SETT_STAT_NUM n hw
  have w2 := State.regsWf_setBit Reg.SETT_STAT_QUAR true w1
  have w3 := State.regsWf_setBit Reg.SETT_STAT_CONV false w2
  have w4 := State.regsWf_setBit Reg.SETT_STAT_UPUP true w3
  have w5 := State.regsWf_setBit Reg.SETT_STAT_LAST last w4
  have later {g : Fld} (hg : g = Reg.SETT_STAT_NUM ∨ g = Reg.SETT_STAT_QUAR) :
      (numberTaken n last s).get g = ((s.put Reg.SETT_STAT_NUM n).setBit Reg.SETT_STAT_QUAR true).get g := by
    rcases hg with rfl | rfl <;>
      exact (State.get_setBit_apart w5 (by decide) (by decide) (by decide)).trans <|
        (State.get_setBit_apart w4 (by decide) (by decide) (by decide)).trans <|
        (State.get_setBit_apart w3 (by decide) (by decide) (by decide)).trans <|
        State.get_setBit_apart w2 (by decide) (by decide) (by decide)
  constructor
  · rw [State.unitNum, later (.inl rfl), State.get_setBit_apart w1 (by decide) (by decide) (by decide), State.get_put_same s _ _ hw (by decide)]
    exact Nat.mod_eq_of_lt hn
  · rw [State.bit, later (.inr rfl), State.get_setBit_true w1 (by decide) (by decide)]
    rfl

/-- What a unit without a number is once it has one: numbered, in quarantine, in the epoch of the assignment, converging from now on. -/
theorem assignFrame_numbers (hw : regsWf s.regs = true) (hn : n < 32) (ha : s.isActing = false) (last : Bool) :
    let u := settPass true x (((assignTake n p s).setBit Reg.SETT_STAT_LAST last).setBit Reg.SETT_STAT_DNUP (!last))
    u.unitNum = n ∧ u.bit Reg.SETT_STAT_QUAR = true ∧ u.sett.epoch = fieldBe p 0 8 ∧ u.sett.assignedAt = some s.now := by
  intro u
  obtain ⟨hregs, hepoch, hat⟩ : u.regs = _ ∧ u.sett.epoch = _ ∧ u.sett.assignedAt = _ := settPass_beside ..
  obtain ⟨hee, her, hen⟩ := assignEpoch_sett (fieldBe p 0 8) s
  have hstat : u.regs = (numberTaken n last s).regs := by
    rw [hregs]
    simp only [assignTake, actingEnd_other ha, numberTaken, State.setBit, State.put, State.wr, State.rd, her]
  obtain ⟨hnum, hquar⟩ := numberTaken_stat hw last hn
  refine ⟨?_, ?_, ?_, ?_⟩
  · rw [← hnum, State.unitNum, State.get, State.rd, hstat]
    rfl
  · rw [← hquar, State.bit, State.get, State.rd, hstat]
    rfl
  · rw [hepoch]
    simpa [assignTake, actingEnd_other ha] using hee
  · rw [hat]
    simpa [assignTake, actingEnd_other ha] using hen

end Assignment

/-- Settles O15: each command by the equation of its case; an assignment by what its writes leave. -/
theorem chainSplice : Obligations.ChainSplice := by
  refine ⟨?silence, ?upLost, fun _ _ _ => exec_idlePatternDetect_probes, ?probe, ?reply, fun _ _ _ => exec_spliceCollectEnd_reports,
    fun _ _ _ _ _ _ => exec_spliceReport_head, ?number, ?assign, fun _ _ _ _ _ _ => exec_joinFrame_head, fun _ _ => exec_convergeTimeout_late⟩
  case silence =>
    intro up s hr hd ha hn hidle hdone hafter u
    have ho := silenceOver_of_after hdone hafter
    exact ⟨exec_headSilenceTimeout_acts hr hd ha ho,
      fun hu => ⟨_, exec_headSilenceTimeout_loses hr hd ha hn hidle ho hu, headLost_drops _ u⟩⟩
  case upLost =>
    intro s hr hd ha hn hidle ho
    exact exec_headSilenceTimeout_upLost hr hd ha hn hidle ho
  case probe =>
    intro f aborted p s t h hd hn
    rw [exec_spliceProbe h, probeTake_answers hd hn]
  case reply =>
    intro f aborted p n at_ s t h hp hn hlen
    rw [exec_spliceReply h, replyTake_collects hp hn hlen]
  case number =>
    rintro serial n l b h rfl
    exact numberFor_bound h
  case assign =>
    intro f aborted p n s t h h0 hd ha hnonce hserial hn hw
    obtain ⟨last, hframe⟩ := assignFrame_takes (x := f) h0 hd hnonce hserial
    exact ⟨_, (exec_spliceAssign h).trans (congrArg _ hframe), assignFrame_numbers hw hn ha last⟩

end Sys2Proof.Machine
end

section
/-! PROOFS. The check byte of a wake frame: the CRC-8 of R8 bit by bit. -/

namespace Sys2Proof.Machine

/-! ### The CRC-8 of R8 bit by bit (R8, R116) -/

/-- The register of R116 after one more bit of the message. -/
def crc8Bit (r : Nat) (b : Bool) : Nat := if r.testBit 7 ^^ b then (r * 2) % 256 ^^^ 0x07 else (r * 2) % 256

theorem crc8Bit_lt (r : Nat) (b : Bool) : crc8Bit r b < 256 := by
  unfold crc8Bit
  split
  · exact Nat.xor_lt_two_pow (n := 8) (Nat.mod_lt _ (by decide)) (by decide)
  · exact Nat.mod_lt _ (by decide)

theorem crc8Bits_lt {r : Nat} (bits : List Bool) (h : r < 256) : bits.foldl crc8Bit r < 256 :=
  List.foldlRecOn bits crc8Bit (motive := (· < 256)) h (fun r _ b _ => crc8Bit_lt r b)

theorem testBit_seven_iff {c : Nat} (h : c < 256) : c.testBit 7 = true ↔ 128 ≤ c := by
  rw [Nat.testBit_eq_decide_div_mod_eq, decide_eq_true_iff]
  omega

/-- A message xored into the register: its highest bit meets the one that leaves, the others move up with the register. -/
theorem crcLeft_xor {r m : Nat} (hr : r < 256) (hm : m < 256) (k : Nat) :
    crcLeft 8 0x07 (k + 1) (r ^^^ m) = crcLeft 8 0x07 k (crc8Bit r (m.testBit 7) ^^^ m * 2 % 256) := by
  have hx : r ^^^ m < 256 := Nat.xor_lt_two_pow (n := 8) hr hm
  have htop : 2 ^ 8 ≤ (r ^^^ m) * 2 ↔ (r.testBit 7 ^^ m.testBit 7) = true := by
    rw [← Nat.testBit_xor, testBit_seven_iff hx]
    omega
  have hlow : (r ^^^ m) * 2 % 2 ^ 8 = r * 2 % 256 ^^^ m * 2 % 256 := by
    rw [← Nat.pow_one 2, ← Nat.shiftLeft_eq, Nat.shiftLeft_xor_distrib, Nat.xor_mod_two_pow, Nat.shiftLeft_eq, Nat.shiftLeft_eq]
  rw [crcLeft, crc8Bit]
  by_cases h : (r.testBit 7 ^^ m.testBit 7) = true
  · rw [if_pos (htop.mpr h), if_pos h, hlow, Nat.xor_right_comm]
  · rw [if_neg (mt htop.mp h), if_neg h, ← hlow, Nat.mod_eq_of_lt (not_le.mp (mt htop.mp h))]

/-- The lowest `k` bits of a byte, moved up to the top of the register, are taken one by one from the highest on. -/
theorem crcLeft_eq_crc8Bits (m : Nat) : ∀ {k r : Nat}, k ≤ 8 → r < 256 →
    crcLeft 8 0x07 k (r ^^^ m * 2 ^ (8 - k) % 256) = ((List.range k).map m.testBit).reverse.foldl crc8Bit r
  | 0, r, _, _ => by simp [crcLeft, Nat.mul_mod_left]
  | k + 1, r, hk, hr => by
    have htop : (m * 2 ^ (8 - (k + 1)) % 2 ^ 8).testBit 7 = m.testBit k := by
      rw [Nat.testBit_mod_two_pow, Nat.testBit_mul_two_pow, show 7 - (8 - (k + 1)) = k by omega]
      simp
    have hup : m * 2 ^ (8 - (k + 1)) % 256 * 2 % 256 = m * 2 ^ (8 - k) % 256 := by
      rw [Nat.mod_mul_mod, Nat.mul_assoc, ← Nat.pow_succ, show (8 - (k + 1)).succ = 8 - k by omega]
    rw [crcLeft_xor hr (Nat.mod_lt _ (by decide)), hup, crcLeft_eq_crc8Bits m (by omega) (crc8Bit_lt r _), List.range_succ,
      List.map_append, List.reverse_append]
    exact congrArg (List.foldl crc8Bit · _) (congrArg (crc8Bit r) htop)

theorem byteBits_eq_testBit (x : Byte) : byteBits x = (List.range 8).map x.toNat.testBit := by
  refine List.map_congr_left fun i _ => ?_
  rw [Nat.testBit_eq_decide_div_mod_eq]
  rfl

theorem crcLeft_eq_byteBits {r : Nat} (x : Byte) (h : r < 256) :
    crcLeft 8 0x07 8 (r ^^^ x.toNat) = (byteBits x).reverse.foldl crc8Bit r := by
  have hbits := crcLeft_eq_crc8Bits x.toNat (Nat.le_refl 8) h
  rwa [Nat.sub_self, Nat.pow_zero, Nat.mul_one, Nat.mod_eq_of_lt x.isLt, ← byteBits_eq_testBit] at hbits

/-- The CRC-8 of R8 takes the bits of each byte from the highest on. -/
theorem crc8_eq_crc8Bits (bytes : Bytes) : crc8 bytes = (bytes.flatMap (fun x => (byteBits x).reverse)).foldl crc8Bit 0 := by
  suffices h : ∀ {r : Nat}, r < 256 → bytes.foldl (fun c x => crcLeft 8 0x07 8 (c ^^^ x.toNat)) r =
      (bytes.flatMap (fun x => (byteBits x).reverse)).foldl crc8Bit r from h (by decide)
  induction bytes with
  | nil => exact fun _ => rfl
  | cons x xs ih =>
    intro r hr
    rw [List.foldl_cons, List.flatMap_cons, List.foldl_append, crcLeft_eq_byteBits x hr]
    exact ih (crc8Bits_lt _ hr)

theorem crc8_lt (bytes : Bytes) : crc8 bytes < 256 := by
  rw [crc8_eq_crc8Bits]
  exact crc8Bits_lt _ (by decide)

/-- The register meets its own check byte and is 0. -/
theorem crc8_append_self (bytes : Bytes) : crc8 (bytes ++ [BitVec.ofNat 8 (crc8 bytes)]) = 0 := by
  have hbyte : (BitVec.ofNat 8 (crc8 bytes)).toNat = crc8 bytes := Nat.mod_eq_of_lt (crc8_lt bytes)
  rw [crc8, List.foldl_append, ← crc8, List.foldl_cons, hbyte, Nat.xor_self]
  rfl

theorem wakeBytes_eq (vehicle command tones : Nat) :
    let sent := be 3 (wakeId vehicle) ++ be 1 (command * 32 + tones)
    wakeBytes vehicle command tones = [0xAB] ++ sent ++ [BitVec.ofNat 8 (crc8 sent)] := by
  simp only [wakeBytes, be, List.nil_append]

/-- Settles O59: the register takes the bits one by one, and a message followed by its own check byte leaves it at 0. -/
theorem wakeFrameCheckByte : Obligations.WakeFrameCheckByte := by
  refine ⟨fun vehicle command tones => ⟨_, wakeBytes_eq vehicle command tones, ?_, crc8_append_self _⟩, by decide +kernel⟩
  rw [BitVec.toNat_ofNat, Nat.mod_eq_of_lt (crc8_lt _)]
  exact crc8_eq_crc8Bits _

end Sys2Proof.Machine
end

section
/-! PROOFS. The low-frequency field: what a request at a queue and a fault leave of it, what drives at once and with how much current. -/

namespace Sys2Proof.Machine

/-! ### What a request at a queue and a fault change (R23, R30 to R33, R443) -/

/-- From one state to another nothing changes but the registers, the queues, and what an arrival or a fault leaves with the commit queue, the
ledger, the chain, the start-up, the power state and the supervision. -/
def OnlyQueues (r t : State) : Prop := ∃ regs hwSet queues power led rmc boot sett hh hhAon,
  t = { r with regs := regs, hwSet := hwSet, queues := queues, power := power, led := led, rmc := rmc, boot := boot, sett := sett, hh := hh,
               hhAon := hhAon }

theorem OnlyQueues.refl (s : State) : OnlyQueues s s := ⟨_, _, _, _, _, _, _, _, _, _, rfl⟩

theorem OnlyQueues.set {r s : State} (h : OnlyQueues r s) {regs hwSet queues power led rmc boot sett hh hhAon} :
    OnlyQueues r { s with regs := regs, hwSet := hwSet, queues := queues, power := power, led := led, rmc := rmc, boot := boot, sett := sett,
                          hh := hh, hhAon := hhAon } := by
  obtain ⟨_, _, _, _, _, _, _, _, _, _, rfl⟩ := h
  exact ⟨_, _, _, _, _, _, _, _, _, _, rfl⟩

theorem OnlyQueues.lf {r t : State} (h : OnlyQueues r t) : t.lf = r.lf := by
  obtain ⟨_, _, _, _, _, _, _, _, _, _, rfl⟩ := h
  rfl

theorem OnlyQueues.snd {α : Type} {r t : State} {x : α × State} {a : α} (h : OnlyQueues r x.2) (e : x = (a, t)) : OnlyQueues r t := by
  subst e
  exact h

theorem noteDrop_onlyQueues {r : State} {x : Admit × State} (h : OnlyQueues r x.2) : OnlyQueues r (noteDrop x) := by
  unfold noteDrop
  split
  exacts [h.set, h]

section Arrival

variable {q : QueueId} {cls : Cls} {m : Master} {w : Work} {r s : State} (h : OnlyQueues r s)
include h

theorem awake_onlyQueues : OnlyQueues r (awake s) := by
  unfold awake
  split
  exacts [h.set, h.set, h.set, h, h, h]

theorem loserGone_onlyQueues (i : QItem) : OnlyQueues r (loserGone i s) := by
  unfold loserGone
  split
  exacts [h.set, h.set, h, h, h, h, h, h, h, h, h, h]

theorem countDrop_onlyQueues (q : QueueId) : OnlyQueues r (s.countDrop q) := by
  unfold State.countDrop
  split
  exacts [h.set, h]

theorem refuse_onlyQueues (b : Bool) (v : Queue) : OnlyQueues r (refuse q cls b v s) := by
  cases b with
  | true => exact h.set
  | false => exact (countDrop_onlyQueues h.set q).set

theorem admitCore_onlyQueues : OnlyQueues r (admitCore q cls m w s).2 := by
  have ha := awake_onlyQueues h
  dsimp only [admitCore]
  split
  · exact ha
  · split
    · exact ha.set
    · exact (loserGone_onlyQueues (refuse_onlyQueues ha _ _) _).set
    · split
      exacts [refuse_onlyQueues ha true _, refuse_onlyQueues (cls := cls) ha false _]

/-! ### What a fault changes (R443) -/

theorem rmcKick_onlyQueues : OnlyQueues r (rmcKick s) := by
  dsimp only [rmcKick]
  split
  · exact h
  · split
    · exact h.set
    · split
      · exact h
      · rename_i hpop
        unfold popQueue at hpop
        split at hpop
        · cases hpop
        · cases hpop
          split
          exacts [h.set, h.set, h.set]

theorem submitCore_onlyQueues (g : Group) : OnlyQueues r (submitCore cls g s).2 := by
  have ha := admitCore_onlyQueues (q := .commit) (cls := cls) (m := .session) (w := .group g) h
  unfold submitCore
  split
  · exact rmcKick_onlyQueues (ha.snd ‹_›)
  · exact ha

theorem settCore_onlyQueues (typ : Nat) (bc : Bool) (dst : Nat) (p : Bytes) : OnlyQueues r (settCore typ bc dst cls p s).2 := by
  unfold settCore settEmit
  split
  · exact h
  · split <;> have ha := (admitCore_onlyQueues h).snd ‹_›
    exacts [ha.set, ha.set, ha, ha]

theorem recordRaw_onlyQueues (x : Rec) : OnlyQueues r (recordRaw cls x s).2 := by
  unfold recordRaw
  split
  · split
    · split
      · split
        exacts [h.set, h.set]
      · exact h.set
    · split <;> have ha := (admitCore_onlyQueues h).snd ‹_›
      exacts [ha.set, ha.set, ha.set, ha]
  · split
    · unfold actBuffer
      split
      exacts [h.set, submitCore_onlyQueues h.set _]
    · split
      · exact settCore_onlyQueues h ..
      · split
        exacts [h.set, h.set]

theorem faultRecord_onlyQueues (action : Action) (code n detail : Nat) : OnlyQueues r (faultRecord action code n detail s).2 := by
  unfold faultRecord
  extract_lets body
  split
  exacts [recordRaw_onlyQueues h _, settCore_onlyQueues h ..]

theorem requestRestart_onlyQueues (code : Nat) : OnlyQueues r (requestRestart code s) := by
  unfold requestRestart
  split
  · exact h
  · split
    · split
      exacts [(faultRecord_onlyQueues (s := noteFault .log 0x1402 s) h.set _ _ _ _).set, h.set]
    · exact h.set

theorem runAction_onlyQueues (action : Action) (code : Nat) : OnlyQueues r (runAction action code s) := by
  cases action with
  | restart =>
    rw [runAction]
    split
    exacts [h, requestRestart_onlyQueues h code]
  | halt => exact h.set
  | log | isolate | reduce | shed => exact h

theorem raiseAs_onlyQueues (action : Action) (code info : Nat) : OnlyQueues r (raiseAs action code info s) := by
  dsimp only [raiseAs]
  split
  · exact h.set
  · refine runAction_onlyQueues ?_ action code
    split
    · exact noteDrop_onlyQueues (faultRecord_onlyQueues h.set ..)
    · exact h.set

theorem raise_onlyQueues (code detail : Nat) : OnlyQueues r (raise code detail s) := raiseAs_onlyQueues h ..

theorem enqueue_onlyQueues : OnlyQueues r (enqueue q cls m w s).2 := by
  have ha := admitCore_onlyQueues (q := q) (cls := cls) (m := m) (w := w) h
  have hp : OnlyQueues r (p0Fault q cls (admitCore q cls m w s)).2 := by
    unfold p0Fault
    split <;> have ht := ha.snd ‹_›
    · split
      exacts [raise_onlyQueues ht _ _, ht]
    · exact ht
    · exact ht
    · exact ht
  dsimp only [enqueue]
  split
  exacts [raise_onlyQueues hp _ _, hp]

end Arrival

@[simp] theorem enqueue_lf (q : QueueId) (cls : Cls) (m : Master) (w : Work) (s : State) : (enqueue q cls m w s).2.lf = s.lf :=
  (enqueue_onlyQueues (.refl s)).lf

/-! ### What drives: frames, a diagnostic run, the coupled exchange (R98, R104) -/

/-- The frames that run, the diagnostic run and the coupled exchange in progress. -/
def State.drives (s : State) : List LfRun × Option TestRun × Option CtRun := (s.lf.runs, s.lf.test, s.lf.ct)

theorem State.drives_of_lf {s t : State} (h : t.lf = s.lf) : t.drives = s.drives := by rw [State.drives, h, State.drives]

theorem State.demand_of_drives {s t : State} (h : t.drives = s.drives) : t.demand = s.demand := by
  obtain ⟨hruns, htest, -⟩ : t.lf.runs = s.lf.runs ∧ t.lf.test = s.lf.test ∧ t.lf.ct = s.lf.ct := by simpa [State.drives] using h
  rw [State.demand, State.demand, hruns, htest]

/-- Steps that each keep what a function tells of the state keep it together. -/
theorem foldl_same {α β : Type} (g : State → β) (f : State → α → State) (hf : ∀ t a, g (f t a) = g t) (l : List α) (s : State) :
    g (l.foldl f s) = g s :=
  List.foldlRecOn l f (motive := fun t => g t = g s) rfl (fun t ht a _ => (hf t a).trans ht)

section Drives

variable {s : State}

@[simp] theorem State.put_drives (f : Fld) (v : Nat) : (s.put f v).drives = s.drives := rfl
@[simp] theorem State.setBit_drives (f : Fld) (b : Bool) : (s.setBit f b).drives = s.drives := rfl
@[simp] theorem State.count_drives (f : Fld) (n : Nat) : (s.count f n).drives = s.drives := rfl
@[simp] theorem State.setQueue_drives (q : QueueId) (v : Queue) : (s.setQueue q v).drives = s.drives := rfl
@[simp] theorem State.setBank_drives (b : Nat) (v : LfBank) : (s.setBank b v).drives = s.drives := rfl
@[simp] theorem State.setLane_drives (n : Nat) (l : Lane) : (s.setLane n l).drives = s.drives := rfl
@[simp] theorem own_drives (cls : Cls) (c : Nat) : (own cls c s).drives = s.drives := rfl
@[simp] theorem bankTake_drives (b : Nat) (i : QItem) : (bankTake b i s).drives = s.drives := rfl

@[simp] theorem State.setDom_drives (d : Dom) (on : Bool) : (s.setDom d on).drives = s.drives := by cases on <;> rfl

@[simp] theorem boostCheck_drives : (boostCheck s).drives = s.drives := by
  dsimp only [boostCheck]
  split <;> rfl

@[simp] theorem bankUse_drives (b : Nat) : (bankUse b s).drives = s.drives := by
  dsimp only [bankUse]
  split <;> simp

@[simp] theorem banksUse_drives (bs : List Nat) : (bs.foldl (fun s b => bankUse b s) s).drives = s.drives :=
  foldl_same State.drives _ (fun _ _ => bankUse_drives _) bs s

/-! ### The lane of a frame (R119) -/

@[simp] theorem laneMove_drives (n c : Nat) : (laneMove n c s).drives = s.drives := by
  simp [laneMove, apply_ite State.drives]

@[simp] theorem laneHold_drives (n : Nat) (cls : Cls) (c : Nat) : (laneHold n cls c s).drives = s.drives := by
  simp [laneHold, apply_ite State.drives]

@[simp] theorem laneForRun_drives (r : LaneReq) (n : Nat) : (laneForRun r n s).drives = s.drives := by
  unfold laneForRun
  split <;> rfl

@[simp] theorem laneTake_drives (sel : Nat) (cls : Cls) (c : Nat) (run : Option Nat) : (laneTake sel cls c run s).2.drives = s.drives := by
  unfold laneTake
  split
  · simp
  · extract_lets n
    split
    · rfl
    · split
      · rfl
      · exact State.drives_of_lf (enqueue_lf ..)

@[simp] theorem runLane_drives (id : Nat) : (runLane id s).drives = s.drives := by
  unfold runLane
  split
  · rfl
  · split
    exacts [laneMove_drives .., laneTake_drives ..]

@[simp] theorem pollOpensRun_drives (e command : Nat) : (pollOpensRun e command s).drives = s.drives := by
  dsimp only [pollOpensRun]
  split
  exacts [runLane_drives _, rfl]

@[simp] theorem plainLane_drives (r : LfReq) : (plainLane r s).2.drives = s.drives := by
  unfold plainLane
  extract_lets run
  split
  · rfl
  · split
    exacts [laneMove_drives .., rfl]

/-! ### The end of an operation (R130) -/

@[simp] theorem runFrameEnded_drives (id command : Nat) (ipk : List (Nat × Nat)) (ok : Bool) :
    (runFrameEnded id command ipk ok s).drives = s.drives := by
  dsimp only [runFrameEnded]
  split
  · split <;> rfl
  · rfl

@[simp] theorem lfDone_drives (r : LfReq) (res : LfResult) (ipk : List (Nat × Nat)) (lane : Option Nat) :
    (lfDone r res ipk lane s).drives = s.drives := by
  have hlast : (r.owned.foldl (fun s c => s.put (Reg.LF_CH_STAT_LAST c) res.code) s).drives = s.drives :=
    foldl_same State.drives _ (fun _ _ => State.put_drives ..) _ s
  have heard (t : State) : (if res = .ok ∧ r.command ≠ 2 then lane.elim t (fun n => openReplies n t) else t).drives = t.drives := by
    split
    · cases lane <;> rfl
    · rfl
  dsimp only [lfDone]
  split
  · split
    · exact (runFrameEnded_drives ..).trans hlast
    · exact (heard _).trans hlast
  · exact (runFrameEnded_drives ..).trans hlast
  · exact (heard _).trans hlast

/-! ### What starts -/

/-- A frame that starts runs beside what ran before. -/
theorem lfStart_drives (cls : Cls) (r : LfReq) (s : State) :
    ∃ run, run.req = r ∧ (lfStart cls r s).drives = (s.lf.runs ++ [run], s.lf.test, s.lf.ct) := by
  unfold lfStart
  extract_lets bytes powered owned prepared
  have howned : owned.drives = s.drives :=
    (foldl_same State.drives _ (fun _ _ => by simp) _ powered).trans (banksUse_drives _)
  have hprepared : prepared.drives = s.drives := by
    refine Eq.trans ?_ howned
    unfold prepared
    split
    · simp
    · split <;> simp
    · rfl
  have hlane : (plainLane r prepared).2.drives = s.drives := (plainLane_drives r).trans hprepared
  rcases hl : plainLane r prepared with ⟨lane, t⟩
  rw [hl] at hlane
  obtain ⟨hruns, hrest⟩ := Prod.mk.inj hlane
  exact ⟨_, rfl, Prod.ext (congrArg (· ++ _) hruns) hrest⟩

/-- A diagnostic run that starts is the one in progress. -/
theorem testStart_drives (c : Nat) (cls : Cls) (x : CoilTest) (s : State) :
    ∃ run, (testStart c cls x s).drives = (s.lf.runs, some run, s.lf.ct) := by
  have h : (own cls c (bankUse (bankOf c) s)).drives = s.drives := by simp
  obtain ⟨hruns, -, hct⟩ : _ ∧ _ ∧ _ := by simpa [State.drives] using h
  exact ⟨_, Prod.ext hruns (Prod.ext rfl hct)⟩

@[simp] theorem coilsNext_drives (b : Nat) (i : QItem) (rest : List Nat) : (coilsNext b i rest s).drives = s.drives := by
  unfold coilsNext
  split <;> rfl

theorem State.demandFits_iff {d : Nat × Nat} : s.demandFits d = true ↔ s.demand.1 + d.1 ≤ 3 ∧ s.demand.2 + d.2 ≤ 600 := by
  rw [State.demandFits, Bool.and_eq_true, decide_eq_true_iff, decide_eq_true_iff]

/-- What a command may have started: nothing, or a frame or a diagnostic run that fits beside what drives. -/
inductive StartsWithin (s t : State) : Prop
  | none (h : t.drives = s.drives)
  | frame (run : LfRun) (fits : s.demandFits (run.req.peakN, run.req.peakI) = true)
      (h : t.drives = (s.lf.runs ++ [run], s.lf.test, s.lf.ct))
  | test (run : TestRun) (idle : s.lf.test = .none) (fits : s.demandFits (1, 10) = true) (h : t.drives = (s.lf.runs, some run, s.lf.ct))

/-- R104: what starts within the limits leaves the demand within them. -/
theorem StartsWithin.demand_le {s t : State} (h : StartsWithin s t) (hn : s.demand.1 ≤ 3) (hi : s.demand.2 ≤ 600) :
    t.demand.1 ≤ 3 ∧ t.demand.2 ≤ 600 := by
  cases h with
  | none h => exact (State.demand_of_drives h).symm ▸ ⟨hn, hi⟩
  | frame run fits h =>
    obtain ⟨hruns, htest, -⟩ : t.lf.runs = s.lf.runs ++ [run] ∧ t.lf.test = s.lf.test ∧ _ := by simpa [State.drives] using h
    obtain ⟨hpeakN, hpeakI⟩ := State.demandFits_iff.mp fits
    simp only [State.demand] at hpeakN hpeakI
    simp only [State.demand, hruns, htest, List.map_append, List.sum_append, List.map_cons, List.map_nil, List.sum_singleton]
    omega
  | test run idle fits h =>
    obtain ⟨hruns, htest, -⟩ : t.lf.runs = s.lf.runs ∧ t.lf.test = some run ∧ _ := by simpa [State.drives] using h
    simpa [State.demand, hruns, htest, idle] using State.demandFits_iff.mp fits

theorem lfFits_demand {r : LfReq} (h : s.lfFits r = true) : s.demandFits (r.peakN, r.peakI) = true := by
  simp only [State.lfFits, Bool.and_eq_true] at h
  exact h.2

theorem diagFits_demand {c : Nat} {drive : Nat × Nat} (h : s.diagFits c drive = true) :
    s.lf.test = none ∧ s.demandFits (1, 10) = true := by
  simp only [State.diagFits, Bool.and_eq_true, Option.isNone_iff_eq_none] at h
  obtain ⟨⟨⟨⟨⟨⟨⟨-, htest⟩, -⟩, -⟩, -⟩, -⟩, hfits⟩, -⟩ := h
  exact ⟨htest, hfits⟩

theorem lfStart_startsWithin {u : State} {cls : Cls} {r : LfReq} (hu : u.drives = s.drives) (hfits : s.lfFits r = true) :
    StartsWithin s (lfStart cls r u) := by
  obtain ⟨run, rfl, hdrives⟩ := lfStart_drives cls r u
  obtain ⟨hruns, hrest⟩ := Prod.mk.inj hu
  exact .frame run (lfFits_demand hfits) (hdrives.trans (Prod.ext (congrArg (· ++ [run]) hruns) hrest))

theorem testStart_startsWithin {u : State} {c : Nat} {cls : Cls} {x : CoilTest} (hu : u.drives = s.drives)
    (hfits : s.diagFits c (16, 10) = true) : StartsWithin s (testStart c cls x u) := by
  obtain ⟨run, hdrives⟩ := testStart_drives c cls x u
  obtain ⟨hruns, hrest⟩ := Prod.mk.inj hu
  obtain ⟨hidle, hdemand⟩ := diagFits_demand hfits
  exact .test run hidle hdemand (hdrives.trans (Prod.ext hruns (Prod.ext rfl (Prod.mk.inj hrest).2)))

theorem execLfFrameStart_startsWithin {b : Nat} {t : State} (h : execLfFrameStart b s = .next t) : StartsWithin s t := by
  unfold execLfFrameStart at h
  split at h
  · cases h
    exact .none rfl
  · split at h
    · extract_lets u at h
      split at h
      · cases h
        exact .none (by simp [u])
      · split at h
        · cases h
          exact .none (by simp)
        · split at h
          · cases h
            exact .none rfl
          · split at h
            · cases h
              refine .none ?_
              split
              exacts [rfl, rfl, rfl]
            · cases h
              rename_i hfits _
              exact lfStart_startsWithin rfl (Bool.eq_true_of_not_eq_false (not_or.mp hfits).1)
    all_goals
      cases h
      exact .none rfl

theorem coilNext_startsWithin {b : Nat} {m : CoilMeas} {t : State} (h : coilNext b m s = some t) : StartsWithin s t := by
  unfold coilNext at h
  split at h
  · cases h
  · split at h
    · cases h
      exact .none rfl
    · split at h
      · cases h
        exact .none (by simp)
      · split at h
        · cases h
          exact .none (by simp)
        · split at h
          · cases h
          · cases h
            rename_i hfits
            exact testStart_startsWithin (coilsNext_drives ..) (Bool.eq_true_of_not_eq_false (not_or.mp hfits).1)
    all_goals cases h

theorem execCoilTest_startsWithin {m : CoilMeas} {t : State} (h : execCoilTest m s = .next t) : StartsWithin s t := by
  cases h
  rcases first : coilNext 0 m s with - | u
  · rcases second : coilNext 1 m s with - | v
    · exact .none rfl
    · exact coilNext_startsWithin second
  · exact coilNext_startsWithin first

end Drives

/-- Settles O17: what starts was found to fit beside what drives. -/
theorem fieldPeakLimit : Obligations.FieldPeakLimit := by
  intro b m s t hn hi h
  have hstarts : StartsWithin s t := h.elim execLfFrameStart_startsWithin execCoilTest_startsWithin
  exact hstarts.demand_le hn hi

end Sys2Proof.Machine
end

section
/-! PROOFS. The low-frequency field: frames and polls, the supplies, bridges, coil tests and retests. -/

namespace Sys2Proof.Machine

/-! ### Scheduled polls (R109, R118) -/

section Polls

variable {e : Nat} {s : State}

theorem slotDue_of_lastSlot {period : Nat} (h : s.lastSlot e = none ∨
    (∃ t, s.lastSlot e = some t ∧ t * 1000 + period * 4194304 ≤ s.chron.count.toNat * 1000)) : s.slotDue e period = true := by
  rcases h with h | ⟨t, h, ht⟩
  · simp [State.slotDue, h]
  · simp [State.slotDue, h, ht]

theorem exec_pollSlot_due {p : PollE} (hp : s.pollE e = some p) (hdue : s.slotDue e p.period = true) (hprofile : p.profile = s.profile)
    (hunit : p.unit = s.unitNum) (hbad : s.lf.bad.contains e = false) (hruns : s.runs = true) :
    let t := { s with lf := { s.lf with slots := (e, s.chron.count.toNat) :: s.lf.slots.filter (fun x => x.1 != e) } }
    exec (.pollSlot e) s = .next (lfRequest (t.lfReq (.poll e) p) t) := by
  change execPollSlot e s = _
  simp only [execPollSlot, hp]
  exact if_neg (by simp [hprofile, hunit, hdue, hruns]; simpa using hbad)

theorem State.queue_setQueue_other {q p : QueueId} (v : Queue) (h : p.idx ≠ q.idx) : (s.setQueue q v).queue p = s.queue p := by
  simp [State.queue, State.setQueue, List.getElem?_set_ne h.symm]

/-- The overdue polls of an entry leave a bank's queue (R109). -/
def pollsDropped (e b : Nat) (s : State) : State :=
  let q := s.queue (.bank b)
  (s.setQueue (.bank b) { q with items := q.items.filter (fun i => !pollOverdue s e i) }).count Reg.LF_SKIP_V
    (q.items.filter (pollOverdue s e)).length

theorem exec_pollSkipDeadline (e : Nat) (s : State) : exec (.pollSkipDeadline e) s = .next (pollsDropped e 1 (pollsDropped e 0 s)) := rfl

theorem pollOverdue_pollsDropped (e b : Nat) (s : State) : pollOverdue (pollsDropped e b s) = pollOverdue s := rfl

theorem pollsDropped_queue_same (b : Nat) (h : s.queues.length = 23) : ((pollsDropped e b s).queue (.bank b)).items =
    (s.queue (.bank b)).items.filter (fun i => !pollOverdue s e i) :=
  congrArg Queue.items (State.queue_setQueue h)

theorem pollsDropped_queue_other {q : QueueId} {b : Nat} (h : q.idx ≠ (QueueId.bank b).idx) :
    (pollsDropped e b s).queue q = s.queue q :=
  State.queue_setQueue_other _ h

theorem pollsDropped_items {b : Nat} (h : s.queues.length = 23) (hb : b < 2) :
    ((pollsDropped e 1 (pollsDropped e 0 s)).queue (.bank b)).items = (s.queue (.bank b)).items.filter (fun i => !pollOverdue s e i) := by
  rcases (by omega : b = 0 ∨ b = 1) with rfl | rfl
  · rw [pollsDropped_queue_other (by decide), pollsDropped_queue_same 0 h]
  · have hlen : (pollsDropped e 0 s).queues.length = 23 := State.setQueue_queues_length.trans h
    rw [pollsDropped_queue_same 1 hlen, pollOverdue_pollsDropped, pollsDropped_queue_other (by decide)]

end Polls

/-! ### A frame starts, waits, or is refused or skipped (R97, R100, R104 to R110) -/

section FrameStart

variable {b : Nat} {i : QItem} {r : LfReq} {s : State} (hi : s.bankFront b = some i) (hw : i.work = .lf r)
include hi hw

theorem exec_lfFrameStart_refused {res : LfResult} (h : s.lfRefusal r = some res) :
    exec (.lfFrameStart b) s = .next (lfDone r res [] none (bankTake b i s)) := by
  change execLfFrameStart b s = _
  simp only [execLfFrameStart, hi, hw, h]

variable (hr : s.lfRefusal r = none) (hready : r.banks.all s.bankReady = true)
include hr hready

theorem exec_lfFrameStart_waits (h : s.lfFits r = false ∨ s.givesWay b i = true) : exec (.lfFrameStart b) s = .next s := by
  change execLfFrameStart b s = _
  simp only [execLfFrameStart, hi, hw, hr, hready, Bool.true_eq_false, if_false, if_pos h]

variable (hfits : s.lfFits r = true) (hway : s.givesWay b i = false)
include hfits hway

/-- A request that fits starts where its charge does. -/
theorem exec_lfFrameStart_fits : exec (.lfFrameStart b) s = .next (
    if s.lfAffordable r = false then
      match r.by_ with
      | .poll _ => (bankTake b i s).count Reg.LF_SKIP_V 1
      | .trig _ _ => s
      | .lfrun _ => s
    else lfStart i.cls r (bankTake b i s)) := by
  change execLfFrameStart b s = _
  simp only [execLfFrameStart, hi, hw, hr, hready, hfits, hway, Bool.true_eq_false, Bool.false_eq_true, or_self, if_false]
  split <;> rfl

theorem exec_lfFrameStart_starts (h : s.lfAffordable r = true) :
    exec (.lfFrameStart b) s = .next (lfStart i.cls r (bankTake b i s)) := by
  rw [exec_lfFrameStart_fits hi hw hr hready hfits hway, if_neg (by simp [h])]

theorem exec_lfFrameStart_skipped {e : Nat} (h : s.lfAffordable r = false) (hby : r.by_ = .poll e) :
    exec (.lfFrameStart b) s = .next ((bankTake b i s).count Reg.LF_SKIP_V 1) := by
  rw [exec_lfFrameStart_fits hi hw hr hready hfits hway, if_pos h, hby]

theorem exec_lfFrameStart_unaffordable (h : s.lfAffordable r = false) (hby : ∀ e, r.by_ ≠ .poll e) :
    exec (.lfFrameStart b) s = .next s := by
  rw [exec_lfFrameStart_fits hi hw hr hready hfits hway, if_pos h]
  cases hb : r.by_ with
  | poll e => exact absurd hb (hby e)
  | trig _ _ => rfl
  | lfrun _ => rfl

end FrameStart

/-! ### A frame ends (R103, R119, R121) -/

section FrameEnd

variable {c : Nat} {run : LfRun} {m : DriveMeas} {s : State}

theorem exec_lfFrameEnd_run (hrun : s.runOn c = some run) (meas : List DriveMeas) :
    exec (.lfFrameEnd c meas) s = .next (frameEnd run meas s) := by
  change execLfFrameEnd c meas s = _
  simp only [execLfFrameEnd, hrun]

theorem frameEnd_unmeasured (hend : run.startAt + periodTicks run.req.periods ≤ s.now) : frameEnd run [] s = lfEnd run .ok [] s :=
  if_neg (Nat.not_lt.mpr hend)

theorem coilOpen_true {target ipk : Nat} {full : Bool} (hf : full = true) (h : ipk * 10 < target) : coilOpen target ipk full = true := by
  rw [coilOpen, hf, Bool.true_and, decide_eq_true h]

theorem coilOpen_false {target ipk : Nat} {full : Bool} (h : full = false ∨ target ≤ ipk * 10) : coilOpen target ipk full = false := by
  rw [coilOpen, Bool.and_eq_false_iff, decide_eq_false_iff_not, Nat.not_lt]
  exact h

section Measured

variable (hm : run.req.owned.contains m.ch = true)
include hm

/-- A coil found open is disabled and ends its frame (R121). -/
theorem frameEnd_open (hopen : coilOpen (run.req.currentOf m.ch) m.ipk m.full = true) : frameEnd run [m] s =
    lfEnd run .open_ [(m.ch, m.ipk)]
      (disableChannel m.ch 0x2101 (ipkReport m.ch (run.req.currentOf m.ch) m.ipk m.full s)) := by
  simp only [frameEnd, List.filter_cons, hm, if_true, List.filter_nil, List.foldl_cons, List.foldl_nil, List.map_cons, List.map_nil,
    List.find?_cons, hopen]

theorem frameEnd_last (hopen : coilOpen (run.req.currentOf m.ch) m.ipk m.full = false)
    (hend : run.startAt + periodTicks run.req.periods ≤ s.now) : frameEnd run [m] s =
    lfEnd run .ok [(m.ch, m.ipk)] (ipkReport m.ch (run.req.currentOf m.ch) m.ipk m.full s) := by
  simp only [frameEnd, List.filter_cons, hm, if_true, List.filter_nil, List.foldl_cons, List.foldl_nil, List.map_cons, List.map_nil,
    List.find?_cons, List.find?_nil, hopen, if_neg (Nat.not_lt.mpr hend)]

end Measured

theorem exec_lfFrameEnd_coupled {x : CtRun} {h : CoilE} (hrun : s.runOn h.channel = none) (hct : s.lf.ct = some x) (hh : s.holder = some h)
    (hm : m.ch = h.channel) :
    let t := ipkReport h.channel (min h.current 50) m.ipk m.full { s with lf := { s.lf with ct := some { x with seen := true } } }
    exec (.lfFrameEnd h.channel [m]) s =
      .next (if coilOpen (min h.current 50) m.ipk m.full = true then ctOver .open_ (disableChannel h.channel 0x2101 t) else t) := by
  change execLfFrameEnd h.channel [m] s = _
  simp [execLfFrameEnd, hrun, hct, hh, hm]

end FrameEnd

/-! ### A bank is switched off (R97) -/

section BankIdle

variable {b : Nat} {s : State}

theorem exec_bankIdleOff_idle (hp : s.profile ≤ 1) (hon : s.domOn (bankDom b) = true) (hct : s.lf.ct = none) (hruns : s.lf.runs = [])
    (htest : s.lf.test = none) (hq : (s.queue (.bank b)).items = []) (hafter : s.after (s.bank b).usedAt 10000 = true) :
    exec (.bankIdleOff b) s = .next (bankOff b s) := by
  change execBankIdleOff b s = _
  simp only [execBankIdleOff]
  exact if_pos ⟨hp, hon, by simp [hct, hruns, htest, hq], hafter⟩

theorem exec_bankIdleOff_kept (hp : 2 ≤ s.profile) : exec (.bankIdleOff b) s = .next s := by
  change execBankIdleOff b s = _
  simp only [execBankIdleOff]
  exact if_neg (fun h => absurd h.1 (by omega))

end BankIdle

/-! ### The boost stage and the limits of drive (R99, R100) -/

section Supply

variable {s : State}

theorem exec_boostTimeout_late {at_ : Nat} (hat : s.lf.boostAt = some at_) (hafter : s.after at_ 2000 = true) (hvlf : s.power.vlf < 8000) :
    exec .boostTimeout s = .next (fieldStop .inhibit
      (lfInhibit (raise 0x2108 s.power.vlf { s with lf := { s.lf with boostAt := none, boostFail := true } }))) := by
  change execBoostTimeout s = _
  simp only [execBoostTimeout, hat]
  exact if_pos ⟨hafter, hvlf⟩

theorem State.bit_setBit_same {f : Fld} (b : Bool) (h : regsWf s.regs = true) (hlo : f.lo < 32) (hw : f.width = 1) :
    (s.setBit f b).bit f = b := by
  have hget : (s.setBit f b).get f = (if b then 1 else 0) % 2 ^ f.width := State.get_put_same s f _ h (by omega)
  rw [State.bit, hget, hw]
  cases b <;> rfl

theorem State.bit_of_get {t : State} {f : Fld} (h : t.get f = s.get f) : t.bit f = s.bit f := by rw [State.bit, h, State.bit]

theorem State.after_of_now {t : State} (h : t.now = s.now) (a us : Nat) : t.after a us = s.after a us := by rw [State.after, h, State.after]

theorem State.after_now {us : Nat} (h : 0 < us) : s.after s.now us = false := by
  rw [State.after, decide_eq_false_iff_not]
  omega

/-- Whether the boost stage is to switch (R99). -/
def State.boostDue (s : State) : Bool := (s.domOn .lfa || s.domOn .lfb) && decide (0 < s.powAon.vbat ∧ s.powAon.vbat < 16000)

theorem boostCheck_eq (s : State) : ∃ regs hwSet boostAt,
    boostCheck s = { s with regs := regs, hwSet := hwSet, lf := { s.lf with boostAt := boostAt } } := by
  dsimp only [boostCheck]
  split
  exacts [⟨_, _, _, rfl⟩, ⟨_, _, _, rfl⟩]

theorem boostCheck_regsWf (h : regsWf s.regs = true) : regsWf (boostCheck s).regs = true := by
  dsimp only [boostCheck]
  split
  exacts [h, State.regsWf_setBit _ _ h]

theorem boostCheck_boost (h : regsWf s.regs = true) : (boostCheck s).bit Reg.LF_STAT_BOOST = s.boostDue := by
  dsimp only [boostCheck]
  split
  · exact Eq.symm ‹_›
  · exact State.bit_setBit_same _ h (by decide) rfl

theorem boostCheck_get {f : Fld} (h : regsWf s.regs = true) (hf : f.lo + f.width ≤ 32)
    (hfb : f.reg ≠ Reg.LF_STAT ∨ 31 ≤ f.lo ∨ f.lo + f.width ≤ 30) : (boostCheck s).get f = s.get f := by
  dsimp only [boostCheck]
  split
  · rfl
  · exact State.get_setBit_apart (f := Reg.LF_STAT_BOOST) h (by decide) hf hfb

/-- The state in which a measured VBAT is shown. -/
def vbatShown (vbat : Nat) (s : State) : State :=
  ({ s with powAon := { s.powAon with vbat := vbat } }.put Reg.PWR_STAT_VBAT (min (vbat / 250) 255)).setBit Reg.PWR_STAT_OVR
    (decide (36000 < vbat))

theorem setVbat_eq (vbat : Nat) (s : State) : setVbat vbat s = allowTrack (boostCheck (vbatShown vbat s)) := rfl

theorem vbatShown_regsWf (vbat : Nat) (h : regsWf s.regs = true) : regsWf (vbatShown vbat s).regs = true :=
  State.regsWf_setBit _ _ (State.regsWf_put _ _ _ h)

theorem vbatShown_rd {a vbat : Nat} (h : regsWf s.regs = true) (ha : a ≠ Reg.PWR_STAT) : (vbatShown vbat s).rd a = s.rd a :=
  (State.rd_setBit_apart _ (State.regsWf_put _ _ _ h) ha).trans (State.rd_put_apart _ h ha)

theorem setVbat_vbat (vbat : Nat) (s : State) : (setVbat vbat s).powAon.vbat = vbat := by
  obtain ⟨_, _, _, hboost⟩ := boostCheck_eq (vbatShown vbat s)
  rw [setVbat_eq, hboost]
  rfl

theorem setVbat_boost {vbat : Nat} (h : regsWf s.regs = true) : (setVbat vbat s).bit Reg.LF_STAT_BOOST =
    ((s.domOn .lfa || s.domOn .lfb) && decide (0 < vbat ∧ vbat < 16000)) := by
  have hdom (d : Dom) : (vbatShown vbat s).domOn d = s.domOn d := by
    rw [State.domOn, State.bitAt, State.get_of_rd (f := Reg.PWR_DOM_ON) (vbatShown_rd h (by decide))]
    rfl
  calc (setVbat vbat s).bit Reg.LF_STAT_BOOST
      = (vbatShown vbat s).boostDue := boostCheck_boost (vbatShown_regsWf vbat h)
    _ = _ := by rw [State.boostDue, hdom, hdom]; rfl

theorem measured_inh (vbat vlf : Nat) (gate : Bool) (h : regsWf s.regs = true) :
    (measured vbat vlf gate s).bit Reg.LF_STAT_INH = s.bit Reg.LF_STAT_INH :=
  State.bit_of_get (calc (measured vbat vlf gate s).get Reg.LF_STAT_INH
    _ = (vbatShown vbat { s with power := { s.power with vlf := vlf, gateOk := gate } }).get Reg.LF_STAT_INH :=
      boostCheck_get (vbatShown_regsWf vbat h) (by decide) (by decide)
    _ = s.get Reg.LF_STAT_INH := State.get_of_rd (vbatShown_rd h (by decide)))

theorem measured_regsWf (vbat vlf : Nat) (gate : Bool) (h : regsWf s.regs = true) : regsWf (measured vbat vlf gate s).regs = true :=
  boostCheck_regsWf (vbatShown_regsWf vbat h)

/-- What the measured supplies leave of the field: since when drive has been allowed, where it is, and what runs. -/
theorem measured_lf (vbat vlf : Nat) (gate : Bool) (s : State) : ∃ boostAt, (measured vbat vlf gate s).now = s.now ∧
    (measured vbat vlf gate s).lf = { s.lf with
      boostAt := boostAt, allowSince := if allows vbat vlf gate then some (s.lf.allowSince.getD s.now) else none } := by
  obtain ⟨_, _, boostAt, hboost⟩ := boostCheck_eq (vbatShown vbat { s with power := { s.power with vlf := vlf, gateOk := gate } })
  rw [measured, setVbat_eq, hboost]
  exact ⟨boostAt, rfl, rfl⟩

theorem exec_driveInhibit_inhibits {vbat vlf : Nat} {gate : Bool} (h : 36000 < vbat ∨ vlf < 7500 ∨ 40500 < vlf ∨ gate = false) :
    exec (.driveInhibit vbat vlf gate) s = .next (fieldStop .inhibit (lfInhibit (measured vbat vlf gate s))) :=
  if_pos (by simpa [inhibits, or_assoc] using h)

theorem exec_driveAllow (vbat vlf : Nat) (gate : Bool) (s : State) : exec (.driveAllow vbat vlf gate) s =
    let t := measured vbat vlf gate s
    if t.lf.allowSince.any (fun a => t.after a 10000) then
      .next ({ t with lf := { t.lf with inhSince := none, inhFault := false, boostFail := false } }.setBit Reg.LF_STAT_INH false)
    else .next t := rfl

theorem allows_of_ranges {vbat vlf : Nat} {gate : Bool} (hvbat : vbat ≤ 35000) (hlo : 8000 ≤ vlf) (hhi : vlf ≤ 40000) (hgate : gate = true) :
    allows vbat vlf gate = true := by
  simp [allows, hvbat, hlo, hhi, hgate]

section Allowed

variable {vbat vlf : Nat} {gate : Bool} (hallow : allows vbat vlf gate = true) (h : regsWf s.regs = true)
include hallow h

/-- R100: after 10 ms without a break drive is allowed again. -/
theorem exec_driveAllow_held {a : Nat} (ha : s.lf.allowSince = some a) (hafter : s.after a 10000 = true) :
    ∃ t, exec (.driveAllow vbat vlf gate) s = .next t ∧ t.bit Reg.LF_STAT_INH = false ∧ t.lf.inhSince = none ∧ t.lf.runs = s.lf.runs := by
  obtain ⟨boostAt, hnow, hlf⟩ := measured_lf vbat vlf gate s
  rw [exec_driveAllow]
  refine ⟨_, if_pos ?_, State.bit_setBit_same _ ?_ (by decide) rfl, rfl, ?_⟩
  · rw [hlf, if_pos hallow, ha, Option.getD_some, Option.any_some, State.after_of_now hnow, hafter]
  · exact measured_regsWf vbat vlf gate h
  · rw [State.setBit_lf, hlf]

/-- R100: the 10 ms begin when the last of the three conditions comes into its range. -/
theorem exec_driveAllow_begins (ha : s.lf.allowSince = none) :
    ∃ t, exec (.driveAllow vbat vlf gate) s = .next t ∧ t.bit Reg.LF_STAT_INH = s.bit Reg.LF_STAT_INH ∧ t.lf.allowSince = some s.now := by
  obtain ⟨boostAt, hnow, hlf⟩ := measured_lf vbat vlf gate s
  have hsince : (measured vbat vlf gate s).lf.allowSince = some s.now := by rw [hlf, if_pos hallow, ha]; rfl
  rw [exec_driveAllow]
  refine ⟨_, if_neg ?_, measured_inh vbat vlf gate h, hsince⟩
  rw [hsince, Option.any_some, State.after_of_now hnow, State.after_now (by decide)]
  exact Bool.false_ne_true

end Allowed

/-- The inhibition begins (R100). -/
def inhibitedNow (s : State) : State :=
  { s with lf := { s.lf with inhSince := some s.now, inhFault := false, allowSince := none } }.setBit Reg.LF_STAT_INH true

/-- Where nothing drives, an inhibition stops nothing. -/
theorem lfInhibit_idle (hinh : s.bit Reg.LF_STAT_INH = false) (hruns : s.lf.runs = []) (htest : s.lf.test = none) :
    lfInhibit s = inhibitedNow s := by
  have hend : lfEndAll (fun _ => true) .inhibit (inhibitedNow s) = inhibitedNow s := by
    rw [lfEndAll, show (inhibitedNow s).lf.runs = [] from hruns]
    rfl
  have hstop : testStop (fun _ => true) .inhibit (inhibitedNow s) = inhibitedNow s := by
    rw [testStop, show (inhibitedNow s).lf.test = none from htest]
  rw [lfInhibit, if_neg (ne_true_of_eq_false hinh)]
  exact (congrArg (testStop (fun _ => true) .inhibit) hend).trans hstop

theorem exec_inhibitLong_raises {at_ : Nat} (hat : s.lf.inhSince = some at_) (hf : s.lf.inhFault = false)
    (hafter : s.after at_ 1000000 = true) :
    exec .inhibitLong s = .next (raise 0x2107 0 { s with lf := { s.lf with inhFault := true } }) := by
  change execInhibitLong s = _
  simp only [execInhibitLong, hat]
  exact if_pos ⟨hf, hafter⟩

end Supply

/-! ### Bridges: shorts and temperature (R110, R121) -/

section Bridges

variable {c : Nat} {run : LfRun} {s : State}

/-- What the fault of a bridge leaves where it does not concern the coupled exchange. -/
theorem exec_bridgeShort_uncoupled {g : Bool}
    (hct : (bridgeFault c (if g then 0x2103 else 0x2102) (if g then .shortGnd else .shortVbat) s).lf.ct = none) :
    exec (.bridgeShort c g) s = .next (bridgeFault c (if g then 0x2103 else 0x2102) (if g then .shortGnd else .shortVbat) s) :=
  if_neg (by simp [hct])

theorem bridgeFault_run {code : Nat} {res : LfResult} (h : s.runOn c = some run) :
    bridgeFault c code res s = lfEnd run res [] (testStop (fun r => r.ch == c) res (disableChannel c code s)) := by
  simp only [bridgeFault, h]

theorem bridgeFault_idle {code : Nat} {res : LfResult} (h : s.runOn c = none) : bridgeFault c code res s =
    (testStop (fun r => r.ch == c) res (disableChannel c code s)).put (Reg.LF_CH_STAT_LAST c) res.code := by
  simp only [bridgeFault, h]

/-- A channel found hot, with the test on it ended (R110). -/
def hotStopped (c : Nat) (s : State) : State :=
  let u := { s with lf := { s.lf with chs := s.lf.chs.modify c (fun x => { x with hot := true }) } }
  testStop (fun r => r.ch == c) .overtemp (raise 0x2104 c (u.count (Reg.LF_CH_STAT_NFLT c) 1))

theorem overtemp_run (h : s.runOn c = some run) : overtemp c s = lfEnd run .overtemp [] (hotStopped c s) := by
  simp only [overtemp, h, hotStopped]

theorem overtemp_idle (h : s.runOn c = none) : overtemp c s = hotStopped c s := by
  simp only [overtemp, h, hotStopped]

theorem exec_bridgeOvertemp_uncoupled (hct : (overtemp c s).lf.ct = none) : exec (.bridgeOvertemp c) s = .next (overtemp c s) :=
  if_neg (by simp [hct])

theorem exec_bridgeOvertemp_coupled (hct : (overtemp c s).lf.ct.isSome = true) (hh : (overtemp c s).holder.map (·.channel) = some c) :
    exec (.bridgeOvertemp c) s = .next (ctOver .overtemp (overtemp c s)) := if_pos ⟨hct, hh⟩

end Bridges

/-! ### Coil tests and retests (R101, R122 to R124) -/

section CoilTests

variable {c : Nat} {i : QItem} {rest : List Nat} {m : CoilMeas} {s : State}

section Next

variable {b : Nat} (hi : s.bankFront b = some i) (hw : i.work = .coils (c :: rest)) (hr : s.testRefusal c = none) (hready : s.bankReady b = true)
include hi hw hr hready

theorem coilNext_starts (hfits : s.diagFits c (16, 10) = true) (hway : s.givesWay b i = false) :
    coilNext b m s = some (testStart c i.cls (.full m) (coilsNext b i rest s)) := by
  simp only [coilNext, hi, hw, hr, hready, hfits, hway, Bool.true_eq_false, Bool.false_eq_true, or_self, if_false]

theorem coilNext_waits (h : s.diagFits c (16, 10) = false ∨ s.givesWay b i = true) : coilNext b m s = none := by
  simp only [coilNext, hi, hw, hr, hready, Bool.true_eq_false, if_false, if_pos h]

end Next

theorem coilNext_none {b : Nat} (h : s.bankFront b = none) : coilNext b m s = none := by simp only [coilNext, h]

theorem exec_coilTest_first {t : State} (h : coilNext 0 m s = some t) : exec (.coilTest m) s = .next t := by
  change execCoilTest m s = _
  rw [execCoilTest, h]
  rfl

theorem exec_coilTest_none (h0 : coilNext 0 m s = none) (h1 : coilNext 1 m s = none) : exec (.coilTest m) s = .next s := by
  change execCoilTest m s = _
  rw [execCoilTest, h0, h1]
  rfl

theorem fieldTick_fullTest {r : TestRun} (ht : s.lf.test = some r) (hfull : r.test = .full m) (hafter : s.after r.startAt 1500 = true) :
    fieldTick s = repliesTick (fullDone r.ch m (testRelease s)) := by
  simp only [fieldTick, ht, hafter, if_true, testEnd, hfull]

/-- The drive frequency of a resonance within 3 % of the carrier is the resonance itself (R101). -/
theorem setResonance_tuned (h : regsWf s.regs = true) (hlo : 121250 ≤ m.fres) (hhi : m.fres ≤ 128750) :
    (setResonance c m s).get (Reg.LF_CH_CFG_FDRV c) = m.fres ∧ (setResonance c m s).get (Reg.LF_CH_RES_FRES c) = m.fres ∧
      (setResonance c m s).bit (Reg.LF_CH_STAT_DETUNE c) = false := by
  have hfreq : driveFreq m.fres = m.fres := by
    rw [driveFreq, max_eq_left hlo, min_eq_left hhi]
  have hdet : detuned m.fres = false := by
    simp only [detuned, Bool.or_eq_false_iff, decide_eq_false_iff_not]
    omega
  have hfit : m.fres % 2 ^ 18 = m.fres := Nat.mod_eq_of_lt (by omega)
  have w1 := State.regsWf_put s (Reg.LF_CH_RES_FRES c) m.fres h
  have w2 := State.regsWf_put _ (Reg.LF_CH_RES_QF c) m.qf w1
  have w3 := State.regsWf_put _ (Reg.LF_CH_CFG_FDRV c) m.fres w2
  have hres : Reg.LF_CH_RES c ≠ Reg.LF_CH_STAT c ∧ Reg.LF_CH_RES c ≠ Reg.LF_CH_CFG c ∧ Reg.LF_CH_CFG c ≠ Reg.LF_CH_STAT c := by
    simp only [Reg.LF_CH_RES, Reg.LF_CH_STAT, Reg.LF_CH_CFG]
    omega
  obtain ⟨hstat, hcfg, hcfgstat⟩ := hres
  rw [setResonance, hfreq, hdet]
  refine ⟨?drive, ?resonance, State.bit_setBit_same false w3 (by decide : 25 < 32) rfl⟩
  case drive =>
    refine (State.get_of_rd (State.rd_setBit_apart false w3 hcfgstat)).trans ?_
    exact (State.get_put_same _ (Reg.LF_CH_CFG_FDRV c) _ w2 (by decide : 18 ≤ 32)).trans hfit
  case resonance =>
    refine (State.get_of_rd (State.rd_setBit_apart false w3 hstat)).trans ?_
    refine (State.get_of_rd (State.rd_put_apart _ w2 hcfg)).trans ?_
    refine (State.get_put_apart _ (Reg.LF_CH_RES_QF c) (Reg.LF_CH_RES_FRES c) _ w1 (by decide : 32 ≤ 32) (by decide : 18 ≤ 32)
      (.inr (.inr (by decide : 18 ≤ 25)))).trans ?_
    exact (State.get_put_same _ (Reg.LF_CH_RES_FRES c) _ h (by decide : 18 ≤ 32)).trans hfit

theorem exec_coilTest24h_due (hp : s.profile ≤ 1) (hafter : s.after s.lf.test24At 86400000000 = true) :
    exec .coilTest24h s = .next (askTests (List.range 16) .p1 .session { s with lf := { s.lf with test24At := s.now } }).2 :=
  if_pos ⟨hp, hafter⟩

theorem exec_disabledRetest (passed : List Nat) (s : State) : ∃ t, exec (.disabledRetest passed) s = .next t ∧
    t.lf.retests = s.lf.retests ++ ((List.range 16).filter s.retestDue).map (fun c => (c, passed.contains c)) ∧
    t.regs = s.regs ∧ t.queues = s.queues := ⟨_, rfl, rfl, rfl, rfl⟩

section Retest

variable (hd : s.disabled c = true)
include hd

/-- R124: the second pass in a row enables the channel. -/
theorem retestDone_second (hp : (s.lf.chs.getD c LfCh.init).passes = 1) : (retestDone c true s).lfAon.disabled = s.lfAon.disabled - 2 ^ c := by
  simp only [retestDone, hd, hp, Bool.true_eq_false, if_false, if_true, State.setBit_lfAon]

theorem retestDone_first (hp : (s.lf.chs.getD c LfCh.init).passes = 0) : (retestDone c true s).lfAon = s.lfAon := by
  simp only [retestDone, hd, hp, Bool.true_eq_false, if_false, if_true, Nat.reduceAdd, Nat.reduceEqDiff]

theorem retestDone_fails : (retestDone c false s).lfAon = s.lfAon := by
  simp only [retestDone, hd, Bool.true_eq_false, Bool.false_eq_true, if_false, Nat.reduceEqDiff]

end Retest

end CoilTests

/-- Settles O16: each command by the equation of its case. -/
theorem fieldFramesAndSupply : Obligations.FieldFramesAndSupply := by
  refine ⟨⟨?slot, ?deadline, ?start, ?unmeasured, ?measured, ?coupled, fun _ _ => exec_bankIdleOff_idle, fun _ _ => exec_bankIdleOff_kept⟩,
    fun _ _ => exec_boostTimeout_late, ?boost, fun _ _ _ _ => exec_driveInhibit_inhibits, ?allow, ?inhibit, fun _ _ => exec_inhibitLong_raises,
    ?short, ?hot, ?test, fun _ _ _ => fieldTick_fullTest, fun _ _ _ _ => setResonance_tuned, fun _ => exec_coilTest24h_due,
    exec_disabledRetest, fun _ _ hd => ⟨retestDone_second hd, retestDone_first hd, retestDone_fails hd⟩⟩
  case slot =>
    intro e p s hp hlast hprofile hunit hbad hruns
    exact exec_pollSlot_due hp (slotDue_of_lastSlot hlast) hprofile hunit hbad hruns
  case deadline =>
    intro e s hlen
    exact ⟨_, exec_pollSkipDeadline e s, fun _ hb => pollsDropped_items hlen hb, rfl⟩
  case start =>
    intro b i r s hi hw t
    refine ⟨fun _ => exec_lfFrameStart_refused hi hw, fun hr hready => ⟨exec_lfFrameStart_waits hi hw hr hready, fun hfits hway ha => ⟨?_, ?_⟩,
      exec_lfFrameStart_starts hi hw hr hready⟩⟩
    · exact fun _ => exec_lfFrameStart_skipped hi hw hr hready hfits hway ha
    · exact exec_lfFrameStart_unaffordable hi hw hr hready hfits hway ha
  case unmeasured =>
    intro c run s hrun hend
    rw [exec_lfFrameEnd_run hrun, frameEnd_unmeasured hend]
  case measured =>
    intro c run m s hrun hm t
    rw [exec_lfFrameEnd_run hrun]
    exact ⟨fun hf h => congrArg _ (frameEnd_open hm (coilOpen_true hf h)),
      fun h hend => congrArg _ (frameEnd_last hm (coilOpen_false h) hend)⟩
  case coupled =>
    rintro c x h m s hrun hct hh hm rfl
    exact exec_lfFrameEnd_coupled hrun hct hh hm
  case boost =>
    intro vbat s hwf
    exact ⟨setVbat vbat s, rfl, setVbat_boost hwf, setVbat_vbat vbat s⟩
  case allow =>
    intro vbat vlf gate s hvbat hlo hhi hgate hwf
    have hallow := allows_of_ranges hvbat hlo hhi hgate
    exact ⟨fun _ => exec_driveAllow_held hallow hwf, exec_driveAllow_begins hallow hwf⟩
  case inhibit =>
    intro s hinh hruns htest hwf
    rw [lfInhibit_idle hinh hruns htest]
    exact ⟨State.bit_setBit_same true hwf (by decide) rfl, rfl⟩
  case short =>
    intro c g s code res t
    refine ⟨fun run hrun hct => ?_, fun hrun hct => ?_⟩
    · have h : bridgeFault c code res s = lfEnd run res [] t := bridgeFault_run hrun
      rw [← h] at hct ⊢
      exact exec_bridgeShort_uncoupled hct
    · have h : bridgeFault c code res s = t.put (Reg.LF_CH_STAT_LAST c) res.code := bridgeFault_idle hrun
      rw [← h]
      exact exec_bridgeShort_uncoupled (h ▸ hct)
  case hot =>
    intro c s u t
    refine ⟨fun hrun hct => ?_, fun hrun hct hh => ?_, fun run hrun hct => ?_, rfl⟩
    · have h : overtemp c s = t := overtemp_idle hrun
      rw [← h] at hct ⊢
      exact exec_bridgeOvertemp_uncoupled hct
    · have h : overtemp c s = t := overtemp_idle hrun
      rw [← h] at hct hh ⊢
      exact exec_bridgeOvertemp_coupled hct hh
    · have h : overtemp c s = lfEnd run .overtemp [] t := overtemp_run hrun
      rw [← h] at hct ⊢
      exact exec_bridgeOvertemp_uncoupled hct
  case test =>
    intro i c rest m s hi hw hr hready
    exact ⟨fun hfits hway => exec_coilTest_first (coilNext_starts hi hw hr hready hfits hway),
      fun h hnone => exec_coilTest_none (coilNext_waits hi hw hr hready h) (coilNext_none hnone)⟩

end Sys2Proof.Machine
end

section
/-! PROOFS. The coupled exchange: its start, the ID and the RESPONSE, what ends it. -/

namespace Sys2Proof.Machine

/-! ### The start of an exchange (R106, R125, R128) -/

section BankUse

variable {s : State}

theorem State.regsWf_setDom (d : Dom) (on : Bool) (h : regsWf s.regs = true) : regsWf (s.setDom d on).regs = true := by
  cases on <;> exact State.regsWf_put _ _ _ h

theorem bankUse_regsWf (b : Nat) (h : regsWf s.regs = true) : regsWf (bankUse b s).regs = true := by
  dsimp only [bankUse]
  split
  · exact h
  · exact boostCheck_regsWf (State.regsWf_setDom _ true h)

theorem State.setDom_now (d : Dom) (on : Bool) : (s.setDom d on).now = s.now := by cases on <;> rfl

theorem boostCheck_now : (boostCheck s).now = s.now := by
  obtain ⟨_, _, _, h⟩ := boostCheck_eq s
  rw [h]

theorem bankUse_now (b : Nat) : (bankUse b s).now = s.now := by
  dsimp only [bankUse]
  split
  · rfl
  · rw [boostCheck_now, State.setDom_now]
    rfl

theorem own_regsWf (cls : Cls) (c : Nat) (h : regsWf s.regs = true) : regsWf (own cls c s).regs = true :=
  State.regsWf_put _ _ _ (State.regsWf_put _ _ _ h)

end BankUse

section Start

variable {i : QItem} {h : CoilE} {s : State}

/-- The state in which an exchange owns every fitted channel (R98, R106). -/
def ctOwned (i : QItem) (h : CoilE) (s : State) : State :=
  ((maskChans 0xFFFF).filter s.fitted).foldl (fun s c => own .p0 c s) (bankUse (bankOf h.channel) (bankTake (bankOf h.channel) i s))

theorem ctOwned_drives (i : QItem) (h : CoilE) (s : State) : (ctOwned i h s).drives = s.drives :=
  (foldl_same State.drives (fun s c => own .p0 c s) (fun _ _ => own_drives ..) _ _).trans (by simp)

theorem ctOwned_now (i : QItem) (h : CoilE) (s : State) : (ctOwned i h s).now = s.now :=
  (foldl_same State.now (fun s c => own .p0 c s) (fun _ _ => rfl) _ _).trans (bankUse_now _)

theorem ctOwned_regsWf (i : QItem) (h : CoilE) (hw : regsWf s.regs = true) : regsWf (ctOwned i h s).regs = true :=
  List.foldlRecOn _ _ (motive := fun t : State => regsWf t.regs = true) (bankUse_regsWf _ hw) (fun _ ht _ _ => own_regsWf _ _ ht)

/-- The exchange shown in the registers (R125, R132). -/
def ctShown (i : QItem) (h : CoilE) (s : State) : State :=
  (((ctOwned i h s).setBit (Reg.LF_CH_STAT_SCALED h.channel) (50 < h.current)).setBit Reg.LF_CT_STAT_BUSY true).count Reg.LF_CT_STAT_COUNT 1

/-- The state in which an exchange has begun (R125, R128). -/
def ctBegun (i : QItem) (h : CoilE) (s : State) : State :=
  let t := ctShown i h s
  lfSent ctSelectFrame { t with lf := { t.lf with
    ct := some ⟨s.now, .awaitId, s.now + periodTicks (625 + downLen ctSelectFrame), 0, 0xFF, [], [], false⟩ } }

theorem ctShown_busy (i : QItem) (h : CoilE) (hw : regsWf s.regs = true) : (ctShown i h s).bit Reg.LF_CT_STAT_BUSY = true := by
  have w1 := State.regsWf_setBit (Reg.LF_CH_STAT_SCALED h.channel) (50 < h.current) (ctOwned_regsWf i h hw)
  have w2 := State.regsWf_setBit Reg.LF_CT_STAT_BUSY true w1
  rw [ctShown, State.count, State.bit_of_get (State.get_put_apart _ _ _ _ w2 (by decide) (by decide) (by decide))]
  exact State.bit_setBit_same true w1 (by decide) rfl

theorem ctBegun_regs (i : QItem) (h : CoilE) (s : State) : (ctBegun i h s).regs = (ctShown i h s).regs := rfl

theorem ctBegun_busy (i : QItem) (h : CoilE) (hw : regsWf s.regs = true) : (ctBegun i h s).bit Reg.LF_CT_STAT_BUSY = true := by
  rw [State.bit, State.get, State.rd, ctBegun_regs]
  exact ctShown_busy i h hw

theorem ctBegun_runs (i : QItem) (h : CoilE) (s : State) : (ctBegun i h s).lf.runs = s.lf.runs := congrArg Prod.fst (ctOwned_drives i h s)

theorem lfSent_sent (bytes : Bytes) (s : State) : (lfSent bytes s).lf.sent.head? = some (s.now, bytes) := rfl

theorem ctShown_now (i : QItem) (h : CoilE) (s : State) : (ctShown i h s).now = s.now := by
  rw [ctShown, State.count_now, State.setBit_now, State.setBit_now, ctOwned_now]

theorem ctBegun_sent (i : QItem) (h : CoilE) (s : State) : (ctBegun i h s).lf.sent.head? = some (s.now, ctSelectFrame) := by
  rw [ctBegun, lfSent_sent, ctShown_now]

theorem ctFits_runs (hr : s.lf.runs ≠ []) : s.ctFits h = false := by
  have hruns : (s.lf.runs == []) = false := beq_eq_false_iff_ne.mpr hr
  rw [State.ctFits, hruns, Bool.and_false, Bool.false_and, Bool.false_and]

variable (hh : s.holder = some h) (hi : s.bankFront (bankOf h.channel) = some i) (hc : i.isCoupled = true)
include hh hi hc

theorem exec_coupledExchangeStart_inhibited (hinh : s.inhibited = true) :
    exec .coupledExchangeStart s = .next (ctRefused .inhibit (bankTake (bankOf h.channel) i s)) := by
  change execCoupledExchangeStart s = _
  simp only [execCoupledExchangeStart, hh, hi, Option.filter_some, hc, if_true, hinh]

/-- With no cause to refuse it, an exchange starts or waits. -/
theorem exec_coupledExchangeStart_allowed (hinh : s.inhibited = false) (hshed : s.bankShed (bankOf h.channel) = false)
    (hon : s.coupledOn = true) (hu : s.usable h.channel = true) (hbank : s.isIsolated (bankBlock (bankOf h.channel)) = false)
    (hct : s.isIsolated .ct = false) (hlf : s.isIsolated .lfCommon = false) (hready : s.bankReady (bankOf h.channel) = true) :
    exec .coupledExchangeStart s =
      .next (if s.ctFits h = false ∨ s.givesWay (bankOf h.channel) i then s else ctBegun i h s) := by
  change execCoupledExchangeStart s = _
  simp only [execCoupledExchangeStart, hh, hi, Option.filter_some, hc, if_true, hinh, hshed, hon, hu, hbank, hct, hlf, hready,
    Bool.true_eq_false, Bool.false_eq_true, or_self, if_false]
  split <;> rfl

end Start

/-! ### The ID (R127 to R129) -/

section Id

variable {delay : Nat} {bits : List Bool} {c : CtRun} {s : State}

theorem uplink_notOk (n : Nat) (bits : List Bool) : uplink n false bits = none := by
  rw [uplink]
  exact if_neg (fun h => Bool.false_ne_true h.1)

theorem uplink_wrongLength {n : Nat} {ok : Bool} (h : bits.length ≠ 3 + 8 * (n + 1)) : uplink n ok bits = none := by
  rw [uplink]
  exact if_neg (fun ⟨_, hlen, _⟩ => h hlen)

variable (hc : s.lf.ct = some c) (hp : c.phase = .awaitId)
include hc hp

theorem exec_ctIdReceived_outside (hd : delay < 56 ∨ 72 < delay) (ok : Bool) :
    exec (.ctIdReceived delay ok bits) s = .next (ctOver .noReply s) := by
  change execCtIdReceived delay ok bits s = _
  simp only [execCtIdReceived, hc, hp, ne_eq, not_true_eq_false, if_false, if_pos hd]

variable (hlo : 56 ≤ delay) (hhi : delay ≤ 72)
include hlo hhi

theorem exec_ctIdReceived_garbled {ok : Bool} (hu : uplink 4 ok bits = none) :
    exec (.ctIdReceived delay ok bits) s = .next (ctOver .uplink s) := by
  have hin : ¬(delay < 56 ∨ 72 < delay) := by omega
  change execCtIdReceived delay ok bits s = _
  simp only [execCtIdReceived, hc, hp, ne_eq, not_true_eq_false, if_false, if_neg hin, hu]

theorem exec_ctIdReceived_unknown {ok : Bool} {d : Bytes} (hu : uplink 4 ok bits = some d)
    (hf : (s.put Reg.LF_CT_FOB_V (fieldBe d 0 4)).fobOf (fieldBe d 0 4) = none) :
    exec (.ctIdReceived delay ok bits) s = .next (ctOver .unknownFob (s.put Reg.LF_CT_FOB_V (fieldBe d 0 4))) := by
  have hin : ¬(delay < 56 ∨ 72 < delay) := by omega
  change execCtIdReceived delay ok bits s = _
  simp only [execCtIdReceived, hc, hp, ne_eq, not_true_eq_false, if_false, if_neg hin, hu, hf]

theorem exec_ctIdReceived_enrolled {ok : Bool} {d key ch : Bytes} {n : Nat} {f : FobRec} {u : State} (hu : uplink 4 ok bits = some d)
    (hf : (s.put Reg.LF_CT_FOB_V (fieldBe d 0 4)).fobOf (fieldBe d 0 4) = some n)
    (ha : (s.put Reg.LF_CT_FOB_V (fieldBe d 0 4)).activeFob n = some f)
    (hk : (s.put Reg.LF_CT_FOB_V (fieldBe d 0 4)).ctKey f = some key)
    (hr : randBytes false 16 (s.put Reg.LF_CT_FOB_V (fieldBe d 0 4)) = (.bytes ch, u)) :
    let w := if u.bit Reg.LF_CT_STAT_LEG = true then u else volPut ⟨.kCt, n, key⟩ u
    exec (.ctIdReceived delay ok bits) s = .next (lfSent (ctChallengeFrame ch) { w with lf := { w.lf with ct := some { c with
      phase := .awaitResponse, from_ := s.now + periodTicks (64 + downLen (ctChallengeFrame ch)), fob := f.fobId, record := n,
      challenge := ch, expected := (cmac key ch).take 8 } } }) := by
  have hin : ¬(delay < 56 ∨ 72 < delay) := by omega
  change execCtIdReceived delay ok bits s = _
  simp only [execCtIdReceived, hc, hp, ne_eq, not_true_eq_false, if_false, if_neg hin, hu, hf, ha, hk, hr]

end Id

/-! ### The RESPONSE (R128, R129) -/

section Response

variable {delay : Nat} {bits : List Bool} {ok : Bool} {c : CtRun} {s : State} (hc : s.lf.ct = some c) (hp : c.phase = .awaitResponse)
include hc hp

theorem exec_ctResponseReceived_outside (hd : delay < 56 ∨ 1750 < delay) (ok : Bool) :
    exec (.ctResponseReceived delay ok bits) s = .next (ctOver .noReply s) := by
  change execCtResponseReceived delay ok bits s = _
  simp only [execCtResponseReceived, hc, hp, ne_eq, not_true_eq_false, if_false, if_pos hd]

theorem exec_ctResponseReceived_late (hlo : 1500 < delay) (hhi : delay ≤ 1750) (ok : Bool) :
    exec (.ctResponseReceived delay ok bits) s = .next (ctOver .late s) := by
  have hin : ¬(delay < 56 ∨ 1750 < delay) := by omega
  change execCtResponseReceived delay ok bits s = _
  simp only [execCtResponseReceived, hc, hp, ne_eq, not_true_eq_false, if_false, if_neg hin, if_pos hlo]

/-- A RESPONSE in time is compared. -/
theorem exec_ctResponseReceived_inTime (hlo : 56 ≤ delay) (hhi : delay ≤ 1500) (ok : Bool) :
    exec (.ctResponseReceived delay ok bits) s = .next (ctOver (match uplink 8 ok bits with
      | none => .uplink
      | some d => if d = c.expected then .ok else .mismatch) s) := by
  have hin : ¬(delay < 56 ∨ 1750 < delay) := by omega
  change execCtResponseReceived delay ok bits s = _
  simp only [execCtResponseReceived, hc, hp, ne_eq, not_true_eq_false, if_false, if_neg hin, if_neg (Nat.not_lt.mpr hhi)]
  cases uplink 8 ok bits <;> rfl

end Response

/-! ### Timeouts, and the end (R125, R129, R130) -/

section End

variable {c : CtRun} {s : State}

theorem exec_ctReplyTimeout_id (hc : s.lf.ct = some c) (hp : c.phase = .awaitId) (h : c.from_ + periodTicks 72 < s.now) :
    exec .ctReplyTimeout s = .next (ctOver .noReply s) := by
  change execCtReplyTimeout s = _
  simp only [execCtReplyTimeout, hc, hp, if_pos h]

theorem exec_ctReplyTimeout_response (hc : s.lf.ct = some c) (hp : c.phase = .awaitResponse) (h : c.from_ + periodTicks 1750 < s.now) :
    exec .ctReplyTimeout s = .next (ctOver .noReply s) := by
  change execCtReplyTimeout s = _
  simp only [execCtReplyTimeout, hc, hp, if_pos h]

theorem exec_ctDriveCap (hc : s.lf.ct = some c) :
    exec .ctDriveCap s = if s.after c.startAt 200000 then .next (ctOver .timeout s) else .next s := by
  change execCtDriveCap s = _
  simp only [execCtDriveCap, hc]

@[simp] theorem bankCharge_drives (b : Nat) (cs : List LfCharge) : (bankCharge b cs s).drives = s.drives := rfl

@[simp] theorem ipkFree_drives (c target : Nat) : (ipkFree c target s).drives = s.drives := rfl

theorem ct_of_drives {t : State} (h : t.drives = s.drives) : t.lf.ct = s.lf.ct := congrArg (·.2.2) h

/-- R129: an exchange that is over is no longer in progress. -/
theorem ctRelease_ct (res : LfResult) (s : State) : (ctRelease res s).lf.ct = none := by
  unfold ctRelease
  extract_lets shown given lf stopped
  split
  · extract_lets i t
    have ht : t.lf.ct = none := ct_of_drives (s := stopped) (by simp [t])
    rw [State.put_lf]
    split
    exacts [ht, (ct_of_drives (ipkFree_drives ..)).trans ht]
  · rfl

end End

/-- Settles O18: each command by the equation of its case. -/
theorem coupledExchange : Obligations.CoupledExchange := by
  refine ⟨?start, by decide +kernel, ?id, ?response, ?ends, ctRelease_ct⟩
  case start =>
    intro i h s hh hi hc
    refine ⟨exec_coupledExchangeStart_inhibited hh hi hc, fun hinh hshed hon hu hbank hct hlf hready => ?_⟩
    have hexec := exec_coupledExchangeStart_allowed hh hi hc hinh hshed hon hu hbank hct hlf hready
    refine ⟨fun hr => ?_, fun hfits hway hw => ⟨ctBegun i h s, ?_, ctBegun_busy i h hw, ctBegun_runs i h s, rfl, ctBegun_sent i h s⟩⟩
    · rw [hexec, if_pos (.inl (ctFits_runs hr))]
    · rw [hexec, if_neg (by simp [hfits, hway])]
  case id =>
    intro delay bits c s hc hp
    refine ⟨exec_ctIdReceived_outside hc hp, fun hlo hhi => exec_ctIdReceived_garbled hc hp hlo hhi (uplink_notOk 4 bits),
      fun hlo hhi hlen => exec_ctIdReceived_garbled hc hp hlo hhi (uplink_wrongLength hlen),
      fun hlo hhi _ => exec_ctIdReceived_unknown hc hp hlo hhi, fun hlo hhi _ _ _ _ _ _ => exec_ctIdReceived_enrolled hc hp hlo hhi⟩
  case response =>
    intro delay bits c s hc hp
    refine ⟨exec_ctResponseReceived_outside hc hp, exec_ctResponseReceived_late hc hp, fun hlo hhi => ?_, fun hlo hhi hu => ?_,
      fun hlo hhi d hu hne => ?_⟩
    · rw [exec_ctResponseReceived_inTime hc hp hlo hhi, uplink_notOk]
    · rw [exec_ctResponseReceived_inTime hc hp hlo hhi, hu]
      dsimp only
      rw [if_pos rfl]
    · rw [exec_ctResponseReceived_inTime hc hp hlo hhi, hu]
      dsimp only
      rw [if_neg hne]
  case ends =>
    intro c s hc
    refine ⟨exec_ctReplyTimeout_id hc, exec_ctReplyTimeout_response hc, fun h => ?_, fun h => ?_⟩
    · rw [exec_ctDriveCap hc, if_pos h]
    · rw [exec_ctDriveCap hc, if_neg (ne_true_of_eq_false h)]

end Sys2Proof.Machine
end

section
/-! PROOFS. The lanes: what an update leaves of a lane, and the transmit and receive commands. -/

namespace Sys2Proof.Machine

/-! ### A lane of the state -/

section Lanes

variable {n m : Nat} {s : State}

@[simp] theorem State.put_lane (f : Fld) (v : Nat) : (s.put f v).lane n = s.lane n := rfl
@[simp] theorem State.count_lane (f : Fld) (k : Nat) : (s.count f k).lane n = s.lane n := rfl

@[simp] theorem State.setLane_regs (l : Lane) : (s.setLane n l).regs = s.regs := rfl
@[simp] theorem State.setLane_queues (l : Lane) : (s.setLane n l).queues = s.queues := rfl
@[simp] theorem State.setLane_get (l : Lane) (f : Fld) : (s.setLane n l).get f = s.get f := rfl

theorem State.setLane_lane (l : Lane) (h : n < s.air.lanes.length) : (s.setLane n l).lane n = l := by
  simp [State.lane, State.setLane, h]

theorem State.setLane_lane_other (l : Lane) (h : m ≠ n) : (s.setLane n l).lane m = s.lane m := by
  simp [State.lane, State.setLane, List.getD_eq_getElem?_getD, List.getElem?_set_ne h.symm]

@[simp] theorem State.setLane_lanes_length (l : Lane) : (s.setLane n l).air.lanes.length = s.air.lanes.length := List.length_set ..

theorem laneResult_air (r : LaneResult) : (laneResult n r s).air = s.air := by cases r <;> rfl

theorem laneResult_lane (r : LaneResult) : (laneResult n r s).lane m = s.lane m := by rw [State.lane, laneResult_air, State.lane]

end Lanes

/-! ### A bit of a register beside one that is written -/

section Bits

variable {f g : Fld} {n : Nat} {s : State}

@[simp] theorem State.setLane_bit (l : Lane) : (s.setLane n l).bit f = s.bit f := rfl

theorem State.bit_put_apart (v : Nat) (h : regsWf s.regs = true) (hf : f.lo + f.width ≤ 32) (hg : g.lo + g.width ≤ 32)
    (hfg : g.reg ≠ f.reg ∨ f.lo + f.width ≤ g.lo ∨ g.lo + g.width ≤ f.lo) : (s.put f v).bit g = s.bit g :=
  State.bit_of_get (State.get_put_apart s f g v h hf hg hfg)

theorem State.bit_setBit_apart (b : Bool) (h : regsWf s.regs = true) (hf : f.lo + f.width ≤ 32) (hg : g.lo + g.width ≤ 32)
    (hfg : g.reg ≠ f.reg ∨ f.lo + f.width ≤ g.lo ∨ g.lo + g.width ≤ f.lo) : (s.setBit f b).bit g = s.bit g :=
  State.bit_of_get (State.get_setBit_apart h hf hg hfg)

end Bits

/-! ### Transmit commands (R134, R136, R145, R146) -/

section Transmit

variable {n t0 : Nat} {c : TxCmd} {s : State}

theorem laneTx_busy (h : (s.lane n).pend.isSome = true) : laneTx n c s = (false, laneResult n .txBusy s) := if_pos h

theorem laneTx_late (hp : (s.lane n).pend = none) (hc : c.start = some t0) (hr : s.airReached (t0 + 2 ^ 40 - airTenths 60) = true)
    (hne : s.airNow ≠ (t0 + 2 ^ 40 - airTenths 60) % 2 ^ 40) : laneTx n c s = (false, laneResult n .txLate s) := by
  simp only [laneTx, hp, hc, hr, Option.isSome_none, Bool.true_and, bne_iff_ne, ne_eq, hne, not_false_eq_true, if_true, Bool.false_eq_true,
    if_false]

/-- The window that waits for the ACK of a frame that asks for one (R188). -/
def ackWindow (h : AirHdr) : Option (Nat × Nat) := if h.ackReq = true ∧ h.dst ≠ 0 ∧ h.dst ≠ 0xFF then some (150, 600) else none

/-- R146: a timed command that is not late is queued as it is, on an aerial that is fitted, with the window of an ACK where it names none. -/
theorem laneTx_timed (hp : (s.lane n).pend = none) (hc : c.start = some t0) (hr : s.airReached (t0 + 2 ^ 40 - airTenths 60) = false) :
    laneTx n c s = (true, s.setLane n { s.lane n with pend := some { c with
      aerial := s.fitAerial n c.aerial, listen := c.listen.orElse (fun _ => ackWindow (AirHdr.of c.frame.hdr)) } }) := by
  simp only [laneTx, ackWindow, hp, hc, hr, Option.isSome_none, Option.isNone_some, Option.isSome_some, Bool.false_and, Bool.false_eq_true,
    if_false, if_true]

theorem exec_txCommand_busy (hf : s.laneFitted n = true) (hs : s.airShed = false) (hi : s.isIsolated (laneBlock n) = false)
    (hp : (s.lane n).pend.isSome = true) : exec (.txCommand n c) s = .next (laneResult n .txBusy s) := by
  change execTxCommand n c s = _
  simp only [execTxCommand, hf, hs, hi, hp, or_true, laneTx_busy hp, Bool.true_eq_false, Bool.false_eq_true, if_false, if_true]

/-- R136: beside a ranging frame, a command moves its lane to channel 14. -/
theorem exec_txCommand_moves (hf : s.laneFitted n = true) (hs : s.airShed = false) (hi : s.isIsolated (laneBlock n) = false)
    (hp : (s.lane n).pend = none) (ht : (AirHdr.of c.frame.hdr).typ < 4 ∨ 7 < (AirHdr.of c.frame.hdr).typ) :
    exec (.txCommand n c) s = .next (laneTx n c (laneMove n 14 s)).2 := by
  have hranging : ¬ ((4 ≤ (AirHdr.of c.frame.hdr).typ ∧ (AirHdr.of c.frame.hdr).typ ≤ 7) ∨ (s.lane n).pend.isSome = true) := by
    simp only [hp, Option.isSome_none, Bool.false_eq_true, or_false]
    omega
  change execTxCommand n c s = _
  simp only [execTxCommand, hf, hs, hi, Bool.true_eq_false, Bool.false_eq_true, if_false, if_neg hranging]

end Transmit

/-! ### The emission of a frame (R145 to R147) -/

section Emission

variable {n t0 : Nat} {c : TxCmd} {s : State}

theorem txMissed_idle (hp : (s.lane n).pend = none) : s.txMissed n = false := by simp only [State.txMissed, hp, Option.bind_none]

theorem txDeadline_kept (hm : s.txMissed n = false) : txDeadline n s = s := if_neg (ne_true_of_eq_false hm)

theorem exec_txStart_idle (hp : (s.lane n).pend = none) : exec (.txStart n) s = .next s := by
  change execTxStart n s = _
  simp only [execTxStart, txDeadline_kept (txMissed_idle hp), hp]

section Queued

variable (hp : (s.lane n).pend = some c) (hm : s.txMissed n = false)

include hp hm

theorem exec_txStart_early (ht : s.airAbs < s.txFirst n c) : exec (.txStart n) s = .next s := by
  change execTxStart n s = _
  simp only [execTxStart, txDeadline_kept hm, hp, if_pos ht]

theorem exec_txStart_waits (ho : s.overhears = false)
    (hb : (s.lane n).settle.isSome = true ∨ s.bit (Reg.AIR_LN_STAT_LOCK n) = false ∨ (s.lane n).txEnd.isSome = true ∨
      ((s.lane n).rx.bind (·.detected)).isSome = true) : exec (.txStart n) s = .next s := by
  have hbusy : (s.lane n).settle.isSome = true ∨ s.bit (Reg.AIR_LN_STAT_LOCK n) = false ∨ (s.lane n).txEnd.isSome = true ∨
      (s.lane n).loop.isSome = true ∨ ((s.lane n).rx.bind (·.detected)).isSome = true := by
    rcases hb with h | h | h | h <;> simp only [h, true_or, or_true]
  change execTxStart n s = _
  simp only [execTxStart, txDeadline_kept hm, hp, ho, Bool.false_eq_true, if_false, if_pos hbusy, ite_self]

theorem exec_txStart_emits (ht : s.txFirst n c ≤ s.airAbs) (ho : s.overhears = false) (hsettle : (s.lane n).settle = none)
    (hlock : s.bit (Reg.AIR_LN_STAT_LOCK n) = true) (hend : (s.lane n).txEnd = none) (hloop : (s.lane n).loop = none)
    (hrx : (s.lane n).rx.bind (·.detected) = none) :
    exec (.txStart n) s = .next (pollEmitted n c.frame c.aerial (s.txFirst n c) (laneEmit n c s)) := by
  change execTxStart n s = _
  simp only [execTxStart, txDeadline_kept hm, hp, if_neg (Nat.not_lt.2 ht), ho, hsettle, hlock, hend, hloop, hrx, Option.isSome_none,
    Bool.false_eq_true, Bool.true_eq_false, or_false, if_false]

end Queued

/-- R145: the first converter sample at or after a time. -/
theorem sampleUp_bounds (t : Nat) : sampleUp t % 64 = 0 ∧ t ≤ sampleUp t ∧ sampleUp t < t + 64 := by
  rw [sampleUp]
  omega

theorem txFirst_timed (n : Nat) (s : State) (hc : c.start = some t0) : s.txFirst n c = sampleUp (s.airOf t0) := by
  simp only [State.txFirst, hc]

/-- R146: at its deadline a timed command whose checks have not passed is cancelled. -/
theorem exec_txLateDeadline_late (hp : (s.lane n).pend.bind (·.start) = some t0)
    (hs : (s.lane n).settle.isSome = true ∨ s.bit (Reg.AIR_LN_STAT_LOCK n) = false) (hr : s.airReached (t0 + 2 ^ 40 - airTenths 60) = true) :
    exec (.txLateDeadline n) s = .next (foxLane n (laneResult n .txLate (s.setLane n { s.lane n with pend := none }))) := by
  have hsettling : ((s.lane n).settle.isSome || !s.bit (Reg.AIR_LN_STAT_LOCK n)) = true := by
    rcases hs with h | h <;> simp only [h, Bool.true_or, Bool.not_false, Bool.or_true]
  change execTxLateDeadline n s = _
  simp only [execTxLateDeadline, hp]
  exact if_pos ⟨hsettling, hr⟩

theorem exec_txLateDeadline_kept (hp : (s.lane n).pend.bind (·.start) = some t0) (hs : (s.lane n).settle = none)
    (hl : s.bit (Reg.AIR_LN_STAT_LOCK n) = true) (hm : s.txMissed n = false) : exec (.txLateDeadline n) s = .next s := by
  change execTxLateDeadline n s = _
  simp only [execTxLateDeadline, hp, hs, hl, txDeadline_kept hm, Option.isSome_none, Bool.not_true, Bool.or_self, Bool.false_eq_true, false_and,
    if_false]

end Emission

/-! ### Receive windows (R147) -/

section Receive

variable {n : Nat} {s : State}

theorem exec_rxCommand (w : Option Nat) (hf : s.laneFitted n = true) (hs : s.airShed = false) (hi : s.isIsolated (laneBlock n) = false) :
    exec (.rxCommand n w) s = .next (laneListen n (w.map (fun w => s.airAbs + w)) s) := by
  change execRxCommand n w s = _
  simp only [execRxCommand, hf, hs, hi, Bool.true_eq_false, Bool.false_eq_true, if_false]

/-- A lane whose checks have passed and that emits nothing opens its window. -/
theorem laneListen_opens (until_ : Option Nat) (hlen : n < s.air.lanes.length) (hsettle : (s.lane n).settle = none)
    (hlock : s.bit (Reg.AIR_LN_STAT_LOCK n) = true) (hend : (s.lane n).txEnd = none) (hloop : (s.lane n).loop = none) :
    ((laneListen n until_ s).lane n).rx = some ⟨until_, none⟩ ∧ ((laneListen n until_ s).lane n).wantRx = none ∧
      (laneListen n until_ s).queues = s.queues := by
  simp only [laneListen, laneListenFrom, hsettle, hlock, hend, hloop, Option.isNone_none, and_self, if_true, State.put_lane, State.put_queues,
    State.setLane_lane _ hlen, State.setLane_queues]

theorem laneListen_waits (until_ : Option Nat) (h : (s.lane n).settle.isSome = true ∨ (s.lane n).txEnd.isSome = true) :
    laneListen n until_ s = s.setLane n { s.lane n with wantRx := some (s.airAbs, until_) } := by
  refine if_neg fun ⟨hsettle, _, hend, _⟩ => ?_
  rcases h with h | h
  · exact Option.not_isSome_iff_eq_none.2 (Option.isNone_iff_eq_none.1 hsettle) h
  · exact Option.not_isSome_iff_eq_none.2 (Option.isNone_iff_eq_none.1 hend) h

theorem exec_rxWindowEnd {u : Nat} (hrx : (s.lane n).rx = some ⟨some u, none⟩) :
    exec (.rxWindowEnd n) s = if u ≤ s.airAbs then .next (laneDone n (windowOver n s)) else .next s := by
  change execRxWindowEnd n s = _
  simp only [execRxWindowEnd, hrx]

theorem windowOver_lane (hlen : n < s.air.lanes.length) : ((windowOver n s).lane n).rx = none := by
  rw [windowOver, laneResult_lane, State.put_lane, State.setLane_lane _ hlen]

/-- A window that is over leaves its lane in SYNTH with the result NO_DETECT. -/
theorem windowOver_stat (hw : regsWf s.regs = true) :
    (windowOver n s).get (Reg.AIR_LN_STAT_LAST n) = 6 ∧ (windowOver n s).laneState n = 2 := by
  simp [windowOver, laneResult, LaneResult.code, State.laneState, State.get_put_same, State.get_put_apart, State.regsWf_put, hw,
    Reg.AIR_LN_STAT_LAST, Reg.AIR_LN_STAT_STATE]

end Receive

/-- Settles O20: each command by the equation of its case. -/
theorem laneCommands : Obligations.LaneCommands := by
  refine ⟨?command, ?queued, fun _ _ => exec_txStart_idle, ?start, ?first, ?emit, ?deadline, ?receive, ?windowEnd, ?ended⟩
  case command =>
    intro n c s hf hs hi
    exact ⟨exec_txCommand_busy hf hs hi, exec_txCommand_moves hf hs hi⟩
  case queued =>
    intro n t0 c s hp hc
    refine ⟨laneTx_late hp hc, fun hr hn hlen => ?_⟩
    rw [laneTx_timed hp hc hr]
    refine ⟨rfl, rfl, _, congrArg Lane.pend (State.setLane_lane _ (hlen ▸ hn)), fun x hx => ?_⟩
    rw [hx]
    rfl
  case start =>
    intro n c s hp hm
    exact ⟨exec_txStart_early hp hm, exec_txStart_waits hp hm, exec_txStart_emits hp hm⟩
  case first =>
    intro n t0 c s hc
    rw [txFirst_timed n s hc]
    exact sampleUp_bounds _
  case emit =>
    intro n c s hn hlen
    simp only [laneEmit, State.put_air, State.put_lane]
    rw [State.setLane_lane _ (hlen ▸ hn)]
    exact ⟨rfl, rfl, rfl⟩
  case deadline =>
    intro n t0 s hp
    exact ⟨exec_txLateDeadline_late hp, exec_txLateDeadline_kept hp⟩
  case receive =>
    intro n w s hn hlen hf hs hi
    refine ⟨fun hsettle hlock hend hloop => ⟨_, exec_rxCommand _ hf hs hi, laneListen_opens _ (hlen ▸ hn) hsettle hlock hend hloop⟩,
      fun h => ?_⟩
    rw [exec_rxCommand none hf hs hi]
    exact congrArg _ (laneListen_waits none h)
  case windowEnd =>
    intro n u s hrx
    rw [exec_rxWindowEnd hrx]
    exact ⟨fun h => if_neg (Nat.not_le.2 h), fun h => if_pos h⟩
  case ended =>
    intro n s hn hlen hw
    exact ⟨windowOver_lane (hlen ▸ hn), windowOver_stat hw⟩

end Sys2Proof.Machine
end

section
/-! PROOFS. The lanes' states: requests and the lock, idling and the calibration, the loopback, detection. -/

namespace Sys2Proof.Machine

/-! ### Requests (R135, R137 to R143, R156) -/

section Requests

variable {n m chan : Nat} {cls : Cls} {s : State}

theorem exec_laneRequest_shed (sel : Nat) (hs : s.airShed = true) :
    exec (.laneRequest sel cls chan) s = .next (laneResult (if sel = 1 then 1 else 0) .shed s) := by
  change execLaneRequest sel cls chan s = _
  simp only [execLaneRequest, hs, if_true]

theorem pickLane_first (hs : s.airShed = false) (hi : s.isIsolated .lane0 = false) (hf : s.laneFitted 0 = true) (hh : (s.lane 0).held = none) :
    s.pickLane 0 chan = some 0 := by
  have hserves : s.laneServes 0 = true := by simp only [State.laneServes, laneBlock, hf, hi, hs, if_true, Bool.not_false, Bool.and_self]
  simp only [State.pickLane, State.freeLanes, if_true, List.filter_cons, hserves, hh, Option.isNone_none, Bool.and_self, List.filter_nil,
    List.foldl_nil]

theorem exec_laneRequest_takes (hs : s.airShed = false) (hb : s.barred chan = false) (hi : s.isIsolated .lane0 = false)
    (hf : s.laneFitted 0 = true) (hh : (s.lane 0).held = none) : exec (.laneRequest 0 cls chan) s = .next (laneHold 0 cls chan s) := by
  change execLaneRequest 0 cls chan s = _
  simp only [execLaneRequest, hs, hb, laneBlock, hi, laneTake, pickLane_first hs hi hf hh, laneForRun, zero_ne_one, if_true, if_false,
    Bool.false_eq_true, false_and, or_self]

theorem State.setDom_air (d : Dom) (on : Bool) : (s.setDom d on).air = s.air := by cases on <;> rfl

theorem State.setDom_queues (d : Dom) (on : Bool) : (s.setDom d on).queues = s.queues := by cases on <;> rfl

/-- A lane that settles: it listens no more. -/
def Lane.moving (l : Lane) (st : Settle) : Lane := { l with settle := some st, rx := none, turn := none }

/-- All that a move changes beside registers: the lane settles, and listens no more; a lane that need not or cannot move stays. -/
theorem laneMove_cases (n chan : Nat) (s : State) : laneMove n chan s = s ∨ ∃ (t : State) (st : Settle),
    t.air = s.air ∧ t.queues = s.queues ∧ laneMove n chan s = t.setLane n ((s.lane n).moving st) := by
  unfold laneMove
  extract_lets lead d cold domain moved
  split
  · exact .inl rfl
  · have hmoved : moved.air = s.air ∧ moved.queues = s.queues := by
      simp only [moved, domain, State.put_air, State.setBit_air, State.put_queues, State.setBit_queues]
      split
      · exact ⟨rfl, rfl⟩
      · simp only [State.setDom_air, State.setDom_queues, and_self]
    have hlane : moved.lane n = s.lane n := by rw [State.lane, hmoved.1, State.lane]
    exact .inr ⟨moved, ⟨s.now, lead, d, cold, 0, false⟩, hmoved.1, hmoved.2,
      congrArg (fun l : Lane => moved.setLane n (l.moving ⟨s.now, lead, d, cold, 0, false⟩)) hlane⟩

/-- A lane as a request takes it, before its move (R144). -/
def laneHeld (n : Nat) (cls : Cls) (s : State) : State :=
  let t := s.setLane n { s.lane n with held := some cls, search := false, rx := none, wantRx := none, turn := none }
  if 2 ≤ s.laneState n then t.put (Reg.AIR_LN_STAT_STATE n) (if s.bit (Reg.AIR_LN_STAT_CALV n) then 2 else 1) else t

theorem laneHold_eq (n : Nat) (cls : Cls) (chan : Nat) (s : State) : laneHold n cls chan s = laneMove n chan (laneHeld n cls s) := rfl

theorem laneHeld_beside (n : Nat) (cls : Cls) (s : State) : (laneHeld n cls s).air = (s.setLane n { s.lane n with
    held := some cls, search := false, rx := none, wantRx := none, turn := none }).air ∧ (laneHeld n cls s).queues = s.queues := by
  unfold laneHeld
  extract_lets t
  split <;> exact ⟨rfl, rfl⟩

/-- A lane taken: held in the request's class, its window closed; the other lane and the queues stay. -/
theorem laneHold_takes (cls : Cls) (chan : Nat) (h : n < s.air.lanes.length) (hm : m ≠ n) :
    ((laneHold n cls chan s).lane n).held = some cls ∧ ((laneHold n cls chan s).lane n).rx = none ∧
      (laneHold n cls chan s).lane m = s.lane m ∧ (laneHold n cls chan s).queues = s.queues := by
  obtain ⟨hair, hqueues⟩ := laneHeld_beside n cls s
  have hn : (laneHeld n cls s).lane n = { s.lane n with held := some cls, search := false, rx := none, wantRx := none, turn := none } := by
    rw [State.lane, hair]
    exact State.setLane_lane _ h
  have hother : (laneHeld n cls s).lane m = s.lane m := by
    rw [State.lane, hair]
    exact State.setLane_lane_other _ hm
  rw [laneHold_eq]
  obtain hstay | ⟨t, st, htair, htqueues, hmove⟩ := laneMove_cases n chan (laneHeld n cls s)
  · rw [hstay, hn]
    exact ⟨rfl, rfl, hother, hqueues⟩
  · have hlen : n < t.air.lanes.length := by
      rw [htair, hair, State.setLane_lanes_length]
      exact h
    have htother : t.lane m = (laneHeld n cls s).lane m := by rw [State.lane, htair, State.lane]
    rw [hmove, State.setLane_lane _ hlen, State.setLane_lane_other _ hm, htother, hn]
    exact ⟨rfl, rfl, hother, htqueues.trans hqueues⟩

end Requests

/-! ### The lock (R139, R141 to R143) -/

section Lock

variable {n : Nat} {temp : Int} {coefs : List Bool} {st : Settle} {s : State}

theorem exec_synthLocked_early (hst : (s.lane n).settle = some st) (h12 : st.maxUs = 12) (ha : s.after st.at_ 12 = false) :
    exec (.synthLocked n temp coefs) s = .next s := by
  change execSynthLocked n temp coefs s = _
  simp only [execSynthLocked, hst]
  exact if_pos ⟨h12, ha⟩

theorem coefCheck_holds (n : Nat) (s : State) (h : coefs.headD true = true) : coefCheck n coefs s = s := by
  cases coefs with
  | nil => simp only [coefCheck, List.take_nil, List.headD_nil, true_or, or_true, if_true]
  | cons b bs =>
    rw [List.headD_cons] at h
    simp only [coefCheck, h, List.take_succ_cons, List.headD_cons, List.any_cons, id, Bool.true_or, or_true, if_true]

/-- The lane in SYNTH once both checks have passed. -/
def lockPassed (n : Nat) (s : State) : State :=
  ((s.setLane n { s.lane n with settle := none, txFrom := s.airAbs + airTenths 60 }).setBit (Reg.AIR_LN_STAT_LOCK n) true).put
    (Reg.AIR_LN_STAT_STATE n) 2

theorem lockPassed_lane (h : n < s.air.lanes.length) :
    (lockPassed n s).lane n = { s.lane n with settle := none, txFrom := s.airAbs + airTenths 60 } := State.setLane_lane _ h

theorem lockPassed_stat (hw : regsWf s.regs = true) : (lockPassed n s).laneState n = 2 ∧ (lockPassed n s).bit (Reg.AIR_LN_STAT_LOCK n) = true ∧
    (lockPassed n s).bit (Reg.AIR_LN_STAT_CALV n) = s.bit (Reg.AIR_LN_STAT_CALV n) := by
  simp [lockPassed, State.laneState, State.get_put_same, State.bit_put_apart, State.bit_setBit_same, State.bit_setBit_apart,
    State.regsWf_setBit, hw, Reg.AIR_LN_STAT_STATE, Reg.AIR_LN_STAT_LOCK, Reg.AIR_LN_STAT_CALV]

theorem calibrated_regsWf (hw : regsWf s.regs = true) : regsWf (calibrated n temp s).regs = true :=
  State.regsWf_put _ _ _ (State.regsWf_put _ _ _ (State.regsWf_setBit _ true hw))

theorem calibrated_lane (h : n < s.air.lanes.length) : (calibrated n temp s).lane n = { s.lane n with calAt := some s.now, temp := temp } :=
  State.setLane_lane _ h

theorem calibrated_lanes_length : (calibrated n temp s).air.lanes.length = s.air.lanes.length := State.setLane_lanes_length _

theorem laneStat_ne_cal (n : Nat) : Reg.AIR_LN_STAT n ≠ Reg.AIR_LN_CAL n := by
  simp [Reg.AIR_LN_STAT, Reg.AIR_LN_CAL]

theorem calibrated_calv (hw : regsWf s.regs = true) : (calibrated n temp s).bit (Reg.AIR_LN_STAT_CALV n) = true := by
  have w1 := State.regsWf_setBit (s := s.setLane n { s.lane n with calAt := some s.now, temp := temp }) (Reg.AIR_LN_STAT_CALV n) true hw
  refine (State.bit_of_get ((State.get_of_rd (State.rd_put_apart _ (State.regsWf_put _ _ _ w1) (laneStat_ne_cal n))).trans
    (State.get_of_rd (State.rd_put_apart _ w1 (laneStat_ne_cal n))))).trans ?_
  exact State.bit_setBit_same (s := s.setLane n _) true hw (by decide : 29 < 32) rfl

/-- The checks passed bring a lane with nothing to send or to receive to SYNTH; a cold entry or a repeated one calibrates it first. -/
theorem exec_synthLocked_passes (hst : (s.lane n).settle = some st) (hlen : n < s.air.lanes.length) (hrx : (s.lane n).wantRx = none)
    (hp : (s.lane n).pend = none) (h12 : st.maxUs ≠ 12 ∨ s.after st.at_ 12 = true) (hc : coefs.headD true = true) :
    exec (.synthLocked n temp coefs) s = .next (lockPassed n (if st.cold = true ∨ st.tries ≠ 0 then calibrated n temp s else s)) := by
  have hready : ¬ (st.maxUs = 12 ∧ s.after st.at_ 12 = false) := by
    rcases h12 with h | h
    · exact fun hn => h hn.1
    · exact fun hn => ne_true_of_eq_false hn.2 h
  change execSynthLocked n temp coefs s = _
  simp only [execSynthLocked, hst, if_neg hready, coefCheck_holds _ _ hc]
  generalize ht : (if st.cold = true ∨ st.tries ≠ 0 then calibrated n temp s else s) = t
  have hlane : n < t.air.lanes.length ∧ (t.lane n).wantRx = none ∧ (t.lane n).pend = none := by
    rw [← ht]
    split
    · rw [calibrated_lane hlen, calibrated_lanes_length]
      exact ⟨hlen, hrx, hp⟩
    · exact ⟨hlen, hrx, hp⟩
  obtain ⟨htlen, htrx, htp⟩ := hlane
  have hpassed := lockPassed_lane htlen
  have hkept : txDeadline n (lockPassed n t) = lockPassed n t := txDeadline_kept (txMissed_idle (by rw [hpassed]; exact htp))
  have hwant : ((lockPassed n t).lane n).wantRx = none := by
    rw [hpassed]
    exact htrx
  simp only [lockPassed] at hkept hwant ⊢
  rw [hkept, hwant]

/-- R141, R143: a calibrating move that is over leaves the calibration valid, taken now at the lane's temperature. -/
theorem synthLocked_reaches (hst : (s.lane n).settle = some st) (hlen : n < s.air.lanes.length) (hw : regsWf s.regs = true)
    (hrx : (s.lane n).wantRx = none) (hp : (s.lane n).pend = none) (h12 : st.maxUs ≠ 12 ∨ s.after st.at_ 12 = true)
    (hc : coefs.headD true = true) :
    ∃ t, exec (.synthLocked n temp coefs) s = .next t ∧ (t.lane n).settle = none ∧ t.laneState n = 2 ∧ t.bit (Reg.AIR_LN_STAT_LOCK n) = true ∧
      (st.cold = true → t.bit (Reg.AIR_LN_STAT_CALV n) = true ∧ (t.lane n).calAt = some s.now ∧ (t.lane n).temp = temp) := by
  refine ⟨_, exec_synthLocked_passes hst hlen hrx hp h12 hc, ?_⟩
  have hclen : n < (calibrated n temp s).air.lanes.length := lt_of_lt_of_eq hlen calibrated_lanes_length.symm
  have hcw : regsWf (calibrated n temp s).regs = true := calibrated_regsWf hw
  by_cases h : st.cold = true ∨ st.tries ≠ 0
  · obtain ⟨hstate, hlock, hcalv⟩ := lockPassed_stat (n := n) hcw
    rw [if_pos h, lockPassed_lane hclen, hcalv, calibrated_lane hlen]
    exact ⟨rfl, hstate, hlock, fun _ => ⟨calibrated_calv hw, rfl, rfl⟩⟩
  · obtain ⟨hstate, hlock, _⟩ := lockPassed_stat (n := n) hw
    rw [if_neg h, lockPassed_lane hlen]
    exact ⟨rfl, hstate, hlock, fun hcold => absurd (.inl hcold) h⟩

section Late

variable (hst : (s.lane n).settle = some st) (ha : s.after st.at_ (st.lead + 2 * st.maxUs) = true)

include hst ha

theorem exec_lockCheckTimeout_again (ht : st.tries < 2) : exec (.lockCheckTimeout n) s =
    .next ((recomputes (laneBlock n) (s.setBit (Reg.AIR_LN_STAT_CALV n) false)).setLane n
      { s.lane n with settle := some { st with at_ := s.now, lead := 0, maxUs := 220, cold := true, tries := st.tries + 1 } }) := by
  change execLockCheckTimeout n s = _
  simp only [execLockCheckTimeout, hst, ha, Bool.true_eq_false, if_false, if_pos ht]

theorem exec_lockCheckTimeout_isolates (ht : 2 ≤ st.tries) : exec (.lockCheckTimeout n) s = .next (reportFault (laneBlock n) 0x3101 n
    (laneDrop n .noLock ((s.setLane n { s.lane n with settle := none }).put (Reg.AIR_LN_STAT_STATE n) 1))) := by
  change execLockCheckTimeout n s = _
  simp only [execLockCheckTimeout, hst, ha, Bool.true_eq_false, if_false, if_neg (Nat.not_lt.2 ht)]

end Late

theorem exec_lockLost_elsewhere (h3 : s.laneState n ≠ 3) (h4 : s.laneState n ≠ 4) : exec (.lockLost n) s = .next s := if_pos ⟨h3, h4⟩

theorem exec_lockLost_inUse (h : s.laneState n = 3 ∨ s.laneState n = 4) :
    let t := laneDrop n .unlock ((s.setBit (Reg.AIR_LN_STAT_LOCK n) false).put (Reg.AIR_LN_STAT_STATE n) 1)
    let u := raise 0x3104 n (t.setLane n { t.lane n with settle := some ⟨s.now, 0, 220, true, 2, true⟩ })
    exec (.lockLost n) s = .next (if (escMismatch (laneBlock n) u).1 = true then isolate (laneBlock n) 0x3104 (escMismatch (laneBlock n) u).2
      else (escMismatch (laneBlock n) u).2) := by
  intro t u
  have huse : ¬ (s.laneState n ≠ 3 ∧ s.laneState n ≠ 4) := by omega
  change execLockLost n s = _
  rw [execLockLost, if_neg huse]
  rcases hx : escMismatch (laneBlock n) u with ⟨again, v⟩
  simp only [t, u] at hx
  cases again <;> simp only [hx] <;> rfl

end Lock

/-! ### Idling (R138, R140) -/

section Idle

variable {n : Nat} {s : State}

theorem exec_laneIdleSleep_sleeps (hp : s.profile ≤ 1) (hh : (s.lane n).held = none) (hsearch : (s.lane n).search = false)
    (hrx : (s.lane n).rx = none) (hend : (s.lane n).txEnd = none) (hsettle : (s.lane n).settle = none) (hloop : (s.lane n).loop = none)
    (hon : s.domOn (laneDom n) = true) (hstate : s.laneState n ≠ 0) (ha : s.after (s.lane n).lastOp 2000 = true) :
    exec (.laneIdleSleep n) s = .next ((((s.setLane n { s.lane n with sleptAt := s.now, wantRx := none, turn := none }).put
      (Reg.AIR_LN_STAT_STATE n) 0).setBit (Reg.AIR_LN_STAT_LOCK n) false).put (Reg.AIR_LN_STAT_CHAN n) 0) :=
  if_pos ⟨hp, hh ▸ rfl, hsearch, hrx ▸ rfl, hend ▸ rfl, hsettle ▸ rfl, hloop ▸ rfl, hon, hstate, ha⟩

theorem exec_laneDomainOff_idle (hp : s.profile ≤ 1) (hon : s.domOn (laneDom n) = true) (hstate : s.laneState n = 0)
    (hsettle : (s.lane n).settle = none) (hh : (s.lane n).held = none) (ha : s.after (s.lane n).sleptAt 10000 = true) :
    exec (.laneDomainOff n) s = .next (laneOff n s) :=
  if_pos ⟨hp, hon, hstate, hsettle ▸ rfl, hh ▸ rfl, ha⟩

/-! ### A domain off, and its lane with it (R138, R143) -/

/-- A bit that is set taken from a number: every other bit stays. -/
theorem testBit_sub_two_pow {g i : Nat} (h : g.testBit i = true) (j : Nat) : (g - 2 ^ i).testBit j = (decide (j ≠ i) && g.testBit j) := by
  obtain ⟨q, r, hr, rfl⟩ : ∃ q r, r < 2 ^ i ∧ g = 2 ^ i * (2 * q + 1) + r := by
    refine ⟨g / 2 ^ i / 2, g % 2 ^ i, Nat.mod_lt _ (Nat.two_pow_pos i), ?_⟩
    rw [Nat.testBit_eq_decide_div_mod_eq, decide_eq_true_eq] at h
    rw [show 2 * (g / 2 ^ i / 2) + 1 = g / 2 ^ i by omega, Nat.div_add_mod]
  have hsub : 2 ^ i * (2 * q + 1) + r - 2 ^ i = 2 ^ i * (2 * q) + r := by
    rw [Nat.mul_add_one]
    omega
  rw [hsub, Nat.testBit_two_pow_mul_add _ hr, Nat.testBit_two_pow_mul_add _ hr]
  obtain hj | rfl | hj := lt_trichotomy j i
  · simp only [hj, hj.ne, if_true, ne_eq, not_false_eq_true, decide_true, Bool.true_and]
  · simp
  · obtain ⟨k, rfl⟩ := Nat.exists_eq_add_of_lt hj
    rw [if_neg hj.asymm, if_neg hj.asymm, show i + k + 1 - i = k + 1 by omega, Nat.testBit_add_one, Nat.testBit_add_one,
      show (2 * q + 1) / 2 = 2 * q / 2 by omega, decide_eq_true hj.ne', Bool.true_and]

theorem State.get_lt (s : State) (f : Fld) : s.get f < 2 ^ f.width := BitVec.isLt _

theorem State.bitAt_eq_testBit (s : State) (f : Fld) (i : Nat) : s.bitAt f i = (s.get f).testBit i := by
  rw [Nat.testBit_eq_decide_div_mod_eq]
  rfl

/-- A bit cleared reads 0, and every other bit of its field as before. -/
theorem State.bitAt_clearBitAt {f : Fld} (hw : regsWf s.regs = true) (hf : f.lo + f.width ≤ 32) (i j : Nat) :
    (s.clearBitAt f i).bitAt f j = (decide (j ≠ i) && s.bitAt f j) := by
  have hlt := s.get_lt f
  rw [State.bitAt_eq_testBit, State.bitAt_eq_testBit, State.clearBitAt, State.get_put_same s f _ hw hf, Nat.mod_eq_of_lt ?_]
  swap
  · split
    exacts [(Nat.sub_le _ _).trans_lt hlt, hlt]
  split
  · rename_i h
    exact testBit_sub_two_pow (by rw [Nat.testBit_eq_decide_div_mod_eq, h]; rfl) j
  · rename_i h
    by_cases hj : j = i
    · rw [hj, Nat.testBit_eq_decide_div_mod_eq, decide_eq_false h, Bool.and_false]
    · rw [decide_eq_true hj, Bool.true_and]

theorem State.domOn_setDom_off (d e : Dom) (hw : regsWf s.regs = true) :
    (s.setDom d false).domOn e = (decide (e.bit ≠ d.bit) && s.domOn e) := State.bitAt_clearBitAt hw (by decide) d.bit e.bit

theorem State.get_setDom {f : Fld} (d : Dom) (on : Bool) (hw : regsWf s.regs = true) (hf : f.reg ≠ Reg.PWR_DOM) :
    (s.setDom d on).get f = s.get f := by
  cases on <;> exact State.get_of_rd (State.rd_put_apart (f := Reg.PWR_DOM_ON) _ hw hf)

theorem State.domOn_put {f : Fld} (v : Nat) (d : Dom) (hw : regsWf s.regs = true) (hf : Reg.PWR_DOM ≠ f.reg) :
    (s.put f v).domOn d = s.domOn d := by
  rw [State.domOn, State.bitAt, State.get_of_rd (f := Reg.PWR_DOM_ON) (State.rd_put_apart v hw hf), State.domOn, State.bitAt]

theorem State.domOn_setBit {f : Fld} (b : Bool) (d : Dom) (hw : regsWf s.regs = true) (hf : Reg.PWR_DOM ≠ f.reg) :
    (s.setBit f b).domOn d = s.domOn d := State.domOn_put _ d hw hf

/-- A lane's domain off and its calibration lost with it (R143). -/
def calLost (n : Nat) (s : State) : State :=
  ((s.setDom (laneDom n) false).setBit (Reg.AIR_LN_STAT_CALV n) false).setLane n { s.lane n with calAt := none }

/-- A lane whose domain is off, before PD_FOX follows. -/
def laneDark (n : Nat) (s : State) : State :=
  (((calLost n s).put (Reg.AIR_LN_STAT_STATE n) 0).setBit (Reg.AIR_LN_STAT_LOCK n) false).put (Reg.AIR_LN_STAT_CHAN n) 0

theorem laneOff_eq (n : Nat) (s : State) : laneOff n s = if (laneDark n s).domOn .ar0 = true ∨ (laneDark n s).domOn .ar1 = true then laneDark n s
    else (laneDark n s).setDom .fox false := rfl

theorem laneStat_ne_dom (n : Nat) : Reg.PWR_DOM ≠ Reg.AIR_LN_STAT n := by
  simp only [Reg.AIR_LN_STAT, Reg.PWR_DOM]
  omega

section Dark

variable (hw : regsWf s.regs = true)

include hw

theorem calLost_regsWf : regsWf (calLost n s).regs = true := State.regsWf_setBit _ _ (State.regsWf_setDom _ _ hw)

theorem laneDark_regsWf : regsWf (laneDark n s).regs = true :=
  State.regsWf_put _ _ _ (State.regsWf_setBit _ _ (State.regsWf_put _ _ _ (calLost_regsWf hw)))

theorem laneDark_domOn (d : Dom) : (laneDark n s).domOn d = (decide (d.bit ≠ (laneDom n).bit) && s.domOn d) := by
  have w1 := State.regsWf_put _ (Reg.AIR_LN_STAT_STATE n) 0 (calLost_regsWf (n := n) hw)
  have w2 := State.regsWf_setBit (Reg.AIR_LN_STAT_LOCK n) false w1
  have hne := laneStat_ne_dom n
  calc (laneDark n s).domOn d
    _ = (((calLost n s).put (Reg.AIR_LN_STAT_STATE n) 0).setBit (Reg.AIR_LN_STAT_LOCK n) false).domOn d := State.domOn_put 0 d w2 hne
    _ = ((calLost n s).put (Reg.AIR_LN_STAT_STATE n) 0).domOn d := State.domOn_setBit false d w1 hne
    _ = (calLost n s).domOn d := State.domOn_put 0 d (calLost_regsWf hw) hne
    _ = (s.setDom (laneDom n) false).domOn d := State.domOn_setBit false d (State.regsWf_setDom _ _ hw) hne
    _ = _ := State.domOn_setDom_off _ _ hw

theorem laneDark_calv : (laneDark n s).bit (Reg.AIR_LN_STAT_CALV n) = false := by
  have w1 := State.regsWf_put _ (Reg.AIR_LN_STAT_STATE n) 0 (calLost_regsWf (n := n) hw)
  have w2 := State.regsWf_setBit (Reg.AIR_LN_STAT_LOCK n) false w1
  calc (laneDark n s).bit (Reg.AIR_LN_STAT_CALV n)
    _ = (((calLost n s).put (Reg.AIR_LN_STAT_STATE n) 0).setBit (Reg.AIR_LN_STAT_LOCK n) false).bit (Reg.AIR_LN_STAT_CALV n) :=
      State.bit_put_apart 0 w2 (by decide : 5 ≤ 32) (by decide : 30 ≤ 32) (.inr (.inl (by decide : 5 ≤ 29)))
    _ = ((calLost n s).put (Reg.AIR_LN_STAT_STATE n) 0).bit (Reg.AIR_LN_STAT_CALV n) :=
      State.bit_setBit_apart false w1 (by decide : 29 ≤ 32) (by decide : 30 ≤ 32) (.inr (.inl (by decide : 29 ≤ 29)))
    _ = (calLost n s).bit (Reg.AIR_LN_STAT_CALV n) :=
      State.bit_put_apart 0 (calLost_regsWf hw) (by decide : 11 ≤ 32) (by decide : 30 ≤ 32) (.inr (.inl (by decide : 11 ≤ 29)))
    _ = false := State.bit_setBit_same false (State.regsWf_setDom _ _ hw) (by decide : 29 < 32) rfl

theorem laneDark_state : (laneDark n s).laneState n = 0 := by
  have w1 := State.regsWf_put _ (Reg.AIR_LN_STAT_STATE n) 0 (calLost_regsWf (n := n) hw)
  have w2 := State.regsWf_setBit (Reg.AIR_LN_STAT_LOCK n) false w1
  calc (laneDark n s).laneState n
    _ = (((calLost n s).put (Reg.AIR_LN_STAT_STATE n) 0).setBit (Reg.AIR_LN_STAT_LOCK n) false).laneState n :=
      State.get_put_apart _ (Reg.AIR_LN_STAT_CHAN n) (Reg.AIR_LN_STAT_STATE n) 0 w2 (by decide : 5 ≤ 32) (by decide : 11 ≤ 32)
        (.inr (.inl (by decide : 5 ≤ 8)))
    _ = ((calLost n s).put (Reg.AIR_LN_STAT_STATE n) 0).laneState n :=
      State.get_setBit_apart w1 (by decide : 29 ≤ 32) (by decide : 11 ≤ 32) (.inr (.inr (by decide : 11 ≤ 28)))
    _ = 0 := State.get_put_same _ (Reg.AIR_LN_STAT_STATE n) 0 (calLost_regsWf hw) (by decide : 11 ≤ 32)

/-- A lane's domain off: its calibration lost, the other lane's domain as it was, PD_FOX off with the last of the two. -/
theorem laneOff_leaves (hn : n < 2) : (laneOff n s).domOn (laneDom n) = false ∧ (laneOff n s).bit (Reg.AIR_LN_STAT_CALV n) = false ∧
    (laneOff n s).laneState n = 0 ∧ (laneOff n s).domOn (laneDom (1 - n)) = s.domOn (laneDom (1 - n)) ∧
    (s.domOn (laneDom (1 - n)) = false → (laneOff n s).domOn .fox = false) := by
  have hother : (laneDom (1 - n)).bit ≠ (laneDom n).bit ∧ (laneDom (1 - n)).bit ≠ Dom.fox.bit := by
    obtain rfl | rfl : n = 0 ∨ n = 1 := by omega
    all_goals decide
  have hown : (laneDark n s).domOn (laneDom n) = false := by simp [laneDark_domOn hw]
  have hstays : (laneDark n s).domOn (laneDom (1 - n)) = s.domOn (laneDom (1 - n)) := by
    rw [laneDark_domOn hw, decide_eq_true hother.1, Bool.true_and]
  have hlast : (laneDark n s).domOn .ar0 = true ∨ (laneDark n s).domOn .ar1 = true ↔ s.domOn (laneDom (1 - n)) = true := by
    rw [← hstays]
    obtain rfl | rfl : n = 0 ∨ n = 1 := by omega
    · exact or_iff_right (ne_true_of_eq_false hown)
    · exact or_iff_left (ne_true_of_eq_false hown)
  have hcalv := laneDark_calv (n := n) hw
  have hstate := laneDark_state (n := n) hw
  rw [laneOff_eq]
  split
  case isTrue h => exact ⟨hown, hcalv, hstate, hstays, fun hoff => absurd (hlast.1 h) (ne_true_of_eq_false hoff)⟩
  case isFalse h =>
    have w := laneDark_regsWf (n := n) hw
    have hstat {f : Fld} (hf : f.reg = Reg.AIR_LN_STAT n) : ((laneDark n s).setDom .fox false).get f = (laneDark n s).get f :=
      State.get_setDom .fox false w (hf ▸ (laneStat_ne_dom n).symm)
    refine ⟨?_, (State.bit_of_get (hstat rfl)).trans hcalv, (hstat rfl).trans hstate, ?_, fun _ => ?_⟩
    · rw [State.domOn_setDom_off _ _ w, hown, Bool.and_false]
    · rw [State.domOn_setDom_off _ _ w, decide_eq_true hother.2, Bool.true_and, hstays]
    · rw [State.domOn_setDom_off _ _ w, decide_eq_false (not_not_intro rfl), Bool.false_and]

end Dark

end Idle

/-! ### The calibration (R143) -/

section Calibration

variable {n : Nat} {temp : Int} {s : State}

section Sampled

variable (hon : s.domOn (laneDom n) = true) (ha : s.after (s.lane n).tempAt 10000 = true) (hr : s.refBad = false)

include hon ha hr

theorem exec_laneTempSample : exec (.laneTempSample n temp) s = .next (
    let t := enterSamples [temp] (s.setLane n { s.lane n with temp := temp, tempAt := s.now })
    if (s.lane n).calAt.isSome = true ∧ 1500 < (temp - toInt 16 (s.get (Reg.AIR_LN_CAL_TCAL n))).natAbs then t.setBit (Reg.AIR_LN_STAT_CALV n) false
    else t) := by
  change execLaneTempSample n temp s = _
  simp only [execLaneTempSample, hon, ha, hr, Bool.true_eq_false, Bool.false_eq_true, or_self, if_false]
  split <;> rfl

end Sampled

theorem exec_calAgeExpiry_old {a : Nat} (hp : s.profile = 3) (hc : (s.lane n).calAt = some a) (ha : s.after a 60000000 = true) :
    exec (.calAgeExpiry n) s = .next (s.setBit (Reg.AIR_LN_STAT_CALV n) false) :=
  if_pos ⟨hp, by rw [hc, Option.any_some, ha]⟩

theorem exec_calAgeExpiry_elsewhere (hp : s.profile ≠ 3) : exec (.calAgeExpiry n) s = .next s := if_neg fun h => hp h.1

end Calibration

/-! ### The loopback (R154, R155) -/

section Loopback

variable {n : Nat} {s : State}

theorem exec_loopback_enters (m : LoopMeas) (hstate : 2 ≤ s.laneState n) (hsettle : (s.lane n).settle = none)
    (hlock : s.bit (Reg.AIR_LN_STAT_LOCK n) = true) (hend : (s.lane n).txEnd = none) (hloop : (s.lane n).loop = none)
    (hrx : (s.lane n).rx = none) :
    exec (.loopback n m) s = .next (s.setLane n { s.lane n with
      loop := some ⟨s.airAbs, m⟩, turn := some (5, s.airAbs + airTenths 20), rx := none, wantRx := (s.lane n).wantRx }) := by
  change execLoopback n m s = _
  simp only [execLoopback, hsettle, hlock, hend, hloop, hrx, Nat.not_lt.2 hstate, Option.isSome_none, Option.bind_none, Bool.false_eq_true,
    Bool.true_eq_false, or_self, if_false]
  rfl

/-- The state in which a loopback is over and its lane returns to SYNTH. -/
def loopLeft (n : Nat) (s : State) : State :=
  s.setLane n { s.lane n with loop := none, turn := some (2, s.airAbs + airTenths 20), txFrom := s.airAbs + airTenths 80 }

theorem loopEnd_good {r : LoopRun} {d : Int} (hd : r.meas.attempts.head? = some d) (hgood : d.natAbs ≤ 60) (hex : (loopLeft n s).exOn n = none) :
    loopEnd n r s = laneResult n .ok (loopLeft n s) := by
  obtain ⟨rest, hrest⟩ : ∃ rest, r.meas.attempts = d :: rest := by
    cases h : r.meas.attempts with
    | nil => simp [h] at hd
    | cons x rest => exact ⟨rest, by simpa [h] using hd⟩
  have hresult : (laneResult n .ok (loopLeft n s)).exOn n = none := hex
  simp only [loopLeft] at hresult
  simp only [loopEnd, loopLeft, hrest, List.take_succ_cons, List.headD_cons, List.all_cons, decide_eq_true hgood, Bool.not_true, Bool.false_and,
    Bool.false_eq_true, and_false, if_true, if_false, hresult]

theorem loopEnd_bad {r : LoopRun} {a b c : Int} (h : r.meas.attempts = [a, b, c]) (ha : 60 < a.natAbs) (hb : 60 < b.natAbs) (hc : 60 < c.natAbs) :
    loopEnd n r s = reportFault (laneBlock n) 0x3103 n (laneDrop n .fault (recomputes (laneBlock n) (loopLeft n s))) := by
  have hbad {x : Int} (hx : 60 < x.natAbs) : decide (x.natAbs ≤ 60) = false := decide_eq_false (Nat.not_le.2 hx)
  simp only [loopEnd, loopLeft, h, List.take, List.headD_cons, List.all_cons, List.all_nil, hbad ha, hbad hb, hbad hc, Bool.not_false,
    Bool.and_self, Bool.false_eq_true, ne_eq, reduceCtorEq, not_false_eq_true, and_self, if_true, if_false]

end Loopback

/-! ### Detection (R148 to R150, R165, R166) -/

section Detection

variable {n d cls : Nat} {m : SyncMeas} {w : RxWin} {s : State}

/-- What a receive sequence shows of its gains and qualities (R148 to R150). -/
def rxqShown (n : Nat) (q : RxSeq) (s : State) : State :=
  (((((s.put (Reg.AIR_LN_RXQ_GAINA n) q.gainA).put (Reg.AIR_LN_RXQ_GAINB n) q.gainB).setBit (Reg.AIR_LN_RXQ_SETB n) q.settledB).put
    (Reg.AIR_LN_RXQ_CHOSEN n) q.aerial).put (Reg.AIR_LN_RXQ_QA n) q.qA).put (Reg.AIR_LN_RXQ_QB n) q.qB

/-- A lane after a receive sequence: on the aerial chosen, at its gain. -/
def seqShown (n : Nat) (q : RxSeq) (s : State) : State :=
  let t := (rxqShown n q s).put (Reg.AIR_LN_STAT_AER n) q.aerial
  t.setLane n { t.lane n with gain := if q.aerial = 1 then q.gainB else q.gainA }

/-- A reception that goes on with the turn found, in the class detected (R166). -/
def turnFound (n cls : Nat) (w : RxWin) (s : State) : State := s.setLane n { s.lane n with rx := some { w with detected := some cls } }

/-- A reception that ends LOST (R166). -/
def rxLost (n : Nat) (s : State) : State :=
  ((s.put (Reg.AIR_LN_STAT_AER n) (s.searchAerial n)).put (Reg.AIR_LN_RXLAST_STATUS n) RxStatus.lost.code).count (Reg.AIR_LN_RXERR2_LOST n) 1

theorem exec_syncDetect (hrx : (s.lane n).rx = some w) (hw : w.detected = none) (hstate : s.laneState n = 3)
    (hd : detectFrom (if s.searchAerial n = 1 then m.noiseB else m.noiseA) m.syms = some (d, cls)) :
    exec (.syncDetect n m) s = .next (if (turnAfter cls d m.syms).isSome = true
      then turnFound n cls w (seqShown n (s.rxSeq n cls d ((turnAfter cls d m.syms).getD m.syms.length) m) s)
      else rxLost n (seqShown n (s.rxSeq n cls d ((turnAfter cls d m.syms).getD m.syms.length) m) s)) := by
  have hready : ¬ (s.laneState n ≠ 3 ∨ w.detected.isSome = true) := by simp [hstate, hw]
  change execSyncDetect n m s = _
  rw [execSyncDetect, hrx, hd]
  refine (if_neg hready).trans ?_
  by_cases hturn : (turnAfter cls d m.syms).isSome = true
  · rw [if_pos hturn, if_pos hturn]
    rfl
  · rw [if_neg hturn, if_neg hturn]
    rfl

theorem rxqShown_air (q : RxSeq) : (rxqShown n q s).air = s.air := by
  simp only [rxqShown, State.put_air, State.setBit_air]

theorem rxqShown_regsWf (q : RxSeq) (hw : regsWf s.regs = true) : regsWf (rxqShown n q s).regs = true := by
  unfold rxqShown
  exact State.regsWf_put _ _ _ <| State.regsWf_put _ _ _ <| State.regsWf_put _ _ _ <| State.regsWf_setBit _ _ <| State.regsWf_put _ _ _ <|
    State.regsWf_put _ _ _ hw

theorem seqShown_lane (q : RxSeq) (hlen : n < s.air.lanes.length) :
    (seqShown n q s).lane n = { s.lane n with gain := if q.aerial = 1 then q.gainB else q.gainA } := by
  have hlane : (rxqShown n q s).lane n = s.lane n := by rw [State.lane, rxqShown_air, State.lane]
  rw [seqShown, State.setLane_lane _ (by rw [State.put_air, rxqShown_air]; exact hlen), State.put_lane, hlane]

theorem seqShown_lanes_length (q : RxSeq) : (seqShown n q s).air.lanes.length = s.air.lanes.length := by
  rw [seqShown, State.setLane_lanes_length, State.put_air, rxqShown_air]

theorem seqShown_regsWf (q : RxSeq) (hw : regsWf s.regs = true) : regsWf (seqShown n q s).regs = true := by
  rw [seqShown, State.setLane_regs]
  exact State.regsWf_put _ _ _ (rxqShown_regsWf q hw)

theorem seqShown_aerial (q : RxSeq) (hw : regsWf s.regs = true) : (seqShown n q s).get (Reg.AIR_LN_STAT_AER n) = q.aerial % 2 := by
  rw [seqShown, State.setLane_get]
  exact State.get_put_same _ (Reg.AIR_LN_STAT_AER n) q.aerial (rxqShown_regsWf q hw) (by decide : 17 ≤ 32)

/-- R150: B is chosen where its gain had settled and its quality is 1 dB or more better. -/
theorem rxDiversity_aerial (g cls d t : Nat) (m : SyncMeas) : (rxDiversity g cls d t m).aerial =
    if (rxDiversity g cls d t m).settledB = true ∧ (rxDiversity g cls d t m).qA + 4 ≤ (rxDiversity g cls d t m).qB then 1 else 0 := rfl

theorem rxDiversity_aerial_lt (g cls d t : Nat) (m : SyncMeas) : (rxDiversity g cls d t m).aerial < 2 := by
  rw [rxDiversity_aerial]
  split <;> decide

theorem rxDiversity_aerial_iff (g cls d t : Nat) (m : SyncMeas) : (rxDiversity g cls d t m).aerial = 1 ↔
    (rxDiversity g cls d t m).settledB = true ∧ (rxDiversity g cls d t m).qA + 4 ≤ (rxDiversity g cls d t m).qB := by
  rw [rxDiversity_aerial, ite_eq_left_iff]
  simp only [zero_ne_one, imp_false, not_not]

theorem rxSeq_diversity (hsole : s.soleAerial n = none) (cls d t : Nat) (m : SyncMeas) :
    s.rxSeq n cls d t m = rxDiversity (s.lane n).gain cls d t m := by
  simp only [State.rxSeq, hsole]

theorem rxLost_lane : (rxLost n s).lane n = s.lane n := by
  simp only [rxLost, State.count_lane, State.put_lane]

theorem rxLost_status (hw : regsWf s.regs = true) : (rxLost n s).get (Reg.AIR_LN_RXLAST_STATUS n) = 8 := by
  have hreg : Reg.AIR_LN_RXLAST n ≠ Reg.AIR_LN_RXERR2 n := by simp [Reg.AIR_LN_RXLAST, Reg.AIR_LN_RXERR2]
  have w1 := State.regsWf_put s (Reg.AIR_LN_STAT_AER n) (s.searchAerial n) hw
  have w2 := State.regsWf_put _ (Reg.AIR_LN_RXLAST_STATUS n) RxStatus.lost.code w1
  exact (State.get_of_rd (State.rd_put_apart _ w2 hreg)).trans (State.get_put_same _ (Reg.AIR_LN_RXLAST_STATUS n) 8 w1 (by decide : 32 ≤ 32))

/-- R165: a class is declared only above its threshold. -/
theorem threshold_lt_of_declared {noise : Rat} {l : List ShortSym} (h : declared noise l = some cls) :
    threshold noise < (bestCode (codeSums l)).2 := by
  by_contra hle
  rw [declared, if_pos (not_lt.1 hle)] at h
  exact nomatch h

end Detection

/-- Settles O19: each command by the equation of its case. -/
theorem laneStates : Obligations.LaneStates := by
  refine ⟨⟨?shed, ?takes, ?held, ?locked, ?early, ?late, ?lost, fun _ _ => exec_lockLost_elsewhere⟩,
    ?sleep, ?off, ?sample, ?aged, fun _ _ => exec_calAgeExpiry_elsewhere, ?loopback, ?loopEnd, ?detect, fun _ _ _ => threshold_lt_of_declared,
    rxDiversity_aerial_iff⟩
  case shed =>
    intro sel chan cls s hs
    exact exec_laneRequest_shed sel hs
  case takes =>
    intro chan cls s hs hb hi hf hh
    exact exec_laneRequest_takes hs hb hi hf hh
  case held =>
    intro n chan cls s hn hlen
    exact laneHold_takes cls chan (hlen ▸ hn) (by omega)
  case locked =>
    intro n temp coefs st s hn hlen hw hst hrx hp h12 hc
    exact synthLocked_reaches hst (hlen ▸ hn) hw hrx hp h12 hc
  case early =>
    intro n temp coefs st s hst h12 ha
    exact exec_synthLocked_early hst h12 ha
  case late =>
    intro n st s hst ha
    exact ⟨exec_lockCheckTimeout_again hst ha, exec_lockCheckTimeout_isolates hst ha⟩
  case lost =>
    intro n s h
    exact exec_lockLost_inUse h
  case sleep =>
    intro n s hp hh hsearch hrx hend hsettle hloop hon hstate ha
    exact exec_laneIdleSleep_sleeps hp hh hsearch hrx hend hsettle hloop hon hstate ha
  case off =>
    intro n s hn hw hp hon hstate hsettle hh ha
    exact ⟨_, exec_laneDomainOff_idle hp hon hstate hsettle hh ha, laneOff_leaves hw hn⟩
  case sample =>
    intro n temp s hon ha hr t
    rw [exec_laneTempSample hon ha hr]
    exact ⟨fun a hc hfar => congrArg _ (if_pos ⟨hc ▸ rfl, hfar⟩), fun hnear => congrArg _ (if_neg fun h => absurd h.2 (Nat.not_lt.2 hnear))⟩
  case aged =>
    intro n a s hp hc ha
    exact exec_calAgeExpiry_old hp hc ha
  case loopback =>
    intro n m s hstate hsettle hlock hend hloop hrx
    exact exec_loopback_enters m hstate hsettle hlock hend hloop hrx
  case loopEnd =>
    intro n r s t
    exact ⟨fun d hd hgood hex => loopEnd_good hd hgood hex, fun a b c h ha hb hc => loopEnd_bad h ha hb hc⟩
  case detect =>
    intro n m w d cls s hn hlen hwf hrx hw hstate hd
    have hl : n < s.air.lanes.length := hlen ▸ hn
    rw [exec_syncDetect hrx hw hstate hd]
    refine ⟨fun k hk => ?_, fun hk => ?_⟩
    · rw [hk, if_pos Option.isSome_some, Option.getD_some]
      refine ⟨_, rfl, congrArg Lane.rx (State.setLane_lane _ ((seqShown_lanes_length _).symm ▸ hl)), fun hsole => ?_⟩
      rw [turnFound, State.setLane_get, seqShown_aerial _ hwf, rxSeq_diversity hsole, Nat.mod_eq_of_lt (rxDiversity_aerial_lt ..)]
    · rw [hk, if_neg (ne_true_of_eq_false Option.isSome_none)]
      refine ⟨_, rfl, ?_, rxLost_status (seqShown_regsWf _ hwf)⟩
      rw [rxLost_lane, seqShown_lane _ hl]
      exact hrx

end Sys2Proof.Machine
end

section
/-! PROOFS. Frames on the air: a header word and its fields, the scrambler, and what sealing a payload and opening it again give. -/

namespace Sys2Proof.Machine

/-! ### The header (R8, R172) -/

theorem crcLeft_lt {w poly : Nat} (hp : poly < 2 ^ w) : ∀ (k : Nat) {c : Nat}, c < 2 ^ w → crcLeft w poly k c < 2 ^ w
  | 0, _, hc => hc
  | k + 1, c, hc => by
    refine crcLeft_lt hp k ?_
    split
    · exact Nat.xor_lt_two_pow (Nat.mod_lt _ (Nat.two_pow_pos w)) hp
    · omega

theorem crc16_lt (b : Bytes) : crc16 b < 65536 :=
  List.foldlRecOn b (motive := (· < 2 ^ 16)) _ (by decide) fun _ hc x _ =>
    crcLeft_lt (by decide) 8 (Nat.xor_lt_two_pow hc (by have := x.isLt; omega))

theorem AirHdr.of_word {h : AirHdr} (htyp : h.typ < 32) (hcls : h.cls < 8) (hlen : h.len < 2048) (hseq : h.seq < 256) (hsrc : h.src < 256)
    (hdst : h.dst < 256) (hflags : h.flags < 32) : AirHdr.of h.word = h := by
  have hcrc := crc16_lt (be 6 h.top)
  obtain ⟨typ, cls, len, seq, src, dst, flags⟩ := h
  simp only [AirHdr.of, AirHdr.word, AirHdr.mk.injEq]
  generalize crc16 _ = crc at hcrc
  simp only [AirHdr.top] at *
  refine ⟨?_, ?_, ?_, ?_, ?_, ?_, ?_⟩ <;> omega

theorem hdrOk_word (h : AirHdr) : hdrOk h.word = true := by
  have hcrc := crc16_lt (be 6 h.top)
  have hlow : h.word % 65536 = crc16 (be 6 h.top) := by rw [AirHdr.word, Nat.mul_add_mod_self_right, Nat.mod_eq_of_lt hcrc]
  have hhigh : h.word / 65536 = h.top := by rw [AirHdr.word]; omega
  rw [hdrOk, hlow, hhigh, beq_self_eq_true]

/-! ### The scrambler undoes itself (R179) -/

theorem scramble9_scramble9 : ∀ (st : Nat) (bits : List Bool), scramble9 st (scramble9 st bits) = bits
  | _, [] => rfl
  | st, x :: xs => by rw [scramble9, scramble9, scramble9_scramble9 _ xs, Bool.xor_assoc, Bool.xor_self, Bool.xor_false]

/-! ### The counter mode of CCM undoes itself (R178, R345) -/

theorem xorBytes_xorBytes : ∀ {a k : Bytes}, a.length ≤ k.length → xorBytes (xorBytes a k) k = a
  | [], _, _ => rfl
  | x :: a, y :: k, h => by
    have htail := xorBytes_xorBytes (Nat.le_of_succ_le_succ h)
    simp only [xorBytes, List.zipWith_cons_cons] at htail ⊢
    rw [htail, BitVec.xor_assoc, BitVec.xor_self, BitVec.xor_zero]

theorem xorBytes_length (a k : Bytes) : (xorBytes a k).length = min a.length k.length := List.length_zipWith

/-- A block is cut off what follows it where it is whole, or where nothing follows it. -/
theorem take_drop_block {a b : Bytes} {n : Nat} (h : a.length = n ∨ a.length ≤ n ∧ b = []) : (a ++ b).take n = a ∧ (a ++ b).drop n = b := by
  rcases h with h | ⟨h, rfl⟩
  · exact ⟨List.take_left' h, List.drop_left' h⟩
  · rw [List.append_nil]
    exact ⟨List.take_of_length_le h, List.drop_of_length_le h⟩

/-- A string under the counter mode keeps its length, and the same blocks of the cipher give it back. -/
theorem ctrAux_chunksAux (key cb : Bytes) : ∀ {f : Nat} (i : Nat) {b : Bytes}, b.length ≤ f →
    let c := ctrAux (aesSchedule key) cb i (chunksAux 16 f b)
    c.length = b.length ∧ ctrAux (aesSchedule key) cb i (chunksAux 16 f c) = b
  | 0, i, b, h => by
    rw [List.eq_nil_of_length_eq_zero (Nat.le_zero.1 h)]
    exact ⟨rfl, rfl⟩
  | f + 1, i, b, h => by
    by_cases hb : b = []
    · subst hb
      exact ⟨rfl, rfl⟩
    have hpos := List.length_pos_iff.2 hb
    obtain ⟨hrest, hback⟩ := ctrAux_chunksAux key cb (f := f) (i + 1) (b := b.drop 16) (by rw [List.length_drop]; omega)
    rw [chunksAux, if_neg hb, ctrAux]
    set rest := ctrAux (aesSchedule key) cb (i + 1) (chunksAux 16 f (b.drop 16))
    set pad := aesWith (aesSchedule key) (ctrBlock cb i)
    set first := xorBytes (b.take 16) pad with hf
    have hpad : (b.take 16).length ≤ pad.length := (List.length_take_le ..).trans (aesWith_length key _).ge
    have hfirst : first.length = min 16 b.length := by rw [hf, xorBytes_length, Nat.min_eq_left hpad, List.length_take]
    rw [List.length_drop] at hrest
    obtain ⟨htake, hdrop⟩ := take_drop_block (a := first) (b := rest) (n := 16) (by rw [← List.length_eq_zero_iff]; omega)
    have hne : first ++ rest ≠ [] := List.ne_nil_of_length_pos (by rw [List.length_append]; omega)
    refine ⟨by rw [List.length_append]; omega, ?_⟩
    rw [chunksAux, if_neg hne, ctrAux, htake, hdrop, hback, hf, xorBytes_xorBytes hpad, List.take_append_drop]

/-! ### Sealing and opening (R178) -/

section Sealing

variable (key nonce aad data : Bytes)

theorem ccmEnc_cipher_length (n : Nat) : (ccmEnc key nonce aad data n).1.length = data.length :=
  (ctrAux_chunksAux key (ccmCtr nonce 1) 0 (le_refl data.length)).1

theorem ccmEnc_tag_length {n : Nat} (hn : n ≤ 16) : (ccmEnc key nonce aad data n).2.length = n := by
  rw [ccmEnc, List.length_take, xorBytes_length, cbcMac_length, aesWith_length, Nat.min_self, Nat.min_eq_left hn]

/-- What CCM has sealed opens to its plaintext under the same key, nonce and additional data. -/
theorem ccmDec_ccmEnc {n : Nat} (hn : n ≤ 16) :
    ccmDec key nonce aad (ccmEnc key nonce aad data n).1 (ccmEnc key nonce aad data n).2 = some data := by
  have hplain : ctrAux (aesSchedule key) (ccmCtr nonce 1) 0 (chunks 16 (ccmEnc key nonce aad data n).1) = data := by
    rw [chunks, ccmEnc_cipher_length]
    exact (ctrAux_chunksAux key (ccmCtr nonce 1) 0 (le_refl data.length)).2
  rw [ccmDec, hplain, ccmEnc_tag_length key nonce aad data hn, if_pos rfl]

end Sealing

theorem sub_append {a t : Bytes} (rest : Bytes) {i n : Nat} (ha : a.length = i) (ht : t.length = n) : sub (a ++ t ++ rest) i n = t := by
  rw [sub, fit, List.append_assoc, List.drop_left' ha, List.append_assoc, List.take_left' ht]

/-- The counter is found again within 255 above the last accepted. -/
theorem nextCtr_within {last ctr : Nat} (hlo : last < ctr) (hhi : ctr ≤ last + 255) : nextCtr last (ctr % 256) = ctr := by
  rw [nextCtr]
  omega

/-- A SEQ that repeats the last accepted stands for the counter 256 above it. -/
theorem nextCtr_repeated {last seq : Nat} (h : seq = last % 256) : nextCtr last seq = last + 256 := by
  rw [nextCtr]
  omega

/-- The cipher text and the tag that the body of a sealed frame holds. -/
theorem airFrame_sealed {h : AirHdr} (key : Bytes) (fob dir ctr : Nat) {payload : Bytes} (hpoll : h.typ ≠ 4) (hreply : h.typ ≠ 5)
    (hlen : h.len = payload.length) :
    let body := (airFrame h (some key) fob dir ctr payload).body
    let c := ccmEnc key (ccmNonce fob dir ctr h.typ) (be 6 h.top) payload 8
    body.take h.len = c.1 ∧ sub body h.len 8 = c.2 := by
  intro body c
  have hbody : body = c.1 ++ c.2 ++ be 4 (crc32c (c.1 ++ c.2)) := if_neg (by rw [not_or]; exact ⟨hpoll, hreply⟩)
  have hc : c.1.length = h.len := (ccmEnc_cipher_length ..).trans hlen.symm
  rw [hbody]
  exact ⟨by rw [List.append_assoc, List.take_left' hc], sub_append _ hc (ccmEnc_tag_length _ _ _ _ (by decide))⟩

section Opening

variable {key : Bytes} {fob dir last : Nat} {r : AirRx}

theorem openSealed_replay {k : Bytes} (h : last + 255 < nextCtr last (AirHdr.of r.frame.hdr).seq) :
    openSealed (some k) fob dir last r = (.replay, last, []) := if_pos h

/-- A counter within its window whose tag passes is accepted with its plaintext. -/
theorem openSealed_ok {h : AirHdr} {ctr : Nat} {p : Bytes} (hof : AirHdr.of r.frame.hdr = h) (hctr : nextCtr last h.seq = ctr)
    (hhi : ctr ≤ last + 255)
    (hdec : ccmDec key (ccmNonce fob dir ctr h.typ) (be 6 h.top) (r.frame.body.take h.len) (sub r.frame.body h.len 8) = some p) :
    openSealed (some key) fob dir last r = (.ok, ctr, p) := by
  subst hof hctr
  rw [openSealed, if_neg (Nat.not_lt.2 hhi), hdec]

end Opening

/-- Settles O21: a header word is read back field by field, the scrambler and the counter mode are their own inverses, and SEQ gives the counter
back within its window. -/
theorem airFrameRoundTrip : Obligations.AirFrameRoundTrip := by
  refine ⟨fun h htyp hcls hlen hseq hsrc hdst hflags => ⟨AirHdr.of_word htyp hcls hlen hseq hsrc hdst hflags, hdrOk_word h⟩,
    fun seq bits => scramble9_scramble9 _ bits, ?sealed⟩
  case sealed =>
    intro h key payload fob dir last ctr endAt clip adv train pilots parity htyp hcls hlen hlt hseq hsrc hdst hflags hpoll hreply r
    have hof : AirHdr.of r.frame.hdr = h := AirHdr.of_word htyp hcls hlt (by omega) hsrc hdst hflags
    refine ⟨fun hlo hhi => ?_, rfl, fun hrep => ?_⟩
    · obtain ⟨hcipher, htag⟩ := airFrame_sealed key fob dir ctr hpoll hreply hlen
      refine openSealed_ok hof (by rw [hseq, nextCtr_within hlo hhi]) hhi ?_
      rw [hcipher, htag]
      exact ccmDec_ccmEnc _ _ _ _ (by decide)
    · refine openSealed_replay ?_
      rw [hof, nextCtr_repeated (hseq.trans hrep)]
      omega

end Sys2Proof.Machine
end

section
/-! PROOFS. The 9-bit generator and its period, the scrambler from its starting state, the interleaver's places. -/

namespace Sys2Proof.Machine

/-! ### Shift registers in arithmetic (R161, R179) -/

theorem shiftLeft_one_or (x : Nat) (b : Bool) : (x <<< 1) ||| b.toNat = x * 2 + b.toNat := by
  rw [Nat.shiftLeft_eq, Nat.pow_one, Nat.mul_comm x 2]
  exact (Nat.two_pow_add_eq_or_of_lt (i := 1) b.toNat_lt x).symm

/-- The bit a register feeds back from two of its places. -/
theorem feedback_toNat (x i j : Nat) : (x.testBit i ^^ x.testBit j).toNat = (x / 2 ^ i + x / 2 ^ j) % 2 := by
  rw [Nat.testBit_eq_decide_div_mod_eq, Nat.testBit_eq_decide_div_mod_eq, Nat.add_mod]
  rcases Nat.mod_two_eq_zero_or_one (x / 2 ^ i) with hi | hi <;> rcases Nat.mod_two_eq_zero_or_one (x / 2 ^ j) with hj | hj <;>
    rw [hi, hj] <;> rfl

/-! ### The 9-bit generator (R161) -/

/-- The state of the 9-bit generator after one output. -/
def gen9Next (x : Nat) : Nat := ((x <<< 1) &&& 0x1FF) ||| (x.testBit 8 ^^ x.testBit 4).toNat

theorem gen9_succ (n x : Nat) : gen9 (n + 1) x = x.testBit 8 :: gen9 n (gen9Next x) := by
  have hlow : (x <<< 1) &&& 0x1FF = (x % 256) <<< 1 := by
    rw [Nat.and_two_pow_sub_one_eq_mod (n := 9), Nat.shiftLeft_eq, Nat.shiftLeft_eq]
    omega
  rw [gen9, gen9Next, hlow, shiftLeft_one_or, feedback_toNat, Nat.testBit_eq_decide_div_mod_eq]
  congr 2
  omega

theorem gen9_length : ∀ n x : Nat, (gen9 n x).length = n
  | 0, _ => rfl
  | n + 1, x => by rw [gen9, List.length_cons, gen9_length n]

/-- Every output is the highest bit of the state reached so far. -/
theorem gen9_getElem? : ∀ {n i : Nat} (x : Nat), i < n → (gen9 n x)[i]? = some ((gen9Next^[i] x).testBit 8)
  | n + 1, 0, x, _ => by rw [gen9_succ]; rfl
  | n + 1, i + 1, x, h => by
    rw [gen9_succ, List.getElem?_cons_succ, gen9_getElem? _ (Nat.lt_of_succ_lt_succ h), Function.iterate_succ_apply]

theorem gen9Next_testBit (x i : Nat) :
    (gen9Next x).testBit i = if i = 0 then x.testBit 8 ^^ x.testBit 4 else decide (i < 9) && x.testBit (i - 1) := by
  rw [gen9Next, Nat.testBit_or, Nat.testBit_and, Nat.testBit_shiftLeft, Nat.testBit_two_pow_sub_one (n := 9), Nat.testBit_bool_toNat]
  cases i <;> simp [Bool.and_comm]

/-- The generator is linear, since all it does is shift and add bits. -/
theorem gen9Next_xor (x y : Nat) : gen9Next (x ^^^ y) = gen9Next x ^^^ gen9Next y := by
  refine Nat.eq_of_testBit_eq fun i => ?_
  simp only [Nat.testBit_xor, gen9Next_testBit]
  split
  · simp only [Bool.xor_assoc, Bool.xor_left_comm]
  · rw [Bool.and_xor_distrib_left]

theorem gen9Next_iterate_xor : ∀ n x y : Nat, gen9Next^[n] (x ^^^ y) = gen9Next^[n] x ^^^ gen9Next^[n] y
  | 0, _, _ => rfl
  | n + 1, x, y => by simp only [Function.iterate_succ_apply, gen9Next_xor, gen9Next_iterate_xor n]

/-- A linear map that keeps the first `k` bits one by one keeps every number made of them. -/
theorem linear_fixes {f : Nat → Nat} (hlin : ∀ x y, f (x ^^^ y) = f x ^^^ f y) :
    ∀ {k : Nat}, (∀ j < k, f (2 ^ j) = 2 ^ j) → ∀ x < 2 ^ k, f x = x
  | 0, _, x, hx => by
    rw [Nat.lt_one_iff.1 hx, ← Nat.xor_self 0, hlin, Nat.xor_self, Nat.xor_self]
  | k + 1, hbits, x, hx => by
    have ih := linear_fixes hlin (k := k) fun j hj => hbits j (Nat.lt_succ_of_lt hj)
    rcases Nat.lt_or_ge x (2 ^ k) with hlow | hhigh
    · exact ih x hlow
    · have htop : x / 2 ^ k = 1 := Nat.div_eq_of_lt_le (by omega) (by omega)
      have hrest : 2 ^ k ^^^ x < 2 ^ k :=
        Nat.lt_of_div_eq_zero (Nat.two_pow_pos k) (by rw [Nat.xor_div_two_pow, Nat.div_self (Nat.two_pow_pos k), htop, Nat.xor_self])
      have hsplit : 2 ^ k ^^^ (2 ^ k ^^^ x) = x := by rw [← Nat.xor_assoc, Nat.xor_self, Nat.zero_xor]
      calc f x = f (2 ^ k) ^^^ f (2 ^ k ^^^ x) := by rw [← hlin, hsplit]
        _ = x := by rw [hbits k (Nat.lt_succ_self k), ih _ hrest, hsplit]

/-- Every state comes back after 511 steps. -/
theorem gen9Next_period {x : Nat} (hx : x < 512) : gen9Next^[511] x = x :=
  linear_fixes (k := 9) (gen9Next_iterate_xor 511) (by decide +kernel) x hx

/-! ### The scrambler (R179) -/

theorem scramble9_length : ∀ (x : Nat) (bits : List Bool), (scramble9 x bits).length = bits.length
  | _, [] => rfl
  | x, b :: bits => by rw [scramble9, List.length_cons, List.length_cons, scramble9_length _ bits]

section Scrambler

variable {st : Nat → Nat} {s : Nat → Bool} (hs : ∀ i, s i = ((st i).testBit 14 ^^ (st i).testBit 13))
  (hst : ∀ i, st (i + 1) = ((st i <<< 1) ||| (s i).toNat) &&& 0x7FFF)

include hs hst

theorem scramble9_cons (k : Nat) (b : Bool) (bits : List Bool) :
    scramble9 (st k) (b :: bits) = (b ^^ s k) :: scramble9 (st (k + 1)) bits := by
  have hout : (st k / 16384 + st k / 8192) % 2 = (s k).toNat := (feedback_toNat (st k) 14 13).symm.trans (congrArg _ (hs k).symm)
  have hnext : (st k * 2 + (s k).toNat) % 32768 = st (k + 1) := by
    rw [hst, shiftLeft_one_or, Nat.and_two_pow_sub_one_eq_mod (n := 15)]
  rw [scramble9, hout, hnext]
  cases s k <;> rfl

/-- Every bit is sent plus the register's output at its place. -/
theorem scramble9_getElem? : ∀ {bits : List Bool} (k : Nat) {i : Nat} {x : Bool}, bits[i]? = some x →
    (scramble9 (st k) bits)[i]? = some (x ^^ s (k + i))
  | b :: bits, k, 0, x, h => by
    rw [scramble9_cons hs hst, ← Option.some.inj h]
    rfl
  | b :: bits, k, i + 1, x, h => by
    rw [scramble9_cons hs hst, List.getElem?_cons_succ, scramble9_getElem? (k + 1) (List.getElem?_cons_succ ▸ h), Nat.succ_add_eq_add_succ]

end Scrambler

/-! ### The interleaver (R181) -/

section Interleaver

variable {n i j : Nat} (hn : n ∈ [24, 96, 384])

include hn

theorem interleave_eq (j : Nat) : interleave n j = j % 8 * (n / 8) + j / 8 := if_neg (by rintro rfl; simp at hn)

theorem interleave_lt (hj : j < n) : interleave n j < n := by
  rw [interleave_eq hn]
  simp only [List.mem_cons, List.not_mem_nil, or_false] at hn
  rcases hn with rfl | rfl | rfl <;> omega

theorem interleave_inj (hi : i < n) (hj : j < n) (h : interleave n i = interleave n j) : i = j := by
  rw [interleave_eq hn, interleave_eq hn] at h
  simp only [List.mem_cons, List.not_mem_nil, or_false] at hn
  rcases hn with rfl | rfl | rfl <;> omega

/-- A coded bit stands at its place. -/
theorem interleaved_getElem? {sym : List Bool} (hsym : sym.length = n) (hj : j < n) : (interleaved n sym)[interleave n j]? = sym[j]? := by
  have hfind : (List.range n).find? (fun i => interleave n i == interleave n j) = some j := by
    refine List.find?_range_eq_some.2 ⟨beq_self_eq_true _, List.mem_range.2 hj, fun i hi => ?_⟩
    rw [Bool.not_eq_true', beq_eq_false_iff_ne]
    exact fun h => hi.ne (interleave_inj hn (hi.trans hj) hj h)
  rw [interleaved, List.getElem?_map, List.getElem?_range (interleave_lt hn hj), Option.map_some, hfind, Option.elim_some, List.getD_eq_getElem?_getD,
    List.getElem?_eq_getElem (hsym ▸ hj), Option.getD_some]

/-- Neighbouring bits lie an eighth of the symbol apart or more. -/
theorem interleaved_apart (hj : j + 1 < n) :
    n / 8 ≤ ((j % 8 * (n / 8) + j / 8 : Int) - ((j + 1) % 8 * (n / 8) + (j + 1) / 8 : Int)).natAbs := by
  simp only [List.mem_cons, List.not_mem_nil, or_false] at hn
  rcases hn with rfl | rfl | rfl <;> omega

end Interleaver

theorem interleaved_six : ∀ {sym : List Bool}, sym.length = 6 → interleaved 6 sym = sym
  | [_, _, _, _, _, _], _ => rfl

/-- Settles O58: the generator is a linear map that has every bit back after 511 steps, the scrambler and the interleaver go place by place. -/
theorem generatorScramblerInterleaver : Obligations.GeneratorScramblerInterleaver := by
  refine ⟨?generator, ⟨by decide, rfl, rfl, rfl, rfl, rfl, fun _ _ => rfl, fun _ _ _ => rfl, by decide +kernel⟩, ?scrambler, ?place,
    fun _ => interleaved_six⟩
  case generator =>
    intro seed st _ hseed h0 hst n
    have hiter : ∀ i, st i = gen9Next^[i] seed := by
      intro i
      induction i with
      | zero => exact h0
      | succ i ih => rw [hst, ← gen9Next, ih, Function.iterate_succ_apply']
    refine ⟨gen9_length n seed, fun i hi => by rw [gen9_getElem? seed hi, hiter], fun i hi => ?_⟩
    rw [gen9_getElem? seed hi, gen9_getElem? seed (by omega), Function.iterate_add_apply, gen9Next_period hseed]
  case scrambler =>
    intro f st s seq bits h0 hs hst
    have hsent : scramble seq bits = scramble9 (st 0) bits := by rw [h0]; rfl
    refine ⟨scramble seq bits, scramble9_length _ _, fun i x hx => ?_, rfl, rfl⟩
    rw [hsent, scramble9_getElem? hs hst 0 hx, Nat.zero_add]
  case place =>
    intro sym j hlen hj n
    exact ⟨interleave_eq hlen j ▸ interleaved_getElem? hlen rfl hj, interleaved_apart hlen⟩

end Sys2Proof.Machine
end

section
/-! PROOFS. The receive checks of an air frame, one after another. -/

namespace Sys2Proof.Machine

/-! ### The receive checks, each where those before it pass (Table 7-9, R186) -/

/-- A frame's body is as long as its header says and ends in its CRC-32C. -/
def bodyWhole (r : AirRx) : Prop :=
  let h := AirHdr.of r.frame.hdr
  let b := r.frame.body
  b.length = h.len + 4 + (if h.sec then 8 else 0) ∧ fieldBe b (b.length - 4) 4 = crc32c (b.take (b.length - 4))

/-- A frame to the unit, to the vehicle or to all passes the check of its address (R173). -/
theorem addressed_passes {dst me : Nat} (h : dst = me ∨ dst = 0 ∨ dst = 0xFF) : ¬ ((¬ dst = me ∧ ¬ dst = 0) ∧ ¬ dst = 0xFF) :=
  fun ⟨⟨hme, hall⟩, hany⟩ => h.elim hme fun h => h.elim hall hany

section Checks

variable {me cls : Nat} {r : AirRx}

theorem rxChecks_hdrCrc (h : hdrOk r.frame.hdr = false) : rxChecks me cls false r = .hdrCrc := by
  simp [rxChecks, h]

variable (hok : hdrOk r.frame.hdr = true)

include hok

theorem rxChecks_cls (h : (AirHdr.of r.frame.hdr).cls ≠ cls) : rxChecks me cls false r = .cls := by
  simp [rxChecks, hok, h]

variable (hcls : (AirHdr.of r.frame.hdr).cls = cls)

include hcls

theorem rxChecks_type (h : typeOk (AirHdr.of r.frame.hdr) = false) : rxChecks me cls false r = .type := by
  simp [rxChecks, hok, hcls, h]

variable (htyp : typeOk (AirHdr.of r.frame.hdr) = true)

include htyp

theorem rxChecks_notAddressed (hme : (AirHdr.of r.frame.hdr).dst ≠ me) (hall : (AirHdr.of r.frame.hdr).dst ≠ 0)
    (hany : (AirHdr.of r.frame.hdr).dst ≠ 0xFF) : rxChecks me cls false r = .notAddressed := by
  simp [rxChecks, hok, hcls, htyp, hme, hall, hany]

variable (hdst : (AirHdr.of r.frame.hdr).dst = me ∨ (AirHdr.of r.frame.hdr).dst = 0 ∨ (AirHdr.of r.frame.hdr).dst = 0xFF)

include hdst

theorem rxChecks_escort (h : r.cellOk = false) : rxChecks me cls false r = .escort := by
  simp [rxChecks, hok, hcls, htyp, addressed_passes hdst, h]

variable (hcell : r.cellOk = true)

include hcell

theorem rxChecks_lost (h : r.tracked = false) : rxChecks me cls false r = .lost := by
  simp [rxChecks, hok, hcls, htyp, addressed_passes hdst, hcell, h]

variable (htrack : r.tracked = true)

include htrack

/-- A ranging frame has no payload to check (R184). -/
theorem rxChecks_ranging (h : (AirHdr.of r.frame.hdr).typ = 4 ∨ (AirHdr.of r.frame.hdr).typ = 5) : rxChecks me cls false r = .ok := by
  simp [rxChecks, hok, hcls, htyp, addressed_passes hdst, hcell, htrack, h]

variable (hpoll : (AirHdr.of r.frame.hdr).typ ≠ 4) (hreply : (AirHdr.of r.frame.hdr).typ ≠ 5)

include hpoll hreply

theorem rxChecks_pcrc (h : ¬ bodyWhole r) : rxChecks me cls false r = .pcrc := by
  have hcrc := not_and_or.1 h
  simp [rxChecks, hok, hcls, htyp, addressed_passes hdst, hcell, htrack, hpoll, hreply, hcrc]

/-- What is left to check of a payload that has come whole: the T of a WAKE_REPLY (R184). -/
theorem rxChecks_whole (h : bodyWhole r) : rxChecks me cls false r =
    if (AirHdr.of r.frame.hdr).typ = 1 ∧ fieldBe r.frame.body 7 1 % 32 ≠ fieldBe r.frame.body 8 1 then .type else .ok := by
  have hcrc := not_or.2 ⟨not_not.2 h.1, not_not.2 h.2⟩
  simp [rxChecks, hok, hcls, htyp, addressed_passes hdst, hcell, htrack, hpoll, hreply, hcrc]

end Checks

/-- Settles O22: each check where those before it pass, in the order of Table 7-9. -/
theorem airReceiveChecks : Obligations.AirReceiveChecks := by
  refine fun me cls r => ⟨rxChecks_hdrCrc, fun hok => ⟨rxChecks_cls hok, fun hcls => ⟨rxChecks_type hok hcls, fun htyp =>
    ⟨rxChecks_notAddressed hok hcls htyp, fun hdst => ⟨rxChecks_escort hok hcls htyp hdst, rxChecks_lost hok hcls htyp hdst,
      rxChecks_ranging hok hcls htyp hdst, fun hcell htrack hpoll hreply =>
        ⟨rxChecks_pcrc hok hcls htyp hdst hcell htrack hpoll hreply, fun hwhole h1 ht => ?wakeReply, fun hwhole h1 => ?passed⟩⟩⟩⟩⟩⟩
  case wakeReply => exact (rxChecks_whole hok hcls htyp hdst hcell htrack hpoll hreply hwhole).trans (if_pos ⟨h1, ht⟩)
  case passed => exact (rxChecks_whole hok hcls htyp hdst hcell htrack hpoll hreply hwhole).trans (if_neg fun h => h1 h.1)

end Sys2Proof.Machine
end

section
/-! PROOFS. The session engine: what a frame that a lane has received does to the sessions, a notice to its counter, and what the engine's times
end. -/

namespace Sys2Proof.Machine

/-! ### A register that stays set beside the writes of others (R9) -/

/-- A word that is not 0 is found whatever is written at another address. -/
theorem regGet_regSet_set {a b : Nat} (v : Word) (hab : a ≠ b) :
    ∀ {m : List (Nat × Word)}, regGet m b ≠ 0 → regGet (regSet m a v) b = regGet m b
  | [], h => absurd rfl h
  | (c, w) :: m, h => by
    have ih := regGet_regSet_set v hab (m := m)
    rcases lt_trichotomy a c with hbefore | rfl | hafter <;> grind [regGet, regSet]

section Head

variable {s : State} {f : Fld} {a : Nat}

theorem State.rd_put_set (v : Nat) (ha : f.reg ≠ a) (h : s.rd a ≠ 0) : (s.put f v).rd a = s.rd a := regGet_regSet_set _ ha h

theorem State.rd_of_isHead (h : s.isHead = true) : s.rd Reg.SETT_STAT ≠ 0 := by
  intro h0
  rw [State.isHead, State.bit, State.get, show (Reg.SETT_STAT_HEAD).reg = Reg.SETT_STAT from rfl, h0] at h
  exact absurd h (by decide)

theorem State.isHead_put (v : Nat) (hf : f.reg ≠ Reg.SETT_STAT) (h : s.isHead = true) : (s.put f v).isHead = true := by
  rw [State.isHead, State.bit, State.get, show (Reg.SETT_STAT_HEAD).reg = Reg.SETT_STAT from rfl, State.rd_put_set v hf (State.rd_of_isHead h)]
  exact h

theorem State.setLane_isHead (n : Nat) (l : Lane) (s : State) : (s.setLane n l).isHead = s.isHead := rfl

theorem enter_isHead (e : Entry) (b : Bytes) (s : State) : (enter e b s).isHead = s.isHead := rfl

theorem State.ses_isHead (x : SesSt) (s : State) : ({ s with ses := x } : State).isHead = s.isHead := rfl

end Head

theorem laneRegs_apart (n : Nat) :
    Reg.AIR_LN_STAT n ≠ Reg.SETT_STAT ∧ Reg.AIR_LN_RXLAST n ≠ Reg.SETT_STAT ∧ Reg.AIR_LN_RXINFO n ≠ Reg.SETT_STAT := by
  simp only [Reg.AIR_LN_STAT, Reg.AIR_LN_RXLAST, Reg.AIR_LN_RXINFO, Reg.SETT_STAT]
  omega

/-- The report of a frame without error leaves a head a head: it writes registers of its lane alone (R190). -/
theorem rxReport_isHead (n cls : Nat) (r : AirRx) {s : State} (h : s.isHead = true) : (rxReport n cls r .ok s).isHead = true := by
  obtain ⟨hstat, hlast, hinfo⟩ := laneRegs_apart n
  simp only [rxReport, laneResult, reduceCtorEq, if_false]
  refine State.isHead_put _ hinfo (State.isHead_put _ hinfo (State.isHead_put _ hinfo (State.isHead_put _ hlast ((enter_isHead ..).trans ?_))))
  refine State.isHead_put _ hlast (State.isHead_put _ hlast (State.isHead_put _ hlast ((State.ses_isHead ..).trans ?_)))
  exact State.isHead_put _ hstat ((State.setLane_isHead ..).trans h)

/-! ### Frames received (R186, R188, R227, R228, R230) -/

section Received

variable {n cls : Nat} {r : AirRx} {h : AirHdr} {st : RxStatus} {s : State}

theorem relayed_none (hno : st ≠ .ok ∨ h.dst ≠ 0 ∨ s.isHead = true) : relayed n cls h st r s = none :=
  if_neg fun ⟨hst, hdst, hhead⟩ => hno.elim (· hst) fun hno => hno.elim (· hdst) fun hd => hhead (.inl hd)

theorem relayed_satellite (hd : s.isHead = false) (ha : s.isActing = false) (hdst : h.dst = 0) :
    relayed n cls h .ok r s = some (relayStore r.frame (rxReport n cls r .ok s)) :=
  if_pos ⟨rfl, hdst, by simp only [hd, ha, Bool.false_eq_true, or_self, not_false_eq_true]⟩

theorem exec_wakeReply_head (hf : frameAt n 1 false r s = some (cls, h, .ok)) (hd : s.isHead = true) :
    let t := rxReport n cls r .ok s
    exec (.wakeReply n r) s = .next (replyDelivered t.unitNum n cls h.src (plainPayload r) t) := by
  change execWakeReply n r s = _
  simp only [execWakeReply, hf, relayed_none (.inr (.inr hd)), rxReport_isHead n cls r hd, true_or, and_self, if_true]

theorem exec_wakeReply_satellite (hf : frameAt n 1 false r s = some (cls, h, .ok)) (hd : s.isHead = false) (ha : s.isActing = false)
    (hdst : h.dst = 0) : exec (.wakeReply n r) s = .next (relayStore r.frame (rxReport n cls r .ok s)) := by
  change execWakeReply n r s = _
  simp only [execWakeReply, hf, relayed_satellite hd ha hdst]

theorem exec_wakeReply_failed (hf : frameAt n 1 false r s = some (cls, h, st)) (hst : st ≠ .ok) :
    exec (.wakeReply n r) s = .next (rxReport n cls r st s) := by
  change execWakeReply n r s = _
  simp only [execWakeReply, hf, relayed_none (.inl hst), hst, false_and, if_false]

theorem exec_airResponse_failed (hf : frameAt n 3 false r s = some (cls, h, st)) (hst : st ≠ .ok) :
    exec (.airResponse n r) s = .next (rxReport n cls r st s) := by
  change execAirResponse n r s = _
  cases st <;> simp_all only [execAirResponse, ne_eq, not_true_eq_false]

theorem exec_ackFrame (hf : frameAt n 9 false r s = some (cls, h, st)) (hno : st ≠ .ok ∨ h.dst ≠ 0 ∨ s.isHead = true) :
    exec (.ackFrame n r) s = .next (rxReport n cls r st s) := by
  change execAckFrame n r s = _
  simp only [execAckFrame, hf, relayed_none hno, Option.getD_none]

/-- R228: the RESPONSE to the challenge of a session of this lane is judged by its proof. -/
theorem exec_airResponse_judged {t : State} {p : Bytes} {x : Session} {f : FobRec} {kf : Bytes}
    (hf : frameAt n 3 false r s = some (cls, h, .ok)) (ht : t = rxReport n cls r .ok s) (hp : p = plainPayload r)
    (hx : t.sessionOf (h.src - 0x40) = some x) (hsrc : 0x40 ≤ h.src) (hlane : x.lane = n) (hauth : x.authed = false) (hch : x.challenges ≠ 0)
    (hid : fieldBe p 0 4 = x.fobId) (hfob : t.activeFob (h.src - 0x40) = some f) (hkf : t.kf f.fobId f.gen = some kf) :
    exec (.airResponse n r) s = if sub p 4 16 = proofOf kf x.fobId t.vehicle x.nu x.nf x.grade x.stitch
      then .next (authenticated (h.src - 0x40) kf t) else .next (sesKick (strike (h.src - 0x40) 2 t)) := by
  subst ht hp
  change execAirResponse n r s = _
  simp only [execAirResponse, hf, hx, Nat.not_lt.2 hsrc, hlane, hauth, hch, hid, hfob, hkf, Option.bind_some, ne_eq, not_true_eq_false,
    Bool.false_eq_true, or_self, if_false]

/-- R225: a sealed SERVICE frame of an authenticated session advances its counter and is acknowledged where it asks. -/
theorem exec_serviceFrame_session {x : Session} {ctr : Nat} {p : Bytes} (hf : frameAt n 10 false r s = some (cls, h, .ok)) (hd : s.isHead = true)
    (he : s.ses.enrol = none) (hx : s.sessionOf (h.src - 0x40) = some x) (hauth : x.authed = true)
    (hopen : openSealed (some (s.volKey (h.src - 0x40) .kS)) x.fobId 1 x.rxCtr r = (.ok, ctr, p)) :
    exec (.serviceFrame n r) s = .next (modifySession (h.src - 0x40) (fun y => { y with rxCtr := ctr, lastAt := s.now })
      (sendAck n cls h r.endAt (rxReport n cls r .ok s))) := by
  change execServiceFrame n r s = _
  simp only [execServiceFrame, hf, relayed_none (.inr (.inr hd)), he, hx, hauth, hopen, ne_eq, not_true_eq_false, if_false, Option.isSome_none,
    Bool.false_eq_true, if_true]

theorem exec_serviceFrame_enrolled {e : Enrol} {ctr : Nat} {p : Bytes} (hf : frameAt n 10 false r s = some (cls, h, .ok)) (hd : s.isHead = true)
    (he : s.ses.enrol = some e) (hx : s.sessionOf (h.src - 0x40) = none) (hopen : openSealed (some e.ktp) e.fobId 1 0 r = (.ok, ctr, p)) :
    exec (.serviceFrame n r) s = .next (enrolled e h.src p (sendAck n cls h r.endAt (rxReport n cls r .ok s))) := by
  change execServiceFrame n r s = _
  simp only [execServiceFrame, hf, relayed_none (.inr (.inr hd)), he, hx, hopen, ne_eq, not_true_eq_false, if_false, Option.isSome_none,
    Bool.false_eq_true]

/-! ### Notices (R242) -/

section Notice

variable {f : FobRec} {kf : Bytes} (hf : frameAt n 8 false r s = some (cls, h, .ok)) (hd : s.isHead = true) (hp : s.profile ≠ 0)
  (hfob : s.activeFob (h.src - 0x40) = some f) (hkf : s.kf f.fobId f.gen = some kf)

include hf hd hp hfob hkf

theorem exec_noticeFrame_unopened (hopen : openNotice (kNotice kf f.fobId) f.fobId (s.noticeOf (h.src - 0x40)).nctr r = none) :
    exec (.noticeFrame n r) s = .next (rxStrike h.src .replay (rxReport n cls r .replay s)) := by
  change execNoticeFrame n r s = _
  simp only [execNoticeFrame, hf, relayed_none (.inr (.inr hd)), hd, hp, hfob, hkf, hopen, ne_eq, not_true_eq_false, if_false, Option.isSome_none,
    Bool.false_eq_true, true_or, or_self]

/-- A notice that is no repeat is acknowledged, held in the volatile counter, and its counter committed. -/
theorem exec_noticeFrame_committed {ctr : Nat} {p : Bytes} {u : State}
    (hopen : openNotice (kNotice kf f.fobId) f.fobId (s.noticeOf (h.src - 0x40)).nctr r = some (ctr, p)) (hretry : h.retry = false)
    (hcommit : fobCommit .p0 (h.src - 0x40) { f with nctr := ctr }.bytes (.notice (h.src - 0x40))
      (setNotice { s.noticeOf (h.src - 0x40) with
          nctr := ctr, buttons := fieldBe p 0 1 % 4, at_ := s.now, wait := some (fieldBe p 0 1 % 4, sub r.frame.body h.len 8, n, cls) }
        (sendAck n cls h r.endAt (rxReport n cls r .ok s))) = (.taken, u)) : exec (.noticeFrame n r) s = .next u := by
  change execNoticeFrame n r s = _
  simp only [execNoticeFrame, hf, relayed_none (.inr (.inr hd)), hd, hp, hfob, hkf, hopen, hretry, hcommit, ne_eq, not_true_eq_false, if_false,
    Option.isSome_none, Bool.false_eq_true, true_or, or_self, false_and]

end Notice

end Received

section Committed

variable {record n cls : Nat} {mic : Bytes} {f : FobRec} {s : State} (hfob : s.activeFob record = some f)

include hfob

theorem exec_nctrCommitDone_locks (hw : (s.noticeOf record).wait = some (1, mic, n, cls))
    (hc : fieldBe (memGetN s.nv.mem (fobOffset record) 32) 16 4 = (s.noticeOf record).nctr) :
    exec (.nctrCommitDone record) s = .next (remoteLock record f (setNotice { s.noticeOf record with wait := none } s)) := by
  change execNctrCommitDone record s = _
  simp only [execNctrCommitDone, hw, hfob, hc, ne_eq, not_true_eq_false, if_false]
  rfl

theorem exec_nctrCommitDone_waits {buttons : Nat} (hw : (s.noticeOf record).wait = some (buttons, mic, n, cls))
    (hc : fieldBe (memGetN s.nv.mem (fobOffset record) 32) 16 4 ≠ (s.noticeOf record).nctr) :
    exec (.nctrCommitDone record) s = .next s := by
  change execNctrCommitDone record s = _
  simp only [execNctrCommitDone, hw, hfob, hc, ne_eq, not_false_eq_true, if_true]

end Committed

/-! ### Triggers and windows (R119, R226 to R228) -/

section Times

variable {s : State}

theorem exec_sessionTrigger_serves {i : QItem} {g : Trigger} {t : State} (hp : s.profile ≠ 7) (hd : s.isHead = true) (hl : s.ses.ss.length < 4)
    (hn : nextTrigger s = some (i, t)) (hw : i.work = .trigger g) : exec .sessionTrigger s = .next (serveTrigger g i.at_ t) := by
  change execSessionTrigger s = _
  simp only [execSessionTrigger, hp, hd, Nat.not_le.2 hl, hn, hw, true_or, not_true_eq_false, or_self, if_false]

theorem exec_sessionTrigger_waits (hl : 4 ≤ s.ses.ss.length) : exec .sessionTrigger s = .next s := if_pos (.inr (.inr hl))

theorem exec_replyWindowClose {r : TrigRun} (hr : s.ses.runs.find? (fun r => r.windowAt.any (fun t => s.after t 4300)) = some r) :
    exec .replyWindowClose s =
      let t := modifyRun r.id (fun r => { r with windowAt := none }) s
      if r.todo ≠ [] then .next (runNext r.id t) else if r.opened then .next (judgeAll t) else .next (wakeOver { r with windowAt := none } t) := by
  change execReplyWindowClose s = _
  simp only [execReplyWindowClose, hr]

theorem exec_responseTimeout {record : Nat} {x : Session} (hx : s.sessionOf record = some x) (ha : x.authed = false)
    (hp : (s.lane x.lane).pend = none) (he : (s.lane x.lane).txEnd = none)
    (hafter : s.after x.sentAt (frameUnits 2 x.cls 24 false * 625 / 1000 + 400) = true) (hc : x.challenges ≠ 0) :
    exec (.responseTimeout record) s = if x.challenges = 1 then .next (sendChallenge x s) else .next (sesKick (sessionEnd record 2 s)) := by
  change execResponseTimeout record s = _
  simp only [execResponseTimeout, hx, ha, hp, he, hafter, hc, Option.isSome_none, Bool.false_eq_true, not_true_eq_false, or_self, if_false]

theorem exec_sessionTimeout {record : Nat} {x : Session} (hx : s.sessionOf record = some x) :
    exec (.sessionTimeout record) s = if s.after x.lastAt 10000000
      then .next (sesKick (sessionEnd record (if x.authed then 4 else 2) s)) else .next s := by
  change execSessionTimeout record s = _
  simp only [execSessionTimeout, hx]

/-! ### Bars, trackers, enrolment, the ignition window, a satellite's LF frame (R225, R230, R231, R239, R244) -/

/-- The bar of a fob goes once its 60 s are over; those of others stay. -/
theorem exec_barExpiry_leaves (record : Nat) (s : State) : ∃ t, exec (.barExpiry record) s = .next t ∧
    (∀ b ∈ t.ses.bars, b.1 = record → s.after b.2 60000000 = false) ∧ (∀ b ∈ s.ses.bars, b.1 ≠ record → b ∈ t.ses.bars) ∧ t.regs = s.regs := by
  refine ⟨_, rfl, fun b hb hr => ?_, fun b hb hr => ?_, rfl⟩
  · have hkept := (List.mem_filter.1 hb).2
    simpa only [hr, beq_self_eq_true, Bool.true_and, Bool.not_eq_true'] using hkept
  · refine List.mem_filter.2 ⟨hb, ?_⟩
    rw [beq_false_of_ne hr, Bool.false_and, Bool.not_false]

theorem exec_trackerStale_old {record : Nat} {i : Image} (hi : s.img.run = some i) (hh : (s.tracker record).st = .held)
    (hold : i.fobpol.stale * 1000 * 4194304 < (s.now - (s.tracker record).at_) * 1000000) :
    exec (.trackerStale record) s = .next (setTracker record { s.tracker record with st := .stale, staleAt := s.now } s) := by
  change execTrackerStale record s = _
  simp only [execTrackerStale, hi, hh, hold, Option.map_some, Option.getD_some, and_self, if_true]

theorem exec_trackerForget_old {record : Nat} (hst : (s.tracker record).st = .stale) (hold : s.after (s.tracker record).staleAt 60000000 = true) :
    exec (.trackerForget record) s = .next (setTracker record Tracker.init s) := if_pos ⟨hst, hold⟩

theorem exec_enrolTimeout_late {e : Enrol} (he : s.ses.enrol = some e) (hafter : s.after e.at_ 500000 = true) :
    exec .enrolTimeout s = .next (laneFree 1 (laneFree 0 (routineFail 0x72 { s with ses := { s.ses with enrol := none } }))) := by
  change execEnrolTimeout s = _
  simp only [execEnrolTimeout, he, hafter, if_true]

theorem exec_ignitionWindowExpiry {at_ : Nat} (hw : s.lines.ignWindow = some at_) (hi : s.lines.ignition = false) :
    exec .ignitionWindowExpiry s = if s.after at_ 30000000 then .next (latchClear s) else .next s := by
  change execIgnitionWindowExpiry s = _
  simp only [execIgnitionWindowExpiry, hw, hi, true_and]

theorem exec_sesLfrunGo_requests {p : PollE} (hgo : s.bit Reg.SES_LFRUN_GO = true) (hruns : s.lf.runs = []) (hbad : s.lf.bad = [])
    (hat : (s.chron.count.toNat + 2 ^ 32 - s.get Reg.SES_LFAT_V) % 2 ^ 32 < 2 ^ 31) (hp : s.pollE (s.get Reg.SES_LFRUN_ENTRY) = some p) :
    exec .sesLfrunGo s = .next (lfRequest (s.lfReq (.lfrun (s.get Reg.SES_LFRUN_ENTRY)) p) s) := by
  change execSesLfrunGo s = _
  simp only [execSesLfrunGo, hgo, hruns, hbad, hp, Nat.not_le.2 hat, Bool.true_eq_false, List.any_nil, List.contains_nil, Bool.false_eq_true,
    or_self, if_false]

end Times

/-- Settles O25: each frame and each time by the equation of its case. -/
theorem sessionReceptionAndTimes : Obligations.SessionReceptionAndTimes := by
  refine ⟨⟨fun _ _ _ _ _ hf => ⟨exec_wakeReply_head hf, exec_wakeReply_satellite hf⟩,
      fun _ _ _ _ _ _ hst => ⟨fun hf => exec_wakeReply_failed hf hst, fun hf => exec_airResponse_failed hf hst⟩, ?response,
      fun _ _ _ _ _ _ => exec_ackFrame, fun _ _ _ _ _ _ _ _ => exec_serviceFrame_session, fun _ _ _ _ _ _ _ _ => exec_serviceFrame_enrolled,
      ?notice, fun _ _ _ _ _ _ hw hfob => ⟨exec_nctrCommitDone_locks hfob hw, exec_nctrCommitDone_waits hfob hw⟩⟩,
    fun _ _ _ _ => exec_sessionTrigger_serves, fun _ => exec_sessionTrigger_waits, ?window, ?challenge, ?session, exec_barExpiry_leaves,
    fun _ _ _ => exec_trackerStale_old, fun _ _ => exec_trackerForget_old, fun _ _ => exec_enrolTimeout_late, ?ignition,
    fun _ _ => exec_sesLfrunGo_requests⟩
  case response =>
    intro n r cls h x f kf s hf t p hx hsrc hlane hauth hch hid hfob hkf
    rw [exec_airResponse_judged hf rfl rfl hx hsrc hlane hauth hch hid hfob hkf]
    exact ⟨fun hproof => if_pos hproof, fun hproof => if_neg hproof⟩
  case notice =>
    intro n r cls ctr h f kf p s u hf v t w hd hp hfob hkf
    exact ⟨exec_noticeFrame_unopened hf hd hp hfob hkf, exec_noticeFrame_committed hf hd hp hfob hkf⟩
  case window =>
    intro r s hr t
    rw [exec_replyWindowClose hr]
    exact ⟨fun htodo => if_pos htodo, fun htodo ho => (if_neg (not_not.2 htodo)).trans (if_pos ho),
      fun htodo ho => (if_neg (not_not.2 htodo)).trans (if_neg (ne_true_of_eq_false ho))⟩
  case challenge =>
    intro record x s hx ha hp he hafter
    refine ⟨fun hc => ?_, fun hc => ?_⟩ <;> rw [exec_responseTimeout hx ha hp he hafter (by omega)]
    · exact if_pos hc
    · exact if_neg (by omega)
  case session =>
    intro record x s hx
    rw [exec_sessionTimeout hx]
    exact ⟨fun hover => if_pos hover, fun hleft => if_neg (ne_true_of_eq_false hleft)⟩
  case ignition =>
    intro at_ s hw hi
    rw [exec_ignitionWindowExpiry hw hi]
    exact ⟨fun hover => if_pos hover, fun hleft => if_neg (ne_true_of_eq_false hleft)⟩

end Sys2Proof.Machine
end

section
/-! PROOFS. Ranging: what an accepted exchange has passed, and how an exchange begins, goes on and ends. -/

namespace Sys2Proof.Machine

/-! ### The checks of R208 in their order -/

/-- A check that rejects with a result of its own passes exactly where its condition is false, and the checks after it decide. -/
theorem check_passes_iff {c : Prop} [Decidable c] {r : FoxResult} (e : FoxResult) (he : e ≠ .ok := by decide) :
    (if c then e else r) = .ok ↔ ¬ c ∧ r = .ok := by
  split
  next hc => exact ⟨fun h => absurd h he, fun ⟨hnot, _⟩ => absurd hc hnot⟩
  next hc => exact (and_iff_right hc).symm

/-- A status that is neither that of an inconsistent fob (R204) nor another failure is OK. -/
theorem status_ok_iff {status : Nat} {p : Prop} : ¬ status = 1 ∧ status = 0 ∧ p ↔ status = 0 ∧ p :=
  and_iff_right_of_imp fun ⟨h0, _⟩ => h0 ▸ zero_ne_one

/-- Settles O23: each of the eleven checks passes exactly where its condition is false. -/
theorem foxAcceptsExactly : Obligations.FoxAcceptsExactly := by
  intro ex rep c sm
  rw [foxChecks, check_passes_iff .report, check_passes_iff .rangeInconsistent, check_passes_iff .report, check_passes_iff .rangeInconsistent,
    check_passes_iff .lowQuality, check_passes_iff .turnaround, check_passes_iff .clockMismatch, check_passes_iff .outOfRange,
    check_passes_iff .passInconsistent, check_passes_iff .stitchBreak, check_passes_iff .aoaInconsistent]
  simp only [status_ok_iff, List.any_eq_true, decide_eq_true_eq, not_exists, not_or, not_and, not_lt, not_not, ne_eq, imp_and, and_assoc, and_true]

/-! ### The lanes and exchanges that a unit has places for -/

/-- How many exchanges and how many lanes the state has places for. -/
def State.places (s : State) : Nat × Nat := (s.fox.ex.length, s.air.lanes.length)

section Places

variable {s : State}

@[simp] theorem State.put_places (f : Fld) (v : Nat) : (s.put f v).places = s.places := rfl
@[simp] theorem State.setBit_places (f : Fld) (b : Bool) : (s.setBit f b).places = s.places := rfl
@[simp] theorem State.setBitAt_places (f : Fld) (i : Nat) : (s.setBitAt f i).places = s.places := rfl
@[simp] theorem State.setDom_places (d : Dom) (on : Bool) : (s.setDom d on).places = s.places := by cases on <;> rfl

@[simp] theorem State.setLane_places (n : Nat) (l : Lane) : (s.setLane n l).places = s.places :=
  congrArg (s.fox.ex.length, ·) (State.setLane_lanes_length l)

theorem OnlyQueues.places {r t : State} (h : OnlyQueues r t) : t.places = r.places := by
  obtain ⟨_, _, _, _, _, _, _, _, _, _, rfl⟩ := h
  rfl

theorem p0Fault_onlyQueues {r : State} {q : QueueId} {cls : Cls} {x : Admit × State} (h : OnlyQueues r x.2) : OnlyQueues r (p0Fault q cls x).2 := by
  unfold p0Fault
  split <;> have ht := h.snd rfl
  · split
    exacts [raise_onlyQueues ht _ _, ht]
  exacts [ht, ht, ht]

@[simp] theorem settSend_places (typ : Nat) (bc : Bool) (dst : Nat) (cls : Cls) (p : Bytes) : (settSend typ bc dst cls p s).places = s.places :=
  (p0Fault_onlyQueues (settCore_onlyQueues (.refl s) ..)).places

@[simp] theorem sendPlan_places (q1 lane lead grade : Nat) (x : Session) : (sendPlan q1 lane lead grade x s).places = s.places := by
  dsimp only [sendPlan]
  split
  exacts [rfl, settSend_places ..]

@[simp] theorem laneMove_places (n c : Nat) : (laneMove n c s).places = s.places := by
  unfold laneMove
  extract_lets lead d cold domain moved
  split
  · rfl
  · simp only [moved, domain, State.setLane_places, State.put_places, State.setBit_places, apply_ite State.places, State.setDom_places, ite_self]

@[simp] theorem laneHold_places (n : Nat) (cls : Cls) (c : Nat) : (laneHold n cls c s).places = s.places := by
  simp [laneHold, apply_ite State.places]

@[simp] theorem laneListenFrom_places (n from_ : Nat) (until_ : Option Nat) : (laneListenFrom n from_ until_ s).places = s.places := by
  simp [laneListenFrom, apply_ite State.places]

@[simp] theorem listenPass_places (n chan start : Nat) (cls : Option Nat) : (listenPass n chan start cls s).places = s.places := by
  simp [listenPass]

@[simp] theorem setOh_some_places (n : Nat) (o : Overhear) : (setOh n (some o) s).places = s.places := rfl

@[simp] theorem listenSecond_places (n start : Nat) (p : Plan) : (listenSecond n p start s).places = s.places := by
  unfold listenSecond
  extract_lets m
  split
  · rfl
  · split
    · rfl
    · simp [apply_ite State.places]

end Places

/-! ### A poll that its lane takes (R195, R196) -/

section Poll

variable {n : Nat} {s : State}

theorem laneResult_fox (r : LaneResult) : (laneResult n r s).fox = s.fox := by cases r <;> rfl

/-- A command that its lane takes waits there with its frame's symbols and its start; no exchange changes. -/
theorem laneTx_taken {c : TxCmd} {u : State} (hlen : n < s.air.lanes.length) (ht : laneTx n c s = (true, u)) :
    u.fox = s.fox ∧ ∃ d, (u.lane n).pend = some d ∧ d.range = c.range ∧ d.start = c.start := by
  unfold laneTx at ht
  extract_lets late l h ack d detected ends first t at ht
  have hpend : (t.lane n).pend = some d := congrArg Lane.pend (State.setLane_lane _ hlen)
  split_ifs at ht
  · cases congrArg Prod.fst ht
  · cases congrArg Prod.fst ht
  · obtain ⟨-, rfl⟩ := Prod.mk.inj ht
    exact ⟨laneResult_fox _, d, by rw [laneResult_lane, State.put_lane, hpend], rfl, rfl⟩
  · obtain ⟨-, rfl⟩ := Prod.mk.inj ht
    exact ⟨rfl, d, hpend, rfl, rfl⟩

theorem setEx_some_exOn (ex : Exch) (hlen : n < s.fox.ex.length) : (setEx n (some ex) s).exOn n = some ex := by
  simp [setEx, State.exOn, hlen]

/-- The poll that a lane takes carries the symbols of the exchange's pass, and the exchange is the lane's (R195, R196). -/
theorem sendPoll_taken {ex : Exch} {start : Nat} {u : State} (hn : n < 2) (hp : s.places = (2, 2)) (ht : sendPoll n ex start s = (true, u)) :
    u.exOn n = some { ex with sentAt := s.now } ∧
    ∃ c, (u.lane n).pend = some c ∧ c.range = some (ex.seed, ex.pass + 1) ∧ c.start.isSome = true := by
  unfold sendPoll at ht
  extract_lets session number aer frame cmd at ht
  obtain ⟨hex, hlanes⟩ := Prod.mk.inj ((laneMove_places (s := s) n (passChannel ex.stitch ex.pass)).trans hp)
  have hlen : n < (setEx n (some { ex with sentAt := s.now }) (laneMove n (passChannel ex.stitch ex.pass) s)).air.lanes.length :=
    hn.trans_eq hlanes.symm
  obtain ⟨hfox, c, hpend, hrange, hstart⟩ := laneTx_taken hlen ht
  refine ⟨?_, c, hpend, hrange, by rw [hstart, Option.isSome_some]⟩
  rw [State.exOn, hfox]
  exact setEx_some_exOn _ (hn.trans_eq hex.symm)

/-- An exchange that starts carries the next poll number of its session, no poll yet and a seed of its own (R191, R195). -/
theorem exchangeStart_taken {x : Session} {u : State} (hn : n < 2) (hp : s.places = (2, 2)) (ht : exchangeStart n x none s = (true, u)) :
    ∃ ex c, u.exOn n = some ex ∧ ex.q1 = x.polls + 1 ∧ ex.record = x.record ∧ ex.pass = 0 ∧ ex.polls = [] ∧
      ex.seed = exchangeSeed (s.volKey x.record .kR) x.fobId (x.polls + 1) ∧
      (u.lane n).pend = some c ∧ c.range = some (ex.seed, 1) ∧ c.start.isSome = true := by
  unfold exchangeStart at ht
  extract_lets q1 seed noAoa grade first one planned plan listening ex lane at ht
  have hplanned : planned.places = s.places := by
    rw [show planned = if grade = 2 then _ else one from rfl]
    split
    exacts [(sendPlan_places ..).trans (sendPlan_places ..), sendPlan_places ..]
  have hlistening : listening.places = s.places := (listenSecond_places ..).trans hplanned
  obtain ⟨hex, c, hpend, hrange, hstart⟩ := sendPoll_taken hn (((State.setLane_places ..).trans hlistening).trans hp) ht
  exact ⟨_, c, hex, rfl, rfl, rfl, rfl, rfl, hpend, hrange, hstart⟩

end Poll
/-! ### An exchange from its start to its end (R191, R199, R201, R213 to R220) -/

/-- An exchange after the reply of its pass, on the aerial of its first (R199, R200). -/
def Exch.replied (ex : Exch) (m : RangeMeas) (aer : Nat) : Exch :=
  { ex with replies := ex.replies ++ [m], pass := ex.pass + 1, aerial := some (ex.aerial.getD aer) }

section Exchanges

variable {record n cls mismatches : Nat} {r : AirRx} {m : RangeRx} {st : RxStatus} {h : AirHdr} {x : Session} {ex : Exch} {o : Overhear} {s : State}

theorem exec_rangingExchange_content (hx : s.sessionOf record = some x) (hw : s.wantsFix x = false) :
    exec (.rangingExchange record) s = .next s := by
  change execRangingExchange record s = _
  simp only [execRangingExchange, hx, hw, if_true]

theorem exchangeBegin_taken {at_ : Option Nat} {u : State} (hn : n = x.lane ∨ (s.lane n).held.isSome = true)
    (ht : exchangeStart n x at_ s = (true, u)) : exchangeBegin n x at_ s = u := by
  simp only [exchangeBegin, hn, if_true, ht]

theorem exec_rangingExchange_starts (hx : s.sessionOf record = some x) (hw : s.wantsFix x = true) (hi : s.isIsolated .fox = false)
    (hl : s.exchangeLane x false = x.lane) (he : s.exOn x.lane = none) (hp : (s.lane x.lane).pend = none)
    {u : State} (ht : exchangeStart x.lane x none s = (true, u)) : exec (.rangingExchange record) s = .next u := by
  change execRangingExchange record s = _
  simp only [execRangingExchange, hx, hw, hi, hl, he, hp, Option.isSome_none, Bool.false_eq_true, Bool.true_eq_false, or_self, if_false,
    exchangeBegin_taken (.inl rfl) ht]

theorem exec_guardSecondExchange_begins {g : GuardWait} (hg : s.fox.pair.find? (fun g => g.record == record) = some g)
    (hx : s.sessionOf record = some x) (hfree : [0, 1].any (fun n => (s.exOn n).any (fun e => e.record == record)) = false) :
    exec (.guardSecondExchange record) s =
      .next (exchangeBegin (s.exchangeLane { x with lane := g.lane } true) x (some (airAdd g.at_ (airTenths 500))) s) := by
  change execGuardSecondExchange record s = _
  simp only [execGuardSecondExchange, hg, hx, hfree, Bool.false_eq_true, if_false]

theorem exec_rangePoll_own (ho : s.ohOn n = some o) (hf : frameAt n 4 true r s = some (cls, h, .ok)) (hlen : o.polls.length = o.replies.length)
    (hcls : o.cls.getD cls = cls) (hown : o.own = true) : exec (.rangePoll n r m) s = .next (setOh n (some { o with
      polls := o.polls ++ [s.rangeMeas n o.plan.seed (o.replies.length + 1) 4 false r m], cls := some cls }) (rxReport n cls r .ok s)) := by
  change execRangePoll n r m s = _
  simp only [execRangePoll, ho, hf, hlen, hcls, hown, Bool.true_eq_false, and_false, and_self, if_true, if_false]

theorem exec_rangeReply_passOver (he : s.exOn n = some ex) (hf : exchangeFrame n 5 ex r s = some (cls, h, .ok)) (hfin : ex.finalAt = none) :
    exec (.rangeReply n r m) s = .next
      (passOver n ex (s.rangeMeas n ex.seed (ex.pass + 1) 5 (ex.grade == 2) r m) (rxReport n cls r .ok s)) := by
  change execRangeReply n r m s = _
  simp only [execRangeReply, he, hf, hfin, Option.isNone_none, and_self, if_true]

theorem exec_rangeReply_listened (he : s.exOn n = none) (ho : s.ohOn n = some o) (hf : frameAt n 5 true r s = some (cls, h, .ok))
    (hlen : o.replies.length < o.polls.length) (hcls : o.cls = some cls) : exec (.rangeReply n r m) s = .next (listenNext n { o with
      replies := o.replies ++ [s.rangeMeas n o.plan.seed (o.replies.length + 1) 5 false r m] } (rxReport n cls r .ok s)) := by
  change execRangeReply n r m s = _
  simp only [execRangeReply, he, ho, hf, hlen, hcls, and_self, if_true]

theorem passOver_polls {reply : RangeMeas} {u : State} (hpass : ex.pass + 1 < passesOf ex.grade)
    (ht : sendPoll n (ex.replied reply (s.get (Reg.AIR_LN_STAT_AER n))) (airAdd (replyEnd ex.cls reply) (airTenths 250)) s = (true, u)) :
    passOver n ex reply s = u := by
  dsimp only [Exch.replied] at ht
  simp only [passOver, if_pos hpass, ht]

theorem passOver_finishes {reply : RangeMeas} {u : State} (hpass : passesOf ex.grade ≤ ex.pass + 1)
    (ht : sendFinal n (ex.replied reply (s.get (Reg.AIR_LN_STAT_AER n))) (airAdd (replyEnd ex.cls reply) (airTenths 200)) s = (true, u)) :
    passOver n ex reply s = u := by
  dsimp only [Exch.replied] at ht
  simp only [passOver, if_neg (Nat.not_lt.2 hpass), ht]

theorem exchangeJudge_eq {rep : RangeRep} {endAt : Nat} (hspan : airDiff rep.finalAt (rep.polls.headD 0) ≠ 0) :
    let c := foxCalc ex rep s.freeCtr
    let sm := stitchMeas ex c (s.aerialPair n)
    exchangeJudge n ex rep endAt s = if foxChecks ex rep c sm = .ok then foxOk n ex rep c sm endAt s
      else foxFailed n ex (foxChecks ex rep c sm) (foxQual n ex rep s) := by
  intro c sm
  simp only [exchangeJudge, hspan, if_false]
  split
  next hok => exact (if_pos hok).symm
  next hno => exact (if_neg hno).symm

theorem exec_rangeReport_opened {ctr : Nat} {p : Bytes} (he : s.exOn n = some ex) (hf : exchangeFrame n 7 ex r s = some (cls, h, .ok))
    (hx : s.sessionOf ex.record = some x) (hfin : ex.finalAt.isSome = true)
    (hopen : openSealed (some (s.volKey x.record .kS)) x.fobId 1 x.rxCtr r = (.ok, ctr, p)) :
    exec (.rangeReport n r mismatches) s =
      let t := rxReport n cls r .ok (modifySession ex.record (fun y => { y with rxCtr := ctr, lastAt := s.now }) s)
      let u := if mismatches = 0 then t else recomputes .fox t
      if 2 < mismatches then .next (foxEscort n ex u) else .next (exchangeJudge n ex (RangeRep.of p) r.endAt u) := by
  have hsent : ex.finalAt.isNone = false := by rw [Option.isNone_eq_false_iff, hfin]
  change execRangeReport n r mismatches s = _
  simp only [execRangeReport, he, hf, hx, hsent, hopen, ne_eq, not_true_eq_false, Bool.false_eq_true, or_self, if_false]

theorem exec_rangeReplyTimeout_silent (he : s.exOn n = some ex) (hs : exchangeSilent n ex s = true) (hfin : ex.finalAt = none) :
    exec (.rangeReplyTimeout n) s = .next (foxFailed n ex .noReply s) := by
  change execRangeReplyTimeout n s = _
  simp only [execRangeReplyTimeout, he, hs, hfin, Option.isNone_none, and_self, if_true]

theorem exec_rangeReportTimeout_silent (he : s.exOn n = some ex) (hs : exchangeSilent n ex s = true) (hfin : ex.finalAt.isSome = true) :
    exec (.rangeReportTimeout n) s = .next (foxFailed n ex .noReport s) := by
  change execRangeReportTimeout n s = _
  simp only [execRangeReportTimeout, he, hs, hfin, and_self, if_true]

theorem exec_overhearExchangeEnd_reports (ho : s.ohOn n = some o) (hown : o.own = false) (hlen : passesOf o.plan.grade ≤ o.replies.length) :
    exec (.overhearExchangeEnd n) s =
      let t := settSend 0x0F false 1 .p0 (listenReport n o) (setOh n none (listenRes n o s))
      .next (laneFree n (planOver o.plan.exch (t.setLane n { t.lane n with rx := none, wantRx := none }))) := by
  change execOverhearExchangeEnd n s = _
  simp only [execOverhearExchangeEnd, ho, hown, Nat.not_lt.2 hlen, Bool.false_eq_true, false_and, or_self, if_false]

end Exchanges

/-- Settles O24: each clause by the equation of its case. -/
theorem foxExchange : Obligations.FoxExchange := by
  refine ⟨fun _ _ _ => exec_rangingExchange_content, fun _ _ _ hx hw hi hl he hp ht =>
      exec_rangingExchange_starts hx hw hi hl he hp (Prod.ext ht rfl),
    fun _ _ _ hn hex hlanes ht => exchangeStart_taken hn (Prod.ext hex hlanes) (Prod.ext ht rfl), fun _ _ _ _ => exec_guardSecondExchange_begins,
    fun _ _ _ _ _ _ _ => exec_rangePoll_own, fun _ _ _ _ _ _ _ => exec_rangeReply_passOver, fun _ _ _ _ _ _ _ => exec_rangeReply_listened,
    fun _ _ _ _ => ⟨fun hpass ht => passOver_polls hpass (Prod.ext ht rfl), fun hpass ht => passOver_finishes hpass (Prod.ext ht rfl)⟩,
    ?report, ?judge, fun _ _ _ he hs => ⟨exec_rangeReplyTimeout_silent he hs, exec_rangeReportTimeout_silent he hs⟩,
    fun _ _ _ => exec_overhearExchangeEnd_reports⟩
  case report =>
    intro n r mismatches ex cls ctr h x p s he hf hx hfin hopen t
    rw [exec_rangeReport_opened he hf hx hfin hopen]
    refine ⟨fun h0 => ?_, fun h2 => ?_⟩
    · rw [if_neg (by omega), if_pos h0]
    · rw [if_pos h2, if_neg (by omega)]
  case judge =>
    intro n ex rep endAt s hspan c sm
    rw [exchangeJudge_eq hspan]
    exact ⟨fun hok => if_pos hok, fun hno => if_neg hno⟩

end Sys2Proof.Machine
end

section
/-! PROOFS. Entry and start: the evidence a grant rests on, the strikes that bar a fob, the start-line latch. -/

namespace Sys2Proof.Machine

/-! ### What a grant rests on (R238, R240) -/

section Grants

variable {s : State} {x : Session} {r : TrigRun} {zone : Nat}

/-- A check that refuses with a reason grants exactly where its condition is false, and the checks after it decide. -/
theorem check_grants_iff {c : Prop} [Decidable c] {reason z : Nat} {o : Option (Nat × Nat)} (hr : reason ≠ 0) :
    (if c then some (reason, z) else o) = some (0, zone) ↔ ¬ c ∧ o = some (0, zone) := by
  split
  next hc => exact ⟨fun h => absurd (congrArg Prod.fst (Option.some.inj h)) hr, fun ⟨hnot, _⟩ => absurd hc hnot⟩
  next hc => exact (and_iff_right hc).symm

/-- Two of three times lie no further apart than the span of the three. -/
theorem sub_le_span {a b c m n : Nat} (hm : m ∈ [a, b, c]) (hn : n ∈ [a, b, c]) :
    m - n ≤ [a, b, c].foldl max 0 - [a, b, c].foldl min a := by
  simp only [List.mem_cons, List.not_mem_nil, or_false] at hm hn
  simp only [List.foldl_cons, List.foldl_nil]
  omega

theorem judge_grant_fix (hk : r.trig.kind ≠ some 7) (h : s.judge x r = some (0, zone)) : ∃ f rest, x.fixes = f :: rest := by
  simp (disch := decide) only [State.judge, check_grants_iff, Option.ite_none_left_eq_some] at h
  obtain ⟨-, hfix, -⟩ := h
  exact List.exists_cons_of_ne_nil fun hx => hfix ⟨by simp [hk], hx⟩

theorem judge_unlock_grant (hk : r.trig.kind = some 0) (h : s.judge x r = some (0, zone)) :
    ∃ f rest, x.fixes = f :: rest ∧ f.pos.isSome = true ∧
      ((s.fixZones f).any (fun z => z.kind == 2 || z.kind == 3)) = true ∧ (s.fixZones f).any (fun z => z.kind == 1) = false ∧
      (∀ v, x.lf = some v → v.1 = false) := by
  obtain ⟨f, rest, hx⟩ := judge_grant_fix (by simp [hk]) h
  simp (disch := decide) only [State.judge, hk, hx, check_grants_iff, Option.ite_none_left_eq_some] at h
  obtain ⟨-, -, hpos, hzones, hlf⟩ := h
  obtain ⟨hdoors, hcab⟩ := not_or.1 hzones
  refine ⟨f, rest, hx, Option.isNone_eq_false_iff.1 (Bool.eq_false_of_not_eq_true hpos), ?_, Bool.eq_false_of_not_eq_true hcab, fun v hv => ?_⟩
  · obtain ⟨z, hz⟩ := List.exists_mem_of_ne_nil _ hdoors
    exact List.any_eq_true.2 ⟨z, List.mem_filter.1 hz⟩
  · cases hin : v.1 with
    | false => rfl
    | true => simp [hv, hin] at hlf

theorem judge_lock_grant (hk : r.trig.kind = some 1) (h : s.judge x r = some (0, zone)) :
    ∃ f rest, x.fixes = f :: rest ∧ f.pos.isSome = true ∧ (s.fixZones f).any (fun z => z.kind == 1) = false ∧ r.inside = false := by
  obtain ⟨f, rest, hx⟩ := judge_grant_fix (by simp [hk]) h
  simp (disch := decide) only [State.judge, hk, hx, check_grants_iff, Option.ite_none_left_eq_some] at h
  obtain ⟨-, -, hpos, hcab, hinside, -⟩ := h
  exact ⟨f, rest, hx, Option.isNone_eq_false_iff.1 (Bool.eq_false_of_not_eq_true hpos),
    Bool.eq_false_of_not_eq_true hcab, Bool.eq_false_of_not_eq_true hinside⟩

theorem judge_remoteUnlock_grant (hk : r.trig.kind = some 4) (h : s.judge x r = some (0, zone)) :
    ∃ f rest, x.fixes = f :: rest ∧ f.dist ≤ 30000 := by
  obtain ⟨f, rest, hx⟩ := judge_grant_fix (by simp [hk]) h
  simp (disch := decide) only [State.judge, hk, hx, check_grants_iff, Option.ite_none_left_eq_some] at h
  obtain ⟨-, -, h⟩ := h
  split at h
  next hd => exact ⟨f, rest, hx, hd⟩
  next => simp at h

/-- A start waits for an authenticated LF result: where none has come it is refused at the latest when its LOCATEs are over (R240). -/
theorem judge_start_lf (hk : r.trig.kind = some 5) (h : s.judge x r = some (0, zone)) : ∃ v, x.lf = some v ∧ v.1 = true := by
  simp (disch := decide) only [State.judge, hk, check_grants_iff, Option.ite_none_left_eq_some] at h
  obtain ⟨-, -, -, -, h⟩ := h
  cases hlf : x.lf with
  | none => cases ho : locatesOver r <;> simp [hlf, ho] at h
  | some v =>
    cases hin : v.1 with
    | false => simp [hlf, hin] at h
    | true => exact ⟨v, rfl, hin⟩

theorem judge_start_grant (hk : r.trig.kind = some 5) (h : s.judge x r = some (0, zone)) :
    ∃ f g rest v p q, x.fixes = f :: g :: rest ∧ f.pos = some p ∧ g.pos = some q ∧ pointSq p q ≤ 200 * 200 ∧
      (∀ a ∈ [f.at_, g.at_, v.2], ∀ b ∈ [f.at_, g.at_, v.2], (a - b) * 1000 ≤ 300 * 4194304) ∧ x.lf = some v ∧ v.1 = true ∧
      ∀ h ∈ x.fixes, (s.fixZones h).any (fun z => z.kind == 1) = true := by
  obtain ⟨v, hv, hin⟩ := judge_start_lf hk h
  simp (disch := decide) only [State.judge, hk, hv, hin, check_grants_iff, Option.ite_none_left_eq_some] at h
  obtain ⟨-, -, -, hcab, h⟩ := h
  split at h
  next f g rest w hx hw =>
    cases hw
    split at h
    next p q hp hq =>
      obtain ⟨hnear, -⟩ := (check_grants_iff (by decide)).1 h
      obtain ⟨hdist, hspan⟩ := not_or.1 hnear
      refine ⟨f, g, rest, v, p, q, hx, hp, hq, Nat.not_lt.1 hdist, fun a ha b hb => ?_, hv, hin, by simpa using hcab⟩
      have hab := sub_le_span ha hb
      omega
    next => simp at h
  next => cases h

end Grants

/-- Settles O26: each kind of decision by the checks its grant has passed. -/
theorem grantsRestOnEvidence : Obligations.GrantsRestOnEvidence := by
  intro s x r zone h
  refine ⟨fun hk => ?fixed, fun hk => judge_unlock_grant hk h, fun hk => judge_lock_grant hk h, fun hk => judge_remoteUnlock_grant hk h,
    fun hk => judge_start_grant hk h⟩
  case fixed =>
    obtain ⟨f, rest, hx⟩ := judge_grant_fix (by rintro h7; simp [h7] at hk) h
    exact hx ▸ List.cons_ne_nil f rest

/-! ### Strikes (R231) -/

section Strikes

variable {record : Nat} {s : State}

/-- The times of a record's strikes of the last 60 s with a new one. -/
def State.strikeTimes (s : State) (record : Nat) : List Nat :=
  s.now :: s.recent 60000000 (((s.ses.strikes.find? (fun p => p.1 == record)).map (·.2)).getD [])

/-- A strike entered for a record. -/
def strikeNoted (record : Nat) (s : State) : State :=
  { s with ses := { s.ses with
      strikes := (record, s.strikeTimes record) :: s.ses.strikes.filter (fun p => p.1 != record) } }.count Reg.SES_STRK_STRIKES 1

theorem sessionEnd_none (reason : Nat) (h : s.sessionOf record = none) : sessionEnd record reason s = s := by
  rw [sessionEnd, h]

/-- A strike without a session or a stale tracker is entered, and bars the fob where it is the fourth. -/
theorem strike_idle (reason : Nat) (hx : s.sessionOf record = none) (ht : (s.tracker record).st = .unknown) :
    strike record reason s = if 4 ≤ (s.strikeTimes record).length
      then barFob record (((s.fob record).map (·.fobId)).getD 0) (strikeNoted record s) else strikeNoted record s := by
  unfold strike
  extract_lets old ts id ses entered noted fresh ended
  have hfresh : fresh = noted := if_neg (fun h : (s.tracker record).st = .stale => by rw [ht] at h; cases h)
  have hended : ended = noted := (congrArg (sessionEnd record reason) hfresh).trans (sessionEnd_none reason hx)
  rw [hended]
  rfl

theorem OnlyQueues.ses {r t : State} (h : OnlyQueues r t) : t.ses = r.ses := by
  obtain ⟨_, _, _, _, _, _, _, _, _, _, rfl⟩ := h
  rfl

theorem canSend_onlyQueues {r : State} (h : OnlyQueues r s) (code : Nat) (data : Bytes) : OnlyQueues r (canSend code data s) := by
  unfold canSend
  split
  exacts [h, enqueue_onlyQueues h]

theorem logRec_onlyQueues {r : State} (h : OnlyQueues r s) (typ : Nat) (body : Bytes) : OnlyQueues r (logRec typ body s) := by
  unfold logRec ledgerPut ledgerPutAs
  split <;> have hput := (p0Fault_onlyQueues (q := .ingest) (recordRaw_onlyQueues h _)).snd ‹_›
  exacts [raise_onlyQueues hput _ _, hput]

/-- The bars after a fourth strike: the fob's own from now on, every other as it was. -/
theorem barFob_bars (fobId : Nat) :
    (barFob record fobId s).ses.bars = (record, s.now) :: s.ses.bars.filter (fun b => b.1 != record) := by
  unfold barFob
  extract_lets ses barred reset ses' quiet fob raised sent
  have hsent : OnlyQueues quiet sent := canSend_onlyQueues (raise_onlyQueues (.refl quiet) ..) ..
  rw [(logRec_onlyQueues hsent ..).ses]
  rfl

theorem strike_idle_few (reason : Nat) (hx : s.sessionOf record = none) (ht : (s.tracker record).st = .unknown)
    (hfew : (s.strikeTimes record).length < 4) :
    (strike record reason s).ses.strikes.head? = some (record, s.strikeTimes record) ∧ (strike record reason s).ses.bars = s.ses.bars := by
  rw [strike_idle reason hx ht, if_neg (Nat.not_le.2 hfew)]
  exact ⟨rfl, rfl⟩

theorem strike_idle_fourth (reason : Nat) (hx : s.sessionOf record = none) (ht : (s.tracker record).st = .unknown)
    (hfour : 4 ≤ (s.strikeTimes record).length) : (record, s.now) ∈ (strike record reason s).ses.bars := by
  rw [strike_idle reason hx ht, if_pos hfour, barFob_bars]
  exact List.mem_cons_self

end Strikes

/-! ### The start-line latch (R243, R244) -/

section Latch

variable {s : State}

theorem latchSet_latch (h : regsWf s.regs = true) : (latchSet s).bit Reg.SL_STAT_LATCH = true := by
  unfold latchSet
  extract_lets lines t
  have ht : regsWf t.regs = true := h
  rw [State.bit_setBit_apart _ (State.regsWf_setBit _ _ ht) (by decide) (by decide) (by decide), State.bit_setBit_same _ ht (by decide) rfl]

theorem latchSet_window (h : regsWf s.regs = true) : (latchSet s).bit Reg.SL_STAT_IGNW = !s.lines.ignition :=
  State.bit_setBit_same _ (State.regsWf_setBit _ _ h) (by decide) rfl

theorem latchClear_bits (h : regsWf s.regs = true) : (latchClear s).bit Reg.SL_STAT_LATCH = false ∧
    (latchClear s).bit Reg.SL_STAT_HREL = false ∧ (latchClear s).bit Reg.SL_STAT_LREL = false := by
  unfold latchClear
  extract_lets lines t
  have h0 : regsWf t.regs = true := h
  have h1 := State.regsWf_setBit Reg.SL_STAT_LATCH false h0
  have h2 := State.regsWf_setBit Reg.SL_STAT_HREL false h1
  have h3 := State.regsWf_setBit Reg.SL_STAT_LREL false h2
  simp (disch := decide) only [State.bit_setBit_apart _ h3, State.bit_setBit_apart _ h2, State.bit_setBit_apart _ h1,
    State.bit_setBit_same _ h2, State.bit_setBit_same _ h1, State.bit_setBit_same _ h0, and_self]

theorem startRelease_taken {record kind : Nat} {u : State}
    (h : submitTally .p0 ⟨1, none, .startToken⟩ (latchSet (noteDecision (if kind = 0 then 5 else 6) 0 record 0 s)) = (.taken, u)) :
    startRelease record kind s = { u with ses := { u.ses with startWait := some ⟨record, kind⟩ } } := by
  rw [startRelease]
  extract_lets t
  rw [h]

end Latch

/-- Settles O27: a strike without a session by what it enters, the latch by the bits it writes. -/
theorem strikesAndLatch : Obligations.StrikesAndLatch := by
  refine ⟨fun _ reason _ hx ht => ⟨strike_idle_few reason hx ht, strike_idle_fourth reason hx ht⟩,
    fun _ h => ⟨latchSet_latch h, rfl, latchSet_window h, rfl⟩, fun s h => ?clear, fun _ _ _ _ => startRelease_taken⟩
  obtain ⟨hlatch, hhrel, hlrel⟩ := latchClear_bits h
  exact ⟨hlatch, hhrel, hlrel, rfl⟩

end Sys2Proof.Machine
end

section
/-! PROOFS. The timer array: one tick of a timer register by register, captures, and the commands that reach the timers. -/

namespace Sys2Proof.Machine

/-! ### A flag that the hardware sets, where its condition holds (R12) -/

def State.flagIf (s : State) (f : Fld) (b : Bool) : State := if b then s.setBit f true else s

section Flag

variable {s : State} {f g : Fld} {a : Nat} (b : Bool)

theorem State.flagIf_eq (s : State) (f : Fld) : ∃ regs hwSet, s.flagIf f b = { s with regs, hwSet } := by
  cases b
  exacts [⟨_, _, rfl⟩, ⟨_, _, rfl⟩]

variable (h : regsWf s.regs = true)

include h

theorem State.regsWf_flagIf : regsWf (s.flagIf f b).regs = true := by
  cases b
  exacts [h, State.regsWf_setBit f true h]

theorem State.rd_flagIf_apart (ha : a ≠ f.reg) : (s.flagIf f b).rd a = s.rd a := by
  cases b
  exacts [rfl, State.rd_setBit_apart true h ha]

theorem State.bit_flagIf_same {i : Nat} (hi : i < 32 := by decide) : (s.flagIf ⟨a, i, 1⟩ b).bit ⟨a, i, 1⟩ = (s.bit ⟨a, i, 1⟩ || b) := by
  cases b
  exacts [(Bool.or_false _).symm, (State.bit_setBit_same true h hi rfl).trans (Bool.or_true _).symm]

theorem State.bit_flagIf_other {i j : Nat} (hij : i ≠ j := by decide) (hi : i < 32 := by decide) (hj : j < 32 := by decide) :
    (s.flagIf ⟨a, i, 1⟩ b).bit ⟨a, j, 1⟩ = s.bit ⟨a, j, 1⟩ := by
  cases b
  exacts [rfl, State.bit_setBit_apart true h hi hj (.inr (by dsimp only; omega))]

end Flag

/-! ### One tick of a timer (R264 to R266) -/

/-- The named timer starts in the coming tick (R265). -/
def State.timerGoes (s : State) (n : Nat) : Bool := s.timers.goNext / 2 ^ n % 2 == 1 && !s.bit (Reg.TIM_CTL_RUN n)

/-- The prescaler after the coming tick (R264, R265). -/
def State.timerPhase (s : State) (n : Nat) : Nat :=
  if s.timerGoes n ∨ s.timerSteps n then 0
  else if s.timerCounts n then s.timers.phase.getD n 0 + 1 else s.timers.phase.getD n 0

/-- Whether the coming increment is a period timer's match, so that the next one is to 0 (R264). -/
def State.timerWrap (s : State) (n : Nat) : Bool :=
  if s.timerGoes n then false
  else if s.timerSteps n then s.timerMatches n 0 && s.get (Reg.TIM_CTL_MODE n) == 1 else s.timers.wrap.getD n false

/-- Whether the timer runs after the coming tick (R265, R266). -/
def State.timerRuns (s : State) (n : Nat) : Bool :=
  if s.timerGoes n then true
  else if s.timers.stopNext / 2 ^ n % 2 == 1 then false
  else s.bit (Reg.TIM_CTL_RUN n) && !(s.timerMatches n 0 && s.get (Reg.TIM_CTL_MODE n) == 2)

/-- The timers' state beside the registers after the tick of one timer. -/
def State.timersAfter (s : State) (n : Nat) : TimersSt :=
  { s.timers with phase := s.timers.phase.set n (s.timerPhase n), wrap := s.timers.wrap.set n (s.timerWrap n) }

/-- A timer started, stopped or left running (R265). -/
def timerSwitched (n : Nat) (s : State) : State := { s with timers := s.timersAfter n }.setBit (Reg.TIM_CTL_RUN n) (s.timerRuns n)

/-- The timer's tick before its flags (R264). -/
def timerCounted (n : Nat) (s : State) : State :=
  if s.timerSteps n then (timerSwitched n s).put (Reg.TIM_CNT_V n) (s.timerNext n) else timerSwitched n s

theorem timerTick_eq (n : Nat) (s : State) : timerTick n s =
    (((timerCounted n s).flagIf (Reg.TIM_FLG_M0 n) (s.timerMatches n 0)).flagIf (Reg.TIM_FLG_M1 n) (s.timerMatches n 1)).flagIf
      (Reg.TIM_FLG_OVF n) (s.timerOverflows n) := rfl

theorem timerCounted_eq (n : Nat) (s : State) : ∃ regs hwSet, timerCounted n s = { s with regs, hwSet, timers := s.timersAfter n } := by
  unfold timerCounted
  split
  exacts [⟨_, _, rfl⟩, ⟨_, _, rfl⟩]

/-- A tick of a timer, beside its registers, is in its prescaler and its wrap alone. -/
theorem timerTick_beside (n : Nat) (s : State) : ∃ regs hwSet, timerTick n s = { s with regs, hwSet, timers := s.timersAfter n } := by
  rw [timerTick_eq]
  obtain ⟨regs, hwSet, h⟩ := timerCounted_eq n s
  rw [h]
  obtain ⟨_, _, h0⟩ := State.flagIf_eq (s.timerMatches n 0) { s with regs, hwSet, timers := s.timersAfter n } (Reg.TIM_FLG_M0 n)
  rw [h0]
  obtain ⟨_, _, h1⟩ := State.flagIf_eq (s.timerMatches n 1) _ (Reg.TIM_FLG_M1 n)
  rw [h1]
  obtain ⟨_, _, h2⟩ := State.flagIf_eq (s.timerOverflows n) _ (Reg.TIM_FLG_OVF n)
  exact ⟨_, _, h2⟩

theorem State.timerNext_lt (s : State) (n : Nat) : s.timerNext n < 4294967296 := by
  unfold State.timerNext
  split
  · decide
  · exact Nat.mod_lt _ (by decide)

section Tick

variable {n a : Nat} {s : State} (h : regsWf s.regs = true)

include h

theorem timerSwitched_regsWf : regsWf (timerSwitched n s).regs = true := State.regsWf_setBit _ _ h

theorem timerSwitched_rd (ha : a ≠ Reg.TIM_CTL n) : (timerSwitched n s).rd a = s.rd a :=
  State.rd_setBit_apart (s := { s with timers := s.timersAfter n }) _ h ha

theorem timerSwitched_run : (timerSwitched n s).bit (Reg.TIM_CTL_RUN n) = s.timerRuns n :=
  State.bit_setBit_same (s := { s with timers := s.timersAfter n }) _ h (by decide : 31 < 32) rfl

theorem timerCounted_regsWf : regsWf (timerCounted n s).regs = true := by
  unfold timerCounted
  split
  exacts [State.regsWf_put _ _ _ (timerSwitched_regsWf h), timerSwitched_regsWf h]

theorem timerCounted_rd (ha : a ≠ Reg.TIM_CNT n) : (timerCounted n s).rd a = (timerSwitched n s).rd a := by
  unfold timerCounted
  split
  exacts [State.rd_put_apart _ (timerSwitched_regsWf h) ha, rfl]

theorem timerCounted_count : (timerCounted n s).get (Reg.TIM_CNT_V n) = if s.timerSteps n then s.timerNext n else s.get (Reg.TIM_CNT_V n) := by
  have hne : Reg.TIM_CNT n ≠ Reg.TIM_CTL n := by unfold Reg.TIM_CNT Reg.TIM_CTL; omega
  unfold timerCounted
  split
  · rw [State.get_put_same _ _ _ (timerSwitched_regsWf h) (by decide : 0 + 32 ≤ 32)]
    exact Nat.mod_eq_of_lt (s.timerNext_lt n)
  · exact State.get_of_rd (timerSwitched_rd h hne)

/-- The flags are in the timer's own flag register. -/
theorem timerTick_rd_counted (ha : a ≠ Reg.TIM_FLG n) : (timerTick n s).rd a = (timerCounted n s).rd a := by
  have w := timerCounted_regsWf (n := n) h
  have w0 := State.regsWf_flagIf (f := Reg.TIM_FLG_M0 n) (s.timerMatches n 0) w
  have w1 := State.regsWf_flagIf (f := Reg.TIM_FLG_M1 n) (s.timerMatches n 1) w0
  rw [timerTick_eq, State.rd_flagIf_apart _ w1 ha, State.rd_flagIf_apart _ w0 ha, State.rd_flagIf_apart _ w ha]

/-- A register that is none of the timer's control, counter and flags reads as before. -/
theorem timerTick_rd_apart (hctl : a ≠ Reg.TIM_CTL n) (hcnt : a ≠ Reg.TIM_CNT n) (hflg : a ≠ Reg.TIM_FLG n) : (timerTick n s).rd a = s.rd a :=
  (timerTick_rd_counted h hflg).trans ((timerCounted_rd h hcnt).trans (timerSwitched_rd h hctl))

theorem timerTick_count : (timerTick n s).get (Reg.TIM_CNT_V n) = if s.timerSteps n then s.timerNext n else s.get (Reg.TIM_CNT_V n) := by
  have hne : Reg.TIM_CNT n ≠ Reg.TIM_FLG n := by unfold Reg.TIM_CNT Reg.TIM_FLG; omega
  rw [← timerCounted_count h]
  exact State.get_of_rd (timerTick_rd_counted h hne)

theorem timerTick_run : (timerTick n s).bit (Reg.TIM_CTL_RUN n) = s.timerRuns n := by
  have hflg : Reg.TIM_CTL n ≠ Reg.TIM_FLG n := by unfold Reg.TIM_CTL Reg.TIM_FLG; omega
  have hcnt : Reg.TIM_CTL n ≠ Reg.TIM_CNT n := by unfold Reg.TIM_CTL Reg.TIM_CNT; omega
  rw [← timerSwitched_run h]
  exact State.bit_of_get (State.get_of_rd ((timerTick_rd_counted h hflg).trans (timerCounted_rd h hcnt)))

/-- R264, R266: each flag of a tick is set by its own condition, and none is cleared. -/
theorem timerTick_flags :
    (timerTick n s).bit (Reg.TIM_FLG_M0 n) = (s.bit (Reg.TIM_FLG_M0 n) || s.timerMatches n 0) ∧
    (timerTick n s).bit (Reg.TIM_FLG_M1 n) = (s.bit (Reg.TIM_FLG_M1 n) || s.timerMatches n 1) ∧
    (timerTick n s).bit (Reg.TIM_FLG_OVF n) = (s.bit (Reg.TIM_FLG_OVF n) || s.timerOverflows n) ∧
    (timerTick n s).bit (Reg.TIM_FLG_CAPF n) = s.bit (Reg.TIM_FLG_CAPF n) := by
  have hctl : Reg.TIM_FLG n ≠ Reg.TIM_CTL n := by unfold Reg.TIM_CTL Reg.TIM_FLG; omega
  have hcnt : Reg.TIM_FLG n ≠ Reg.TIM_CNT n := by unfold Reg.TIM_CNT Reg.TIM_FLG; omega
  have hrd : (timerCounted n s).rd (Reg.TIM_FLG n) = s.rd (Reg.TIM_FLG n) := (timerCounted_rd h hcnt).trans (timerSwitched_rd h hctl)
  have hbit (f : Fld) (hf : f.reg = Reg.TIM_FLG n) : (timerCounted n s).bit f = s.bit f := State.bit_of_get (State.get_of_rd (hf ▸ hrd))
  have w := timerCounted_regsWf (n := n) h
  have w0 := State.regsWf_flagIf (f := Reg.TIM_FLG_M0 n) (s.timerMatches n 0) w
  have w1 := State.regsWf_flagIf (f := Reg.TIM_FLG_M1 n) (s.timerMatches n 1) w0
  rw [timerTick_eq, ← hbit (Reg.TIM_FLG_M0 n) rfl, ← hbit (Reg.TIM_FLG_M1 n) rfl, ← hbit (Reg.TIM_FLG_OVF n) rfl,
    ← hbit (Reg.TIM_FLG_CAPF n) rfl]
  exact ⟨(State.bit_flagIf_other _ w1).trans ((State.bit_flagIf_other _ w0).trans (State.bit_flagIf_same _ w)),
    (State.bit_flagIf_other _ w1).trans ((State.bit_flagIf_same _ w0).trans (congrArg (· || _) (State.bit_flagIf_other _ w))),
    (State.bit_flagIf_same _ w1).trans (congrArg (· || _) ((State.bit_flagIf_other _ w0).trans (State.bit_flagIf_other _ w))),
    (State.bit_flagIf_other _ w1).trans ((State.bit_flagIf_other _ w0).trans (State.bit_flagIf_other _ w))⟩

end Tick

/-! ### Captures (R267) -/

/-- The registers that a capture of one timer writes (R267). -/
def captureRegs (n : Nat) : List Nat := [Reg.TIM_CAP n, Reg.TIM_FLG n]

theorem captureInto_flags (n : Nat) (s : State) : captureInto n s =
    (((s.flagIf (Reg.TIM_FLG_OVR n) (s.bit (Reg.TIM_FLG_CAPF n) && !s.bit (Reg.TIM_FLG_OVR n))).put (Reg.TIM_CAP_V n)
      (s.get (Reg.TIM_CNT_V n))).flagIf (Reg.TIM_FLG_CAPF n) true) := by
  unfold captureInto State.flagIf
  cases s.bit (Reg.TIM_FLG_CAPF n) <;> cases s.bit (Reg.TIM_FLG_OVR n) <;> rfl

theorem captureInto_eq (n : Nat) (s : State) : ∃ regs hwSet, captureInto n s = { s with regs, hwSet } := by
  unfold captureInto
  split_ifs
  exacts [⟨_, _, rfl⟩, ⟨_, _, rfl⟩]

/-- What one timer does at an edge: it takes a capture where it selects the edge. -/
def captureStep (src : Nat) (rising : Bool) (s t : State) (n : Nat) : State := if s.captures n src rising then captureInto n t else t

theorem captureEdge_fold (src : Nat) (rising : Bool) (s : State) :
    captureEdge src rising s = (List.range 8).foldl (captureStep src rising s) s := rfl

theorem captureEdge_eq (src : Nat) (rising : Bool) (s : State) : ∃ regs hwSet, captureEdge src rising s = { s with regs, hwSet } := by
  refine List.foldlRecOn (motive := fun t : State => ∃ regs hwSet, t = { s with regs, hwSet }) (List.range 8) (captureStep src rising s)
    ⟨s.regs, s.hwSet, rfl⟩ ?_
  rintro _ ⟨regs, hwSet, rfl⟩ n -
  unfold captureStep
  split
  · obtain ⟨regs', hwSet', h⟩ := captureInto_eq n { s with regs, hwSet }
    exact ⟨regs', hwSet', h⟩
  · exact ⟨_, _, rfl⟩

theorem captureEdge_unselected {src : Nat} {rising : Bool} {s : State} (h : ∀ n, n < 8 → s.captures n src rising = false) :
    captureEdge src rising s = s :=
  List.foldlRecOn (motive := fun t : State => t = s) (List.range 8) (captureStep src rising s) rfl (by
    rintro _ rfl n hn
    exact if_neg (ne_true_of_eq_false (h n (List.mem_range.mp hn))))

section Capture

variable {n a src : Nat} {rising : Bool} {s t : State} (h : regsWf t.regs = true)

include h

theorem captureInto_regsWf : regsWf (captureInto n t).regs = true := by
  rw [captureInto_flags]
  exact State.regsWf_flagIf _ (State.regsWf_put _ _ _ (State.regsWf_flagIf _ h))

theorem captureInto_rd_apart (ha : a ∉ captureRegs n) : (captureInto n t).rd a = t.rd a := by
  obtain ⟨hcap, hflg⟩ : a ≠ Reg.TIM_CAP n ∧ a ≠ Reg.TIM_FLG n := by simpa [captureRegs] using ha
  have w0 := State.regsWf_flagIf (f := Reg.TIM_FLG_OVR n) (t.bit (Reg.TIM_FLG_CAPF n) && !t.bit (Reg.TIM_FLG_OVR n)) h
  have w1 := State.regsWf_put _ (Reg.TIM_CAP_V n) (t.get (Reg.TIM_CNT_V n)) w0
  rw [captureInto_flags, State.rd_flagIf_apart _ w1 hflg, State.rd_put_apart _ w0 hcap, State.rd_flagIf_apart _ h hflg]

theorem captureInto_cap : (captureInto n t).get (Reg.TIM_CAP_V n) = t.get (Reg.TIM_CNT_V n) := by
  have hne : Reg.TIM_CAP n ≠ Reg.TIM_FLG n := by unfold Reg.TIM_CAP Reg.TIM_FLG; omega
  have w0 := State.regsWf_flagIf (f := Reg.TIM_FLG_OVR n) (t.bit (Reg.TIM_FLG_CAPF n) && !t.bit (Reg.TIM_FLG_OVR n)) h
  have w1 := State.regsWf_put _ (Reg.TIM_CAP_V n) (t.get (Reg.TIM_CNT_V n)) w0
  rw [captureInto_flags, State.get_of_rd (State.rd_flagIf_apart _ w1 hne), State.get_put_same _ _ _ w0 (by decide : 0 + 32 ≤ 32)]
  exact Nat.mod_eq_of_lt (State.get_lt t (Reg.TIM_CNT_V n))

/-- R267: CAPF is set, and OVR where CAPF stood. -/
theorem captureInto_flg : (captureInto n t).bit (Reg.TIM_FLG_CAPF n) = true ∧
    (captureInto n t).bit (Reg.TIM_FLG_OVR n) = (t.bit (Reg.TIM_FLG_OVR n) || t.bit (Reg.TIM_FLG_CAPF n)) := by
  have hne : Reg.TIM_FLG n ≠ Reg.TIM_CAP n := by unfold Reg.TIM_CAP Reg.TIM_FLG; omega
  have w0 := State.regsWf_flagIf (f := Reg.TIM_FLG_OVR n) (t.bit (Reg.TIM_FLG_CAPF n) && !t.bit (Reg.TIM_FLG_OVR n)) h
  have w1 := State.regsWf_put _ (Reg.TIM_CAP_V n) (t.get (Reg.TIM_CNT_V n)) w0
  have hovr := State.bit_of_get (State.get_of_rd (f := Reg.TIM_FLG_OVR n)
    (State.rd_put_apart (f := Reg.TIM_CAP_V n) (t.get (Reg.TIM_CNT_V n)) w0 hne))
  rw [captureInto_flags]
  refine ⟨(State.bit_flagIf_same _ w1).trans (Bool.or_true _),
    (State.bit_flagIf_other _ w1).trans (hovr.trans ((State.bit_flagIf_same _ h).trans ?_))⟩
  change (t.bit (Reg.TIM_FLG_OVR n) || (t.bit (Reg.TIM_FLG_CAPF n) && !t.bit (Reg.TIM_FLG_OVR n))) = _
  cases t.bit (Reg.TIM_FLG_OVR n) <;> cases t.bit (Reg.TIM_FLG_CAPF n) <;> rfl

theorem captureStep_regsWf : regsWf (captureStep src rising s t n).regs = true := by
  unfold captureStep
  split
  exacts [captureInto_regsWf h, h]

theorem captureStep_rd_apart (ha : a ∉ captureRegs n) : (captureStep src rising s t n).rd a = t.rd a := by
  unfold captureStep
  split
  exacts [captureInto_rd_apart h ha, rfl]

theorem captureStep_cap : (captureStep src rising s t n).get (Reg.TIM_CAP_V n) =
    if s.captures n src rising then t.get (Reg.TIM_CNT_V n) else t.get (Reg.TIM_CAP_V n) := by
  unfold captureStep
  split
  exacts [captureInto_cap h, rfl]

end Capture

theorem captureSteps_regsWf {src : Nat} {rising : Bool} {s : State} : ∀ (ns : List Nat) {t : State}, regsWf t.regs = true →
    regsWf (ns.foldl (captureStep src rising s) t).regs = true
  | [], _, h => h
  | _ :: ns, _, h => captureSteps_regsWf ns (captureStep_regsWf h)

theorem captureSteps_rd_apart {a src : Nat} {rising : Bool} {s : State} : ∀ {ns : List Nat} {t : State}, regsWf t.regs = true →
    (∀ n ∈ ns, a ∉ captureRegs n) → (ns.foldl (captureStep src rising s) t).rd a = t.rd a
  | [], _, _, _ => rfl
  | n :: _, _, h, ha => by
    obtain ⟨hn, hns⟩ := List.forall_mem_cons.mp ha
    exact (captureSteps_rd_apart (captureStep_regsWf h) hns).trans (captureStep_rd_apart h hn)

/-- The counters stand while the timers take their captures, so each takes its own. -/
theorem captureSteps_cap {n src : Nat} {rising : Bool} {s : State} : ∀ (ns : List Nat) {t : State}, regsWf t.regs = true →
    (ns.foldl (captureStep src rising s) t).get (Reg.TIM_CAP_V n) =
      if n ∈ ns ∧ s.captures n src rising then t.get (Reg.TIM_CNT_V n) else t.get (Reg.TIM_CAP_V n)
  | [], _, _ => (if_neg (fun hn => List.not_mem_nil hn.1)).symm
  | k :: ns, t, h => by
    have hcnt : (captureStep src rising s t k).get (Reg.TIM_CNT_V n) = t.get (Reg.TIM_CNT_V n) := by
      refine State.get_of_rd (captureStep_rd_apart h ?_)
      simp only [captureRegs, Reg.TIM_CNT_V, Reg.TIM_CNT, Reg.TIM_CAP, Reg.TIM_FLG, List.mem_cons, List.not_mem_nil, or_false]
      omega
    rw [List.foldl_cons, captureSteps_cap ns (captureStep_regsWf h), hcnt]
    rcases eq_or_ne n k with rfl | hnk
    · rw [captureStep_cap h]
      cases s.captures n src rising <;> simp
    · have hcap : (captureStep src rising s t k).get (Reg.TIM_CAP_V n) = t.get (Reg.TIM_CAP_V n) := by
        refine State.get_of_rd (captureStep_rd_apart h ?_)
        simp only [captureRegs, Reg.TIM_CAP_V, Reg.TIM_CAP, Reg.TIM_FLG, List.mem_cons, List.not_mem_nil, or_false]
        omega
      rw [hcap]
      simp only [List.mem_cons, hnk, false_or]

section Edge

variable {a n src : Nat} {rising : Bool} {s : State}

theorem captureEdge_regsWf (h : regsWf s.regs = true) : regsWf (captureEdge src rising s).regs = true := captureSteps_regsWf _ h

theorem captureEdge_rd_apart (h : regsWf s.regs = true) (ha : ∀ n ∈ List.range 8, a ∉ captureRegs n) :
    (captureEdge src rising s).rd a = s.rd a := captureSteps_rd_apart h ha

theorem captureEdge_cap (h : regsWf s.regs = true) (hn : n < 8) : (captureEdge src rising s).get (Reg.TIM_CAP_V n) =
    if s.captures n src rising then s.get (Reg.TIM_CNT_V n) else s.get (Reg.TIM_CAP_V n) := by
  rw [captureEdge_fold, captureSteps_cap (List.range 8) h]
  simp only [List.mem_range, hn, true_and]

end Edge

/-! ### The commands (R263, R265) -/

section Commands

variable {m : Master} {mask n x : Nat} {s t : State}

theorem timGoWrite_eq (m : Master) (v : Nat) (t : State) : timGoWrite m v t =
    if timersOwned m v then (.ok, { t with timers := { t.timers with goNext := t.timers.goNext ||| v % 256 } }) else (.denied, t) := rfl

theorem timStopWrite_eq (m : Master) (v : Nat) (t : State) : timStopWrite m v t =
    if timersOwned m v then (.ok, { t with timers := { t.timers with stopNext := t.timers.stopNext ||| v % 256 } }) else (.denied, t) := rfl

theorem exec_timGo (e : fabCheck m Reg.TIM_GO .b32 true s = (.ok, some (.reg Reg.TIM_GO), t)) :
    exec (.timGo m mask) s = .next (fabAnswer m (timGoWrite m mask t)) := by
  rw [show exec (.timGo m mask) s = .next (fabAnswer m (fabWrite m Reg.TIM_GO .b32 mask s)) from rfl, fabWrite_reg e]
  rfl

theorem exec_timStop (e : fabCheck m Reg.TIM_STOP .b32 true s = (.ok, some (.reg Reg.TIM_STOP), t)) :
    exec (.timStop m mask) s = .next (fabAnswer m (timStopWrite m mask t)) := by
  rw [show exec (.timStop m mask) s = .next (fabAnswer m (fabWrite m Reg.TIM_STOP .b32 mask s)) from rfl, fabWrite_reg e]
  rfl

/-- Table 10-3. -/
theorem timerOwner_cases (n : Nat) : timerOwner .session n = decide (n < 2) ∧ (timerOwner .host n = true ↔ 4 ≤ n ∧ n < 8) ∧
    timerOwner .ledger n = false := by
  refine ⟨rfl, ?_, rfl⟩
  simp only [timerOwner, Bool.and_eq_true, decide_eq_true_eq]

theorem tickIf_true {b : Bool} (h : b = true) : tickIf b s = .next (tick s) := by rw [tickIf, if_pos h]

theorem tickIf_false {b : Bool} (h : b = false) : tickIf b s = .next s := by rw [tickIf, if_neg (ne_true_of_eq_false h)]

theorem exec_timerCompareMatch (hn : n < 8) (hx : x < 2) : exec (.timerCompareMatch n x) s = tickIf (s.timerMatches n x) s := by
  change execTimerCompareMatch n x s = _
  rw [execTimerCompareMatch, decide_eq_true ⟨hn, hx⟩, Bool.true_and]

theorem exec_timerOverflow (hn : n < 8) : exec (.timerOverflow n) s = tickIf (s.timerOverflows n) s := by
  change execTimerOverflow n s = _
  rw [execTimerOverflow, decide_eq_true hn, Bool.true_and]

theorem exec_timerCapture (src : Nat) (rising : Bool) (s : State) : exec (.timerCapture src rising) s = .next (captureEdge src rising s) := rfl

theorem exec_debugHalt (h : Bool) (s : State) : exec (.debugHalt h) s = .next { s with timers := { s.timers with debugHalt := h } } := rfl

/-- A timer that does not count takes no step (R264 to R266). -/
theorem timer_idle (h : s.timerCounts n = false) : s.timerSteps n = false ∧ s.timerMatches n x = false ∧ s.timerOverflows n = false := by
  have hsteps : s.timerSteps n = false := by rw [State.timerSteps, h, Bool.false_and]
  exact ⟨hsteps, by rw [State.timerMatches, hsteps, Bool.false_and], by rw [State.timerOverflows, hsteps, Bool.false_and, Bool.false_and]⟩

theorem timerCounts_stopped (h : s.bit (Reg.TIM_CTL_RUN n) = false) : s.timerCounts n = false := by
  simp only [State.timerCounts, h, Bool.false_and]

theorem timerCounts_held (hh : s.timers.debugHalt = true) (hd : s.bit (Reg.TIM_CTL_DHALT n) = true) : s.timerCounts n = false := by
  simp only [State.timerCounts, hh, hd, Bool.and_self, Bool.not_true, Bool.and_false, Bool.false_and]

end Commands

/-! ### Starting and stopping (R265, R266) -/

section Running

variable {n : Nat} {s : State}

theorem timerRuns_kept (hgo : s.timers.goNext / 2 ^ n % 2 = 0) (hstop : s.timers.stopNext / 2 ^ n % 2 = 0) :
    s.timerRuns n = (s.bit (Reg.TIM_CTL_RUN n) && !(s.timerMatches n 0 && s.get (Reg.TIM_CTL_MODE n) == 2)) := by
  simp [State.timerRuns, State.timerGoes, hgo, hstop]

theorem timerRuns_stopped (hgo : s.timers.goNext / 2 ^ n % 2 = 0) (hstop : s.timers.stopNext / 2 ^ n % 2 = 1) : s.timerRuns n = false := by
  simp [State.timerRuns, State.timerGoes, hgo, hstop]

theorem timerGoes_named (hgo : s.timers.goNext / 2 ^ n % 2 = 1) (hrun : s.bit (Reg.TIM_CTL_RUN n) = false) : s.timerGoes n = true := by
  simp [State.timerGoes, hgo, hrun]

theorem timerRuns_started (h : s.timerGoes n = true) : s.timerRuns n = true := if_pos h

theorem timersAfter_phase (hn : n < s.timers.phase.length) (h : s.timerGoes n = true) : (s.timersAfter n).phase.getD n 1 = 0 := by
  have hphase : s.timerPhase n = 0 := if_pos (.inl h)
  simp [State.timersAfter, hphase, hn]

end Running

/-! ### What a tick of one timer leaves of the other registers -/

section Others

variable {n k : Nat} {s : State} (h : regsWf s.regs = true)

include h

theorem timerTick_others (hk : k ≠ n) : (timerTick n s).rd (Reg.TIM_CNT k) = s.rd (Reg.TIM_CNT k) ∧
    (timerTick n s).rd (Reg.TIM_CTL k) = s.rd (Reg.TIM_CTL k) ∧ (timerTick n s).rd (Reg.TIM_FLG k) = s.rd (Reg.TIM_FLG k) := by
  refine ⟨timerTick_rd_apart h ?_ ?_ ?_, timerTick_rd_apart h ?_ ?_ ?_, timerTick_rd_apart h ?_ ?_ ?_⟩ <;>
    simp only [Reg.TIM_CNT, Reg.TIM_CTL, Reg.TIM_FLG] <;> omega

theorem timerTick_compares (k : Nat) : (timerTick n s).rd (Reg.TIM_CMP0 k) = s.rd (Reg.TIM_CMP0 k) ∧
    (timerTick n s).rd (Reg.TIM_CMP1 k) = s.rd (Reg.TIM_CMP1 k) := by
  refine ⟨timerTick_rd_apart h ?_ ?_ ?_, timerTick_rd_apart h ?_ ?_ ?_⟩ <;>
    simp only [Reg.TIM_CMP0, Reg.TIM_CMP1, Reg.TIM_CNT, Reg.TIM_CTL, Reg.TIM_FLG] <;> omega

end Others

/-- Settles O30: a tick of a timer is a write of its RUN bit, its counter and its flags; each command by the equation of its case. -/
theorem timersCountOnCommand : Obligations.TimersCountOnCommand := by
  refine ⟨⟨fun n s hn h => ?tick, fun _ _ => rfl, fun n s _ h => timer_idle (timerCounts_stopped h),
      fun n s _ hh hd => (timer_idle (x := 0) (timerCounts_held hh hd)).1, fun n s _ h => ?capture⟩,
    fun m mask s t e => ?go, fun m mask s t e => ?stop, timerOwner_cases, fun n x s hn hx => ?compare, fun n s hn => ?overflow,
    fun src rising s => ?edge, exec_debugHalt⟩
  case tick =>
    obtain ⟨regs, hwSet, hbeside⟩ := timerTick_beside n s
    obtain ⟨hm0, hm1, hovf, hcapf⟩ := timerTick_flags (n := n) h
    refine ⟨timerTick_count h, hm0, hm1, hovf, hcapf, fun hgo hstop => (timerTick_run h).trans (timerRuns_kept hgo hstop),
      fun hgo hrun hlen => ?starts, fun hgo hstop => (timerTick_run h).trans (timerRuns_stopped hgo hstop),
      fun k _ hk => timerTick_others h hk, fun k _ => timerTick_compares h k, by rw [hbeside]⟩
    have hgoes := timerGoes_named hgo hrun
    refine ⟨(timerTick_run h).trans (timerRuns_started hgoes), ?_⟩
    rw [hbeside]
    exact timersAfter_phase (hlen.symm ▸ hn) hgoes
  case capture =>
    obtain ⟨regs, hwSet, hbeside⟩ := captureInto_eq n s
    obtain ⟨hcapf, hovr⟩ := captureInto_flg (n := n) h
    exact ⟨captureInto_cap h, hcapf, hovr, by rw [hbeside]⟩
  case go =>
    rw [exec_timGo e, timGoWrite_eq]
    exact ⟨fun h => by rw [if_pos h], fun h => by rw [if_neg (ne_true_of_eq_false h)]⟩
  case stop =>
    rw [exec_timStop e, timStopWrite_eq]
    exact ⟨fun h => by rw [if_pos h], fun h => by rw [if_neg (ne_true_of_eq_false h)]⟩
  case compare =>
    rw [exec_timerCompareMatch hn hx]
    exact ⟨tickIf_true, tickIf_false⟩
  case overflow =>
    rw [exec_timerOverflow hn]
    exact ⟨tickIf_true, tickIf_false⟩
  case edge =>
    obtain ⟨regs, hwSet, hbeside⟩ := captureEdge_eq src rising s
    exact ⟨_, exec_timerCapture src rising s, captureEdge_unselected, by rw [hbeside], fun n hn h => captureEdge_cap h hn⟩

end Sys2Proof.Machine
end


section
/-! PROOFS. The Chronicle: one tick of it, the clock around it, its sources and the setting of the time. -/

namespace Sys2Proof.Machine

/-! ### One tick of the Chronicle (R254, R257) -/

section Advance

variable {s : State}

@[simp] theorem slewTick_count (c : ChronSt) : (slewTick c).count = c.count := by
  unfold slewTick
  split_ifs <;> rfl

@[simp] theorem slewTick_frac (c : ChronSt) : (slewTick c).frac = c.frac := by
  unfold slewTick
  split_ifs <;> rfl

/-- A slew comes nearer to 0 by at most one count. -/
theorem slewTick_nearer (c : ChronSt) : (slewTick c).slew.natAbs ≤ c.slew.natAbs ∧ c.slew.natAbs ≤ (slewTick c).slew.natAbs + 1 := by
  unfold slewTick
  split_ifs with h0 hacc hpos
  · exact ⟨le_rfl, Nat.le_succ _⟩
  · exact ⟨le_rfl, Nat.le_succ _⟩
  · dsimp only
    omega
  · dsimp only
    omega

/-- What a slew has gathered stays below one count. -/
theorem slewTick_slewAcc_lt {c : ChronSt} (h : c.slewAcc < 1000000) : (slewTick c).slewAcc < 1000000 := by
  unfold slewTick
  split_ifs with h0 hacc
  · exact h
  · exact hacc
  · dsimp only
    omega
  · dsimp only
    omega

/-- The fraction and the correction of the coming tick together (R254). -/
def State.fracNext (s : State) : Int := s.chron.frac + s.correction * 4294967296 / 1000000000

theorem State.chronNext_count (s : State) : s.chronNext.count = s.chron.count + BitVec.ofInt 64 (1 + s.fracNext / 4294967296) := slewTick_count _

theorem State.chronNext_frac_lt (s : State) : s.chronNext.frac < 4294967296 := by
  have hfrac : s.chronNext.frac = (s.fracNext % 4294967296).toNat := slewTick_frac _
  omega

/-- A correction of at most 1 in either direction carries by at most one count. -/
theorem State.chronNext_gains (hf : s.chron.frac < 4294967296) (hc : s.correction.natAbs ≤ 1000000000) :
    ∃ k : Nat, k ≤ 2 ∧ s.chronNext.count = s.chron.count + BitVec.ofNat 64 k := by
  have hcarry : -1 ≤ s.fracNext / 4294967296 ∧ s.fracNext / 4294967296 ≤ 1 := by
    rw [State.fracNext]
    omega
  obtain ⟨k, hk⟩ := Int.eq_ofNat_of_zero_le (a := 1 + s.fracNext / 4294967296) (by omega)
  refine ⟨k, by omega, ?_⟩
  rw [State.chronNext_count, hk, BitVec.ofInt_natCast]

theorem State.chronNext_uncorrected (hf : s.chron.frac < 4294967296) (hc : s.correction = 0) : s.chronNext.count = s.chron.count + 1#64 := by
  have hcarry : 1 + s.fracNext / 4294967296 = (1 : Nat) := by
    rw [State.fracNext, hc]
    omega
  rw [State.chronNext_count, hcarry, BitVec.ofInt_natCast]

end Advance

/-! ### What leaves the clock alone -/

/-- The model's time and the Chronicle's count. -/
def State.clock (s : State) : Nat × BitVec 64 := (s.now, s.chron.count)

section Clock

variable {r s : State}

theorem OnlyQueues.clock {r t : State} (h : OnlyQueues r t) : t.clock = r.clock := by
  obtain ⟨_, _, _, _, _, _, _, _, _, _, rfl⟩ := h
  rfl

theorem OnlyQueues.chron {r t : State} (h : OnlyQueues r t) : t.chron = r.chron := by
  obtain ⟨_, _, _, _, _, _, _, _, _, _, rfl⟩ := h
  rfl

theorem ledgerPut_onlyQueues (h : OnlyQueues r s) (x : Rec) : OnlyQueues r (ledgerPut x s) := by
  unfold ledgerPut ledgerPutAs
  split <;> have hput := (p0Fault_onlyQueues (q := .ingest) (recordRaw_onlyQueues h _)).snd ‹_›
  exacts [raise_onlyQueues hput _ _, hput]

theorem motionFlush_onlyQueues (h : OnlyQueues r s) : OnlyQueues r (motionFlush s) := by
  unfold motionFlush
  split
  · exact h
  · extract_lets n body
    split
    exacts [h.set, ledgerPut_onlyQueues h.set _]

theorem motionSecond_onlyQueues (h : OnlyQueues r s) : OnlyQueues r (motionSecond s) := by
  dsimp only [motionSecond]
  split
  · exact h
  · split
    · exact h.set
    · split
      · exact h.set
      · exact (motionFlush_onlyQueues h.set).set

theorem dayCheck_onlyQueues (h : OnlyQueues r s) : OnlyQueues r (dayCheck s) := by
  unfold dayCheck
  split
  · split
    exacts [h.set, h]
  · exact h

/-- The snapshot and its message leave the Chronicle as it is, but that a step has been told of. -/
theorem snapshot_chron (s : State) : ∃ b, (snapshot s).chron = { s.chron with stepSinceMsg := b } ∧ (snapshot s).now = s.now := by
  unfold snapshot
  extract_lets off seq fl t u
  split
  · have h := canSend_onlyQueues (OnlyQueues.refl { u with chron := { u.chron with stepSinceMsg := false } }) 0x40
      (be 4 s.secs ++ be 2 off ++ be 1 fl ++ be 1 seq)
    exact ⟨false, h.chron, congrArg Prod.fst h.clock⟩
  · exact ⟨_, rfl, rfl⟩

@[simp] theorem captureEdge_chron (src : Nat) (rising : Bool) (s : State) : (captureEdge src rising s).chron = s.chron := by
  obtain ⟨regs, hwSet, h⟩ := captureEdge_eq src rising s
  rw [h]

@[simp] theorem captureEdge_clock (src : Nat) (rising : Bool) (s : State) : (captureEdge src rising s).clock = s.clock := by
  obtain ⟨regs, hwSet, h⟩ := captureEdge_eq src rising s
  rw [h]
  rfl

theorem ppsSecond_clock (s : State) : (ppsSecond s).clock = s.clock := by
  unfold ppsSecond
  have hsnap (u : State) : (snapshot u).clock = u.clock := by
    obtain ⟨b, hchron, hnow⟩ := snapshot_chron u
    rw [State.clock, hchron, hnow, State.clock]
  split
  · rfl
  · split
    · exact hsnap s
    · split
      · rfl
      · exact (captureEdge_clock ..).trans (hsnap _)

theorem secondCounted_clock (s : State) : (secondCounted s).clock = s.clock := by
  have h : OnlyQueues (ppsSecond s) (secondCounted s) := dayCheck_onlyQueues (motionSecond_onlyQueues (.refl _))
  rw [h.clock, ppsSecond_clock]

theorem ppsFall_clock (s : State) : (ppsFall s).clock = s.clock := by
  unfold ppsFall
  split
  exacts [captureEdge_clock .., rfl]

theorem timerTick_clock (n : Nat) (s : State) : (timerTick n s).clock = s.clock := by
  obtain ⟨regs, hwSet, h⟩ := timerTick_beside n s
  rw [h]
  rfl

theorem timersTick_clock (s : State) : (timersTick s).clock = s.clock :=
  foldl_same State.clock _ (fun t n => timerTick_clock n t) (List.range 8) s

theorem clockTick_clock (s : State) : (clockTick s).clock = (s.now + 1, s.chronNext.count) := by
  unfold clockTick
  extract_lets due c t u v
  have ht : t.clock = (s.now + 1, c.count) := timersTick_clock _
  have hu : u.clock = t.clock := by dsimp only [u]; split <;> rfl
  have hv : v.clock = u.clock := ppsFall_clock u
  have hdone : v.clock = (s.now + 1, c.count) := hv.trans (hu.trans ht)
  split
  exacts [(secondCounted_clock v).trans hdone, hdone]

end Clock

/-- Settles O28: the carry out of the fraction is -1, 0 or 1, and nothing else of the tick touches the count. -/
theorem chronicleAdvance : Obligations.ChronicleAdvance := by
  refine ⟨fun s hf hc => ?gains, fun s => ?slew, fun s hf hc => s.chronNext_uncorrected hf hc, fun s => ?clock⟩
  case gains =>
    obtain ⟨k, hk, hcount⟩ := s.chronNext_gains hf hc
    exact ⟨k, hk, hcount, s.chronNext_frac_lt⟩
  case slew =>
    obtain ⟨hnearer, hone⟩ := slewTick_nearer { s.chron with
      count := s.chron.count + BitVec.ofInt 64 (1 + s.fracNext / 4294967296), frac := (s.fracNext % 4294967296).toNat }
    exact ⟨hnearer, hone, fun h => slewTick_slewAcc_lt h⟩
  case clock =>
    have h := clockTick_clock s
    exact ⟨congrArg Prod.snd h, congrArg Prod.fst h⟩

end Sys2Proof.Machine
end

section
/-! PROOFS. The Chronicle's sources and the setting of the time: what a record or a fault leaves of the clock's registers, the crystal, the lock, the
compensation, a slew and a step. -/

namespace Sys2Proof.Machine

/-! ### What an arrival, a fault or a record leaves of the Chronicle's registers -/

/-- From one register map to another the canonical form stays, and every register below PWR_STAT reads the same: the Chronicle's, the timers'. -/
def LowKept (m m' : List (Nat × Word)) : Prop :=
  (regsWf m = true → regsWf m' = true) ∧ (regsWf m = true → ∀ a < Reg.PWR_STAT, regGet m' a = regGet m a)

theorem LowKept.refl (m : List (Nat × Word)) : LowKept m m := ⟨id, fun _ _ _ => rfl⟩

section Low

variable {m : List (Nat × Word)} {s : State}

theorem LowKept.put (h : LowKept m s.regs) (f : Fld) (v : Nat) (hf : Reg.PWR_STAT ≤ f.reg := by decide) : LowKept m (s.put f v).regs := by
  obtain ⟨hw, hrd⟩ := h
  exact ⟨fun hm => State.regsWf_put s f v (hw hm),
    fun hm a ha => (State.rd_put_apart v (hw hm) (Nat.ne_of_lt (Nat.lt_of_lt_of_le ha hf))).trans (hrd hm a ha)⟩

theorem LowKept.snd {α : Type} {x : α × State} {c : α} {t : State} (h : LowKept m x.2.regs) (e : x = (c, t)) : LowKept m t.regs := by
  subst e
  exact h

theorem noteFault_low (h : LowKept m s.regs) (action : Action) (code : Nat) : LowKept m (noteFault action code s).regs :=
  ((h.put Reg.SUP_FLT_LAST_ACTION _).put Reg.SUP_FLT_LAST_CODE _).put Reg.SUP_FLT_CNT_V _

theorem noteDrop_low {x : Admit × State} (hx : LowKept m x.2.regs) : LowKept m (noteDrop x).regs := by
  unfold noteDrop
  split
  exacts [noteFault_low hx .log 0x5207, hx]

theorem QueueId.dropFld_reg_ge {q : QueueId} {f : Fld} (h : q.dropFld = some f) : Reg.PWR_STAT ≤ f.reg := by
  cases q <;> cases h
  case lane n => exact Nat.le_trans (by decide) (Nat.le_add_right _ _)
  all_goals decide

variable {q : QueueId} {cls : Cls} {mst : Master} {w : Work} (h : LowKept m s.regs)

include h

theorem awake_low : LowKept m (awake s).regs := by
  unfold awake
  split
  exacts [h.put (s := { s with power := _ }) _ _, h.put (s := { s with power := _ }) _ _, h, h, h, h]

theorem loserGone_low (i : QItem) : LowKept m (loserGone i s).regs := by
  unfold loserGone
  split <;> exact h

theorem countDrop_low (q : QueueId) : LowKept m (s.countDrop q).regs := by
  unfold State.countDrop
  split
  · exact h.put _ _ (QueueId.dropFld_reg_ge ‹_›)
  · exact h

theorem refuse_low (b : Bool) (v : Queue) : LowKept m (refuse q cls b v s).regs := by
  cases b with
  | true => exact h.put (s := s.setQueue q _) Reg.SUP_RGN_STAT_REFUSED _
  | false => exact (countDrop_low (s := s.setQueue q _) h q).put Reg.SUP_RGN_STAT_REFUSED _

theorem admitCore_low : LowKept m (admitCore q cls mst w s).2.regs := by
  have ha := awake_low h
  dsimp only [admitCore]
  split
  · exact ha
  · split
    · exact ha
    · exact loserGone_low (refuse_low ha _ _) _
    · split
      exacts [refuse_low ha true _, refuse_low (cls := cls) ha false _]

theorem rmcKick_low : LowKept m (rmcKick s).regs := by
  dsimp only [rmcKick]
  split
  · exact h
  · split
    · exact h
    · split
      · exact h
      · rename_i hpop
        unfold popQueue at hpop
        split at hpop
        · cases hpop
        · cases hpop
          split <;> exact h

theorem submitCore_low (g : Group) : LowKept m (submitCore cls g s).2.regs := by
  have ha := admitCore_low (q := .commit) (cls := cls) (mst := .session) (w := .group g) h
  unfold submitCore
  split
  · exact rmcKick_low (ha.snd ‹_›)
  · exact ha

theorem settCore_low (typ : Nat) (bc : Bool) (dst : Nat) (p : Bytes) : LowKept m (settCore typ bc dst cls p s).2.regs := by
  unfold settCore settEmit
  split
  · exact h
  · split <;> have ha := (admitCore_low h).snd ‹_›
    exacts [ha, ha.put Reg.SETT_DROP_V _, ha, ha]

theorem recordRaw_low (x : Rec) : LowKept m (recordRaw cls x s).2.regs := by
  unfold recordRaw
  split
  · split
    · split
      · split <;> exact h
      · exact h.put Reg.LDG_DROP_V _
    · split <;> have ha := (admitCore_low h).snd ‹_› <;> exact ha
  · split
    · unfold actBuffer
      split
      · exact h
      · have hs : LowKept m ({ s with sett := { s.sett with actSeq := s.sett.actSeq + 1 } } : State).regs := h
        exact submitCore_low hs _
    · split
      · exact settCore_low h ..
      · split
        exacts [h, h.put Reg.LDG_DROP_V _]

theorem faultRecord_low (action : Action) (code n detail : Nat) : LowKept m (faultRecord action code n detail s).2.regs := by
  unfold faultRecord
  extract_lets body
  split
  exacts [recordRaw_low h _, settCore_low h ..]

theorem requestRestart_low (code : Nat) : LowKept m (requestRestart code s).regs := by
  unfold requestRestart
  split
  · exact h
  · split
    · split
      exacts [faultRecord_low (noteFault_low h .log 0x1402) .., noteFault_low h .log 0x1402]
    · exact h

theorem runAction_low (action : Action) (code : Nat) : LowKept m (runAction action code s).regs := by
  cases action with
  | restart =>
    rw [runAction]
    split
    exacts [h, requestRestart_low h code]
  | halt => exact (h.put Reg.SUP_HH_STAT_HALT 1).put Reg.SES_PROF_CUR 7
  | log | isolate | reduce | shed => exact h

theorem raiseAs_low (action : Action) (code info : Nat) : LowKept m (raiseAs action code info s).regs := by
  unfold raiseAs
  extract_lets detail t hhAon hh reported recorded
  have ht : LowKept m t.regs := noteFault_low h action code
  split
  · exact ht
  · have hr : LowKept m reported.regs := ht
    refine runAction_low ?_ action code
    dsimp only [recorded]
    split
    exacts [noteDrop_low (faultRecord_low hr ..), hr]

omit h in
theorem p0Fault_low {x : Admit × State} (hx : LowKept m x.2.regs) : LowKept m (p0Fault q cls x).2.regs := by
  unfold p0Fault
  split
  · split
    exacts [raiseAs_low hx .., hx]
  all_goals exact hx

theorem logRec_low (typ : Nat) (body : Bytes) : LowKept m (logRec typ body s).regs := by
  unfold logRec ledgerPut ledgerPutAs
  split <;> have hput := (p0Fault_low (q := .ingest) (recordRaw_low h _)).snd ‹_›
  exacts [raiseAs_low hput .., hput]

end Low

theorem State.rd_logRec {a typ : Nat} {body : Bytes} {s : State} (h : regsWf s.regs = true) (ha : a < Reg.PWR_STAT := by decide) :
    (logRec typ body s).rd a = s.rd a := by
  obtain ⟨-, hrd⟩ := logRec_low (.refl s.regs) typ body
  exact hrd h a ha

theorem logRec_chron (typ : Nat) (body : Bytes) (s : State) : (logRec typ body s).chron = s.chron := (logRec_onlyQueues (.refl s) typ body).chron

/-! ### The crystal and the lock (R250) -/

section Lock

variable {s : State}

theorem exec_crystalLost (s : State) : exec .crystalLost s = if s.bit Reg.CHRON_STAT_LOCK then
    .next (logRec 0x31 [1] (raise 0x0101 0 ((s.setBit Reg.CHRON_STAT_DEGR true).setBit Reg.CHRON_STAT_LOCK false))) else .next s := rfl

/-- The FLL has locked. -/
def fllLocked (s : State) : State := { s with chron := { s.chron with lockAt := some s.now } }.setBit Reg.CHRON_STAT_LOCK true

theorem exec_fllLock (s : State) : exec .fllLock s = .next (if s.bit Reg.CHRON_STAT_LOCK then s
    else if s.bit Reg.CHRON_STAT_DEGR then logRec 0x31 [2] (fllLocked s) else fllLocked s) := rfl

theorem exec_degrClear_locked {u : Nat} (hl : s.bit Reg.CHRON_STAT_LOCK = true) (hu : s.chron.lockAt = some u) :
    exec .degrClear s = if s.after u 10000000 then .next (s.setBit Reg.CHRON_STAT_DEGR false) else .next s := by
  change execDegrClear s = _
  simp only [execDegrClear, hl, hu, Bool.true_and]

theorem exec_fllLockTimeout_late (hl : s.bit Reg.CHRON_STAT_LOCK = false) (hn : s.chron.lockAt = none)
    (ha : s.after s.chron.porAt 1000000 = true) : exec .fllLockTimeout s = if s.chron.lockFault then .next s
      else .next (logRec 0x31 [3] (raise 0x0103 0 { s with chron := { s.chron with lockFault := true } })) := by
  change execFllLockTimeout s = _
  cases hf : s.chron.lockFault <;> simp [execFllLockTimeout, hl, hn, ha, hf]

end Lock

/-! ### The always-on rail on VBKP (R252, R260) -/

/-- CHRON_STAT and PWR_STAT show which supply the always-on rail has. -/
def backupShown (b : Bool) (s : State) : State := (s.setBit Reg.CHRON_STAT_BKP b).setBit Reg.PWR_STAT_BKP b

/-- TIME_PPS is low on VBKP (R260). -/
def ppsCut (s : State) : State := if s.chron.ppsHigh then captureEdge 3 false { s with chron := { s.chron with ppsHigh := false } } else s

section Backup

variable {s : State}

theorem exec_backupSwitch_back (s : State) : exec (.backupSwitch false) s = .next (backupShown false s) := rfl

theorem exec_backupSwitch_away (s : State) :
    exec (.backupSwitch true) s = .next (ppsCut ((backupShown true s).setBit Reg.CHRON_STAT_BKPSEEN true)) := rfl

theorem ppsCut_chron (s : State) : (ppsCut s).chron = { s.chron with ppsHigh := false } := by
  unfold ppsCut
  cases h : s.chron.ppsHigh with
  | true => exact captureEdge_chron ..
  | false =>
    change s.chron = _
    rw [← h]

theorem ppsCut_now (s : State) : (ppsCut s).now = s.now := by
  unfold ppsCut
  split
  · exact congrArg Prod.fst (captureEdge_clock 3 false { s with chron := { s.chron with ppsHigh := false } })
  · rfl

theorem ppsCut_stat (h : regsWf s.regs = true) : (ppsCut s).rd Reg.CHRON_STAT = s.rd Reg.CHRON_STAT := by
  unfold ppsCut
  split
  · refine captureEdge_rd_apart (s := { s with chron := { s.chron with ppsHigh := false } }) h fun n _ => ?_
    simp only [captureRegs, Reg.CHRON_STAT, Reg.TIM_CAP, Reg.TIM_FLG, List.mem_cons, List.not_mem_nil, or_false]
    omega
  · rfl

theorem backupShown_bits (b : Bool) (h : regsWf s.regs = true) : (backupShown b s).bit Reg.CHRON_STAT_BKP = b ∧
    (backupShown b s).bit Reg.CHRON_STAT_BKPSEEN = s.bit Reg.CHRON_STAT_BKPSEEN ∧ (backupShown b s).timeValid = s.timeValid := by
  have w := State.regsWf_setBit Reg.CHRON_STAT_BKP b h
  unfold backupShown State.timeValid
  simp (disch := decide) only [State.bit_setBit_apart _ w, State.bit_setBit_apart _ h, State.bit_setBit_same _ h, and_self]

theorem backupShown_regsWf (b : Bool) (h : regsWf s.regs = true) : regsWf (backupShown b s).regs = true :=
  State.regsWf_setBit _ b (State.regsWf_setBit _ b h)

/-- R252: the switch shows itself, and TIME_VALID stays. -/
theorem backupAway_bits (h : regsWf s.regs = true) :
    let t := ppsCut ((backupShown true s).setBit Reg.CHRON_STAT_BKPSEEN true)
    t.bit Reg.CHRON_STAT_BKP = true ∧ t.bit Reg.CHRON_STAT_BKPSEEN = true ∧ t.timeValid = s.timeValid := by
  intro t
  have w := backupShown_regsWf true h
  obtain ⟨hbkp, -, hvalid⟩ := backupShown_bits true h
  have ht (f : Fld) (hf : f.reg = Reg.CHRON_STAT) : t.bit f = ((backupShown true s).setBit Reg.CHRON_STAT_BKPSEEN true).bit f :=
    State.bit_of_get (State.get_of_rd (hf ▸ ppsCut_stat (State.regsWf_setBit _ true w)))
  refine ⟨?_, ?_, ?_⟩
  · rw [ht _ rfl, State.bit_setBit_apart _ w (by decide) (by decide) (by decide), hbkp]
  · rw [ht _ rfl, State.bit_setBit_same _ w (by decide) rfl]
  · rw [State.timeValid, ht _ rfl, State.bit_setBit_apart _ w (by decide) (by decide) (by decide), ← State.timeValid, hvalid]

end Backup

/-! ### The compensation (R254) -/

section Compensation

variable {s : State}

theorem exec_compSample_holdover {reading : Option Int} (h : s.holdover = true) : exec (.compSample reading) s = .next s := if_pos (.inl h)

section Due

variable (hh : s.holdover = false) (hdue : s.after s.chron.compAt s.compPeriod = true) (href : s.refBad = false)

include hh hdue href

theorem exec_compSample_fails : exec (.compSample none) s = .next (raise 0x0102 0 { s with chron := { s.chron with compAt := s.now } }) := by
  change execCompSample none s = _
  simp only [execCompSample, hh, hdue, href, Bool.false_eq_true, Bool.true_eq_false, or_self, if_false]

theorem exec_compSample_corrects {temp : Int} {c : CrystalE} (hc : s.chron.crystal = some c) : exec (.compSample (some temp)) s =
    .next ((enterSamples [temp] { s with chron := { s.chron with compAt := s.now, corr := corrFor c temp } }).put Reg.CHRON_COMP_TEMP
      (ofInt 16 temp)) := by
  change execCompSample (some temp) s = _
  simp only [execCompSample, hh, hdue, href, hc, Bool.false_eq_true, Bool.true_eq_false, or_self, if_false]

end Due

end Compensation

/-! ### Setting the time (R256 to R258) -/

section Setting

variable {s : State}

section SetTime

variable {m : Bytes} {at_ : Nat} {t : State} (h : diagPop (diagSettle s) = some (m, at_, t)) (hr : isRoutine 0xF007 m = true)

include h hr

theorem exec_setTime_noImage (hi : t.img.run = none) : exec .setTime s = .next (diagSettle (diagNeg 0x31 0x22 t)) := by
  change execSetTime s = _
  simp only [execSetTime, routineServe_taken h hr, hi]

theorem exec_setTime_image {i : Image} (hi : t.img.run = some i) : exec .setTime s = .next (diagSettle
    (if fieldBe (m.drop 4) 0 8 < i.built * 4194304 then diagNeg 0x31 0x31 t
     else routineOk 0xF007 [] (applyTimeSet (fieldBe (m.drop 4) 0 8 + (t.now - at_)) (toInt 16 (fieldBe (m.drop 4) 8 2)) t))) := by
  change execSetTime s = _
  simp only [execSetTime, routineServe_taken h hr, hi]

end SetTime

/-- What is to be made up when a time is set. -/
def State.timeError (s : State) (tset : Nat) : Int := (tset : Int) - s.chron.count.toNat

/-- R257: TIME_VALID is set and the error is at most 1 s. -/
def State.slews (s : State) (tset : Nat) : Bool := s.timeValid && decide ((s.timeError tset).natAbs ≤ 4194304)

/-- A slew begins (R257). -/
def slewBegun (tset : Nat) (off : Int) (s : State) : State :=
  let t := s.wr Reg.CHRON_UTCOFF (BitVec.ofInt 32 off)
  { t with chron := { t.chron with slew := s.timeError tset, slewAcc := 0, deferred := none } }.setBit Reg.CHRON_STAT_SLEW (s.timeError tset != 0)

theorem applyTimeSet_eq (tset : Nat) (off : Int) (s : State) : applyTimeSet tset off s =
    if s.slews tset then slewBegun tset off s
    else if s.planOutstanding then { s with chron := { s.chron with deferred := some ⟨tset, s.now, off⟩ } }
    else timeSetStep tset off { s with chron := { s.chron with deferred := none } } := rfl

theorem State.slews_of_small {tset : Nat} (hv : s.timeValid = true) (he : (s.timeError tset).natAbs ≤ 4194304) : s.slews tset = true := by
  rw [State.slews, hv, decide_eq_true he, Bool.and_self]

theorem State.not_slews {tset : Nat} (h : s.timeValid = false ∨ 4194304 < (s.timeError tset).natAbs) : s.slews tset = false := by
  rw [State.slews]
  rcases h with hv | he
  · rw [hv, Bool.false_and]
  · rw [decide_eq_false (Nat.not_le.mpr he), Bool.and_false]

theorem slewBegun_utcoff (tset : Nat) (off : Int) (h : regsWf s.regs = true) : (slewBegun tset off s).rd Reg.CHRON_UTCOFF = BitVec.ofInt 32 off :=
  (State.rd_setBit_apart _ (State.regsWf_wr s _ (BitVec.ofInt 32 off) h) (by decide)).trans ((State.rd_wr s _ _ _ h).trans (if_pos rfl))

/-! ### A step (R257) -/

/-- The Chronicle's count at the target, a slew dropped (R257). -/
def chronSet (target : Nat) (s : State) : State :=
  { s with chron := { s.chron with count := BitVec.ofNat 64 target, slew := 0, slewAcc := 0, stepSinceMsg := true } }

/-- The Chronicle loaded in one tick, before its record. -/
def chronLoaded (target : Nat) (s : State) : State :=
  (((chronSet target s).setBit Reg.CHRON_STAT_STEPPED true).put Reg.CHRON_STAT_SEQ (s.get Reg.CHRON_STAT_SEQ + 1)).setBit Reg.CHRON_STAT_SLEW false

/-- With no motion block held, a step is the load and its record. -/
theorem chronStep_loads (target source : Nat) (h : s.led.motion = none) :
    ∃ body, chronStep target source s = logRec 0x30 body (chronLoaded target s) := by
  have hflush : motionFlush s = s := by simp only [motionFlush, h]
  rw [chronStep, hflush]
  exact ⟨_, rfl⟩

section Loaded

variable (target : Nat) (h : regsWf s.regs = true)

include h

theorem chronLoaded_regsWf : regsWf (chronLoaded target s).regs = true :=
  State.regsWf_setBit _ _ (State.regsWf_put _ _ _ (State.regsWf_setBit Reg.CHRON_STAT_STEPPED true h))

theorem chronLoaded_stat : (chronLoaded target s).bit Reg.CHRON_STAT_STEPPED = true ∧ (chronLoaded target s).timeValid = s.timeValid ∧
    (chronLoaded target s).get Reg.CHRON_STAT_SEQ = (s.get Reg.CHRON_STAT_SEQ + 1) % 256 := by
  have w : regsWf (chronSet target s).regs = true := h
  have w1 := State.regsWf_setBit Reg.CHRON_STAT_STEPPED true w
  have w2 := State.regsWf_put _ Reg.CHRON_STAT_SEQ (s.get Reg.CHRON_STAT_SEQ + 1) w1
  unfold chronLoaded State.timeValid
  refine ⟨?_, ?_, ?_⟩
  · rw [State.bit_setBit_apart _ w2 (by decide) (by decide) (by decide), State.bit_put_apart _ w1 (by decide) (by decide) (by decide),
      State.bit_setBit_same _ w (by decide) rfl]
  · rw [State.bit_setBit_apart _ w2 (by decide) (by decide) (by decide), State.bit_put_apart _ w1 (by decide) (by decide) (by decide),
      State.bit_setBit_apart _ w (by decide) (by decide) (by decide)]
    rfl
  · rw [State.get_setBit_apart w2 (by decide) (by decide) (by decide), State.get_put_same _ _ _ w1 (by decide)]
    rfl

theorem chronLoaded_utcoff : (chronLoaded target s).rd Reg.CHRON_UTCOFF = s.rd Reg.CHRON_UTCOFF := by
  have w : regsWf (chronSet target s).regs = true := h
  have w1 := State.regsWf_setBit Reg.CHRON_STAT_STEPPED true w
  exact (State.rd_setBit_apart _ (State.regsWf_put _ _ _ w1) (by decide)).trans
    ((State.rd_put_apart _ w1 (by decide)).trans (State.rd_setBit_apart _ w (by decide)))

end Loaded

/-- CHRON_UTCOFF and TIME_VALID in the tick of the step (R253, R257). -/
def timeMarked (off : Int) (s : State) : State := (s.wr Reg.CHRON_UTCOFF (BitVec.ofInt 32 off)).setBit Reg.CHRON_STAT_TVALID true

theorem timeMarked_regsWf (off : Int) (h : regsWf s.regs = true) : regsWf (timeMarked off s).regs = true :=
  State.regsWf_setBit _ _ (State.regsWf_wr s _ _ h)

theorem timeMarked_shows (off : Int) (h : regsWf s.regs = true) : (timeMarked off s).timeValid = true ∧
    (timeMarked off s).get Reg.CHRON_STAT_SEQ = s.get Reg.CHRON_STAT_SEQ ∧ (timeMarked off s).rd Reg.CHRON_UTCOFF = BitVec.ofInt 32 off := by
  have w := State.regsWf_wr s Reg.CHRON_UTCOFF (BitVec.ofInt 32 off) h
  refine ⟨State.bit_setBit_same true w (by decide) rfl, ?_, ?_⟩
  · exact (State.get_setBit_apart w (by decide) (by decide) (by decide)).trans (State.get_of_rd (State.rd_wr_apart _ h (by decide)))
  · exact (State.rd_setBit_apart true w (by decide)).trans ((State.rd_wr s _ _ _ h).trans (if_pos rfl))

theorem timeSetStep_loads (target : Nat) (off : Int) (h : s.led.motion = none) :
    ∃ body, timeSetStep target off s = logRec 0x30 body (chronLoaded target (timeMarked off s)) :=
  chronStep_loads (s := timeMarked off s) target 0 h

theorem timeSetStep_chron (target : Nat) (off : Int) (h : s.led.motion = none) : (timeSetStep target off s).chron.count = BitVec.ofNat 64 target ∧
    (timeSetStep target off s).chron.slew = 0 ∧ (timeSetStep target off s).chron.stepSinceMsg = true := by
  obtain ⟨body, ht⟩ := timeSetStep_loads target off h
  rw [ht, logRec_chron]
  exact ⟨rfl, rfl, rfl⟩

theorem timeSetStep_shows (target : Nat) (off : Int) (h : s.led.motion = none) (hw : regsWf s.regs = true) :
    let t := timeSetStep target off s
    t.bit Reg.CHRON_STAT_STEPPED = true ∧ t.timeValid = true ∧ t.get Reg.CHRON_STAT_SEQ = (s.get Reg.CHRON_STAT_SEQ + 1) % 256 ∧
      t.rd Reg.CHRON_UTCOFF = BitVec.ofInt 32 off := by
  intro t
  obtain ⟨body, ht⟩ := timeSetStep_loads target off h
  have w := timeMarked_regsWf off hw
  have w1 := chronLoaded_regsWf target w
  have hget (f : Fld) (hf : f.reg = Reg.CHRON_STAT) : t.get f = (chronLoaded target (timeMarked off s)).get f := by
    rw [show t = _ from ht]
    exact State.get_of_rd (hf ▸ State.rd_logRec w1)
  obtain ⟨hstepped, hvalid, hseq⟩ := chronLoaded_stat target w
  obtain ⟨hvalid', hseq', hoff⟩ := timeMarked_shows off hw
  refine ⟨(State.bit_of_get (hget _ rfl)).trans hstepped, (State.bit_of_get (hget _ rfl)).trans (hvalid.trans hvalid'), ?_, ?_⟩
  · rw [hget _ rfl, hseq, hseq']
  · rw [show t = _ from ht, State.rd_logRec w1, chronLoaded_utcoff target w, hoff]

theorem exec_deferredStep_some {d : DeferredStep} (hd : s.chron.deferred = some d) : exec .deferredStep s =
    if !s.planOutstanding || s.after d.sampledAt 5000 then
      .next (timeSetStep (d.target + (s.now - d.sampledAt)) d.utcoff { s with chron := { s.chron with deferred := none } })
    else .next s := by
  change execDeferredStep s = _
  simp only [execDeferredStep, hd]

end Setting

/-! ### Events of a tick (R257, R260) -/

section Events

variable {s : State}

theorem exec_secondTick (s : State) : exec .secondTick s = tickIf s.secondDue s := rfl

theorem exec_slewDone_ends (h0 : s.chron.slew ≠ 0) (h1 : s.chronNext.slew = 0) : exec .slewDone s = .next (tick s) :=
  tickIf_true (by simp [h0, h1])

theorem exec_ppsFall_due {r : Nat} (hh : s.chron.ppsHigh = true) (hr : s.chron.ppsRose = some r) (hlate : r + 524288 ≤ s.now + 1) :
    exec .ppsFall s = .next (tick s) :=
  tickIf_true (by simp only [hh, hr, Option.any_some, decide_eq_true hlate, Bool.and_self])

/-- The times all lie at least `k` back, so none lies less than `k` back. -/
theorem any_lt_of_all_le {o : Option Nat} {k now : Nat} (h : o.all (fun r => decide (r + k ≤ now)) = true) :
    o.any (fun r => decide (now < r + k)) = false := by
  cases o with
  | none => rfl
  | some r => exact decide_eq_false (Nat.not_lt.mpr (of_decide_eq_true h))

section Pps

variable (ha : s.ppsAllowed = true) (hv : s.timeValid = true)

include ha hv

theorem ppsSecond_late (h : s.chron.ppsRose.any (fun r => decide (s.now < r + 2097152)) = false) :
    ppsSecond s = captureEdge 3 true (snapshot { s with chron := { s.chron with ppsHigh := true, ppsRose := some s.now } }) := by
  rw [ppsSecond, if_neg (ne_false_of_eq_true ha), if_neg (ne_false_of_eq_true hv), if_neg (ne_true_of_eq_false h)]

theorem ppsSecond_rises (h : s.chron.ppsRose.all (fun r => decide (r + 2097152 ≤ s.now)) = true) :
    (ppsSecond s).chron.ppsHigh = true ∧ (ppsSecond s).chron.ppsRose = some s.now := by
  obtain ⟨b, hchron, -⟩ := snapshot_chron { s with chron := { s.chron with ppsHigh := true, ppsRose := some s.now } }
  rw [ppsSecond_late ha hv (any_lt_of_all_le h), captureEdge_chron, hchron]
  exact ⟨rfl, rfl⟩

theorem ppsSecond_early {r : Nat} (hr : s.chron.ppsRose = some r) (hearly : s.now < r + 2097152) : ppsSecond s = s := by
  have hany : s.chron.ppsRose.any (fun r => decide (s.now < r + 2097152)) = true := by
    rw [hr, Option.any_some, decide_eq_true hearly]
  rw [ppsSecond, if_neg (ne_false_of_eq_true ha), if_neg (ne_false_of_eq_true hv), if_pos hany]

end Pps

end Events

/-- Settles O29: each command by the equation of its case; a step by what the load leaves and the record does not touch. -/
theorem clockSourcesAndTimeSetting : Obligations.ClockSourcesAndTimeSetting := by
  refine ⟨⟨fun s h => ?lost, fun s h => ?lostFree, fun s => ?lock, fun u s hl hu => ?degr, fun s hl hn ha => ?timeout, fun b s => ?backup,
      fun temp c s hdue href => ?comp, by decide⟩,
    fun m at_ i s t h hr => ?set, fun tset off s => ?apply, fun target off s h => ?step, fun d s hd => ?deferred,
    fun s h => ?second, fun s h => ?noSecond, fun s h0 h1 => exec_slewDone_ends h0 h1, fun r s hh hr hlate => exec_ppsFall_due hh hr hlate,
    fun s ha hv => ⟨ppsSecond_rises ha hv, fun r => ppsSecond_early ha hv⟩⟩
  case lost => rw [exec_crystalLost, if_pos h]
  case lostFree => rw [exec_crystalLost, if_neg (ne_true_of_eq_false h)]
  case lock =>
    refine ⟨fun hl => ?_, fun hl hd => ?_, fun hl hd => ?_⟩ <;> rw [exec_fllLock, hl]
    · rfl
    · rw [hd]
      rfl
    · rw [hd]
      rfl
  case degr =>
    rw [exec_degrClear_locked hl hu]
    exact ⟨fun h => if_pos h, fun h => if_neg (ne_true_of_eq_false h)⟩
  case timeout =>
    rw [exec_fllLockTimeout_late hl hn ha]
    exact ⟨fun h => if_neg (ne_true_of_eq_false h), fun h => if_pos h⟩
  case backup =>
    cases b with
    | false => exact ⟨_, exec_backupSwitch_back s, rfl, rfl, rfl, backupShown_bits false, fun h => nomatch h⟩
    | true =>
      refine ⟨_, exec_backupSwitch_away s, ?_, ?_, ppsCut_now _, backupAway_bits, fun _ => ?_⟩ <;> rw [ppsCut_chron] <;> rfl
  case comp =>
    exact ⟨exec_compSample_holdover, fun hh => exec_compSample_fails hh hdue href, fun hh hc => exec_compSample_corrects hh hdue href hc⟩
  case set =>
    refine ⟨exec_setTime_noImage h hr, fun hi hlt => ?_, fun hi hle => ?_⟩ <;> rw [exec_setTime_image h hr hi]
    · rw [if_pos hlt]
    · rw [if_neg (Nat.not_lt.mpr hle)]
  case apply =>
    intro err t
    have ht : t = _ := applyTimeSet_eq tset off s
    refine ⟨fun hv he => ?slews, fun h hp => ?defers, fun h hp => ?steps⟩
    case slews =>
      rw [ht, if_pos (State.slews_of_small hv he)]
      exact ⟨rfl, rfl, slewBegun_utcoff tset off⟩
    case defers => rw [ht, if_neg (ne_true_of_eq_false (State.not_slews h)), if_pos hp]
    case steps => rw [ht, if_neg (ne_true_of_eq_false (State.not_slews h)), if_neg (ne_true_of_eq_false hp)]
  case step =>
    obtain ⟨hcount, hslew, hmsg⟩ := timeSetStep_chron target off h
    exact ⟨hcount, hslew, hmsg, timeSetStep_shows target off h⟩
  case deferred =>
    rw [exec_deferredStep_some hd]
    refine ⟨fun h => if_pos ?_, fun hp ha => if_neg ?_⟩
    · rcases h with hp | ha
      · rw [hp]
        rfl
      · rw [ha, Bool.or_true]
    · rw [hp, ha]
      exact Bool.false_ne_true
  case second => exact tickIf_true h
  case noSecond => exact tickIf_false h

end Sys2Proof.Machine
end

section
/-! PROOFS. Byte strings: what the helpers of R7 and the check codes of R8 give for length and value, and how a field is read out of a string. -/

namespace Sys2Proof.Machine

/-! ### Lengths -/

@[simp] theorem be_length : ∀ n v : Nat, (be n v).length = n
  | 0, _ => rfl
  | n + 1, v => by rw [be, List.length_append, be_length n, List.length_singleton]

@[simp] theorem zeros_length (n : Nat) : (zeros n).length = n := List.length_replicate

@[simp] theorem sub_length (b : Bytes) (i n : Nat) : (sub b i n).length = n := fit_length n _

theorem fit_of_length {b : Bytes} {n : Nat} (h : b.length = n) : fit n b = b := List.take_left' h

theorem shaBlock_length {h : List Nat} (hh : h.length = 8) (blk : Bytes) : (shaBlock h blk).length = 8 := by
  rw [shaBlock, List.length_zipWith, hh]
  rfl

@[simp] theorem sha256_length (m : Bytes) : (sha256 m).length = 32 := by
  have hstate : ((chunks 64 (shaPad m)).foldl shaBlock shaInit).length = 8 :=
    List.foldlRecOn _ (motive := fun h : List Nat => h.length = 8) _ rfl fun _ hh b _ => shaBlock_length hh b
  rw [sha256, List.length_flatMap, List.map_congr_left (g := fun _ => 4) fun v _ => be_length 4 v, List.map_const', hstate]
  rfl

@[simp] theorem hmac_length (key m : Bytes) : (hmac key m).length = 32 := sha256_length _

theorem kdfAux_length (key fixed : Bytes) : ∀ n i : Nat, (kdfAux key fixed n i).length = 32 * n
  | 0, _ => rfl
  | n + 1, i => by rw [kdfAux, List.length_append, hmac_length, kdfAux_length key fixed n]; omega

/-- A key of whole bytes has the length asked for. -/
theorem kdf_length (key label context : Bytes) (bits : Nat) : (kdf key label context bits).length = bits / 8 := by
  rw [kdf, List.length_take, kdfAux_length]
  omega

/-! ### Numbers in big-endian order (R7) -/

theorem beNat_append_singleton (b : Bytes) (x : Byte) : beNat (b ++ [x]) = beNat b * 256 + x.toNat := by
  rw [beNat, List.foldl_append]
  rfl

theorem beNat_be : ∀ n v : Nat, beNat (be n v) = v % 256 ^ n
  | 0, v => (Nat.mod_one v).symm
  | n + 1, v => by
    calc beNat (be (n + 1) v) = v / 256 % 256 ^ n * 256 + v % 256 := by rw [be, beNat_append_singleton, beNat_be n, BitVec.toNat_ofNat]
      _ = v % 256 ^ (n + 1) := by rw [Nat.pow_succ', Nat.mod_mul, Nat.mul_comm, Nat.add_comm]

theorem beNat_be_of_lt {n v : Nat} (h : v < 256 ^ n) : beNat (be n v) = v := by
  rw [beNat_be, Nat.mod_eq_of_lt h]

/-- A field is read out of the string around it. -/
theorem fieldBe_append {a t : Bytes} (rest : Bytes) {i n : Nat} (ha : a.length = i) (ht : t.length = n) :
    fieldBe (a ++ t ++ rest) i n = beNat t := congrArg beNat (sub_append rest ha ht)

/-! ### The CRC-32C of R8 -/

theorem crcRight_lt {poly : Nat} (hp : poly < 2 ^ 32) : ∀ (k : Nat) {c : Nat}, c < 2 ^ 32 → crcRight poly k c < 2 ^ 32
  | 0, _, hc => hc
  | k + 1, c, hc => by
    refine crcRight_lt hp k ?_
    split
    · exact Nat.xor_lt_two_pow (by omega) hp
    · omega

theorem crc32c_lt (b : Bytes) : crc32c b < 2 ^ 32 :=
  Nat.xor_lt_two_pow (List.foldlRecOn b (motive := (· < 2 ^ 32)) _ (by decide) fun _ hc x _ =>
    crcRight_lt (by decide) 8 (Nat.xor_lt_two_pow hc (by have := x.isLt; omega))) (by decide)

/-- A string with its CRC behind it gives the CRC back. -/
theorem fieldBe_crc {b : Bytes} {n : Nat} (h : b.length = n) : fieldBe (b ++ be 4 (crc32c b)) n 4 = crc32c b := by
  rw [← List.append_nil (b ++ _), fieldBe_append [] h (be_length 4 _), beNat_be_of_lt (crc32c_lt b)]

end Sys2Proof.Machine
end

section
/-! PROOFS. A sealed record: its bytes, and what sealing changes. -/

namespace Sys2Proof.Machine

/-! ### The bytes of a record (R290 to R292) -/

@[simp] theorem Rec.tail_length (r : Rec) : r.tail.length = 40 := by
  simp [Rec.tail]

@[simp] theorem chainMac_length (key prev b : Bytes) : (chainMac key prev b).length = 16 := by
  rw [chainMac, List.length_take, hmac_length]
  rfl

/-- The MAC covers the first 44 bytes alone. -/
theorem chainMac_append {b : Bytes} (hb : b.length = 44) (key prev rest : Bytes) : chainMac key prev (b ++ rest) = chainMac key prev b := by
  rw [chainMac, chainMac, List.take_left' hb, List.take_of_length_le hb.le]

/-- A record's first 44 bytes with a MAC and the CRC over both. -/
def sealedBytes (b mac : Bytes) : Bytes := b ++ mac ++ be 4 (crc32c (b ++ mac))

section Sealed

variable {b mac : Bytes} (hb : b.length = 44) (hm : mac.length = 16)

include hb hm

theorem sealedBytes_length : (sealedBytes b mac).length = 64 := by
  rw [sealedBytes, List.length_append, List.length_append, hb, hm, be_length]

theorem sealedBytes_crcOk : recCrcOk (sealedBytes b mac) = true := by
  have hlen : (b ++ mac).length = 60 := by rw [List.length_append, hb, hm]
  rw [recCrcOk, sealedBytes_length hb hm, sealedBytes, fieldBe_crc hlen, List.take_left' hlen, beq_self_eq_true, beq_self_eq_true]
  rfl

theorem sealedBytes_mac : recMac (sealedBytes b mac) = mac := sub_append _ hb hm

end Sealed

theorem sealedBytes_num (num : Nat) (r : Rec) (mac : Bytes) (h : num < 2 ^ 32) : recNum (sealedBytes (be 4 num ++ r.tail) mac) = num := by
  rw [sealedBytes, List.append_assoc, List.append_assoc]
  exact (fieldBe_append (a := []) _ rfl (be_length 4 num)).trans (beNat_be_of_lt h)

/-! ### Sealing (R291, R295) -/

/-- The summary of the days is noted with the ledger's own state. -/
theorem summaryNote_beside (b : Bytes) (s : State) :
    ∃ summary rider, summaryNote b s = { s with led := { s.led with summary := summary, rider := rider } } := by
  dsimp only [summaryNote]
  split <;> split
  · exact ⟨_, _, rfl⟩
  · exact ⟨_, _, rfl⟩
  · split
    exacts [⟨_, _, rfl⟩, ⟨_, _, rfl⟩]
  · split
    exacts [⟨_, _, rfl⟩, ⟨_, _, rfl⟩]

theorem sectorProgram_beside (s : State) :
    ∃ programming, sectorProgram s = { s with ledAon := { s.ledAon with programming := programming } } := by
  unfold sectorProgram
  split
  exacts [⟨_, rfl⟩, ⟨_, rfl⟩]

/-- A record enters the open sector and the chain goes on from it. -/
def recEntered (key : Bytes) (r : Rec) (s : State) : State :=
  let b := be 4 (s.get Reg.LDG_NEXT_V) ++ r.tail
  let mac := chainMac key s.led.mac b
  { s with
    ledAon := { s.ledAon with sector := s.ledAon.sector ++ [sealedBytes b mac],
                              sectorAt := if s.ledAon.sector = [] then s.now else s.ledAon.sectorAt,
                              lastSecs := r.secs,
                              keptDay := if r.flags % 2 = 1 then some (s.dayOf r.secs) else s.ledAon.keptDay },
    led := { s.led with mac := mac, span := sealedBytes b mac :: s.led.span } }.put Reg.LDG_NEXT_V (s.get Reg.LDG_NEXT_V + 1)

theorem recEntered_ledAon (key : Bytes) (r : Rec) (s : State) : (recEntered key r s).ledAon = { s.ledAon with
    sector := s.ledAon.sector ++ [sealedBytes (be 4 (s.get Reg.LDG_NEXT_V) ++ r.tail) (chainMac key s.led.mac (be 4 (s.get Reg.LDG_NEXT_V) ++ r.tail))]
    sectorAt := if s.ledAon.sector = [] then s.now else s.ledAon.sectorAt
    lastSecs := r.secs
    keptDay := if r.flags % 2 = 1 then some (s.dayOf r.secs) else s.ledAon.keptDay } := rfl

theorem recEntered_led (key : Bytes) (r : Rec) (s : State) : (recEntered key r s).led = { s.led with
    mac := chainMac key s.led.mac (be 4 (s.get Reg.LDG_NEXT_V) ++ r.tail)
    span := sealedBytes (be 4 (s.get Reg.LDG_NEXT_V) ++ r.tail) (chainMac key s.led.mac (be 4 (s.get Reg.LDG_NEXT_V) ++ r.tail)) :: s.led.span } :=
  rfl

/-- Sealing is the record's entry, with the summary and the sector's program beside it. -/
theorem sealRec_beside (key : Bytes) (r : Rec) (s : State) :
    let t := recEntered key r s
    ∃ summary rider programming,
      sealRec key r s = { t with
        ledAon := { t.ledAon with programming := programming }
        led := { t.led with summary := summary, rider := rider } } ∧
      (s.ledAon.sector.length < 7 → programming = s.ledAon.programming) ∧
      (7 ≤ s.ledAon.sector.length → s.ledAon.programming = 0 → s.served 0 = true → programming = 1) := by
  intro t
  set full := sealedBytes (be 4 (s.get Reg.LDG_NEXT_V) ++ r.tail) (chainMac key s.led.mac (be 4 (s.get Reg.LDG_NEXT_V) ++ r.tail))
  have hseal : sealRec key r s =
    if 8 ≤ (summaryNote full t).ledAon.sector.length then sectorProgram (summaryNote full t) else summaryNote full t := rfl
  obtain ⟨summary, rider, ht⟩ := summaryNote_beside full t
  have hidle : t.ledAon.programming = s.ledAon.programming := by simp only [t, recEntered_ledAon]
  have hserve : t.led.served = s.led.served := by simp only [t, recEntered_led]
  have hsector : t.ledAon.sector ≠ [] := List.append_ne_nil_of_right_ne_nil _ (List.cons_ne_nil _ _)
  have hlen : t.ledAon.sector.length = s.ledAon.sector.length + 1 := List.length_append
  rw [hseal, ht]
  clear_value t
  split
  next h8 =>
    have h7 : 8 ≤ t.ledAon.sector.length := h8
    obtain ⟨programming, hp⟩ := sectorProgram_beside { t with led := { t.led with summary := summary, rider := rider } }
    refine ⟨summary, rider, programming, hp, fun h => by omega, fun _ h0 hserved => ?_⟩
    have hbegins : ¬ (t.ledAon.sector = [] ∨ t.ledAon.programming ≠ 0) := not_or.2 ⟨hsector, fun h => h (hidle.trans h0)⟩
    rw [sectorProgram, if_neg hbegins] at hp
    exact (congrArg (·.ledAon.programming) hp).symm.trans (if_pos ((congrArg (·.getD 0 false) hserve).trans hserved))
  next h8 => exact ⟨summary, rider, t.ledAon.programming, rfl, fun _ => hidle, fun h => absurd (hlen ▸ Nat.succ_le_succ h) h8⟩

/-- Settles O32: the bytes by their lengths, the rest by what sealing changes. -/
theorem recordSealing : Obligations.RecordSealing := by
  intro key r s hregs t num b full
  have hsealed : full = sealedBytes b (chainMac key s.led.mac b) := rfl
  obtain ⟨_, _, programming, ht, hfew, hfull⟩ := sealRec_beside key r s
  have hb : b.length = 44 := by simp [b]
  have hm := chainMac_length key s.led.mac b
  have hmac : chainMac key s.led.mac full = chainMac key s.led.mac b := by
    rw [hsealed, sealedBytes, List.append_assoc, chainMac_append hb]
  rw [hmac, hsealed, show t = _ from ht, recEntered_ledAon, recEntered_led]
  dsimp only
  refine ⟨rfl, sealedBytes_length hb hm, sealedBytes_crcOk hb hm, sealedBytes_mac hb hm, fun hnum => ⟨?num, ?next⟩, rfl, rfl, rfl, hfew, hfull,
    fun h => if_neg (by omega), fun h => if_pos h⟩
  case num => exact sealedBytes_num num r _ (by omega)
  case next =>
    refine (State.get_put_same s Reg.LDG_NEXT_V (num + 1) hregs (by decide)).trans (Nat.mod_eq_of_lt ?_)
    show num + 1 < 2 ^ 32
    omega

end Sys2Proof.Machine
end

section
/-! PROOFS. The stored form of a key slot: masking and reordering undone, and what a slot reads as after it is written. -/

namespace Sys2Proof.Machine

/-! ### Parts of a string -/

theorem sub_append_left {a : Bytes} {i n : Nat} (b : Bytes) (h : i + n ≤ a.length) : sub (a ++ b) i n = sub a i n := by
  have hrest : n ≤ (a.drop i).length := by rw [List.length_drop]; omega
  rw [sub, sub, fit, fit, List.drop_append_of_le_length (by omega), List.take_append_of_le_length hrest, List.append_assoc,
    List.take_append_of_le_length hrest]

theorem sub_append_right {a : Bytes} {i n : Nat} (b : Bytes) (h : a.length ≤ i) : sub (a ++ b) i n = sub b (i - a.length) n := by
  rw [sub, sub, List.drop_append, List.drop_of_length_le h, List.nil_append]

theorem sub_whole {a : Bytes} {n : Nat} (h : a.length = n) : sub a 0 n = a := fit_of_length h

theorem sub_eq_take_drop {b : Bytes} {i n : Nat} (h : i + n ≤ b.length) : sub b i n = (b.drop i).take n := by
  rw [sub, fit, List.take_append_of_le_length (by rw [List.length_drop]; omega)]

/-! ### The order of the words (R330) -/

theorem drop_flatMap {α : Type} {f : α → Bytes} {k : Nat} (hf : ∀ x, (f x).length = k) :
    ∀ (j : Nat) (l : List α), (l.flatMap f).drop (k * j) = (l.drop j).flatMap f
  | 0, _ => rfl
  | _ + 1, [] => List.drop_nil
  | j + 1, x :: l => by
    rw [List.flatMap_cons, Nat.mul_succ, Nat.add_comm, ← List.drop_drop, List.drop_left' (hf x), drop_flatMap hf j l, List.drop_succ_cons]

theorem flatMap_finRange_length {f : Fin 14 → Bytes} (hf : ∀ i, (f i).length = 4) : ((List.finRange 14).flatMap f).length = 56 := by
  rw [List.length_flatMap, List.map_congr_left (g := fun _ => 4) fun i _ => hf i, List.map_const', List.length_finRange]
  rfl

/-- A word of words put one behind another. -/
theorem sub_flatMap_finRange {f : Fin 14 → Bytes} (hf : ∀ i, (f i).length = 4) (i : Fin 14) (rest : Bytes) :
    sub ((List.finRange 14).flatMap f ++ rest) (4 * i) 4 = f i := by
  have hi := i.isLt
  have hlen := flatMap_finRange_length hf
  rw [sub_append_left rest (by omega), sub_eq_take_drop (by omega), drop_flatMap hf, List.drop_eq_getElem_cons (by simp),
    List.flatMap_cons, List.take_left' (hf _), List.getElem_finRange]
  rfl

/-- The words of a string in their own order. -/
theorem flatMap_words (b : Bytes) : ∀ n, 4 * n ≤ b.length → (List.range n).flatMap (fun i => sub b (4 * i) 4) = b.take (4 * n)
  | 0, _ => rfl
  | n + 1, h => by
    rw [List.range_succ, List.flatMap_append, flatMap_words b n (by omega), List.flatMap_singleton, sub_eq_take_drop (by omega), Nat.mul_succ,
      List.take_add]

theorem placeWords_length (σ : Equiv.Perm (Fin 14)) (b : Bytes) : (placeWords σ b).length = 60 := by
  rw [placeWords, List.length_append, flatMap_finRange_length fun _ => sub_length .., sub_length]

/-- The order is undone by its inverse, whatever follows the words. -/
theorem placeWords_symm (σ : Equiv.Perm (Fin 14)) {b : Bytes} (hb : b.length = 60) (rest : Bytes) :
    placeWords σ.symm (placeWords σ b ++ rest) = b := by
  have hword (i : Fin 14) : sub (placeWords σ b ++ rest) (4 * (σ.symm i : Nat)) 4 = sub b (4 * i) 4 := by
    rw [placeWords, List.append_assoc, sub_flatMap_finRange (fun _ => sub_length ..), Equiv.apply_symm_apply]
  have hlast : sub (placeWords σ b ++ rest) 56 4 = sub b 56 4 := by
    have hlen := flatMap_finRange_length (f := fun i : Fin 14 => sub b (4 * (σ i : Nat)) 4) fun _ => sub_length ..
    rw [sub_append_left rest (placeWords_length σ b).ge, placeWords, sub_append_right _ hlen.le, hlen, sub_whole (sub_length ..)]
  have hrange : (List.finRange 14).flatMap (fun i : Fin 14 => sub b (4 * (i : Nat)) 4) = b.take 56 := by
    have hvals : (List.finRange 14).map (fun i : Fin 14 => (i : Nat)) = List.range 14 := by decide
    rw [← flatMap_words b 14 (by omega), ← hvals, List.flatMap_map]
  rw [placeWords, hlast, funext hword, hrange, sub_eq_take_drop hb.ge, List.take_of_length_le (l := b.drop 56) (by rw [List.length_drop, hb]),
    List.take_append_drop]

/-- The last word, and with it the mode, is in no order. -/
theorem placeWords_last (σ : Equiv.Perm (Fin 14)) {b : Bytes} (hb : b.length = 60) : fieldBe (placeWords σ b) 59 1 = fieldBe b 59 1 := by
  have hlen := flatMap_finRange_length (f := fun i : Fin 14 => sub b (4 * (σ i : Nat)) 4) fun _ => sub_length ..
  rw [fieldBe, fieldBe, placeWords, sub_append_right _ (by omega), hlen, sub_eq_take_drop (i := 56) (by omega), sub_eq_take_drop (by simp [hb]),
    sub_eq_take_drop (by omega), List.take_of_length_le (l := b.drop 56) (by simp [hb]), List.drop_drop]

/-! ### The mask (R330) -/

theorem maskKey_length {mask b : Bytes} (hm : mask.length = 32) (hb : 32 ≤ b.length) : (maskKey mask b).length = b.length := by
  rw [maskKey, List.length_append, xorBytes_length, hm, List.length_take, List.length_drop]
  omega

theorem maskKey_maskKey {mask b : Bytes} (hm : mask.length = 32) (hb : 32 ≤ b.length) : maskKey mask (maskKey mask b) = b := by
  have htake : (b.take 32).length = 32 := by rw [List.length_take, Nat.min_eq_left hb]
  have hfirst : (xorBytes (b.take 32) mask).length = 32 := by rw [xorBytes_length, htake, hm, Nat.min_self]
  rw [maskKey, maskKey, List.take_left' hfirst, List.drop_left' hfirst, xorBytes_xorBytes (htake.trans hm.symm).le, List.take_append_drop]

theorem maskKey_last {mask b : Bytes} (hm : mask.length = 32) (hb : b.length = 60) : fieldBe (maskKey mask b) 59 1 = fieldBe b 59 1 := by
  have hfirst : (xorBytes (b.take 32) mask).length = 32 := by rw [xorBytes_length, List.length_take, hm, hb]; rfl
  rw [fieldBe, fieldBe, maskKey, sub_append_right _ (by omega), hfirst, sub_eq_take_drop (by simp [hb]), sub_eq_take_drop (by omega), List.drop_drop]

/-! ### A slot and its bytes (Table 14-2) -/

theorem Slot.body_length (t : Slot) : t.body.length = 60 := by
  simp [Slot.body]

theorem Slot.body_mode {t : Slot} (h : t.mode < 256) (rest : Bytes) : fieldBe (t.body ++ rest) 59 1 = t.mode := by
  rw [Slot.body]
  exact (fieldBe_append rest (by simp) (be_length 1 _)).trans (beNat_be_of_lt h)

/-- The fields of a slot whose values fit them are read back from its bytes. -/
theorem Slot.ofBytes_body {t : Slot} (hkey : t.key.length = 32) (hlabel : t.label.length = 16) (hattr : t.attr < 2 ^ 32) (hengine : t.engine < 256)
    (hflags : t.flags < 256) (hlen : t.len < 256) (hmode : t.mode < 256) (rest : Bytes) : Slot.ofBytes (t.body ++ rest) = t := by
  have hm := Slot.body_mode hmode rest
  obtain ⟨key, attr, engine, flags, len, label, mode⟩ := t
  dsimp only at hkey hlabel hattr hengine hflags hlen hmode hm
  rw [Slot.ofBytes, hm]
  simp only [Slot.body, fit_of_length hkey, fit_of_length hlabel, List.append_assoc, Slot.mk.injEq, and_true]
  simp (disch := simp [hkey, hlabel]) only [fieldBe, sub_append_left, sub_append_right, hkey, be_length, sub_whole, List.length_cons,
    List.length_nil, Nat.reduceSub, Nat.reduceAdd]
  exact ⟨trivial, beNat_be_of_lt hattr, beNat_be_of_lt hengine, beNat_be_of_lt hflags, beNat_be_of_lt hlen, trivial⟩

/-! ### A slot written and read back (R323, R330, R331) -/

section Stored

variable {s : State} {n : Nat} {t : Slot}

/-- The sixty bytes of a slot as it is stored, before its CRC (R330). -/
def State.storedForm (s : State) (n : Nat) (t : Slot) : Bytes :=
  if t.mode = 2 ∨ t.mode = 3 then placeWords (s.slotOrder n) (maskKey (s.kMask n) t.body) else t.body

theorem State.kMask_length : (s.kMask n).length = 32 := kdf_length ..

theorem State.maskedBody_length : (maskKey (s.kMask n) t.body).length = 60 := by
  rw [maskKey_length State.kMask_length (by rw [Slot.body_length]; decide), Slot.body_length]

theorem State.storedForm_length : (s.storedForm n t).length = 60 := by
  unfold State.storedForm
  split
  exacts [placeWords_length .., Slot.body_length t]

theorem State.storedSlot_eq : s.storedSlot n t =
    s.storedForm n t ++ (if t.mode = 2 then zeros 4 else be 4 (crc32c (s.storedForm n t))) := by
  unfold State.storedSlot State.storedForm
  split <;> rfl

theorem State.storedSlot_length : (s.storedSlot n t).length = 64 := by
  rw [State.storedSlot_eq, List.length_append, State.storedForm_length]
  split
  exacts [rfl, by rw [be_length]]

theorem State.storedForm_mode (h : t.mode < 256) : fieldBe (s.storedForm n t) 59 1 = t.mode := by
  have hbody : fieldBe t.body 59 1 = t.mode := by simpa using Slot.body_mode h []
  unfold State.storedForm
  split
  · rw [placeWords_last _ State.maskedBody_length, maskKey_last State.kMask_length t.body_length, hbody]
  · exact hbody

/-- The mode of a stored slot tells how it is read back. -/
theorem State.storedSlot_mode (h : t.mode < 256) : fieldBe (s.storedSlot n t) 59 1 = t.mode := by
  rw [State.storedSlot_eq, fieldBe, sub_append_left _ State.storedForm_length.ge]
  exact State.storedForm_mode h

theorem State.storedSlot_crcOk (h : t.mode < 256) : slotCrcOk (s.storedSlot n t) = true := by
  unfold slotCrcOk
  rw [State.storedSlot_mode h, State.storedSlot_eq]
  split
  next h2 => simp [h2]
  next h2 => simp [fieldBe_crc State.storedForm_length, List.take_left' State.storedForm_length]

end Stored

theorem memGetN_congr {m m' : List Host.Cell} : ∀ {n a : Nat}, (∀ x, a ≤ x → x < a + n → memGet m x = memGet m' x) → memGetN m a n = memGetN m' a n
  | 0, _, _ => rfl
  | n + 1, a, h => by
    rw [memGetN, memGetN, h a le_rfl (by omega), memGetN_congr fun x hx hlt => h x (by omega) (by omega)]

/-- A run of bytes written leaves a run beside it. -/
theorem memGetN_memSetN_beside {m : List Host.Cell} (hm : Memory.wf m = true) (b : Bytes) {a c n : Nat} (h : c + n ≤ a ∨ a + b.length ≤ c) :
    memGetN (memSetN m a b) c n = memGetN m c n :=
  memGetN_congr fun x _ _ => memGet_memSetN_outside b a x hm (by omega)

/-- A state with a slot written. -/
def State.withSlot (s : State) (n : Nat) (t : Slot) : State :=
  { s with nv := { s.nv with mem := memSetN s.nv.mem (n * 64) (s.storedSlot n t) } }

theorem State.withSlot_bytes {s : State} (hwf : Memory.wf s.nv.mem = true) (n : Nat) (t : Slot) :
    (s.withSlot n t).slotBytes n = s.storedSlot n t := by
  have h := memGetN_memSetN (s.storedSlot n t) (n * 64) hwf
  rwa [State.storedSlot_length] at h

/-- Settles O38: the stored form is undone by the order's inverse and a second masking; a run written reads back. -/
theorem slotReadsBack : Obligations.SlotReadsBack := by
  intro n t s hwf hkey hlabel hattr hengine hflags hlen hmode u
  have hmode' : t.mode < 256 := by omega
  have hu : u.slotBytes n = s.storedSlot n t := State.withSlot_bytes hwf n t
  refine ⟨?slot, ?crc, ?occupied, fun k hk => ?others, fun h1 => ?plain, memSetN_wf _ _ hwf⟩
  case slot =>
    have hbody (rest : Bytes) : Slot.ofBytes (t.body ++ rest) = t := Slot.ofBytes_body hkey hlabel hattr hengine hflags hlen hmode' rest
    rw [State.slot, hu, State.storedSlot_mode hmode']
    split
    next h =>
      have hundone := maskKey_maskKey (State.kMask_length (s := s) (n := n)) (b := t.body) (by rw [t.body_length]; decide)
      rw [State.storedSlot_eq, State.storedForm, if_pos h]
      exact (congrArg (fun b => Slot.ofBytes (maskKey (s.kMask n) b)) (placeWords_symm (s.slotOrder n) State.maskedBody_length _)).trans
        (by rw [hundone, ← List.append_nil t.body, hbody])
    next h =>
      rw [State.storedSlot_eq, State.storedForm, if_neg h]
      exact hbody _
  case crc => rw [hu, State.storedSlot_crcOk hmode']
  case occupied => rw [State.occupied, hu, State.storedSlot_mode hmode', bne_iff_ne]
  case others =>
    refine memGetN_memSetN_beside hwf _ ?_
    rw [State.storedSlot_length]
    omega
  case plain =>
    have hneither : ¬ (t.mode = 2 ∨ t.mode = 3) := by omega
    rw [State.storedSlot_eq, State.storedForm, if_neg hneither, if_neg (by omega)]

end Sys2Proof.Machine
end

section
/-! PROOFS. What every command answers. -/

namespace Sys2Proof.Machine

/-- Settles O4: a voltage beyond the ratings is the fault, every other command answers a state that has kept the queue. -/
theorem commandsAnswer : Obligations.CommandsAnswer := by
  intro c s
  by_cases hc : ∀ vbat ms, c = .vbatOvervoltage vbat ms → ¬ beyondRatings vbat ms
  · have ha := exec_answersKept (Keeps.refl s) c hc
    cases e : exec c s with
    | next t => exact .inl ⟨t, rfl, (exec_keeps e).1⟩
    | fault | refused => rw [e] at ha; exact ha.elim
  · push Not at hc
    obtain ⟨vbat, ms, rfl, hv⟩ := hc
    exact .inr ⟨vbat, ms, rfl, hv, exec_vbatOvervoltage_beyondRatings s hv⟩

end Sys2Proof.Machine
end

section
/-! PROOFS. Tally counters: who may change them, what a counter needs next, a cell's completion, a rollover and an erased set. -/

namespace Sys2Proof.Machine

/-! ### A counter of the state (R315) -/

section Counter

variable {s : State} {c : Nat} {x : TallyCtr}

theorem State.tally_setTally_same (h : c < s.nv.tally.length) : (s.setTally c x).tally c = x := by
  rw [State.tally, State.setTally, List.getD_eq_getElem _ _ (by rwa [List.length_set]), List.getElem_set_self]

theorem State.tally_setTally_ne {k : Nat} (h : k ≠ c) : (s.setTally c x).tally k = s.tally k := by
  simp only [State.tally, State.setTally, List.getD_eq_getElem?_getD, List.getElem?_set_ne h.symm]

theorem TallyCtr.value_of_sound (h : x.marginal = false) : x.value = x.base + x.cells := by
  rw [TallyCtr.value, h, if_neg Bool.false_ne_true, Nat.add_zero]

/-- A cell programmed adds exactly one. -/
theorem TallyCtr.value_cell (h : x.marginal = false) : ({ x with cells := x.cells + 1, marginal := false } : TallyCtr).value = x.value + 1 := by
  rw [TallyCtr.value_of_sound h]
  rfl

end Counter

/-! ### Requests (R316, R317) -/

section Requests

variable {m : Master} {cls : Cls} {c v : Nat} {s t u : State} {e : Engine}

theorem rmcWrite_tcmd (h : windowMaster m = true) : rmcWrite m Reg.RMC_TCMD v s = tcmdWrite v m s := by
  rw [rmcWrite, if_neg (ne_false_of_eq_true h), if_neg (by decide), if_neg (by decide)]

/-- A write of RMC_TCMD that passes its checks is the controller's. -/
theorem wordWrite_tcmd (h : fabCheck m Reg.RMC_TCMD .b32 true s = (.ok, some (.reg Reg.RMC_TCMD), t)) (hm : windowMaster m = true) :
    wordWrite m Reg.RMC_TCMD v s = .next (fabAnswer m (tcmdWrite v m t)) := by
  have hreg : regWrite m Reg.RMC_TCMD v t = rmcWrite m Reg.RMC_TCMD v t := rfl
  rw [wordWrite, fabWrite_reg h, hreg, rmcWrite_tcmd hm]

theorem exec_tallyRaise_master (hw : fabWrite m Reg.RMC_TARG .b32 v s = (.ok, u)) :
    exec (.tallyRaise (.master m) cls c v) s = wordWrite m Reg.RMC_TCMD (0x80000200 + c % 32) u := by
  dsimp only [exec, execTallyRaise]
  rw [hw]

theorem engineTally_denied (h : tallyRight (.engine e) c = false) (r : Option Nat) : engineTally e cls c r s = s :=
  if_neg (ne_true_of_eq_false h)

theorem engineTally_taken (h : tallyRight (.engine e) c = true) (r : Option Nat) : engineTally e cls c r s = (submitTally cls ⟨c, r, .none⟩ s).2 :=
  if_pos h

theorem tcmdWrite_denied (hc : c < 32) (hb : s.bit Reg.RMC_TSTAT_BUSY = false) (hr : tallyRight (.master m) c = false) :
    tcmdWrite (0x80000100 + c) m s = (.ok, tcmdDone c .denied ((s.put Reg.RMC_TCMD_OP 1).put Reg.RMC_TCMD_CNT c)) := by
  have hcnt : (0x80000100 + c) % 32 = c := by omega
  have hop : (0x80000100 + c) / 256 % 4 = 1 := by omega
  have hgo : (0x80000100 + c) / 2147483648 % 2 = 1 := by omega
  simp [tcmdWrite, hcnt, hop, hgo, hb, hr]

end Requests

/-! ### What a counter needs next (R317, R318) -/

section Next

variable {t : TallyCtr} {goal : Nat} (hg : goal ≤ 0xFFFFFFFF)

include hg

theorem tallyNext_done (hv : goal ≤ t.value) : tallyNext t goal = .done := by
  rw [tallyNext, if_neg (Nat.not_lt.2 hg), if_pos hv]

/-- A goal above the value by at most 256 is reached cell by cell. -/
theorem tallyNext_near (hv : t.value < goal) (hnear : goal ≤ t.value + 256) :
    tallyNext t goal = if t.cells < 256 then .cell else if t.old ≠ 0 then .waitErase else .roll := by
  rw [tallyNext, if_neg (Nat.not_lt.2 hg), if_neg (Nat.not_le.2 hv), if_neg (by omega)]

theorem tallyNext_far (hfar : t.value + 256 < goal) (hold : t.old = 0) : tallyNext t goal = .baseTo goal := by
  rw [tallyNext, if_neg (Nat.not_lt.2 hg), if_neg (by omega), if_pos (by omega), if_pos hold]

end Next

/-! ### Completions (R317, R318, R471) -/

section Completions

variable {s : State} {c v : Nat} {op : TallyRun}

theorem baseDone_tally_same (h : c < s.nv.tally.length) :
    (baseDone c v s).tally c = { s.tally c with base := v, gen := (s.tally c).gen + 1, cells := 0, old := (s.tally c).cells } :=
  State.tally_setTally_same h

theorem baseDone_value (h : c < s.nv.tally.length) (hm : (s.tally c).marginal = false) : ((baseDone c v s).tally c).value = v := by
  rw [baseDone_tally_same h]
  exact TallyCtr.value_of_sound hm

/-- The cell that reaches the goal ends the operation. -/
theorem cellOver_reached (hc : op.req.ctr < s.nv.tally.length) (hm : (s.tally op.req.ctr).marginal = false)
    (hgoal : op.goal = some ((s.tally op.req.ctr).value + 1)) :
    cellOver op s = tallyOver op .ok
      (s.setTally op.req.ctr { s.tally op.req.ctr with cells := (s.tally op.req.ctr).cells + 1, marginal := false }) := by
  have hvalue : op.goal.getD (op.req.target (s.tally op.req.ctr).value) ≤
      ((s.setTally op.req.ctr { s.tally op.req.ctr with cells := (s.tally op.req.ctr).cells + 1, marginal := false }).tally op.req.ctr).value := by
    rw [State.tally_setTally_same hc, hgoal, TallyCtr.value_cell hm]
    rfl
  dsimp only [cellOver]
  rw [if_neg (by simp [hm]), if_pos hvalue]

theorem exec_tallySetEraseDone_idle (he : s.rmc.erasing.any (fun p => p.1 == c && s.after p.2 400) = true) (hop : s.rmc.op = none) :
    exec (.tallySetEraseDone c) s = .next ({ s with rmc := { s.rmc with erasing := s.rmc.erasing.filter (fun p => p.1 != c) } }.setTally c
      { s.tally c with old := 0 }) := by
  dsimp only [exec, execTallySetEraseDone]
  rw [if_pos he, if_neg (by simp [State.setTally, hop])]
  rfl

end Completions

/-- Settles O36: each request by its right, each completion by what it sets in its counter. -/
theorem tallyCounters : Obligations.TallyCounters := by
  refine ⟨fun c => ⟨rfl, rfl, ?host, rfl⟩, fun e cls c v s => ⟨fun h => ?denied, fun h => ?taken⟩, fun m cls c s t h hm => wordWrite_tcmd h hm,
    fun m cls c v s t u hw h hm => (exec_tallyRaise_master hw).trans (wordWrite_tcmd h hm), fun m c s hc hb hr => tcmdWrite_denied hc hb hr,
    fun t goal _ => ⟨fun h => if_pos h, fun hg hv => tallyNext_done hg hv, fun hg hv hn hc => ?cell, fun hg hv hn hc ho => ?roll,
      fun hg hf ho => tallyNext_far hg hf ho⟩,
    fun c v s hc hm => ⟨fun hfull => ?rollover, baseDone_value hc hm, ?gen, fun k hk => State.tally_setTally_ne hk⟩,
    fun op at_ s hop hat hstop => ⟨fun ha => ?done, fun ha => ?early⟩,
    fun op goal s hc hm hgoal hg => cellOver_reached hc hm (hg ▸ hgoal), fun s hop => ?idle,
    fun c s => ⟨fun he => if_neg (ne_true_of_eq_false he), exec_tallySetEraseDone_idle⟩⟩
  case host => simp [tallyRight]
  case denied => exact ⟨congrArg _ (engineTally_denied h none), congrArg _ (engineTally_denied h (some v))⟩
  case taken => exact ⟨congrArg _ (engineTally_taken h none), congrArg _ (engineTally_taken h (some v))⟩
  case cell => rw [tallyNext_near hg hv hn, if_pos hc]
  case roll => rw [tallyNext_near hg hv hn, if_neg (by omega), if_neg (fun h => h ho)]
  case rollover => rw [baseDone_value hc hm, TallyCtr.value_of_sound hm, hfull]
  case gen => rw [baseDone_tally_same hc]
  case done =>
    dsimp only [exec, execTallyCellDone]
    simp only [hop, hat, hstop, ha, Bool.false_eq_true, Bool.true_eq_false, or_self, if_false]
  case early =>
    dsimp only [exec, execTallyCellDone]
    simp only [hop, hat, ha, or_true, if_true]
  case idle =>
    dsimp only [exec, execTallyCellDone]
    rw [hop]

end Sys2Proof.Machine
end

section
/-! PROOFS. Commit groups: what the store leaves of the committed bytes until a marker stands, what a fault leaves of a store at work, and what
a group's pages put into the committed copies. -/

namespace Sys2Proof.Machine

/-! ### The store goes on (R309, R311, R317) -/

theorem OnlyQueues.nv {r t : State} (h : OnlyQueues r t) : t.nv = r.nv := by
  obtain ⟨_, _, _, _, _, _, _, _, _, _, rfl⟩ := h
  rfl

section Goes

variable {r s : State} (h : OnlyQueues r s)

include h

theorem OnlyQueues.put (f : Fld) (v : Nat) : OnlyQueues r (s.put f v) := h.set

theorem OnlyQueues.setBit (f : Fld) (b : Bool) : OnlyQueues r (s.setBit f b) := h.set

theorem tcmdDone_onlyQueues (n : Nat) (res : RmcResult) : OnlyQueues r (tcmdDone n res s) :=
  ((((((h.setBit _ _).setBit _ _).put _ _).put _ _).setBit _ _).setBit _ _)

theorem tallyIdle_onlyQueues (op : TallyRun) (res : RmcResult) : OnlyQueues r (tallyIdle op res s) := by
  unfold tallyIdle
  split
  exacts [tcmdDone_onlyQueues h.set _ _, h.set]

theorem tallyGo_onlyQueues : ∀ n : Nat, OnlyQueues r (tallyGo n s) := by
  intro n
  induction n generalizing s with
  | zero => exact h
  | succ n ih =>
    have hidle (op : TallyRun) (res : RmcResult) : OnlyQueues r (tallyIdle op res s) := tallyIdle_onlyQueues h op res
    dsimp only [tallyGo]
    split
    · exact h
    · split
      · exact h.set
      · exact h.set
      · exact h.set
      · split
        exacts [ih (rmcKick_onlyQueues (hidle ..)), hidle ..]
      · split
        exacts [ih (rmcKick_onlyQueues (hidle ..)), hidle ..]
      · exact h.set

theorem tallyStart_onlyQueues : OnlyQueues r (tallyStart s) := tallyGo_onlyQueues h 9

end Goes

/-- A verified page is in the shadow alone. -/
theorem pageDone_nv (c : Commit) (p : Nat) (rest : List Nat) (s : State) : (pageDone c p rest s).nv = s.nv := by
  dsimp only [pageDone]
  split
  · exact (tallyStart_onlyQueues (rmcKick_onlyQueues (OnlyQueues.refl s).set)).nv
  · rfl

/-! ### A store at work keeps its group (R309, R443) -/

/-- A group is being committed and no tally operation runs. -/
def CommitsAlone (c : Commit) (t : State) : Prop := t.rmc.cur = some c ∧ t.rmc.op = none

theorem CommitsAlone.of_rmc {c : Commit} {s t : State} (h : CommitsAlone c s) (e : t.rmc = s.rmc) : CommitsAlone c t := by
  rwa [CommitsAlone, e]

theorem CommitsAlone.snd {α : Type} {c : Commit} {x : α × State} {a : α} {t : State} (h : CommitsAlone c x.2) (e : x = (a, t)) : CommitsAlone c t := by
  subst e
  exact h

theorem noteDrop_commitsAlone {c : Commit} {x : Admit × State} (h : CommitsAlone c x.2) : CommitsAlone c (noteDrop x) := by
  unfold noteDrop
  split <;> exact h

section Held

variable {c : Commit} {s : State} {cls : Cls} {q : QueueId} {m : Master} {w : Work} (h : CommitsAlone c s)

include h

theorem rmcKick_busy : rmcKick s = s := by
  obtain ⟨hcur, -⟩ := h
  rw [rmcKick, if_pos (.inl (by rw [hcur]; rfl))]

theorem awake_commitsAlone : CommitsAlone c (awake s) := by
  unfold awake
  split <;> exact h

theorem refuse_commitsAlone (b : Bool) (v : Queue) : CommitsAlone c (refuse q cls b v s) := by
  cases b with
  | true => exact h
  | false =>
    have hdrop (t : State) : (t.countDrop q).rmc = t.rmc := by
      unfold State.countDrop
      split <;> rfl
    exact h.of_rmc (hdrop _)

theorem loserGone_commitsAlone (i : QItem) : CommitsAlone c (loserGone i s) := by
  unfold loserGone
  split <;> exact h

theorem admitCore_commitsAlone : CommitsAlone c (admitCore q cls m w s).2 := by
  have ha := awake_commitsAlone h
  dsimp only [admitCore]
  split
  · exact ha
  · split
    · exact ha
    · exact loserGone_commitsAlone (refuse_commitsAlone ha _ _) _
    · split
      exacts [refuse_commitsAlone ha _ _, refuse_commitsAlone (cls := cls) ha _ _]

theorem submitCore_commitsAlone (g : Group) : CommitsAlone c (submitCore cls g s).2 := by
  have ha : CommitsAlone c (admitCore .commit cls .session (.group g) s).2 := admitCore_commitsAlone h
  unfold submitCore
  split
  next e => rw [rmcKick_busy (ha.snd e)]; exact ha.snd e
  next => exact ha

theorem settCore_commitsAlone (typ : Nat) (bc : Bool) (dst : Nat) (p : Bytes) : CommitsAlone c (settCore typ bc dst cls p s).2 := by
  unfold settCore settEmit
  split
  · exact h
  · split <;> have ha := (admitCore_commitsAlone h).snd ‹_›
    all_goals exact ha

theorem recordRaw_commitsAlone (x : Rec) : CommitsAlone c (recordRaw cls x s).2 := by
  unfold recordRaw
  split
  · split
    · split
      · split <;> exact h
      · exact h
    · split <;> have ha := (admitCore_commitsAlone h).snd ‹_›
      all_goals exact ha
  · split
    · unfold actBuffer
      split
      · exact h
      · exact submitCore_commitsAlone (s := { s with sett := { s.sett with actSeq := s.sett.actSeq + 1 } }) h _
    · split
      · exact settCore_commitsAlone h ..
      · split <;> exact h

theorem faultRecord_commitsAlone (action : Action) (code n detail : Nat) : CommitsAlone c (faultRecord action code n detail s).2 := by
  unfold faultRecord
  extract_lets body
  split
  exacts [recordRaw_commitsAlone h _, settCore_commitsAlone h ..]

theorem requestRestart_commitsAlone (code : Nat) : CommitsAlone c (requestRestart code s) := by
  unfold requestRestart
  split
  · exact h
  · split
    · split
      exacts [faultRecord_commitsAlone (s := noteFault .log 0x1402 s) h _ _ _ _, h]
    · exact h

theorem runAction_commitsAlone (action : Action) (code : Nat) : CommitsAlone c (runAction action code s) := by
  cases action with
  | restart =>
    rw [runAction]
    split
    exacts [h, requestRestart_commitsAlone h code]
  | log | isolate | reduce | shed | halt => exact h

theorem raise_commitsAlone (code detail : Nat) : CommitsAlone c (raise code detail s) := by
  dsimp only [raise, raiseAs]
  split
  · exact h
  · refine runAction_commitsAlone ?_ _ code
    split
    · exact noteDrop_commitsAlone (faultRecord_commitsAlone (s := { noteFault _ _ s with hh := _ }) h ..)
    · exact h

end Held

/-- A group that no tally operation asked for ends with its requester told. -/
theorem groupEnd_alone {c : Commit} {s : State} (h : CommitsAlone c s) : groupEnd c .ok s =
      groupTold .ok c.group (storeNext (applyShadow c.shadow (markerUsed c.group s))) ∧
    groupEnd c .fail s = groupTold .fail c.group (storeNext (raise 0x5302 0 s)) := by
  have hok : (applyShadow c.shadow (markerUsed c.group s)).rmc.op = none := h.2
  have hfail : (raise 0x5302 0 s).rmc.op = none := (raise_commitsAlone h 0x5302 0).2
  constructor
  · dsimp only [groupEnd]
    simp only [decide_true, if_true, hok]
    cases c.group.owner <;> rfl
  · dsimp only [groupEnd]
    rw [if_neg (by decide), hfail]
    cases c.group.owner <;> rfl

/-! ### The committed copies (R310) -/

/-- The pages of a group written into a memory. -/
def pagesWritten (shadow : List (Nat × Bytes)) (m : List Host.Cell) : List Host.Cell :=
  shadow.foldl (fun m p => memSetN m (p.1 * 32) p.2) m

theorem applyShadow_mem (shadow : List (Nat × Bytes)) (s : State) : (applyShadow shadow s).nv.mem = pagesWritten shadow s.nv.mem := rfl

theorem pagesWritten_wf {shadow : List (Nat × Bytes)} {m : List Host.Cell} (hm : Memory.wf m = true) : Memory.wf (pagesWritten shadow m) = true :=
  memFold_wf (fun p : Nat × Bytes => p.1 * 32) (fun p => p.2) shadow hm

theorem memGet_pagesWritten_apart : ∀ {shadow : List (Nat × Bytes)} {m : List Host.Cell} {x : Nat}, Memory.wf m = true →
    (∀ q ∈ shadow, q.2.length = 32) → x / 32 ∉ shadow.map (·.1) → memGet (pagesWritten shadow m) x = memGet m x
  | [], _, _, _, _, _ => rfl
  | q :: rest, m, x, hm, hlen, hx => by
    obtain ⟨hq, hrest⟩ := List.forall_mem_cons.1 hlen
    rw [List.map_cons, List.mem_cons, not_or] at hx
    obtain ⟨hne, hout⟩ := hx
    calc memGet (pagesWritten (q :: rest) m) x = memGet (memSetN m (q.1 * 32) q.2) x := memGet_pagesWritten_apart (memSetN_wf _ _ hm) hrest hout
      _ = memGet m x := memGet_memSetN_outside q.2 _ _ hm (by omega)

theorem memGetN_pagesWritten : ∀ {shadow : List (Nat × Bytes)} {m : List Host.Cell}, Memory.wf m = true → (shadow.map (·.1)).Nodup →
    (∀ q ∈ shadow, q.2.length = 32) → ∀ q ∈ shadow, memGetN (pagesWritten shadow m) (q.1 * 32) 32 = q.2
  | [], _, _, _, _, _, hq => absurd hq List.not_mem_nil
  | p :: rest, m, hm, hnodup, hlen, q, hq => by
    obtain ⟨hp, hrest⟩ := List.forall_mem_cons.1 hlen
    rw [List.map_cons, List.nodup_cons] at hnodup
    obtain ⟨hfresh, hnodup⟩ := hnodup
    have hm' := memSetN_wf p.2 (p.1 * 32) hm
    rcases List.mem_cons.1 hq with rfl | hq
    · have hback := memGetN_memSetN q.2 (q.1 * 32) hm
      rw [hp] at hback
      refine Eq.trans (memGetN_congr fun x hlo hhi => ?_) hback
      have hpage : x / 32 = q.1 := by omega
      exact memGet_pagesWritten_apart hm' hrest (hpage ▸ hfresh)
    · exact memGetN_pagesWritten hm' hnodup hrest q hq

@[simp] theorem memGetN_length (m : List Host.Cell) : ∀ n a : Nat, (memGetN m a n).length = n
  | 0, _ => rfl
  | n + 1, a => congrArg (· + 1) (memGetN_length m n (a + 1))

/-! ### The commands (R305, R307, R310) -/

section Commands

variable {e : Engine} {cls : Cls} {ws : List (Nat × Bytes)} {c : Commit} {p : Nat} {rest : List Nat} {ok : Bool} {s : State}

theorem exec_commitGroupSubmit_refused (h : 256 < (⟨ws, .none⟩ : Group).bytes ∨ ws.all (engineMay e) = false) :
    exec (.commitGroupSubmit e cls ws) s = .next s := by
  refine if_pos (h.imp_right fun hw => .inl ?_)
  rw [hw]
  exact Bool.false_ne_true

theorem exec_commitGroupSubmit_taken (hb : (⟨ws, .none⟩ : Group).bytes ≤ 256) (hw : ws.all (engineMay e) = true) (hr : s.rmc.ready = true) :
    exec (.commitGroupSubmit e cls ws) s = .next (submitGroup cls ⟨ws, .none⟩ s).2 := by
  exact if_neg (not_or.2 ⟨Nat.not_lt.2 hb, not_or.2 ⟨not_not.2 hw, ne_false_of_eq_true hr⟩⟩)

theorem exec_programDone_idle (h : s.rmc.cur = none) : exec (.pageProgramDone ok) s = .next s ∧ exec (.markerProgramDone ok) s = .next s := by
  dsimp only [exec, execPageProgramDone, execMarkerProgramDone]
  rw [h]
  exact ⟨rfl, rfl⟩

section Programmed

variable (hc : s.rmc.cur = some c) (hs : s.rmc.stopped = false) (ha : s.after c.startAt 3200 = true)

include hc hs ha

theorem exec_pageProgramDone (ht : c.todo = p :: rest) : exec (.pageProgramDone ok) s =
    .next (if ok then pageDone c p rest s else if c.tries < 2 then reprogram c s else groupEnd c .fail s) := by
  dsimp only [exec, execPageProgramDone]
  rw [hc]
  dsimp only
  rw [ht]
  dsimp only
  rw [if_neg (by simp [hs, ha])]
  split <;> [rfl; split <;> rfl]

theorem exec_markerProgramDone (ht : c.todo = []) : exec (.markerProgramDone ok) s =
    .next (if ok then groupEnd c .ok s else if c.tries < 2 then reprogram c s else groupEnd c .fail s) := by
  dsimp only [exec, execMarkerProgramDone]
  rw [hc]
  dsimp only
  rw [if_neg (by simp [ht, hs, ha])]
  split <;> [rfl; split <;> rfl]

end Programmed

end Commands

/-- Settles O35: each command by its case; the committed copies page by page. -/
theorem groupsAreAtomic : Obligations.GroupsAreAtomic := by
  refine ⟨fun e cls ws s => ⟨exec_commitGroupSubmit_refused, exec_commitGroupSubmit_taken⟩, fun ok s => exec_programDone_idle,
    fun c p rest s hc ht hs ha => ⟨exec_pageProgramDone hc hs ha ht, pageDone_nv c p rest s, fun h => ⟨?again, rfl⟩, fun h => ?failed⟩,
    fun c s hc ht hs ha hop => ⟨?marked, fun h => ?unmarked⟩,
    fun shadow s hm hn hl => ⟨pagesWritten_wf hm, fun x hx => memGet_pagesWritten_apart hm hl hx, memGetN_pagesWritten hm hn hl⟩,
    fun g p s => ⟨memGetN_length .., fun h => ?empty⟩⟩
  case again =>
    rw [exec_pageProgramDone hc hs ha ht, if_neg Bool.false_ne_true, if_pos h]
  case failed =>
    rw [exec_pageProgramDone hc hs ha ht, if_neg Bool.false_ne_true, if_neg (Nat.not_lt.2 h)]
  case marked =>
    rw [exec_markerProgramDone hc hs ha ht, if_pos rfl, (groupEnd_alone ⟨hc, hop⟩).1]
  case unmarked =>
    rw [exec_markerProgramDone hc hs ha ht, if_neg Bool.false_ne_true, if_neg (Nat.not_lt.2 h), (groupEnd_alone ⟨hc, hop⟩).2]
  case empty => rw [shadowPage, h, List.foldl_nil]

end Sys2Proof.Machine
end

section
/-! PROOFS. The checks before a key is used, one after another, and what a check leaves of the slots. -/

namespace Sys2Proof.Machine

/-! ### The checks in their order (R327) -/

section Refusal

variable {s : State} {n u e : Nat} {types : List Nat} {m : Master} {w : World}

theorem keyRefusal_empty {usage : Option Nat} (h : s.occupied n = false) : s.keyRefusal n types usage e m w = some .empty := if_pos h

theorem keyRefusal_unusable {usage : Option Nat} (h : s.occupied n = true)
    (hu : s.den.unusable.contains n = true ∨ slotCrcOk (s.slotBytes n) = false) : s.keyRefusal n types usage e m w = some .unusable := by
  rw [State.keyRefusal, if_neg (ne_false_of_eq_true h), if_pos hu]

/-- The slot holds a key that its CRC does not rule out. -/
def State.slotSound (s : State) (n : Nat) : Prop :=
  s.occupied n = true ∧ s.den.unusable.contains n = false ∧ slotCrcOk (s.slotBytes n) = true

section Sound

variable (h : s.slotSound n)

include h

theorem keyRefusal_type (hne : types ≠ []) (ht : types.contains (attrType (s.slot n).attr) = false) : s.keyRefusal n types (some u) e m w = some .type := by
  obtain ⟨hocc, huse, hcrc⟩ := h
  rw [State.keyRefusal, if_neg (ne_false_of_eq_true hocc), if_neg (not_or.2 ⟨ne_true_of_eq_false huse, ne_false_of_eq_true hcrc⟩), if_pos ⟨hne, ne_true_of_eq_false ht⟩]

/-- What the attributes of a slot of a type that fits allow. -/
theorem keyRefusal_attributes (ht : types.contains (attrType (s.slot n).attr) = true) : s.keyRefusal n types (some u) e m w =
    if attrBit (s.slot n).attr u = false ∨ (s.slot n).engine ≠ e ∨ attrBit (s.slot n).attr (13 + m.id) = false ∨
      attrBit (s.slot n).attr w.bit = false ∨ attrBit (s.slot n).attr (24 + s.lc) = false then some .denied else none := by
  obtain ⟨hocc, huse, hcrc⟩ := h
  rw [State.keyRefusal, if_neg (ne_false_of_eq_true hocc), if_neg (not_or.2 ⟨ne_true_of_eq_false huse, ne_false_of_eq_true hcrc⟩), if_neg (fun hn => hn.2 ht)]
  simp only [Option.any_some, Bool.not_eq_true', ite_or]

end Sound

/-- A use is allowed exactly where none of the checks fails. -/
theorem keyRefusal_none_iff (hne : types ≠ []) : s.keyRefusal n types (some u) e m w = none ↔
    s.slotSound n ∧ types.contains (attrType (s.slot n).attr) = true ∧ attrBit (s.slot n).attr u = true ∧ (s.slot n).engine = e ∧
      attrBit (s.slot n).attr (13 + m.id) = true ∧ attrBit (s.slot n).attr w.bit = true ∧ attrBit (s.slot n).attr (24 + s.lc) = true := by
  by_cases hocc : s.occupied n = false
  · simp [keyRefusal_empty hocc, State.slotSound, hocc]
  have hocc := Bool.eq_true_of_not_eq_false hocc
  by_cases hu : s.den.unusable.contains n = true ∨ slotCrcOk (s.slotBytes n) = false
  · rw [keyRefusal_unusable hocc hu]
    refine iff_of_false (Option.some_ne_none _) fun ⟨⟨_, huse, hcrc⟩, _⟩ => ?_
    rcases hu with hu | hu
    exacts [absurd (huse.symm.trans hu) Bool.false_ne_true, absurd (hu.symm.trans hcrc) Bool.false_ne_true]
  obtain ⟨huse, hcrc⟩ := not_or.1 hu
  have hs : s.slotSound n := ⟨hocc, Bool.eq_false_of_not_eq_true huse, Bool.eq_true_of_not_eq_false hcrc⟩
  cases ht : types.contains (attrType (s.slot n).attr) with
  | false => simp [keyRefusal_type hs hne ht]
  | true =>
    rw [keyRefusal_attributes hs ht]
    simp [hs]

/-- A use without a refusal finds a sound slot. -/
theorem slotSound_of_keyRefusal {usage : Option Nat} (h : s.keyRefusal n types usage e m w = none) : s.slotSound n := by
  by_cases hocc : s.occupied n = false
  · rw [keyRefusal_empty hocc] at h
    cases h
  have hocc := Bool.eq_true_of_not_eq_false hocc
  by_cases hu : s.den.unusable.contains n = true ∨ slotCrcOk (s.slotBytes n) = false
  · rw [keyRefusal_unusable hocc hu] at h
    cases h
  · obtain ⟨huse, hcrc⟩ := not_or.1 hu
    exact ⟨hocc, Bool.eq_false_of_not_eq_true huse, Bool.eq_true_of_not_eq_false hcrc⟩

/-! ### What a check does (R26, R331) -/

theorem slotSweep_crcOk (h : slotCrcOk (s.slotBytes n) = true) : slotSweep n s = s := if_pos (.inr h)

/-- A slot that is empty, or whose CRC holds, is not swept. -/
theorem sweep_unless_corrupt (h : s.occupied n = false ∨ slotCrcOk (s.slotBytes n) = true) : (if s.occupied n then slotSweep n s else s) = s := by
  rcases h with h | h
  · rw [h, if_neg Bool.false_ne_true]
  · rw [slotSweep_crcOk h, ite_self]

theorem keyCheck_refused {usage : Option Nat} {r : DenResult} (h : s.keyRefusal n types usage e m w = some r)
    (hc : s.occupied n = false ∨ slotCrcOk (s.slotBytes n) = true) : keyCheck n types usage e m w s = (some r, s.count Reg.VLT_DENY_V 1) := by
  dsimp only [keyCheck]
  rw [sweep_unless_corrupt hc, h]

theorem keyCheck_allowed {usage : Option Nat} (h : s.keyRefusal n types usage e m w = none) :
    keyCheck n types usage e m w s = (none, enter .slot (s.slotBytes n) s) := by
  obtain ⟨_, _, hcrc⟩ := slotSound_of_keyRefusal h
  dsimp only [keyCheck]
  rw [sweep_unless_corrupt (.inr hcrc), h]

/-- A datum that has just entered is there with its escorts. -/
theorem entered_enter (x : Entry) (b : Bytes) (s : State) : (enter x b s).entered x = some b := by
  simp [State.entered, enter, Datum.holds, Datum.of]

end Refusal

/-- Settles O37: each check where those before it pass; a use allowed leaves the slots. -/
theorem keyUseChecks : Obligations.KeyUseChecks := by
  refine ⟨fun n u e types m w s hne => ⟨keyRefusal_empty, keyRefusal_unusable, fun hs ht => keyRefusal_type hs hne ht, fun hs ht hd => ?denied,
      keyRefusal_none_iff hne⟩,
    fun _ _ _ _ _ _ _ _ => keyCheck_refused, fun _ _ _ _ _ _ _ => keyCheck_allowed, fun n s => ⟨rfl, rfl, rfl, entered_enter ..⟩⟩
  case denied => exact (keyRefusal_attributes hs ht).trans (if_pos hd)

end Sys2Proof.Machine
end

section
/-! PROOFS. The Hibernation ring (R389 to R394): its messages as frames, its masks, and the steps of a round. -/

namespace Sys2Proof.Machine

/-! ### Masks: one bit for each member -/

theorem maskHas_eq_testBit (mask i : Nat) : maskHas mask i = mask.testBit i := by
  rw [maskHas, Nat.testBit_eq_decide_div_mod_eq]
  rfl

theorem maskHas_withBit_same (mask i : Nat) (on : Bool) : maskHas (withBit mask i on) i = on := by
  have hpos : 0 < 2 ^ i := Nat.two_pow_pos i
  have hup : (mask + 2 ^ i) / 2 ^ i = mask / 2 ^ i + 1 := Nat.add_div_right _ hpos
  have hdown : (mask - 2 ^ i) / 2 ^ i = mask / 2 ^ i - 1 := Nat.sub_mul_div mask (2 ^ i) 1 |>.symm ▸ by rw [Nat.mul_one]
  unfold withBit
  by_cases h : maskHas mask i = on
  · rwa [if_pos h]
  · rw [if_neg h]
    cases on with
    | true =>
      have hbit : mask / 2 ^ i % 2 = 0 := by simpa [maskHas] using h
      simp only [if_true, maskHas, hup, beq_iff_eq]
      omega
    | false =>
      have hbit : mask / 2 ^ i % 2 = 1 := by simpa [maskHas] using h
      simp only [Bool.false_eq_true, if_false, maskHas, hdown, beq_eq_false_iff_ne]
      omega

/-- R389: the effective mask is the message's, with the absent members and the overruled one. -/
theorem maskHas_effective (m : RingMsg) {i : Nat} (s : State) (hi : i < 32) :
    maskHas (s.effective m) i = (maskHas m.mask i || maskHas s.ringAbs i || decide (m.ovr = i)) := by
  simp only [maskHas_eq_testBit, State.effective, Nat.testBit_or]
  congr 1
  split
  · exact Nat.testBit_two_pow
  · next hovr =>
    rw [Nat.zero_testBit, decide_eq_false (by omega)]

/-- The member named next is one that is not absent, or the unit itself. -/
theorem RingSec.next_present (abs : Nat) (r : RingSec) : maskHas abs (r.next abs) = false ∨ r.next abs = r.self := by
  unfold RingSec.next
  cases hfind : ((List.range (r.nodes.length - 1)).map (fun k => (r.self + 1 + k) % r.nodes.length)).find?
      (fun i => !maskHas abs i) with
  | none => exact .inr rfl
  | some i => exact .inl (by simpa using List.find?_some hfind)

/-! ### A message on the wire -/

theorem RingMsg.bytes_length (m : RingMsg) : m.bytes.length = 8 := by simp [RingMsg.bytes]

/-- The five fields of a message stand in its bytes (R389). -/
theorem RingMsg.fields_bytes {m : RingMsg} (hsender : m.sender < 256) (hsucc : m.succ < 256) (hflags : m.flags < 256)
    (hovr : m.ovr < 256) (hmask : m.mask < 2 ^ 32) :
    fieldBe m.bytes 0 1 = m.sender ∧ fieldBe m.bytes 1 1 = m.succ ∧ fieldBe m.bytes 2 1 = m.flags ∧
      fieldBe m.bytes 3 1 = m.ovr ∧ fieldBe m.bytes 4 4 = m.mask := by
  have field {a t rest : Bytes} {i n v : Nat} (hb : m.bytes = a ++ t ++ rest) (ha : a.length = i) (ht : t = be n v)
      (hv : v < 256 ^ n) : fieldBe m.bytes i n = v := by
    rw [hb, fieldBe_append rest ha (ht ▸ be_length n v), ht, beNat_be_of_lt hv]
  refine ⟨?_, ?_, ?_, ?_, ?_⟩
  · exact field (a := []) (rest := be 1 m.succ ++ be 1 m.flags ++ be 1 m.ovr ++ be 4 m.mask)
      (by simp [RingMsg.bytes]) rfl rfl hsender
  · exact field (a := be 1 m.sender) (rest := be 1 m.flags ++ be 1 m.ovr ++ be 4 m.mask) (by simp [RingMsg.bytes]) rfl rfl hsucc
  · exact field (a := be 1 m.sender ++ be 1 m.succ) (rest := be 1 m.ovr ++ be 4 m.mask) (by simp [RingMsg.bytes]) rfl rfl hflags
  · exact field (a := be 1 m.sender ++ be 1 m.succ ++ be 1 m.flags) (rest := be 4 m.mask) (by simp [RingMsg.bytes]) rfl rfl hovr
  · exact field (a := be 1 m.sender ++ be 1 m.succ ++ be 1 m.flags ++ be 1 m.ovr) (rest := []) (by simp [RingMsg.bytes]) rfl rfl hmask

/-- A message sent in the frame of R384 is heard as it was sent. -/
theorem State.ringOf_bytes {m : RingMsg} {e : CanidE} {s : State} (hid : s.canid 0x20 = some e) (hsender : m.sender < 256)
    (hsucc : m.succ < 256) (hflags : m.flags < 256) (hovr : m.ovr < 256) (hmask : m.mask < 2 ^ 32) :
    s.ringOf ⟨e.ident / 256 * 256 + m.sender, true, false, false, false, m.bytes⟩ = some m := by
  obtain ⟨h0, h1, h2, h3, h4⟩ := m.fields_bytes hsender hsucc hflags hovr hmask
  have hhigh : e.ident / 256 = (e.ident / 256 * 256 + m.sender) / 256 := by omega
  have hlow : (e.ident / 256 * 256 + m.sender) % 256 = m.sender := by omega
  unfold State.ringOf
  dsimp only
  rw [h0, h1, h2, h3, h4, hid, Option.any_some, ← hhigh, hlow, m.bytes_length]
  simp

/-! ### The steps of a round -/

theorem RingSec.step_bounds (r : RingSec) : 3 ≤ r.step ∧ r.step ≤ 50 := by unfold RingSec.step; omega

theorem turnFlags_cases (r : RingSec) (s : State) : (s.ringReady = false → turnFlags r s = 0) ∧
    (s.ringReady = true → s.ring.initiator.isSome = true ∨ s.allReady r = true → turnFlags r s = 3) ∧
    (s.ringReady = true → s.ring.initiator = none → s.allReady r = false → turnFlags r s = 1) := by
  unfold turnFlags
  refine ⟨fun h => if_pos h, fun h hround => ?_, fun h hnone hready => ?_⟩
  · rw [if_neg (by simp [h])]
    split
    · rfl
    · next hno => exact if_pos (hround.resolve_left hno)
  · simp [h, hnone, hready]

/-- R391: what a unit that is ready has nothing of. -/
theorem State.idle_of_ringReady {s : State} (h : s.ringReady = true) : s.profile ≤ 1 ∧ s.ses.ss = [] ∧ s.can.session = 1 ∧
    s.can.xfer = none ∧ (s.queue .ingest).items = [] ∧ (s.queue .commit).items = [] ∧ s.rmc.cur = none ∧ s.rmc.op = none := by
  simp only [State.ringReady, Bool.and_eq_true, decide_eq_true_eq, List.isEmpty_iff, beq_iff_eq, Option.isNone_iff_eq_none] at h
  obtain ⟨⟨⟨⟨⟨⟨⟨⟨hprofile, hss⟩, -⟩, hsession⟩, hxfer⟩, hingest⟩, hcommit⟩, hcur⟩, hop⟩ := h
  exact ⟨hprofile, hss, hsession, hxfer, hingest, hcommit, hcur, hop⟩

/-- The unit's own message names itself, shows its readiness and, with READY set, its overruled index. -/
theorem ringSay_message {f : Nat} (r : RingSec) (s : State) (hf : f < 8) : ∃ m, (ringSay f r s).ring.mine = some m ∧
    m.sender = r.own ∧ maskHas m.mask r.self = (f % 2 == 1) ∧ m.flags % 8 = f ∧ (f % 2 = 1 → m.ovr = s.overruled) := by
  have hflags : ∀ first : Bool, (f + if first then 8 else 0) % 8 = f := fun first => by split <;> omega
  have hready : f % 2 = 1 → (if f % 2 = 0 then overruleEnd s else s) = s := fun h => if_neg (by omega)
  unfold ringSay
  dsimp only
  generalize (if f % 2 = 0 then overruleEnd s else s) = u at hready
  split
  all_goals
    refine ⟨_, rfl, rfl, maskHas_withBit_same _ _ _, ?_, fun h => ?_⟩
    · exact hflags _
    · exact congrArg State.overruled (hready h)

/-- Settles O47: each step by its own equation; a message's round trip through its frame is `State.ringOf_bytes`, the masks are read bit by bit. -/
theorem hibernationRing : Obligations.HibernationRing := by
  unfold Obligations.HibernationRing
  refine ⟨fun f m r i s hsec hof hidx hin hcan hother => ?heard, fun f s h => ?unheard,
    fun m e s hid hsender hsucc hflags hovr hmask => State.ringOf_bytes hid hsender hsucc hflags hovr hmask,
    fun m i s hi => maskHas_effective m s hi, fun r t s hsec hturn hin => ?turn, RingSec.step_bounds, turnFlags_cases,
    fun s => State.idle_of_ringReady, fun r f s hf hne => ?inTurn, fun f r s => ringSay_message r s,
    fun r i s hsec hwait hin => ?absent, RingSec.next_present, fun r s hsec hin hcan hmode hwait hturn => ?start,
    fun r t s hsec hsole hin hovr => ?overrule, fun r s hsec hin => ?wake⟩
  case heard =>
    have hheard : ¬(s.inRing = false ∨ s.canOn = false ∨ m.sender = r.own) := by simp [hin, hcan, hother]
    have hexec : exec (.ringMessage f) s = execRingMessage f s := rfl
    rw [hexec, execRingMessage, hsec, hof]
    dsimp only
    rw [hidx]
    dsimp only
    rw [if_neg hheard]
    exact ⟨fun hc => congrArg Host.Outcome.next (if_pos hc), fun hc => congrArg Host.Outcome.next (if_neg (ne_true_of_eq_false hc))⟩
  case unheard =>
    show execRingMessage f s = .next s
    unfold execRingMessage
    split
    · rfl
    · rfl
    · next r m hsec hof =>
      split
      · rfl
      · rw [if_pos (.inl (h.resolve_right (by simp [hof])))]
  case turn =>
    have hexec : exec .ringTurn s = execRingTurn s := rfl
    simp only [hexec, execRingTurn, hsec, hturn]
    exact ⟨fun h => if_pos ⟨hin, h⟩, fun h => if_neg (by simp [h])⟩
  case inTurn =>
    subst hf
    exact if_neg hne
  case absent =>
    have hexec : exec .ringSuccessorTimeout s = execRingSuccessorTimeout s := rfl
    simp only [hexec, execRingSuccessorTimeout, hsec, hwait]
    exact ⟨fun h => if_pos ⟨hin, h⟩, fun h => if_neg (by simp [h])⟩
  case start =>
    have hexec : exec .ringStartTimeout s = execRingStartTimeout s := rfl
    simp only [hexec, execRingStartTimeout, hsec]
    exact ⟨fun h => if_pos ⟨hin, hcan, hmode, by simp [hwait], by simp [hturn], h⟩, fun h => if_neg (by simp [h])⟩
  case overrule =>
    have hexec : exec .ringOverrule s = execRingOverrule s := rfl
    simp only [hexec, execRingOverrule, hsec, hsole]
    exact ⟨fun hmax h => if_pos ⟨hin, hmax, hovr, h⟩, fun hmax => if_neg (by simp [hmax])⟩
  case wake =>
    have hexec : exec .ringWakeEvent s = execRingWakeEvent s := rfl
    simp only [hexec, execRingWakeEvent, hsec]
    exact ⟨fun h => if_pos ⟨hin, h⟩, fun h => if_neg (by simp [h])⟩

end Sys2Proof.Machine
end

section
/-! PROOFS. Pulses, speed and the waymark triggers (R272 to R284). -/

namespace Sys2Proof.Machine

/-! ### What leaves the motion inputs alone -/

theorem OnlyQueues.motion {r t : State} (h : OnlyQueues r t) : t.motion = r.motion := by
  obtain ⟨_, _, _, _, _, _, _, _, _, _, rfl⟩ := h
  rfl

section Motion

variable {s : State}

@[simp] theorem raise_motion (code detail : Nat) (s : State) : (raise code detail s).motion = s.motion :=
  (raise_onlyQueues (.refl s) ..).motion

@[simp] theorem logRec_motion (typ : Nat) (body : Bytes) (s : State) : (logRec typ body s).motion = s.motion :=
  (logRec_onlyQueues (.refl s) ..).motion

@[simp] theorem enqueue_motion (q : QueueId) (cls : Cls) (m : Master) (w : Work) (s : State) :
    (enqueue q cls m w s).2.motion = s.motion := (enqueue_onlyQueues (.refl s)).motion

@[simp] theorem recordRaw_motion (cls : Cls) (x : Rec) (s : State) : (recordRaw cls x s).2.motion = s.motion :=
  (recordRaw_onlyQueues (.refl s) x).motion

@[simp] theorem settSend_motion (typ : Nat) (bc : Bool) (dst : Nat) (cls : Cls) (p : Bytes) (s : State) :
    (settSend typ bc dst cls p s).motion = s.motion := (p0Fault_onlyQueues (settCore_onlyQueues (.refl s) ..)).motion

@[simp] theorem ringStir_motion : (ringStir s).motion = s.motion := by
  unfold ringStir
  split <;> rfl

@[simp] theorem fireTrigger_motion (t : Trigger) : (fireTrigger t s).2.motion = s.motion := by simp [fireTrigger]

@[simp] theorem State.setDom_motion (d : Dom) (on : Bool) : (s.setDom d on).motion = s.motion := by cases on <;> rfl

@[simp] theorem State.setBank_motion (b : Nat) (v : LfBank) : (s.setBank b v).motion = s.motion := rfl

@[simp] theorem State.setLane_motion (n : Nat) (l : Lane) : (s.setLane n l).motion = s.motion := rfl

@[simp] theorem boostCheck_motion : (boostCheck s).motion = s.motion := by
  dsimp only [boostCheck]
  split <;> rfl

@[simp] theorem bankUse_motion (b : Nat) : (bankUse b s).motion = s.motion := by
  dsimp only [bankUse]
  split <;> simp

@[simp] theorem banksKept_motion : (banksKept s).motion = s.motion := by
  dsimp only [banksKept]
  split <;> simp

@[simp] theorem relevel_motion : (relevel s).motion = s.motion := by
  dsimp only [relevel]
  split <;> rfl

/-- Each bank's request is one more step that leaves them alone. -/
@[simp] theorem askTests_motion (chans : List Nat) (cls : Cls) (m : Master) : (askTests chans cls m s).2.motion = s.motion := by
  refine List.foldlRecOn (motive := fun r : Bool × State => r.2.motion = s.motion) _ _ rfl fun r hr b _ => ?_
  split
  · exact hr
  · split <;> next heq =>
      have hasked := (congrArg (fun x : Admit × State => x.2.motion) heq).symm.trans ((enqueue_motion ..).trans hr)
      simpa using hasked

@[simp] theorem laneMove_motion (n c : Nat) : (laneMove n c s).motion = s.motion := by
  unfold laneMove
  extract_lets lead d cold domain moved
  split
  · rfl
  · simp only [moved, domain, State.setLane_motion, State.put_motion, State.setBit_motion, apply_ite State.motion,
      State.setDom_motion, ite_self]

@[simp] theorem laneListen_motion (n : Nat) (until_ : Option Nat) : (laneListen n until_ s).motion = s.motion := by
  simp [laneListen, laneListenFrom, apply_ite State.motion]

@[simp] theorem listenKick_motion : (listenKick s).motion = s.motion := by
  unfold listenKick
  split
  · split <;> simp
  · rfl

@[simp] theorem motionFlush_motion : (motionFlush s).motion = s.motion := by
  unfold motionFlush
  split
  · rfl
  · extract_lets n body
    split
    · rfl
    · exact (ledgerPut_onlyQueues (.refl _) _).motion

@[simp] theorem enterProfile_motion (p : Nat) : (enterProfile p s).motion = s.motion := by
  simp [enterProfile, apply_ite State.motion]

@[simp] theorem eventsEvaluate_motion : (eventsEvaluate s).motion = s.motion := by
  have heval : (evalProfile true s).motion = s.motion := by
    dsimp only [evalProfile]
    split
    · rfl
    · split <;> simp [apply_ite State.motion]
  unfold eventsEvaluate
  split
  exacts [heval, rfl]

@[simp] theorem wmReport_motion (e : WaymarkE) (r : WmResult) : (wmReport e r s).motion = s.motion := by cases r <;> rfl

@[simp] theorem wmSession_motion (e : WaymarkE) (code : Nat) : (wmSession e code s).motion = s.motion := by
  have hfire := fireTrigger_motion (s := s) ⟨code, e.action, 0⟩
  unfold wmSession
  split
  · simp
  · split <;> next t heq => simpa [heq] using hfire

@[simp] theorem wmRecord_motion (e : WaymarkE) (typ : Nat) (body : Bytes) : (wmRecord e typ body s).motion = s.motion := by
  have hrec := recordRaw_motion .p2 (s.mkRec typ body) s
  unfold wmRecord
  split <;> next t heq => simpa [heq] using hrec

@[simp] theorem wmAction_motion (e : WaymarkE) : (wmAction e s).motion = s.motion := by
  simp [wmAction, apply_ite State.motion]

@[simp] theorem wmEvaluate_motion : (wmEvaluate s).motion = s.motion := by
  have hactions : ∀ (l : List WaymarkE) (t : State), (l.foldl (fun s e => wmAction e s) t).motion = t.motion :=
    foldl_same State.motion _ fun _ _ => wmAction_motion _
  dsimp only [wmEvaluate]
  split
  · split <;> simp [hactions]
  · simp [hactions]

@[simp] theorem wmSpeedChange_motion : (wmSpeedChange s).motion = s.motion := by simp [wmSpeedChange, apply_ite State.motion]

@[simp] theorem captureInto_motion (n : Nat) : (captureInto n s).motion = s.motion := by
  obtain ⟨_, _, h⟩ := captureInto_eq n s
  rw [h]

@[simp] theorem captureEdge_motion (src : Nat) (rising : Bool) : (captureEdge src rising s).motion = s.motion := by
  obtain ⟨_, _, h⟩ := captureEdge_eq src rising s
  rw [h]

@[simp] theorem latchWake_motion (code : Nat) : (latchWake code s).motion = s.motion := by
  unfold latchWake
  split <;> simp [apply_ite State.motion]

@[simp] theorem bSilent_motion : (bSilent s).motion = s.motion := by simp [bSilent, apply_ite State.motion]

@[simp] theorem speedEdge_motion (rev : Bool) : (speedEdge rev s).motion = s.motion := rfl

@[simp] theorem movingCheck_motion : (movingCheck s).motion = s.motion := by
  unfold movingCheck
  split <;> rfl

theorem motionWake_pulses : (motionWake s).motion.pulses = s.motion.pulses := by
  unfold motionWake
  split <;> simp [apply_ite State.motion]

/-- R272, R274: a qualified edge adds 1, whatever its direction and whatever follows it. -/
theorem qualifiedEdge_pulses : (qualifiedEdge s).motion.pulses = (s.motion.pulses + 1) % 2 ^ 48 := by
  have hcounted : ∀ t : State, t.motion = { s.motion with pulses := (s.motion.pulses + 1) % 2 ^ 48 } →
      t.motion.pulses = (s.motion.pulses + 1) % 2 ^ 48 := fun t ht => congrArg MotionSt.pulses ht
  dsimp only [qualifiedEdge]
  split
  all_goals
    simp only [motionWake_pulses, apply_ite State.motion, wmSpeedChange_motion, movingCheck_motion, speedEdge_motion, bSilent_motion,
      captureEdge_motion, captureInto_motion, State.count_motion, ite_self]

end Motion

/-! ### A qualified edge asleep (R275) -/

section Asleep

variable {s : State}

/-- The registers after an edge: the captures and the reverse count; the motion state's stands. -/
def edgeCaptured (s : State) : State :=
  let t := { s with motion := { s.motion with pulses := (s.motion.pulses + 1) % 2 ^ 48 } }
  let t := if s.reverseNow then t.count Reg.WM_REV_V 1 else t
  captureEdge 1 true (if s.captures 1 1 true then t else captureInto 1 t)

theorem edgeCaptured_eq (s : State) : ∃ regs hwSet, edgeCaptured s =
    { s with regs := regs, hwSet := hwSet, motion := { s.motion with pulses := (s.motion.pulses + 1) % 2 ^ 48 } } := by
  let counted := { s with motion := { s.motion with pulses := (s.motion.pulses + 1) % 2 ^ 48 } }
  have hrev : ∃ regs hwSet, (if s.reverseNow then counted.count Reg.WM_REV_V 1 else counted) = { counted with regs, hwSet } := by
    split
    exacts [⟨_, _, rfl⟩, ⟨_, _, rfl⟩]
  obtain ⟨regs, hwSet, hrev⟩ := hrev
  obtain ⟨regs', hwSet', hinto⟩ := captureInto_eq 1 { counted with regs, hwSet }
  unfold edgeCaptured
  dsimp only
  rw [hrev, hinto]
  split
  · obtain ⟨regs'', hwSet'', hedge⟩ := captureEdge_eq 1 true { counted with regs, hwSet }
    exact ⟨regs'', hwSet'', hedge⟩
  · obtain ⟨regs'', hwSet'', hedge⟩ := captureEdge_eq 1 true { counted with regs := regs', hwSet := hwSet' }
    exact ⟨regs'', hwSet'', hedge⟩

theorem edgeCaptured_mstat (hw : regsWf s.regs = true) : (edgeCaptured s).rd Reg.WM_MSTAT = s.rd Reg.WM_MSTAT := by
  let counted := { s with motion := { s.motion with pulses := (s.motion.pulses + 1) % 2 ^ 48 } }
  have hrev : ∃ u : State, (if s.reverseNow then counted.count Reg.WM_REV_V 1 else counted) = u ∧ regsWf u.regs = true ∧
      u.rd Reg.WM_MSTAT = s.rd Reg.WM_MSTAT := by
    refine ⟨_, rfl, ?_⟩
    split
    · exact ⟨State.regsWf_put counted _ _ hw, State.rd_put_apart (s := counted) _ hw (by decide)⟩
    · exact ⟨hw, rfl⟩
  obtain ⟨u, hu, huw, hrd⟩ := hrev
  have hinto : ∃ v : State, (if s.captures 1 1 true then u else captureInto 1 u) = v ∧ regsWf v.regs = true ∧
      v.rd Reg.WM_MSTAT = s.rd Reg.WM_MSTAT := by
    refine ⟨_, rfl, ?_⟩
    split
    · exact ⟨huw, hrd⟩
    · exact ⟨captureInto_regsWf huw, (captureInto_rd_apart huw (by decide)).trans hrd⟩
  obtain ⟨v, hv, hvw, hvrd⟩ := hinto
  unfold edgeCaptured
  dsimp only
  rw [hu, hv]
  exact (captureEdge_rd_apart hvw (by decide)).trans hvrd

/-- R275: asleep an edge is captured and counted, and may wake the unit. -/
theorem qualifiedEdge_asleep (h : s.power.state = .sleep) : qualifiedEdge s = motionWake { edgeCaptured s with
    wm := { s.wm with edges := [s.now], lastEdge := some s.now, lastRev := s.reverseNow } } := by
  obtain ⟨_, _, heq⟩ := edgeCaptured_eq s
  have hwm : (edgeCaptured s).wm = s.wm := by rw [heq]
  have hunfold : qualifiedEdge s = (match s.power.state with
    | .sleep | .hibernate => motionWake { edgeCaptured s with
        wm := { (edgeCaptured s).wm with edges := [s.now], lastEdge := some s.now, lastRev := s.reverseNow } }
    | .reset => motionWake (edgeCaptured s)
    | .on | .doze | .standby =>
      let u := movingCheck (speedEdge s.reverseNow (bSilent (edgeCaptured s)))
      if u.speedKnown ≠ s.speedKnown ∨ (s.speedKnown ∧ s.speed = 0) then wmSpeedChange u else u) := rfl
  rw [hunfold, h, hwm]

/-- R275: the sixteenth edge within 2 s latches the wake source, an earlier one does not. -/
theorem motionWake_asleep (h : s.power.state = .sleep) : (motionWake s).wm = s.wm ∧ (motionWake s).regs = s.regs ∧
    (motionWake s).power = s.power ∧
    ((s.recent 2000000 s.motion.wakeEdges).length < 15 → (motionWake s).powAon = s.powAon) ∧
    (15 ≤ (s.recent 2000000 s.motion.wakeEdges).length → s.powAon.wakes = [] →
      (motionWake s).powAon.wakes = [6] ∧ (motionWake s).powAon.wakeAt = s.now) := by
  have hlen : ((s.now :: s.recent 2000000 s.motion.wakeEdges).take 16).length =
      min 16 ((s.recent 2000000 s.motion.wakeEdges).length + 1) := List.length_take
  unfold motionWake
  rw [h]
  dsimp only
  split
  · next hmany =>
    rw [hlen] at hmany
    unfold latchWake
    dsimp only
    rw [h]
    dsimp only
    split
    · exact ⟨rfl, rfl, rfl, fun hfew => absurd hmany (by omega), fun _ _ => ⟨rfl, rfl⟩⟩
    · next hwakes =>
      split <;> exact ⟨rfl, rfl, rfl, fun hfew => absurd hmany (by omega), fun _ hnone => absurd hnone hwakes⟩
  · next hfew =>
    rw [hlen] at hfew
    exact ⟨rfl, rfl, rfl, fun _ => rfl, fun hmany => absurd hmany (by omega)⟩

end Asleep

end Sys2Proof.Machine
end

section
/-! PROOFS. The speed that an edge gives (R276, R277) and what a waymark entry fires at (R280 to R283). -/

namespace Sys2Proof.Machine

/-! ### Speed (R276, R277) -/

section Speed

variable {rev : Bool} {s : State}

/-- Whether the previous edge lies at most 1,024 s back (R277). -/
def State.edgeNear (s : State) : Bool := s.wm.lastEdge.any (fun t => decide (s.now - t ≤ 1024 * 4194304))

/-- The edge times after an edge: from this one alone, from the turn of direction, or the last 257 (R276). -/
def State.edgesWith (s : State) (rev : Bool) : List Nat :=
  if s.edgeNear = false then [s.now]
  else if s.wm.lastEdge.isSome && s.wm.lastRev != rev then [s.now, s.wm.lastEdge.getD s.now]
  else (s.now :: s.wm.edges).take 257

/-- The speed of the last intervals (R276). -/
def State.edgeSpeed (s : State) (rev : Bool) : Nat :=
  if s.edgeNear then speedOf s.pulseK (windowN (s.edgesWith rev)) (spanOf (windowN (s.edgesWith rev)) (s.edgesWith rev)) else 0

theorem speedEdge_eq (rev : Bool) (s : State) : speedEdge rev s =
    ((({ s with wm := { s.wm with edges := s.edgesWith rev, lastEdge := some s.now, lastRev := rev } }.setBit
      Reg.WM_MSTAT_KNOWN s.edgeNear).put Reg.WM_MSTAT_SPEED (s.edgeSpeed rev)).setBit Reg.WM_MSTAT_REV rev) := rfl

theorem speedOf_le (k n span : Nat) : speedOf k n span ≤ 0xFFFF := by
  unfold speedOf
  split
  exacts [le_rfl, Nat.min_le_left ..]

theorem State.edgeSpeed_lt (s : State) (rev : Bool) : s.edgeSpeed rev < 2 ^ 16 := by
  unfold State.edgeSpeed
  split
  · have := speedOf_le s.pulseK (windowN (s.edgesWith rev)) (spanOf (windowN (s.edgesWith rev)) (s.edgesWith rev))
    omega
  · decide

theorem speedEdge_wm : (speedEdge rev s).wm = { s.wm with edges := s.edgesWith rev, lastEdge := some s.now, lastRev := rev } := rfl

theorem speedEdge_shows (hw : regsWf s.regs = true) : (speedEdge rev s).bit Reg.WM_MSTAT_REV = rev ∧
    (speedEdge rev s).speedKnown = s.edgeNear ∧ (speedEdge rev s).get Reg.WM_MSTAT_SPEED = s.edgeSpeed rev := by
  rw [speedEdge_eq]
  have w0 : regsWf ({ s with wm := { s.wm with edges := s.edgesWith rev, lastEdge := some s.now, lastRev := rev } } : State).regs = true := hw
  have w1 := State.regsWf_setBit Reg.WM_MSTAT_KNOWN s.edgeNear w0
  have w2 := State.regsWf_put _ Reg.WM_MSTAT_SPEED (s.edgeSpeed rev) w1
  refine ⟨State.bit_setBit_same _ w2 (by decide) rfl, ?_, ?_⟩
  · unfold State.speedKnown
    rw [State.bit_setBit_apart _ w2 (by decide) (by decide) (by decide), State.bit_put_apart _ w1 (by decide) (by decide) (by decide),
      State.bit_setBit_same _ w0 (by decide) rfl]
  · rw [State.get_setBit_apart w2 (by decide) (by decide) (by decide), State.get_put_same _ _ _ w1 (by decide)]
    exact Nat.mod_eq_of_lt (s.edgeSpeed_lt rev)

theorem State.edgeNear_far (h : ∀ e, s.wm.lastEdge = some e → e + 4294967296 < s.now) : s.edgeNear = false := by
  unfold State.edgeNear
  cases he : s.wm.lastEdge with
  | none => rfl
  | some e =>
    have := h e he
    simp only [Option.any_some, decide_eq_false_iff_not]
    omega

theorem State.edgeNear_near {e : Nat} (he : s.wm.lastEdge = some e) (h : s.now ≤ e + 4294967296) : s.edgeNear = true := by
  simp only [State.edgeNear, he, Option.any_some, decide_eq_true_eq]
  omega

/-- R276, R277: unknown without an edge in the last 1,024 s; from a turn of direction one interval, else the last ones. -/
theorem speedEdge_gives (hw : regsWf s.regs = true) :
    ((∀ e, s.wm.lastEdge = some e → e + 4294967296 < s.now) →
      (speedEdge rev s).speedKnown = false ∧ (speedEdge rev s).wm.edges = [s.now]) ∧
    (∀ e, s.wm.lastEdge = some e → s.now ≤ e + 4294967296 → (speedEdge rev s).speedKnown = true ∧
      (s.wm.lastRev ≠ rev → (speedEdge rev s).wm.edges = [s.now, e] ∧
        (speedEdge rev s).get Reg.WM_MSTAT_SPEED = speedOf s.pulseK 1 (s.now - e)) ∧
      (s.wm.lastRev = rev → (speedEdge rev s).wm.edges = (s.now :: s.wm.edges).take 257 ∧
        (speedEdge rev s).get Reg.WM_MSTAT_SPEED = speedOf s.pulseK (windowN (speedEdge rev s).wm.edges)
          (spanOf (windowN (speedEdge rev s).wm.edges) (speedEdge rev s).wm.edges))) := by
  obtain ⟨-, hknown, hspeed⟩ := speedEdge_shows (rev := rev) hw
  rw [hknown, hspeed, speedEdge_wm]
  dsimp only
  refine ⟨fun hfar => ?_, fun e he hnear => ?_⟩
  · have hn := State.edgeNear_far hfar
    exact ⟨hn, by simp [State.edgesWith, hn]⟩
  · have hn := State.edgeNear_near he hnear
    refine ⟨hn, fun hturned => ?_, fun hsame => ?_⟩
    · have hedges : s.edgesWith rev = [s.now, e] := by simp [State.edgesWith, hn, he, hturned]
      have hone : windowN [s.now, e] = 1 := by simp [windowN]
      exact ⟨hedges, by rw [State.edgeSpeed, if_pos hn, hedges, hone]; rfl⟩
    · exact ⟨by simp [State.edgesWith, hn, hsame], by rw [State.edgeSpeed, if_pos hn]⟩

end Speed

/-! ### The entries (R280, R281) -/

section Entries

variable {w : WmState} {s : State}

/-- Code 1: once for all the multiples passed. -/
theorem wmEval_distance (h : w.entry.trigger = 1) (hparam : 0 < w.entry.param) :
    ((wmEval s w).fires = true ↔ w.prev < s.roadMetres / w.entry.param) ∧
    (w.prev < s.roadMetres / w.entry.param → (wmEval s w).st.prev = s.roadMetres / w.entry.param ∧
      (wmEval s w).skipped = s.roadMetres / w.entry.param - w.prev - 1) := by
  have hmax : max 1 w.entry.param = w.entry.param := by omega
  simp only [wmEval, if_pos h, hmax]
  split
  · next hp => exact ⟨⟨fun _ => hp, fun _ => rfl⟩, fun _ => ⟨rfl, rfl⟩⟩
  · next hp => exact ⟨⟨fun hf => absurd hf (by simp), fun hf => absurd hf hp⟩, fun hf => absurd hf hp⟩

/-- Code 2: once, when the target is reached. -/
theorem wmEval_target (h : w.entry.trigger = 2) :
    ((wmEval s w).fires = true ↔ w.armed = true ∧ w.entry.param ≤ s.roadMetres) ∧
    ((wmEval s w).fires = true → (wmEval s w).st.armed = false) ∧ (w.armed = false → (wmEval s w).st.armed = false) := by
  simp only [wmEval, if_neg (show ¬w.entry.trigger = 1 by omega), if_pos h]
  split
  · next hp => exact ⟨⟨fun _ => hp, fun _ => rfl⟩, fun _ => rfl, fun _ => rfl⟩
  · next hp => exact ⟨⟨fun hf => absurd hf (by simp), fun hf => absurd hf hp⟩, fun hf => absurd hf (by simp), id⟩

/-- A threshold fires only on a known speed, while armed, and once where it may fire once. -/
theorem wmEdge_fires {known goes rearm : Bool} (h : (wmEdge w known goes rearm).fires = true) : known = true ∧ goes = true ∧
    w.armed = true ∧ w.seen = true ∧ wmMay w = true ∧ (wmEdge w known goes rearm).st.armed = false ∧
    (wmEdge w known goes rearm).st.fired = true := by
  unfold wmEdge at h ⊢
  by_cases hknown : known = true
  · by_cases hseen : w.seen = true
    · by_cases hgoes : (w.armed && goes) = true
      · rw [if_neg (by simp [hknown]), if_neg (by simp [hseen]), if_pos hgoes] at h ⊢
        simp only [Bool.and_eq_true] at hgoes
        exact ⟨hknown, hgoes.2, hgoes.1, hseen, h, rfl, rfl⟩
      · rw [if_neg (by simp [hknown]), if_neg (by simp [hseen]), if_neg hgoes] at h
        exact absurd h Bool.false_ne_true
    · rw [if_neg (by simp [hknown]), if_pos (by simp [hseen])] at h
      exact absurd h Bool.false_ne_true
  · rw [if_pos (by simp [hknown])] at h
    exact absurd h Bool.false_ne_true

theorem wmEval_above (h : w.entry.trigger = 3) :
    wmEval s w = wmEdge w s.speedKnown (decide (w.entry.param < s.speed)) (decide (s.speed + w.entry.param2 ≤ w.entry.param)) := by
  simp only [wmEval, h]
  rfl

theorem wmEval_below (h : w.entry.trigger = 4) :
    wmEval s w = wmEdge w s.speedKnown (decide (s.speed < w.entry.param)) (decide (w.entry.param + w.entry.param2 ≤ s.speed)) := by
  simp only [wmEval, h]
  rfl

/-- Codes 3 and 4 never fire on an unknown speed. -/
theorem wmEval_unknown (hlo : 3 ≤ w.entry.trigger) (hhi : w.entry.trigger ≤ 4) (hknown : s.speedKnown = false) :
    wmEval s w = ⟨w, false, 0⟩ := by
  rcases (by omega : w.entry.trigger = 3 ∨ w.entry.trigger = 4) with h | h
  · simp [wmEval_above h, wmEdge, hknown]
  · simp [wmEval_below h, wmEdge, hknown]

theorem not_fired_of_wmMay (h : wmMay w = true) (hflags : w.entry.flags % 2 = 0) : w.fired = false := by
  simpa [wmMay, hflags] using h

theorem wmEval_threshold (h : w.entry.trigger = 3 ∨ w.entry.trigger = 4) (hf : (wmEval s w).fires = true) :
    s.speedKnown = true ∧ w.armed = true ∧ w.seen = true ∧ (wmEval s w).st.armed = false ∧ (wmEval s w).st.fired = true ∧
    (w.entry.trigger = 3 → w.entry.param < s.speed) ∧ (w.entry.trigger = 4 → s.speed < w.entry.param) ∧
    (w.entry.flags % 2 = 0 → w.fired = false) := by
  rcases h with h | h
  · rw [wmEval_above h] at hf ⊢
    obtain ⟨hknown, hgoes, harmed, hseen, hmay, hst, hfired⟩ := wmEdge_fires hf
    exact ⟨hknown, harmed, hseen, hst, hfired, fun _ => of_decide_eq_true hgoes, fun h4 => absurd (h.symm.trans h4) (by decide),
      not_fired_of_wmMay hmay⟩
  · rw [wmEval_below h] at hf ⊢
    obtain ⟨hknown, hgoes, harmed, hseen, hmay, hst, hfired⟩ := wmEdge_fires hf
    exact ⟨hknown, harmed, hseen, hst, hfired, fun h3 => absurd (h.symm.trans h3) (by decide), fun _ => of_decide_eq_true hgoes,
      not_fired_of_wmMay hmay⟩

/-- Code 5: known standstill for its time, while armed. -/
theorem wmEval_stopped (h : w.entry.trigger = 5) (hf : (wmEval s w).fires = true) :
    s.speedKnown = true ∧ s.speed = 0 ∧ w.armed = true ∧ w.entry.param * 4194304 ≤ s.stoppedTicks := by
  have hne : ∀ n, n < 5 → ¬w.entry.trigger = n := by omega
  simp only [wmEval, if_neg (hne 1 (by decide)), if_neg (hne 2 (by decide)), if_neg (hne 3 (by decide)),
    if_neg (hne 4 (by decide)), if_pos h] at hf
  by_cases hmoves : s.speedKnown = true ∧ s.speed ≠ 0
  · rw [if_pos hmoves] at hf
    exact absurd hf Bool.false_ne_true
  · rw [if_neg hmoves] at hf
    by_cases hstands : s.speedKnown = true ∧ w.armed = true ∧ w.entry.param * 4194304 ≤ s.stoppedTicks
    · obtain ⟨hknown, harmed, hlong⟩ := hstands
      exact ⟨hknown, not_not.mp fun hv => hmoves ⟨hknown, hv⟩, harmed, hlong⟩
    · rw [if_neg hstands] at hf
      exact absurd hf Bool.false_ne_true

/-- R283: an action that starts a session. -/
theorem wmAction_session {e : WaymarkE} (h : e.action = 1 ∨ e.action = 3) (s : State) : wmAction e s = wmSession e 0x30 s := if_pos h

theorem wmAction_welcome {e : WaymarkE} (h : e.action = 4) (s : State) : wmAction e s = wmSession e 0x31 s := by
  unfold wmAction
  rw [if_neg (by omega), if_pos h]

end Entries

theorem State.motionCounts_true {s : State} (hcount : s.motion.counting = true) (hbkp : s.bit Reg.CHRON_STAT_BKP = false) :
    s.motionCounts = true := by simp [State.motionCounts, hcount, hbkp]

theorem State.motionCounts_false {s : State} (h : s.motion.counting = false ∨ s.bit Reg.CHRON_STAT_BKP = true) :
    s.motionCounts = false := by
  rcases h with h | h <;> simp [State.motionCounts, h]

/-- An edge while the inputs count: qualified, or a rejected excursion. -/
theorem exec_motionEdge {low high : Nat} {s : State} (h : s.motionCounts = true) : exec (.motionEdge low high) s =
    .next (if s.heldEnough low ∧ s.heldEnough high then qualifiedEdge s else glitch s) := if_neg (by simp [h])

theorem exec_motionGlitch {s : State} (h : s.motionCounts = true) : exec .motionGlitch s = .next (glitch s) :=
  congrArg Host.Outcome.next (if_pos h)

/-- R272, R273: a rejected excursion is counted; fault 0x0202 where 64 fall within 1 s and none was raised within the last second. -/
theorem glitch_counts (s : State) :
    let gs := (s.now :: s.recent 1000000 s.wm.glitches).take 64
    let t := { s with wm := { s.wm with glitches := gs } }.count Reg.WM_GLITCH_V 1
    (gs.length < 64 → glitch s = t) ∧
    (64 ≤ gs.length → s.wm.glitchFault = none →
      glitch s = raise 0x0202 0 { t with wm := { t.wm with glitchFault := some s.now } }) ∧
    (∀ f, s.wm.glitchFault = some f → s.after f 1000000 = false → glitch s = t) := by
  have hnever (hnone : s.wm.glitchFault = none) : s.wm.glitchFault.all (fun f => s.after f 1000000) = true := by rw [hnone]; rfl
  have hrecent {f : Nat} (hf : s.wm.glitchFault = some f) (hwait : s.after f 1000000 = false) :
      s.wm.glitchFault.all (fun f => s.after f 1000000) ≠ true := by
    rw [hf, Option.all_some, hwait]
    exact Bool.false_ne_true
  intro gs t
  unfold glitch
  refine ⟨fun hfew => ?_, fun hmany hnone => ?_, fun f hf hwait => ?_⟩
  · rw [if_neg fun h => absurd hfew (not_lt.mpr h.1)]
  · rw [if_pos ⟨hmany, hnever hnone⟩]
  · rw [if_neg fun h => hrecent hf hwait h.2]

/-- Settles O31: the pulse count is left alone by all that an edge starts (`wmEvaluate_motion`); the speed and each waymark entry by their own equations. -/
theorem pulsesSpeedAndTriggers : Obligations.PulsesSpeedAndTriggers := by
  unfold Obligations.PulsesSpeedAndTriggers
  refine ⟨⟨fun low high s h => ?idle, fun low high c s hcount hbkp hcfg => ⟨fun hlow hhigh => ?counted, fun hshort => ?rejected⟩,
    fun low high s hcount hbkp hlow hhigh hsleep hw => ?asleep,
    fun rev s hw => ⟨rfl, rfl, (speedEdge_shows hw).1, speedEdge_gives hw⟩, by decide,
    fun b held s hcount hbkp hmode hheld => ?bEdge, fun b held s hcount hbkp hmode hheld => ?bGlitch, fun b held s h => ?bIdle,
    fun s h => ?glitchIdle, fun s hcount hbkp => ?glitch, fun e s he => ?zero, fun e s he hmoving hknown hspeed => ?stopped, fun s hknown => ?unknown⟩,
    ⟨fun s h => ?profile, fun s hfresh hwait => ?waits, fun s hlo hhi h => ?evaluated, fun w s => wmEval_distance, fun w s => wmEval_target,
      fun w s => wmEval_unknown, fun w s => wmEval_threshold, fun w s => wmEval_stopped, fun e s h hlatch => ?noLatch,
      fun e s t h hlatch hfire => ?fires⟩⟩
  case idle => exact if_pos (State.motionCounts_false h)
  case counted =>
    rw [exec_motionEdge (State.motionCounts_true hcount hbkp), if_pos ⟨by simp [State.heldEnough, hcfg, hlow], by simp [State.heldEnough, hcfg, hhigh]⟩]
    exact ⟨_, rfl, qualifiedEdge_pulses⟩
  case rejected =>
    have hcounts := State.motionCounts_true hcount hbkp
    rw [exec_motionEdge hcounts, exec_motionGlitch hcounts, if_neg]
    simp only [State.heldEnough, hcfg, Option.all_some, decide_eq_true_eq]
    omega
  case asleep =>
    rw [exec_motionEdge (State.motionCounts_true hcount hbkp), if_pos ⟨hlow, hhigh⟩, qualifiedEdge_asleep hsleep]
    refine ⟨_, rfl, ?_⟩
    obtain ⟨regs, hwSet, heq⟩ := edgeCaptured_eq s
    have hmstat := edgeCaptured_mstat hw
    rw [heq] at hmstat ⊢
    obtain ⟨hwm, hregs, hpower, hfew, hmany⟩ := motionWake_asleep (s := { s with
      regs := regs, hwSet := hwSet, motion := { s.motion with pulses := (s.motion.pulses + 1) % 2 ^ 48 },
      wm := { s.wm with edges := [s.now], lastEdge := some s.now, lastRev := s.reverseNow } }) hsleep
    exact ⟨hwm, (congrArg (regGet · Reg.WM_MSTAT) hregs).trans hmstat, hpower, hfew, hmany⟩
  case bEdge =>
    have hcounts := State.motionCounts_true hcount hbkp
    show execMotionBEdge b held s = _
    unfold execMotionBEdge
    rw [if_neg (by simp [hcounts, hmode]), if_neg (by simp [hheld])]
  case bGlitch =>
    have hcounts := State.motionCounts_true hcount hbkp
    rw [exec_motionGlitch hcounts]
    show execMotionBEdge b held s = _
    unfold execMotionBEdge
    rw [if_neg (by simp [hcounts, hmode]), if_pos hheld]
  case bIdle =>
    refine if_pos (h.imp (fun hc => State.motionCounts_false (.inl hc)) fun hmode => ?_)
    rw [hmode]
    decide
  case glitchIdle => exact congrArg Host.Outcome.next (if_neg (ne_true_of_eq_false (State.motionCounts_false h)))
  case glitch =>
    rw [exec_motionGlitch (State.motionCounts_true hcount hbkp)]
    obtain ⟨hfew, hmany, hwait⟩ := glitch_counts s
    exact ⟨fun h => congrArg Host.Outcome.next (hfew h), fun h hnone => congrArg Host.Outcome.next (hmany h hnone),
      fun f hf h => congrArg Host.Outcome.next (hwait f hf h)⟩
  case zero =>
    have hexec : exec .speedZeroTimeout s = execSpeedZeroTimeout s := rfl
    rw [hexec, execSpeedZeroTimeout, he]
    refine ⟨fun h => if_neg (by simp [h]), fun h hspeed => if_pos ⟨h, fun hzero => ?_⟩⟩
    obtain ⟨hknown, hv⟩ := hzero
    exact hspeed.elim (fun hk => Bool.false_ne_true (hk.symm.trans hknown)) (fun hne => hne hv)
  case stopped =>
    have hexec : exec .motionStopped s = execMotionStopped s := rfl
    rw [hexec, execMotionStopped, he, Option.getD_some]
    exact ⟨fun h => if_pos ⟨hmoving, hknown, hspeed, by omega⟩, fun h => if_neg fun ⟨_, _, _, hlong⟩ => by omega⟩
  case unknown => exact if_neg fun ⟨_, hk, _⟩ => Bool.false_ne_true (hknown.symm.trans hk)
  case profile => exact if_neg fun ⟨hlo, hhi, _⟩ => by omega
  case waits => exact if_neg (by simp [hfresh, hwait])
  case evaluated => exact if_pos ⟨hlo, hhi, h⟩
  case noLatch =>
    rcases h with h | h | h
    · rw [wmAction_session (.inl h)]
      exact if_pos hlatch
    · rw [wmAction_session (.inr h)]
      exact if_pos hlatch
    · rw [wmAction_welcome h]
      exact if_pos hlatch
  case fires =>
    rw [wmAction_session h, wmSession, if_neg (by simp [hlatch]), hfire]
    exact ⟨fun hruns => by rw [hruns]; rfl, fun hruns => by rw [hruns]; rfl⟩

end Sys2Proof.Machine
end

section
/-! PROOFS. When the ledger seals, opens and keeps its devices (R286 to R302). -/

namespace Sys2Proof.Machine

/-! ### The header in force (R288) -/

/-- Of two headers the one of the later generation, as a device takes it. -/
def newerCtrl (b : Option NandCtrl) (c : NandCtrl) : Option NandCtrl :=
  if b.all (fun (x : NandCtrl) => decide (x.gen < c.gen)) then some c else b

/-- A header copy whose CRC holds. -/
def NandCtrl.sound (c : NandCtrl) : Bool := c.crc == crc32c c.bytes

theorem NandDev.control_eq (d : NandDev) : d.control = (d.ctrl.filter NandCtrl.sound).foldl newerCtrl none := rfl

theorem newerCtrl_some (a c : NandCtrl) : newerCtrl (some a) c = some (if a.gen < c.gen then c else a) := by
  unfold newerCtrl
  rw [Option.all_some]
  split_ifs <;> simp_all

/-- The header in force is of no earlier generation than any sound copy seen before. -/
theorem foldl_newerCtrl : ∀ (l : List NandCtrl) (a : NandCtrl), ∃ x, l.foldl newerCtrl (some a) = some x ∧ a.gen ≤ x.gen
  | [], a => ⟨a, rfl, le_rfl⟩
  | c :: l, a => by
    obtain ⟨x, hx, hgen⟩ := foldl_newerCtrl l (if a.gen < c.gen then c else a)
    refine ⟨x, by rw [List.foldl_cons, newerCtrl_some, hx], le_trans ?_ hgen⟩
    split <;> omega

/-- The generation that a header written gets. -/
def NandDev.nextGen (d : NandDev) : Nat := d.control.elim 0 (fun x => x.gen) + 1

/-- The copy that stays beside the one written is older. -/
theorem NandDev.gen_lt_nextGen {d : NandDev} {c : NandCtrl} (hc : c ∈ d.ctrl.take 1) (hs : c.sound = true) : c.gen < d.nextGen := by
  cases hctrl : d.ctrl with
  | nil => simp [hctrl] at hc
  | cons a rest =>
    obtain rfl : c = a := by simpa [hctrl] using hc
    have hcontrol : d.control = (rest.filter NandCtrl.sound).foldl newerCtrl (some c) := by
      rw [NandDev.control_eq, hctrl, List.filter_cons_of_pos hs]
      rfl
    obtain ⟨x, hx, hgen⟩ := foldl_newerCtrl (rest.filter NandCtrl.sound) c
    rw [NandDev.nextGen, hcontrol, hx]
    exact Nat.lt_succ_of_le hgen

/-- The header as it is written: with the next generation and its CRC. -/
def NandDev.stamped (d : NandDev) (c : NandCtrl) : NandCtrl :=
  { c with gen := d.nextGen, crc := crc32c { c with gen := d.nextGen }.bytes }

/-- R288: a header written is the one in force from then on. -/
theorem NandDev.control_writeCtrl (d : NandDev) (c : NandCtrl) : (d.writeCtrl c).control = some (d.stamped c) := by
  have hctrl : (d.writeCtrl c).ctrl = d.stamped c :: d.ctrl.take 1 := rfl
  have hsound : (d.stamped c).sound = true := beq_self_eq_true _
  have holder : ∀ l : List NandCtrl, (∀ x ∈ l, x.gen < d.nextGen) → l.foldl newerCtrl (some (d.stamped c)) = some (d.stamped c) := by
    intro l hl
    refine List.foldlRecOn (motive := fun b => b = some (d.stamped c)) l newerCtrl rfl fun b hb x hx => ?_
    subst hb
    exact (newerCtrl_some _ _).trans (congrArg some (if_neg (Nat.not_lt_of_lt (hl x hx))))
  rw [NandDev.control_eq, hctrl, List.filter_cons_of_pos hsound]
  refine holder _ fun x hx => ?_
  rw [List.mem_filter] at hx
  exact NandDev.gen_lt_nextGen hx.1 hx.2

/-! ### Sealing (R286, R291 to R294) -/

section Sealing

variable {s : State}

theorem lossCheck_none (h : s.led.drops = 0) : lossCheck s = s := if_pos (.inl h)

theorem dayCheck_unkept (h : s.ledAon.keptDay = none) : dayCheck s = s := by rw [dayCheck, h]

/-- An open ledger with no checkpoint in work and no sector being programmed. -/
theorem sealNext_open (hday : s.ledAon.keptDay = none) (hready : s.bit Reg.LDG_STAT_READY = true)
    (hro : s.bit Reg.LDG_STAT_RONLY = false) (hhalt : s.bit Reg.LDG_STAT_HALT = false) (hckpt : s.led.ckpt = none)
    (hprog : s.ledAon.programming = 0) :
    (s.ckptDue = true → sealNext s = { s with led := { s.led with ckpt := some (s.get Reg.LDG_NEXT_V) } }) ∧
    (∀ key, s.ckptDue = false → s.slotKey 5 = some key →
      (∀ i r t, popQueue .ingest s = some (i, t) → i.work = .record r → sealNext s = sealRec key r t) ∧
      (popQueue .ingest s = none → sealNext s = s)) := by
  unfold sealNext
  rw [dayCheck_unkept hday]
  dsimp only
  rw [if_neg (by simp [hready, hro, hhalt, hckpt, hprog])]
  refine ⟨fun hdue => if_pos hdue, fun key hdue hkey => ?_⟩
  rw [if_neg (by simp [hdue]), hkey]
  dsimp only
  refine ⟨fun i r t hpop hwork => ?_, fun hpop => ?_⟩
  · rw [hpop]
    dsimp only
    rw [hwork]
  · rw [hpop]

theorem exec_ledgerIngest_none (h : s.isHead = true) : exec (.ledgerIngest none) s = .next (sealNext (lossCheck s)) := if_pos h

/-- A checkpoint's signature: made, or still waiting (R293, R355). -/
theorem exec_checkpointSeal {num : Nat} {d key : Bytes} (hckpt : s.led.ckpt = some num) (hd : s.slotKey 3 = some d)
    (hkey : s.slotKey 5 = some key) :
    (∀ sig t, signWith (beNat d) (sha256 (ckptMessage s num s.secs)) s = (.bytes sig, t) →
      exec .checkpointSeal s = .next (sealPair key num sig t)) ∧
    (∀ t, signWith (beNat d) (sha256 (ckptMessage s num s.secs)) s = (.wait, t) → exec .checkpointSeal s = .next t) := by
  have hexec : exec .checkpointSeal s = execCheckpointSeal s := rfl
  rw [hexec, execCheckpointSeal, hckpt]
  dsimp only
  rw [hd, hkey]
  dsimp only
  refine ⟨fun sig t h => ?_, fun t h => ?_⟩
  · rw [h]
  · rw [h]

end Sealing

/-! ### Opening (R287, R289, R300) -/

section Opening

variable {s : State}

/-- The devices as they are checked at opening (R287). -/
def devicesChecked (s : State) : State := checkDevice 1 (checkDevice 0 { s with led := { s.led with served := [true, true] } })

theorem exec_ledgerOpen_closed {t : State} (ht : devicesChecked s = t) (hhead : s.isHead = true) (hstarted : s.boot.started = true)
    (hready : s.bit Reg.LDG_STAT_READY = false) (hforeign : s.led.foreign = false) :
    exec .ledgerOpen s = if s.lc = 0 then .next (ledgerClosed s) else
      if t.led.served.all (!·) then .next (ledgerClosed (resumeCount [] t))
      else if t.devsIn.any (fun d => !d.blank && d.serial != t.straps.serial) then
        .next (ledgerClosed (resumeCount [] (raise 0x5208 0 { t with led := { t.led with foreign := true } })))
      else
        match t.slotKey 3, t.slotKey 5 with
        | some _, some key =>
          if t.devsIn.all (·.blank) then
            if t.lc = 4 then .next (openDone (resumeCount [] t)) else .next (openDone (resumeCount [] (ledgerFormat t)))
          else
            match t.blankMirror with
            | some d => .next (openDone (openFound key { t with led := { t.led with copying := some d, served := t.led.served.set d false } }))
            | none => .next (openDone (openFound key t))
        | _, _ => .next (ledgerHalt (resumeCount [] t)) := by
  subst ht
  exact if_neg (by simp [hhead, hstarted, hready, hforeign])

theorem not_all_not_of_any {l : List Bool} (h : l.any id = true) : ¬l.all (!·) = true := by
  simpa using h

end Opening

/-! ### The open sector (R295, R296) -/

section Sector

variable {s : State}

theorem sectorProgram_starts (hsector : s.ledAon.sector ≠ []) (hprog : s.ledAon.programming = 0) :
    sectorProgram s = { s with ledAon := { s.ledAon with programming := if s.served 0 then 1 else if s.served 1 then 2 else 0 } } :=
  if_neg (by simp [hsector, hprog])

theorem State.fillNow_without (h : s.devsIn = []) : s.fillNow = 0 := by rw [State.fillNow, h]

theorem truncateOldest_without (h : s.devsIn = []) : truncateOldest s = s := by rw [truncateOldest, h]

/-- Without a device in service a sector is closed by being dropped. -/
theorem sectorClose_without (hlen : s.ledAon.sector.length ≤ 8) (h : s.devsIn = []) :
    (sectorClose s).ledAon.sector = [] ∧ (sectorClose s).ledAon.programming = 0 := by
  let closed := { s with ledAon := { s.ledAon with
    sector := s.ledAon.sector.drop 8, sectorAt := s.now, programming := 0,
    flushOk := s.ledAon.flushOk || s.bit Reg.PWR_STAT_VBATF } }
  have hdevs : (closed.put Reg.LDG_FILL_USED closed.fillNow).devsIn = [] := h
  have hclose : sectorClose s = closed.put Reg.LDG_FILL_USED closed.fillNow := by
    unfold sectorClose
    dsimp only
    rw [if_neg fun hfull => absurd hfull.1 (by rw [State.fillNow_without hdevs]; decide)]
    exact truncateOldest_without hdevs
  rw [hclose]
  exact ⟨List.drop_eq_nil_of_le hlen, rfl⟩

end Sector

/-- Settles O33: opening by its branches on the checked devices (`exec_ledgerOpen_closed`), the header in force by generations. -/
theorem ledgerSealsAndKeepsDevices : Obligations.LedgerSealsAndKeepsDevices := by
  unfold Obligations.LedgerSealsAndKeepsDevices
  refine ⟨⟨fun s h => if_neg (by simp [h]), fun c r s h => if_pos h,
    fun i r key s t hhead hdrops hday hready hro hhalt hckpt hprog => ?seals, fun s h => ?due, fun s h => ?noCkpt,
    fun num d key sig s t hckpt hd hkey => ?ckpt, fun s h => ?notOpened, fun s hhead hstarted hready hforeign => ⟨fun hlc => ?blank, ?opened⟩,
    NandDev.control_writeCtrl⟩,
    ⟨fun s h => ?young, fun s hsector hold hprog => ?aged, fun ok s hprog => ?idle, fun s hprog hserved => ?first, fun s hprog => ?second,
      fun s hlen hdevs => sectorClose_without hlen hdevs, fun d s hprog => ?failed, fun d s h => if_neg (by simp [h]), fun d s h => ?silent,
      fun d s h => ?copied, fun s hhead hprofile => ?hourly, fun s h => if_neg fun hs => h hs.2.1⟩⟩
  case seals =>
    obtain ⟨hdue, hnext⟩ := sealNext_open hday hready hro hhalt hckpt hprog
    rw [exec_ledgerIngest_none hhead, lossCheck_none hdrops]
    exact ⟨fun h => congrArg Host.Outcome.next (hdue h),
      fun h hkey hpop hwork => congrArg Host.Outcome.next ((hnext key h hkey).1 i r t hpop hwork),
      fun h hkey hpop => congrArg Host.Outcome.next ((hnext key h hkey).2 hpop)⟩
  case due => simp [State.ckptDue, h]
  case noCkpt =>
    show execCheckpointSeal s = _
    rw [execCheckpointSeal, h]
  case ckpt =>
    obtain ⟨hsigned, hwaits⟩ := exec_checkpointSeal hckpt hd hkey
    exact ⟨hsigned sig t, hwaits t⟩
  case notOpened =>
    refine if_pos ?_
    rcases h with h | h | h <;> simp [h]
  case blank => rw [exec_ledgerOpen_closed rfl hhead hstarted hready hforeign, if_pos hlc]
  case opened =>
    intro t hlc hserved
    rw [exec_ledgerOpen_closed (t := t) rfl hhead hstarted hready hforeign, if_neg hlc, if_neg (not_all_not_of_any hserved)]
    refine ⟨fun hf => if_pos hf, fun d key hf hd hkey => ?_⟩
    rw [if_neg (ne_true_of_eq_false hf), hd, hkey]
    dsimp only
    refine ⟨fun hblank hret => ?_, fun hblank hmirror => ?_, fun m hblank hmirror => ?_⟩
    · rw [if_pos hblank, if_neg hret]
    · rw [if_neg (ne_true_of_eq_false hblank), hmirror]
    · rw [if_neg (ne_true_of_eq_false hblank), hmirror]
  case young =>
    refine if_neg fun ⟨hsector, hold⟩ => ?_
    exact h.elim hsector fun hyoung => Bool.false_ne_true (hyoung.symm.trans hold)
  case aged =>
    have hexec : exec .sectorAgeFlush s = .next (sectorProgram s) := if_pos ⟨hsector, hold⟩
    rw [hexec, sectorProgram_starts hsector hprog]
    exact ⟨fun h0 => by rw [if_pos h0], fun h0 h1 => by rw [if_neg (ne_true_of_eq_false h0), if_pos h1]⟩
  case idle =>
    show execNandProgramDone ok s = _
    rw [execNandProgramDone, hprog]
  case first =>
    have hexec : exec (.nandProgramDone true) s = execNandProgramDone true s := rfl
    rw [hexec, execNandProgramDone, hprog]
    dsimp only
    rw [if_pos rfl]
    exact congrArg Host.Outcome.next (if_pos ⟨rfl, hserved⟩)
  case second =>
    show execNandProgramDone true s = _
    rw [execNandProgramDone, hprog]
    rfl
  case failed =>
    have hexec : exec (.nandProgramDone false) s = .next (programFailed d s) := by
      show execNandProgramDone false s = _
      rw [execNandProgramDone, hprog]
      rfl
    rw [hexec]
    exact ⟨fun h => congrArg Host.Outcome.next (if_pos h), fun _ => rfl⟩
  case silent =>
    have hexec : exec (.nandNoAnswer d) s =
        .next (if s.ledAon.programming = d + 1 then sectorNext d (deviceOut d 0x5201 s) else deviceOut d 0x5201 s) := if_pos h
    rw [hexec]
    exact ⟨fun hp => by rw [if_neg hp], fun hp => by rw [if_pos hp]⟩
  case copied =>
    show execMirrorCopy s = _
    rw [execMirrorCopy, h]
  case hourly => exact ⟨fun h => if_pos ⟨hhead, hprofile, h⟩, fun h => if_neg fun hs => Bool.false_ne_true (h.symm.trans hs.2.2)⟩

end Sys2Proof.Machine
end

section
/-! PROOFS. The window buffer: what a write gathers, and what COMMIT, ABORT and the timeout do with it (R307, R308). -/

namespace Sys2Proof.Machine

/-! ### The error of a run (R308) -/

theorem runError_long {m : Master} {x n : Nat} (h : 256 < n) : runError m x n = some .bufferFull := if_pos h

theorem areaOf_vehicle {x : Nat} (hlo : 0xC000 ≤ x) (hhi : x < 0x10000) : areaOf x = some ⟨0xC000, 0x10000, true, []⟩ := by
  have hearlier : areas.dropLast.find? (fun a => a.lo ≤ x && x < a.hi) = none := List.find?_eq_none.mpr fun a ha => by
    have hbelow : a.hi ≤ 0xC000 := (by decide : ∀ a ∈ areas.dropLast, a.hi ≤ 0xC000) a ha
    simp only [Bool.and_eq_true, decide_eq_true_eq, not_and]
    omega
  have hsplit : areas = areas.dropLast ++ [⟨0xC000, 0x10000, true, []⟩] := rfl
  rw [areaOf, hsplit, List.find?_append, hearlier]
  simp [hlo, hhi]

theorem areaOf_den {x : Nat} (h : x < 0x4000) : areaOf x = some ⟨0, 0x4000, false, [.den]⟩ := by
  simp [areaOf, areas, h]

/-- Only runs that stay inside the vehicle area are free of error. -/
theorem runError_cases {m : Master} {x n : Nat} (hm : windowMaster m = true) (hn : 0 < n) :
    (256 < n → runError m x n = some .bufferFull) ∧
    (n ≤ 256 → 0xC000 ≤ x → x + n ≤ 0x10000 → runError m x n = none) ∧
    (n ≤ 256 → 0xC000 ≤ x → x < 0x10000 → 0x10000 < x + n → runError m x n = some .area) ∧
    (n ≤ 256 → x + n ≤ 0x4000 → runError m x n = some .denied) := by
  refine ⟨runError_long, fun hlen hlo hhi => ?_, fun hlen hlo hhi hpast => ?_, fun hlen hlow => ?_⟩
  · rw [runError, if_neg (by omega), areaOf_vehicle hlo (by omega)]
    simp only [if_neg (by omega : ¬0x10000 < x + n), hm, Bool.and_self, if_true]
  · rw [runError, if_neg (by omega), areaOf_vehicle hlo hhi]
    exact if_pos hpast
  · rw [runError, if_neg (by omega), areaOf_den (by omega)]
    simp only [if_neg (by omega : ¬0x4000 < x + n), Bool.and_false, Bool.false_eq_true, if_false]

/-! ### A write (R308) -/

section Write

variable {m : Master} {x : Nat} {b : Bytes} {s : State}

theorem windowMaster_id (h : windowMaster m = true) : m.id < 7 := by cases m <;> decide

/-- The first write claims the buffer and begins the run. -/
theorem windowWrite_claims (hm : windowMaster m = true) (hw : regsWf s.regs = true) (hx : x < 65536) (hown : s.get Reg.RMC_STAT_OWN = 7) :
    ∃ t, windowWrite m x b s = (.ok, t) ∧ t.rmc.buf = b ∧ t.get Reg.RMC_STAT_OWN = m.id ∧
      t.get Reg.RMC_RUN_V = x ∧ t.rmc.err = runError m x b.length ∧ t.nv = s.nv ∧ t.queues = s.queues := by
  have hid := windowMaster_id hm
  have w1 := State.regsWf_put s Reg.RMC_STAT_OWN m.id hw
  have hmaster : ((s.put Reg.RMC_STAT_OWN m.id).put Reg.RMC_RUN_V x).get Reg.RMC_STAT_OWN = m.id := by
    rw [State.get_put_apart _ _ _ _ w1 (by decide) (by decide) (by decide), State.get_put_same _ _ _ hw (by decide)]
    exact Nat.mod_eq_of_lt (by omega : m.id < 8)
  have hrun : ((s.put Reg.RMC_STAT_OWN m.id).put Reg.RMC_RUN_V x).get Reg.RMC_RUN_V = x := by
    rw [State.get_put_same _ _ _ w1 (by decide)]
    exact Nat.mod_eq_of_lt hx
  unfold windowWrite
  dsimp only
  rw [if_neg (by simp [hm]), if_pos hown]
  exact ⟨_, rfl, rfl, hmaster, hrun, rfl, rfl, rfl⟩

/-- The next write begins at the byte after the run's end; the first error is kept. -/
theorem windowWrite_extends (hm : windowMaster m = true) (hown : s.get Reg.RMC_STAT_OWN = m.id) (herr : s.rmc.err = none) :
    ∃ t, windowWrite m x b s = (.ok, t) ∧ t.nv = s.nv ∧ t.regs = s.regs ∧
      (x ≠ s.get Reg.RMC_RUN_V + s.rmc.buf.length → t.rmc.err = some .sequence ∧ t.rmc.buf = s.rmc.buf) ∧
      (x = s.get Reg.RMC_RUN_V + s.rmc.buf.length →
        t.rmc.err = runError m (s.get Reg.RMC_RUN_V) (s.rmc.buf.length + b.length) ∧ (t.rmc.err = none → t.rmc.buf = s.rmc.buf ++ b)) := by
  have hid := windowMaster_id hm
  unfold windowWrite
  dsimp only
  rw [if_neg (by simp [hm]), if_neg (by omega), if_neg (by simp [hown]), herr]
  refine ⟨_, rfl, rfl, rfl, fun hx => ?_, fun hx => ?_⟩
  · dsimp only
    rw [if_pos hx]
    exact ⟨rfl, rfl⟩
  · dsimp only
    rw [if_neg (by simp [hx])]
    refine ⟨rfl, fun hnone => ?_⟩
    rw [hnone]
    rfl

end Write

/-! ### COMMIT and ABORT (R308, R309) -/

section Commands

variable {m : Master} {s t : State}

/-- A write of RMC_CMD after its checks. -/
theorem wordWrite_rmcCmd (v : Nat) (h : fabCheck m Reg.RMC_CMD .b32 true s = (.ok, some (.reg Reg.RMC_CMD), t)) (hm : windowMaster m = true) :
    wordWrite m Reg.RMC_CMD v s = .next (fabAnswer m (rmcCmdWrite v m t)) := by
  have hreg : regWrite m Reg.RMC_CMD v t = rmcWrite m Reg.RMC_CMD v t := rfl
  have hcmd : rmcWrite m Reg.RMC_CMD v t = rmcCmdWrite v m t := by
    rw [rmcWrite, if_neg (by simp [hm]), if_pos rfl]
  rw [wordWrite, fabWrite_reg h, hreg, hcmd]

theorem rmcCmdWrite_owned {v : Nat} (h : s.get Reg.RMC_STAT_OWN = 7 ∨ s.get Reg.RMC_STAT_OWN = m.id) : rmcCmdWrite v m s =
    if v % 4 = 1 then (.ok, windowCommit s)
    else if v % 4 = 2 then (.ok, if s.get Reg.RMC_STAT_OWN = 7 then s else windowEmpty true s) else (.ok, s) :=
  if_neg (by tauto)

theorem windowCommit_cases (s : State) :
    (s.get Reg.RMC_STAT_OWN = 7 → windowCommit s = windowDone (if s.rmc.aborted then .aborted else .empty) (windowEmpty false s)) ∧
    (∀ e, s.get Reg.RMC_STAT_OWN ≠ 7 → s.rmc.err = some e → windowCommit s = windowDone e (windowEmpty false s)) ∧
    (∀ u, s.get Reg.RMC_STAT_OWN ≠ 7 → s.rmc.err = none →
      submitGroup .p3 ⟨[(s.get Reg.RMC_RUN_V, s.rmc.buf)], .window⟩ (windowEmpty false s) = (.taken, u) → windowCommit s = u) := by
  refine ⟨fun h => if_pos h, fun e h he => ?_, fun u h he hu => ?_⟩
  · rw [windowCommit, if_neg h, he]
  · rw [windowCommit, if_neg h, he]
    dsimp only
    rw [hu]

end Commands

/-- Settles O34: the writes by `windowWrite_claims` and `windowWrite_extends`, the errors by the areas of Table 13-1, the commands by the register's owner. -/
theorem windowBuffer : Obligations.WindowBuffer := by
  unfold Obligations.WindowBuffer
  refine ⟨fun m off v w s t h => ?write, fun m x b s hm => if_pos hm,
    fun m x b s hm hw hx => ⟨windowWrite_claims hm hw hx, fun hfree hother => ?busy, windowWrite_extends hm⟩,
    fun m x n hm hn => runError_cases hm hn, fun m s t h hm => ?commands, windowCommit_cases,
    fun s hown => ⟨fun h => if_pos ⟨hown, h⟩, fun h => if_neg (by simp [h])⟩, fun s hown => if_neg (by simp [hown])⟩
  case write =>
    have hexec : exec (.retainedWindowWrite m off w v) s = .next (fabAnswer m (fabWrite m (0x50100000 + off % 65536) w v s)) := rfl
    rw [hexec, fabWrite_window h (by simp)]
    rfl
  case busy =>
    unfold windowWrite
    dsimp only
    rw [if_neg (by simp [hm]), if_neg hfree, if_pos hother]
  case commands =>
    have hcommit : exec (.rmcCommit m) s = .next (fabAnswer m (rmcCmdWrite 1 m t)) := wordWrite_rmcCmd 1 h hm
    have habort : exec (.rmcAbort m) s = .next (fabAnswer m (rmcCmdWrite 2 m t)) := wordWrite_rmcCmd 2 h hm
    rw [hcommit, habort]
    refine ⟨fun hown => ?_, fun hown hne => ?_, fun hown => ?_, fun hfree hother => ?_⟩
    · rw [rmcCmdWrite_owned hown, if_pos rfl]
    · rw [rmcCmdWrite_owned (.inr hown), if_neg (by decide), if_pos rfl, if_neg (by rw [hown]; exact hne)]
    · rw [rmcCmdWrite_owned (.inl hown), if_neg (by decide), if_pos rfl, if_pos hown]
    · rw [rmcCmdWrite, if_pos ⟨hfree, hother⟩]

end Sys2Proof.Machine
end

section
/-! PROOFS. The command registers of the Den and of the crypto engine: when a command is taken, and when it is BUSY (R342, R347, R361). -/

namespace Sys2Proof.Machine

/-- The masters that issue commands have a number below 7, the mark of a free buffer. -/
theorem Master.id_lt_eight (m : Master) : m.id < 8 := by cases m <;> decide

/-! ### The Den (R342) -/

section Den

variable {m : Master} {op slot v : Nat} {s t u : State}

/-- A write of VLT_CMD after its checks. -/
theorem wordWrite_vltCmd (v : Nat) (h : fabCheck m Reg.VLT_CMD .b32 true s = (.ok, some (.reg Reg.VLT_CMD), t)) :
    wordWrite m Reg.VLT_CMD v s = .next (fabAnswer m (vltCmdWrite m v t)) := by
  have hreg : regWrite m Reg.VLT_CMD v t = vltCmdWrite m v t := rfl
  rw [wordWrite, fabWrite_reg h, hreg]

theorem vltCmdWrite_taken (hm : serviceMaster m = true) (hgo : v / 2 ^ 31 % 2 = 1) (hidle : s.bit Reg.VLT_STAT_BUSY = false)
    (hfree : s.denBusy m = false) (hq : enqueue .den .p3 m .burst s = (.taken, u)) :
    vltCmdWrite m v s = (.ok, denRun ⟨v / 256 % 16, m, v % 256⟩ (denAccepted m (v / 256 % 16) (v % 256) u)) := by
  unfold vltCmdWrite
  rw [if_neg (by simp [hm]), if_neg (by omega), if_neg (by simp [hidle, hfree]), hq]

theorem vltCmdWrite_busy (hm : serviceMaster m = true) (hgo : v / 2 ^ 31 % 2 = 1)
    (h : s.bit Reg.VLT_STAT_BUSY = true ∨ s.denBusy m = true) : vltCmdWrite m v s = (.busy, s) := by
  unfold vltCmdWrite
  rw [if_neg (by simp [hm]), if_neg (by omega), if_pos h]

/-- GO with an operation and a slot, where no command runs and the buffer is free. -/
theorem denGo_taken (h : fabCheck m Reg.VLT_CMD .b32 true s = (.ok, some (.reg Reg.VLT_CMD), t)) (hm : serviceMaster m = true)
    (hidle : t.bit Reg.VLT_STAT_BUSY = false) (hfree : t.denBusy m = false) (hq : enqueue .den .p3 m .burst t = (.taken, u))
    (hop : op < 16) (hslot : slot < 256) :
    denGo op m slot s = .next (fabAnswer m (.ok, denRun ⟨op, m, slot⟩ (denAccepted m op slot u))) := by
  have hv : (0x80000000 + op * 256 + slot % 256) / 256 % 16 = op := by omega
  have hs : (0x80000000 + op * 256 + slot % 256) % 256 = slot := by omega
  rw [denGo, wordWrite_vltCmd _ h, vltCmdWrite_taken hm (by omega) hidle hfree hq, hv, hs]

theorem denGo_busy (h : fabCheck m Reg.VLT_CMD .b32 true s = (.ok, some (.reg Reg.VLT_CMD), t)) (hm : serviceMaster m = true)
    (hbusy : t.bit Reg.VLT_STAT_BUSY = true ∨ t.denBusy m = true) (hop : op < 16) :
    denGo op m slot s = .next (fabAnswer m (.busy, t)) := by
  rw [denGo, wordWrite_vltCmd _ h, vltCmdWrite_busy hm (by omega) hbusy]

/-- A command that is taken holds the buffer, whose bytes stay for the same master alone. -/
theorem denAccepted_shows (hw : regsWf s.regs = true) (hslot : slot < 256) :
    let t := denAccepted m op slot s
    t.bit Reg.VLT_STAT_BUSY = true ∧ t.bit Reg.VLT_CMD_GO = true ∧ t.get Reg.VLT_STAT_OWN = m.id ∧ t.get Reg.VLT_CMD_SLOT = slot ∧
    t.den.claimed = true ∧ (s.get Reg.VLT_STAT_OWN = m.id → t.den.buf = s.den.buf) ∧ (s.get Reg.VLT_STAT_OWN ≠ m.id → t.den.buf = []) := by
  let s0 := { s with den := { s.den with claimed := true, touchedAt := s.now, buf := if s.get Reg.VLT_STAT_OWN == m.id then s.den.buf else [] } }
  have w0 : regsWf s0.regs = true := hw
  have w1 := State.regsWf_put s0 Reg.VLT_STAT_OWN m.id w0
  have w2 := State.regsWf_setBit Reg.VLT_CMD_GO true w1
  have w3 := State.regsWf_put _ Reg.VLT_CMD_OP op w2
  have w4 := State.regsWf_put _ Reg.VLT_CMD_SLOT slot w3
  refine ⟨State.bit_setBit_same true w4 (by decide) rfl, ?_, ?_, ?_, rfl, fun h => if_pos (by simp [h]), fun h => if_neg (by simp [h])⟩
  · refine (State.bit_setBit_apart true w4 (by decide) (by decide) (by decide)).trans
      ((State.bit_put_apart slot w3 (by decide) (by decide) (by decide)).trans
        ((State.bit_put_apart op w2 (by decide) (by decide) (by decide)).trans (State.bit_setBit_same true w1 (by decide) rfl)))
  · refine (State.get_setBit_apart w4 (by decide) (by decide) (by decide)).trans
      ((State.get_put_apart _ _ _ _ w3 (by decide) (by decide) (by decide)).trans
        ((State.get_put_apart _ _ _ _ w2 (by decide) (by decide) (by decide)).trans
          ((State.get_setBit_apart w1 (by decide) (by decide) (by decide)).trans ((State.get_put_same _ _ _ w0 (by decide)).trans ?_))))
    exact Nat.mod_eq_of_lt m.id_lt_eight
  · refine (State.get_setBit_apart w4 (by decide) (by decide) (by decide)).trans ((State.get_put_same _ _ _ w3 (by decide)).trans ?_)
    exact Nat.mod_eq_of_lt hslot

end Den

/-! ### The crypto engine (R347, R361) -/

section Crypto

variable {m : Master} {op slot dst mode v : Nat} {s t u : State}

/-- A write of CRY_CMD after its checks. -/
theorem wordWrite_cryCmd (v : Nat) (h : fabCheck m Reg.CRY_CMD .b32 true s = (.ok, some (.reg Reg.CRY_CMD), t)) :
    wordWrite m Reg.CRY_CMD v s = .next (fabAnswer m (cryCmdWrite m v t)) := by
  have hreg : regWrite m Reg.CRY_CMD v t = cryCmdWrite m v t := rfl
  rw [wordWrite, fabWrite_reg h, hreg]

theorem cryCmdWrite_taken (hm : serviceMaster m = true) (hgo : v / 2 ^ 31 % 2 = 1) (hidle : s.bit Reg.CRY_STAT_BUSY = false)
    (hfree : s.cryBusy m = false) (hq : enqueue .crypto .p3 m .burst s = (.taken, u)) :
    cryCmdWrite m v s = (.ok, cryRun ⟨v / 16 % 16, v % 16, m, v / 65536 % 256, v / 256 % 256⟩ (cryAccepted m v u)) := by
  unfold cryCmdWrite
  rw [if_neg (by simp [hm]), if_neg (by omega), if_neg (by simp [hidle, hfree]), hq]

theorem cryCmdWrite_busy (hm : serviceMaster m = true) (hgo : v / 2 ^ 31 % 2 = 1)
    (h : s.bit Reg.CRY_STAT_BUSY = true ∨ s.cryBusy m = true) : cryCmdWrite m v s = (.busy, s) := by
  unfold cryCmdWrite
  rw [if_neg (by simp [hm]), if_neg (by omega), if_pos h]

/-- GO with an operation, its slots and its mode, where no command runs and the buffer is free. -/
theorem cryGo_taken (h : fabCheck m Reg.CRY_CMD .b32 true s = (.ok, some (.reg Reg.CRY_CMD), t)) (hm : serviceMaster m = true)
    (hidle : t.bit Reg.CRY_STAT_BUSY = false) (hfree : t.cryBusy m = false) (hq : enqueue .crypto .p3 m .burst t = (.taken, u))
    (hop : op < 16) (hslot : slot < 256) (hdst : dst < 256) (hmode : mode < 16) :
    cryGo op m slot dst mode s = .next (fabAnswer m (.ok, cryRun ⟨op, mode, m, slot, dst⟩
      (cryAccepted m (0x80000000 + slot * 65536 + dst * 256 + op * 16 + mode) u))) := by
  have hv : 0x80000000 + slot % 256 * 65536 + dst % 256 * 256 + op * 16 + mode % 16 = 0x80000000 + slot * 65536 + dst * 256 + op * 16 + mode := by
    omega
  have hop' : (0x80000000 + slot * 65536 + dst * 256 + op * 16 + mode) / 16 % 16 = op := by omega
  have hmode' : (0x80000000 + slot * 65536 + dst * 256 + op * 16 + mode) % 16 = mode := by omega
  have hslot' : (0x80000000 + slot * 65536 + dst * 256 + op * 16 + mode) / 65536 % 256 = slot := by omega
  have hdst' : (0x80000000 + slot * 65536 + dst * 256 + op * 16 + mode) / 256 % 256 = dst := by omega
  rw [cryGo, hv, wordWrite_cryCmd _ h, cryCmdWrite_taken hm (by omega) hidle hfree hq, hop', hmode', hslot', hdst']

theorem cryGo_busy (h : fabCheck m Reg.CRY_CMD .b32 true s = (.ok, some (.reg Reg.CRY_CMD), t)) (hm : serviceMaster m = true)
    (hbusy : t.bit Reg.CRY_STAT_BUSY = true ∨ t.cryBusy m = true) (hop : op < 16) :
    cryGo op m slot dst mode s = .next (fabAnswer m (.busy, t)) := by
  rw [cryGo, wordWrite_cryCmd _ h, cryCmdWrite_busy hm (by omega) hbusy]

theorem cryAccepted_shows (hw : regsWf s.regs = true) :
    let t := cryAccepted m v s
    t.bit Reg.CRY_STAT_BUSY = true ∧ t.get Reg.CRY_STAT_OWN = m.id ∧ t.cry.claimed = true ∧ t.get Reg.CRY_CMD_SLOT = v / 65536 % 256 ∧
    (s.get Reg.CRY_STAT_OWN = m.id → t.cry.buf = s.cry.buf) ∧ (s.get Reg.CRY_STAT_OWN ≠ m.id → t.cry.buf = []) := by
  let s0 := { s with cry := { s.cry with claimed := true, touchedAt := s.now, buf := if s.get Reg.CRY_STAT_OWN == m.id then s.cry.buf else [] } }
  have w0 : regsWf s0.regs = true := hw
  have w1 := State.regsWf_put s0 Reg.CRY_STAT_OWN m.id w0
  have w2 := State.regsWf_put _ Reg.CRY_CMD_SLOT (v / 65536 % 256) w1
  have w3 := State.regsWf_put _ Reg.CRY_CMD_DST (v / 256 % 256) w2
  have w4 := State.regsWf_put _ Reg.CRY_CMD_OP (v / 16 % 16) w3
  have w5 := State.regsWf_put _ Reg.CRY_CMD_MODE (v % 16) w4
  have w6 := State.regsWf_setBit Reg.CRY_CMD_GO true w5
  refine ⟨State.bit_setBit_same true w6 (by decide) rfl, ?_, rfl, ?_, fun h => if_pos (by simp [h]), fun h => if_neg (by simp [h])⟩
  · refine (State.get_setBit_apart w6 (by decide) (by decide) (by decide)).trans
      ((State.get_setBit_apart w5 (by decide) (by decide) (by decide)).trans
        ((State.get_put_apart _ _ _ _ w4 (by decide) (by decide) (by decide)).trans
          ((State.get_put_apart _ _ _ _ w3 (by decide) (by decide) (by decide)).trans
            ((State.get_put_apart _ _ _ _ w2 (by decide) (by decide) (by decide)).trans
              ((State.get_put_apart _ _ _ _ w1 (by decide) (by decide) (by decide)).trans ((State.get_put_same _ _ _ w0 (by decide)).trans ?_))))))
    exact Nat.mod_eq_of_lt m.id_lt_eight
  · refine (State.get_setBit_apart w6 (by decide) (by decide) (by decide)).trans
      ((State.get_setBit_apart w5 (by decide) (by decide) (by decide)).trans
        ((State.get_put_apart _ _ _ _ w4 (by decide) (by decide) (by decide)).trans
          ((State.get_put_apart _ _ _ _ w3 (by decide) (by decide) (by decide)).trans
            ((State.get_put_apart _ _ _ _ w2 (by decide) (by decide) (by decide)).trans ((State.get_put_same _ _ _ w1 (by decide)).trans ?_)))))
    exact Nat.mod_eq_of_lt (Nat.mod_lt _ (by decide))

end Crypto

/-- Settles O39: every command is a write of its register with GO, which `denGo_taken` and `cryGo_taken` take and `denGo_busy` and `cryGo_busy` refuse. -/
theorem vaultAndCryptoCommandsTaken : Obligations.VaultAndCryptoCommandsTaken := by
  unfold Obligations.VaultAndCryptoCommandsTaken
  refine ⟨⟨fun m slot s t u h hm hidle hfree hq hslot => ?den, fun m slot s t h hm hbusy => ?denBusy,
      fun m op slot s hw _ hslot => denAccepted_shows hw hslot⟩,
    fun m slot dst mode s t u h hm hidle hfree hq hslot hdst hmode => ?crypto, fun m slot mode s t h hm hbusy => ?cryptoBusy,
    fun m v s hw => cryAccepted_shows hw⟩
  case den =>
    have hgo (op n : Nat) (hop : op < 16) (hn : n < 256) := denGo_taken h hm hidle hfree hq hop hn
    exact ⟨hgo 1 slot (by decide) hslot, hgo 2 slot (by decide) hslot, hgo 3 slot (by decide) hslot, hgo 4 slot (by decide) hslot,
      hgo 5 slot (by decide) hslot, hgo 6 slot (by decide) hslot, hgo 7 0 (by decide) (by decide), hgo 8 0 (by decide) (by decide),
      hgo 9 slot (by decide) hslot⟩
  case denBusy =>
    exact ⟨denGo_busy h hm hbusy (by decide), denGo_busy h hm hbusy (by decide), denGo_busy h hm hbusy (by decide)⟩
  case crypto =>
    have hgo (op sl d md : Nat) (hop : op < 16) (hsl : sl < 256) (hd : d < 256) (hmd : md < 16) :=
      cryGo_taken h hm hidle hfree hq hop hsl hd hmd
    have hzero : 0 < 256 ∧ 0 < 16 := by decide
    exact ⟨hgo 1 slot 0 mode (by decide) hslot hzero.1 hmode, hgo 2 slot 0 mode (by decide) hslot hzero.1 hmode,
      hgo 3 slot 0 mode (by decide) hslot hzero.1 hmode, hgo 4 0 0 0 (by decide) hzero.1 hzero.1 hzero.2,
      hgo 5 slot 0 0 (by decide) hslot hzero.1 hzero.2, hgo 6 slot 0 mode (by decide) hslot hzero.1 hmode,
      hgo 7 slot dst 0 (by decide) hslot hdst hzero.2, hgo 8 slot dst 0 (by decide) hslot hdst hzero.2,
      hgo 9 0 0 0 (by decide) hzero.1 hzero.1 hzero.2⟩
  case cryptoBusy => exact ⟨cryGo_busy h hm hbusy (by decide), cryGo_busy h hm hbusy (by decide)⟩

end Sys2Proof.Machine
end

section
/-! PROOFS. What an accepted command of the Den does (R333 to R338), and its deadlines (R330, R334, R339, R341, R342). -/

namespace Sys2Proof.Machine

section Den

variable {n : Nat} {m : Master} {s t u : State}

/-! ### Which slots may be written (R325, R335) -/

theorem denRun_reserved {op : Nat} (hlo : 7 ≤ n) (hhi : n < 16) (h7 : op ≠ 7) (h8 : op ≠ 8) : denRun ⟨op, m, n⟩ s = denDone .format [] s :=
  if_pos ⟨hlo, hhi, h7, h8⟩

/-- A command for a slot that is not reserved runs. -/
theorem denRun_slot {op : Nat} (h : n < 7 ∨ 16 ≤ n) : denRun ⟨op, m, n⟩ s = match op with
    | 1 => denGenerate ⟨op, m, n⟩ s
    | 2 => denImportOpen ⟨op, m, n⟩ { s with den := { s.den with pair := none } }
    | 3 => denImport ⟨op, m, n⟩ s
    | 4 => denErase ⟨op, m, n⟩ s
    | 5 => denAttest ⟨op, m, n⟩ s
    | 6 => denPublic ⟨op, m, n⟩ s
    | 7 => denNonce ⟨op, m, n⟩ s
    | 8 => denLcSet ⟨op, m, n⟩ s
    | 9 => denExport ⟨op, m, n⟩ s
    | _ => denDone .format [] s := if_neg (by dsimp only; omega)

theorem slotRefusal_states (s : State) : s.slotRefusal 0 = some .state ∧
    (∀ n, 1 ≤ n → n < 7 → s.lc ≠ 1 → s.lc ≠ 3 → s.slotRefusal n = some .state) ∧
    (∀ n, 16 ≤ n → n < 255 → s.lc = 0 ∨ 4 ≤ s.lc → s.slotRefusal n = some .state) ∧
    (∀ n, 16 ≤ n → n < 255 → 1 ≤ s.lc → s.lc ≤ 3 → s.slotRefusal n = none) := by
  refine ⟨rfl, fun n hlo hhi h1 h3 => ?_, fun n hlo hhi hlc => ?_, fun n hlo hhi h1 h3 => ?_⟩
  · rw [State.slotRefusal, if_neg (by omega), if_pos hhi, if_neg (by simp [h1, h3])]
  · rw [State.slotRefusal, if_neg (by omega), if_neg (by omega), if_neg (by omega), if_neg (by omega), if_neg (by omega)]
  · rw [State.slotRefusal, if_neg (by omega), if_neg (by omega), if_neg (by omega), if_neg (by omega), if_pos ⟨h1, h3⟩]

theorem denCommit_taken {writes : List (Nat × Bytes)} {owner : Owner} (h : submitGroup .p3 ⟨writes, owner⟩ s = (.taken, u)) :
    denCommit writes owner s = u := by rw [denCommit, h]

/-! ### GENERATE, ERASE, IMPORT, PUBLIC (R333 to R335, R342) -/

theorem denGenerate_refused {r : DenResult} (h : s.slotRefusal n = some r) : denGenerate ⟨1, m, n⟩ s = denDone r [] s := by
  dsimp only [denGenerate]
  rw [h]

theorem denImport_refused {r : DenResult} (h : s.slotRefusal n = some r) :
    denImport ⟨3, m, n⟩ s = denDone r [] { s with den := { s.den with pair := none } } := by
  dsimp only [denImport]
  rw [h]

theorem denErase_refused {r : DenResult} (h : s.slotRefusal n = some r) : denErase ⟨4, m, n⟩ s = denDone r [] s := by
  dsimp only [denErase]
  rw [h]

/-- GENERATE with attributes that fit: into an empty slot alone, and it waits for entropy. -/
theorem denGenerate_fits (h : s.slotRefusal n = none) :
    let attr := fieldBe (s.vltBuf 0 4) 0 4
    let len := if attrType attr = 1 then 16 else 32
    attrsFit n attr (fieldBe (s.vltBuf 4 1) 0 1) 0 len false = true → attrType attr ≠ 5 → s.vltBuf 5 3 = zeros 3 →
    (s.occupied n = true → denGenerate ⟨1, m, n⟩ s = denDone .occupied [] s) ∧
    (∀ k, s.occupied n = false → drawKey (attrType attr) s = (.bytes k, t) → denGenerate ⟨1, m, n⟩ s =
      denCommit [t.slotWrite n ⟨k, attrStored n attr 0, fieldBe (s.vltBuf 4 1) 0 1, 0, len, s.vltBuf 8 16, 0⟩] .denCmd t) ∧
    (s.occupied n = false → drawKey (attrType attr) s = (.wait, t) →
      denGenerate ⟨1, m, n⟩ s = { t with den := { t.den with wait := some ⟨1, m, n⟩ } }) := by
  intro attr len hfit htype hpad
  have hformat : ¬(attrsFit n attr (fieldBe (s.vltBuf 4 1) 0 1) 0 len false = false ∨ attrType attr = 5 ∨ s.vltBuf 5 3 ≠ zeros 3) := by
    simp [hfit, htype, hpad]
  unfold denGenerate
  dsimp only
  rw [h]
  dsimp only
  rw [if_neg hformat]
  refine ⟨fun hocc => if_pos hocc, fun k hocc hdraw => ?_, fun hocc hdraw => ?_⟩
  · rw [if_neg (ne_true_of_eq_false hocc), hdraw]
  · rw [if_neg (ne_true_of_eq_false hocc), hdraw]
    rfl

/-- ERASE of a general slot: only an occupied one, and only by a master that its attributes name. -/
theorem denErase_general (hlo : 16 ≤ n) (hhi : n < 255) (h : s.slotRefusal n = none) :
    (s.occupied n = false → denErase ⟨4, m, n⟩ s = denDone .empty [] s) ∧
    (s.occupied n = true → attrBit (s.slot n).attr (13 + m.id) = false → denErase ⟨4, m, n⟩ s = denDone .denied [] s) ∧
    (s.occupied n = true → attrBit (s.slot n).attr (13 + m.id) = true →
      denErase ⟨4, m, n⟩ s = denCommit [(n * 64, zeros 64)] .denCmd s) := by
  have hleft : ¬(n = 255 ∧ (s.slot n).engine = 7 ∧ (m = .host ∨ m = .can) ∧ (s.lc = 1 ∨ s.lc = 3)) := by omega
  unfold denErase
  dsimp only
  rw [h]
  refine ⟨fun hocc => if_pos hocc, fun hocc hbit => ?_, fun hocc hbit => ?_⟩
  · dsimp only
    rw [if_neg (by simp [hocc]), if_pos ⟨hlo, hbit, decide_eq_false hleft⟩]
  · dsimp only
    rw [if_neg (by simp [hocc]), if_neg (by simp [hbit])]

theorem denImport_unopened (h : s.slotRefusal n = none) (hpair : s.den.pair = none) :
    denImport ⟨3, m, n⟩ s = denDone .auth [] { s with den := { s.den with pair := none } } := by
  unfold denImport
  dsimp only
  rw [h, hpair, Option.bind_none]

theorem denPublic_answers {p : Bytes} (hocc : s.occupied n = true) (hgood : s.den.unusable.contains n = false)
    (hcrc : slotCrcOk (s.slotBytes n) = true) (hp : s.publicPoint n = some p) : denPublic ⟨6, m, n⟩ s = denDone .ok p s := by
  unfold denPublic
  dsimp only
  rw [if_neg (by simp [hocc]), if_neg (by rw [hgood, hcrc]; decide), hp]

/-! ### Statements and exports (R334, R336, R337) -/

theorem denAttest_unusable {r : DenResult} (h : keyCheck 0 [4] (some 10) 8 .session .internal s = (some r, t)) :
    denAttest ⟨5, m, n⟩ s = denDone .unusable [] t := by rw [denAttest, h]

theorem denImportOpen_unusable {r : DenResult} (h : keyCheck 0 [4] (some 10) 8 .session .internal s = (some r, t)) :
    denImportOpen ⟨2, m, n⟩ s = denDone .unusable [] t := by rw [denImportOpen, h]

theorem denExport_denied {c : DenCmd} (h : keyCheck c.slot [] none 0 c.master (s.world c.master) s = (none, t))
    (hexport : attrExport (t.slot c.slot).attr = false) : denExport c s = denDone .denied [] (t.count Reg.VLT_DENY_V 1) := by
  unfold denExport
  rw [h]
  exact if_pos (.inl hexport)

/-! ### The life cycle (R338, R339) -/

theorem denNonce_drawn {b : Bytes} (h : randBytes false 16 s = (.bytes b, t)) :
    denNonce ⟨7, m, n⟩ s = denDone .ok b { t with den := { t.den with nonce := some (b, t.now) } } := by rw [denNonce, h]

/-- The transitions of R338, each with what it asks for; no other exists. -/
theorem denLcSet_cases (m : Master) (s : State) : let target := fieldBe (s.vltBuf 0 1) 0 1
    (s.lc = 0 → target = 1 → s.occupied 0 = true →
      denLcSet ⟨8, m, 0⟩ s = denDone .ok [] (lcEnter 1 m { s with straps := { s.straps with prv := 3 } })) ∧
    (s.lc = 1 → target = 2 → s.slotsGood [0, 1, 2, 4] = true →
      denLcSet ⟨8, m, 0⟩ s = denDone .ok [] (lcEnter 2 m { s with straps := { s.straps with fld := 3 } })) ∧
    (s.lc = 1 → target = 2 → s.slotsGood [0, 1, 2, 4] = false → denLcSet ⟨8, m, 0⟩ s = denDone .state [] s) ∧
    (s.lc = 2 ∧ target = 3 ∨ s.lc = 3 ∧ target = 2 ∨ 1 ≤ s.lc ∧ s.lc ≤ 3 ∧ target = 4 → s.img.run = none →
      denLcSet ⟨8, m, 0⟩ s = denDone .state [] s) ∧
    (∀ i, s.lc = 2 → target = 3 → s.img.run = some i → s.den.nonce = none → denLcSet ⟨8, m, 0⟩ s = denDone .nonce [] s) ∧
    (target = 0 ∨ 4 < target ∨ target = s.lc ∨ s.lc = 4 → denLcSet ⟨8, m, 0⟩ s = denDone .state [] s) := by
  intro target
  have hauth (to_ : Nat) (hrun : s.img.run = none) : lcAuth to_ s = (some .state, s) := by
    unfold lcAuth
    rw [hrun]
  have hnonce (to_ : Nat) {i : Image} (hrun : s.img.run = some i) (hnone : s.den.nonce = none) : lcAuth to_ s = (some .nonce, s) := by
    unfold lcAuth
    rw [hrun, hnone]
  unfold denLcSet
  dsimp only
  change (_ → target = 1 → _) ∧ _
  generalize htarget : fieldBe (s.vltBuf 0 1) 0 1 = v
  rw [show target = v from htarget]
  refine ⟨fun h hv hocc => ?_, fun h hv hgood => ?_, fun h hv hbad => ?_, fun h hrun => ?_, fun i h hv hrun hnone => ?_, fun h => ?_⟩
  · rw [if_pos ⟨h, hv⟩, if_pos hocc]
  · rw [if_neg (by omega), if_pos ⟨h, hv⟩, if_pos hgood]
  · rw [if_neg (by omega), if_pos ⟨h, hv⟩, if_neg (ne_true_of_eq_false hbad)]
  · rw [if_neg (by omega), if_neg (by omega), hauth v hrun]
    dsimp only
    split_ifs with hservice hretire
    · rfl
    · rfl
    · rfl
  · rw [if_neg (by omega), if_neg (by omega), if_pos (.inl ⟨h, hv⟩), hnonce v hrun hnone]
  · rw [if_neg (by omega), if_neg (by omega), if_neg (by omega), if_neg (by omega)]

end Den

/-- Settles O40: each operation of `denRun` by its own lemma. -/
theorem denCommandResults : Obligations.DenCommandResults := by
  unfold Obligations.DenCommandResults
  refine ⟨fun op n m s hlo hhi h7 h8 => denRun_reserved hlo hhi h7 h8, fun n m r s hn h => ?refused, slotRefusal_states,
    fun n m k s t u hn h => ?generate, fun n m s u hlo hhi h => ?erase, fun n m s hn h hpair => ?unopened,
    fun n m p s hn hocc hgood hcrc hp => ?point, fun n m r s t hn h => ?attest, fun n m r s t hn hpair h => ?opens,
    fun n m s t hn h hexport => ?exports, fun m b s t h => ?nonceDrawn, fun m s => denLcSet_cases m s⟩
  case refused =>
    rw [denRun_slot hn, denRun_slot hn, denRun_slot hn]
    exact ⟨denGenerate_refused h, denImport_refused h, denErase_refused h⟩
  case generate =>
    intro attr hfit htype hpad
    obtain ⟨hocc, hbytes, hwait⟩ := denGenerate_fits (m := m) (t := t) h hfit htype hpad
    rw [denRun_slot (.inr hn)]
    exact ⟨hocc, fun hempty hdraw hsubmit => (hbytes k hempty hdraw).trans (denCommit_taken hsubmit), hwait⟩
  case erase =>
    obtain ⟨hempty, hdenied, hcommit⟩ := denErase_general (m := m) hlo hhi h
    rw [denRun_slot (.inr hlo)]
    exact ⟨hempty, hdenied, fun hocc hbit hsubmit => (hcommit hocc hbit).trans (denCommit_taken hsubmit)⟩
  case unopened => rw [denRun_slot hn]; exact denImport_unopened h hpair
  case point => rw [denRun_slot hn]; exact denPublic_answers hocc hgood hcrc hp
  case attest => rw [denRun_slot hn]; exact denAttest_unusable h
  case opens =>
    have hsame : ({ s with den := { s.den with pair := none } } : State) = s := by rw [← hpair]
    rw [denRun_slot hn]
    dsimp only
    rw [hsame]
    exact denImportOpen_unusable h
  case exports => rw [denRun_slot (.inr hn)]; exact denExport_denied (c := ⟨9, m, n⟩) h hexport
  case nonceDrawn =>
    rw [denRun_slot (.inl (by decide))]
    exact denNonce_drawn h

end Sys2Proof.Machine
end

section
/-! PROOFS. The deadlines of the Den, the CH4410 window's key registers and the protection rewrite (R330, R334, R339, R341, R342). -/

namespace Sys2Proof.Machine

section Legacy

variable {m : Master} {i v : Nat} {s t : State}

/-- The key registers are the window's own. -/
theorem regWrite_legacyKey (hi : i < 4) : regWrite m (0x40000070 + 4 * i) v s = legacyWrite m i v s := by
  match i, hi with
  | 0, _ => rfl
  | 1, _ => rfl
  | 2, _ => rfl
  | 3, _ => rfl

theorem exec_legacyKeyWrite (hi : i < 4)
    (h : fabCheck m (0x40000070 + 4 * i) .b32 true s = (.ok, some (.reg (0x40000070 + 4 * i)), t)) :
    exec (.legacyKeyWrite m i v) s = .next (fabAnswer m (legacyWrite m i v t)) := by
  have hexec : exec (.legacyKeyWrite m i v) s = wordWrite m (0x40000070 + 4 * (i % 4)) v s := rfl
  rw [hexec, Nat.mod_eq_of_lt hi, wordWrite, fabWrite_reg h, regWrite_legacyKey hi]

/-- A master and a life-cycle state that the window lets in (R341). -/
theorem legacyWrite_open (hon : s.legacyOn = true) (hm : m = .host ∨ m = .can) (hlc : s.lc = 1 ∨ s.lc = 3) :
    ¬(s.legacyOn = false ∨ (m ≠ .host ∧ m ≠ .can) ∨ (s.lc ≠ 1 ∧ s.lc ≠ 3)) := by
  rw [hon]
  tauto

/-- KEY0 begins; each word in its order within 100 ms of the last; KEY3 commits four words, or ends SEQUENCE. -/
theorem legacyWrite_words (a b c d : Nat) (hon : s.legacyOn = true) (hm : m = .host ∨ m = .can) (hlc : s.lc = 1 ∨ s.lc = 3) :
    legacyWrite m 0 a s = (.ok, { s with den := { s.den with legacy := [a], legacyAt := s.now } }) ∧
    (s.den.legacy = [a] → s.after s.den.legacyAt 100000 = false →
      legacyWrite m 1 b s = (.ok, { s with den := { s.den with legacy := [a, b], legacyAt := s.now } })) ∧
    (s.den.legacy = [a, b, c] → s.after s.den.legacyAt 100000 = false → s.bit Reg.VLT_STAT_BUSY = false →
      legacyWrite m 3 d s = (.ok, denCommit [({ s with den := { s.den with legacy := [] } }).slotWrite 255 (legacySlot [a, b, c, d])] .denLegacy
        ({ s with den := { s.den with legacy := [] } }.setBit Reg.VLT_STAT_BUSY true))) ∧
    (s.den.legacy.length ≠ 3 → s.bit Reg.VLT_STAT_BUSY = false →
      legacyWrite m 3 d s = (.ok, denDone .sequence [] { s with den := { s.den with legacy := [] } })) := by
  have hopen := legacyWrite_open hon hm hlc
  refine ⟨if_neg hopen, fun hwords hsoon => ?_, fun hwords hsoon hidle => ?_, fun hlen hidle => ?_⟩
  · unfold legacyWrite
    rw [if_neg hopen, hwords, hsoon]
    rfl
  · unfold legacyWrite
    rw [if_neg hopen, hwords, hsoon, hidle]
    rfl
  · have hout : (s.den.legacy.length == 3) = false := by simp [hlen]
    unfold legacyWrite
    rw [if_neg hopen, hout, hidle]
    rfl

end Legacy

section Rewrite

variable {n at_ : Nat} {rest : List Nat} {s u : State}

theorem exec_protectionRewrite (hat : s.boot.profileAt = some at_) (hrew : s.den.rewrite = n :: rest) :
    (s.occupied n = false ∨ (s.slot n).mode = s.slotMode →
      exec .protectionRewrite s = .next { s with den := { s.den with rewrite := rest } }) ∧
    (s.occupied n = true → (s.slot n).mode ≠ s.slotMode → s.den.unusable.contains n = false → s.slotPending n = false →
      submitGroup .p3 ⟨[s.slotWrite n (s.slot n)], .denRewrite n⟩ s = (.taken, u) →
      exec .protectionRewrite s = .next { u with den := { u.den with rewrite := rest } }) := by
  have hexec : exec .protectionRewrite s = execProtectionRewrite s := rfl
  rw [hexec, execProtectionRewrite, hrew, if_neg (by simp [hat])]
  dsimp only
  refine ⟨fun h => if_pos (h.imp_right .inl), fun hocc hmode hgood hpend hsubmit => ?_⟩
  rw [if_neg (by rw [hocc, hgood]; simp [hmode]), if_neg (by simp [hpend]), hsubmit]

end Rewrite

/-- Settles O41: each deadline by its own equation, the window by `legacyWrite_words`, the rewrite by `exec_protectionRewrite`. -/
theorem denTimesAndWindow : Obligations.DenTimesAndWindow := by
  unfold Obligations.DenTimesAndWindow
  refine ⟨fun p s hp => ?pair, fun b at_ s hn => ?nonceEnds, fun s hown hidle => ⟨fun h => if_pos ⟨hown, hidle, h⟩, fun h => if_neg (by simp [h])⟩,
    fun m i v s t hi h => exec_legacyKeyWrite hi h, fun m i v s h => if_pos h,
    fun m a b c d s hon hm hlc => legacyWrite_words a b c d hon hm hlc,
    fun s hwords => ⟨fun h => if_pos ⟨hwords, h⟩, fun h => if_neg (by simp [h])⟩, fun s h => ?nothing,
    fun at_ n rest s u hat hrew => exec_protectionRewrite hat hrew⟩
  case pair =>
    have hexec : exec .importPairExpiry s = .next (if s.after p.openedAt 10000000 then { s with den := { s.den with pair := none } } else s) := by
      show execImportPairExpiry s = _
      rw [execImportPairExpiry, hp]
    rw [hexec]
    exact ⟨fun h => congrArg Host.Outcome.next (if_pos h), fun h => congrArg Host.Outcome.next (if_neg (ne_true_of_eq_false h))⟩
  case nonceEnds =>
    have hexec : exec .lcNonceExpiry s = .next (if s.after at_ 60000000 then { s with den := { s.den with nonce := none } } else s) := by
      show execLcNonceExpiry s = _
      rw [execLcNonceExpiry, hn]
    rw [hexec]
    exact ⟨fun h => congrArg Host.Outcome.next (if_pos h), fun h => congrArg Host.Outcome.next (if_neg (ne_true_of_eq_false h))⟩
  case nothing =>
    show execProtectionRewrite s = _
    unfold execProtectionRewrite
    rcases h with h | h
    · rw [if_pos (by simp [h])]
    · rw [h]
      split <;> rfl

end Sys2Proof.Machine
end

section
/-! PROOFS. What an accepted command of the crypto engine computes (R345 to R347). -/

namespace Sys2Proof.Machine

section Crypto

variable {c : CryCmd} {s t u : State}

/-- Each operation of Table 15-2 by its number. -/
theorem cryRun_op {n : Nat} (h : c.op = n) : cryRun c s = match (generalizing := false) n with
    | 1 => cryEncrypt c s
    | 2 => cryDecrypt c s
    | 3 => cryMac c s
    | 4 => cryHash c s
    | 5 => crySign c s
    | 6 => cryVerify c s
    | 7 => cryAgree c s
    | 8 => cryDerive c s
    | 9 => cryRandom c s
    | _ => cryDone .format [] s := by
  subst h
  rfl

/-- A slot outside the reserved ones that fails a check gives the Den's result. -/
theorem cryKey_refused {types : List Nat} {usage : Nat} {r : DenResult} (hslot : 16 ≤ c.slot)
    (h : keyCheck c.slot types (some usage) 0 c.master (s.world c.master) s = (some r, t)) : cryKey c types usage s = (some (denCry r), t) := by
  rw [cryKey, if_neg (by omega), h]

theorem cryEncrypt_refused {r : CryResult} (h : cryKey c [1, 2] 6 s = (some r, t)) : cryEncrypt c s = cryDone r [] t := by
  rw [cryEncrypt, h]

theorem cryDecrypt_refused {r : CryResult} (h : cryKey c [1, 2] 7 s = (some r, t)) : cryDecrypt c s = cryDone r [] t := by
  rw [cryDecrypt, h]

/-! ### Ciphers and codes -/

theorem cryEncrypt_allowed (h : cryKey c [1, 2] 6 s = (none, t)) :
    (t.cipherOk c.mode = false → cryEncrypt c s = cryDone .format [] t) ∧
    (t.cipherOk c.mode = true → c.mode = 0 →
      cryEncrypt c s = cryDone .ok (cbcEnc (t.keyBytes c.slot) (t.cryBuf 0 16) (t.cryBuf 16 t.dlen)) (symTake t.dlen t)) ∧
    (t.cipherOk c.mode = true → c.mode = 1 →
      cryEncrypt c s = cryDone .ok (ctrCrypt (t.keyBytes c.slot) (t.cryBuf 0 16) (t.cryBuf 16 t.dlen)) (symTake t.dlen t)) ∧
    (t.cipherOk c.mode = true → c.mode = 2 →
      let w := ccmEnc (t.keyBytes c.slot) ((t.cryBuf 0 16).take 13) (t.cryBuf 16 t.alen) (t.cryBuf (16 + t.alen) t.dlen) t.tagLen
      cryEncrypt c s = cryDone .ok (w.1 ++ w.2) (symTake t.dlen t)) := by
  unfold cryEncrypt
  rw [h]
  refine ⟨fun hbad => if_pos hbad, fun hok hmode => ?_, fun hok hmode => ?_, fun hok hmode => ?_⟩
  all_goals
    dsimp only
    rw [if_neg (by simp [hok]), hmode]
    simp only [OfNat.ofNat_ne_zero, OfNat.ofNat_ne_one, one_ne_zero, if_true, if_false, Nat.reduceLT, Nat.lt_irrefl]

theorem cryDecrypt_ccm (h : cryKey c [1, 2] 7 s = (none, t)) (hmode : c.mode = 2) (hok : t.cipherOk 2 = true) :
    let r := ccmDec (t.keyBytes c.slot) ((t.cryBuf 0 16).take 13) (t.cryBuf 16 t.alen) (t.cryBuf (16 + t.alen) t.dlen)
      (t.cryBuf (16 + t.alen + t.dlen) t.tagLen)
    (r = none → cryDecrypt c s = cryDone .auth (zeros t.dlen) (symTake t.dlen t)) ∧
    (∀ b, r = some b → cryDecrypt c s = cryDone .ok b (symTake t.dlen t)) := by
  intro r
  unfold cryDecrypt
  rw [h]
  dsimp only
  rw [hmode, if_neg (by simp [hok])]
  simp only [OfNat.ofNat_ne_zero, OfNat.ofNat_ne_one, if_true, if_false, Nat.lt_irrefl]
  exact ⟨fun hr => by rw [show ccmDec _ _ _ _ _ = none from hr], fun b hr => by rw [show ccmDec _ _ _ _ _ = some b from hr]⟩

theorem cryMac_hmac (h : cryKey c [3] 8 s = (none, t)) (hmode : c.mode = 1) (hlen : t.lengthOk = true) (hlo : 4 ≤ t.tagLen)
    (hhi : t.tagLen ≤ 32) :
    cryMac c s = cryDone .ok ((hmac (t.keyBytes c.slot) (t.cryBuf 0 t.dlen)).take t.tagLen) (symTake t.dlen t) := by
  unfold cryMac
  rw [if_pos hmode, h]
  dsimp only
  rw [hmode, if_neg (by simp [hlen, hlo, hhi])]
  simp only [one_ne_zero, if_false]

theorem cryHash_cases (hmode : c.mode = 0) :
    (s.lengthOk = true → cryHash c s = cryDone .ok (sha256 (s.cryBuf 0 s.dlen)) (symTake s.dlen s)) ∧
    (s.lengthOk = false → cryHash c s = cryDone .format [] s) :=
  ⟨fun h => if_neg (by simp [h, hmode]), fun h => if_pos (.inl h)⟩

theorem crySign_cases {sig : Bytes} (hmode : c.mode = 0) (h : cryKey c [4] 10 s = (none, t)) :
    (signWith (beNat (fit 32 (t.slot c.slot).key)) (t.cryBuf 0 32) t = (.bytes sig, u) → crySign c s = cryDone .ok sig u) ∧
    (signWith (beNat (fit 32 (t.slot c.slot).key)) (t.cryBuf 0 32) t = (.fail, u) → crySign c s = cryDone .entropyFail [] u) := by
  unfold crySign
  rw [h]
  dsimp only
  rw [if_neg (by simp [hmode])]
  refine ⟨fun hsig => ?_, fun hsig => ?_⟩
  · rw [hsig]
  · rw [hsig]
    rfl

/-- VERIFY with the point from the buffer. -/
theorem cryVerify_point (hmode : c.mode = 1) :
    (ecdsaVerify (s.cryBuf 96 64) (s.cryBuf 0 32) (s.cryBuf 32 64) = true → cryVerify c s = cryDone .ok [] s) ∧
    (ecdsaVerify (s.cryBuf 96 64) (s.cryBuf 0 32) (s.cryBuf 32 64) = false → cryVerify c s = cryDone .auth [] s) := by
  unfold cryVerify
  dsimp only
  rw [if_pos hmode, Option.any_some]
  exact ⟨fun h => if_pos h, fun h => if_neg (ne_true_of_eq_false h)⟩

/-! ### Derived keys -/

theorem State.dstRefusal_low (h : c.dst < 16) : s.dstRefusal c.dst = some .format := if_pos h

theorem State.dstRefusal_occupied (hlo : 16 ≤ c.dst) (h : s.slotRefusal c.dst = none) (hocc : s.occupied c.dst = true) :
    s.dstRefusal c.dst = some .occupied := by
  rw [State.dstRefusal, if_neg (by omega), if_neg (by simp [h]), if_pos hocc]

theorem cryAgree_cases (hmode : c.mode = 0) (h : cryKey c [4] 11 s = (none, t)) (hfits : t.derivedFits [6] = true) :
    (∀ r, t.dstRefusal c.dst = some r → cryAgree c s = cryDone r [] t) ∧
    (∀ z, t.dstRefusal c.dst = none → ecdh (beNat (fit 32 (t.slot c.slot).key)) (t.cryBuf 20 64) = some z → cryAgree c s = cryCommit c z t) ∧
    (t.dstRefusal c.dst = none → ecdh (beNat (fit 32 (t.slot c.slot).key)) (t.cryBuf 20 64) = none → cryAgree c s = cryDone .auth [] t) := by
  unfold cryAgree
  rw [h]
  dsimp only
  rw [if_neg (by simp [hmode, hfits])]
  refine ⟨fun r hr => ?_, fun z hfree hz => ?_, fun hfree hz => ?_⟩
  · rw [hr]
  · rw [hfree, hz]
  · rw [hfree, hz]

theorem cryDerive_commits (hmode : c.mode = 0) (h : cryKey c [3, 6] 9 s = (none, t)) (hlen : fieldBe (t.cryBuf 20 2) 0 2 = 256)
    (hfits : t.derivedFits [2, 3] = true) (hfree : t.dstRefusal c.dst = none) :
    let n := fieldBe (t.cryBuf 22 1) 0 1
    cryDerive c s = cryCommit c (kdf (t.keyBytes c.slot) (t.cryBuf 24 n) (t.cryBuf (24 + n) (fieldBe (t.cryBuf 23 1) 0 1)) 256) t := by
  unfold cryDerive
  rw [h]
  dsimp only
  rw [hlen, if_neg (by simp [hmode, hfits]), hfree]

theorem cryRandom_cases {b : Bytes} (hmode : c.mode = 0) (hlo : 0 < s.dlen) (hhi : s.dlen ≤ 2048) :
    (randBytes false s.dlen s = (.bytes b, t) → cryRandom c s = cryDone .ok b t) ∧
    (randBytes false s.dlen s = (.fail, t) → cryRandom c s = cryDone .entropyFail [] t) := by
  unfold cryRandom
  rw [if_neg (by omega)]
  refine ⟨fun h => ?_, fun h => ?_⟩
  · rw [h]
  · rw [h]
    rfl

/-- R346: a waiting P0 request takes the core at a step boundary. -/
theorem exec_symmetricStepPreempt {k : Cls} {i : QItem} (hbusy : s.cry.symBusy = some k) (hpop : popQueue .crypto s = some (i, t)) :
    exec .symmetricStepPreempt s = if i.cls = .p0 ∧ k ≠ .p0 then
      .next { t with cry := { t.cry with symBusy := some .p0, symHeld := k :: t.cry.symHeld } } else .next s := by
  show execSymmetricStepPreempt s = _
  rw [execSymmetricStepPreempt, hbusy, hpop]

end Crypto

/-- Settles O42: each operation of `cryRun` by its own lemma. -/
theorem cryptoCommandResults : Obligations.CryptoCommandResults := by
  unfold Obligations.CryptoCommandResults
  refine ⟨fun op c r s t hop hslot hlo hhi h => ?refused, fun c s t hop h => ?encrypt, fun c s t hop hmode h hok => ?decrypt,
    fun c s t hop hmode h hlen hlo hhi => (cryRun_op hop).trans (cryMac_hmac h hmode hlen hlo hhi), fun c s hop hmode => ?hash,
    fun c sig s t u hop hmode h => ?sign, fun c s hop hmode => ?verify, fun c s t hop hmode h hfits => ?agree,
    fun c s t hop hmode h hlen hfits hfree => (cryRun_op hop).trans (cryDerive_commits hmode h hlen hfits hfree),
    fun c b s t hop hmode hlo hhi => ?random, fun s hown hidle => ⟨fun h => if_pos ⟨hown, hidle, h⟩, fun h => if_neg (by simp [h])⟩,
    fun k i s t hbusy hpop => ?preempt⟩
  case refused =>
    rcases (by omega : op = 1 ∨ op = 2) with rfl | rfl
    · exact (cryRun_op hop).trans (cryEncrypt_refused (cryKey_refused hslot h))
    · exact (cryRun_op hop).trans (cryDecrypt_refused (cryKey_refused hslot h))
  case encrypt =>
    rw [cryRun_op hop]
    exact cryEncrypt_allowed h
  case decrypt =>
    rw [cryRun_op hop]
    exact cryDecrypt_ccm h hmode hok
  case hash =>
    rw [cryRun_op hop]
    exact cryHash_cases hmode
  case sign =>
    rw [cryRun_op hop]
    exact crySign_cases hmode h
  case verify =>
    rw [cryRun_op hop]
    exact cryVerify_point hmode
  case agree =>
    obtain ⟨hrefused, hkey, hauth⟩ := cryAgree_cases hmode h hfits
    rw [cryRun_op hop]
    exact ⟨fun hlow => hrefused _ (State.dstRefusal_low hlow), fun hlo hslot hocc => hrefused _ (State.dstRefusal_occupied hlo hslot hocc), hkey, hauth⟩
  case random =>
    rw [cryRun_op hop]
    exact cryRandom_cases hmode hlo hhi
  case preempt =>
    rw [exec_symmetricStepPreempt hbusy hpop]
    exact ⟨fun hp0 hk => if_pos ⟨hp0, hk⟩, fun h => if_neg (by tauto)⟩

end Sys2Proof.Machine
end

section
/-! PROOFS. Raw test mode is entered as R359 says wherever the register map is canonical, and not in every state of the model. -/

namespace Sys2Proof.Machine

/-- RAW_MODE_ENTER after its checks, for any state of the registers: raw test mode begins unless ENT_STAT shows it once RAWSEL is written. -/
theorem exec_rawModeEnter {m : Master} {sel : Nat} {s t : State}
    (h : fabCheck m Reg.ENT_CTL .b32 true s = (.ok, some (.reg Reg.ENT_CTL), t)) (hm : serviceMaster m = true) (hsel : sel < 8)
    (hlc : t.lc = 0 ∨ t.lc = 3) : exec (.rawModeEnter m sel) s = .next (fabAnswer m (.ok,
      if (t.put Reg.ENT_CTL_RAWSEL sel).bit Reg.ENT_STAT_RAW then t.put Reg.ENT_CTL_RAWSEL sel else rawEnter (t.put Reg.ENT_CTL_RAWSEL sel))) := by
  have hexec : exec (.rawModeEnter m sel) s = wordWrite m Reg.ENT_CTL (0x40000000 + sel % 8) s := rfl
  have hreg : regWrite m Reg.ENT_CTL (0x40000000 + sel % 8) t = entCtlWrite m (0x40000000 + sel % 8) t := rfl
  have hraw : (0x40000000 + sel % 8) / 2 ^ 30 % 2 = 1 := by omega
  have hask : ¬(0x40000000 + sel % 8) / 2 ^ 31 % 2 = 1 := by omega
  have hfield : (0x40000000 + sel % 8) % 8 = sel := by omega
  have hpass : ¬(serviceMaster m = false ∨ (0x40000000 + sel % 8) / 2 ^ 30 % 2 = 1 ∧ t.lc ≠ 0 ∧ t.lc ≠ 3) := by
    rw [hm]
    simp only [Bool.true_eq_false, false_or]
    omega
  rw [hexec, wordWrite, fabWrite_reg h, hreg]
  unfold entCtlWrite
  simp only [hraw, decide_true, true_and] at hpass ⊢
  rw [if_neg hpass, if_neg hask, hfield]
  rfl

/-- In a canonical register map a write of RAWSEL leaves ENT_STAT, so raw test mode begins. -/
theorem exec_rawModeEnter_canonical {m : Master} {sel : Nat} {s t : State}
    (h : fabCheck m Reg.ENT_CTL .b32 true s = (.ok, some (.reg Reg.ENT_CTL), t)) (hm : serviceMaster m = true) (hsel : sel < 8)
    (hlc : t.lc = 0 ∨ t.lc = 3) (hraw : t.bit Reg.ENT_STAT_RAW = false) (hw : regsWf t.regs = true) :
    exec (.rawModeEnter m sel) s = .next (fabAnswer m (.ok, rawEnter (t.put Reg.ENT_CTL_RAWSEL sel))) := by
  rw [exec_rawModeEnter h hm hsel hlc, State.bit_put_apart sel hw (by decide) (by decide) (by decide), if_neg (ne_true_of_eq_false hraw)]

/-- A BLANK unit with every domain on whose register map is out of order: ENT_STAT, with RAW set, is listed behind ENT_CTL and reads 0 as long as
ENT_CTL is not 0. -/
def rawHidden : State :=
  { onState with regs := [(Reg.PWR_DOM, 0xFFF), (Reg.ENT_CTL, 1), (Reg.ENT_STAT, 0x40000000)] }

/-- The state in which a host's write of ENT_CTL reaches the block. -/
def rawHiddenTaken : State := (fabCheck .host Reg.ENT_CTL .b32 true rawHidden).2.2

theorem rawHidden_check : fabCheck .host Reg.ENT_CTL .b32 true rawHidden = (.ok, some (.reg Reg.ENT_CTL), rawHiddenTaken) := by
  have hstatus : (fabCheck .host Reg.ENT_CTL .b32 true rawHidden).1 = .ok := by decide +kernel
  have htarget : (fabCheck .host Reg.ENT_CTL .b32 true rawHidden).2.1 = some (.reg Reg.ENT_CTL) := by decide +kernel
  exact Prod.ext hstatus (Prod.ext htarget rfl)

/-- With RAWSEL written 0 the word of ENT_CTL is 0 and no longer listed, and ENT_STAT reads RAW. -/
theorem rawHidden_shown : (rawHiddenTaken.put Reg.ENT_CTL_RAWSEL 0).bit Reg.ENT_STAT_RAW = true ∧
    (rawHiddenTaken.put Reg.ENT_CTL_RAWSEL 0).rd Reg.ENT_CTL = 0 ∧
    (rawEnter (rawHiddenTaken.put Reg.ENT_CTL_RAWSEL 0)).rd Reg.ENT_CTL = 0x40000000 := by decide +kernel

theorem fabAnswer_ok_rd (m : Master) (t : State) (a : Nat) : (fabAnswer m (.ok, t)).rd a = t.rd a := rfl

/-- Refutes O43: the clause on RAW_MODE_ENTER asks nothing of the register map. In `rawHidden`, whose map is not in ascending order, the write of RAWSEL
uncovers ENT_STAT.RAW, and raw test mode is taken to be on already. For canonical maps, the only ones a run reaches, the clause holds
(`exec_rawModeEnter_canonical`). -/
theorem not_entropySource : ¬ Obligations.EntropySource := by
  rintro ⟨-, -, -, -, -, -, -, -, -, -, hraw, -⟩
  have hoff : rawHiddenTaken.bit Reg.ENT_STAT_RAW = false := by decide +kernel
  have hlc : rawHiddenTaken.lc = 0 ∨ rawHiddenTaken.lc = 3 := .inl (by decide +kernel)
  obtain ⟨hon, hctl, hentered⟩ := rawHidden_shown
  have hclaimed := (hraw .host 0 rawHidden rawHiddenTaken rawHidden_check rfl (by decide) hoff).1 hlc
  rw [exec_rawModeEnter rawHidden_check rfl (by decide) hlc, if_pos hon] at hclaimed
  have hsame := congrArg (fun t : State => t.rd Reg.ENT_CTL) (Host.Outcome.next.inj hclaimed)
  rw [fabAnswer_ok_rd, fabAnswer_ok_rd, hctl, hentered] at hsame
  exact absurd hsame (by decide)

end Sys2Proof.Machine
end

section
/-! PROOFS. The tag as a Type A card and its application's commands (R366, R368 to R371, R378). -/

namespace Sys2Proof.Machine

section TagCard

variable {a : Apdu} {ins : Nat} {auth : Bool} {data : Bytes} {ctr : Option Nat} {s t t0 : State}

/-! ### The card (R366) -/

theorem State.setDom_tag (d : Dom) (on : Bool) : (s.setDom d on).tag = s.tag := by cases on <;> rfl

/-- Losing the supply leaves no leaf of the field's and nothing else of the tag's session changed. -/
theorem tagUnpowered_session (s : State) :
    (tagUnpowered s).tag = s.tag ∨ (tagUnpowered s).tag = { s.tag with sram := [], held := [] } := by
  unfold tagUnpowered
  split
  · exact .inl rfl
  · exact .inr (State.setDom_tag _ _)

/-- The tag without its field, before its supply goes. -/
def fieldLost (s : State) : State :=
  let t := authEnd s
  tagMute { t with tag := { t.tag with field := false, st := .idle, star := false, cascade := 1, iso4 := false, app := false, snap := none,
                                       fails := 0 } }

/-- The field's leaves went with its authentication. -/
theorem fieldLost_held (s : State) : (fieldLost s).tag.held.all (fun h => h.by_.isSome) = true :=
  List.all_eq_true.mpr fun h hmem => by
    simpa [fieldLost, tagMute, tagSay, authEnd, leafDrop, Option.isSome_iff_ne_none] using (List.mem_filter.mp hmem).2

theorem exec_fieldLoss (s : State) : ∃ t, exec .fieldLoss s = .next t ∧ t.tag.field = false ∧ t.tag.st = .idle ∧ t.tag.kts = none ∧
    t.tag.snap = none ∧ t.tag.app = false ∧ t.tag.fails = 0 ∧ t.tag.held.all (fun h => h.by_.isSome) = true := by
  refine ⟨tagUnpowered (fieldLost s), rfl, ?_⟩
  obtain hkept | hlost := tagUnpowered_session (fieldLost s)
  · rw [hkept]
    exact ⟨rfl, rfl, rfl, rfl, rfl, rfl, fieldLost_held s⟩
  · rw [hlost]
    exact ⟨rfl, rfl, rfl, rfl, rfl, rfl, rfl⟩

theorem State.tagUid_length (s : State) : s.tagUid.length = 7 := by
  rw [State.tagUid, List.length_cons, be_length]

theorem State.levelBytes_one (s : State) :
    s.levelBytes 1 = 0x88 :: s.tagUid.take 3 ++ [(0x88 :: s.tagUid.take 3).foldl (· ^^^ ·) 0] := rfl

theorem State.levelBytes_two (s : State) : s.levelBytes 2 = s.tagUid.drop 3 ++ [(s.tagUid.drop 3).foldl (· ^^^ ·) 0] := rfl

/-- The two cascade levels carry the UID between them. -/
theorem State.levelBytes_uid (s : State) : (s.levelBytes 1).length = 5 ∧ (s.levelBytes 2).length = 5 ∧
    (s.levelBytes 1).head? = some 0x88 ∧ s.tagUid = (s.levelBytes 1).tail.take 3 ++ (s.levelBytes 2).take 4 := by
  have hthree : (s.tagUid.take 3).length = 3 := by simp [s.tagUid_length]
  have hfour : (s.tagUid.drop 3).length = 4 := by simp [s.tagUid_length]
  rw [s.levelBytes_one, s.levelBytes_two]
  refine ⟨by simp [hthree], by simp [hfour], rfl, ?_⟩
  rw [List.cons_append, List.tail_cons, List.take_left' hthree, List.take_left' hfour, List.take_append_drop]

/-- A frame that reaches a tag outside ISO/IEC 14443-4. -/
theorem State.heard_guard (hhears : s.tagHears = true) (hiso : s.tag.iso4 = false) : ¬(s.tagHears = false ∨ s.tag.iso4 = true) := by
  simp [hhears, hiso]

/-- A block that reaches an activated tag. -/
theorem State.heard_guard_iso4 (hhears : s.tagHears = true) (hiso : s.tag.iso4 = true) : ¬(s.tagHears = false ∨ s.tag.iso4 = false) := by
  simp [hhears, hiso]

theorem exec_reqa_wupa (hhears : s.tagHears = true) (hiso : s.tag.iso4 = false) :
    (s.tag.st = .idle → exec .reqa s = .next (tagReady false s) ∧ exec .wupa s = .next (tagReady false s)) ∧
    (s.tag.st = .halt → exec .reqa s = .next (tagMute s) ∧ exec .wupa s = .next (tagReady true s)) ∧
    (s.tag.st = .ready → exec .reqa s = .next (tagMute (tagFall s)) ∧ exec .wupa s = .next (tagMute (tagFall s))) := by
  have hreqa : exec .reqa s = execReqa s := rfl
  have hwupa : exec .wupa s = execWupa s := rfl
  rw [hreqa, hwupa, execReqa, execWupa, if_neg (s.heard_guard hhears hiso), if_neg (s.heard_guard hhears hiso)]
  refine ⟨fun h => ?_, fun h => ?_, fun h => ?_⟩ <;> rw [h] <;> exact ⟨rfl, rfl⟩

theorem exec_anticollision {level : Nat} {known : List Bool} (hhears : s.tagHears = true) (hiso : s.tag.iso4 = false)
    (hst : s.tag.st = .ready) :
    (level = s.tag.cascade → known.isPrefixOf (airBits (s.levelBytes level)) = true → exec (.anticollision level known) s =
      .next { s with outs := { s.outs with tag := [], tagBits := (airBits (s.levelBytes level)).drop known.length } }) ∧
    (level ≠ s.tag.cascade ∨ known.isPrefixOf (airBits (s.levelBytes level)) = false →
      exec (.anticollision level known) s = .next (tagMute (tagFall s))) := by
  have hexec : exec (.anticollision level known) s = execAnticollision level known s := rfl
  rw [hexec, execAnticollision, if_neg (s.heard_guard hhears hiso), hst]
  refine ⟨fun hlevel hknown => if_pos ⟨hlevel, hknown⟩, fun hother => if_neg fun hboth => ?_⟩
  exact hother.elim (· hboth.1) (Bool.false_ne_true <| ·.symm.trans hboth.2)

theorem exec_isoSelect (hhears : s.tagHears = true) (hiso : s.tag.iso4 = false) (hst : s.tag.st = .ready) :
    (s.tag.cascade = 1 → exec (.isoSelect 1 (s.levelBytes 1)) s = .next (tagSay [0x04] { s with tag := { s.tag with cascade := 2 } })) ∧
    (s.tag.cascade = 2 → exec (.isoSelect 2 (s.levelBytes 2)) s = .next (tagSay [0x20] { s with tag := { s.tag with st := .active } })) ∧
    (∀ level uid, uid ≠ s.levelBytes level → exec (.isoSelect level uid) s = .next (tagMute (tagFall s))) := by
  have hexec : ∀ level uid, exec (.isoSelect level uid) s =
      if level = s.tag.cascade ∧ uid = s.levelBytes level then
        (if level = 1 then .next (tagSay [0x04] { s with tag := { s.tag with cascade := 2 } })
         else .next (tagSay [0x20] { s with tag := { s.tag with st := .active } }))
      else .next (tagMute (tagFall s)) := fun level uid => by
    have hrun : exec (.isoSelect level uid) s = execIsoSelect level uid s := rfl
    rw [hrun, execIsoSelect, if_neg (s.heard_guard hhears hiso), hst]
  refine ⟨fun hone => ?_, fun htwo => ?_, fun level uid huid => ?_⟩
  · rw [hexec, if_pos ⟨hone.symm, rfl⟩, if_pos rfl]
  · rw [hexec, if_pos ⟨htwo.symm, rfl⟩, if_neg (by decide)]
  · rw [hexec, if_neg fun hboth => huid hboth.2]

theorem exec_rats (hhears : s.tagHears = true) (hiso : s.tag.iso4 = false) (hst : s.tag.st = .active) : exec .rats s =
    .next (tagSay [0x05, 0x78, 0x00, BitVec.ofNat 8 (s.tagAon.fwi * 16), 0x00] { s with tag := { s.tag with iso4 := true } }) := by
  have hexec : exec .rats s = execRats s := rfl
  rw [hexec, execRats, if_neg (s.heard_guard hhears hiso), hst]

theorem exec_ppsRequest_deselect {dri dsi : Nat} (hhears : s.tagHears = true) (hiso : s.tag.iso4 = true) :
    exec (.ppsRequest 0 0) s = .next (tagSay [0xD0] s) ∧ (dri ≠ 0 ∨ dsi ≠ 0 → exec (.ppsRequest dri dsi) s = .next (tagMute s)) ∧
    exec .deselect s = .next (tagSay [0xC2] (tagHalt s)) := by
  have hpps : ∀ x y, exec (.ppsRequest x y) s = if x = 0 ∧ y = 0 then .next (tagSay [0xD0] s) else .next (tagMute s) :=
    fun x y => if_neg (s.heard_guard_iso4 hhears hiso)
  refine ⟨(hpps 0 0).trans (if_pos ⟨rfl, rfl⟩), fun hother => (hpps dri dsi).trans (if_neg fun hboth => ?_), ?_⟩
  · exact hother.elim (· hboth.1) (· hboth.2)
  · exact if_neg (s.heard_guard_iso4 hhears hiso)

theorem exec_hlta (hhears : s.tagHears = true) (hst : s.tag.st = .active) : exec .hlta s = .next (tagMute (tagHalt s)) := by
  have hexec : exec .hlta s = execHlta s := rfl
  rw [hexec, execHlta, if_neg (by simp [hhears]), hst]

/-! ### SELECT of the application (R368) -/

/-- The answer to a SELECT by name, whatever the AID. -/
def aidAnswer (a : Apdu) (s : State) : Host.Outcome State Fault Refusal :=
  let t := authEnd { s with tag := { s.tag with snap := none } }
  if a.data.length ≠ 8 ∨ a.le ≠ some 256 then .next (tagReply none [] 0x6700 t)
  else if a.data ≠ tagAid then .next (tagReply none [] 0x6985 t)
  else .next (tagReply none (be 8 s.tagAon.serial ++ be 4 s.tagAon.vehicle ++ be 2 0x0100 ++
    be 1 ((if s.tagAon.key.isSome then 1 else 0) + (if s.wired then 2 else 0)) ++ [0]) 0x9000
    ({ t with tag := { t.tag with app := true } }.setBit Reg.TAG_EVT_FSEL true))

/-- What APDU_SELECT does once heard, check after check. -/
theorem exec_apduSelect (hheard : s.apduHeard = true) (hcrc : a.crc = true) : exec (.apduSelect a ins) s =
    if a.cla = 0x80 ∨ a.cla = 0x84 then .next (tagReply none [] (if s.tag.app then 0x6D00 else 0x6985) s)
    else if a.cla ≠ 0 then .next (tagReply none [] 0x6E00 s)
    else if ins ≠ 0xA4 then .next (tagReply none [] 0x6D00 s)
    else if a.p1 ≠ 4 ∨ a.p2 ≠ 0 then .next (tagReply none [] 0x6A86 s)
    else aidAnswer a s :=
  if_neg (by simp [hheard, hcrc])

/-- The checks before the data of a SELECT all pass. -/
theorem exec_apduSelect_aid (hheard : s.apduHeard = true) (hcrc : a.crc = true) (hcla : a.cla = 0) (hp1 : a.p1 = 4) (hp2 : a.p2 = 0) :
    exec (.apduSelect a 0xA4) s = aidAnswer a s := by
  rw [exec_apduSelect hheard hcrc, if_neg (by simp [hcla]), if_neg (by simp [hcla]), if_neg (by simp), if_neg (by simp [hp1, hp2])]

/-! ### The checks before a command (R368, R370) -/

theorem apduOpen_otherClass (h0 : a.cla ≠ 0x80) (h4 : a.cla ≠ 0x84) : apduOpen a ins auth s = .refused (tagReply none [] 0x6E00 s) :=
  if_pos ⟨h0, h4⟩

theorem apduOpen_unselected (hcla : a.cla = 0x80 ∨ a.cla = 0x84) (happ : s.tag.app = false) :
    apduOpen a ins auth s = .refused (tagReply none [] 0x6985 s) := by
  rw [apduOpen, if_neg (fun h => hcla.elim h.1 h.2), if_pos happ]

theorem apduOpen_plain (hcla : a.cla = 0x80) (happ : s.tag.app = true) :
    apduOpen a ins auth s = if auth then .refused (tagReply none [] 0x6982 s) else .go a.data none s := by
  rw [apduOpen, if_neg (fun h => h.1 hcla), if_neg (by simp [happ]), if_pos hcla]

theorem apduOpen_secured {k : Bytes} (hcla : a.cla = 0x84) (happ : s.tag.app = true) (hk : s.tag.kts = some k) :
    let body := a.data.take (a.data.length - 8)
    let mac := (cmac k (be 2 s.tag.ctr ++ be 1 a.cla ++ be 1 ins ++ be 1 a.p1 ++ be 1 a.p2 ++ body)).take 8
    (8 ≤ a.data.length → a.data.drop (a.data.length - 8) = mac →
      apduOpen a ins auth s = .go body (some s.tag.ctr) { s with tag := { s.tag with ctr := (s.tag.ctr + 1) % 65536 } }) ∧
    (a.data.drop (a.data.length - 8) ≠ mac → apduOpen a ins auth s = .refused (tagReply none [] 0x6988 (authFailed (authEnd s)))) := by
  intro body mac
  have hopen : apduOpen a ins auth s = if a.data.length < 8 ∨ a.data.drop (a.data.length - 8) ≠ mac then
        .refused (tagReply none [] 0x6988 (authFailed (authEnd s)))
      else .go body (some s.tag.ctr) { s with tag := { s.tag with ctr := (s.tag.ctr + 1) % 65536 } } := by
    rw [apduOpen, if_neg (fun h => h.2 hcla), if_neg (by simp [happ]), if_neg (by simp [hcla]), hk]
  rw [hopen]
  exact ⟨fun hlen hmac => if_neg (not_or.mpr ⟨Nat.not_lt.mpr hlen, not_not.mpr hmac⟩), fun hmac => if_pos (.inr hmac)⟩

/-- A command that is not heard, or whose frame fails its CRC_A, does nothing. -/
theorem apduRun_unheard {f : Bytes → Option Nat → State → State} (h : s.apduHeard = false ∨ a.crc = false) : apduRun a ins auth f s = s :=
  if_pos h

/-- A command that passes the checks runs on its data. -/
theorem apduRun_go {f : Bytes → Option Nat → State → State} (hheard : s.apduHeard = true) (hcrc : a.crc = true)
    (hopen : apduOpen a ins auth s = .go data ctr t0) (ht : t = enter .tag data t0) : apduRun a ins auth f s = f data ctr t := by
  rw [apduRun, if_neg (by simp [hheard, hcrc]), hopen, ht]

/-! ### AUTH (R369) -/

section Auth

variable {k6 nr nt pr : Bytes} (hheard : s.apduHeard = true) (hcrc : a.crc = true)
  (hopen : apduOpen a 0x82 false s = .go data ctr t0) (ht : t = enter .tag data t0) (hkey : t.tagAon.key = some k6)

include hheard hcrc hopen ht hkey

theorem exec_authStep1 :
    (t.tag.fails < 3 → data.length = 16 →
      let nt := cmac k6 (ascii "TNC" ++ t.tagAon.salt ++ be 8 t.chron.count.toNat ++ data)
      exec (.authStep1 a) s = .next (tagReply ctr nt 0x9000 { t with tag := { t.tag with step1 := some (data, nt) } })) ∧
    (3 ≤ t.tag.fails → exec (.authStep1 a) s = .next (tagReply ctr [] 0x6983 t)) := by
  have hexec : exec (.authStep1 a) s = execAuthStep1 a s := rfl
  rw [hexec, execAuthStep1, apduRun_go hheard hcrc hopen ht, hkey]
  refine ⟨fun hfew hlen => ?_, fun hlocked => congrArg Host.Outcome.next (if_pos hlocked)⟩
  intro nt
  exact congrArg Host.Outcome.next ((if_neg (Nat.not_le.mpr hfew)).trans (if_neg (not_not.mpr hlen)))

theorem exec_authStep2_locked (hlocked : 3 ≤ t.tag.fails) : exec (.authStep2 a) s = .next (tagReply ctr [] 0x6983 t) := by
  have hexec : exec (.authStep2 a) s = execAuthStep2 a s := rfl
  rw [hexec, execAuthStep2, apduRun_go hheard hcrc hopen ht, hkey]
  exact congrArg Host.Outcome.next (if_pos hlocked)

theorem exec_authStep2 (hfew : t.tag.fails < 3) (hstep : t.tag.step1 = some (nr, nt)) (hlen : data.length = 16) :
    exec (.authStep2 a) s = .next (
      if data = cmac k6 (ascii "TAGR" ++ t.tagUid ++ nr ++ nt) then
        let u := tagReply ctr (cmac k6 (ascii "TAGT" ++ t.tagUid ++ nt ++ nr)) 0x9000 t
        { u with tag := { u.tag with kts := some (cmac k6 (ascii "TSK" ++ t.tagUid ++ nr ++ nt)), ctr := 0, step1 := none } }
      else tagReply ctr [] 0x6300 (authFailed { t with tag := { t.tag with step1 := none, fails := t.tag.fails + 1 } })) := by
  have hexec : exec (.authStep2 a) s = execAuthStep2 a s := rfl
  rw [hexec, execAuthStep2, apduRun_go hheard hcrc hopen ht, hkey, hstep]
  exact congrArg Host.Outcome.next ((if_neg (Nat.not_le.mpr hfew)).trans (if_neg (not_not.mpr hlen)))

end Auth

/-! ### Reading (R371, R378) -/

section Reading

variable (hheard : s.apduHeard = true) (hcrc : a.crc = true)

include hheard hcrc

theorem exec_readLeaf {n : Nat} (hopen : apduOpen a 0xB0 false s = .go [] ctr t0) (ht : t = enter .tag [] t0) (hoff : a.p2 < 64) :
    (0x9F < a.p1 → exec (.readLeaf a) s = .next (tagReply ctr [] 0x6A86 t)) ∧
    (a.p1 ≤ 0x9F → leafAuth a.p1 = true → ctr = none → exec (.readLeaf a) s = .next (tagReply ctr [] 0x6982 t)) ∧
    (a.p1 ≤ 0x9F → leafAuth a.p1 = false ∨ ctr.isSome = true → a.le = some n → 0 < n → n ≤ 64 - a.p2 →
      exec (.readLeaf a) s = .next (tagReply ctr (sub (t.leafBytes a.p1) a.p2 n) 0x9000 t)) := by
  have hexec : exec (.readLeaf a) s = execReadLeaf a s := rfl
  rw [hexec, execReadLeaf, apduRun_go hheard hcrc hopen ht]
  refine ⟨fun hleaf => congrArg Host.Outcome.next (if_pos (.inl hleaf)), fun hleaf hauth hplain => ?_, fun hleaf hopen hle hpos hlen => ?_⟩
  all_goals rw [if_neg (by omega)]
  · exact congrArg Host.Outcome.next (if_pos ⟨hauth, by simp [hplain]⟩)
  · have hmay : ¬(leafAuth a.p1 = true ∧ ctr.isNone = true) := by
      rintro ⟨hauth, hplain⟩
      simp [hauth, Option.isNone_iff_eq_none.mp hplain] at hopen
    rw [if_neg hmay, hle]
    exact congrArg Host.Outcome.next (if_neg (by simp; omega))

theorem exec_getSummary (hopen : apduOpen a 0xCA false s = .go [] ctr t0) (ht : t = enter .tag [] t0) (hp1 : a.p1 = 0) (hle : a.le = some 256) :
    let leaves := (List.range 16).flatMap (fun n => t.leafBytes (0x80 + n))
    (a.p2 = 0 → exec (.getSummary a) s = .next (tagReply ctr (sub leaves 0 256) 0x9000 { t with tag := { t.tag with snap := some leaves } })) ∧
    (∀ b, 0 < a.p2 → a.p2 ≤ 3 → t.tag.snap = some b → exec (.getSummary a) s = .next (tagReply ctr (sub b (a.p2 * 256) 256) 0x9000 t)) ∧
    (0 < a.p2 → a.p2 ≤ 3 → t.tag.snap = none → exec (.getSummary a) s = .next (tagReply ctr [] 0x6985 t)) := by
  intro leaves
  have hexec : exec (.getSummary a) s = execGetSummary a s := rfl
  rw [hexec, execGetSummary, apduRun_go hheard hcrc hopen ht]
  refine ⟨fun hfirst => ?_, fun b hlater hpart hsnap => ?_, fun hlater hpart hsnap => ?_⟩
  all_goals rw [if_neg (by omega), if_neg (by simp [hle])]
  · rw [if_pos hfirst, hfirst]
  all_goals
    rw [if_neg (by omega)]
    dsimp only
    rw [hsnap]

end Reading

end TagCard

/-- Settles O44: the card's state by its frames, then the application's checks and commands, each by the order of its refusals. -/
theorem tagActivationAndApplication : Obligations.TagActivationAndApplication := by
  unfold Obligations.TagActivationAndApplication
  refine ⟨⟨fun s => ?fieldOn, exec_fieldLoss, fun s => exec_reqa_wupa, fun s hdeaf => ?unheard, State.levelBytes_uid,
      fun level known s => exec_anticollision, fun s => exec_isoSelect, fun s => exec_rats, fun dri dsi s => exec_ppsRequest_deselect,
      fun s => exec_hlta, fun s => ⟨rfl, rfl, rfl, rfl⟩, fun a ins s hheard hcrc => ?select, fun a ins s hbad => ?dropped⟩,
    fun a ins auth s => ?checks, fun a nr k6 ctr s t0 t hheard hcrc hopen ht hkey => ?first,
    fun a pr k6 nr nt ctr s t0 t hheard hcrc hopen ht hkey hfew hstep hlen => ?second,
    fun a n ctr s t0 t hheard hcrc => exec_readLeaf hheard hcrc, fun a ctr s t0 t hheard hcrc => exec_getSummary hheard hcrc⟩
  case fieldOn =>
    have hexec : exec .fieldOn s = execFieldOn s := rfl
    rw [hexec, execFieldOn]
    exact ⟨fun hon => if_pos hon, fun hoff => if_neg (by simp [hoff])⟩
  case unheard =>
    exact ⟨if_pos (.inl hdeaf), if_pos (.inl hdeaf), if_pos (.inl hdeaf), if_pos hdeaf⟩
  case select =>
    intro t
    refine ⟨fun hcla => ?_, fun h0 h80 h84 => ?_, fun hcla hins => ?_, fun hcla hp => ?_, fun hcla hp1 hp2 hlen => ?_,
      fun hcla hp1 hp2 hle hlen haid => ?_, fun hcla hp1 hp2 hle haid => ?_⟩
    · rw [exec_apduSelect hheard hcrc, if_pos hcla]
    · rw [exec_apduSelect hheard hcrc, if_neg (not_or.mpr ⟨h80, h84⟩), if_pos h0]
    · rw [exec_apduSelect hheard hcrc, if_neg (by simp [hcla]), if_neg (not_not.mpr hcla), if_pos hins]
    · rw [exec_apduSelect hheard hcrc, if_neg (by simp [hcla]), if_neg (not_not.mpr hcla), if_neg (by simp), if_pos hp]
    · rw [exec_apduSelect_aid hheard hcrc hcla hp1 hp2]
      exact if_pos (.inl hlen)
    · rw [exec_apduSelect_aid hheard hcrc hcla hp1 hp2]
      exact (if_neg (by simp [hlen, hle])).trans (if_pos haid)
    · rw [exec_apduSelect_aid hheard hcrc hcla hp1 hp2]
      exact (if_neg (by simp [haid, hle, tagAid])).trans (if_neg (not_not.mpr haid))
  case dropped =>
    exact ⟨if_pos hbad, congrArg Host.Outcome.next (apduRun_unheard hbad), congrArg Host.Outcome.next (apduRun_unheard hbad)⟩
  case checks =>
    refine ⟨apduOpen_otherClass, apduOpen_unselected, fun hcla happ hauth => ?_, fun hcla happ hauth => ?_, fun k => apduOpen_secured⟩
    · rw [apduOpen_plain hcla happ, if_pos hauth]
    · rw [apduOpen_plain hcla happ, if_neg (ne_true_of_eq_false hauth)]
  case first =>
    obtain ⟨hnonce, hlocked⟩ := exec_authStep1 hheard hcrc hopen ht hkey
    exact ⟨hnonce, fun h => ⟨hlocked h, exec_authStep2_locked hheard hcrc hopen ht hkey h⟩⟩
  case second =>
    rw [exec_authStep2 hheard hcrc hopen ht hkey hfew hstep hlen]
    refine ⟨fun hproof => ?_, fun hproof => by rw [if_neg hproof]⟩
    rw [if_pos hproof]
    exact ⟨_, rfl, rfl, rfl, rfl, rfl⟩

end Sys2Proof.Machine
end

section
/-! PROOFS. Who writes and commits the leaves of the tag (R367, R371 to R377). -/

namespace Sys2Proof.Machine

section TagLeaves

variable {a : Apdu} {data : Bytes} {ctr : Option Nat} {h : TagLeaf} {m : Master} {s t t0 : State}

/-! ### WRITE_LEAF (R371, R372, Table 16-6) -/

/-- What a WRITE_LEAF inside a leaf's bytes does, by the leaf's holder. -/
theorem exec_writeLeaf (hheard : s.apduHeard = true) (hcrc : a.crc = true) (hopen : apduOpen a 0xD6 true s = .go data ctr t0)
    (ht : t = enter .tag data t0) (hleaf : a.p1 ≤ 0x9F) (hoff : a.p2 < 64) (hdata : data ≠ []) (hlen : data.length ≤ 64 - a.p2) :
    exec (.writeLeaf a) s = .next (
      if leafAuth a.p1 = false then tagReply ctr [] 0x6986 t
      else
        match t.leafHold a.p1 with
        | some h =>
          if h.by_.isNone then tagReply ctr [] 0x9000 (leafWrite a.p1 none a.p2 data t)
          else if 4 ≤ t.fieldLeaves.length then tagReply ctr [] 0x6A84 t
          else if t.thisTagClock h.since then tagReply ctr [] 0x9000 (leafWrite a.p1 none a.p2 data (wiredUndone h t))
          else sendWtx t.lockWtxm { t with tag := { t.tag with lock := some ⟨a.p1, a.p2, data, ctr.getD 0, 1, t.now⟩ } }
        | none =>
          if 4 ≤ t.fieldLeaves.length then tagReply ctr [] 0x6A84 t
          else tagReply ctr [] 0x9000 (leafWrite a.p1 none a.p2 data t)) := by
  have hexec : exec (.writeLeaf a) s = execWriteLeaf a s := rfl
  have hfits : ¬(data = [] ∨ 64 - a.p2 < data.length) := not_or.mpr ⟨hdata, Nat.not_lt.mpr hlen⟩
  rw [hexec, execWriteLeaf, apduRun_go hheard hcrc hopen ht, if_neg (by omega), if_neg hfits] <;> rfl

theorem exec_lockWtxExpiry {l : TagLock} (hlock : s.tag.lock = some l) (hdue : s.after l.at_ (s.lockWtxm * s.fwt / 100) = true) :
    (l.wtx < 3 → exec .lockWtxExpiry s = .next (sendWtx s.lockWtxm { s with tag := { s.tag with lock := some { l with wtx := l.wtx + 1, at_ := s.now } } })) ∧
    (3 ≤ l.wtx → exec .lockWtxExpiry s = .next (tagBusy (some l.ctr) { s with tag := { s.tag with lock := none } })) := by
  have hexec : exec .lockWtxExpiry s = execLockWtxExpiry s := rfl
  rw [hexec, execLockWtxExpiry, hlock]
  dsimp only
  rw [if_neg (by simp [hdue])]
  exact ⟨fun hmore => if_pos hmore, fun hlast => if_neg (Nat.not_lt.mpr hlast)⟩

/-! ### COMMIT (R373 to R376) -/

theorem exec_tagCommit {vres : Nat} (hheard : s.apduHeard = true) (hcrc : a.crc = true) (hopen : apduOpen a 0xC2 true s = .go [] ctr t0)
    (ht : t = enter .tag [] t0) (hp1 : a.p1 = 0) (hp2 : a.p2 = 0) :
    let pages := leafPages t.fieldLeaves
    let u := { t with tag := { t.tag with vres := min 3300 vres } }
    (pages = [] → exec (.tagCommit a vres) s = .next (commitOk ctr t)) ∧
    (∀ v, pages ≠ [] → t.wired = true → submitGroup .p3 ⟨pages.map (fun p => (p.1 * 32, p.2)), .tagCommit⟩ u = (.taken, v) →
      exec (.tagCommit a vres) s = .next (tagMute { v with tag := { v.tag with commit := ctr } })) ∧
    (pages ≠ [] → t.wired = false → 2700 ≤ vres →
      exec (.tagCommit a vres) s = .next (tagMute { u with tag := { u.tag with commit := ctr, path := some ⟨pages, [], 0⟩ } })) ∧
    (pages ≠ [] → t.wired = false → vres < 2700 → exec (.tagCommit a vres) s = .next (tagNotNow ctr u)) := by
  intro pages u
  have hexec : exec (.tagCommit a vres) s = .next (
      if pages = [] then commitOk ctr t
      else if u.wired then
        match submitGroup .p3 ⟨pages.map (fun p => (p.1 * 32, p.2)), .tagCommit⟩ u with
        | (.taken, v) => tagMute { v with tag := { v.tag with commit := ctr } }
        | (_, v) => tagBusy ctr v
      else if vresOk vres then tagMute { u with tag := { u.tag with commit := ctr, path := some ⟨pages, [], 0⟩ } }
      else tagNotNow ctr u) := by
    have hrun : exec (.tagCommit a vres) s = execTagCommit a vres s := rfl
    rw [hrun, execTagCommit, apduRun_go hheard hcrc hopen ht]
    dsimp only
    rw [if_neg (by simp [hp1, hp2]), if_neg (not_not.mpr rfl)]
    rfl
  have hwired : u.wired = t.wired := rfl
  rw [hexec, hwired]
  refine ⟨fun hnone => ?_, fun v hsome hon htaken => ?_, fun hsome hoff hcharged => ?_, fun hsome hoff hlow => ?_⟩
  · rw [if_pos hnone]
  · rw [if_neg hsome, if_pos hon, htaken]
  · rw [if_neg hsome, if_neg (by simp [hoff]), if_pos (by simpa [vresOk] using hcharged)]
  · rw [if_neg hsome, if_neg (by simp [hoff]), if_neg (by simpa [vresOk] using hlow)]

/-- A page programmed on the reservoir. -/
theorem exec_fieldPageProgramDone_page {p : TagPath} {x : Nat × Bytes} {rest : List (Nat × Bytes)} {vres : Nat}
    (hpath : s.tag.path = some p) (htodo : p.todo = x :: rest) :
    let t := { s with tag := { s.tag with vres := min 3300 vres } }
    (2700 ≤ vres → exec (.fieldPageProgramDone true vres) s =
      .next { t with tag := { t.tag with path := some ⟨rest, p.shadow ++ [x], 0⟩ } }) ∧
    (vres < 2700 → exec (.fieldPageProgramDone true vres) s = .next (pathOver .notNow t)) ∧
    (2 ≤ p.tries → exec (.fieldPageProgramDone false vres) s = .next (pathOver .fail (raise 0x6301 x.1 t))) := by
  intro t
  have hexec : ∀ ok, exec (.fieldPageProgramDone ok vres) s =
      if ok = false ∧ decide (2 ≤ p.tries) = true then .next (pathOver .fail (raise 0x6301 x.1 t))
      else if vresOk vres = false then .next (pathOver .notNow t)
      else if ok then .next { t with tag := { t.tag with path := some ⟨rest, p.shadow ++ [x], 0⟩ } }
      else .next { t with tag := { t.tag with path := some { p with tries := p.tries + 1 } } } := fun ok => by
    have hrun : exec (.fieldPageProgramDone ok vres) s = execFieldPageProgramDone ok vres s := rfl
    rw [hrun, execFieldPageProgramDone, hpath]
    dsimp only
    rw [htodo]
    rfl
  refine ⟨fun hcharged => ?_, fun hlow => ?_, fun htries => ?_⟩ <;> rw [hexec]
  · rw [if_neg (by simp), if_neg (by simpa [vresOk] using hcharged), if_pos rfl]
  · rw [if_neg (by simp), if_pos (by simpa [vresOk] using hlow)]
  · rw [if_pos ⟨rfl, decide_eq_true htries⟩]

/-- The marker programmed on the reservoir. -/
theorem exec_fieldPageProgramDone_marker {p : TagPath} {vres : Nat} (hpath : s.tag.path = some p) (htodo : p.todo = []) :
    let t := { s with tag := { s.tag with vres := min 3300 vres } }
    exec (.fieldPageProgramDone true vres) s = .next (pathOver .ok (applyShadow p.shadow t)) := by
  intro t
  have hrun : exec (.fieldPageProgramDone true vres) s = execFieldPageProgramDone true vres s := rfl
  rw [hrun, execFieldPageProgramDone, hpath]
  dsimp only
  rw [htodo]
  exact if_pos rfl

theorem exec_fieldPageProgramDone_idle {ok : Bool} {vres : Nat} (hpath : s.tag.path = none) :
    exec (.fieldPageProgramDone ok vres) s = .next s := by
  have hrun : exec (.fieldPageProgramDone ok vres) s = execFieldPageProgramDone ok vres s := rfl
  rw [hrun, execFieldPageProgramDone, hpath]

/-! ### The wired side (R372, R380) -/

theorem exec_tagMemWrite {off v : Nat} {w : Width}
    (hcheck : fabCheck m (0x60040000 + off % 8192) w true s = (.ok, some (.tagMem (off % 8192)), t)) :
    exec (.tagMemWrite m off w v) s = .next (fabAnswer m (tagMemPut m (off % 8192) (leBytes w.bytes v) t)) := by
  have hexec : exec (.tagMemWrite m off w v) s = .next (fabAnswer m (fabWrite m (0x60040000 + off % 8192) w v s)) := rfl
  rw [hexec, fabWrite_window hcheck (by simp)]
  rfl

theorem tagMemPut_held {off : Nat} {b : Bytes} (hm : windowMaster m = true) :
    (s.leafHold (off / 64) = none → tagMemPut m off b s = (.ok, tagAccess m (leafWrite (off / 64) (some m) (off % 64) b s))) ∧
    (∀ h, s.leafHold (off / 64) = some h → h.by_ = some m → tagMemPut m off b s = (.ok, tagAccess m (leafWrite (off / 64) (some m) (off % 64) b s))) ∧
    (∀ h, s.leafHold (off / 64) = some h → h.by_ ≠ some m → tagMemPut m off b s = (.busy, s)) := by
  rw [tagMemPut, if_neg (by simp [hm])]
  refine ⟨fun hfree => by rw [hfree], fun h hheld hmine => ?_, fun h hheld hother => ?_⟩ <;> rw [hheld]
  · exact if_pos hmine
  · exact if_neg hother

/-- A write of TAG_WCMT that starts operation 1 or 2. -/
theorem regWrite_tagWcmt {op leaf : Nat} (hm : windowMaster m = true) (hop : op = 1 ∨ op = 2) (hleaf : leaf < 128) :
    regWrite m Reg.TAG_WCMT (0x80000000 + op * 128 + leaf % 128) t =
      (.ok, wiredOp m op leaf ((t.put Reg.TAG_WCMT_OP op).put Reg.TAG_WCMT_LEAF leaf)) := by
  have hreg : ∀ v, regWrite m Reg.TAG_WCMT v t = tagWrite m Reg.TAG_WCMT v t := fun v => rfl
  have hwrite : ∀ v, tagWrite m Reg.TAG_WCMT v t = (.ok,
      if v / 2 ^ 31 % 2 = 1 ∧ (v / 128 % 4 = 1 ∨ v / 128 % 4 = 2) then
        wiredOp m (v / 128 % 4) (v % 128) ((t.put Reg.TAG_WCMT_OP (v / 128 % 4)).put Reg.TAG_WCMT_LEAF (v % 128))
      else (t.put Reg.TAG_WCMT_OP (v / 128 % 4)).put Reg.TAG_WCMT_LEAF (v % 128)) := fun v => by
    rw [tagWrite, if_pos rfl, if_neg (by simp [hm])]
  have hopOf : (0x80000000 + op * 128 + leaf % 128) / 128 % 4 = op := by omega
  have hleafOf : (0x80000000 + op * 128 + leaf % 128) % 128 = leaf := by omega
  rw [hreg, hwrite, hopOf, hleafOf, if_pos ⟨by omega, hop⟩]

theorem exec_tagWiredCommit_discard {leaf : Nat} (hcheck : fabCheck m Reg.TAG_WCMT .b32 true s = (.ok, some (.reg Reg.TAG_WCMT), t))
    (hm : windowMaster m = true) (hleaf : leaf < 128) :
    exec (.tagWiredCommit m leaf) s = .next (fabAnswer m (.ok, wiredOp m 1 leaf ((t.put Reg.TAG_WCMT_OP 1).put Reg.TAG_WCMT_LEAF leaf))) ∧
    exec (.tagWiredDiscard m leaf) s = .next (fabAnswer m (.ok, wiredOp m 2 leaf ((t.put Reg.TAG_WCMT_OP 2).put Reg.TAG_WCMT_LEAF leaf))) := by
  have hcommit : exec (.tagWiredCommit m leaf) s = wordWrite m Reg.TAG_WCMT (0x80000000 + 1 * 128 + leaf % 128) s := rfl
  have hdiscard : exec (.tagWiredDiscard m leaf) s = wordWrite m Reg.TAG_WCMT (0x80000000 + 2 * 128 + leaf % 128) s := rfl
  rw [hcommit, hdiscard, wordWrite, wordWrite, fabWrite_reg hcheck, fabWrite_reg hcheck,
    regWrite_tagWcmt hm (.inl rfl) hleaf, regWrite_tagWcmt hm (.inr rfl) hleaf]
  exact ⟨rfl, rfl⟩

theorem lockKick_idle (hlock : s.tag.lock = none) : lockKick s = s := by rw [lockKick, hlock]

/-- A leaf let go is held by no one. -/
theorem leafHold_leafDrop {leaf : Nat} : (leafDrop (fun x => x.leaf == leaf) s).leafHold leaf = none :=
  List.find?_eq_none.mpr fun x hmem => by simpa [leafDrop] using (List.mem_filter.mp hmem).2

theorem State.leafHold_leaf {leaf : Nat} (hheld : s.leafHold leaf = some h) : h.leaf = leaf :=
  eq_of_beq (List.find?_some (p := fun x : TagLeaf => x.leaf == leaf) hheld)

theorem State.leafHold_put {leaf v : Nat} {f : Fld} : (s.put f v).leafHold leaf = s.leafHold leaf := rfl

theorem leafDrop_nv (p : TagLeaf → Bool) (s : State) : (leafDrop p s).nv = s.nv := rfl

theorem leafDrop_sram (p : TagLeaf → Bool) (s : State) : (leafDrop p s).tag.sram = s.tag.sram := rfl

theorem leafDrop_lock (p : TagLeaf → Bool) (s : State) : (leafDrop p s).tag.lock = s.tag.lock := rfl

theorem leafSwap_nv (l : List TagLeaf) (s : State) : (leafSwap l s).nv = s.nv := rfl

theorem leafSwap_lock (l : List TagLeaf) (s : State) : (leafSwap l s).tag.lock = s.tag.lock := rfl

/-- The operation of TAG_WCMT by the leaf's holder, with no WRITE_LEAF waiting. -/
theorem wiredOp_mine {op leaf : Nat} (hheld : s.leafHold leaf = some h) (hmine : h.by_ = some m) (hlock : s.tag.lock = none) :
    wiredOp m op leaf s =
      (leafDrop (fun x => x.leaf == leaf) (if op = 1 then leafSwap [h] s else s)).put Reg.TAG_WCMT_RESULT 0 := by
  have hkept : ((leafDrop (fun x => x.leaf == leaf) (if op = 1 then leafSwap [h] s else s)).put Reg.TAG_WCMT_RESULT 0).tag.lock = none := by
    rw [State.put_tag, leafDrop_lock]
    split
    · rw [leafSwap_lock, hlock]
    · exact hlock
  rw [wiredOp, hheld]
  dsimp only
  rw [if_neg (not_not.mpr hmine), lockKick_idle hkept]

/-- One SRAM leaf swapped is its bytes stored. -/
theorem leafSwap_sram (hleaf : h.leaf < 128) : (leafSwap [h] s).tag.sram = memSetN s.tag.sram (h.leaf * 64) h.data := by
  simp [leafSwap, hleaf, leavesReplaced]

theorem wiredOp_held {op leaf : Nat} :
    (s.leafHold leaf = none → wiredOp m op leaf s = s.put Reg.TAG_WCMT_RESULT 2) ∧
    (s.leafHold leaf = some h → h.by_ ≠ some m → wiredOp m op leaf s = s.put Reg.TAG_WCMT_RESULT 1) ∧
    (s.leafHold leaf = some h → h.by_ = some m → s.tag.lock = none →
      (wiredOp m op leaf s).leafHold leaf = none ∧ (wiredOp m op leaf s).nv = s.nv ∧
      (op = 2 → (wiredOp m op leaf s).tag.sram = s.tag.sram) ∧
      (op = 1 → leaf < 128 → (wiredOp m op leaf s).tag.sram = memSetN s.tag.sram (leaf * 64) h.data)) := by
  refine ⟨fun hfree => by rw [wiredOp, hfree], fun hheld hother => ?_, fun hheld hmine hlock => ?_⟩
  · rw [wiredOp, hheld]
    exact if_pos hother
  · rw [wiredOp_mine hheld hmine hlock]
    rw [State.leafHold_put, State.put_nv, State.put_tag, leafDrop_nv, leafDrop_sram]
    refine ⟨leafHold_leafDrop, ?_, fun hop => by rw [if_neg (by omega)], fun hop hleaf => ?_⟩
    · split
      · exact leafSwap_nv _ _
      · rfl
    · have hself := s.leafHold_leaf hheld
      rw [if_pos hop, leafSwap_sram (hself ▸ hleaf), hself]

theorem exec_tagWiredHoldTimeout : exec .tagWiredHoldTimeout s =
    match s.tag.held.find? (fun h => h.by_.isSome && s.after h.at_ 100000) with
    | none => .next s
    | some h => .next (lockKick (leafDrop (fun x => x.by_ == h.by_) s)) := rfl

end TagLeaves

/-- Settles O45: the field's writes and commits after their checks, the reservoir's programs, then the wired masters' writes and operations. -/
theorem tagLeaves : Obligations.TagLeaves := by
  unfold Obligations.TagLeaves
  refine ⟨fun a data ctr s t0 t hheard hcrc hopen ht hleaf hoff hdata hlen => ?write, fun l s => exec_lockWtxExpiry,
    fun a vres ctr s t0 t => exec_tagCommit, fun p x rest vres s => exec_fieldPageProgramDone_page,
    fun p vres s => exec_fieldPageProgramDone_marker, fun ok vres s => exec_fieldPageProgramDone_idle,
    fun s => ⟨fun hhears hcommit => if_pos ⟨hhears, hcommit⟩, fun hnone => if_neg fun h => by simp [hnone] at h⟩,
    fun m off v w s t => exec_tagMemWrite, fun m off b s => tagMemPut_held, fun m leaf s t => exec_tagWiredCommit_discard,
    fun m op leaf h s => wiredOp_held, fun h s hdue => ?timeout, fun s hfree => ?kept⟩
  case write =>
    rw [exec_writeLeaf hheard hcrc hopen ht hleaf hoff hdata hlen]
    refine ⟨fun hpublic => by rw [if_pos hpublic], fun hauth hfree hfew => ?_, fun hauth hfree hmany => ?_,
      fun h hauth hheld hfield => ?_, fun h hauth hheld hwired hfew hclock => ?_, fun h hauth hheld hwired hfew hclock => ?_⟩
    all_goals rw [if_neg (by simp [hauth])]
    · rw [hfree]
      exact congrArg Host.Outcome.next (if_neg (Nat.not_le.mpr hfew))
    · rw [hfree]
      exact congrArg Host.Outcome.next (if_pos hmany)
    · rw [hheld]
      exact congrArg Host.Outcome.next (if_pos (by simp [hfield]))
    all_goals
      rw [hheld]
      dsimp only
      rw [if_neg (by simp [Option.isNone_iff_eq_none, Option.isSome_iff_ne_none.mp hwired]), if_neg (Nat.not_le.mpr hfew)]
    · rw [if_pos hclock]
    · rw [if_neg (by simp [hclock])]
  case timeout => rw [exec_tagWiredHoldTimeout, hdue]
  case kept =>
    have hnone : s.tag.held.find? (fun h => h.by_.isSome && s.after h.at_ 100000) = none :=
      List.find?_eq_none.mpr fun h hmem => by
        have := List.all_eq_true.mp hfree h hmem
        simp_all
    rw [exec_tagWiredHoldTimeout, hnone]

end Sys2Proof.Machine
end

section
/-! PROOFS. The frame a full controller offers first (R17, R23, R382). -/

namespace Sys2Proof.Machine

/-- A P2 frame of the host's, taken at tick 0. -/
def hostFrame : QItem := ⟨.p2, .host, false, 0, .can ⟨0x40, []⟩⟩

/-- A frame of the same class and tick from the session engine, the lower master number of Table 1-3. -/
def sessionFrame : QItem := ⟨.p2, .session, false, 0, .can ⟨0x40, []⟩⟩

/-- Within a class and a tick the lower master goes first, wherever it stands in the queue. -/
theorem popBest_sameTick : popBest [hostFrame, sessionFrame] = some (sessionFrame, [hostFrame]) := by decide

/-- Refutes O46: of two frames of one class and one tick the queue offers the one of the lower master, though the other, of no lower class,
stands before it. -/
theorem not_vehicleBus : ¬ Obligations.VehicleBus := by
  unfold Obligations.VehicleBus
  rintro ⟨-, -, -, -, hpop, -⟩
  obtain ⟨pre, post, hitems, -, hbefore, -⟩ := hpop _ _ _ popBest_sameTick
  cases pre with
  | nil => exact absurd (List.cons.inj hitems).1 (by decide)
  | cons first pre =>
    obtain ⟨rfl, -⟩ := List.cons.inj hitems
    exact absurd (hbefore hostFrame List.mem_cons_self) (by decide)

end Sys2Proof.Machine
end

section
/-! PROOFS. The diagnostic transport, its sessions and access (R396 to R399, R402). -/

namespace Sys2Proof.Machine

section Diagnostics

variable {f : CanFrame} {m : Bytes} {at_ : Nat} {s t : State}

/-! ### The transport (R396, R402) -/

theorem exec_isoTpFrame {phys : Bool} (hon : s.canOn = true) (hhead : s.isHead = true) (htaken : f.taken = true)
    (htarget : s.diagTarget f = some phys) :
    let t := awake (enter .can f.data s)
    let pci := fieldBe f.data 0 1 / 16
    (pci = 0 → exec (.isoTpFrame f) s = .next (singleFrame phys f t)) ∧
    (pci = 1 → phys = true → exec (.isoTpFrame f) s = .next (firstFrame f t)) ∧
    (pci = 2 → phys = true → exec (.isoTpFrame f) s = .next (consecutiveFrame f t)) ∧
    (pci = 3 → phys = true → exec (.isoTpFrame f) s = .next (flowControl f t)) := by
  intro t pci
  have hexec : exec (.isoTpFrame f) s = match (generalizing := false) pci, phys with
      | 0, _ => .next (singleFrame phys f t)
      | 1, true => .next (firstFrame f t)
      | 2, true => .next (consecutiveFrame f t)
      | 3, true => .next (flowControl f t)
      | _, _ => .next t := by
    have hrun : exec (.isoTpFrame f) s = execIsoTpFrame f s := rfl
    rw [hrun, execIsoTpFrame, if_neg (by simp [hon, hhead, htaken]), htarget] <;> rfl
  rw [hexec]
  refine ⟨fun h => ?_, fun h hphys => ?_, fun h hphys => ?_, fun h hphys => ?_⟩
  · rw [h]
    rfl
  all_goals
    rw [h, hphys]
    rfl

theorem exec_isoTpFrame_other (htarget : s.diagTarget f = none) : exec (.isoTpFrame f) s = .next s := by
  have hrun : exec (.isoTpFrame f) s = execIsoTpFrame f s := rfl
  rw [hrun, execIsoTpFrame, htarget, ite_self]

/-- A single frame's message by what becomes of its request for a place. -/
theorem singleFrame_admitted (hmsg : singleMsg f = some m) :
    (enqueue .canCmd .p3 .can (.diag m) (rxAbandon s) = (.taken, t) → singleFrame true f s = diagHeard t) ∧
    (enqueue .canCmd .p3 .can (.diag m) (rxAbandon s) = (.busy, t) →
      singleFrame true f s = diagNeg (fieldBe m 0 1) 0x21 (t.count Reg.CAN_CNT_BUSY 1)) ∧
    (enqueue .canCmd .p3 .can (.diag m) (rxAbandon s) = (.dropped, t) → singleFrame true f s = t) := by
  rw [singleFrame, hmsg]
  dsimp only
  rw [if_pos rfl, diagAdmit]
  refine ⟨fun h => ?_, fun h => ?_, fun h => ?_⟩ <;> rw [h]

theorem consecutiveFrame_received {x : TpRx} (hrx : s.can.rx = some x) :
    let got := (x.got ++ f.data.drop 1).take x.len
    (fieldBe f.data 0 1 % 16 = x.sn → x.len ≤ got.length → consecutiveFrame f s = messageWhole got s) ∧
    (fieldBe f.data 0 1 % 16 = x.sn → got.length < x.len →
      consecutiveFrame f s = { s with can := { s.can with rx := some { x with got := got, sn := (x.sn + 1) % 16, at_ := s.now } } }) ∧
    (fieldBe f.data 0 1 % 16 ≠ x.sn → consecutiveFrame f s = rxAbandon s) ∧
    (s.after x.at_ 150000 = true → exec .ncrTimeout s = .next (rxAbandon s)) ∧ (s.after x.at_ 150000 = false → exec .ncrTimeout s = .next s) := by
  intro got
  have hexec : exec .ncrTimeout s = if s.after x.at_ 150000 then .next (rxAbandon s) else .next s := by
    have hrun : exec .ncrTimeout s = execNcrTimeout s := rfl
    rw [hrun, execNcrTimeout, hrx]
  have hframe : consecutiveFrame f s = if fieldBe f.data 0 1 % 16 ≠ x.sn then rxAbandon s
      else if x.len ≤ got.length then messageWhole got s
      else { s with can := { s.can with rx := some { x with got := got, sn := (x.sn + 1) % 16, at_ := s.now } } } := by
    rw [consecutiveFrame, hrx]
  rw [hexec, hframe]
  exact ⟨fun hsn hwhole => by rw [if_neg (not_not.mpr hsn), if_pos hwhole],
    fun hsn hpart => by rw [if_neg (not_not.mpr hsn), if_neg (Nat.not_le.mpr hpart)],
    fun hsn => if_pos hsn, fun hdue => if_pos hdue, fun hearly => if_neg (ne_true_of_eq_false hearly)⟩

theorem exec_nbsTimeout {x : TpTx} (htx : s.can.tx = some x) (hblock : x.block = 0) (hdue : s.after x.at_ 1000000 = true) :
    exec .nbsTimeout s = .next (diagSettle { s with can := { s.can with tx := none } }) := by
  have hrun : exec .nbsTimeout s = execNbsTimeout s := rfl
  rw [hrun, execNbsTimeout, htx]
  exact if_pos ⟨hblock, hdue⟩

/-! ### Sessions (R397) -/

theorem exec_s3Timeout (hsession : s.can.session ≠ 1) (hroutine : s.can.routine = none) :
    (s.after s.can.lastReq 5000000 = true → exec .s3Timeout s = .next (diagSettle (sessionTo 1 s))) ∧
    (s.after s.can.lastReq 5000000 = false → exec .s3Timeout s = .next s) := by
  have hrun : exec .s3Timeout s = execS3Timeout s := rfl
  rw [hrun, execS3Timeout]
  exact ⟨fun hdue => if_pos ⟨hsession, hroutine, hdue⟩, fun hearly => if_neg fun h => Bool.false_ne_true (hearly.symm.trans h.2.2)⟩

theorem sessionTo_session (n : Nat) (s : State) : (sessionTo n s).can.session = n ∧ (n = 1 → (sessionTo n s).can.authed = false) ∧
    (n ≠ s.can.session → (sessionTo n s).can.xfer = none ∧ (sessionTo n s).can.seed = none) := by
  refine ⟨rfl, fun hdefault => by simp [sessionTo, hdefault], fun hchange => ?_⟩
  rw [sessionTo, if_neg hchange]
  exact ⟨rfl, if_neg hchange⟩

/-! ### Refusals (R397) -/

/-- A head with an image and out of HALT offers the services of Table 17-2 and no other. -/
theorem State.diagRole_head (sid : Nat) (hhead : s.isHead = true) (hrun : s.img.run.isSome = true) (hhalt : s.bit Reg.SUP_HH_STAT_HALT = false) :
    s.diagRole sid = if diagServices.any (fun p => p.1 == sid) then none else some 0x11 := by
  have hfull : s.diagMinimal = false := by simp [State.diagMinimal, hhalt, hrun]
  rw [State.diagRole, if_pos hhead, if_neg (by simp [hfull])]

theorem State.diagRefusal_head (hhead : s.isHead = true) (hrun : s.img.run.isSome = true) (hhalt : s.bit Reg.SUP_HH_STAT_HALT = false) :
    let sid := fieldBe m 0 1
    (diagServices.all (fun p => p.1 != sid) = true → s.diagRefusal m = some 0x11) ∧
    (diagServices.any (fun p => p.1 == sid && !p.2.contains s.can.session) = true → s.diagRefusal m = some 0x7F) ∧
    (diagServices.any (fun p => p.1 == sid && !p.2.contains s.can.session) = false → diagServices.any (fun p => p.1 == sid) = true → diagAuth sid = true →
      s.can.authed = false → s.diagRefusal m = some 0x33) := by
  intro sid
  have hrole := s.diagRole_head sid hhead hrun hhalt
  refine ⟨fun hother => ?_, fun hsession => ?_, fun hsession hlisted hneeds hplain => ?_⟩
  all_goals rw [State.diagRefusal, hrole]
  · rw [if_neg]
    rw [Bool.not_eq_true, List.any_eq_false]
    exact fun p hp => by simpa using List.all_eq_true.mp hother p hp
  · obtain ⟨p, hp, hboth⟩ := List.any_eq_true.mp hsession
    rw [if_pos (List.any_eq_true.mpr ⟨p, hp, (Bool.and_eq_true_iff.mp hboth).1⟩)]
    exact if_pos hsession
  · rw [if_pos hlisted]
    exact (if_neg (ne_true_of_eq_false hsession)).trans (if_pos ⟨hneeds, hplain⟩)

/-! ### Services (R397 to R399) -/

/-- The next message is the service's. -/
theorem diagServe_picked {pick : Bytes → Bool} {g : Nat → Bytes → State → State} (hpop : diagPop (diagSettle s) = some (m, at_, t))
    (hpick : pick m = true) : diagServe pick g s = diagSettle (g at_ (m.drop 1) t) := by
  rw [diagServe, hpop]
  exact if_pos hpick

/-- The same for a service that draws random bytes and got them. -/
theorem diagServeRand_picked {pick : Bytes → Bool} {g : Bytes → State → Bool × State} {u : State}
    (hpop : diagPop (diagSettle s) = some (m, at_, t)) (hpick : pick m = true) (hdone : g (m.drop 1) t = (true, u)) :
    diagServeRand pick g s = diagSettle u := by
  rw [diagServeRand, hpop]
  dsimp only
  rw [if_pos hpick, hdone]

section Served

variable (hpop : diagPop (diagSettle s) = some (m, at_, t))

include hpop

theorem exec_diagnosticSessionControl (hsid : isService 0x10 m = true) : exec .diagnosticSessionControl s = .next (diagSettle
    (diagPosUnless (decide (128 ≤ fieldBe (m.drop 1) 0 1)) 0x10 (be 1 (fieldBe (m.drop 1) 0 1 % 128) ++ be 2 50 ++ be 2 500)
      (sessionTo (fieldBe (m.drop 1) 0 1 % 128) t))) :=
  congrArg Host.Outcome.next (diagServe_picked hpop hsid)

theorem exec_testerPresent (hsid : isService 0x3E m = true) : exec .testerPresent s = .next (diagSettle
    (diagPosUnless (decide (128 ≤ fieldBe (m.drop 1) 0 1)) 0x3E [0] t)) :=
  congrArg Host.Outcome.next (diagServe_picked hpop hsid)

theorem exec_readDataByIdentifier (hsid : isService 0x22 m = true) : exec .readDataByIdentifier s =
    .next (diagSettle (diagPos 0x22 ((m.drop 1).take 2 ++ (t.did (fieldBe (m.drop 1) 0 2)).getD []) t)) :=
  congrArg Host.Outcome.next (diagServe_picked hpop hsid)

theorem exec_ecuReset {u : State} (hsid : isService 0x11 m = true) (hdue : s.power.dueEcu = false)
    (hu : diagPosUnless (decide (128 ≤ fieldBe (m.drop 1) 0 1)) 0x11 [1] t = u) : exec .ecuReset s = .next (diagSettle
      { restartOnly .ecurst u with outs := { (restartOnly .ecurst u).outs with diag := u.outs.diag } }) := by
  subst hu
  have hrun : exec .ecuReset s = execEcuReset s := rfl
  rw [hrun, execEcuReset, if_neg (by simp [hdue]), diagServe_picked hpop hsid]

theorem exec_readMemoryByAddress {st : FabStatus} {vs : List Nat} {u : State} (hsid : isService 0x23 m = true)
    (hread : fabReadN .p3 .can (fieldBe (m.drop 1) 1 4) (fieldBe (m.drop 1) 5 4 / 4) t = (st, vs, u)) :
    (st = .ok → exec .readMemoryByAddress s = .next (diagSettle (diagPos 0x23 (vs.flatMap (leBytes 4)) u))) ∧
    (st ≠ .ok → exec .readMemoryByAddress s = .next (diagSettle (diagRefused 0x23 st u))) := by
  have hrun : exec .readMemoryByAddress s = execReadMemoryByAddress s := rfl
  rw [hrun, execReadMemoryByAddress, diagServe_picked hpop hsid]
  rw [hread]
  refine ⟨fun hok => by rw [hok], fun hbad => ?_⟩
  cases st with
  | ok => exact absurd rfl hbad
  | _ => rfl

theorem exec_writeMemoryByAddress {st : FabStatus} {u : State} (hsid : isService 0x3D m = true)
    (hwrite : fabWriteN .p3 .can (fieldBe (m.drop 1) 1 4) (leWords ((m.drop 1).drop 9)) t = (st, u)) :
    (st = .ok → exec .writeMemoryByAddress s = .next (diagSettle (diagPos 0x3D ((m.drop 1).take 9) u))) ∧
    (st ≠ .ok → exec .writeMemoryByAddress s = .next (diagSettle (diagRefused 0x3D st u))) := by
  have hrun : exec .writeMemoryByAddress s = execWriteMemoryByAddress s := rfl
  rw [hrun, execWriteMemoryByAddress, diagServe_picked hpop hsid]
  rw [hwrite]
  refine ⟨fun hok => by rw [hok], fun hbad => ?_⟩
  cases st with
  | ok => exact absurd rfl hbad
  | _ => rfl

/-! ### SecurityAccess (R398) -/

theorem exec_securityAccessSeed (hsid : isService 0x27 m = true) (hsub : fieldBe m 1 1 = 1) :
    (t.can.lockout.isSome = true → exec .securityAccessSeed s = .next (diagSettle (diagNeg 0x27 0x37 t))) ∧
    (t.can.lockout = none → ∀ b u, randReq false 16 t = (.bytes b, u) →
      exec .securityAccessSeed s = .next (diagSettle (diagPos 0x27 (1 :: b) { u with can := { u.can with seed := some b } }))) := by
  have hpick : (isService 0x27 m && fieldBe m 1 1 == 1) = true := by simp [hsid, hsub]
  refine ⟨fun hlocked => ?_, fun hunlocked b u hrand => ?_⟩
  · exact congrArg Host.Outcome.next (diagServeRand_picked hpop hpick (if_pos hlocked))
  · exact congrArg Host.Outcome.next (diagServeRand_picked hpop hpick ((if_neg (by simp [hunlocked])).trans (by rw [hrand])))

theorem exec_securityAccessKey (hsid : isService 0x27 m = true) (hsub : fieldBe m 1 1 = 2) :
    (t.can.lockout.isSome = true → exec .securityAccessKey s = .next (diagSettle (diagNeg 0x27 0x37 t))) ∧
    (t.can.lockout = none → ∀ seed u, t.can.seed = some seed →
      (securityKey seed (m.drop 2) t = (true, u) → exec .securityAccessKey s =
        .next (diagSettle (diagPos 0x27 [2] { u with can := { u.can with seed := none, authed := u.can.session != 1 } }))) ∧
      (securityKey seed (m.drop 2) t = (false, u) → exec .securityAccessKey s = .next (diagSettle (securityFailed u)))) := by
  have hpick : (isService 0x27 m && fieldBe m 1 1 == 2) = true := by simp [hsid, hsub]
  have hrun : exec .securityAccessKey s = execSecurityAccessKey s := rfl
  rw [hrun, execSecurityAccessKey, diagServe_picked hpop hpick]
  dsimp only
  refine ⟨fun hlocked => by rw [if_pos hlocked], fun hunlocked seed u hseed => ?_⟩
  have hsig : (m.drop 1).drop 1 = m.drop 2 := List.drop_drop
  rw [if_neg (by simp [hunlocked]), hseed, hsig]
  dsimp only
  refine ⟨fun hkey => ?_, fun hkey => ?_⟩ <;> rw [hkey]

end Served

theorem securityFailed_counts (s : State) :
    (s.can.authFails < 2 → ∃ t, securityFailed s = diagNeg 0x27 0x35 t ∧ t.can.lockout = none ∧ t.can.authFails = s.can.authFails + 1) ∧
    (2 ≤ s.can.authFails → ∃ t, securityFailed s = diagNeg 0x27 0x36 t ∧ t.can.lockout = some s.now) := by
  unfold securityFailed
  dsimp only
  refine ⟨fun hfew => ?_, fun hmany => ?_⟩
  · rw [if_neg (by omega), if_neg (by omega)]
    exact ⟨_, rfl, rfl, rfl⟩
  · rw [if_pos (by omega), if_pos (by omega)]
    exact ⟨_, rfl, rfl⟩

theorem exec_securityDelayExpiry {from_ : Nat} (hlock : s.can.lockout = some from_) :
    (s.after from_ 10000000 = true → exec .securityDelayExpiry s = .next { s with can := { s.can with lockout := none } }) ∧
    (s.after from_ 10000000 = false → exec .securityDelayExpiry s = .next s) := by
  have hrun : exec .securityDelayExpiry s = execSecurityDelayExpiry s := rfl
  rw [hrun, execSecurityDelayExpiry, hlock]
  exact ⟨fun hdue => if_pos hdue, fun hearly => if_neg (ne_true_of_eq_false hearly)⟩

theorem diagRefused_answer (sid : Nat) (st : FabStatus) (s : State) :
    (st ≠ .silent → diagRefused sid st s = diagNeg sid (fabNrc st) s) ∧ diagRefused sid .silent s = diagSettle s :=
  ⟨fun hheard => if_neg hheard, if_pos rfl⟩

end Diagnostics

/-- Settles O48: the transport frame by frame, what is refused before a service runs, then each service on the message it is handed. -/
theorem diagnosticSessions : Obligations.DiagnosticSessions := by
  unfold Obligations.DiagnosticSessions
  refine ⟨fun f phys s => exec_isoTpFrame, fun f s => exec_isoTpFrame_other, fun f m s t => singleFrame_admitted,
    fun f x s => consecutiveFrame_received, fun x s => exec_nbsTimeout, fun s => exec_s3Timeout, sessionTo_session,
    fun m s => State.diagRefusal_head, fun m at_ s t hpop => ?services, diagRefused_answer, fun m at_ s t => exec_securityAccessSeed,
    fun m at_ s t => exec_securityAccessKey, securityFailed_counts, fun t s => exec_securityDelayExpiry,
    rfl, rfl, rfl, rfl, rfl, rfl, rfl, rfl, rfl, rfl⟩
  case services =>
    exact ⟨exec_diagnosticSessionControl hpop, exec_testerPresent hpop, exec_readDataByIdentifier hpop,
      fun hsid hdue => exec_ecuReset hpop hsid hdue rfl, fun hsid st vs u => exec_readMemoryByAddress hpop hsid,
      fun hsid st u => exec_writeMemoryByAddress hpop hsid⟩

end Sys2Proof.Machine
end

section
/-! PROOFS. Transactions of the host port (R403 to R405). -/

namespace Sys2Proof.Machine

section HostTransactions

variable {bits : List Bool} {r : HostReq} {cmd : Nat} {f : HostReq → State → State} {s t : State}

/-! ### Bits and bytes -/

/-- The eight bits of a byte, the most significant first, give the byte back. -/
theorem byte_of_msbBits : ∀ x : Fin 256, BitVec.ofNat 8 (((List.range 8).map (fun i => (BitVec.ofFin (w := 8) x).getLsbD (7 - i))).foldl
    (fun v b => 2 * v + (if b then 1 else 0)) 0) = BitVec.ofFin x := by decide +kernel

theorem msbBits_cons (x : BitVec 8) (b : Bytes) : msbBits (x :: b) = (List.range 8).map (fun i => x.getLsbD (7 - i)) ++ msbBits b :=
  List.flatMap_cons

theorem msbBits_length (b : Bytes) : (msbBits b).length = 8 * b.length := by
  induction b with
  | nil => rfl
  | cons x b ih =>
    rw [msbBits_cons, List.length_append, ih, List.length_map, List.length_range, List.length_cons]
    omega

theorem bytesOfMsb_msbBits (b : Bytes) : bytesOfMsb b.length (msbBits b) = b := by
  induction b with
  | nil => rfl
  | cons x b ih =>
    have hlen : ((List.range 8).map (fun i => x.getLsbD (7 - i))).length = 8 := by rw [List.length_map, List.length_range]
    rw [List.length_cons, bytesOfMsb, msbBits_cons, List.take_left' hlen, List.drop_left' hlen, ih]
    exact congrArg (· :: b) (byte_of_msbBits x.toFin)

theorem hostBytes_msbBits (b : Bytes) : hostBytes (msbBits b) = b := by
  rw [hostBytes, msbBits_length, Nat.mul_div_cancel_left _ (by decide), bytesOfMsb_msbBits]

/-! ### Transactions (R404, R405) -/

theorem hostParse_checked {b : Bytes} (h : hostParse b = some r) : 1 ≤ r.len ∧ r.len ≤ 16 ∧ crc16 (b.take 6) = fieldBe b 6 2 ∧
    (r.cmd = 1 ∨ r.cmd = 2 ∨ r.cmd = 4) ∧ r.addr = fieldBe b 2 4 := by
  dsimp only [hostParse] at h
  split at h
  · cases h
  · rename_i hform
    simp only [not_or, not_not, Bool.not_eq_false] at hform
    obtain ⟨-, hcrc, hcmd, hzero, hmax⟩ := hform
    split at h
    · cases h
    · obtain rfl := Option.some.inj h
      exact ⟨Nat.one_le_iff_ne_zero.mpr hzero, Nat.not_lt.mp hmax, hcrc, by simpa using hcmd, rfl⟩

/-- A transaction that R404 answers FRAME. -/
theorem hostServe_frame (hon : s.hostOn = true) (hparse : hostParse (hostBytes bits) = none) :
    hostServe cmd bits f s = hostAnswer 0xE [] (hostFrameError (awake s)) := by
  rw [hostServe, if_neg (by simp [hon]), hparse]

/-- A transaction of the command while the port is not isolated. -/
theorem hostServe_run (hon : s.hostOn = true) (hparse : hostParse (hostBytes bits) = some r) (hcmd : r.cmd = cmd)
    (hport : s.isIsolated .hpt = false) : hostServe cmd bits f s = f r (awake (enter .host (hostBytes bits) s)) := by
  rw [hostServe, if_neg (by simp [hon]), hparse]
  dsimp only
  rw [if_neg (not_not.mpr hcmd), if_neg (ne_true_of_eq_false hport)]

/-- A transaction of the command at an isolated port. -/
theorem hostServe_isolated (hon : s.hostOn = true) (hparse : hostParse (hostBytes bits) = some r) (hcmd : r.cmd = cmd)
    (hport : s.isIsolated .hpt = true) : hostServe cmd bits f s =
      hostAnswer FabStatus.fault.code (if cmd = 2 then [] else zeros ((if cmd = 4 then 64 else 4) * r.len)) s := by
  rw [hostServe, if_neg (by simp [hon]), hparse]
  dsimp only
  rw [if_neg (not_not.mpr hcmd), if_pos hport]

theorem exec_hostReadWords (ht : awake (enter .host (hostBytes bits) s) = t) (hon : s.hostOn = true)
    (hparse : hostParse (hostBytes bits) = some r) (hport : s.isIsolated .hpt = false) (hcmd : r.cmd = 1) {st : FabStatus} {vs : List Nat}
    {u : State} (hread : fabReadN .p3 .host r.addr r.len t = (st, vs, u)) :
    (st = .ok → exec (.hostReadWords bits) s = .next (hostAnswer 0 (vs.flatMap (be 4)) u)) ∧
    (st ≠ .ok → exec (.hostReadWords bits) s = .next (hostStatus st (zeros (4 * r.len)) u)) := by
  have hrun : exec (.hostReadWords bits) s = execHostReadWords bits s := rfl
  rw [hrun, execHostReadWords, hostServe_run hon hparse hcmd hport, ht, hread]
  refine ⟨fun hok => by rw [hok], fun hbad => ?_⟩
  cases st with
  | ok => exact absurd rfl hbad
  | _ => rfl

theorem exec_hostWriteWords (ht : awake (enter .host (hostBytes bits) s) = t) (hon : s.hostOn = true)
    (hparse : hostParse (hostBytes bits) = some r) (hport : s.isIsolated .hpt = false) (hcmd : r.cmd = 2) {st : FabStatus} {u : State}
    (hwrite : fabWriteN .p3 .host r.addr r.words t = (st, u)) : exec (.hostWriteWords bits) s = .next (hostStatus st [] u) := by
  have hrun : exec (.hostWriteWords bits) s = execHostWriteWords bits s := rfl
  rw [hrun, execHostWriteWords, hostServe_run hon hparse hcmd hport, ht, hwrite]

theorem exec_hostLedgerRead (ht : awake (enter .host (hostBytes bits) s) = t) (hon : s.hostOn = true)
    (hparse : hostParse (hostBytes bits) = some r) (hport : s.isIsolated .hpt = false) (hcmd : r.cmd = 4) {target : Option Target} {u : State}
    (hcheck : fabCheck .host Reg.LDG_STAT .b32 false t = (.ok, target, u)) : exec (.hostLedgerRead bits) s =
      .next (hostAnswer 0 (readRecs r.len r.addr (sectorProgram u)).1 (readRecs r.len r.addr (sectorProgram u)).2) := by
  have hrun : exec (.hostLedgerRead bits) s = execHostLedgerRead bits s := rfl
  rw [hrun, execHostLedgerRead, hostServe_run hon hparse hcmd hport, ht, hcheck]

theorem exec_hostCsAbort (hon : s.hostOn = true) (hparse : hostParse (hostBytes bits) = some r) :
    (r.cmd = 2 → ((awake s).count Reg.HPT_CNT_ABORT 1).isIsolated .hpt = false →
      exec (.hostCsAbort bits) s = .next (fabWriteN .p3 .host r.addr r.words ((awake s).count Reg.HPT_CNT_ABORT 1)).2) ∧
    (r.cmd ≠ 2 → exec (.hostCsAbort bits) s = .next ((awake s).count Reg.HPT_CNT_ABORT 1)) := by
  have hrun : exec (.hostCsAbort bits) s = execHostCsAbort bits s := rfl
  rw [hrun, execHostCsAbort, if_neg (by simp [hon]), hparse]
  exact ⟨fun hwrite hport => if_pos ⟨hwrite, hport⟩, fun hread => if_neg fun h => hread h.1⟩

end HostTransactions

/-- Settles O50: what a parsed transaction is, then each command by the three outcomes of the port's checks. -/
theorem hostPort : Obligations.HostPort := by
  unfold Obligations.HostPort
  refine ⟨fun b r => hostParse_checked, fun bits s hon hparse => ?frame, fun bits r s hon hparse hport => ?served,
    fun bits r s hon hparse hport => ?isolated, fun bits s hoff => ?off, hostBytes_msbBits, fun st d s hheard => ?status,
    fun st d s => ⟨rfl, rfl⟩, rfl, rfl, rfl, rfl, rfl, rfl, rfl, rfl, rfl, rfl⟩
  case frame =>
    exact ⟨congrArg Host.Outcome.next (hostServe_frame hon hparse), congrArg Host.Outcome.next (hostServe_frame hon hparse),
      congrArg Host.Outcome.next (hostServe_frame hon hparse)⟩
  case served =>
    obtain ⟨hwrite, hread⟩ := exec_hostCsAbort hon hparse
    exact ⟨fun hcmd st vs u => exec_hostReadWords rfl hon hparse hport hcmd, fun hcmd st u => exec_hostWriteWords rfl hon hparse hport hcmd,
      fun hcmd target u => exec_hostLedgerRead rfl hon hparse hport hcmd, hwrite, hread⟩
  case isolated =>
    exact ⟨fun hcmd => congrArg Host.Outcome.next (hostServe_isolated hon hparse hcmd hport),
      fun hcmd => congrArg Host.Outcome.next (hostServe_isolated hon hparse hcmd hport),
      fun hcmd => congrArg Host.Outcome.next (hostServe_isolated hon hparse hcmd hport)⟩
  case off => exact ⟨congrArg Host.Outcome.next (if_pos hoff), if_pos hoff⟩
  case status => rw [hostStatus, if_neg hheard]

end Sys2Proof.Machine
end

section
/-! PROOFS. Touch channels and switches (R408 to R414). -/

namespace Sys2Proof.Machine

section TouchSwitch

variable {n : Nat} {m : Master} {c : CapCh} {w : SwCh} {s t : State}

/-! ### Touch (R409 to R411) -/

theorem exec_touchScan (convs : List Int) (hdue : s.after s.touch.scanAt s.scanPeriod = true) :
    let taken := (s.touch.caps.zipIdx).map (fun p => if p.1.code.isNone then p.1 else capTake (convs.getD p.2 p.1.conv) p.1)
    let t := enterSamples convs { s with touch := { s.touch with scanAt := s.now } }
    let caps := taken.map (fun c => if c.code.isNone then c else capNext s c)
    (isWater s taken = true → exec (.touchScan convs) s = .next ({ t with touch := { t.touch with caps := taken } }.count Reg.TSW_CNT_WATER 1)) ∧
    (isWater s taken = false → exec (.touchScan convs) s = .next ((detections taken caps).foldl
      (fun s d => inputFires 1 d.1 (s.setBitAt Reg.TSW_CAPSTAT_EVT d.2)) { t with touch := { t.touch with caps := caps } })) := by
  intro taken t caps
  have hrun : exec (.touchScan convs) s = execTouchScan convs s := rfl
  rw [hrun, execTouchScan, if_neg (by simp [hdue])]
  exact ⟨fun hwater => if_pos hwater, fun hdry => if_neg (ne_true_of_eq_false hdry)⟩

theorem ten_le_touchThr (s : State) : 10 ≤ s.touchThr := Int.ofNat_le.mpr (Nat.le_max_left _ _)

/-- The baseline of a released channel moves by 0.01 pF at most, and nothing else of it but the time of the step. -/
theorem capFollow_step (s : State) (c : CapCh) :
    (capFollow s c).touched = c.touched ∧ ((capFollow s c).base - c.base).natAbs ≤ 1 := by
  unfold capFollow
  split
  · refine ⟨rfl, ?_⟩
    dsimp only
    split_ifs <;> omega
  · exact ⟨rfl, by simp⟩

theorem capNext_released (hstuck : c.stuck = false) (htouched : c.touched = false) :
    (s.touchThr ≤ c.delta → (capNext s c).touched = true ∧ (capNext s c).base = c.base ∧ (capNext s c).since = s.now) ∧
    (c.delta < s.touchThr → (capNext s c).touched = false ∧ ((capNext s c).base - c.base).natAbs ≤ 1) := by
  have hnext : capNext s c = if s.touchThr ≤ c.delta then { c with touched := true, since := s.now } else capFollow s c := by
    rw [capNext, if_neg (ne_true_of_eq_false hstuck), if_neg (ne_true_of_eq_false htouched)]
  rw [hnext]
  refine ⟨fun htouch => ?_, fun hbelow => ?_⟩
  · rw [if_pos htouch]
    exact ⟨rfl, rfl, rfl⟩
  · rw [if_neg (not_le.mpr hbelow), (capFollow_step s c).1]
    exact ⟨htouched, (capFollow_step s c).2⟩

theorem capNext_touched (hstuck : c.stuck = false) (htouched : c.touched = true) :
    (capNext s c).base = c.base ∧ ((capNext s c).touched = false ↔ 2 * c.delta < s.touchThr) := by
  have hnext : capNext s c = if 2 * c.delta < s.touchThr then { c with touched := false } else c := by
    rw [capNext, if_neg (ne_true_of_eq_false hstuck), if_pos htouched]
  rw [hnext]
  split
  · exact ⟨rfl, iff_of_true rfl ‹_›⟩
  · exact ⟨rfl, iff_of_false (by simp [htouched]) ‹_›⟩

theorem capNext_stuck (hstuck : c.stuck = true) :
    (capNext s c).touched = c.touched ∧ ((capNext s c).stuck = false ↔ 2 * c.conv < 2 * c.b0 + s.touchThr) ∧
    (2 * c.conv < 2 * c.b0 + s.touchThr → (capNext s c).base = c.conv) := by
  have hnext : capNext s c = if 2 * c.conv < 2 * c.b0 + s.touchThr then { c with stuck := false, base := c.conv } else c := by
    rw [capNext, if_pos hstuck]
  rw [hnext]
  split
  · exact ⟨rfl, iff_of_true rfl ‹_›, fun _ => rfl⟩
  · exact ⟨rfl, iff_of_false (by simp [hstuck]) ‹_›, fun h => absurd h ‹_›⟩

theorem isWater_iff (caps : List CapCh) (s : State) : isWater s caps = true ↔ 2 ≤ (caps.filter (fun c => c.code.isSome)).length ∧
    (∀ c ∈ caps, c.code.isSome = true → s.touchThr ≤ c.delta) ∧
    2 ≤ ((caps.filter (fun c => c.code.isSome)).filter (fun c => !c.touched)).length := by
  simp only [isWater, Bool.and_eq_true, decide_eq_true_eq, List.all_eq_true, List.mem_filter, and_imp, and_assoc]

theorem exec_touchStuck : exec (.touchStuck n) s =
    let c := s.touch.caps.getD n CapCh.init
    if c.touched ∧ s.after c.since 10000000 then .next (raise 0x0301 n { s with touch := { s.touch with
      caps := s.touch.caps.set n { c with b0 := c.base, base := c.conv, touched := false, stuck := true } } })
    else .next s := rfl

/-- The unit runs in three power states. -/
theorem State.state_of_runs (h : s.runs = true) : s.power.state = .on ∨ s.power.state = .doze ∨ s.power.state = .standby := by
  unfold State.runs at h
  split at h
  case h_1 hon => exact .inl hon
  case h_2 hdoze => exact .inr (.inl hdoze)
  case h_3 hstandby => exact .inr (.inr hstandby)
  all_goals exact absurd h Bool.false_ne_true

/-- A detection by the unit's state (R409, R411, R413). -/
theorem inputFires_by_state (wake code : Nat) (s : State) :
    (s.runs = true → s.bit Reg.PWR_BOOT_STAT_DONE = true → inputFires wake code s = fireCode code s) ∧
    (s.runs = true → s.bit Reg.PWR_BOOT_STAT_DONE = false → s.get Reg.PWR_BOOT_STAT_FAILSTEP = 0 →
      inputFires wake code s = { s with touch := { s.touch with held := s.touch.held ++ [code] } }) ∧
    (s.runs = true → s.bit Reg.PWR_BOOT_STAT_DONE = false → s.get Reg.PWR_BOOT_STAT_FAILSTEP ≠ 0 → inputFires wake code s = s) ∧
    (s.power.state = .reset → inputFires wake code s = { s with touch := { s.touch with held := s.touch.held ++ [code] } }) ∧
    (s.power.state = .sleep ∨ s.power.state = .hibernate →
      inputFires wake code s = latchWake wake { s with touch := { s.touch with held := s.touch.held ++ [code] } }) := by
  have hawake : s.runs = true → inputFires wake code s =
      if s.bit Reg.PWR_BOOT_STAT_DONE then fireCode code s
      else if s.get Reg.PWR_BOOT_STAT_FAILSTEP = 0 then { s with touch := { s.touch with held := s.touch.held ++ [code] } }
      else s := fun hruns => by
    obtain h | h | h := State.state_of_runs hruns <;> rw [inputFires, h]
  refine ⟨fun hruns hdone => ?_, fun hruns hdone hstep => ?_, fun hruns hdone hstep => ?_, fun hreset => ?_, fun hasleep => ?_⟩
  · rw [hawake hruns, if_pos hdone]
  · rw [hawake hruns, if_neg (ne_true_of_eq_false hdone), if_pos hstep]
  · rw [hawake hruns, if_neg (ne_true_of_eq_false hdone), if_neg hstep]
  · rw [inputFires, hreset]
  · obtain hsleep | hhibernate := hasleep
    · rw [inputFires, hsleep]
    · rw [inputFires, hhibernate]

/-! ### Switches (R412, R413) -/

theorem exec_switchSample (highs : List Bool) (hdue : s.after s.touch.sampleAt s.swPeriod = true) :
    let sws := (s.touch.sws.zipIdx).map (fun p => swTake s p.2 (highs.getD p.2 false) p.1)
    exec (.switchSample highs) s = .next ({ s with touch := { s.touch with sampleAt := s.now, sws := sws } }.count Reg.TSW_CNT_GLITCH
      ((s.touch.sws.zip sws).countP (fun (p : SwCh × SwCh) => swGlitch p.1 p.2))) := by
  intro sws
  have hrun : exec (.switchSample highs) s = execSwitchSample highs s := rfl
  rw [hrun, execSwitchSample, if_neg (by simp [hdue])]

theorem swTake_polWritten (high : Bool) (hpol : w.polWritten = true) :
    (swTake s n high w).active = (high == s.swPol n) ∧ (swTake s n high w).polWritten = false := by
  rw [swTake, if_pos hpol]
  exact ⟨rfl, rfl⟩

theorem swTake_sampled (high : Bool) (hpol : w.polWritten = false) :
    (swTake s n high w).active = w.active ∧ (swTake s n high w).raw = (high == s.swPol n) := by
  rw [swTake, if_neg (ne_true_of_eq_false hpol)]
  split
  · exact ⟨rfl, Eq.symm ‹_›⟩
  · exact ⟨rfl, rfl⟩

theorem swGlitch_swTake (high : Bool) (hpol : w.polWritten = false) : swGlitch w (swTake s n high w) = true ↔
    (high == s.swPol n) ≠ w.raw ∧ (high == s.swPol n) = w.active := by
  rw [swGlitch, hpol, (swTake_sampled high hpol).2]
  simp only [Bool.not_false, Bool.true_and, Bool.and_eq_true, bne_iff_ne, beq_iff_eq, ne_comm]

theorem exec_switchDebounce_stable (hstable : s.after (s.sw n).rawAt (s.swDeb n * 1000) = true) (hpol : (s.sw n).polWritten = false) :
    ((s.sw n).raw = true → (s.sw n).active = false → exec (.switchDebounce n) s = .next ((s.sw n).firing.foldl (fun s c => inputFires 2 c s)
      (captureEdge (4 + n) true ((s.setSw n { s.sw n with active := true, since := s.now }).setBitAt Reg.TSW_SWSTAT_EVT n)))) ∧
    ((s.sw n).raw = false → (s.sw n).active = true →
      exec (.switchDebounce n) s = .next (captureEdge (4 + n) false (s.setSw n { s.sw n with active := false, stuck := false }))) := by
  have hrun : exec (.switchDebounce n) s = execSwitchDebounce n s := rfl
  rw [hrun, execSwitchDebounce]
  refine ⟨fun hraw hactive => ?_, fun hraw hactive => ?_⟩ <;> rw [if_neg (by simp [hstable, hpol, hraw, hactive])]
  · exact if_pos hraw
  · exact if_neg (ne_true_of_eq_false hraw)

theorem exec_switchDebounce_kept (h : s.after (s.sw n).rawAt (s.swDeb n * 1000) = false ∨ (s.sw n).raw = (s.sw n).active ∨
    (s.sw n).polWritten = true) : exec (.switchDebounce n) s = .next s :=
  if_pos (h.elim (fun hshort => .inr (.inr hshort)) (Or.elim · (fun hsame => .inr (.inl hsame)) .inl))

theorem one_le_swDeb (n : Nat) (s : State) : 1 ≤ s.swDeb n := by
  unfold State.swDeb
  dsimp only
  have hmin : 1 ≤ max 1 (s.swCfg n % 64) := Nat.le_max_left _ _
  split <;> omega

theorem exec_switchStuck (hactive : (s.sw n).active = true) (hfree : (s.sw n).stuck = false) (hbutton : (s.sw n).codes.contains (0x28 + n) = true) :
    (s.after (s.sw n).since 60000000 = true → exec (.switchStuck n) s = .next (raise 0x0302 n (s.setSw n { s.sw n with stuck := true }))) ∧
    (s.after (s.sw n).since 60000000 = false → exec (.switchStuck n) s = .next s) :=
  ⟨fun hdue => if_pos ⟨hactive, hfree, hbutton, hdue⟩, fun hearly => if_neg fun h => Bool.false_ne_true (hearly.symm.trans h.2.2.2)⟩

theorem exec_switchPolWrite {v : Nat} (hcheck : fabCheck m Reg.TSW_SWCFG .b32 true s = (.ok, some (.reg Reg.TSW_SWCFG), t)) :
    exec (.switchPolWrite m v) s = .next (fabAnswer m (tswWrite m Reg.TSW_SWCFG v t)) := by
  have hrun : exec (.switchPolWrite m v) s = wordWrite m Reg.TSW_SWCFG v s := rfl
  have hreg : regWrite m Reg.TSW_SWCFG v t = tswWrite m Reg.TSW_SWCFG v t := rfl
  rw [hrun, wordWrite, fabWrite_reg hcheck, hreg]

/-- A write of POL fires nothing and queues nothing. -/
theorem tswWrite_swcfg {v : Nat} (hm : m = .host ∨ m = .can ∨ m = .debug) : (tswWrite m Reg.TSW_SWCFG v s).1 = .ok ∧
    (tswWrite m Reg.TSW_SWCFG v s).2.outs = s.outs ∧ (tswWrite m Reg.TSW_SWCFG v s).2.queues = s.queues := by
  rw [tswWrite, if_neg (not_not.mpr hm), if_neg (by decide)]
  exact ⟨rfl, rfl, rfl⟩

/-! ### Events of a satellite (R414) -/

theorem exec_satEventRepeat {word : Nat} {words : List Nat} (hevents : s.sett.satEvents = word :: words) :
    (s.after s.sett.satEventAt 2000 = true → exec .satEventRepeat s = .next (settSend 0x11 false 1 .p0 (be 2 0xFFFF ++ [0, 1] ++ be 4 word)
      { s with sett := { s.sett with satEventAt := s.now } })) ∧
    (s.after s.sett.satEventAt 2000 = false → exec .satEventRepeat s = .next s) := by
  have hrun : exec .satEventRepeat s = execSatEventRepeat s := rfl
  rw [hrun, execSatEventRepeat, hevents]
  exact ⟨fun hdue => if_pos hdue, fun hearly => if_neg (ne_true_of_eq_false hearly)⟩

end TouchSwitch

/-- Settles O51: a scan's channels by the branches of a channel's step, then the switches' samples and debounced levels. -/
theorem touchAndSwitches : Obligations.TouchAndSwitches := by
  unfold Obligations.TouchAndSwitches
  refine ⟨fun convs s => exec_touchScan convs, fun convs s hearly => if_pos hearly, fun c s => ⟨ten_le_touchThr s, fun hstuck htouched =>
      (capNext_released hstuck htouched).1, fun hstuck htouched => (capNext_released hstuck htouched).2, capNext_touched, capNext_stuck⟩,
    isWater_iff, fun n s hn => ?stuck, inputFires_by_state, fun highs s => exec_switchSample highs,
    fun n high w s => ⟨swTake_polWritten high, swTake_sampled high, swGlitch_swTake high⟩, fun n s => exec_switchDebounce_stable,
    fun n s => exec_switchDebounce_kept, fun n c s => ⟨one_le_swDeb n s, fun hmem => of_decide_eq_true (List.mem_filter.mp hmem).2⟩,
    fun n s => exec_switchStuck, fun m v s t => exec_switchPolWrite, fun m v s => tswWrite_swcfg, fun w ws s => exec_satEventRepeat⟩
  case stuck =>
    intro c
    rw [exec_touchStuck]
    refine ⟨fun htouched hlong => if_pos ⟨htouched, hlong⟩, fun hother => if_neg fun h => ?_⟩
    exact hother.elim (fun hfree => Bool.false_ne_true (hfree.symm.trans h.1)) (fun hshort => Bool.false_ne_true (hshort.symm.trans h.2))

end Sys2Proof.Machine
end

section
/-! PROOFS. The start lines (R415 to R417). -/

namespace Sys2Proof.Machine

section StartLines

variable {us mv ms ua : Nat} {h l : Bool} {s t : State}

/-- A line is on while the latch is set, VBAT is there and nothing protects it (Table 18-1). -/
theorem State.lineOut_release (s : State) (shut : Bool) :
    (s.lineOut shut == .release) = true ↔ s.bit Reg.SL_STAT_LATCH = true ∧ s.bit Reg.CHRON_STAT_BKP = false ∧ shut = false := by
  unfold State.lineOut
  split
  next hlatch => exact iff_of_false (by decide) fun ⟨hset, _⟩ => Bool.false_ne_true (hlatch.symm.trans hset)
  next hlatch =>
    split
    next hoff =>
      exact iff_of_false (by decide) fun ⟨_, hbkp, hshut⟩ => hoff.elim (ne_true_of_eq_false hbkp) (ne_true_of_eq_false hshut)
    next hon =>
      obtain ⟨hbkp, hshut⟩ := not_or.mp hon
      exact iff_of_true rfl ⟨Bool.eq_true_of_not_eq_false hlatch, Bool.eq_false_of_not_eq_true hbkp, Bool.eq_false_of_not_eq_true hshut⟩

theorem State.lineH_iff (s : State) :
    s.lineH = true ↔ s.bit Reg.SL_STAT_LATCH = true ∧ s.bit Reg.CHRON_STAT_BKP = false ∧ s.lines.ocH = none ∧ s.lines.otH = false := by
  rw [State.lineH, State.startenH, State.lineOut_release, Bool.or_eq_false_iff, Option.isSome_eq_false_iff, Option.isNone_iff_eq_none]

theorem State.lineL_iff (s : State) :
    s.lineL = true ↔ s.bit Reg.SL_STAT_LATCH = true ∧ s.bit Reg.CHRON_STAT_BKP = false ∧ s.lines.ocL = none ∧ s.lines.otL = false := by
  rw [State.lineL, State.startenL, State.lineOut_release, Bool.or_eq_false_iff, Option.isSome_eq_false_iff, Option.isNone_iff_eq_none]

theorem exec_startLineReadback {at_ : Nat} (hset : s.lines.setAt = some at_) :
    let hr := h && s.lineH
    let lr := l && s.lineL
    let u := ({ s with lines := { s.lines with setAt := none } }.setBit Reg.SL_STAT_HREL hr).setBit Reg.SL_STAT_LREL lr
    (s.after at_ 100 = true → hr = true ∧ lr = true → exec (.startLineReadback h l) s = .next u) ∧
    (s.after at_ 100 = true → hr = false ∨ lr = false → exec (.startLineReadback h l) s =
      .next (raise 0x0303 ((if hr then 0 else 1) + (if lr then 0 else 2)) u)) ∧
    (s.after at_ 100 = false → exec (.startLineReadback h l) s = .next s) := by
  intro hr lr u
  have hexec : exec (.startLineReadback h l) s = if s.after at_ 100 then
        .next (if hr && lr then u else raise 0x0303 ((if hr then 0 else 1) + (if lr then 0 else 2)) u)
      else .next s := by
    have hrun : exec (.startLineReadback h l) s = execStartLineReadback h l s := rfl
    rw [hrun, execStartLineReadback, hset]
  rw [hexec]
  refine ⟨fun hdue hboth => ?_, fun hdue hone => ?_, fun hearly => if_neg (ne_true_of_eq_false hearly)⟩
  · rw [if_pos hdue, if_pos (Bool.and_eq_true_iff.mpr hboth)]
  · rw [if_pos hdue, if_neg (ne_true_of_eq_false (Bool.and_eq_false_iff.mpr hone))]

theorem exec_startLineOvercurrent :
    (50 ≤ us → s.lineH = true → exec (.startLineOvercurrent true us) s = .next (raise 0x0303 1
      (({ s with lines := { s.lines with ocH := some s.now } }.setBit Reg.SL_STAT_OCH true).setBit Reg.SL_STAT_HREL false))) ∧
    (50 ≤ us → s.lineL = true → exec (.startLineOvercurrent false us) s = .next (raise 0x0303 2
      (({ s with lines := { s.lines with ocL := some s.now } }.setBit Reg.SL_STAT_OCL true).setBit Reg.SL_STAT_LREL false))) ∧
    (us < 50 ∨ s.lineH = false → exec (.startLineOvercurrent true us) s = .next s) := by
  have hrun : ∀ high, exec (.startLineOvercurrent high us) s = execStartLineOvercurrent high us s := fun _ => rfl
  rw [hrun, hrun]
  refine ⟨fun hlong hon => ?_, fun hlong hon => ?_, fun hnot => ?_⟩ <;> rw [execStartLineOvercurrent]
  · rw [if_neg (Nat.not_lt.mpr hlong), if_pos rfl, if_pos hon]
  · rw [if_neg (Nat.not_lt.mpr hlong), if_neg Bool.false_ne_true, if_pos hon]
  · obtain hshort | hoff := hnot
    · rw [if_pos hshort]
    · rw [if_pos rfl, if_neg (ne_true_of_eq_false hoff), ite_self]

theorem exec_startLineRetry_high {at_ : Nat} (hoc : s.lines.ocH = some at_) :
    (s.bit Reg.SL_STAT_LATCH = true → s.after at_ 100000 = true →
      exec (.startLineRetry true) s = .next ({ s with lines := { s.lines with ocH := none } }.setBit Reg.SL_STAT_HREL true)) ∧
    (s.bit Reg.SL_STAT_LATCH = false ∨ s.after at_ 100000 = false → exec (.startLineRetry true) s = .next s) := by
  have hrun : exec (.startLineRetry true) s = execStartLineRetry true s := rfl
  rw [hrun, execStartLineRetry, if_pos rfl, hoc]
  dsimp only
  refine ⟨fun hlatch hdue => ?_, fun hnot => if_neg fun hboth => ?_⟩
  · rw [if_pos ⟨hlatch, hdue⟩, if_pos rfl]
  · exact hnot.elim (fun h => Bool.false_ne_true (h.symm.trans hboth.1)) (fun h => Bool.false_ne_true (h.symm.trans hboth.2))

theorem exec_startLineOvertemp {c : Int} :
    (150 ≤ c → exec (.startLineOvertemp true c) s = .next (raise 0x0303 1
      (({ s with lines := { s.lines with otH := true } }.setBit Reg.SL_STAT_OCH true).setBit Reg.SL_STAT_HREL false)) ∧
    exec (.startLineOvertemp false c) s = .next (raise 0x0303 2
      (({ s with lines := { s.lines with otL := true } }.setBit Reg.SL_STAT_OCL true).setBit Reg.SL_STAT_LREL false))) ∧
    (c < 150 → ∀ b, exec (.startLineOvertemp b c) s = .next s) :=
  ⟨fun hhot => ⟨if_neg (not_lt.mpr hhot), if_neg (not_lt.mpr hhot)⟩, fun hcold _ => if_pos hcold⟩

/-- A cool driver of STARTEN_H clears its protection; its line is reported released where it is on again. -/
theorem exec_startLineCool_high {c : Int} (hcool : c ≤ 135) : exec (.startLineCool true c) s =
    .next (if s.lines.otH && ({ s with lines := { s.lines with otH := false } } : State).lineH then
      { s with lines := { s.lines with otH := false } }.setBit Reg.SL_STAT_HREL true else { s with lines := { s.lines with otH := false } }) :=
  if_neg (not_lt.mpr hcool)

theorem exec_startLineCool_low {c : Int} (hcool : c ≤ 135) : exec (.startLineCool false c) s =
    .next (if s.lines.otL && ({ s with lines := { s.lines with otL := false } } : State).lineL then
      { s with lines := { s.lines with otL := false } }.setBit Reg.SL_STAT_LREL true else { s with lines := { s.lines with otL := false } }) :=
  if_neg (not_lt.mpr hcool)

theorem exec_startLineCool_warm {b : Bool} {c : Int} (hwarm : 135 < c) : exec (.startLineCool b c) s = .next s := if_pos hwarm

theorem exec_startLineOpenLoad :
    (s.lineL = true → ua < 2000 → 10 ≤ ms → exec (.startLineOpenLoad ua ms) s = .next (raise 0x0304 0 (s.setBit Reg.SL_STAT_OPEN true))) ∧
    (s.lineL = false ∨ 2000 ≤ ua ∨ ms < 10 → exec (.startLineOpenLoad ua ms) s = .next s) := by
  refine ⟨fun hon hlow hlong => if_pos ⟨hon, hlow, hlong⟩, fun hnot => if_neg ?_⟩
  rintro ⟨hon, hlow, hlong⟩
  obtain hoff | hload := hnot
  · exact Bool.false_ne_true (hoff.symm.trans hon)
  · omega

theorem exec_startLineForced (hlatch : s.bit Reg.SL_STAT_LATCH = false) (hlong : 10 ≤ ms) :
    (3000 < mv → exec (.startLineForced true mv ms) s = .next (raise 0x0305 1 (s.setBit Reg.SL_STAT_FORCED true))) ∧
    (mv < 1000 → exec (.startLineForced false mv ms) s = .next (raise 0x0305 2 (s.setBit Reg.SL_STAT_FORCED true))) := by
  have hshort : ¬ms < 10 := Nat.not_lt.mpr hlong
  exact ⟨fun hhigh => if_neg (by simp [hlatch, hhigh, hlong]), fun hlow => if_neg (by simp [hlatch, hlow, hlong])⟩

theorem exec_startLineForced_kept {b : Bool} (h : s.bit Reg.SL_STAT_LATCH = true ∨ ms < 10) : exec (.startLineForced b mv ms) s = .next s :=
  if_pos (h.elim .inl fun hshort => .inr (.inl hshort))

/-! ### The latch (R417) -/

/-- Nothing but the lines' own state and the bits of SL_STAT that report it has changed. -/
def LinesOnly (s t : State) : Prop :=
  t.bit Reg.SL_STAT_LATCH = s.bit Reg.SL_STAT_LATCH ∧ t.pending = s.pending ∧ t.nv = s.nv ∧ t.queues = s.queues

theorem LinesOnly.refl (s : State) : LinesOnly s s := ⟨rfl, rfl, rfl, rfl⟩

theorem LinesOnly.lines (l : LinesSt) : LinesOnly s { s with lines := l } := ⟨rfl, rfl, rfl, rfl⟩

/-- Reporting a line released. -/
theorem LinesOnly.released (hw : regsWf t.regs = true) {f : Fld} (hf : f = Reg.SL_STAT_HREL ∨ f = Reg.SL_STAT_LREL) (ht : LinesOnly s t) :
    LinesOnly s (t.setBit f true) := by
  obtain ⟨hlatch, hpending, hnv, hqueues⟩ := ht
  refine ⟨?_, hpending, hnv, hqueues⟩
  rw [← hlatch]
  obtain rfl | rfl := hf <;> exact State.bit_setBit_apart true hw (by decide) (by decide) (by decide)

theorem startLineRetry_linesOnly {b : Bool} (hw : regsWf s.regs = true) (h : exec (.startLineRetry b) s = .next t) : LinesOnly s t := by
  have hrun : exec (.startLineRetry b) s = execStartLineRetry b s := rfl
  rw [hrun, execStartLineRetry] at h
  split at h
  · obtain rfl := Host.Outcome.next.inj h
    exact .refl s
  · split at h
    · split at h <;> obtain rfl := Host.Outcome.next.inj h
      · exact .released hw (.inl rfl) (.lines _)
      · exact .released hw (.inr rfl) (.lines _)
    · obtain rfl := Host.Outcome.next.inj h
      exact .refl s

theorem startLineCool_linesOnly {b : Bool} {c : Int} (hw : regsWf s.regs = true) (h : exec (.startLineCool b c) s = .next t) :
    LinesOnly s t := by
  obtain hwarm | hcool := lt_or_ge 135 c
  · rw [exec_startLineCool_warm hwarm] at h
    obtain rfl := Host.Outcome.next.inj h
    exact .refl s
  · cases b with
    | true =>
      rw [exec_startLineCool_high hcool] at h
      obtain rfl := Host.Outcome.next.inj h
      split
      · exact .released hw (.inl rfl) (.lines _)
      · exact .lines _
    | false =>
      rw [exec_startLineCool_low hcool] at h
      obtain rfl := Host.Outcome.next.inj h
      split
      · exact .released hw (.inr rfl) (.lines _)
      · exact .lines _

end StartLines

/-- Settles O52: when a line is on, then each command of the lines by its own guard; of the retries the frame around the lines. -/
theorem startLines : Obligations.StartLines := by
  unfold Obligations.StartLines
  refine ⟨fun s => ⟨s.lineH_iff, s.lineL_iff⟩, fun h l at_ s => exec_startLineReadback, fun us s => exec_startLineOvercurrent,
    fun at_ s => exec_startLineRetry_high, fun c s => exec_startLineOvertemp,
    fun c s => ⟨fun hcool => ⟨⟨_, exec_startLineCool_high hcool, ?high⟩, _, exec_startLineCool_low hcool, ?low⟩,
      fun hwarm b => exec_startLineCool_warm hwarm⟩,
    fun ua ms s => exec_startLineOpenLoad, fun mv ms s => exec_startLineForced, fun b mv ms s => exec_startLineForced_kept,
    fun b s t hw h => ?kept⟩
  case high => split <;> exact ⟨rfl, rfl⟩
  case low => split <;> exact ⟨rfl, rfl⟩
  case kept => exact h.elim (startLineRetry_linesOnly hw) fun ⟨c, hcool⟩ => startLineCool_linesOnly hw hcool

end Sys2Proof.Machine
end

section
/-! PROOFS. VBAT_FAIL and its end (R419, R420). -/

namespace Sys2Proof.Machine

section VbatFail

variable {vbat us : Nat} {s t : State}

/-! ### VBAT_FAIL asserts -/

/-- VBAT_FAIL counted and noted, before what the power state makes of it. -/
def failNoted (vbat : Nat) (s : State) : State :=
  ({ setVbat vbat s with powAon := { (setVbat vbat s).powAon with failing := true } }.count Reg.PWR_EVT_NFAIL 1).setBit Reg.PWR_EVT_VBATF true

/-- What VBAT_FAIL gives up while the unit runs. -/
def failGivesUp (u : State) : State :=
  storeFail (tagAbandon (ledgerFail (relevel (bankOff 1 (bankOff 0
    (airDrop .shed (fieldDrop .inhibit (sessionsDrop ((awake u).setBit Reg.PWR_STAT_VBATF true)))))))))

theorem exec_vbatFail (hlow : vbat < 4500) (hlong : 2 ≤ us) (hfail : s.powAon.failing = false) : exec (.vbatFail vbat us) s =
    match (generalizing := false) s.power.state with
    | .reset => .next (failNoted vbat s)
    | .sleep | .hibernate => .next ((failNoted vbat s).setBit Reg.PWR_STAT_VBATF true)
    | .on | .doze | .standby => .next (failGivesUp (failNoted vbat s)) := by
  have hrun : exec (.vbatFail vbat us) s = execVbatFail vbat us s := rfl
  have hguard : ¬(4500 ≤ vbat ∨ us < 2 ∨ s.powAon.failing = true) := by simp [hfail, hlow, Nat.lt_of_succ_le hlong]
  rw [hrun, execVbatFail, if_neg hguard]
  rfl

theorem exec_vbatFail_kept (h : 4500 ≤ vbat ∨ us < 2 ∨ s.powAon.failing = true) : exec (.vbatFail vbat us) s = .next (setVbat vbat s) :=
  if_pos h

/-- The coupled exchanges that wait for a bank are gone. -/
def coupledDropped (b : Nat) (s : State) : State :=
  s.setQueue (.bank b) { s.queue (.bank b) with items := (s.queue (.bank b)).items.filter (fun i => !i.isCoupled) }

theorem coupledDropped_queue (b : Nat) (h : s.queues.length = 23) :
    ((coupledDropped b s).queue (.bank b)).items = (s.queue (.bank b)).items.filter (fun i => !i.isCoupled) := by
  rw [coupledDropped, State.queue_setQueue h]

/-- The sessions, their runs, their ranging and their keys are gone. -/
def sessionsEnded (s : State) : State := volSweep { s with ses := { s.ses with ss := [], runs := [] }, fox := { s.fox with pair := [] } }

theorem sessionsDrop_eq (s : State) : sessionsDrop s = coupledDropped 1 (coupledDropped 0 (sessionsEnded s)) := rfl

theorem sessionsDrop_ended (s : State) :
    (sessionsDrop s).ses.ss = [] ∧ (sessionsDrop s).ses.runs = [] ∧ (sessionsDrop s).fox.pair = [] ∧ (sessionsDrop s).regs = s.regs ∧
    (s.queues.length = 23 → ∀ i ∈ ((sessionsDrop s).queue (.bank 0)).items ++ ((sessionsDrop s).queue (.bank 1)).items, i.isCoupled = false) := by
  refine ⟨rfl, rfl, rfl, rfl, fun hlen i hi => ?_⟩
  have hended : (sessionsEnded s).queues.length = 23 := hlen
  have hdropped : (coupledDropped 0 (sessionsEnded s)).queues.length = 23 := State.setQueue_queues_length.trans hended
  have hother : (sessionsDrop s).queue (.bank 0) = (coupledDropped 0 (sessionsEnded s)).queue (.bank 0) :=
    State.queue_setQueue_other _ (by decide)
  rw [hother, sessionsDrop_eq, coupledDropped_queue 0 hended, coupledDropped_queue 1 hdropped, List.mem_append] at hi
  obtain hzero | hone := hi
  · simpa using (List.mem_filter.mp hzero).2
  · simpa using (List.mem_filter.mp hone).2

theorem boostCheck_domOn (d : Dom) (hw : regsWf s.regs = true) : (boostCheck s).domOn d = s.domOn d := by
  rw [State.domOn, State.bitAt, boostCheck_get hw (by decide) (by decide), State.domOn, State.bitAt]

theorem bankOff_domOn (b : Nat) (hw : regsWf s.regs = true) : (bankOff b s).domOn (bankDom b) = false := by
  rw [bankOff, boostCheck_domOn _ (State.regsWf_setDom _ _ hw), State.domOn_setDom_off _ _ hw, decide_eq_false (not_not.mpr rfl), Bool.false_and]

/-- The store stops, whatever its program was for. -/
theorem storeFail_stopped (s : State) : (storeFail s).rmc.stopped = true ∧ (storeFail s).rmc.cur = none := by
  unfold storeFail
  refine ⟨rfl, ?_⟩
  extract_lets _ cut marked _
  have hcut : cut.rmc.cur = none := by
    unfold cut
    split
    · assumption
    · split <;> rfl
  have hmarked : marked.rmc.cur = cut.rmc.cur := by
    unfold marked
    split
    · split <;> rfl
    · rfl
  exact hmarked.trans hcut

/-! ### VBAT_FAIL ends -/

/-- VBAT as measured, with the comparator released. -/
def failReleased (vbat : Nat) (s : State) : State :=
  { setVbat vbat s with powAon := { (setVbat vbat s).powAon with failing := false, inheritedFail := false } }

theorem exec_vbatFailDeassert (hhigh : 5000 ≤ vbat) (hlong : 1000 ≤ us) (hfail : s.powAon.failing = true) :
    let t := failReleased vbat s
    let v := t.setBit Reg.PWR_STAT_VBATF false
    exec (.vbatFailDeassert vbat us) s =
      match (generalizing := false) s.power.state with
      | .reset => .next t
      | .sleep | .hibernate => .next (latchWake 9 (raise 0x0402 vbat (v.setBit Reg.PWR_EVT_RECOV true)))
      | .on | .doze | .standby =>
        if s.powAon.inheritedFail then
          .next (relevel (if v.isHead ∧ v.bit Reg.PWR_BOOT_STAT_DONE ∧ v.led.opened = false then ledgerAccept v else v))
        else .next (storeRecover (raise 0x0402 vbat ((relevel (ledgerReopen v)).setBit Reg.PWR_EVT_RECOV true))) := by
  intro t v
  have hrun : exec (.vbatFailDeassert vbat us) s = execVbatFailDeassert vbat us s := rfl
  have hguard : ¬(vbat < 5000 ∨ us < 1000 ∨ s.powAon.failing = false) := by simp [hfail, hhigh, hlong]
  rw [hrun, execVbatFailDeassert, if_neg hguard]
  rfl

theorem exec_vbatFailDeassert_kept (h : vbat < 5000 ∨ us < 1000 ∨ s.powAon.failing = false) : exec (.vbatFailDeassert vbat us) s = .next s :=
  if_pos h

/-! ### VBAT as measured -/

theorem setVbat_get {f : Fld} (hw : regsWf s.regs = true) (hf : f.lo + f.width ≤ 32)
    (hfb : f.reg ≠ Reg.LF_STAT ∨ 31 ≤ f.lo ∨ f.lo + f.width ≤ 30) : (setVbat vbat s).get f = (vbatShown vbat s).get f :=
  boostCheck_get (vbatShown_regsWf vbat hw) hf hfb

theorem setVbat_shown (hw : regsWf s.regs = true) : (setVbat vbat s).bit Reg.PWR_STAT_OVR = decide (36000 < vbat) ∧
    (setVbat vbat s).get Reg.PWR_STAT_VBAT = min (vbat / 250) 255 ∧
    (setVbat vbat s).bit Reg.SL_STAT_LATCH = s.bit Reg.SL_STAT_LATCH ∧ (setVbat vbat s).powAon.vbat = vbat := by
  have hput : regsWf ({ s with powAon := { s.powAon with vbat := vbat } }.put Reg.PWR_STAT_VBAT (min (vbat / 250) 255)).regs = true :=
    State.regsWf_put _ _ _ hw
  refine ⟨?_, ?_, ?_, setVbat_vbat vbat s⟩
  · rw [State.bit_of_get (setVbat_get hw (by decide) (by decide))]
    exact State.bit_setBit_same _ hput (by decide) rfl
  · rw [setVbat_get hw (by decide) (by decide), vbatShown, State.get_setBit_apart hput (by decide) (by decide) (by decide)]
    exact (State.get_put_same _ Reg.PWR_STAT_VBAT _ hw (by decide)).trans (Nat.mod_eq_of_lt (Nat.lt_succ_of_le (Nat.min_le_right _ _)))
  · rw [State.bit_of_get (setVbat_get hw (by decide) (by decide)), State.bit_of_get (State.get_of_rd (vbatShown_rd hw (by decide)))]

end VbatFail

/-- Settles O53: the assertion and the end of VBAT_FAIL by the power state, and what giving up leaves of the sessions, banks and store. -/
theorem vbatFailAndReturn : Obligations.VbatFailAndReturn := by
  unfold Obligations.VbatFailAndReturn
  refine ⟨fun vbat us s hlow hlong hfail => ?asserted, fun vbat us s => exec_vbatFail_kept, sessionsDrop_ended, fun b s => bankOff_domOn b,
    storeFail_stopped, fun vbat us s hhigh hlong hfail => ?ended, fun vbat us s => exec_vbatFailDeassert_kept, fun vbat s => setVbat_shown⟩
  case asserted =>
    intro t u
    have hexec := exec_vbatFail hlow hlong hfail
    refine ⟨fun hruns => ?_, fun hasleep => ?_, fun hreset => ?_⟩ <;> rw [hexec]
    · obtain h | h | h := State.state_of_runs hruns <;> rw [h] <;> rfl
    · obtain h | h := hasleep <;> rw [h] <;> rfl
    · rw [hreset]
      rfl
  case ended =>
    intro t v
    have hexec := exec_vbatFailDeassert hhigh hlong hfail
    refine ⟨fun hruns hnew => ?_, fun hruns hinherited => ?_, fun hasleep => ?_, fun hreset => ?_⟩ <;> rw [hexec]
    · obtain h | h | h := State.state_of_runs hruns <;> rw [h] <;> exact if_neg (ne_true_of_eq_false hnew)
    · obtain h | h | h := State.state_of_runs hruns <;> rw [h] <;> exact if_pos hinherited
    · obtain h | h := hasleep <;> rw [h] <;> rfl
    · rw [hreset]
      rfl

end Sys2Proof.Machine
end

section
/-! PROOFS. Supplies out of range and domains without supply (R419, R421 to R423). -/

namespace Sys2Proof.Machine

section Supplies

variable {vbat ms vsys us lim v : Nat} {s : State}

theorem exec_vbatOvervoltage (hrated : vbat ≤ 40000 ∨ vbat ≤ 58000 ∧ ms ≤ 400) :
    (36000 < vbat → s.bit Reg.PWR_STAT_OVR = false → exec (.vbatOvervoltage vbat ms) s =
      .next (fieldStop .inhibit (lfInhibit ((raise 0x0401 vbat (setVbat vbat s)).setBit Reg.PWR_EVT_OV true)))) ∧
    (vbat ≤ 36000 ∨ s.bit Reg.PWR_STAT_OVR = true → exec (.vbatOvervoltage vbat ms) s = .next (setVbat vbat s)) := by
  have hrun : exec (.vbatOvervoltage vbat ms) s = execVbatOvervoltage vbat ms s := rfl
  rw [hrun, execVbatOvervoltage, if_neg (by omega)]
  refine ⟨fun hover hnew => if_pos ⟨hover, hnew⟩, fun hnot => if_neg fun hboth => ?_⟩
  obtain hlow | hold := hnot
  · omega
  · exact Bool.false_ne_true (hboth.2.symm.trans hold)

theorem exec_vsysOutOfRange :
    let t := { s with powAon := { s.powAon with vsys := vsys } }
    (2900 < vsys → (vsys < 3100 ∨ 3500 < vsys) ∧ 100 ≤ us ∨ 1000 ≤ lim → s.powAon.failing = false → s.bit Reg.PWR_STAT_OVR = false →
      exec (.vsysOutOfRange vsys us lim) s = .next ((raise 0x0404 vsys t).setBit Reg.PWR_EVT_BUCK true)) ∧
    (2900 < vsys → (3100 ≤ vsys ∧ vsys ≤ 3500 ∨ us < 100) ∧ lim < 1000 ∨ s.powAon.failing = true ∨ s.bit Reg.PWR_STAT_OVR = true →
      exec (.vsysOutOfRange vsys us lim) s = .next t) ∧
    (vsys ≤ 2900 → exec (.vsysOutOfRange vsys us lim) s = .next (vsysReset t)) := by
  intro t
  have hrun : exec (.vsysOutOfRange vsys us lim) s = execVsysOutOfRange vsys us lim s := rfl
  rw [hrun, execVsysOutOfRange]
  refine ⟨fun hhigh hout hfail hovr => ?_, fun hhigh hnot => ?_, fun hlow => if_pos hlow⟩ <;> rw [if_neg (Nat.not_le.mpr hhigh)]
  · exact if_pos ⟨hout, hfail, hovr⟩
  · refine if_neg ?_
    rintro ⟨hout, hfail, hovr⟩
    obtain hin | hfails | hover := hnot
    · omega
    · exact Bool.false_ne_true (hfail.symm.trans hfails)
    · exact Bool.false_ne_true (hovr.symm.trans hover)

theorem exec_vbkpSample (hbkp : s.bit Reg.PWR_STAT_BKP = false) (hdue : s.after s.powAon.vbkpAt 60000000 = true) :
    let t := enterSamples [(v : Int)] { s with powAon := { s.powAon with vbkpAt := s.now } }
    let t := (t.put Reg.PWR_STAT_VBKP (min (v / 20) 255)).setBit Reg.PWR_STAT_VBKPLO (decide (v < 2200))
    (s.refBad = false → v < 2200 → s.powAon.vbkpArmed = true → exec (.vbkpSample v) s =
      .next ((raise 0x0403 v { t with powAon := { t.powAon with vbkpArmed := false } }).setBit Reg.PWR_EVT_VBKPLO true)) ∧
    (s.refBad = false → v < 2300 → 2200 ≤ v ∨ s.powAon.vbkpArmed = false → exec (.vbkpSample v) s = .next t) ∧
    (s.refBad = false → 2300 ≤ v → exec (.vbkpSample v) s = .next { t with powAon := { t.powAon with vbkpArmed := true } }) ∧
    (s.refBad = true → exec (.vbkpSample v) s = .next (recomputes .aon s)) := by
  intro _ t
  have hrun : exec (.vbkpSample v) s = execVbkpSample v s := rfl
  rw [hrun, execVbkpSample, if_neg (by simp [hbkp, hdue])]
  refine ⟨fun hok hlow harmed => ?_, fun hok hbelow hnot => ?_, fun hok hhigh => ?_, fun hbad => if_pos hbad⟩
  all_goals rw [if_neg (ne_true_of_eq_false hok)]
  · exact if_pos ⟨hlow, harmed⟩
  · refine (if_neg fun hboth => ?_).trans (if_neg (Nat.not_le.mpr hbelow))
    exact hnot.elim (fun hhigh => absurd hboth.1 (Nat.not_lt.mpr hhigh)) fun hnoted => Bool.false_ne_true (hnoted.symm.trans hboth.2)
  · exact (if_neg fun hboth => by omega).trans (if_pos hhigh)

theorem exec_domainPowerFail {d : Dom} (hd : d ≠ .aon) (hon : s.domOn d = true) (hlong : 2 * d.onTime ≤ us) :
    let t := boostCheck ((domainLost d s).setDom d false)
    let t := { t with outs := { t.outs with fabric := some (.off, []) } }
    exec (.domainPowerFail d us) s = .next (raise 0x0405 d.bit (t.setBitAt Reg.PWR_DOM_FAIL d.bit)) :=
  if_neg (not_or.mpr ⟨hd, not_or.mpr ⟨by simp [hon], Nat.not_lt.mpr hlong⟩⟩)

end Supplies

/-- Settles O54: each supply's command by its thresholds. -/
theorem supplyLimits : Obligations.SupplyLimits := by
  unfold Obligations.SupplyLimits
  refine ⟨fun vbat ms s => exec_vbatOvervoltage, fun vbat ms s hbeyond => if_pos hbeyond, fun vsys us lim s => exec_vsysOutOfRange,
    fun v s => exec_vbkpSample, fun v s hnot => if_pos hnot, fun d us s => exec_domainPowerFail, fun d us s hnot => if_pos hnot,
    rfl, rfl, rfl, rfl, by decide⟩

end Sys2Proof.Machine
end

section
/-! PROOFS. Performance levels and power states (R425, R426, R428 to R430). -/

namespace Sys2Proof.Machine

section Levels

variable {l n : Nat} {trim : Int} {env : BootEnv} {s t : State}

/-! ### The level in force (R426) -/

/-- The least of a list and a bound is at most each of them. -/
theorem listMin_le (xs : List Nat) : ∀ top : Nat, listMin xs top ≤ top ∧ ∀ x ∈ xs, listMin xs top ≤ x := by
  induction xs with
  | nil => exact fun top => ⟨le_refl top, fun x hx => absurd hx List.not_mem_nil⟩
  | cons y xs ih =>
    intro top
    obtain ⟨htop, hmem⟩ := ih (min top y)
    have hcons : listMin (y :: xs) top = listMin xs (min top y) := rfl
    rw [hcons]
    refine ⟨htop.trans (Nat.min_le_left _ _), fun x hx => ?_⟩
    obtain rfl | hx := List.mem_cons.mp hx
    · exact htop.trans (Nat.min_le_right _ _)
    · exact hmem x hx

theorem State.levelFor_vbatFail (h : s.bit Reg.PWR_STAT_VBATF = true) : s.levelFor = 0 := if_pos h

theorem State.levelFor_le (s : State) : s.levelFor ≤ s.profileLevel ∧ s.hh.caps.all (fun c => decide (s.levelFor ≤ c.2)) = true := by
  unfold State.levelFor
  split
  · exact ⟨Nat.zero_le _, List.all_eq_true.mpr fun c _ => decide_eq_true (Nat.zero_le _)⟩
  · obtain ⟨hprofile, hcaps⟩ := listMin_le (s.hh.caps.map (·.2)) s.profileLevel
    exact ⟨hprofile, List.all_eq_true.mpr fun c hc => decide_eq_true (hcaps c.2 (List.mem_map_of_mem hc))⟩

theorem runLevel_changed (hchange : s.get Reg.PWR_PL_CUR ≠ l) (hw : regsWf s.regs = true) (hl : l < 4) :
    (runLevel l s).get Reg.PWR_PL_CUR = l ∧ (runLevel l s).bit Reg.PWR_PL_CHG = true := by
  have hput : regsWf (s.put Reg.PWR_PL_CUR l).regs = true := State.regsWf_put _ _ _ hw
  rw [runLevel, if_neg hchange]
  refine ⟨?_, State.bit_setBit_same true hput (by decide) rfl⟩
  rw [State.get_setBit_apart hput (by decide) (by decide) (by decide), State.get_put_same _ _ _ hw (by decide)]
  exact Nat.mod_eq_of_lt hl

theorem runLevel_power (l : Nat) (s : State) : (runLevel l s).power = s.power := by
  obtain ⟨_, _, h⟩ := runLevel_eq l s
  rw [h]

/-! ### Changes of level (R425, R426) -/

theorem exec_plChange (hruns : s.runs = true) (hramp : s.power.ramp = none) (htrial : s.hh.trial = none) :
    let t := { relevel s with power := { (relevel s).power with ramp := some s.levelFor, plAt := s.now, plFrom := s.get Reg.PWR_PL_CUR } }
    (s.levelFor = s.get Reg.PWR_PL_CUR → exec .plChange s = .next (relevel s)) ∧
    (s.levelFor < s.get Reg.PWR_PL_CUR → exec .plChange s = .next (runLevel s.levelFor t)) ∧
    (s.get Reg.PWR_PL_CUR < s.levelFor → exec .plChange s = .next t) := by
  intro t
  have hexec : exec .plChange s = if s.levelFor = s.get Reg.PWR_PL_CUR then .next (relevel s)
      else .next (if s.levelFor < s.get Reg.PWR_PL_CUR then runLevel s.levelFor t else t) := by
    have hrun : exec .plChange s = execPlChange s := rfl
    rw [hrun, execPlChange, if_neg (by simp [hruns]), hramp, htrial]
    simp only [Option.isSome_none, Bool.false_eq_true, false_or]
    rfl
  rw [hexec]
  refine ⟨fun hsame => if_pos hsame, fun hdown => ?_, fun hup => ?_⟩
  · rw [if_neg (Nat.ne_of_lt hdown), if_pos hdown]
  · rw [if_neg (Nat.ne_of_gt hup), if_neg (Nat.not_lt.mpr hup.le)]

theorem exec_plChange_waits (hruns : s.runs = true) (hbusy : s.power.ramp.isSome = true ∨ s.hh.trial.isSome = true) :
    exec .plChange s = .next (relevel s) := by
  have hrun : exec .plChange s = execPlChange s := rfl
  rw [hrun, execPlChange, if_neg (by simp [hruns]), if_pos (hbusy.elim .inl fun h => .inr (.inl h))]

theorem exec_plChangeDone (hramp : s.power.ramp = some l) :
    let t := runLevel l (setTrim l trim { s with power := { s.power with ramp := none } })
    (s.after s.power.plAt (rampTime s.power.plFrom l) = true → t.levelFor = l →
      exec (.plChangeDone trim) s = .next ((relevel t).setBit Reg.PWR_PL_BUSY false)) ∧
    (s.after s.power.plAt (rampTime s.power.plFrom l) = true → t.levelFor ≠ l →
      ∃ u, exec (.plChangeDone trim) s = .next u ∧ u.power.ramp = some t.levelFor) ∧
    (s.after s.power.plAt (rampTime s.power.plFrom l) = false → exec (.plChangeDone trim) s = .next s) := by
  intro t
  have hrun : exec (.plChangeDone trim) s = execPlChangeDone trim s := rfl
  rw [hrun, execPlChangeDone, hramp]
  dsimp only
  refine ⟨fun hdue hsame => ?_, fun hdue hother => ?_, fun hearly => if_pos hearly⟩
  · rw [if_neg (by simp [hdue])]
    exact if_pos hsame
  · rw [if_neg (by simp [hdue]), if_neg hother]
    refine ⟨_, rfl, ?_⟩
    split
    · rw [runLevel_power]
    · rfl

theorem exec_processTrim (hruns : s.runs = true) (hramp : s.power.ramp = none) :
    (s.after s.power.trimAt 1000000 = true → exec (.processTrim trim) s = .next (setTrim (s.get Reg.PWR_PL_CUR) trim s)) ∧
    (s.after s.power.trimAt 1000000 = false → exec (.processTrim trim) s = .next s) :=
  ⟨fun hdue => if_pos ⟨hruns, by simp [hramp], hdue⟩, fun hearly => if_neg fun h => Bool.false_ne_true (hearly.symm.trans h.2.2)⟩

theorem clampInt_thirty (trim : Int) : -30 ≤ clampInt (-30) 30 trim ∧ clampInt (-30) 30 trim ≤ 30 := by
  unfold clampInt
  omega

/-! ### DOZE and STANDBY (R428) -/

theorem exec_dozeEntry (hon : s.power.state = .on) :
    (s.idle = true → s.after s.power.activeAt 50 = true → s.powAon.wakes = [] → exec .dozeEntry s = .next { s with power := { s.power with state := .doze } }) ∧
    (s.idle = false ∨ s.after s.power.activeAt 50 = false ∨ s.powAon.wakes ≠ [] → exec .dozeEntry s = .next s) := by
  have hrun : exec .dozeEntry s = execDozeEntry s := rfl
  rw [hrun, execDozeEntry, hon]
  refine ⟨fun hidle hlong hwakes => if_pos ⟨hidle, hlong, hwakes⟩, fun hnot => if_neg ?_⟩
  rintro ⟨hidle, hlong, hwakes⟩
  obtain h | h | h := hnot
  · exact Bool.false_ne_true (h.symm.trans hidle)
  · exact Bool.false_ne_true (h.symm.trans hlong)
  · exact h hwakes

theorem exec_standbyEntry (hdoze : s.power.state = .doze) :
    (s.timerDue = false → s.pollDue = false → s.wmDue = false → s.searchDue = false → s.powAon.wakes = [] →
      exec .standbyEntry s = .next { s with power := { s.power with state := .standby } }) ∧
    (s.timerDue = true ∨ s.pollDue = true ∨ s.wmDue = true ∨ s.searchDue = true ∨ s.powAon.wakes ≠ [] → exec .standbyEntry s = .next s) := by
  have hrun : exec .standbyEntry s = execStandbyEntry s := rfl
  rw [hrun, execStandbyEntry, hdoze]
  exact ⟨fun htimer hpoll hwm hsearch hwakes => if_neg (by simp [htimer, hpoll, hwm, hsearch, hwakes]), fun hdue => if_pos hdue⟩

theorem awake_state (h : s.power.state = .doze ∨ s.power.state = .standby) : (awake s).power.state = .on ∧ (awake s).power.activeAt = s.now := by
  unfold awake
  obtain h | h := h <;> rw [h] <;> exact ⟨rfl, rfl⟩

/-! ### Waking (R428 to R430) -/

theorem exec_wakeEvent (hsleep : s.power.state = .sleep) (hwakes : s.powAon.wakes ≠ []) :
    (s.powAon.failing = true → exec (.wakeEvent env) s = .next (s.put Reg.PWR_DOM_ON (if s.tag.field then 0xF07 else 0x707))) ∧
    (s.powAon.failing = false →
      let t := fullWake (wakeUp (listMin s.powAon.wakes 15) env s)
      let u := if t.isHead then settSend 0x0D true 1 .p1 (be 1 t.profile) { t with sett := { t.sett with profAt := s.now } } else t
      exec (.wakeEvent env) s = .next (fireHeld (evalProfile true u))) := by
  have hrun : exec (.wakeEvent env) s = execWakeEvent env s := rfl
  rw [hrun, execWakeEvent, hsleep]
  refine ⟨fun hfail => (if_neg hwakes).trans (if_pos hfail), fun hok => ?_⟩
  intro t u
  exact (if_neg hwakes).trans (if_neg (ne_true_of_eq_false hok))

theorem exec_internalWake {at_ : Nat} (hsleep : s.power.state = .sleep) (htimer : s.powAon.wakeTimer = some at_) :
    (at_ ≤ s.now → s.powAon.failing = false → s.powAon.wakes = [] → exec (.internalWake env) s = .next (wakeUp 8 env s)) ∧
    (s.now < at_ → exec (.internalWake env) s = .next s) := by
  have hrun : exec (.internalWake env) s = execInternalWake env s := rfl
  rw [hrun, execInternalWake, hsleep, htimer]
  exact ⟨fun hdue hok hwakes => if_pos ⟨hdue, hok, hwakes⟩, fun hearly => if_neg fun h => absurd h.1 (Nat.not_le.mpr hearly)⟩

theorem exec_wake_notAsleep (h : s.power.state ≠ .sleep) : exec (.wakeEvent env) s = .next s ∧ exec (.internalWake env) s = .next s := by
  have hwake : exec (.wakeEvent env) s = execWakeEvent env s := rfl
  have hinternal : exec (.internalWake env) s = execInternalWake env s := rfl
  rw [hwake, hinternal, execWakeEvent, execInternalWake]
  constructor
  · split
    next hsleep => exact absurd hsleep h
    all_goals rfl
  · split
    next hsleep _ => exact absurd hsleep h
    · rfl

end Levels

/-- Settles O55: the level in force and its changes, then each power state's entry and wake by its guard. -/
theorem levelsAndPowerStates : Obligations.LevelsAndPowerStates := by
  unfold Obligations.LevelsAndPowerStates
  exact ⟨fun s => State.levelFor_vbatFail, State.levelFor_le, fun l s => runLevel_changed, fun s => exec_plChange, fun s => exec_plChange_waits,
    fun s hstopped => if_pos hstopped, fun l trim s => exec_plChangeDone, ⟨rfl, rfl⟩, fun trim s => exec_processTrim, clampInt_thirty,
    fun s => exec_dozeEntry, fun s => exec_standbyEntry, fun s => awake_state, fun env s => exec_wakeEvent, fun env at_ s => exec_internalWake,
    fun env s => exec_wake_notAsleep⟩

end Sys2Proof.Machine
end

section
/-! PROOFS. The end of a trial below its margin (R438): the level running stays in a canonical register map, and not in every state of the
model. -/

namespace Sys2Proof.Machine

/-- The margins shown and the trial over, before its outcome. -/
def trialOver (ms : List Int) (s : State) : State :=
  { (pmonRegs ms s) with hh := { s.hh with trialAt := some s.now, trial := none } }

/-- With a canonical register map a trial that misses its margin lifts no cap and leaves PWR_PL.CUR. -/
theorem trialEnd_low {ms : List Int} {cap : Nat} {s : State} (hw : regsWf s.regs = true)
    (hlow : median2 ((s.monitors ms).map (·.2)) < 48) :
    (trialEnd cap ms s).hh.caps = s.hh.caps ∧ (trialEnd cap ms s).get Reg.PWR_PL_CUR = s.get Reg.PWR_PL_CUR := by
  have hover : regsWf (trialOver ms s).regs = true := State.regsWf_put _ _ _ hw
  have hshown : (trialOver ms s).get Reg.PWR_PL_CUR = s.get Reg.PWR_PL_CUR :=
    State.get_put_apart s Reg.SUP_PMON_V _ _ hw (by decide) (by decide) (by decide)
  rw [trialEnd, if_pos hlow]
  refine ⟨rfl, ?_⟩
  calc (((trialOver ms s).setBit Reg.PWR_PL_BUSY false).put Reg.PWR_PL_VCORE _).get Reg.PWR_PL_CUR
    _ = ((trialOver ms s).setBit Reg.PWR_PL_BUSY false).get Reg.PWR_PL_CUR :=
      State.get_put_apart _ _ _ _ (State.regsWf_setBit _ _ hover) (by decide) (by decide) (by decide)
    _ = (trialOver ms s).get Reg.PWR_PL_CUR := State.get_setBit_apart hover (by decide) (by decide) (by decide)
    _ = s.get Reg.PWR_PL_CUR := hshown

/-- A unit whose register map is out of order: PWR_PL, with CUR 1, is listed behind SUP_PMON and reads 0 as long as SUP_PMON is not 0. -/
def levelHidden : State := { onState with regs := [(Reg.SUP_PMON, 1), (Reg.PWR_PL, 0x01000000)] }

/-- Margins of 0 are a missed trial; SUP_PMON, now 0, is no longer listed, and PWR_PL reads CUR 1. -/
theorem levelHidden_shown : median2 ((levelHidden.monitors []).map (·.2)) < 48 ∧ levelHidden.get Reg.PWR_PL_CUR = 0 ∧
    (trialEnd 0 [] levelHidden).get Reg.PWR_PL_CUR = 1 := by decide +kernel

/-- Refutes O56: the clause on a trial's end asks nothing of the register map. In `levelHidden`, whose map is not in ascending order, writing SUP_PMON
uncovers PWR_PL, and CUR reads 1 after 0. For canonical maps, the only ones a run reaches, the clause holds (`trialEnd_low`). -/
theorem not_monitors : ¬ Obligations.Monitors := by
  rintro ⟨-, -, -, -, -, -, -, -, -, -, -, -, -, -, -, -, -, htrial⟩
  obtain ⟨hlow, hbefore, hafter⟩ := levelHidden_shown
  have hkept := ((htrial [] 0 levelHidden).1 hlow).2
  rw [hafter, hbefore] at hkept
  exact absurd hkept (by decide)

end Sys2Proof.Machine
end

section
/-! PROOFS. Isolation, restarts and fault reports (R432, R439 to R443). -/

namespace Sys2Proof.Machine

section Blocks

variable {b : Block} {i : IsoBlk} {code : Nat} {s : State}

/-! ### A block's reset (R439) -/

theorem exec_blockReset (hiso : s.hh.iso.find? (fun i => i.block == b) = some i) :
    (i.isolated = true → i.forGood = false → i.resetting = none → s.after i.at_ 20000 = true →
      exec (.blockReset b) s = .next { blockClear b s with
        hh := { (blockClear b s).hh with iso := { i with resetting := some s.now } :: (blockClear b s).hh.iso.filter (fun x => x.block != b) } }) ∧
    (i.isolated = false ∨ i.forGood = true ∨ i.resetting.isSome = true ∨ s.after i.at_ 20000 = false → exec (.blockReset b) s = .next s) := by
  have hrun : exec (.blockReset b) s = execBlockReset b s := rfl
  rw [hrun, execBlockReset, hiso]
  refine ⟨fun hshut hreset hidle hdue => if_pos ⟨hshut, hreset, by simp [hidle], hdue⟩, fun hnot => if_neg ?_⟩
  rintro ⟨hshut, hreset, hidle, hdue⟩
  obtain h | h | h | h := hnot
  · exact Bool.false_ne_true (h.symm.trans hshut)
  · exact Bool.false_ne_true (hreset.symm.trans h)
  · exact absurd h (by simpa using hidle)
  · exact Bool.false_ne_true (h.symm.trans hdue)

theorem outageEnd_hh (s : State) : (outageEnd s).hh = s.hh := by
  unfold outageEnd
  split
  · rfl
  · dsimp only
    split <;> rfl

/-- A block whose one entry is no longer isolated is served again. -/
theorem not_isIsolated_of_iso {t : State} {x : IsoBlk} {rest : List IsoBlk} (hiso : t.hh.iso = x :: rest.filter (fun y => y.block != b))
    (hx : x.isolated = false) : t.isIsolated b = false := by
  rw [State.isIsolated, hiso, List.any_cons, hx, Bool.and_false, Bool.false_or, List.any_eq_false]
  intro y hy
  have hother : y.block ≠ b := by simpa using (List.mem_filter.mp hy).2
  simp [hother]

theorem exec_blockResetDone {at_ : Nat} (hiso : s.hh.iso.find? (fun i => i.block == b) = some i) (hreset : i.resetting = some at_) :
    (s.after at_ 1000 = true → ∃ t, exec (.blockResetDone b) s = .next t ∧ t.isIsolated b = false) ∧
    (s.after at_ 1000 = false → exec (.blockResetDone b) s = .next s) := by
  have hrun : exec (.blockResetDone b) s = execBlockResetDone b s := rfl
  rw [hrun, execBlockResetDone, hiso]
  dsimp only
  rw [hreset]
  dsimp only
  refine ⟨fun hdue => ?_, fun hearly => if_pos hearly⟩
  rw [if_neg (by simp [hdue])]
  split
  · exact ⟨_, rfl, not_isIsolated_of_iso (congrArg HhSt.iso (outageEnd_hh _)) rfl⟩
  · exact ⟨_, rfl, not_isIsolated_of_iso rfl rfl⟩

theorem exec_blockReset_unknown (hiso : s.hh.iso.find? (fun i => i.block == b) = none) :
    exec (.blockReset b) s = .next s ∧ exec (.blockResetDone b) s = .next s := by
  have hreset : exec (.blockReset b) s = execBlockReset b s := rfl
  have hdone : exec (.blockResetDone b) s = execBlockResetDone b s := rfl
  rw [hreset, hdone, execBlockReset, execBlockResetDone, hiso]
  exact ⟨rfl, rfl⟩

/-! ### Isolation (R18, R439) -/

theorem requestRestart_iso (code : Nat) (s : State) : (requestRestart code s).hh.iso = s.hh.iso := by
  unfold requestRestart
  split
  · rfl
  · split <;> rfl

theorem clearQueues_hh (qs : List QueueId) : ∀ s : State, (clearQueues qs s).hh = s.hh := by
  induction qs with
  | nil => exact fun _ => rfl
  | cons q qs ih => exact fun s => ih (clearQueue q s)

theorem laneWaitersFault_now (n : Nat) (s : State) : (laneWaitersFault n s).now = s.now := by
  unfold laneWaitersFault
  split <;> rfl

/-- The block reported within 60 s of its last reset. -/
def State.resetLately (s : State) (b : Block) : Bool :=
  s.hh.iso.any (fun i => i.block == b && (i.resetAt.any (fun t => s.within t 60000000)))

/-- A block that is isolated anew heads the list, for good where it was reset less than 60 s ago. -/
theorem isolate_iso (hregion : 2 ≤ b.region) (hb : b ≠ .entropy) (hfree : s.isIsolated b = false) : (isolate b code s).hh.iso =
    ⟨b, code, s.now, none, true, none, s.resetLately b⟩ :: s.hh.iso.filter (fun i => i.block != b) := by
  have hguard : ¬(b.region < 2 ∨ b = .entropy ∨ s.isIsolated b = true) := by simp [hb, hfree, Nat.lt_of_succ_le hregion]
  rw [isolate, if_neg hguard]
  extract_lets again rest waited _ cleared from_ _ outage
  have hagain : again = s.resetLately b := by
    refine congrArg (s.hh.iso.any ·) (funext fun i => ?_)
    cases i.resetAt with
    | none => rw [Option.any_none]
    | some t => rw [Option.any_some]
  have hwaited : waited.now = s.now := by
    unfold waited
    split
    · exact laneWaitersFault_now 0 s
    · split
      · exact laneWaitersFault_now 1 s
      · rfl
  have hcleared : outage.hh.iso = ⟨b, code, s.now, none, true, none, s.resetLately b⟩ :: rest := by
    rw [← hwaited, ← hagain]
    exact congrArg HhSt.iso (clearQueues_hh _ _)
  split
  · exact (requestRestart_iso code outage).trans hcleared
  · exact hcleared

theorem isolate_isIsolated (hregion : 2 ≤ b.region) (hb : b ≠ .entropy) : (isolate b code s).isIsolated b = true := by
  cases hfree : s.isIsolated b with
  | true => rwa [isolate, if_pos (.inr (.inr hfree))]
  | false =>
    rw [State.isIsolated, isolate_iso hregion hb hfree, List.any_cons]
    simp

theorem isolate_forGood (hregion : 2 ≤ b.region) (hb : b ≠ .entropy) (hfree : s.isIsolated b = false) (hlately : s.resetLately b = true) :
    (isolate b code s).hh.iso.any (fun i => i.block == b && i.isolated && i.forGood) = true := by
  rw [isolate_iso hregion hb hfree, List.any_cons, hlately]
  simp

/-! ### Restarts (R433, R440 to R442) -/

theorem requestRestart_free (hrestart : s.hh.restart = none) (hgroup : s.hh.haltGroup = none) (hhalt : s.hh.haltAt ≠ some s.now) :
    (s.recentRestarts.length < 3 → (requestRestart code s).hh.restart = some (code, s.now)) ∧
    (3 ≤ s.recentRestarts.length → s.hh.deferred = none →
      (requestRestart code s).hh.restart = none ∧ (requestRestart code s).hh.deferred = some code) := by
  rw [requestRestart, if_neg (by simp [hrestart, hgroup, hhalt])]
  refine ⟨fun hfew => ?_, fun hmany hfirst => ?_⟩
  · rw [if_neg (Nat.not_le.mpr hfew)]
  · rw [if_pos hmany]
    exact ⟨hrestart, by simp [hfirst]⟩

theorem enterHalt_restart (h : s.hh.restart = some (code, s.now)) : (enterHalt s).hh.restart = none ∧ (enterHalt s).hh.haltAt = some s.now := by
  refine ⟨?_, rfl⟩
  have hfiltered : (enterHalt s).hh.restart = s.hh.restart.filter (fun r => r.2 != s.now) := rfl
  rw [hfiltered, h]
  simp

theorem exec_deferredRestart (hdeferred : s.hh.deferred = some code) :
    (s.recentRestarts.length < 3 → exec .deferredRestart s = .next (requestRestart code { s with hh := { s.hh with deferred := none } })) ∧
    (3 ≤ s.recentRestarts.length → exec .deferredRestart s = .next s) := by
  have hrun : exec .deferredRestart s = execDeferredRestart s := rfl
  rw [hrun, execDeferredRestart, hdeferred]
  exact ⟨fun hfew => if_neg (Nat.not_le.mpr hfew), fun hmany => if_pos hmany⟩

theorem exec_sessionWatchdog {i : QItem} {rest : List QItem} (hruns : s.runs = true)
    (hhead : popBest (s.queue .session).items = some (i, rest)) (hcls : i.cls = .p0) :
    (s.after i.at_ 20000 = true → exec .sessionWatchdog s = .next (raise 0x1401 0 s)) ∧
    (s.after i.at_ 20000 = false → exec .sessionWatchdog s = .next s) := by
  have hrun : exec .sessionWatchdog s = execSessionWatchdog s := rfl
  rw [hrun, execSessionWatchdog, hhead]
  exact ⟨fun hdue => if_pos ⟨hruns, hcls, hdue⟩, fun hearly => if_neg fun h => Bool.false_ne_true (hearly.symm.trans h.2.2)⟩

/-! ### Reports (R443) -/

theorem exec_faultReportWindowEnd {r : FltRep} (hrep : s.repOf code = some r) :
    (r.since ≠ 0 → s.after r.recAt 60000000 = true → exec (.faultReportWindowEnd code) s =
      .next (noteDrop (faultRecord (faultAction code) code r.since r.detail { s with
        hh := { s.hh with reports := { r with recAt := s.now, since := 0 } :: s.hh.reports.filter (fun x => x.code != code) } }))) ∧
    (r.since = 0 ∨ s.after r.recAt 60000000 = false → exec (.faultReportWindowEnd code) s = .next s) := by
  have hrun : exec (.faultReportWindowEnd code) s = execFaultReportWindowEnd code s := rfl
  rw [hrun, execFaultReportWindowEnd, hrep]
  exact ⟨fun hraised hdue => if_neg (not_or.mpr ⟨hraised, by simp [hdue]⟩), fun hnot => if_pos hnot⟩

theorem reportsAfter_mem {d : Nat} : (s.repOf code = none → ⟨code, s.now, 0, d⟩ ∈ s.reportsAfter code d) ∧
    (∀ r, s.repOf code = some r → s.after r.recAt 60000000 = false → { r with since := r.since + 1, detail := d } ∈ s.reportsAfter code d) := by
  refine ⟨fun hnone => ?_, fun r hsome hearly => ?_⟩
  · have hdue : s.recordDue code = true := by rw [State.recordDue, hnone]
    rw [State.reportsAfter, if_pos hdue]
    exact List.mem_cons_self
  · have hwait : s.recordDue code = false := by
      rw [State.recordDue, hsome]
      simp [hearly]
    have hcode : r.code = code := by simpa using List.find?_some hsome
    rw [State.reportsAfter, if_neg (ne_true_of_eq_false hwait), List.mem_map]
    exact ⟨r, List.mem_of_find?_eq_some hsome, if_pos hcode⟩

end Blocks

/-- Settles O57: a block from its isolation to its return, then restarts, watchdog and reports, each by its own guard. -/
theorem blocksAndReports : Obligations.BlocksAndReports := by
  unfold Obligations.BlocksAndReports
  exact ⟨fun b i s => exec_blockReset, fun b i at_ s => exec_blockResetDone, fun b s => exec_blockReset_unknown,
    fun b code s => isolate_isIsolated, fun b code s hregion => if_pos (.inl hregion),
    fun b code s hregion hb _ _ hfree hlately => isolate_forGood hregion hb hfree hlately, fun code s => requestRestart_free,
    fun code s => ⟨fun hhalt => if_pos (.inr (.inr hhalt)), enterHalt_restart⟩, fun code s => exec_deferredRestart,
    fun i rest s => exec_sessionWatchdog, fun code r s => exec_faultReportWindowEnd, fun code d s => reportsAfter_mem,
    rfl, rfl, rfl, rfl, rfl, rfl, rfl, rfl, rfl, rfl, rfl⟩

end Sys2Proof.Machine
end
